-- ==== Sys2Proof/Word.lean ====
section
/-! DEFINITION. Word.lean: the register word, the byte, and the sparse store that memories, register
files and tables of the model are kept in. -/
namespace Sys2Proof

/-- A register word: every register of the module is 32 bits wide (Register Behaviour and Global Map). -/
abbrev Word := BitVec 32

/-- A byte of a buffer, a frame, a packet payload or a memory cell. -/
abbrev Byte := BitVec 8

/-- A sparse store: key and value pairs in one canonical form, keys strictly rising, and no pair equal
to what an unlisted key reads as (the store's default, given by the operation that uses it). -/
abbrev Store (α : Type) := List (Nat × α)

end Sys2Proof
end

