-- ==== Sys2Proof/Syntax/Types.lean ====
section
/-! DEFINITION. Syntax/Types.lean: the names and records that the commands carry and the state holds:
roles, station states, modes, outcomes, requesters, and the operand records of the commands. -/
namespace Sys2Proof

/-! ## Islands, roles and states -/

/-- The seventeen clock islands of Table ARC-1. -/
inductive Island where
  | executive | hazel | walnutA | walnutB | fieldDigital | fieldAnalogue | gourd | gmu | memory
  | network | can | peapod | commands | seedbank | panel | trust | supervisor
deriving DecidableEq, Repr

/-- Pair roles (Table PPD-1), in the order of PPD_STAT.ROLE. -/
inductive Role where
  | alone | active | standby | syncing | preparing | orphan | offline
deriving DecidableEq, Repr

/-- Station states (R33), in the order of EXE_STATE.STATION. -/
inductive Station where
  | init | stop | run | fault
deriving DecidableEq, Repr

/-- Restart kinds (EXE_STATE.RESTART, Table EXE-3). -/
inductive Restart where
  | none | cold | warm | swap
deriving DecidableEq, Repr

/-- STOP causes (EXE_STATE.STOP_CAUSE). -/
inductive StopCause where
  | none | command | taskFault | retain | image | autostartNone
deriving DecidableEq, Repr

/-- Task states (EXE_TASK_CFG.TSTATE). -/
inductive TState where
  | idle | running | fault | withheld
deriving DecidableEq, Repr

/-- Front-end states, as the upstream STATE field (Table FCD-2). -/
inductive FeState where
  | unarmed | armed | localSafe | failed
deriving DecidableEq, Repr

/-- Group field supply states (Table FCD-3), in the order of FGRP_STAT.STATE. -/
inductive Supply where
  | ok | low | missing | high
deriving DecidableEq, Repr

/-- FCH_STAT.BUDGET: the last Gourd outcome of a channel. -/
inductive Budget where
  | granted | delayed | refused
deriving DecidableEq, Repr

/-- Gourd request classes (Table PWB-1). -/
inductive GrantClass where
  | c0 | c1 | c2 | c3
deriving DecidableEq, Repr

/-- Gourd reason codes (Table PWB-6), in order. -/
inductive Reason where
  | none | groupCont | groupPeak | groupTime | stagger | logicCap | c2Age | queueFull | tooLarge
  | pfw | withdrawn | supplyMissing
deriving DecidableEq, Repr

/-- Outcomes of a request (R167). -/
inductive GrantOutcome where
  | granted | delayed | refused
deriving DecidableEq, Repr

/-- What a logic request of Gourd is for (Table PWB-1, Table PWB-7). -/
inductive Purpose where
  | safeDrive (output : Nat) | testPulse (output : Nat) | retainWrite | seedbankFlush | captureWrite (set : Nat) | mramRemap (sequence : Bool) | panelRecord
  | optionWrite | timeSave | forceTable | sproutRecord | faultRecord | networkBurst | canBurst (port : Nat) | panelUpdate (tag : Nat)
  | panelRedraw
  | chargePump | scrubAccel (region : Nat) | injection (gen : Nat) | spareSelftest (fe : Nat) | other
deriving DecidableEq, Repr

/-- Status codes (Table CMD-2). -/
inductive Code where
  | ok | acceptedPending | badOpcode | badLength | badParam | badCrc | locked | notInStop | wrongRole
  | husked | queueFull | budgetDelayed | budgetRefused | busy | authFailed | signatureInvalid
  | rollback | partnerLost
deriving DecidableEq, Repr

/-- Object classes of the change report (Table EXE-4). -/
inductive ObjClass where
  | variable | retain | timer | counter | edge | forceChannel | forceVariable
deriving DecidableEq, Repr

/-- Outcomes of the change report (Table EXE-4). -/
inductive ChangeOutcome where
  | matched | new | removed | forceKept | forceDropped | forceCleared | modeChanged
deriving DecidableEq, Repr

/-- FORCE_CHOICE (R323): none, KEEP_FORCES, CLEAR_FORCES. -/
inductive ForceChoice where
  | none | keep | clear
deriving DecidableEq, Repr

/-- A force's target: a channel input, a channel output, or a variable by identity (R54). -/
inductive ForceKey where
  | input (ch : Nat) | output (ch : Nat) | variable (identity : Nat)
deriving DecidableEq, Repr

/-- Who makes a register access (R341, SUP_FAULT_SRC): privileged station code, or a command of a session. -/
inductive Requester where
  | stationCode
  | command (queue session : Nat)
deriving DecidableEq, Repr

/-- The islands that apply staged values at a boundary of their own (Table REG-4). -/
inductive StagedIsland where
  | field | gourd | hazel | gmu | can (port : Fin 4) | panel | time
deriving DecidableEq, Repr

/-- Where a command packet came from: its queue, its session (0–15 network slots, 16 the service port)
and its tag (Table CMD-1). -/
structure Ctx where
  queue : Fin 32
  session : Fin 17
  tag : BitVec 16
deriving DecidableEq, Repr

/-! ## Operands of the ownership and executive commands -/

/-- What the field and the coupler give one front-end in one coupler frame (R110, R111), before the corrections of R164: the terminal
voltage at the comparator in 10 mV, the switch current in mA, the readback-path current in counts (its 1 ms average for an AI), the
1 ms averages of FCH_ADIAG in 10 mV (R166), the conditions of FLAGS that its circuits find ([0] current limit, [2] voltage limit,
[4] readback disagreeing, [5] self-test failure), and the bit errors of the upstream and downstream frames. -/
structure FeMeasure where
  sel : Fin 216
  volt : Int
  load : BitVec 16
  path : Int
  termV : Int
  headroom : Int
  limitFlags : BitVec 8
  upError : BitVec 64
  downError : BitVec 64
deriving DecidableEq, Repr

/-- A sample of one front-end's comparator: the terminal voltage, past the 2 µs filter of the pulse modes, reaches `volt` in 10 mV
(R132). -/
structure EdgeSample where
  sel : Fin 216
  volt : Int
deriving DecidableEq, Repr

/-- A TIME or LTIME value: a signed 64-bit count of ns (R44). -/
abbrev LTime := BitVec 64

/-- The integer types a counter instance can have (R46). -/
inductive IntType where
  | int | dint | lint | uint | udint | ulint
deriving DecidableEq, Repr

/-- A call of a standard function block inside a task instance, with its inputs (R43 to R46). A counter's call names its type. -/
inductive FbCall where
  | ton (identity : Nat) (inp : Bool) (pt : LTime)
  | tof (identity : Nat) (inp : Bool) (pt : LTime)
  | tp (identity : Nat) (inp : Bool) (pt : LTime)
  | ctu (identity : Nat) (type : IntType) (cu reset : Bool) (pv : Int)
  | ctd (identity : Nat) (type : IntType) (cd load : Bool) (pv : Int)
  | ctud (identity : Nat) (type : IntType) (cu cd reset load : Bool) (pv : Int)
  | rTrig (identity : Nat) (clk : Bool)
  | fTrig (identity : Nat) (clk : Bool)
deriving DecidableEq, Repr

/-- A task's write to the loop exchange area (bytes 0 to 15 of Table HZL-6). -/
structure LoopWrite where
  loop : Nat
  sp : Int
  ff : Int
  track : Int
  mvMan : Int
  modeReq : Nat
  ctrl : Nat
  seq : Nat
deriving DecidableEq, Repr

/-- What a task instance leaves at its end (R42, R47, R81, R204, R374): the program's own results, which the
core pair's code computes and the manual leaves outside. -/
structure TaskResult where
  task : Fin 16
  outputs : List (Nat × Word)
  vars : List (Nat × List Byte)
  calls : List FbCall
  loops : List LoopWrite
  gmuInput : Option (List (Nat × Word))
  canPayloads : List (Nat × Nat × List Byte)
  /-- The payload sources of time-triggered frames that it wrote: their offset in state memory, and their bytes (R366). -/
  sources : List (Nat × List Byte) := []
  panel : List (Nat × List Byte)
  execUs : Nat
  /-- Dirty lines of state memory it wrote (R271). -/
  dirtyLines : Nat
deriving DecidableEq, Repr


/-! ## Hazel's loop descriptors (Tables HZL-13, HZL-14) -/

/-- A block slot of a loop descriptor (Table HZL-14). -/
structure BlockSlot where
  type : Nat := 0
  out : Nat := 0
  inA : Nat := 0
  inB : Nat := 255
  inC : Nat := 255
  flags : Nat := 0
  param : Nat := 1
deriving DecidableEq, Repr

/-- A loop descriptor (Table HZL-13), with its number, its block slots and its 88 parameter words. -/
structure LoopDesc where
  loop : Nat := 0
  loopId : Nat := 0
  k : Nat := 0
  pod : Nat := 1
  phase : Nat := 0
  rank : Nat := 0
  nblk : Nat := 1
  flags : Nat := 0
  outSig : Nat := 8
  out : Nat := 0xFFFF
  pidBlk : Nat := 255
  rampBlk : Nat := 255
  inBind : List Nat := []
  pubSig : Nat := 0
  initMode : Nat := 0
  blocks : List BlockSlot := []
  params : List Word := []
deriving DecidableEq, Repr


/-! ## Grid measurement -/

/-- One voltage set as a report measures it (R184, R186): frequency in µHz, positive-sequence or single-phase magnitude in
mV primary, and angle in 10^-6 degree. -/
structure SetMeasure where
  freq : Nat := 0
  mag : Nat := 0
  angle : Int := 0
deriving DecidableEq, Repr

/-- A phasor (R186): RMS magnitude, and angle in 10^-6 degree. -/
structure Phasor where
  mag : Nat := 0
  angle : Int := 0
deriving DecidableEq, Repr

/-- The sequence phasors of a three-phase set (R186). -/
structure Sequences where
  positive : Phasor := {}
  negative : Phasor := {}
  zero : Phasor := {}
deriving DecidableEq, Repr

/-- What the samples of one 1 ms report come to (R184 to R186; log 115): the window centre, the frequencies of VS0, VS1, V6 and V7 in µHz,
the phasors of GV0–GI7 as they stand at the terminals, in µV, and the inputs that saw a sample at or above 10 V (R183). -/
structure GmuMeasure where
  centre : Nat
  freqs : List Nat
  phasors : List Phasor
  overrange : BitVec 16
deriving DecidableEq, Repr

/-- The windows of power-quality aggregation (Table GMU-4). -/
inductive PqWindow where
  | cycles10 | cycles150 | minutes10 | frequency10s
deriving DecidableEq, Repr

/-- What the samples of one 10/12-cycle window come to at the terminals (R187, R188; log 115), and the window that ends: RMS of GV0–GI7 in
µV; for each current input the mean of its samples times those of the voltage that the power point pairs it with (U12 with I1 and U32 with
I3 in the three-wire connection), in 10^-12 V²; the apparent power in VA of PP0 and PP1 for the three-wire connection; and for each input
the RMS of its harmonic subgroups 1 to 50, in µV. -/
structure PqValues where
  window : PqWindow
  rms : List Nat
  power : List Int
  apparent : List Nat
  harmonics : List (List Nat)
deriving DecidableEq, Repr

/-- The GMU section of an image: the bytes of the indirect tables by address (Table GMU-11), the staged settings, and the input
area: its initial bytes (STATE_INIT), its address in state memory and the one task that writes it (R204). -/
structure GmuTables where
  bytes : List (Nat × List Byte)
  cfg : Word
  rocof : Word
  scales : List (Nat × Word)
  delays : List (Nat × Word)
  input : List Byte
  inputBase : Nat := 0
  inputTask : Nat := 0
deriving DecidableEq, Repr


/-! ## CAN ports -/

/-- A CAN frame (R371, Table CAN-4). -/
structure CanFrame where
  id : Nat := 0
  ext : Bool := false
  rtr : Bool := false
  fdf : Bool := false
  brs : Bool := false
  esi : Bool := false
  dlc : Nat := 0
  data : List Byte := []
deriving DecidableEq, Repr

/-- The errors a port sees (CAN_ERR.LEC), and a recessive res bit (R371). -/
inductive CanError where
  | stuff | form | ack | bit1 | bit0 | crc | resRecessive
deriving DecidableEq, Repr

/-- An error seen on the bus: its kind, how many times the port then saw dominant bits that ISO 11898-1 counts as 8 more, and whether it is one
of the stuff errors during arbitration for which a transmitter counts nothing (R380). -/
structure BusError where
  kind : CanError
  dominant : Nat := 0
  uncounted : Bool := false
deriving DecidableEq, Repr

/-- How a transmitted frame ends (R377). Where it meets no acknowledge: whether the port sees a dominant bit in its error flag (R382). -/
inductive CanEnd where
  | sent | noAck (dominant : Bool) | error (e : BusError) | lostArb
deriving DecidableEq, Repr

/-- A transmit object descriptor (Table CAN-2). -/
structure TxObject where
  object : Nat := 0
  enabled : Bool := false
  id : Nat := 0
  ext : Bool := false
  dlc : Nat := 0
  fdf : Bool := false
  brs : Bool := false
  oneShot : Bool := false
  cyclic : Bool := false
  runOnly : Bool := false
  writer : Nat := 0
  period : Nat := 0
  srcOfs : Nat := 0
deriving DecidableEq, Repr

/-- One port of an image's CAN section: staged settings, filters as bytes, and transmit objects. -/
structure CanPortImage where
  port : Nat
  nbt : Word
  dbt : Word
  tdc : Word
  cfg : Word
  timeCfg : Word
  filters : List Byte
  objects : List TxObject
  /-- Base in state memory of the area of the port's receive objects, 96 bytes each in ascending number (R379; log 122). -/
  rxBase : Nat := 0
deriving DecidableEq, Repr

/-! ## Peapod -/

/-- Link phases, in the order of PPD_STAT.LINK (R281). -/
inductive LinkPhase where
  | down | detect | speed | eq | align | ident | ready | identFail
deriving DecidableEq, Repr

/-- What training finds on one physical lane (R260): the partner detected, block lock at 12.5 and at 6.25 Gb/s, the chosen presets,
the eye in mV and in 1/128 UI, and deskew reached. -/
structure LaneMeasure where
  lane : Fin 5
  detected : Bool
  lock12 : Bool
  lock6 : Bool
  txPreset : BitVec 4
  rxPreset : BitVec 4
  eyeH : Nat
  eyeW : Nat
  aligned : Bool
deriving DecidableEq, Repr

/-- What an IDENT exchange tells of the partner (R256, R261): its certificate and signature verify, its carrier serial, side, station
ID, image hash and versions, its role, and whether it reached IDENT together with this module. -/
structure IdentData where
  certOk : Bool
  carrier : Nat
  sideB : Bool
  stationId : Nat
  imageValid : Bool
  imageHash : Nat
  security : Nat
  release : Nat
  buildTime : Nat
  /-- The partner's challenge of 48 bytes, which this module's signature answers (R261, Table TRU-1). -/
  challenge : List Byte := []
deriving DecidableEq, Repr

/-- A HEARTBEAT control block (Table PPD-3). -/
structure HeartbeatBlock where
  role : Role
  station : BitVec 2
  walnut : BitVec 3
  ownDriven : Bool
  ownSeen : Bool
  partnerSeen : Bool
  faultPending : Bool
  prepared : Bool
  count : BitVec 8
  nsec : BitVec 32
deriving DecidableEq, Repr

/-- A standard function block instance: timer, counter or edge detector (R43 to R46). -/
structure Fb where
  /-- Called at least once since the restart. -/
  seen : Bool := false
  running : Bool := false
  /-- A retained timer waits for its first scan, which rebases its start (Table EXE-3). -/
  rebase : Bool := false
  start : LTime := 0
  elapsed : LTime := 0
  q : Bool := false
  qd : Bool := false
  cv : Int := 0
  prev : Bool := false
  prevDown : Bool := false
deriving DecidableEq, Repr

/-- A channel's claims as they stood at a commit (R179): standing mA, and the transient and short excesses that were active. -/
structure ClaimCopy where
  channel : Nat
  standing : Nat
  excess : Nat := 0
  short : Nat := 0
deriving DecidableEq, Repr

/-- The synchroscope's state as a commit carries it (R208). -/
structure SyncCopy where
  state : Nat
  reason : Nat := 0
  frame : Nat := 0
  held : Bool := false
  lockout : Bool := false
  closeCh : Nat := 0
  since : Nat := 0
deriving DecidableEq, Repr

/-- The GMU's state as a commit carries it (R208): the shed set, the state and firings of every trigger, and the synchroscope. -/
structure GmuCopy where
  shed : Nat
  trigs : List (Nat × Nat × Nat)
  sync : SyncCopy
deriving DecidableEq, Repr

/-- What the bytes of a LINE or an island record stand for (R271, Table PPD-7, Table ARC-2). The manual does not give their layout, so
the command carries what they spell (log 30). -/
structure CopyContent where
  /-- Output words of the writer's committed output image. -/
  outputs : List (Nat × Word) := []
  vars : List (Nat × List Byte) := []
  fbs : List (Nat × Fb) := []
  /-- The force table (R55), when the entry carries it. -/
  forces : Option (List (ForceKey × Nat)) := none
  station : Option Station := none
  /-- Committed channel values with their status (R143), and the owner's pulse counts (R135). -/
  values : List (Nat × Word × Nat) := []
  counts : List (Nat × Word) := []
  /-- Gourd's claims of every channel that holds one, when the entry carries them (R179). -/
  claims : Option (List ClaimCopy) := none
  /-- The GMU's shed set, triggers and synchroscope (R208), when the entry carries them. -/
  gmu : Option GmuCopy := none
  /-- Operator values of Hazel's loops (R83, R100): the loop, MODE, SP_TRACK_PV, SP and MV. -/
  operators : List (Nat × Nat × Bool × Int × Int) := []
  /-- Parameter words of loops' descriptors, as the owner applied them (R91, R105). -/
  params : List (Nat × List Word) := []
  canPayloads : List (Nat × Nat × List Byte) := []
  /-- Payload sources of time-triggered frames, with the time of the task end that left them (R366). -/
  sources : List (Nat × Nat × List Byte) := []
  gmuInput : List (Nat × Word) := []
  /-- Bytes of the areas of state memory that the image gives to islands, by address (R276). -/
  area : List (Nat × Byte) := []
deriving DecidableEq, Repr

/-- What a ROLE message asks of a STANDBY or PREPARING partner: to prepare the new image with this SHA-384, or to stop (R60, Table PPD-2;
log 31). -/
inductive SwapAsk where
  | none | prepare (choice : ForceChoice) (hash : Nat) | cancel
deriving DecidableEq, Repr

/-- A ROLE message: the sender's role, whether a region of its memory has no spare left (R263, R295), and a swap request. -/
structure RoleNote where
  role : Role
  noSpare : Bool := false
  swap : SwapAsk := .none
deriving DecidableEq, Repr

/-! ## Memory and Sprout -/

/-- Who reads a codeword (SOURCE of Table MEM-3). -/
inductive MemSource where
  | requester | background | idle | modify | copy
deriving DecidableEq, Repr

/-- What the cells return when a codeword is read (R282 to R285, R293): upsets as lane and XOR, lanes whose symbol stays wrong when
written back, and another codeword index when the read came from a wrong address. -/
structure MemUpset where
  flips : List (Fin 22 × Byte) := []
  stuck : List (Fin 22) := []
  wrong : Option Nat := none
deriving DecidableEq, Repr

/-- The areas of MRAM and the copies that an MRAM write belongs to (Table MEM-6); `sequence` is a write of the power-fail sequence (R177). -/
inductive MramUse where
  | capture (set : Fin 4) | sequence | plain
deriving DecidableEq, Repr

/-- A core pair with a spare (R301). -/
inductive CorePair where
  | x | y
deriving DecidableEq, Repr

/-! ## Reset and bring-up -/

/-- What bring-up samples (R448 to R450): the straps, the carrier coding (none when its EEPROM fails the check) with the carrier's
serial number, the key self-test (R426), whether the retained SRAM of the Seedbank ring verifies (R400), and the self-tests of the two Walnut halves. -/
structure BootInputs where
  bootSrc : BitVec 2
  clkMode : BitVec 2
  sideB : Bool
  station : Option (BitVec 11)
  carrier : Nat
  keyOk : Bool
  ringOk : Bool
  halfAOk : Bool
  halfBOk : Bool
deriving DecidableEq, Repr

/-- The islands that can be reset alone (R444). -/
inductive LoneIsland where
  | can | panel
deriving DecidableEq, Repr

/-- One 50 µs supply measurement (R454), in 0.05 V: SUP_A, SUP_B and the rail after the diodes. -/
structure SupplySample where
  a : BitVec 10
  b : BitVec 10
  rail : BitVec 10
deriving DecidableEq, Repr

/-! ## Walnut -/

/-- What a safety cycle finds (R230, R231): readbacks of SQ0–SQ7, and the functions and outputs whose results the two halves
disagree on in the cross-check. -/
structure CycleInputs where
  readback : BitVec 8
  funcDiff : BitVec 8
  outDiff : BitVec 8
deriving DecidableEq, Repr

/-- Faults of a safe output found on its terminal (R225). -/
inductive SafeFault where
  | short | mismatchHigh | mismatchLow
deriving DecidableEq, Repr

/-! ## Plant network and time -/

/-- What autonegotiation reports of a port (R346): linked, speed (1 10 Mb/s, 2 100 Mb/s, 3 1000 Mb/s) and duplex. -/
structure LinkReport where
  up : Bool
  speed : BitVec 2
  fullDuplex : Bool
deriving DecidableEq, Repr

/-- What a received Ethernet frame is for (R348). -/
inductive FrameKind where
  | ptp | prpSupervision | beacon | arp | icmpEcho | session | other
deriving DecidableEq, Repr

/-- A received Ethernet frame: its kind, whether its destination is a group address, its source address, and the sequence number
of its redundancy trailer when it has one (R348, R349), and its bytes without preamble and FCS. -/
structure EthFrame where
  kind : FrameKind
  group : Bool
  source : BitVec 48
  sequence : Option (BitVec 16)
  octets : Nat := 60
deriving DecidableEq, Repr

/-- A station beacon (Table NET-2), with what its certificate and signature come to (R352). -/
structure Beacon where
  stationId : BitVec 11
  moduleByte : Byte
  timeByte : Byte
  serial : Nat
  carrier : Nat
  address : BitVec 32
  sentSec : Nat
  sentNsec : Nat
  fingerprint : Nat
  hasCert : Bool
  certOk : Bool
  signatureOk : Bool
deriving DecidableEq, Repr

/-- An Announce message's data set (R354). -/
structure Announce where
  source : Nat
  grandmaster : Nat
  priority1 : Nat
  clockClass : Nat
  accuracy : Nat
  variance : Nat
  priority2 : Nat
  steps : Nat
deriving DecidableEq, Repr

/-- A PTP message (R354); times and corrections in 1/16 ns. -/
inductive PtpBody where
  | announce (a : Announce)
  | sync (source sequence : Nat) (twoStep : Bool) (origin correction : Int)
  | followUp (source sequence : Nat) (origin correction : Int)
  | delayReq (source : Nat) (correction : Int)
  | delayResp (source : Nat) (received correction : Int)
  | pdelayReq (source : Nat) (correction : Int)
  | pdelayResp (source : Nat) (twoStep : Bool) (turnaround correction : Int)
  | pdelayFollowUp (source : Nat) (turnaround correction : Int)
  | unsupported
deriving DecidableEq, Repr

/-- A received PTP message with its domain and its receive timestamp in 1/16 ns. -/
structure PtpMessage where
  domain : Nat
  body : PtpBody
  received : Int
deriving DecidableEq, Repr

/-- What a port sends at an interval of its own (R354). -/
inductive PtpSend where
  | sync | announce | delayReq
deriving DecidableEq, Repr

/-- A schedule entry of a port: its 32 bytes (Table NET-7). -/
structure TtEntry where
  port : Nat
  index : Nat
  bytes : List Byte
deriving DecidableEq, Repr

/-- The NET section of an image (R347, R366): the pair's addresses, the schedules, and the section's bytes, which hold the templates. -/
structure NetImage where
  domainPrefix : Nat
  cellAddress : List Nat
  cellPrefix : List Nat
  schedule : List TtEntry
  sectionBytes : List Byte
deriving DecidableEq, Repr

/-- Servo states (Table NET-5), in the order of their codes. -/
inductive ServoState where
  | freeRun | acquiring | locked | holdover | degraded
deriving DecidableEq, Repr

/-! ## Front status panel -/

/-- A screen of the image's PANEL section (R422): its rectangle, kind and pixel bytes. -/
structure ScreenDef where
  x : Nat
  y : Nat
  w : Nat
  h : Nat
  fast : Bool
  pixels : List Byte
deriving DecidableEq, Repr

/-! ## Trust -/

/-- A certificate: its DER bytes, and what they spell (R425, R428): X.509 v3, a P-384 key, how many role OUs the subject holds, the role
mask of the tokens (none if a token is unknown or repeated), notAfter in seconds of module time, and the offset in the DER of the
first field that fails R428. -/
structure Certificate where
  der : List Byte
  v3 : Bool
  p384 : Bool
  roleOus : Nat
  roles : Option (BitVec 5)
  notAfter : Nat
  failOffset : Nat
deriving DecidableEq, Repr

/-- The copy budget declarations of an image (R273, R274): L, and D_t of each task. -/
structure CopyDecl where
  lines : Nat
  taskLines : List Nat
deriving DecidableEq, Repr

/-! ## Events -/

/-- The events the manual names, each in the range of the island that posts it (R395, R480). -/
inductive Event where
  | moduleFault | devUnlocked | lockKeyError | lockViolation | keepChanged | supaLost | supbLost
  | dipRidden | pfw | supplyHigh | islandReset | oscSprouted | cellSprouted | holdupReduced
  | spareExhausted | coreSelftestFail | storm | taskOverrun | taskFault | stopAbandoned | retainInvalid | podFail
  | loopBadInput | injectDone | injectAbort | aiLoopShort | aiOvercurrent | aiFailLow | aiFailLowEnd
  | aiFailHigh | aiFailHighEnd | aoAlarmUnreachable | aoCompliance | aoComplianceEnd | aoOpenLoad | calUserInvalid
  | doFailed | doLatchoff | doOpenLoad | feRearmed | mismatchHigh | mismatchLow | chSprouted
  | fsupOk | fsupLow | fsupMissing | fsupHigh | fsupReturn | grdGroupOverpeak | gmuTimeRestart
  | gridDip | gridSwell | gridInterrupt | shedExec | shedShortfall | staleInput | syncAbort
  | syncClose | resetJammed | safeResetRefused | safePairLost | safeParamAdopted | safeParamConfirmed | safeParamExpired
  | pairRoleChange | pairTakeover | pairOrphan | pairSynced | pairTimeDiverged | ownerLineFault | swapByFailover
  | laneNoSpare | ppdLaneRetired | ppdLaneSprouted | memLaneRetired | memLaneSprouted | noSpare | scrubLapAlarm
  | mramRemap | mramSparesLow | mramWriteFailed | netLinkRefused | ttLate | prpLanFail | prpLanOk
  | stationIdConflict | timeJumpRefused | timeStepped | ptpMasterChange | canBusOff | canErrorPassive | canErrorWarning
  | canNoPartner | canRecovered | canRefConflict | canRxOverrun | canTimeLost | canTimeMaster | sbkStart
  | sbkRingOverrun | sbkRateSummary | sbkLogWriteFailed | sbkSnapshotExpired | panelCracked | trustKeyFault | trustTimeUnchecked
  | imageSigInvalid | certInstalled | certRemoved | arbAdvanced
deriving DecidableEq, Repr

/-! ## Faults and requests -/

/-- Kinds of module fault (Table ARC-5, R104, R265, R285, R303, R443). -/
inductive FaultKind where
  | lockstepX | lockstepY | memory | mram | references | ownLine | watchdog | pod
deriving DecidableEq, Repr

/-- A request that reaches Gourd (R167): a channel's C1 request with the mA asked for, or an island's logic request with its class, mW
and duration in µs. -/
inductive GourdAsk where
  | channel (c : Fin 192) (amount : Nat)
  | island (cls : GrantClass) (w : Island) (amount : Nat) (dur : Option Nat) (p : Purpose)
deriving DecidableEq, Repr

/-- The range conditions of NE 43 (R150): FAIL_LOW and FAIL_HIGH set or clear. -/
inductive Ne43 where
  | lowSet | lowClear | highSet | highClear
deriving DecidableEq, Repr

/-- The CSR subject fields (R427), each as its UTF-8 bytes. -/
abbrev SubjectFields := List (List Byte)

/-- A register access through an IDX_DATA register (R338). -/
inductive IdxAccess where
  | read | write (v : Word)
deriving DecidableEq, Repr

/-! ## The station image (R62 to R64) -/

/-- The 128-byte image header (Table EXE-6). -/
structure ImageHeader where
  mark : Nat
  hdrVersion : Nat
  hdrLength : Nat
  programId : Nat
  releaseVersion : Nat
  securityVersion : Nat
  target : Nat
  stationId : Nat
  flags : Nat
  buildTime : Nat
  baseCycle : Nat
  sectionCount : Nat
  sectionTable : Nat
  budget : Nat
  sigOffset : Nat
  sigLength : Nat
  imageLength : Nat
  stopGrace : Nat
  retainPeriod : Nat
  handoverDrain : Nat
  /-- The reserved fields at 54 and 88, as numbers. -/
  reserved54 : Nat
  reserved88 : Nat
deriving DecidableEq, Repr

/-- A TASKS entry with the task's IO_MAP (Table EXE-7): channels and exchange variables read and written, and the loops whose exchange
bytes it reads (R82). -/
structure TaskDecl where
  task : Nat
  stopTask : Bool
  period : Nat
  wcetUs : Nat
  inputBytes : Nat
  reads : List Nat
  writes : List Nat
  xreads : List Nat
  xwrites : List Nat
  loops : List Nat := []
deriving DecidableEq, Repr

/-- An IDENTITY entry: a variable or function block instance (R57). `callers` are the tasks that call the instance (R41). `place` is the
address in state memory of an exchange variable that another island writes: the GMU, Walnut or a CAN port (R191, R214, R379). -/
structure ObjDecl where
  identity : Nat
  cls : ObjClass
  retain : Bool
  exchange : Bool
  writers : List Nat
  callers : List Nat
  init : List Byte
  place : Option Nat := none
deriving DecidableEq, Repr

/-- A CHANNELS entry: the channel's mode, settings and declared load (R117, R169). -/
structure ChannelDecl where
  channel : Nat
  mode : Nat
  dicfg : Word
  docfg : Word
  stopcfg : Word
  pulsecfg : Word
  aicfg : Word
  aocfg : Word
  aosafe : Word
  chload : Word
  policy : Nat
deriving DecidableEq, Repr

/-- A station image as the load checks read it: the header, the sections' contents and the declarations (Table EXE-7, Table EXE-8).
The manual does not give the inner layout of every section, so the decoded contents come with the image (log 12). -/
structure Image where
  header : ImageHeader
  tasks : List TaskDecl
  objects : List ObjDecl
  channels : List ChannelDecl
  loops : List LoopDesc
  gmu : GmuTables
  can : List CanPortImage
  net : NetImage
  screens : List (Nat × ScreenDef)
  stateBytes : Nat
  retainBytes : Nat
  /-- Worst-case copy bytes and record counts of one base cycle (R274). -/
  copy : CopyDecl
  logicCap : Nat
  /-- Bases in state memory of the loop exchange area, of the GMU's report block and of Walnut's status block (R81, R191, R214), and
  the codewords of state memory that the sections give to writers, as codeword index and writer tag (R271). -/
  loopBase : Nat := 0
  reportBase : Nat := 0
  safetyBase : Nat := 0
  codewords : List (Nat × Nat) := []
  /-- The signature block (R433, R434): well formed, the DER of its certificate, which is the production CA's with the OU roles=IMAGE,
  and a signature that verifies. -/
  sigBlockOk : Bool
  signerDer : List Byte
  signerIsImage : Bool
  signatureOk : Bool
  hash : Nat
deriving DecidableEq, Repr

end Sys2Proof
end

