-- ==== Sys2Proof/Syntax.lean ====
section
/-! DEFINITION. Syntax.lean: the commands of the module, one constructor for each row of the opcode table. A command packet's row
carries the queue, session and tag it arrived with and its payload's fields; an event's row carries what the outside world gives it;
a register action's row carries its requester. -/
namespace Sys2Proof

/-- The commands (opcode_table.json). Each row's docstring names its mnemonic and its main rule. -/
inductive Instr where
  /-- OWN_LINE_STOPPED (R16). -/
  | ownLineStopped
  /-- PARTNER_LINE_QUIET (R16). -/
  | partnerLineQuiet
  /-- HUSK_HOLD (R13). -/
  | huskHold (w : Fin 16)
  /-- HUSK_RELEASE (R13). -/
  | huskRelease (w : Fin 16)
  /-- TIMESTAMP_BROADCAST (R15). -/
  | timestampBroadcast (time : Nat)
  /-- ACK (R18). -/
  | ack (seq : Nat)
  /-- ACK_LATE (R19). -/
  | ackLate
  /-- COUPLER_FRAME (R110). -/
  | couplerFrame (ms : List FeMeasure)
  /-- BASE_CYCLE_BOUNDARY (R26). -/
  | baseCycleBoundary
  /-- TASK_END (R42). -/
  | taskEnd (r : TaskResult)
  /-- MODULE_FAULT (R29). -/
  | moduleFault (kind : FaultKind) (addr : Nat)
  /-- RETAIN_STORE_WRITE (R47). -/
  | retainStoreWrite
  /-- STOP_ENTER (R51). -/
  | stopEnter
  /-- STOP_GRACE_EXPIRY (R51). -/
  | stopGraceExpiry
  /-- RESTART_BOUNDARY (R53). -/
  | restartBoundary
  /-- SWAP_READY (R60). -/
  | swapReady
  /-- HANDOVER_DRAINED (R61). -/
  | handoverDrained
  /-- HANDOVER_DRAIN_EXPIRY (R61). -/
  | handoverDrainExpiry
  /-- HANDOVER_BOUNDARY (R277). -/
  | handoverBoundary
  /-- IMAGE_CHECK_DONE (R63). -/
  | imageCheckDone (im : Image)
  /-- HAZEL_SLOT (R74). -/
  | hazelSlot
  /-- HAZEL_BATCH_CLOSE (R77). -/
  | hazelBatchClose (pod : Fin 6)
  /-- POD_FAIL (R103). -/
  | podFail (pod : Fin 6)
  /-- HZ_PCOMMIT (R91). -/
  | hzPcommit (r : Requester)
  /-- HZ_LOOP_MODE_WRITE (R83). -/
  | hzLoopModeWrite (v : Word) (r : Requester)
  /-- HZ_LOOP_SP_WRITE (R83). -/
  | hzLoopSpWrite (v : Word) (r : Requester)
  /-- HZ_LOOP_MV_WRITE (R83). -/
  | hzLoopMvWrite (v : Word) (r : Requester)
  /-- HZ_INJ_START (R96). -/
  | hzInjStart (gen : Fin 4) (r : Requester)
  /-- HZ_INJ_STOP (R96). -/
  | hzInjStop (gen : Fin 4) (r : Requester)
  /-- HZ_CAP_ARM (R97). -/
  | hzCapArm (set : Fin 4) (r : Requester)
  /-- HZ_CAP_TRIGGER (R97). -/
  | hzCapTrigger (set : Fin 4) (r : Requester)
  /-- HZ_CAP_DISARM (R97). -/
  | hzCapDisarm (set : Fin 4) (r : Requester)
  /-- FE_FRAME_TIMEOUT (R113). -/
  | feFrameTimeout (n : Fin 216)
  /-- FE_WINDOW_TIMEOUT (R114). -/
  | feWindowTimeout (n : Fin 216)
  /-- GROUP_SUPPLY_SAMPLE (R115). -/
  | groupSupplySample (g : Fin 12) (v : BitVec 10)
  /-- FSUP_RETURN (R116). -/
  | fsupReturn (g : Fin 12)
  /-- FE_RECONFIG_DONE (R118). -/
  | feReconfigDone (n : Fin 216)
  /-- DI_FILTER_CHANGE (R124). -/
  | diFilterChange (n : Fin 216) (on : Bool)
  /-- DO_OVERLOAD (R126). -/
  | doOverload (c : Fin 192)
  /-- DO_LATCHOFF (R126). -/
  | doLatchoff (c : Fin 192)
  /-- DO_RETRY (R126). -/
  | doRetry (c : Fin 192)
  /-- DO_MISMATCH (R127). -/
  | doMismatch (c : Fin 192) (high : Bool)
  /-- DO_OPEN_LOAD (R130). -/
  | doOpenLoad (c : Fin 192) (on : Bool)
  /-- FCH_CLEAR_FAULT (R129). -/
  | fchClearFault (r : Requester)
  /-- PULSE_EDGE (R133). -/
  | pulseEdge (n : EdgeSample)
  /-- FREQ_GATE_END (R134). -/
  | freqGateEnd (n : Fin 216) (edges span : Nat)
  /-- FE_FAILURE (R136). -/
  | feFailure (n : Fin 216)
  /-- SPROUT_START (R299). -/
  | sproutStart
  /-- SPROUT_COMPLETE (R137). -/
  | sproutComplete
  /-- SPARE_SELFTEST (R140). -/
  | spareSelftest (n : Fin 24) (pass : Bool)
  /-- AI_CONVERSION (R147). -/
  | aiConversion (n : Fin 216) (raw : Int)
  /-- BURDEN_OPEN (R148). -/
  | burdenOpen (c : Fin 192)
  /-- BURDEN_RETRY (R148). -/
  | burdenRetry (c : Fin 192)
  /-- BURDEN_RETRY_END (R148). -/
  | burdenRetryEnd (c : Fin 192)
  /-- READBACK_DISAGREE (R149). -/
  | readbackDisagree (n : Fin 216)
  /-- NE43_CONFIRM (R150). -/
  | ne43Confirm (n : Fin 216) (k : Ne43)
  /-- LOOP_SUPPLY_SHORT (R151). -/
  | loopSupplyShort (c : Fin 192)
  /-- LOOP_SUPPLY_RETRY (R151). -/
  | loopSupplyRetry (c : Fin 192)
  /-- LOOP_SUPPLY_RECOVER (R151). -/
  | loopSupplyRecover (c : Fin 192)
  /-- AO_COMPLIANCE (R154). -/
  | aoCompliance (c : Fin 192)
  /-- AO_COMPLIANCE_END (R154). -/
  | aoComplianceEnd (c : Fin 192)
  /-- AO_OPEN_LOAD (R155). -/
  | aoOpenLoad (c : Fin 192)
  /-- AO_BACKFEED (R156). -/
  | aoBackfeed (c : Fin 192) (forced : Bool)
  /-- FE_TEMP_MEASURE (R164). -/
  | feTempMeasure (n : Fin 216) (t : BitVec 16)
  /-- GOURD_REQUEST (R167). -/
  | gourdRequest (r : GourdAsk)
  /-- GOURD_DECISION (R168). -/
  | gourdDecision
  /-- GROUP_CURRENT_MEASURE (R172). -/
  | groupCurrentMeasure (g : Fin 12)
  /-- LOGIC_POWER_MEASURE (R175). -/
  | logicPowerMeasure (mw : BitVec 16)
  /-- C2_AGE_EXPIRY (R176). -/
  | c2AgeExpiry
  /-- GMU_REPORT (R191). -/
  | gmuReport (m : GmuMeasure)
  /-- PQ_AGGREGATE (R188). -/
  | pqAggregate (v : PqValues)
  /-- GRID_EVENT (R189). -/
  | gridEvent (set : Fin 4) (phases : List Nat)
  /-- SYNC_CLOSE (R196). -/
  | syncClose
  /-- SYNC_TIMEOUT (R197). -/
  | syncTimeout
  /-- TRIGGER_FIRE (R202). -/
  | triggerFire (t : Fin 32)
  /-- TRIGGER_RESET (R202). -/
  | triggerReset (t : Fin 32)
  /-- STALE_INPUT (R204). -/
  | staleInput
  /-- SHED_RELEASE_APPLY (R207). -/
  | shedReleaseApply
  /-- GMU_SYNC_ARM (R193). -/
  | gmuSyncArm (r : Requester)
  /-- GMU_SYNC_DISARM (R193). -/
  | gmuSyncDisarm (r : Requester)
  /-- GMU_TRIG_ARM (R202). -/
  | gmuTrigArm (t : Fin 32) (r : Requester)
  /-- GMU_TRIG_DISARM (R202). -/
  | gmuTrigDisarm (t : Fin 32) (r : Requester)
  /-- GMU_SHED_REL (R207). -/
  | gmuShedRel (high : Bool) (v : Word) (r : Requester)
  /-- SAFE_INPUT_CHANGE (R217). -/
  | safeInputChange (ch : Fin 16) (on : Bool)
  /-- SAFETY_CYCLE (R230). -/
  | safetyCycle (i : CycleInputs)
  /-- HALF_SELFTEST_DONE (R231). -/
  | halfSelftestDone (aOk bOk : Bool)
  /-- DISCREPANCY (R219). -/
  | discrepancy (p : Fin 8)
  /-- CROSS_CIRCUIT (R220). -/
  | crossCircuit (p : Fin 8)
  /-- TEST_SOURCE_DARK (R219). -/
  | testSourceDark (b : Bool) (reads : BitVec 16)
  /-- SPEED_PULSE (R221). -/
  | speedPulse (i : Fin 2) (halfB : Bool)
  /-- SPEED_DISC (R222). -/
  | speedDisc (i : Fin 2)
  /-- SAFE_OUTPUT_FAULT (R225). -/
  | safeOutputFault (q : Fin 8) (k : SafeFault)
  /-- QSUP_MISSING (R226). -/
  | qsupMissing (g : Fin 2)
  /-- QSUP_OK (R223). -/
  | qsupOk (g : Fin 2)
  /-- DARK_TEST (R227). -/
  | darkTest (q : Fin 8)
  /-- DARK_TEST_END (R227). -/
  | darkTestEnd (q : Fin 8) (readback : Bool)
  /-- LIGHT_TEST (R228). -/
  | lightTest (q : Fin 8)
  /-- LIGHT_TEST_END (R228). -/
  | lightTestEnd (q : Fin 8) (readback : Bool)
  /-- HALF_FAIL (R232). -/
  | halfFail (halfB : Bool)
  /-- HALF_DRIVE_TAKEOVER (R232). -/
  | halfDriveTakeover (opened : BitVec 8)
  /-- SS1_TMAX (R235). -/
  | ss1Tmax (f : Fin 8)
  /-- RESET_EDGE (R239). -/
  | resetEdge
  /-- RESET_JAMMED (R238). -/
  | resetJammed
  /-- DEGRADED_EXPIRY (R241). -/
  | degradedExpiry
  /-- SAFETY (R245). -/
  | safety (msg : List Byte) (set : Option (List Byte))
  /-- SAFE_PARAM_EXPIRY (R251). -/
  | safeParamExpiry
  /-- ROLE_DECISION (R256). -/
  | roleDecision (partnerAtIdent : Bool)
  /-- TRAIN_PHASE_DONE (R260). -/
  | trainPhaseDone (lanes : List LaneMeasure)
  /-- TRAIN_FAIL (R260). -/
  | trainFail
  /-- IDENT (R261). -/
  | ident (d : IdentData)
  /-- HEARTBEAT (R264). -/
  | heartbeat (h : HeartbeatBlock)
  /-- HEARTBEAT_SEND (R264). -/
  | heartbeatSend
  /-- HEARTBEAT_LOST (R264). -/
  | heartbeatLost
  /-- PARTNER_LINE_RELEASED (R265). -/
  | partnerLineReleased
  /-- OWN_LINE_FAULT (R265). -/
  | ownLineFault
  /-- OWNER_LINE_FAULT (R266). -/
  | ownerLineFault
  /-- LINE (R271). -/
  | line (tag : Byte) (mask region : BitVec 4) (index : BitVec 24) (data : List Byte) (content : CopyContent)
  /-- HREC (R271). -/
  | hrec (tag : Byte) (loop : BitVec 12) (commit : Bool) (seq : Nat) (data : List Byte)
  /-- IREC (R272). -/
  | irec (tag : Byte) (data : List Byte) (content : CopyContent)
  /-- COMMIT (R272). -/
  | commit (tag : Byte) (seq : Nat)
  /-- CHECK (R258). -/
  | check (lane : Fin 5) (number : Byte) (crcOk : Bool)
  /-- NAK (R258). -/
  | nak (lane : Fin 5) (number : Byte)
  /-- ALIGN (R258). -/
  | align (lane : Fin 5) (logical : BitVec 2) (skew : Nat)
  /-- FAULT_MESSAGE (R266). -/
  | faultMessage
  /-- HANDOVER_PREPARE (R277). -/
  | handoverPrepare (boundary : Nat)
  /-- HANDOVER_MESSAGE (R266). -/
  | handoverMessage
  /-- YIELD (R266). -/
  | yield
  /-- ROLE_MESSAGE (R263). -/
  | roleMessage (note : RoleNote)
  /-- TIME_MESSAGE (R364). -/
  | timeMessage (step : Int) (instant : Nat)
  /-- LANE_RETIRED (R262). -/
  | laneRetired (lane : Fin 5)
  /-- LANE_SPROUTED (R262). -/
  | laneSprouted (lane : Fin 5)
  /-- PPD_RETRAIN_RETIRED (R262). -/
  | ppdRetrainRetired (r : Requester)
  /-- ORPHAN_RETRAIN (R270). -/
  | orphanRetrain
  /-- CLAIM (R270). -/
  | claim (r : Requester)
  /-- GO_OFFLINE (R255). -/
  | goOffline (r : Requester)
  /-- PENDING_LOG_FULL (R273). -/
  | pendingLogFull
  /-- LINK_SPEED_RETRY (R275). -/
  | linkSpeedRetry
  /-- RESYNC_PHASE_DONE (R276). -/
  | resyncPhaseDone (marked : Nat) (image : Option Image)
  /-- PAIR_SYNCED (R276). -/
  | pairSynced
  /-- PAIR_TIME_OFFSET (R280). -/
  | pairTimeOffset (offset : Int)
  /-- MEMORY_READ (R284). -/
  | memoryRead (word : Fin 3670016) (u : MemUpset)
  /-- MEMORY_WRITE (R287). -/
  | memoryWrite (addr : Nat) (data : List Byte) (u : MemUpset)
  /-- SCRUB_STEP (R289). -/
  | scrubStep (region : Fin 4) (u : MemUpset)
  /-- IMAGE_SCRUB_LAP (R290). -/
  | imageScrubLap
  /-- SCRUB_LAP_ALARM (R290). -/
  | scrubLapAlarm
  /-- ACCEL_PASS_DONE (R291). -/
  | accelPassDone (region : Fin 4)
  /-- LANE_COPY_STEP (R294). -/
  | laneCopyStep (region : Fin 4) (u : MemUpset)
  /-- LANE_COPY_DONE (R294). -/
  | laneCopyDone (region : Fin 4)
  /-- HOUR_COUNT_TICK (R292). -/
  | hourCountTick
  /-- MRAM_WRITE (R296). -/
  | mramWrite (use : MramUse) (addr : Nat) (data : List Byte) (verifies : Bool)
  /-- MRAM_REMAP (R296). -/
  | mramRemap
  /-- CORE_SELFTEST (R301). -/
  | coreSelftest (pair : CorePair) (pass : Bool)
  /-- CORE_SWAP_DONE (R301). -/
  | coreSwapDone
  /-- CORE_SELF_RESET (R302). -/
  | coreSelfReset
  /-- OSC_COMPARE (R303). -/
  | oscCompare (diff : Int)
  /-- OSC_SPROUTED (R303). -/
  | oscSprouted (errA errB : Int)
  /-- CELL_TEST (R304). -/
  | cellTest (cell : Fin 6) (esr capacitance : Nat) (energy : Nat)
  /-- CELL_SPROUTED (R304). -/
  | cellSprouted
  /-- PACKET_ARRIVAL (R311). -/
  | packetArrival (session : Fin 17) (packet : List Byte)
  /-- COMMAND_DISPATCH (R319). -/
  | commandDispatch
  /-- SESSION_OPEN (R314). -/
  | sessionOpen (net : Fin 4) (der : List Byte)
  /-- SESSION_IDLE_TIMEOUT (R314). -/
  | sessionIdleTimeout (session : Fin 17)
  /-- SERVICE_BREAK (R315). -/
  | serviceBreak
  /-- SESSION_CLOSE (R316). -/
  | sessionClose (session : Fin 17)
  /-- AUTH_LOCKOUT_END (R315). -/
  | authLockoutEnd
  /-- NOTIFY_LOST (R318). -/
  | notifyLost (queue : Fin 32)
  /-- START (R53). -/
  | start (c : Ctx)
  /-- STOP (R51). -/
  | stop (c : Ctx)
  /-- WARM (R49). -/
  | warm (c : Ctx) (choice : ForceChoice)
  /-- COLD (R49). -/
  | cold (c : Ctx) (choice : ForceChoice)
  /-- HANDOVER (R277). -/
  | handover (c : Ctx) (swap : Bool)
  /-- STATE_READ (R322). -/
  | stateRead (c : Ctx)
  /-- LOAD_BEGIN (R324). -/
  | loadBegin (c : Ctx) (slot : BitVec 8) (len : BitVec 32)
  /-- LOAD_CHUNK (R322). -/
  | loadChunk (c : Ctx) (offset : BitVec 32) (data : List Byte)
  /-- LOAD_COMMIT (R324). -/
  | loadCommit (c : Ctx)
  /-- VERIFY (R322). -/
  | verify (c : Ctx) (slot : BitVec 8)
  /-- SWAP_PREPARE (R60). -/
  | swapPrepare (c : Ctx) (choice : ForceChoice)
  /-- SWAP_CANCEL (R255). -/
  | swapCancel (c : Ctx)
  /-- CHANGE_REPORT (R59). -/
  | changeReport (c : Ctx) (first : BitVec 32) (count : BitVec 16)
  /-- LOAD_ABORT (R322). -/
  | loadAbort (c : Ctx)
  /-- VAR_READ (R323). -/
  | varRead (c : Ctx) (items : List (BitVec 64 × BitVec 32 × BitVec 16))
  /-- VAR_WRITE (R321). -/
  | varWrite (c : Ctx) (identity : BitVec 64) (offset : BitVec 32) (data : List Byte)
  /-- FORCE_SET (R54). -/
  | forceSet (c : Ctx) (k : ForceKey) (v : BitVec 64)
  /-- FORCE_CLEAR (R54). -/
  | forceClear (c : Ctx) (k : ForceKey)
  /-- FORCE_CLEAR_ALL (R55). -/
  | forceClearAll (c : Ctx)
  /-- FORCE_LIST (R322). -/
  | forceList (c : Ctx) (first count : BitVec 16)
  /-- REG_READ (R328). -/
  | regRead (c : Ctx) (addr : BitVec 32) (count : BitVec 16) (same : Bool)
  /-- REG_WRITE (R328). -/
  | regWrite (c : Ctx) (addr : BitVec 32) (same : Bool) (words : List Word)
  /-- REG_MASKWRITE (R331). -/
  | regMaskwrite (c : Ctx) (addr mask value : Word)
  /-- SNAPSHOT (R336). -/
  | snapshot (c : Ctx) (window : BitVec 8)
  /-- CH_READ (R322). -/
  | chRead (c : Ctx) (first count : BitVec 8)
  /-- CH_CLEAR_FAULT (R129). -/
  | chClearFault (c : Ctx) (ch : BitVec 8)
  /-- CH_SPROUT (R299). -/
  | chSprout (c : Ctx) (ch spare : BitVec 8)
  /-- CH_FAILSIG (R157). -/
  | chFailsig (c : Ctx) (ch : BitVec 8) (on : Bool)
  /-- GRP_READ (R322). -/
  | grpRead (c : Ctx) (g : BitVec 8)
  /-- LOOP_READ (R322). -/
  | loopRead (c : Ctx) (first count : BitVec 16)
  /-- LOOP_MODE (R83). -/
  | loopMode (c : Ctx) (loop : BitVec 16) (mode : BitVec 8) (track : BitVec 8)
  /-- LOOP_SP (R83). -/
  | loopSp (c : Ctx) (loop : BitVec 16) (v : BitVec 16)
  /-- LOOP_MV (R83). -/
  | loopMv (c : Ctx) (loop : BitVec 16) (v : BitVec 16)
  /-- LOOP_PARAM (R91). -/
  | loopParam (c : Ctx) (loop : BitVec 16) (word : BitVec 8) (words : List Word) (commit : Bool)
  /-- INJECT_START (R96). -/
  | injectStart (c : Ctx) (gen : BitVec 8) (icb : List Byte)
  /-- INJECT_STOP (R96). -/
  | injectStop (c : Ctx) (gen : BitVec 8)
  /-- CAP_ARM (R97). -/
  | capArm (c : Ctx) (set : BitVec 8) (ccb : List Byte)
  /-- CAP_TRIGGER (R97). -/
  | capTrigger (c : Ctx) (set : BitVec 8)
  /-- CAP_DISARM (R97). -/
  | capDisarm (c : Ctx) (set : BitVec 8)
  /-- CAP_READ (R98). -/
  | capRead (c : Ctx) (set : BitVec 8) (first : BitVec 32) (count : BitVec 16)
  /-- GMU_SUBSCRIBE (R322). -/
  | gmuSubscribe (c : Ctx) (every : BitVec 16)
  /-- SYNC_ARM (R193). -/
  | syncArm (c : Ctx) (block : List Byte)
  /-- SYNC_DISARM (R193). -/
  | syncDisarm (c : Ctx)
  /-- SHED_RELEASE (R207). -/
  | shedRelease (c : Ctx) (mask : BitVec 64)
  /-- TRIG_ARM (R202). -/
  | trigArm (c : Ctx) (t : BitVec 8) (arm : BitVec 8)
  /-- HARM_READ (R322). -/
  | harmRead (c : Ctx) (input : BitVec 8)
  /-- GRID_EVENTS (R322). -/
  | gridEvents (c : Ctx)
  /-- SAFE_PARAM_LOAD (R251). -/
  | safeParamLoad (c : Ctx) (set : List Byte)
  /-- SAFE_PARAM_CONFIRM (R251). -/
  | safeParamConfirm (c : Ctx) (crc : BitVec 32) (setId : List Byte)
  /-- SAFE_PARAM_ABORT (R251). -/
  | safeParamAbort (c : Ctx)
  /-- SAFE_READ (R322). -/
  | safeRead (c : Ctx) (area : BitVec 8)
  /-- SBK_READ (R403). -/
  | sbkRead (c : Ctx) (first : BitVec 32) (count : BitVec 16)
  /-- SBK_SNAPSHOT (R405). -/
  | sbkSnapshot (c : Ctx)
  /-- SBK_RELEASE (R405). -/
  | sbkRelease (c : Ctx)
  /-- SBK_SUBSCRIBE (R406). -/
  | sbkSubscribe (c : Ctx) (minSev : BitVec 8)
  /-- PANEL_UPDATE (R408). -/
  | panelUpdate (c : Ctx) (x y w h : BitVec 16) (flags : BitVec 8) (pixels : List Byte)
  /-- PANEL_SCREEN (R416). -/
  | panelScreen (c : Ctx) (screen : BitVec 16)
  /-- PANEL_STATUS (R322). -/
  | panelStatus (c : Ctx)
  /-- CERT_READ (R425). -/
  | certRead (c : Ctx) (which : BitVec 8)
  /-- CSR_MAKE (R427). -/
  | csrMake (c : Ctx) (subject : SubjectFields) (request : List Byte)
  /-- CERT_INSTALL (R428). -/
  | certInstall (c : Ctx) (slot : BitVec 8) (cert : Certificate)
  /-- AUTH_CHALLENGE (R315). -/
  | authChallenge (c : Ctx) (nonce : BitVec 384)
  /-- AUTH_RESPONSE (R315). -/
  | authResponse (c : Ctx) (slot : BitVec 8) (valid : Bool)
  /-- CERT_REMOVE (R429). -/
  | certRemove (c : Ctx) (slot : BitVec 8)
  /-- CREDENTIAL_OP_START (R429). -/
  | credentialOpStart
  /-- COMMISSION_PROOF_EXPIRY (R431). -/
  | commissionProofExpiry
  /-- TIME_READ (R322). -/
  | timeRead (c : Ctx)
  /-- TIME_ACCEPT_JUMP (R363). -/
  | timeAcceptJump (c : Ctx)
  /-- CAN_STATUS (R322). -/
  | canStatus (c : Ctx) (port : BitVec 8)
  /-- CAN_RECOVER (R381). -/
  | canRecover (c : Ctx) (port : BitVec 8)
  /-- CAN_SEND (R375). -/
  | canSend (c : Ctx) (port : BitVec 8) (frame : CanFrame)
  /-- ECHO (R314). -/
  | echo (c : Ctx) (data : List Byte)
  /-- GRANTLOG_READ (R178). -/
  | grantlogRead (c : Ctx) (first : BitVec 8) (count : BitVec 16)
  /-- MEMLOG_READ (R292). -/
  | memlogRead (c : Ctx)
  /-- MEMLOG_CLEAR (R292). -/
  | memlogClear (c : Ctx)
  /-- SPROUT_READ (R322). -/
  | sproutRead (c : Ctx)
  /-- SESSIONS (R322). -/
  | sessions (c : Ctx)
  /-- REGISTER_WRITE (R330). -/
  | registerWrite (addr value : Word) (r : Requester)
  /-- W1C_WRITE (R333). -/
  | w1cWrite (addr value : Word) (race : List (Fin 32)) (r : Requester)
  /-- SNAP_TAKE (R336). -/
  | snapTake (window : Fin 16) (r : Requester)
  /-- STAGED_APPLY (R334). -/
  | stagedApply (i : StagedIsland)
  /-- IDX_DATA_ACCESS (R338). -/
  | idxDataAccess (window : Fin 16) (a : IdxAccess) (r : Requester)
  /-- TIME_NSEC_READ (R370). -/
  | timeNsecRead
  /-- DEV_LOCK_SET (R341). -/
  | devLockSet (r : Requester)
  /-- PERM_SET (R342). -/
  | permSet (r : Requester)
  /-- SUP_LOCK_KEY (R341). -/
  | supLockKey (v : Word) (r : Requester)
  /-- LOCK_KEY_TIMEOUT (R341). -/
  | lockKeyTimeout
  /-- SUP_RESET_MODULE (R442). -/
  | supResetModule (r : Requester)
  /-- SUP_RESET_ISLAND (R444). -/
  | supResetIsland (i : LoneIsland) (r : Requester)
  /-- SOFT_RESET_TAKE (R442). -/
  | softResetTake
  /-- OPT_COMMIT (R452). -/
  | optCommit (r : Requester)
  /-- OPT_DISCARD (R452). -/
  | optDiscard (r : Requester)
  /-- LINK_CHANGE (R346). -/
  | linkChange (port : Fin 4) (l : LinkReport)
  /-- FRAME_RECEIVE (R349). -/
  | frameReceive (port : Fin 4) (f : EthFrame)
  /-- PRP_SUPERVISION_SEND (R349). -/
  | prpSupervisionSend
  /-- PRP_LAN_FAIL (R350). -/
  | prpLanFail (lanB : Bool)
  /-- PRP_LAN_OK (R350). -/
  | prpLanOk (lanB : Bool)
  /-- BEACON_SEND (R351). -/
  | beaconSend (signature : List Byte)
  /-- BEACON_RECEIVE (R352). -/
  | beaconReceive (b : Beacon)
  /-- BEACON_HOLD_EXPIRY (R352). -/
  | beaconHoldExpiry (serial : Nat)
  /-- DISCOVERY_RECORD_EXPIRY (R353). -/
  | discoveryRecordExpiry (serial : Nat)
  /-- PTP_MESSAGE (R354). -/
  | ptpMessage (port : Fin 4) (m : PtpMessage)
  /-- PTP_MESSAGE_SEND (R354). -/
  | ptpMessageSend (port : Fin 4) (k : PtpSend) (sent : Int)
  /-- ANNOUNCE_TIMEOUT (R359). -/
  | announceTimeout (port : Fin 4)
  /-- SERVO_UPDATE (R359). -/
  | servoUpdate
  /-- TIME_STEP_APPLY (R364). -/
  | timeStepApply
  /-- HOLDOVER_EXPIRY (R359). -/
  | holdoverExpiry
  /-- TIME_SAVE (R361). -/
  | timeSave
  /-- TT_LAUNCH (R366). -/
  | ttLaunch (port : Fin 4) (entry : Fin 256) (delay : Nat) (source : List Byte)
  /-- CAN_FRAME_RX (R379). -/
  | canFrameRx (port : Fin 4) (frame : CanFrame) (sof : Nat)
  /-- CAN_FRAME_TX_END (R377). -/
  | canFrameTxEnd (port : Fin 4) (outcome : CanEnd) (sof loopDelay : Nat)
  /-- CAN_CYCLIC_QUEUE (R374). -/
  | canCyclicQueue (port : Fin 4) (obj : Fin 32)
  /-- CAN_RECOVERED (R381). -/
  | canRecovered (port : Fin 4)
  /-- CAN_TX_ABORT (R381). -/
  | canTxAbort (port : Fin 4) (r : Requester)
  /-- CAN_RXF_POP (R379). -/
  | canRxfPop (port : Fin 4) (r : Requester)
  /-- CAN_CTRL_RECOVER (R381). -/
  | canCtrlRecover (port : Fin 4) (r : Requester)
  /-- CAN_REF_DUE (R384). -/
  | canRefDue (port : Fin 4)
  /-- CAN_TIME_MASTER (R385). -/
  | canTimeMaster (port : Fin 4)
  /-- CAN_TIME_LOST (R387). -/
  | canTimeLost (port : Fin 4)
  /-- EVENT_POST (R394). -/
  | eventPost (e : Event) (inst : BitVec 12) (ended full : Bool) (subject value1 value2 : Word) (extra : BitVec 64)
  /-- SBK_FLUSH (R398). -/
  | sbkFlush
  /-- SBK_FLUSH_DONE (R398). -/
  | sbkFlushDone (failed : List Nat)
  /-- SBK_RATE_SUMMARY (R402). -/
  | sbkRateSummary (e : Event)
  /-- SBK_SNAPSHOT_EXPIRED (R405). -/
  | sbkSnapshotExpired
  /-- PANEL_FRAME (R412). -/
  | panelFrame
  /-- PANEL_TEMP_MEASURE (R410). -/
  | panelTempMeasure (t : Int)
  /-- CRACK_MEASURE (R418). -/
  | crackMeasure (ohm : Nat)
  /-- PANEL_RECORD_WRITTEN (R419). -/
  | panelRecordWritten (id : Nat)
  /-- PANEL_DISCHARGE_DONE (R420). -/
  | panelDischargeDone
  /-- PANEL_REDRAW (R421). -/
  | panelRedraw
  /-- SCREEN0_REDRAW (R422). -/
  | screen0Redraw (pixels : List Byte)
  /-- ARB_ADVANCE (R437). -/
  | arbAdvance
  /-- POWER_ON (R439). -/
  | powerOn
  /-- RESET_N (R441). -/
  | resetN
  /-- WATCHDOG (R443). -/
  | watchdog
  /-- BRING_UP (R448). -/
  | bringUp (b : BootInputs)
  /-- HOLDUP_READY (R454). -/
  | holdupReady
  /-- RESET_STORM (R447). -/
  | resetStorm
  /-- STORM_RETRY (R447). -/
  | stormRetry
  /-- CLK_FALLBACK (R449). -/
  | clkFallback
  /-- HUSK_WATCHDOG (R444). -/
  | huskWatchdog (i : LoneIsland)
  /-- ISLAND_RESET_DONE (R444). -/
  | islandResetDone (i : LoneIsland)
  /-- SUPPLY_SAMPLE (R454). -/
  | supplySample (m : SupplySample)
  /-- POWER_FAIL_WARNING (R455). -/
  | powerFailWarning
  /-- POWER_FAIL_HOLD (R455). -/
  | powerFailHold
  /-- POWER_FAIL (R457). -/
  | powerFail
  /-- OWN_LINE_TOGGLING (R265). -/
  | ownLineToggling
  /-- PARTNER_LINE_EDGE (R16). -/
  | partnerLineEdge
  /-- RESET_N_RELEASE (R441). -/
  | resetNRelease
  /-- FIRMWARE_IDLE_POINT (R443). -/
  | firmwareIdlePoint
  /-- HOLDUP_FULL (R454). -/
  | holdupFull
  /-- RETENTION_END (R455). -/
  | retentionEnd
  /-- CAN_ERROR_FRAME (R380). -/
  | canErrorFrame (port : Fin 4) (k : BusError)
deriving DecidableEq, Repr

end Sys2Proof
end

