-- ==== Sys2Proof/Decode.lean ====
section
/-! DEFINITION. Decode.lean: the command a word spells by the opcode table's bits. The table gives no row bits, so no word spells a
command; commands reach the module as packets, register accesses and events, which the rows carry as operands. -/
namespace Sys2Proof

/-- The command that `nbits` bits of `w` spell by the table: none, since no row gives bits. -/
def decodeTableWord (_nbits _w : Nat) : Option Instr := none

end Sys2Proof
end

