-- ==== Sys2Proof/Machine/Bits.lean ====
section
/-! DEFINITION. Machine/Bits.lean: bit fields of words, little-endian byte strings, saturation and
rounding, and the two checksums the manual gives by polynomial. -/
namespace Sys2Proof.Machine
open Sys2Proof

/-- Field [hi:lo] of a word, as a number. -/
def field (w : Word) (hi lo : Nat) : Nat := (w.toNat >>> lo) % 2 ^ (hi + 1 - lo)

/-- Bit `n` of a word. -/
def bit (w : Word) (n : Nat) : Bool := field w n n == 1

/-- The mask of bits [hi:lo]. -/
def maskOf (hi lo : Nat) : Word := BitVec.ofNat 32 ((2 ^ (hi + 1 - lo) - 1) <<< lo)

/-- `w` with field [hi:lo] holding `v` (cut to the field's width). -/
def setField (w : Word) (hi lo : Nat) (v : Nat) : Word :=
  (w &&& ~~~(maskOf hi lo)) ||| BitVec.ofNat 32 ((v % 2 ^ (hi + 1 - lo)) <<< lo)

/-- A word with a single field [hi:lo] holding `v` and 0 elsewhere. -/
def fieldWord (hi lo v : Nat) : Word := BitVec.ofNat 32 ((v % 2 ^ (hi + 1 - lo)) <<< lo)

/-- A Bool as a bit. -/
def b2n (b : Bool) : Nat := if b then 1 else 0

/-- A number as a word, modulo 2^32. -/
def word (n : Nat) : Word := BitVec.ofNat 32 n

/-- An integer as a word in two's complement. -/
def wordOfInt (i : Int) : Word := BitVec.ofInt 32 i

/-- `n` low bytes of a number, little-endian. -/
def leBytes : Nat → Nat → List Byte
  | 0, _ => []
  | n + 1, v => BitVec.ofNat 8 v :: leBytes n (v / 256)

/-- The number a little-endian byte string spells. -/
def ofLe : List Byte → Nat
  | [] => 0
  | b :: bs => b.toNat + 256 * ofLe bs

/-- A field of a control block: `n` bytes from offset `a`, little-endian. -/
def blockField (bs : List Byte) (a n : Nat) : Nat := ofLe ((bs.drop a).take n)

/-- The word of a list of little-endian bytes at byte offset `a` (missing bytes are 0). -/
def wordAt (bs : List Byte) (a : Nat) : Word := word (ofLe ((bs.drop a).take 4))

/-- Overwrite bytes of a string from offset `a`; bytes past its end are dropped. -/
def putBytes (bs : List Byte) (a : Nat) (new : List Byte) : List Byte :=
  bs.take a ++ (new.take (bs.length - a)) ++ bs.drop (a + new.length)

/-- Saturate an integer to [lo, hi]. -/
def clampInt (lo hi i : Int) : Int := if i < lo then lo else if hi < i then hi else i

/-- Round n ÷ d to the nearest integer, ties away from zero (R66); `d` is positive. -/
def roundDiv (n : Int) (d : Nat) : Int :=
  if 0 ≤ n then Int.ofNat ((2 * n.natAbs + d) / (2 * d)) else - Int.ofNat ((2 * n.natAbs + d) / (2 * d))

/-- The integer square root, truncated: the largest r with r * r ≤ n, found bit by bit. -/
def isqrtFrom : Nat → Nat → Nat → Nat
  | 0, r, n => if (r + 1) * (r + 1) ≤ n then r + 1 else r
  | k + 1, r, n =>
    let t := r + 2 ^ (k + 1)
    if t * t ≤ n then isqrtFrom k t n else isqrtFrom k r n

/-- The truncated square root of a number below 2^128. -/
def isqrt (n : Nat) : Nat := isqrtFrom 63 0 n

/-- One byte step of a CRC-8 with polynomial x^8 + x^2 + x + 1 (0x07), most significant bit first. -/
def crc8Bits : Nat → Nat → Nat
  | 0, c => c
  | n + 1, c => crc8Bits n (if c ≥ 128 then ((c * 2) % 256) ^^^ 0x07 else (c * 2) % 256)

/-- CRC-8 of R110: polynomial x^8 + x^2 + x + 1, initial value 0xFF, over the given bytes in order. -/
def crc8 (bs : List Nat) : Nat := bs.foldl (fun c b => crc8Bits 8 (c ^^^ b)) 0xFF

/-- One byte step of the reflected CRC-32C (Castagnoli polynomial 0x1EDC_6F41, reflected 0x82F6_3B78). -/
def crc32cBits : Nat → Nat → Nat
  | 0, c => c
  | n + 1, c => crc32cBits n (if c % 2 = 1 then (c / 2) ^^^ 0x82F63B78 else c / 2)

/-- CRC-32C of R308: reflected, initial value and final XOR 0xFFFF_FFFF. -/
def crc32c (bs : List Byte) : Nat :=
  (bs.foldl (fun c b => crc32cBits 8 (c ^^^ b.toNat)) 0xFFFFFFFF) ^^^ 0xFFFFFFFF

/-- Byte `i` (0 the least significant) of a number. -/
def byteOf (n i : Nat) : Nat := (n >>> (8 * i)) % 256

/-- `xs` with its `i`-th element replaced; unchanged when there is none. -/
def setAt {α : Type} (xs : List α) (i : Nat) (x : α) : List α := xs.set i x

/-- `xs` with `f` applied to its `i`-th element; unchanged when there is none. -/
def modAt {α : Type} (xs : List α) (i : Nat) (f : α → α) : List α :=
  match xs[i]? with
  | some x => xs.set i (f x)
  | none => xs

end Sys2Proof.Machine
end

