-- ==== Sys2Proof/Machine/Binary32.lean ====
section
/-! DEFINITION. Machine/Binary32.lean: IEEE 754 binary32 words as exact numbers, and exact quotients as binary32 words. -/
namespace Sys2Proof.Machine
open Sys2Proof

/-- The word is a finite number. -/
def f32Finite (w : Word) : Bool := decide (field w 30 23 ≠ 255)

/-- A finite word's value times 2^149: a whole number. -/
def f32Scaled (w : Word) : Int :=
  let e := field w 30 23
  let m := field w 22 0
  let mag : Nat := if e = 0 then m else (m + 8388608) * 2 ^ (e - 1)
  if bit w 31 then - Int.ofNat mag else Int.ofNat mag

/-- The word is finite and above 0. -/
def f32Positive (w : Word) : Bool := f32Finite w && decide (0 < f32Scaled w)

/-- The exponent of n ÷ d: the largest e with 2^e ≤ n ÷ d. -/
def ratExponent (n d : Nat) : Int :=
  let e : Int := Int.ofNat (Nat.log2 n) - Int.ofNat (Nat.log2 d)
  let below := if 0 ≤ e then decide (n < d * 2 ^ e.toNat) else decide (n * 2 ^ (-e).toNat < d)
  if below then e - 1 else e

/-- n ÷ d rounded to the nearest integer, ties to even. -/
def divEven (n d : Nat) : Nat :=
  let q := n / d
  let r := n % d
  if d < 2 * r ∨ (d = 2 * r ∧ q % 2 = 1) then q + 1 else q

/-- The binary32 word nearest to num ÷ den, ties to even. -/
def f32OfRat (num : Int) (den : Nat) : Word :=
  let n := num.natAbs
  if n = 0 ∨ den = 0 then 0
  else
    let sign : Nat := if num < 0 then 2 ^ 31 else 0
    let e := max (ratExponent n den) (-126)
    let sh : Int := 23 - e
    let q := if 0 ≤ sh then divEven (n * 2 ^ sh.toNat) den else divEven n (den * 2 ^ (-sh).toNat)
    let (q, e) := if 16777216 ≤ q then (q / 2, e + 1) else (q, e)
    if 127 < e then word (sign + 0x7F800000)
    else if q < 8388608 then word (sign + q)
    else word (sign + ((e + 127).toNat * 8388608) + (q - 8388608))

end Sys2Proof.Machine
end

