-- ==== Sys2Proof/Config.lean ====
section
/-! DEFINITION. Config.lean: the values the manual leaves open, as constants with no body, so that nothing can be proved of
what they are. -/
namespace Sys2Proof

/-- A value the manual leaves open, one for each count of `State.free` (log 3). -/
opaque Config.freeValue : Nat → BitVec 32

/-- The event number the firmware gives a code that the manual names without binding its number (R480; log 6). -/
opaque Config.eventNumber : Nat → Nat

/-- The severity the firmware gives a code that the manual names without binding its SEV (R480; log 6). -/
opaque Config.eventSeverity : Nat → Nat

/-- The code that the fault record and MODULE_FAULT give a kind of module fault (R443, R450; log 8). -/
opaque Config.faultKind : Nat → Nat

/-- A byte of a rectangle that the module draws itself and whose picture the manual does not give: the timestamp (0), or a module screen
(1 + its number), at a module time in s (R417, R422; log 43). -/
opaque Config.panelByte : Nat → Nat → Nat → BitVec 8

/-- The issuer's name in the device certificate, in DER: the production CA's, which the manual does not give (R425; log 117). -/
opaque Config.caName : List (BitVec 8)

/-- notBefore of the device certificate, in DER: the time of manufacture (R425; log 117). -/
opaque Config.manufactured : List (BitVec 8)

/-- The device public key, as the point's octets (R424; log 117). -/
opaque Config.devicePublicKey : List (BitVec 8)

/-- The signature that the device key makes over a message, in DER (R424, Table TRU-1; log 117). -/
opaque Config.deviceSign : List (BitVec 8) → List (BitVec 8)

/-- The production CA's signature over a certificate body, in DER (R425; log 117). -/
opaque Config.caSignature : List (BitVec 8) → List (BitVec 8)

/-- The amounts that a test injection, an energised safe output and a test pulse ask of Gourd, in mW (Table PWB-1; log 133). -/
opaque Config.injectionPower : Nat
opaque Config.safeDrivePower : Nat
opaque Config.testPulsePower : Nat

end Sys2Proof
end

