-- ==== Sys2Proof/Machine/EventTable.lean ====
section
/-! DEFINITION. Machine/EventTable.lean: the range, the instance kind and the name of every event (R395, R396, R479, R480). The
events stand in the order of their ranges, so a range is an interval of their indices. -/
namespace Sys2Proof.Machine
open Sys2Proof

/-- The window number of the island that posts an event (R395). -/
def eventWindow (e : Event) : Nat :=
  let n := e.ctorIdx
  if n < 17 then 0 else if n < 21 then 1 else if n < 25 then 2 else if n < 48 then 3 else if n < 49 then 4 else if n <
  58 then 5 else if n < 64 then 6 else if n < 74 then 7 else if n < 81 then 8 else if n < 89 then 9 else if n < 98
  then 10 else if n < 103 then 11 else if n < 104 then 12 else 13

/-- INSTANCE_KIND of an event's code (R479). -/
def instanceKind (e : Event) : Nat :=
  let n := e.ctorIdx
  if n < 21 then 0 else if n < 22 then 4 else if n < 23 then 3 else if n < 25 then 0 else if n < 43 then 1 else if n <
  49 then 2 else if n < 57 then 0 else if n < 58 then 1 else if n < 60 then 8 else if n < 72 then 0 else if n < 76
  then 6 else if n < 78 then 7 else if n < 81 then 0 else if n < 83 then 5 else if n < 89 then 0 else if n < 98 then 5
  else 0

/-- The names of the events as the manual writes them, in the events' order (Table SBK-3). -/
def eventNames : List String :=
  ["MODULE_FAULT", "DEV_UNLOCKED", "LOCK_KEY_ERROR", "LOCK_VIOLATION", "KEEP_CHANGED"]
  ++ ["SUPA_LOST", "SUPB_LOST", "DIP_RIDDEN", "PFW", "SUPPLY_HIGH"]
  ++ ["ISLAND_RESET", "OSC_SPROUTED", "CELL_SPROUTED", "HOLDUP_REDUCED", "SPARE_EXHAUSTED"]
  ++ ["CORE_SELFTEST_FAIL", "STORM", "TASK_OVERRUN", "TASK_FAULT", "STOP_ABANDONED", "RETAIN_INVALID"]
  ++ ["POD_FAIL", "LOOP_BAD_INPUT", "INJECT_DONE", "INJECT_ABORT", "AI_LOOP_SHORT"]
  ++ ["AI_OVERCURRENT", "AI_FAIL_LOW", "AI_FAIL_LOW_END", "AI_FAIL_HIGH", "AI_FAIL_HIGH_END"]
  ++ ["AO_ALARM_UNREACHABLE", "AO_COMPLIANCE", "AO_COMPLIANCE_END", "AO_OPEN_LOAD", "CAL_USER_INVALID"]
  ++ ["DO_FAILED", "DO_LATCHOFF", "DO_OPEN_LOAD", "FE_REARMED", "MISMATCH_HIGH"]
  ++ ["MISMATCH_LOW", "CH_SPROUTED", "FSUP_OK", "FSUP_LOW", "FSUP_MISSING"]
  ++ ["FSUP_HIGH", "FSUP_RETURN", "GRD_GROUP_OVERPEAK", "GMU_TIME_RESTART", "GRID_DIP"]
  ++ ["GRID_SWELL", "GRID_INTERRUPT", "SHED_EXEC", "SHED_SHORTFALL", "STALE_INPUT"]
  ++ ["SYNC_ABORT", "SYNC_CLOSE", "RESET_JAMMED", "SAFE_RESET_REFUSED", "SAFE_PAIR_LOST"]
  ++ ["SAFE_PARAM_ADOPTED", "SAFE_PARAM_CONFIRMED", "SAFE_PARAM_EXPIRED", "PAIR_ROLE_CHANGE", "PAIR_TAKEOVER"]
  ++ ["PAIR_ORPHAN", "PAIR_SYNCED", "PAIR_TIME_DIVERGED", "OWNER_LINE_FAULT", "SWAP_BY_FAILOVER"]
  ++ ["LANE_NO_SPARE", "LANE_RETIRED", "LANE_SPROUTED", "LANE_RETIRED", "LANE_SPROUTED"]
  ++ ["NO_SPARE", "SCRUB_LAP_ALARM", "MRAM_REMAP", "MRAM_SPARES_LOW", "MRAM_WRITE_FAILED"]
  ++ ["NET_LINK_REFUSED", "TT_LATE", "PRP_LAN_FAIL", "PRP_LAN_OK", "STATION_ID_CONFLICT"]
  ++ ["TIME_JUMP_REFUSED", "TIME_STEPPED", "PTP_MASTER_CHANGE", "CAN_BUS_OFF", "CAN_ERROR_PASSIVE"]
  ++ ["CAN_ERROR_WARNING", "CAN_NO_PARTNER", "CAN_RECOVERED", "CAN_REF_CONFLICT", "CAN_RX_OVERRUN"]
  ++ ["CAN_TIME_LOST", "CAN_TIME_MASTER", "SBK_START", "SBK_RING_OVERRUN", "SBK_RATE_SUMMARY"]
  ++ ["SBK_LOG_WRITE_FAILED", "SBK_SNAPSHOT_EXPIRED", "PANEL_CRACKED", "TRUST_KEY_FAULT", "TRUST_TIME_UNCHECKED"]
  ++ ["IMAGE_SIG_INVALID", "CERT_INSTALLED", "CERT_REMOVED", "ARB_ADVANCED"]

/-- The name of an event. -/
def eventName (e : Event) : String := eventNames.getD e.ctorIdx ""

/-- The events, part 1. -/
def events1 : List Event :=
  [.moduleFault, .devUnlocked, .lockKeyError, .lockViolation, .keepChanged, .supaLost, .supbLost, .dipRidden, .pfw,
  .supplyHigh, .islandReset, .oscSprouted, .cellSprouted, .holdupReduced, .spareExhausted, .coreSelftestFail, .storm,
  .taskOverrun, .taskFault, .stopAbandoned, .retainInvalid, .podFail, .loopBadInput, .injectDone, .injectAbort,
  .aiLoopShort, .aiOvercurrent]

/-- The events, part 2. -/
def events2 : List Event :=
  [.aiFailLow, .aiFailLowEnd, .aiFailHigh, .aiFailHighEnd, .aoAlarmUnreachable, .aoCompliance, .aoComplianceEnd,
  .aoOpenLoad, .calUserInvalid, .doFailed, .doLatchoff, .doOpenLoad, .feRearmed, .mismatchHigh, .mismatchLow,
  .chSprouted, .fsupOk, .fsupLow, .fsupMissing, .fsupHigh, .fsupReturn, .grdGroupOverpeak, .gmuTimeRestart, .gridDip,
  .gridSwell, .gridInterrupt]

/-- The events, part 3. -/
def events3 : List Event :=
  [.shedExec, .shedShortfall, .staleInput, .syncAbort, .syncClose, .resetJammed, .safeResetRefused, .safePairLost,
  .safeParamAdopted, .safeParamConfirmed, .safeParamExpired, .pairRoleChange, .pairTakeover, .pairOrphan, .pairSynced,
  .pairTimeDiverged, .ownerLineFault, .swapByFailover, .laneNoSpare, .ppdLaneRetired, .ppdLaneSprouted,
  .memLaneRetired, .memLaneSprouted, .noSpare, .scrubLapAlarm, .mramRemap]

/-- The events, part 4. -/
def events4 : List Event :=
  [.mramSparesLow, .mramWriteFailed, .netLinkRefused, .ttLate, .prpLanFail, .prpLanOk, .stationIdConflict,
  .timeJumpRefused, .timeStepped, .ptpMasterChange, .canBusOff, .canErrorPassive, .canErrorWarning, .canNoPartner,
  .canRecovered, .canRefConflict, .canRxOverrun, .canTimeLost, .canTimeMaster, .sbkStart, .sbkRingOverrun,
  .sbkRateSummary, .sbkLogWriteFailed, .sbkSnapshotExpired, .panelCracked, .trustKeyFault]

/-- The events, part 5. -/
def events5 : List Event :=
  [.trustTimeUnchecked, .imageSigInvalid, .certInstalled, .certRemoved, .arbAdvanced]

/-- Every event. -/
def allEvents : List Event := events1 ++ events2 ++ events3 ++ events4 ++ events5

end Sys2Proof.Machine
end

