-- ==== Sys2Proof/Machine/State.lean ====
section
/-! DEFINITION. Machine/State.lean: everything the manual gives the module as state, as plain data, and the state right after reset.
Every record's default values are its reset values (INVENTORY.md lists them; log 2 names those the manual does not give). -/
namespace Sys2Proof.Machine
open Sys2Proof

/-! ## Ownership and commit (The Station at Work) -/

/-- What state a commit marker carries to the partner, and so what its acknowledge releases (R18, Table ARC-2). -/
inductive CommitKind where
  | task (n : Nat) | hazel (pod : Nat) | shed (trigger mask : Nat) | release (mask gen : Nat) | closeRecord
deriving DecidableEq, Repr

/-- A commit sent to the partner and not yet acknowledged, with the outputs it holds back (R18, R19). -/
structure Commit where
  id : Nat := 0
  kind : CommitKind
  drives : List (Nat × Word) := []
  canPayloads : List (Nat × Nat × List Byte) := []
  /-- Payload sources of time-triggered frames, by their offset in state memory (R366). -/
  sources : List (Nat × List Byte) := []
  /-- When the marker was sent. -/
  sent : Nat := 0
deriving DecidableEq, Repr

/-- The ownership gate and the commit order (R16 to R20). The output stages of the module all watch the same two
owner lines, so what one sees all see (log 4). -/
structure Ownership where
  /-- The module toggles its owner line (R17). -/
  ownDriven : Bool := false
  /-- The stages take the own line as toggling (R16, R265). -/
  ownSeen : Bool := false
  /-- No edge on the partner's owner line for 2 µs (R16). -/
  partnerQuiet : Bool := false
  /-- Commits waiting for the partner's acknowledge, oldest first (R18). -/
  outstanding : List Commit := []
  /-- Number of the next commit. -/
  nextCommit : Nat := 0
  /-- Windows of the islands that their Husks hold (R13). -/
  held : List Nat := []
  /-- Faults of the module recorded since reset: kind and address, newest first (R29). -/
  moduleFaults : List (Nat × Nat) := []
deriving DecidableEq, Repr

/-! ## Station executive -/

/-- A channel entry of a latch and of an input image (Table EXE-2, R26). -/
structure LatchEntry where
  value : Word := 0
  status : Nat := 0
  mode : Nat := 0
  seq : Nat := 0
deriving DecidableEq, Repr

/-- A task (R35 to R39, EXE_TASK_CFG, EXE_TASK_TIME). -/
structure Task where
  defined : Bool := false
  stopTask : Bool := false
  period : Nat := 0
  reads : List Nat := []
  writes : List Nat := []
  xreads : List Nat := []
  state : TState := .idle
  consec : Nat := 0
  lastUs : Nat := 0
  /-- Start timestamp of the instance, ns of module time (R27, R39). -/
  start : Nat := 0
  /-- Release count of the input image header (u32, R39). -/
  releases : Nat := 0
  /-- Channel entries of the input image of the running instance (R39). -/
  input : List (Nat × LatchEntry) := []
  /-- Exchange variables of the input image (R40). -/
  xinput : List (Nat × List Byte) := []
  /-- Loops declared in the task's IO_MAP, and bytes 16 to 31 of their exchange entries in the input image (R82). -/
  loops : List Nat := []
  linput : List (Nat × List Byte) := []
  /-- The input image as it is laid out in state memory: header, channel entries, exchange variables (R39, Table EXE-2). -/
  image : List Byte := []
deriving DecidableEq, Repr

/-- A variable or function block instance of the running image (R57, IDENTITY section). -/
structure VarEntry where
  cls : ObjClass
  retain : Bool := false
  writer : Option Nat := none
  exchange : Bool := false
  init : List Byte := []
  value : List Byte := []
  /-- For an exchange variable that another island writes: where it lies in state memory (R191, R214, R379). -/
  place : Option Nat := none
deriving DecidableEq, Repr

/-- What a retain copy holds: the retain variables and the retained function blocks, with the time of the save (R47, R49). -/
structure RetainData where
  vars : List (Nat × List Byte) := []
  fbs : List (Nat × Fb) := []
  time : Nat := 0
deriving DecidableEq, Repr

/-- One of the two MRAM copies of the retain store, with its sequence number, PROGRAM_ID and CRC-32C (R47). -/
structure RetainCopy where
  seq : Nat := 0
  program : Nat := 0
  data : RetainData := {}
  crc : Nat := 0
deriving DecidableEq, Repr

/-- A force (R54): its key and its 8 value bytes. -/
structure Force where
  key : ForceKey
  value : Nat := 0
deriving DecidableEq, Repr

/-- A change report entry (Table EXE-4). -/
structure ChangeEntry where
  identity : Nat := 0
  cls : ObjClass
  outcome : ChangeOutcome
  detail : Nat := 0
deriving DecidableEq, Repr

/-- An open image load (R324, Table CMD-7). -/
structure Load where
  slot : Nat := 0
  queue : Nat := 0
  session : Nat := 0
  length : Nat := 0
  bytes : List Byte := []
  /-- LOAD_COMMIT was accepted and the checks run. -/
  checking : Bool := false
deriving DecidableEq, Repr

/-- A VAR_WRITE waiting for its writer task's release (R321). -/
structure VarWrite where
  identity : Nat := 0
  offset : Nat := 0
  data : List Byte := []
deriving DecidableEq, Repr

/-- Why a release was skipped (R37, R61, R269, R364, R455). -/
inductive SkipCause where
  | overrun | handover | failover | timeStep | powerFail
deriving DecidableEq, Repr

/-- A restart that takes effect at the next boundary (R53): its kind and the force choice. -/
structure RestartPending where
  kind : Restart := .none
  choice : ForceChoice
deriving DecidableEq, Repr

/-- A handover in progress on the active module (R61, R277). -/
structure HandoverPending where
  swap : Bool := false
  /-- The boundary B once the drain has ended. -/
  boundary : Option Nat := none
  /-- Started by Sprout: it yields when the drain fails (R295, R301). -/
  internal : Bool := false
deriving DecidableEq, Repr

/-- The station executive (R32 to R65). -/
structure Exec where
  station : Station := .init
  restart : Restart := .none
  stopCause : StopCause := .none
  abandoned : Bool := false
  tasks : Store Task := []
  vars : Store VarEntry := []
  fbs : Store Fb := []
  /-- Committed values of the exchange variables (R40). -/
  exchange : Store (List Byte) := []
  shadow : RetainData := {}
  /-- A restart, a task end or the saved copy has filled the shadow, so that it may be saved (R47). -/
  shadowLive : Bool := false
  copyA : RetainCopy := {}
  copyB : RetainCopy := {}
  /-- The force table in force, and the one that MRAM holds: a change of the table is saved under its claim (R55, R481). -/
  forces : List Force := []
  savedForces : List Force := []
  varWrites : List VarWrite := []
  /-- A STOP command or a task fault waits for its boundary, with its cause (R51). -/
  stopPending : Option StopCause := none
  startPending : Option RestartPending := none
  handover : Option HandoverPending := none
  report : List ChangeEntry := []
  image : Option Image := none
  slotA : Option Image := none
  slotB : Option Image := none
  load : Option Load := none
  /-- Number of the cycle latch, low 8 bits (Table EXE-2). -/
  latchSeq : Nat := 0
  /-- Module time of the last base-cycle boundary, ns, and the first at which tasks may be released after an accepted step (R364). -/
  lastBoundary : Nat := 0
  releaseFrom : Nat := 0
  /-- Lines of state memory written after BULK has sent them (R276). -/
  dirty : List Nat := []
  /-- Skipped releases by task and cause: 8 × task + cause. -/
  skips : Store Nat := []
  /-- Bytes of station state memory in the areas that the image gives to the islands: the loop exchange area, the GMU's report block,
  Walnut's status block, the CAN receive objects and what LINEs copy (R81, R191, R214, R271, R379). -/
  area : Store Byte := []
deriving DecidableEq, Repr

/-! ## Field channel array -/

/-- An access to a front-end's isolated side that is under way: four bytes, one per frame (R114). -/
structure IsoAccess where
  write : Bool
  addr : Nat
  word : Word
deriving DecidableEq, Repr

/-- One of the 216 front-ends, with its logic side (R107 to R166). -/
structure FrontEnd where
  /-- State of the front-end itself (upstream STATE, Table FCD-2). -/
  state : FeState := .unarmed
  /-- STATE as the last good upstream frame reported it (FCH_STAT.FE_STATE). -/
  seenState : FeState := .unarmed
  /-- A mode change disarmed it and it is being reconfigured (R118). -/
  reconfiguring : Bool := false
  /-- Consecutive good frames while in local safe state (R113). -/
  goodRun : Nat := 0
  /-- Consecutive bad upstream frames (R136). -/
  badRun : Nat := 0
  /-- The last upstream frame was good (R112). -/
  lastGood : Bool := false
  /-- VALUE, AUX and FLAGS of the last good upstream frame (R111). -/
  value : BitVec 16 := 0
  aux : BitVec 16 := 0
  flags : BitVec 8 := 0
  /-- The front-end's own readings, corrected (R111, R164): voltage code, AUX, AO readback, and the loop voltages of FCH_ADIAG (R166). -/
  voltCode : BitVec 8 := 0
  auxNow : BitVec 16 := 0
  current : BitVec 16 := 0
  termV : BitVec 16 := 0
  headroom : BitVec 16 := 0
  /-- The comparator's state: the terminal voltage against the thresholds in force (R122, R127, R132). -/
  comp : Bool := false
  limitFlags : BitVec 8 := 0
  /-- The raw code the AO driver drives for its command (R164, set 2). -/
  driverCode : Nat := 0
  /-- Isolated-side accesses waiting, the first under way; how many of its bytes are confirmed; the front-end's ACYC_ST and byte for the
  last operation it took, and the bytes of the word it is being given (Table FCD-2, R114). -/
  acyc : List IsoAccess := []
  acycDone : Nat := 0
  acycSt : Nat := 0
  acycByte : Byte := 0
  acycBuf : List Byte := []
  /-- An access got no done status, and no good frame has come since (R114). -/
  silent : Bool := false
  /-- A gap of 300 ms or more has just ended: the first entry latched after it is invalid (R111). -/
  gap : Bool := false
  /-- Module time of the last good upstream frame (R111). -/
  goodAt : Nat := 0
  /-- Reported current after the AI filter, counts, and the filter's own state in 2^-16 counts (R147). -/
  reported : Nat := 0
  filtered : Nat := 0
  /-- The last good demand the front-end holds (R112), and what it drives at its terminal side. -/
  feDemand : BitVec 16 := 0
  /-- The demand of the last downstream frame. -/
  demand : BitVec 16 := 0
  /-- Filtered DI state (R124). -/
  diState : Bool := false
  /-- Edge count of the front-end, and the logic side's 32-bit count (R111, R133). -/
  edgeCount : Nat := 0
  count : Word := 0
  /-- Offset to continue the partner's count, and the partner's count less the own at the last commit (R135). -/
  countOffset : Word := 0
  partnerOffset : Word := 0
  /-- The latest frequency result of the front-end, the one the logic side took, and the low half of one in transfer (R111, R134). -/
  freqNow : Nat := 0
  freq : Nat := 0
  freqLow : Option Nat := none
  /-- Gates without two edges in a row, the counted edges since the last result, and the times of the first and the last of them, ns
  (R134). -/
  emptyGates : Nat := 0
  gateEdges : Nat := 0
  gateFirst : Nat := 0
  gateLast : Nat := 0
  /-- Latched and live status conditions (Tables FCD-7, FCA-3). -/
  misHigh : Bool := false
  misLow : Bool := false
  /-- SHORT of a DO, whether a latch-off has latched it (R126, R129), and SHORT of a loop supply (R151). -/
  short : Bool := false
  latchedShort : Bool := false
  supplyShort : Bool := false
  failed : Bool := false
  openLoad : Bool := false
  limit : Bool := false
  latchedOff : Bool := false
  compliance : Bool := false
  alarmUnreach : Bool := false
  burdenOpen : Bool := false
  burdenRetry : Bool := false
  failLow : Bool := false
  failHigh : Bool := false
  supplyOpen : Bool := false
  supplyRetry : Bool := false
  supplyClosed : Bool := false
  retries : Nat := 0
  /-- The front-end itself is judged failed and not used again (R136, R138). -/
  broken : Bool := false
  sprouting : Bool := false
  /-- For a channel: its spare. For a spare: the channel it serves (FCH_SPARE). -/
  link : Option Nat := none
  budget : Budget := .granted
  /-- The writer's output word, and whether the writer has driven since the restart (R42, R53). -/
  writer : Word := 0
  written : Bool := false
  /-- Value last driven under a grant (R52 HOLD, R152), and the preload of R20. -/
  driven : BitVec 16 := 0
  preload : BitVec 16 := 0
  /-- The grant the channel holds: for a DO, on; for an AO, the counts up to which current is granted (R169). -/
  granted : Nat := 0
  /-- The channel's task is faulted with STOP_TASK, so the channel takes its STOP behaviour (R38). -/
  taskStopped : Bool := false
  /-- The value the partner last committed for the channel (R143), and its status. -/
  partnerValue : Word := 0
  partnerStatus : Nat := 0
  /-- The field was taken and no own conversion has completed, so the partner's value and STATUS stand (R161). -/
  fromPartner : Bool := false
  /-- Isolated-side store: local safe setting (R158) and temperature in 0.01 °C (R164). -/
  safeCounts : BitVec 16 := 0
  temperature : Int := 0
  /-- Isolated-side bytes 0x000–0x3FF, and the calibration in use (R114, R164). -/
  isolated : Store Byte := []
  userValid : Bool := false
  factoryValid : Bool := true
  useUserNow : Bool := false
  /-- The user area as it passed its check, from the boundary at which it came into use, and one that has passed and waits for that
  boundary (R165). -/
  userInUse : List Byte := []
  userStaged : Option (List Byte) := none
deriving DecidableEq, Repr

/-- A group's field supply monitor (R115, R116). -/
structure Group where
  supply : Supply := .missing
  /-- Samples in a row below 16.0 V, and at or above 19.2 V. -/
  lowRun : Nat := 0
  highRun : Nat := 0
  /-- The last samples, newest first, at most 20 (1 ms), in 0.05 V. -/
  samples : List Nat := []
deriving DecidableEq, Repr

/-- The field channel array. -/
structure Field where
  fes : Store FrontEnd := []
  groups : Store Group := []
  /-- Frame count (SEQ and FCOUNT of Table FCD-2). -/
  frame : Nat := 0
  /-- Latched entries of the cycle latch and the sample latch with their stamps, ns (R26). -/
  cycleLatch : Store LatchEntry := []
  cycleStamp : Nat := 0
  sampleLatch : Store LatchEntry := []
  sampleStamp : Nat := 0
deriving DecidableEq, Repr

/-! ## Gourd -/

/-- A request that waits or a claim in force (R167, Table PWB-5). `until` is the end of a timed claim. -/
structure Request where
  cls : GrantClass
  /-- FCH_SEL for a channel request, the window number for an island's. -/
  source : Nat := 0
  group : Option Nat := none
  amount : Nat := 0
  /-- Duration in µs; none is standing. -/
  duration : Option Nat := none
  purpose : Purpose
  made : Nat := 0
  delayed : Option Reason := none
  estimate : Option Nat := none
  /-- When the decision that delayed it was made (R176). -/
  since : Nat := 0
deriving DecidableEq, Repr

/-- A claim in force. -/
structure Claim where
  cls : GrantClass
  source : Nat := 0
  amount : Nat := 0
  purpose : Purpose
  start : Nat := 0
  stop : Option Nat := none
deriving DecidableEq, Repr

/-- The field claims of one channel (Table PWB-2): standing mA, transient excess mA and its end, and the short excess of R171 with its
end, 5 ms after the short began. -/
structure FieldClaim where
  standing : Nat := 0
  excess : Nat := 0
  excessEnd : Nat := 0
  shortExcess : Nat := 0
  shortEnd : Nat := 0
deriving DecidableEq, Repr

/-- A group's measurement and its time above 8,000 mA (R170, R172): since when the model has been above, if it is. -/
structure GroupBudget where
  above : Option Nat := none
  measured : Nat := 0
deriving DecidableEq, Repr

/-- A grant log entry (Table PWB-5). -/
structure GrantEntry where
  time : Nat := 0
  cls : GrantClass
  outcome : GrantOutcome
  reason : Reason
  island : Bool := false
  source : Nat := 0
  group : Option Nat := none
  amount : Nat := 0
  duration : Option Nat := none
  wait : Nat := 0
  seq : Nat := 0
  read : Bool := false
deriving DecidableEq, Repr

/-- Gourd, the power and current budget arbiter. -/
structure Gourd where
  /-- C0, C2 and C3 requests waiting, in arrival order. -/
  c0 : List Request := []
  c1 : List Request := []
  c2 : List Request := []
  c3 : List Request := []
  /-- Logic requests granted since the last coupler frame: the grants take effect in the next one (R168). -/
  granted : List Request := []
  claims : List Claim := []
  field : Store FieldClaim := []
  groups : Store GroupBudget := []
  c2Aged : Bool := false
  pfw : Bool := false
  pMeas : Nat := 0
  /-- The newest 256 grant log entries, newest first. -/
  log : List GrantEntry := []
  logSeq : Nat := 0
  /-- The field claims as the partner has them (R179). -/
  copied : List ClaimCopy := []
deriving DecidableEq, Repr

/-! ## Command processor -/

/-- An open session: slots 0–15 are network sessions, 16 is the service port (R312 to R315). -/
structure Session where
  slot : Nat := 0
  interface : Nat := 0
  roles : Nat := 0
  opened : Nat := 0
  accepted : Nat := 0
  seqIn : Nat := 0
  seqOut : Nat := 0
  lastPacket : Nat := 0
  /-- Trust slot of the credential (R429), 0 for none. -/
  credential : Nat := 0
deriving DecidableEq, Repr

/-- A packet waiting in a command queue (Table CMD-1). -/
structure Packet where
  session : Nat := 0
  opcode : Nat := 0
  tag : Nat := 0
  payload : List Byte := []
  arrived : Nat := 0
deriving DecidableEq, Repr

/-- A command that was started and has no final outcome yet (R319). -/
structure Executing where
  queue : Nat := 0
  session : Nat := 0
  tag : Nat := 0
  opcode : Nat := 0
  /-- It waits for an event and holds no execution place (R319). -/
  blocked : Bool := false
  /-- ACCEPTED_PENDING or BUDGET_DELAYED has been replied, so the outcome is a notification (R309). -/
  pending : Bool := false
  /-- Window of the island its work is in (R13). -/
  island : Nat := 0
  /-- Command-specific object (a channel, a port, an update), to match the outcome. -/
  subject : Nat := 0
  /-- The requests to Gourd whose outcomes it still awaits (R178). -/
  waits : List Nat := []
  /-- Its session has closed: it runs to its end, and its replies are discarded (R316). -/
  closed : Bool := false
  /-- What a force command found for the keys it changed, put back where it ends HUSKED (R310). -/
  undo : List (ForceKey × Option Nat) := []
deriving DecidableEq, Repr

/-- A reply or a notification waiting in a notification queue (R309). -/
structure Reply where
  session : Nat := 0
  tag : Nat := 0
  opcode : Nat := 0
  code : Code
  credit : Nat := 0
  final : Bool := false
  notify : Bool := false
  lost : Bool := false
  whereField : Nat := 0
  ident : Nat := 0
  result : List Byte := []
  seq : Nat := 0
deriving DecidableEq, Repr

/-- A subscription (GMU_SUBSCRIBE, SBK_SUBSCRIBE): opcode, parameter, and whether notifications were dropped (R318). -/
structure Subscription where
  queue : Nat := 0
  session : Nat := 0
  tag : Nat := 0
  opcode : Nat := 0
  param : Nat := 0
  lost : Bool := false
  count : Nat := 0
deriving DecidableEq, Repr

/-- The command processor (R308 to R325). -/
structure Commands where
  sessions : List Session := []
  queues : Store (List Packet) := []
  executing : List Executing := []
  replies : Store (List Reply) := []
  /-- The last packet that each notification queue sent, as the bytes on the wire (R308, R315). -/
  sent : Store (List Byte) := []
  subs : List Subscription := []
  /-- Last queue served in each class (R319). -/
  lastServed : List Nat := []
  /-- Starts in higher classes while a lower class has waited (R319). -/
  starts : Nat := 0
  /-- Service port: nonce of AUTH_CHALLENGE with its time, not yet used (R315). -/
  nonce : Option (Nat × Nat) := none
  /-- Times of the failed responses within 60 s, and whether the lockout stands (R315). -/
  failedAuth : List Nat := []
  lockout : Bool := false
deriving DecidableEq, Repr

/-! ## Seedbank -/

/-- An event record (Table SBK-1); its CODE is the event's, numbered as Config says (R480). -/
structure Record where
  seq : Nat := 0
  time : Nat := 0
  event : Event := .moduleFault
  inst : Nat := 0
  ended : Bool := false
  postLost : Bool := false
  unsync : Bool := false
  pfw : Bool := false
  suppressed : Nat := 0
  subject : Nat := 0
  value1 : Nat := 0
  value2 : Nat := 0
  extra : Nat := 0
deriving DecidableEq, Repr

/-- The rate limiter of one code (R401, R402): tokens in 10^-9 of a token, the time they were counted at, PENDING, LAST_SEQ,
and the time of the last suppression. RATE and BURST as in Table SBK-3. -/
structure Bucket where
  rate : Nat := 0
  burst : Nat := 0
  tokens : Nat := 0
  at_ : Nat := 0
  pending : Nat := 0
  lastSeq : Nat := 0
  suppressedAt : Nat := 0
deriving DecidableEq, Repr

/-- The frozen window of R405. -/
structure Frozen where
  first : Nat := 0
  last : Nat := 0
  session : Nat := 0
  expires : Nat := 0
deriving DecidableEq, Repr

/-- Seedbank, the event recorder. Its flags and counters stand here, apart from the register file of the other islands. -/
structure Seedbank where
  /-- Ring slots by SEQ mod 21,845 (R397). -/
  ring : Store (Option Record) := []
  newest : Nat := 0
  logged : Nat := 0
  /-- The MRAM log, oldest record first, each with its position: 85 to a block, counted since manufacture; and the position written
  next (R398). -/
  log : List (Nat × Record) := []
  logAt : Nat := 0
  /-- The 16-byte headers of the log's blocks (R398). -/
  headers : Store (List Byte) := []
  /-- SEQs lost by overrun since the last flush: first and count (R399). -/
  overrun : Option (Nat × Nat) := none
  /-- Islands whose next record carries POST_LOST, by window (R394). -/
  postLost : List Nat := []
  buckets : Store Bucket := []
  frozen : Option Frozen := none
  /-- A flush runs, up to this SEQ. -/
  flushing : Bool := false
  flushTo : Nat := 0
  flushDue : Bool := false
  /-- When the last flush started (R398). -/
  flushAt : Nat := 0
  flags : Word := 0
  ctrs : Store Word := []
deriving DecidableEq, Repr

/-! ## Hazel -/

/-- A loop (R70 to R91): its descriptor with the parameters in force, its signals and block states, and what HZ_LOOP_STAT and
the exchange area show of it. -/
structure Loop where
  desc : LoopDesc := {}
  /-- Parameter words last written by number, which a read shows (R335); staged words (R91), and PCOMMIT waiting for the loop's next sample. -/
  wrote : List (Nat × Word) := []
  staged : List (Nat × Word) := []
  pcommit : Bool := false
  /-- The program half last applied, and one written since (R81). -/
  prog : LoopWrite := { loop := 0, sp := 0, ff := 0, track := 0, mvMan := 0, modeReq := 0, ctrl := 0, seq := 0 }
  written : Option LoopWrite := none
  seqEcho : Nat := 0
  /-- The operator's mode request, SP_TRACK_PV, set-point and manual output (R83), and a change not yet sampled. -/
  opMode : Nat := 0
  spTrackPv : Bool := false
  opSp : Int := 0
  opMv : Int := 0
  opStaged : Bool := false
  /-- A write of HZ_LOOP_MV since MAN was entered (R87). -/
  mvWritten : Bool := false
  /-- Signals s0 to s31, and the block states by slot (Table HZL-15), Q10.30. -/
  signals : List Int := []
  states : List (List Int) := []
  mode : Nat := 0
  manHold : Bool := false
  seqAtEntry : Nat := 0
  /-- The demand, without and with an injected component; the first is the MV of R86. -/
  base : Int := 0
  mv : Int := 0
  spWork : Int := 0
  /-- The outer loop's last value (R84). -/
  cascade : Option Int := none
  /-- The loop has not run since its start, and begins from the driven value instead of an MV of its own (R99, R101). -/
  fresh : Bool := false
  fromDriven : Bool := false
  /-- Bytes 16 to 31 of the exchange entry as the last completed sample left them, that sample's slot, and those of the sample before
  (R81, R82). -/
  published : List Byte := []
  pubSlot : Nat := 0
  pubBefore : List Byte := []
  casFallback : Bool := false
  tracking : Bool := false
  override : Bool := false
  badIn : Bool := false
  limHi : Bool := false
  limLo : Bool := false
  clampLo : Bool := false
  compliance : Bool := false
  budgetHeld : Bool := false
  intFrozen : Bool := false
  ramping : Bool := false
  unplaced : Bool := false
  /-- Physical pod that a re-placement gave the loop (R104). -/
  placed : Option Nat := none
deriving DecidableEq, Repr

/-- A loop's entry in an open commit batch: what it was before the sample, and the output it drives (R77, R103). -/
structure BatchItem where
  loop : Nat := 0
  prior : Loop := {}
  drive : Option (Nat × Word) := none
deriving DecidableEq, Repr

/-- An injection generator with its ICB (R94 to R96). -/
structure Generator where
  icb : List Byte := []
  state : Nat := 0
  reason : Nat := 0
  /-- Loop samples since the start, LFSR and shifts done, CHIRP phase, and PV0 and MV0. -/
  count : Nat := 0
  lfsr : Nat := 0
  shifts : Nat := 0
  phase : Nat := 0
  pv0 : Int := 0
  mv0 : Int := 0
  begun : Bool := false
  mode : Nat := 0
deriving DecidableEq, Repr

/-- A capture set with its CCB (R97, R98). -/
structure Capture where
  ccb : List Byte := []
  state : Nat := 0
  /-- Samples, oldest first: one list of signal values each. -/
  rows : List (List Int) := []
  /-- A trigger waits for the set's next slot; the trigger slot's time, and the index of its sample. -/
  fire : Bool := false
  trigTime : Nat := 0
  trigIndex : Nat := 0
  remaining : Nat := 0
  truncated : Bool := false
  /-- Bytes in the staging buffer (R98). -/
  staging : Nat := 0
  last : Option Int := none
deriving DecidableEq, Repr

/-- The Hazel control engine. -/
structure Hazel where
  loops : Store Loop := []
  /-- The last sample slot run (R79). -/
  slot : Option Nat := none
  /-- Physical pod of logical pods 1 to 4, 0 for none, and the pods that failed (R103). -/
  podMap : List Nat := [1, 2, 3, 4]
  failedPods : List Nat := []
  batches : Store (List BatchItem) := []
  gens : Store Generator := []
  caps : Store Capture := []
deriving DecidableEq, Repr

/-! ## Grid measurement unit -/

/-- A load-shed trigger's run state (R202): 0 disarmed, 1 armed, 2 timing, 3 fired. -/
structure Trig where
  st : Nat := 0
  /-- The condition (or, when fired, its absence) has been seen, and for how many µs it has held. -/
  counting : Bool := false
  timing : Nat := 0
  firings : Nat := 0
deriving DecidableEq, Repr

/-- The synchroscope (R193 to R199). -/
structure Sync where
  /-- Table GMU-8: 0 IDLE, 1 ARMED, 2 CLOSE_WAIT, 3 CLOSING, 4 CLOSED, 5 ABORTED. -/
  state : Nat := 0
  reason : Nat := 0
  ok : Bool := false
  deadRef : Bool := false
  /-- CLOSE_CH is held off although its task drives it on. -/
  held : Bool := false
  closeCh : Nat := 0
  /-- A held request was released: the channel stays off until its task drives it off (R197). -/
  lockout : Bool := false
  since : Nat := 0
  /-- The frame F of the close record, module time. -/
  frame : Nat := 0
  /-- Slip in µHz, angle in 10^-6 degree, voltage difference in 10^-6 of UNOM, slip acceleration in µHz/s. -/
  slip : Int := 0
  dphi : Int := 0
  du : Int := 0
  acc : Int := 0
  /-- The last slips, newest first, at most 100. -/
  slips : List Int := []
  refValid : Bool := false
  incValid : Bool := false
  /-- A timed close at this time is being measured, and since when the sides have agreed (R199). -/
  measuring : Option Nat := none
  agreed : Option Nat := none
deriving DecidableEq, Repr

/-- A grid event in progress on a voltage set (R189): its start, phases, extreme in 0.01 % of UNOM, and whether it has become
an interruption. -/
structure GridEvent where
  start : Nat := 0
  mask : Nat := 0
  extreme : Nat := 0
  interruption : Bool := false
  /-- Its entry is written; the set has not yet recovered from the dip around an interruption. -/
  closed : Bool := false
deriving DecidableEq, Repr

/-- The last values of an aggregation window (R188): its end, whether a reference frequency was invalid in it, and, one bit for each input,
whether the window was full and free of over-range samples (R183, R192). -/
structure PqResult where
  time : Nat := 0
  flagged : Bool := false
  valid : Nat := 0
  rms : List Nat := []
  power : List (Int × Int × Int) := []
  unbalance : List Nat := []
  frequency : Nat := 0
deriving DecidableEq, Repr

/-- The 10/12-cycle windows of a longer window so far (R188): how many, the sum of the squares of each input's RMS, and the inputs valid in
all of them, one bit each. -/
structure PqSum where
  count : Nat := 0
  squares : List Nat := []
  valid : Nat := 65535
deriving DecidableEq, Repr

/-- The grid measurement unit. -/
structure Gmu where
  /-- Bytes 0x0000–0x0CBF of the indirect tables in force (Table GMU-11), and set-table bytes staged. -/
  table : Store Byte := []
  staged : List (Nat × List Byte) := []
  trigs : Store Trig := []
  sync : Sync := {}
  /-- Shed groups, releases that wait for the boundary, and the number of the boundary they wait for (R207). -/
  shed : Nat := 0
  release : Nat := 0
  releaseGen : Nat := 0
  /-- Groups selected in the present evaluation (R203). -/
  chosen : Nat := 0
  /-- The input area, its address in state memory and its writer, and the time of its last commit (R204). -/
  input : Store Byte := []
  inputBase : Nat := 0
  inputTask : Nat := 0
  inputTime : Option Nat := none
  staleSeen : Bool := false
  /-- The last report: its sequence number, block, measured sets, VALID bitmap, ROCOF in µHz/s. -/
  reportSeq : Nat := 0
  block : List Byte := []
  sets : List SetMeasure := []
  /-- The phasors of GV0–GI7 in mV or mA primary, and the sequence phasors of VS0, VS1, IS0 and IS1 (R186). -/
  phasors : List Phasor := []
  sequences : List Sequences := []
  power : List (Int × Int) := []
  valid : Nat := 0
  rocofFast : Int := 0
  rocofSlow : Int := 0
  /-- Reference frequency of each report, newest first, with its source; none when not VALID (R190). -/
  history : List (Option (Nat × Nat)) := []
  /-- Reports since the windows last restarted (R192), and since each input was last over range (R183). -/
  sinceRestart : Nat := 0
  sinceOver : Store Nat := []
  /-- A reference frequency was invalid in the aggregation window in progress, one bit for each window of Table GMU-4. -/
  refLost : Nat := 0
  /-- What the longer windows of Table GMU-4 aggregate: the 10/12-cycle windows of the 150/180-cycle and of the 10 min window, and the sum
  and number of the reference frequencies of the 10 s window. -/
  sum150 : PqSum := {}
  sumMinutes : PqSum := {}
  freqSum : Nat := 0
  freqCount : Nat := 0
  /-- The sums of the negative- and positive-sequence magnitudes of VS0 and VS1 in the 10/12-cycle window so far (R188). -/
  unbalance : List (Nat × Nat) := []
  rms : List Nat := []
  harmonics : Store (List Word) := []
  pq10 : PqResult := {}
  pq150 : PqResult := {}
  pqMinutes : PqResult := {}
  pqFreq : PqResult := {}
  dips : Store (Option GridEvent) := []
  swells : Store (Option GridEvent) := []
  /-- Event list bytes by entry, and the entry written next. -/
  events : Store (List Byte) := []
  eventNext : Nat := 0
  /-- The state as it was last copied to the partner (R208). -/
  copied : Option GmuCopy := none
deriving DecidableEq, Repr

/-! ## CAN ports -/

/-- What a transmit list entry or a buffer sends (R374, R375, R384). -/
inductive TxSource where
  | object (n : Nat) | send | reference
deriving DecidableEq, Repr

/-- A transmit list entry, with the order in which it was queued. -/
structure TxEntry where
  src : TxSource
  frame : CanFrame
  oneShot : Bool := false
  order : Nat := 0
deriving DecidableEq, Repr

/-- A transmit buffer (CAN_TXB): 0 empty, 1 pending, 2 transmitting, 3 HELD_BUSOFF, and its last outcome. `held`: its frame was held at a bus-off
and goes first (R381). -/
structure TxBuffer where
  state : Nat := 0
  outcome : Nat := 0
  held : Bool := false
  entry : Option TxEntry := none
deriving DecidableEq, Repr

/-- What a transmit object holds beside its descriptor: the last committed SEND count and payload, and whether the bus has
carried it since (R374, R389). -/
structure TxState where
  committed : Bool := false
  send : Nat := 0
  data : List Byte := []
  carried : Bool := false
deriving DecidableEq, Repr

/-- One CAN port. -/
structure CanPort where
  /-- The Gourd claim of R391 is granted; a request for it waits. -/
  enabled : Bool := false
  awaiting : Bool := false
  /-- CAN_STAT.ERRSTATE: 0 active, 1 passive, 2 bus-off, 3 recovering. -/
  errState : Nat := 0
  /-- Until when the port integrates into the bus after a protocol exception (R371). -/
  integrating : Nat := 0
  recoveryWait : Bool := false
  warning : Bool := false
  noPartner : Bool := false
  tec : Nat := 0
  recCount : Nat := 0
  lec : Nat := 0
  ackErrors : Nat := 0
  tdcv : Nat := 0
  objects : List TxObject := []
  tx : Store TxState := []
  list : List TxEntry := []
  nextOrder : Nat := 0
  buffers : List TxBuffer := [{}, {}, {}]
  filters : Store Byte := []
  /-- FIFO record bytes by index, the oldest record's index and the count. -/
  slots : Store (List Byte) := []
  head : Nat := 0
  count : Nat := 0
  rxObjects : Store (List Byte) := []
  overrunPost : Option Nat := none
  /-- Time service: TSTATE, SEQ, the master's p, whether one is heard, ALONE. -/
  tstate : Nat := 0
  seq : Nat := 0
  master : Nat := 0
  masterSeen : Bool := false
  alone : Bool := false
  /-- Module time of the last reference message's SOF, and whether it counts as valid and as acknowledged (R384). -/
  stamp : Option Nat := none
  prevAcked : Bool := false
  /-- The partner was heard as master of this port's own identifier (R390). -/
  partnerMaster : Bool := false
  offset : Int := 0
  /-- Consecutive offsets taken from one master (R387, R363). -/
  measured : Nat := 0
  /-- The time from which no reference message of a higher priority has come (R385), and that from which none has come at all; none once its
  loss was posted (R387). -/
  quietFrom : Nat := 0
  refSince : Option Nat := none
  /-- Base in state memory of the port's receive objects (R379). -/
  rxBase : Nat := 0
deriving DecidableEq, Repr

/-- The CAN ports. -/
structure Can where
  ports : Store CanPort := []
deriving DecidableEq, Repr

/-! ## Peapod -/

/-- A physical lane (PPD_LANE, PPD_LANE_EQ): 0 down, 1 training, 2 in service, 3 spare ready, 4 retired, 5 spare training. -/
structure Lane where
  state : Nat := 0
  logical : Nat := 15
  txPreset : Nat := 0
  rxPreset : Nat := 0
  eyeH : Nat := 0
  eyeW : Nat := 0
  /-- Check errors seen, and the times of the replays of the last 1 ms (R258, R262). -/
  checkErrors : Nat := 0
  replays : List Nat := []
  /-- Next check number expected and sent; skew found at the last ALIGN. -/
  nextCheck : Nat := 0
  skew : Nat := 0
  /-- Blocks sent since the lane came into service, CHECK and ALIGN blocks apart, and how many CHECK and ALIGN blocks went with them (R258). -/
  sent : Nat := 0
  checks : Nat := 0
  aligns : Nat := 0
deriving DecidableEq, Repr

/-- An entry of the pending log (R272). -/
inductive LogEntry where
  | line (tag region index mask : Nat) (data : List Byte) (content : CopyContent)
  | hrec (tag loop : Nat) (data : List Byte)
  | irec (tag : Nat) (data : List Byte) (content : CopyContent)
deriving DecidableEq, Repr

/-- Messages for the partner, in sending order (Table PPD-3). -/
inductive PairMsg where
  | fault | handoverPrepare (boundary : Nat) | handover | role (note : RoleNote) | swapReady
  | challenge (bytes : List Byte)
  | ident (cert : List Byte) (carrier : Nat) (sideB : Bool) (stationId imageHash : Nat) (signature : List Byte)
  | image (im : Image)
  | copy (tag : Nat) (content : CopyContent) | hrec (tag loop : Nat) (commit : Bool) (seq : Nat) (data : List Byte) | commit (tag seq : Nat)
  | time (target instant : Nat) | yield | nak (lane check : Nat) | ack (seq lanes : Nat) | safety (bytes : List Byte) (set : Option (List Byte))
  | prepareAck (boundary : Nat) | heartbeat (block : HeartbeatBlock) | replay (lane check : Nat)
deriving DecidableEq, Repr

/-- The pair logic of the Peapod island (R254 to R281). -/
structure Pair where
  role : Role := .offline
  cause : Nat := 0
  /-- The role decision has been made since reset (R256). -/
  decided : Bool := false
  link : LinkPhase := .down
  /-- PPD_STAT.SPEED: 0 none, 1 6.25 Gb/s, 2 12.5 Gb/s. -/
  speed : Nat := 0
  lanes : List Lane := [{}, {}, {}, {}, {}]
  /-- The partner as its heartbeat and IDENT show it; role 7 is unknown. -/
  partnerRole : Nat := 7
  partnerStation : Nat := 0
  partnerWalnut : Nat := 0
  partnerPrepared : Bool := false
  partnerFault : Bool := false
  partnerNoSpare : Bool := false
  ident : Option IdentData := none
  hbOk : Bool := false
  hbCount : Nat := 0
  hbNsec : Nat := 0
  /-- The count of the next own HEARTBEAT (Table PPD-3). -/
  hbSent : Nat := 0
  /-- The challenge of 48 bytes that this module has set its partner (R261). -/
  challenge : List Byte := []
  /-- Own module time less the partner's in the last heartbeat, in ns of a second, and the link delay in 1/16 ns (R280). -/
  hbLag : Int := 0
  linkDelay : Int := 0
  /-- The link has become READY and the newcomer has not yet stepped to the partner's time (R363). -/
  newcomer : Bool := false
  /-- Retired lanes that RETRAIN_RETIRED has still to retrain, in order (R262). -/
  retrain : List Nat := []
  /-- The logical lane that takes the next striped block, counted from the first in service (R258). -/
  turn : Nat := 0
  /-- CATCHUP has ended: commits stream from the next base-cycle boundary (R276). -/
  streamNext : Bool := false
  /-- The partner's owner line toggles, and the time of its last edge (R265, R270). -/
  partnerLine : Bool := false
  partnerEdge : Nat := 0
  /-- Commits stream to the partner (R276). -/
  streaming : Bool := false
  /-- PPD_SYNC (R276), and the writer tags whose first COMMIT has been acknowledged. -/
  phase : Nat := 0
  remain : Nat := 0
  ackedTags : List Nat := []
  /-- The pending log, oldest entry first, and the highest commit sequence logged (R272). -/
  log : List LogEntry := []
  logged : Nat := 0
  /-- When the last COMMIT of each writer tag was logged (R269). -/
  commitAt : Store Nat := []
  /-- The handover boundary the partner named (R277). -/
  prepared : Option Nat := none
  /-- A handover at the boundary was acknowledged by the partner. -/
  prepareAcked : Bool := false
  /-- The swap the PREPARING module builds: its translated state is complete (R60). -/
  swapReady : Bool := false
  /-- The force choice of the swap in progress (R58). -/
  swapChoice : ForceChoice := .none
  outbox : List PairMsg := []
  /-- PPD_TOFS in 1/16 ns, and since when the offset has been above 20 ns (R280). -/
  offset : Int := 0
  divergedSince : Option Nat := none
  diverged : Bool := false
  speedHeld : Bool := false
  /-- Fewer than three lanes are in service: the module leaves ACTIVE at the next boundary (R263). -/
  lanesShort : Bool := false
  /-- Copy blocks sent since the last base-cycle boundary (PPD_SNAP_PEAK). -/
  cycleBlocks : Nat := 0
deriving DecidableEq, Repr

/-! ## Memory and Sprout -/

/-- A region's lanes (R293 to R295): the retired lane, lane 21 in service, the copy pointer, and the lane erased for good. -/
structure MemRegion where
  retired : Option Nat := none
  spareIn : Bool := false
  copying : Option Nat := none
  erased : Option Nat := none
  /-- Corrections of the last 1 s, and hard faults as time, lane and codeword (R291, R293). -/
  recent : List Nat := []
  hard : List (Nat × Nat × Nat) := []
  /-- An accelerated pass runs, its last claim asked for at this time (R291). -/
  accel : Option Nat := none
deriving DecidableEq, Repr

/-- An entry of the correctable-error log (Table MEM-3). -/
structure MemLogEntry where
  region : Nat := 0
  word : Nat := 0
  lane1 : Nat := 0
  lane2 : Nat := 0
  cls : Nat := 0
  source : Nat := 0
  count : Nat := 0
  first : Nat := 0
  last : Nat := 0
deriving DecidableEq, Repr

/-- An MRAM write that waits for a remap: its use, address, bytes and the result of its verify (R296, R299). -/
structure MramWait where
  use : MramUse
  addr : Nat
  data : List Byte
  verifies : Bool
deriving DecidableEq, Repr

/-- The memory and integrity island. -/
structure Memory where
  /-- The 22 lane symbols of each SRAM codeword by its index across the SRAM (R283). -/
  words : Store (List Byte) := []
  regions : Store MemRegion := []
  log : List MemLogEntry := []
  /-- Hour counts: the minutes of the corrections of each lane, by 22 × region + lane (R292). -/
  hours : Store (List (Nat × Nat)) := []
  /-- MEM_SCRUB_CFG in force in the background engine's pass and in the image scrubber's lap (R306). -/
  passCfg : Word := 0x27100304
  lapCfg : Word := 0x27100304
  /-- The lap in progress has raised its alarm (R290). -/
  lapRaised : Bool := false
  lapStart : Nat := 0
  lapAlarm : Bool := false
  lapMs : Nat := 0
  /-- Scrub position of each region (R289). -/
  scrubAt : Store Nat := []
  /-- What the last access of a requester was given: the bytes read, none written back; absent, it ended in HUSKED (R285). -/
  answer : Option (List Byte) := some []
  /-- The 21 symbols of each MRAM codeword by its index in the physical blocks, and the remap table: spare block and mapped block (R296). -/
  mram : Store (List Byte) := []
  remap : List (Nat × Nat) := []
  /-- A remap in progress: mapped block, the write's address and bytes. -/
  remapping : Option (Nat × Nat × List Byte) := none
  /-- Writes that wait for it, oldest first. -/
  waiting : List MramWait := []
deriving DecidableEq, Repr

/-- The sprout record in MRAM: every part taken out of service and every spare in use (R300). -/
structure SproutRecord where
  coreX : Bool := false
  coreY : Bool := false
  zRole : Nat := 0
  oscs : List Nat := [1, 2]
  oscOut : List Nat := []
  cells : List Nat := [1, 2, 3, 4, 5]
  cellOut : List Nat := []
  ppdLane : Bool := false
  pod : Bool := false
  sprouts : Nat := 0
  /-- Front-ends out of service, with the spare that serves each channel, or the channel that each spare serves. -/
  fes : Store (Bool × Option Nat) := []
  /-- Lanes of each memory region: the retired one and the erased one. -/
  regions : Store (Option Nat × Option Nat) := []
  /-- Physical pods of the logical ones, and those out of service. -/
  podMap : List Nat := [1, 2, 3, 4]
  failedPods : List Nat := []
  /-- Peapod lanes out of service. -/
  lanes : List Nat := []
deriving DecidableEq, Repr

/-- Sprout (R298 to R305). -/
structure Sprout where
  /-- The record as MRAM holds it: a change of the parts in service is saved under its claim (R300, R481). -/
  saved : SproutRecord := {}
  /-- Channels waiting for a bring-in, with whether CH_SPROUT asked for it; the one running (R299). -/
  feQueue : List (Nat × Bool) := []
  feBusy : Option Nat := none
  coreX : Bool := false
  coreY : Bool := false
  /-- 0 spare, 1 serving X, 2 serving Y (SPR_CORE.Z_ROLE). -/
  zRole : Nat := 0
  /-- The pair whose self-test failed and that has not been swapped (R301). -/
  corePending : Option CorePair := none
  coreBusy : Bool := false
  /-- The other pair, whose self-test failed while the swap ran (R299, R301). -/
  coreNext : Option CorePair := none
  /-- A lockstep mismatch waits for the self-reset, or for a reset from outside (R302). -/
  mismatch : Option CorePair := none
  mismatchAt : Nat := 0
  /-- Oscillators in use, those out of service, DIFF in 0.1 ppm and comparisons in a row above 20 ppm (R303). -/
  oscs : List Nat := [1, 2]
  oscOut : List Nat := []
  oscDiff : Int := 0
  oscRun : Nat := 0
  oscBusy : Option Nat := none
  /-- Cells in service (1–6), those out of service, the one cell 6 replaces, each cell's last ESR in % and RIDE (R304, R305). -/
  cells : List Nat := [1, 2, 3, 4, 5]
  cellOut : List Nat := []
  cellBusy : Option Nat := none
  /-- Failed cells that wait for the supervisor's bring-in in progress, in their order (R299). -/
  cellQueue : List Nat := []
  esr : Store Nat := []
  /-- What each cell holds by its last test, in µs of the module's 38 W (R305; log 146). -/
  energy : Store Nat := []
  ride : Nat := 10
  ppdLane : Bool := false
  pod : Bool := false
  sprouts : Nat := 0
deriving DecidableEq, Repr

/-! ## Supervisor -/

/-- The fault record (R450): kind, module time, address, region and syndrome, with its sequence number. -/
structure FaultRecord where
  seq : Nat := 0
  kind : Nat := 0
  time : Nat := 0
  addr : Nat := 0
  region : Nat := 0
  syndrome : Nat := 0
deriving DecidableEq, Repr

/-- A module reset that is scheduled: its cause (Table RST-1) and the time it falls due. -/
structure DueReset where
  cause : Nat := 0
  due : Nat := 0
deriving DecidableEq, Repr

/-- An option set as it leaves the factory: the defaults of Table RST-5, trims 0, SEQ 0, and its CRC-32C (log 46). -/
def factoryOptions : Store Byte :=
  [(0, 0x50), (1, 0x4f), (2, 0x1b), (3, 0x5a), (4, 0x1), (7, 0x4), (513, 0x1), (514, 0x64), (1020, 0x95), (1021, 0x3c), (1022, 0x5a), (1023, 0x4)]

/-- The supervisor (R439 to R458), with what its always-on logic keeps. -/
structure Supervisor where
  /-- The always-on logic has kept its supply since the last start. -/
  alwaysOn : Bool := false
  cause : Nat := 0
  lastIsland : Nat := 0
  /-- Times of the module resets of the last 60 s, on the always-on logic's own count of time, and how far that runs ahead of
  module time. -/
  resets : List Nat := []
  lead : Nat := 0
  /-- RESET_N holds the module in reset; the storm hold runs; the hold until POWER_ON; a start by STORM_RETRY, and its time (R447). -/
  resetN : Bool := false
  storm : Bool := false
  stormHold : Bool := false
  stormRetry : Bool := false
  /-- The time of step 9, from which ROLE_WAIT counts (R256). -/
  upAt : Nat := 0
  stormFrom : Option Nat := none
  /-- Resets counted since POWER_ON (SUP_SNAP_RESETS), dips and island resets. -/
  resetCount : Nat := 0
  dipCount : Nat := 0
  islandCount : Nat := 0
  /-- Supervisor events not yet posted: event, subject, VALUE1, VALUE2. -/
  unposted : List (Event × Nat × Nat × Nat) := []
  dueReset : Option DueReset := none
  step : Nat := 0
  startedAt : Nat := 0
  bootMs : Nat := 0
  trimFault : Bool := false
  trimSrc : Nat := 0
  holdupReady : Bool := false
  holdupFull : Bool := false
  /-- The bank was fully charged when the supply was lost (R454). -/
  lossFull : Bool := false
  /-- PFW raised, and the sequence ended (R455). -/
  pfw : Bool := false
  pfwDone : Bool := false
  /-- Station image booted: false with BOOT_SRC 10 or 11 (R449). -/
  bootSrc : Nat := 0
  clkMode : Nat := 0
  /-- The clock source in effect: 0 own oscillators, 1 carrier, 2 test clock, 3 bypass. -/
  clkUse : Nat := 0
  sideB : Bool := false
  stationValid : Bool := false
  stationId : Nat := 0
  carrier : Nat := 0
  /-- Key sequence: who wrote the first word, and when (R341). -/
  keyBy : Option Requester := none
  keyAt : Nat := 0
  /-- Pair Y's last idle point (R443). -/
  idleAt : Nat := 0
  /-- Supply samples, newest first: SUP_A, SUP_B and the rail, with the runs of Table RST-6 in samples. -/
  voltA : List Nat := []
  voltB : List Nat := []
  aOk : Bool := false
  bOk : Bool := false
  aHigh : Nat := 0
  bHigh : Nat := 0
  aLow : Nat := 0
  bLow : Nat := 0
  aOver : Nat := 0
  bOver : Nat := 0
  railLow : Nat := 0
  railHigh : Nat := 0
  /-- The supply is lost and the holdup bank carries the module, since when. -/
  lostAt : Option Nat := none
  /-- Bytes of the two option copies, of the copy in force and of the staging copy; the fault record's two copies (R450). -/
  opt1 : Store Byte := factoryOptions
  opt2 : Store Byte := factoryOptions
  optUse : Store Byte := []
  optStage : Store Byte := []
  faultA : Option FaultRecord := none
  faultB : Option FaultRecord := none
  /-- A fault record and a committed option copy whose MRAM writes wait for their claims (R452, R481). -/
  faultNext : Option FaultRecord := none
  optNext : Option (Store Byte) := none
  /-- The fuse FIELD_BUILD, blown before a module leaves the factory (R449). -/
  fieldBuild : Bool := true
  /-- The islands being reset alone, by window (R444). -/
  islandReset : List Nat := []
deriving DecidableEq, Repr

/-! ## Walnut -/

/-- A safe input pair (R218 to R220). -/
structure SafePair where
  on : Bool := false
  /-- Both channels have been off together since the pair was last ON, and when the first came on after that. -/
  bothOff : Bool := false
  firstOn : Option Nat := none
  discrepancy : Bool := false
  cross : Bool := false
  /-- Dark pulses in a row at which the even and the odd channel read on (R220). -/
  darkEven : Nat := 0
  darkOdd : Nat := 0
deriving DecidableEq, Repr

/-- A speed input (R221, R222): per half the last pulse and the last complete period, ns. -/
structure SpeedInput where
  lastA : Option Nat := none
  lastB : Option Nat := none
  periodA : Option Nat := none
  periodB : Option Nat := none
  disc : Bool := false
  agreed : Option Nat := none
  /-- The estimate of the last cycle in rpm. -/
  rpm : Nat := 0
deriving DecidableEq, Repr

/-- A safe output (R224 to R229): latched faults, the test running (0 none, 1 dark on the switch, 2 dark on the series element,
3 light), which element the next dark test opens, the time of the last test, and the times before which no dark and no light test starts
(R229). -/
structure SafeOutput where
  short : Bool := false
  mismatchHigh : Bool := false
  mismatchLow : Bool := false
  testFail : Bool := false
  test : Nat := 0
  seriesNext : Bool := false
  tested : Nat := 0
  due : Nat := 0
  lightDue : Nat := 0
deriving DecidableEq, Repr

/-- A safety function (R233 to R236): 0 ENABLED, 1 STOPPING, 2 STOPPED, its cause, a latched fault, t0 and v0. -/
structure SafeFunc where
  st : Nat := 2
  cause : Nat := 9
  fault : Bool := false
  ramp : Bool := false
  t0 : Nat := 0
  v0 : Nat := 0
deriving DecidableEq, Repr

/-- A pending safety parameter set (R251): its bytes, the session that sent it, the partner's CRC in the LOAD reply, and the reply's time. -/
structure PendingSet where
  bytes : List Byte := []
  queue : Nat := 0
  session : Nat := 0
  partnerCrc : Nat := 0
  replied : Nat := 0
deriving DecidableEq, Repr

/-- Walnut, the safety island. -/
structure Walnut where
  /-- Causes of SAFE_STOPPED that hold, and whether the island is LOCKED (R237). -/
  stops : List Nat := []
  locked : Bool := true
  cause : Nat := 1
  halfA : Bool := true
  halfB : Bool := true
  resetJammed : Bool := false
  /-- Filtered states SI00–SI15, and the image the halves latched. -/
  inputs : Nat := 0
  image : Nat := 0
  pairs : Store SafePair := []
  speeds : Store SpeedInput := []
  funcs : Store SafeFunc := []
  outs : Store SafeOutput := []
  /-- Output commands evaluated and not yet cross-checked, and those that the cross-check left; the drives of the output switches and of the
  series elements (R213); readbacks (R230). -/
  evaluated : Nat := 0
  cmd : Nat := 0
  switchOn : Nat := 0
  seriesOn : Nat := 0
  /-- The healthy half has taken over the element drives of the failed one (R232). -/
  drivesTaken : Bool := false
  readback : Nat := 0
  groupOpen0 : Bool := false
  groupOpen1 : Bool := false
  supply0 : Bool := false
  supply1 : Bool := false
  /-- Cycles in a row with a cross-check mismatch, and CROSSCHECK latched with the self-tests running (R231). -/
  mismatches : Nat := 0
  crosscheck : Bool := false
  cycle : Nat := 0
  /-- Module time of the half failure, kept in MRAM (R241). -/
  failTime : Option Nat := none
  /-- The parameter set copies of each half, the set that governs, and the pending one (R250, R251). -/
  copyA1 : List Byte := []
  copyA2 : List Byte := []
  copyB1 : List Byte := []
  copyB2 : List Byte := []
  governing : List Byte := []
  pendingSet : Option PendingSet := none
  /-- Safety messages: own SEQ, the last accepted message and its SEQ, whether one came since the last cycle, and how many in a row
  were missing or discarded (R245). -/
  seqOut : Nat := 0
  lastMsg : List Byte := []
  seqIn : Option Nat := none
  arrived : Bool := false
  lost : Nat := 0
  partnerOk : Bool := false
  msgErr : Nat := 0
  /-- Power-up LOCKED, which the partner's first message ends (R248). -/
  powerUp : Bool := true
  /-- Times of the last dark pulses of TPA and TPB (R219). -/
  darkA : Option Nat := none
  darkB : Option Nat := none
  /-- WNT_STATE to WNT_PAIR as the last completed cycle left them (R253). -/
  shown : List Word := [0x00010703, 0, 0, 0, 0x22222222, 0x99999999, 0, 0xFFFFFFFF, 0, 0, 0]
deriving DecidableEq, Repr

/-! ## Plant network and time -/

/-- A PTP master heard on a port, with the times of its last Announce messages, newest first (R354). -/
structure PtpMaster where
  data : Announce := { source := 0, grandmaster := 0, priority1 := 0, clockClass := 0, accuracy := 0, variance := 0, priority2 := 0, steps := 0 }
  seen : List Nat := []
deriving DecidableEq, Repr

/-- A module record of the discovery table (R353). -/
structure ModuleRecord where
  beacon : Beacon
  heard : Nat := 0
deriving DecidableEq, Repr

/-- A station's entry of the discovery table. -/
structure StationEntry where
  conflict : Bool := false
  first : Option ModuleRecord := none
  second : Option ModuleRecord := none
deriving DecidableEq, Repr

/-- A frame handed to a port's MAC, in sending order. `trailer` is the sequence number of its redundancy control trailer, which every frame of
the PRP pair but PTP messages has (R349); a PTP message carries the clock identity, and times and corrections in 1/16 ns (R354 to R358). -/
inductive NetSent where
  | supervision (port : Nat) (trailer : Option Nat)
  | beacon (port : Nat) (trailer : Option Nat) (certificate : Bool) (bytes : List Byte)
  | ptp (port identity : Nat) (kind : PtpSend) (clockClass : Nat) (correction : Int)
  | followUp (port identity : Nat) (sent : Int)
  | delayResponse (port identity requester : Nat) (received correction : Int)
  | pdelayResponse (port identity requester : Nat) (received : Int)
  | pdelayFollowUp (port identity requester : Nat) (sent correction : Int)
  | launch (port index : Nat) (trailer : Option Nat) (frame : List Byte)
  | arpReply (port : Nat) (trailer : Option Nat) (mac address : Nat)
  | echoReply (port : Nat) (trailer : Option Nat) (octets : Nat)
deriving DecidableEq, Repr

/-- A network port (R346 to R358). -/
structure NetPort where
  linked : Bool := false
  /-- NET_PORT_STAT.SPEED and PTP_STATE. -/
  speed : Nat := 0
  ptp : Nat := 0
  masters : List PtpMaster := []
  /-- Identity of the master the port follows, and of its grandmaster. -/
  master : Option Nat := none
  grandmaster : Nat := 0
  /-- A two-step Sync waits for its Follow_Up: source, sequence and receive time. -/
  syncWait : Option (Nat × Nat × Int) := none
  /-- Latest Sync: receive time less corrected origin; a Delay_Req's send time; mean path delay and offset, 1/16 ns. -/
  forward : Option Int := none
  reqSent : Option Int := none
  delay : Option Int := none
  offset : Option Int := none
  /-- A two-step peer delay response waits for its Follow_Up: source, and receive time less turnaround and correction (R354). -/
  pdelayWait : Option (Nat × Int) := none
  /-- Consecutive measurements from the selected master (R363). -/
  measured : Nat := 0
  /-- Group frames taken in the second in progress, and that second (R348). -/
  stormSecond : Nat := 0
  stormCount : Nat := 0
  /-- Time of the last frame received (R350). -/
  lastFrame : Option Nat := none
  /-- PHY registers and factory latency bytes (Table NET-8), the schedule, and per entry the last post of TT_LATE. -/
  phy : Store Word := []
  latency : Store Byte := []
  schedule : Store Byte := []
  latePost : Store (Option Nat) := []
  /-- Per entry its last launch time served; until when the last frame, with its gap, occupies the port; and the ordinary frames that wait for
  the launches (R367). -/
  launched : Store (Option Nat) := []
  busy : Nat := 0
  waiting : List NetSent := []
deriving DecidableEq, Repr

/-- The plant network and time unit. -/
structure Net where
  ports : Store NetPort := []
  lanA : Bool := false
  lanB : Bool := false
  /-- Since when a failed LAN has carried frames again (R350). -/
  backA : Option Nat := none
  backB : Option Nat := none
  prpSeq : Nat := 0
  /-- Duplicate entries: source, sequence and time (R349); node table: source and last time. -/
  duplicates : List (Nat × Nat × Nat) := []
  nodes : List (Nat × Nat) := []
  delivered : Nat := 0
  beacons : Nat := 0
  cache : List Nat := []
  heldBeacons : List (Beacon × Nat) := []
  lastSent : List (Nat × Nat × Nat) := []
  stations : Store StationEntry := []
  servo : ServoState := .freeRun
  servoCause : Nat := 0
  initAcq : Bool := true
  /-- A port 0–3 in SLAVE, 7 none. -/
  slave : Nat := 7
  /-- TIME_OFS, TIME_FREQ and TIME_REFUSED (R370). -/
  offset : Int := 0
  freq : Int := 0
  /-- The part of the frequency correction that removes no offset (R360), and the corrections of the last 60 s in LOCKED, newest first (R361). -/
  base : Int := 0
  lockFreqs : List Int := []
  refused : Int := 0
  jumpRefused : Bool := false
  /-- The grandmaster followed last, and whether the initial acquisition has stepped for the present master (R363, R365). -/
  followed : Option Nat := none
  initStepped : Bool := false
  /-- Consecutive updates above JUMP_LIMIT, at or below it while refused, and within LOCK_THR. -/
  aboveRun : Nat := 0
  belowRun : Nat := 0
  lockRun : Nat := 0
  holdSince : Nat := 0
  everLocked : Bool := false
  /-- A step accepted by command waits for the servo update (R363); a step with its instant waits (R364), in ns. -/
  acceptJump : Bool := false
  step : Option (Int × Nat) := none
  /-- Module time saved in MRAM (R361), and the seconds latched by TIME_NSEC (R370). -/
  saved : Nat := 0
  secLatch : Nat := 0
  /-- Launch times before this one are not served (R369). -/
  launchFrom : Nat := 0
  domainPrefix : Nat := 0
  cellAddress : List Nat := []
  cellPrefix : List Nat := []
  /-- The NET section of the running image, which holds the frame templates (Table NET-7). -/
  sectionBytes : List Byte := []
  /-- What the last task ends left in each payload source of the schedules, the newest first, with the times of those ends (R366). -/
  sources : Store (List (Nat × List Byte)) := []
  out : List NetSent := []
deriving DecidableEq, Repr

/-! ## Front status panel -/

/-- A request of the panel (R412 to R416). `phase`: 0 queued, 1 its claim is asked for, 2 granted, its record being written,
3 recorded and ready. KIND as in Table PNL-3. -/
structure PanelReq where
  id : Nat := 0
  x : Nat := 0
  y : Nat := 0
  w : Nat := 0
  h : Nat := 0
  kind : Nat := 0
  pixels : List Byte := []
  supersede : Bool := false
  /-- The command that waits for the outcome: queue, session and tag. -/
  from_ : Option (Nat × Nat × Nat) := none
  tag : Nat := 0
  queue : Nat := 0
  phase : Nat := 0
deriving DecidableEq, Repr

/-- A running update: the frames driven, its band and its waveform variant (R410, R412). -/
structure PanelRun where
  req : PanelReq := {}
  frames : Nat := 0
  band : Nat := 0
  variant : Nat := 0
  /-- It stops at the next frame boundary: 0 no, 1 superseded, 2 warning, 3 crack. -/
  stopping : Nat := 0
deriving DecidableEq, Repr

/-- A pixel (R412): start level, target level and frames driven. -/
structure Pixel where
  start : Nat := 0
  target : Nat := 0
  frames : Nat := 0
deriving DecidableEq, Repr

/-- An entry of the dirty-rectangle record (Table PNL-3). -/
structure PanelEntry where
  x : Nat := 0
  y : Nat := 0
  w : Nat := 0
  h : Nat := 0
  state : Nat := 0
  frame : Nat := 0
  kind : Nat := 0
  tag : Nat := 0
  queue : Nat := 0
deriving DecidableEq, Repr

/-- A copy of the dirty-rectangle record (R419). -/
structure PanelRecord where
  seq : Nat := 0
  count : Nat := 0
  time : Nat := 0
  entries : List PanelEntry := []
deriving DecidableEq, Repr

/-- The items of screen 0 (R422): station ID, side, pair role, station state, whether forces stand (R55), and the latest fault. -/
structure ScreenItems where
  station : Nat := 0
  sideB : Bool := false
  role : Role := .offline
  state : Station := .init
  forced : Bool := false
  fault : Option FaultRecord := none
deriving DecidableEq, Repr

/-- The front status panel. -/
structure Panel where
  pixels : Store Pixel := []
  queue : List PanelReq := []
  running : List PanelRun := []
  nextId : Nat := 0
  recordA : PanelRecord := {}
  recordB : PanelRecord := {}
  /-- The last completed image in MRAM, and the time of the last complete update (R417, R419). -/
  image : Store Byte := []
  completed : Option Nat := none
  stamped : Option Nat := none
  temp : Int := 0
  /-- The glass temperature has been measured since the island's release (R421). -/
  tempMeasured : Bool := false
  cold : Bool := false
  hot : Bool := false
  cracked : Bool := false
  crackOpen : Bool := false
  crackOhm : Nat := 0
  measured : Bool := false
  pumps : Bool := false
  discharging : Bool := false
  /-- The power-up redraw: 0 none, 1 waits for its measurements, 2 clears to white, 3 redraws (R421). -/
  redraw : Nat := 0
  redrawRects : List (Nat × Nat × Nat × Nat) := []
  released : Bool := false
  factoryVcom : Nat := 200
  /-- The items that screen 0 was last drawn for; screen 1 is to be drawn, after a restart under R285 or TRIM_FAULT (R422). -/
  shown : Option ScreenItems := none
  faultScreen : Bool := false
deriving DecidableEq, Repr

/-! ## Trust element -/

/-- A credential operation that waits for the running one (R429): its command and what it is. -/
structure CredentialOp where
  queue : Nat := 0
  session : Nat := 0
  tag : Nat := 0
  opcode : Nat := 0
  slot : Nat := 0
  cert : Option Certificate := none
  valid : Bool := false
  /-- What the operation carries besides: the request of a CSR. -/
  bytes : List Byte := []
deriving DecidableEq, Repr

/-- What the factory gave the module: its serial number and its order code, 0 BZ-PSC9-S or 1 BZ-PSC9-C, and its base MAC
address in units of 4 (R4, R345, R347, R425; log 64). -/
structure DeviceIdentity where
  serial : Nat := 0
  order : Nat := 0
  macBlock : Nat := 0
deriving DecidableEq, Repr

/-- The trust element (R424 to R438). -/
structure Trust where
  slots : Store (Option Certificate) := []
  device : DeviceIdentity := {}
  keyOk : Bool := false
  /-- Slot 1 waits for its proof: the session and the time of the install reply (R431). -/
  proof : Option (Nat × Nat) := none
  /-- The credential operation running, and those waiting (R429). -/
  busy : Option CredentialOp := none
  waitingOps : List CredentialOp := []
  /-- Fuses blown (R436), and the version an advance goes to (R437). -/
  fuses : Nat := 0
  advancing : Option Nat := none
  signer : Nat := 0
deriving DecidableEq, Repr

/-! ## The machine -/

/-- Everything the manual gives the module, the queue of waiting commands, and the model's own count of free values (log 3). -/
structure State where
  /-- Commands that wait, first in, first out. -/
  pending : List Instr := []
  /-- The register file: words written to the registers by address and instance, and the values in force of the staged ones. -/
  regs : Store Word := []
  active : Store Word := []
  /-- Staged values that wait for their island's boundary, in write order, each with its register and instance (R334). -/
  staged : List (Nat × Word) := []
  /-- The live counters, and the holding registers of each window's last snapshot (R333, R336). -/
  ctrs : Store Word := []
  snaps : Store (Store Word) := []
  /-- The next free value (log 3). -/
  free : Nat := 0
  /-- Module time in ns (R15). -/
  now : Nat := 0
  own : Ownership := {}
  exe : Exec := {}
  hz : Hazel := {}
  fch : Field := {}
  grd : Gourd := {}
  gmu : Gmu := {}
  wnt : Walnut := {}
  pair : Pair := {}
  mem : Memory := {}
  spr : Sprout := {}
  cmd : Commands := {}
  net : Net := {}
  can : Can := {}
  sbk : Seedbank := {}
  pnl : Panel := {}
  tru : Trust := {}
  sup : Supervisor := {}
deriving DecidableEq, Repr

/-- The machine right after reset: every field at its reset value, no command waiting. No island has been released yet, so every Husk
but the supervisor's and Sprout's holds (R448). -/
def State.reset : State := { own := { held := [1, 2, 3, 4, 5, 6, 7, 8, 9, 10, 11, 12, 13, 14] } }

/-- Why the machine stops. No command of the block stops it: every command of the table has an effect, so this type is not raised. -/
inductive Fault where
  /-- A command's record is not well formed in a way no hardware can offer it; raised by nothing at present (safe). -/
  | malformed
deriving DecidableEq, Repr

/-- Why a command is not run. -/
inductive Refusal where
  /-- The command has no meaning in the model yet; raised by Machine/Dispatch.lean (safe). -/
  | notModelled (mnemonic : String)
deriving DecidableEq, Repr

end Sys2Proof.Machine
end

