-- ==== Sys2Proof/Machine/Store.lean ====
section
/-! DEFINITION. Machine/Store.lean: reading and writing a sparse store, and its canonical form. -/
namespace Sys2Proof.Machine
open Sys2Proof

/-- The value of key `k`: the listed one, else the default of `k`. -/
def storeGet {α : Type} (dflt : Nat → α) : Store α → Nat → α
  | [], k => dflt k
  | (k', v) :: m, k => if k = k' then v else storeGet dflt m k

/-- Insert an entry for key `k` before the first higher key. -/
def storeInsert {α : Type} (k : Nat) (v : α) : Store α → Store α
  | [] => [(k, v)]
  | (k', v') :: m => if k < k' then (k, v) :: (k', v') :: m else (k', v') :: storeInsert k v m

/-- Write `v` at key `k`, keeping the canonical form: the old entry goes, and writing the default leaves none. -/
def storeSet {α : Type} [DecidableEq α] (dflt : Nat → α) (m : Store α) (k : Nat) (v : α) : Store α :=
  let rest := m.filter (fun p => decide (p.1 ≠ k))
  if v = dflt k then rest else storeInsert k v rest

/-- Apply `f` to the value at key `k`. -/
def storeModify {α : Type} [DecidableEq α] (dflt : Nat → α) (m : Store α) (k : Nat) (f : α → α) : Store α :=
  storeSet dflt m k (f (storeGet dflt m k))

/-- Every listed key of `m` is above `k`. -/
def storeAbove {α : Type} (k : Nat) (m : Store α) : Bool := m.all (fun p => decide (k < p.1))

/-- The canonical form: keys strictly rising and no entry equal to its default. -/
def storeWf {α : Type} [DecidableEq α] (dflt : Nat → α) : Store α → Bool
  | [] => true
  | (k, v) :: m => decide (v ≠ dflt k) && storeAbove k m && storeWf dflt m

/-- The keys listed in `m` together with those of `ks`, each once, rising. -/
def storeKeys {α : Type} (m : Store α) (ks : List Nat) : List Nat :=
  ((m.map (·.1)) ++ ks).mergeSort (fun a b => decide (a ≤ b)) |>.dedup

/-- Put bytes into a byte store from address `a`. -/
def putStore (m : Store Byte) (a : Nat) (bs : List Byte) : Store Byte :=
  bs.zipIdx.foldl (fun m p => storeSet (fun _ => 0) m (a + p.2) p.1) m

/-- `n` bytes of a byte store from address `a`. -/
def getStore (m : Store Byte) (a n : Nat) : List Byte := (List.range n).map (fun i => storeGet (fun _ => 0) m (a + i))

end Sys2Proof.Machine
end

