-- ==== Sys2Proof/Machine/Operands.lean ====
section
/-! DEFINITION. Machine/Operands.lean: the codes by which the manual's tables number roles, states, reasons and outcomes, as
registers, packets and records carry them. -/
namespace Sys2Proof.Machine
open Sys2Proof

/-- PPD_STAT.ROLE (R281). -/
def roleCode : Role → Nat
  | .alone => 0 | .active => 1 | .standby => 2 | .syncing => 3 | .preparing => 4 | .orphan => 5 | .offline => 6

/-- EXE_STATE.STATION (R65). -/
def stationCode : Station → Nat
  | .init => 0 | .stop => 1 | .run => 2 | .fault => 3

/-- EXE_STATE.RESTART (R65). -/
def restartCode : Restart → Nat
  | .none => 0 | .cold => 1 | .warm => 2 | .swap => 3

/-- EXE_STATE.STOP_CAUSE (R65). -/
def stopCauseCode : StopCause → Nat
  | .none => 0 | .command => 1 | .taskFault => 2 | .retain => 3 | .image => 4 | .autostartNone => 5

/-- EXE_TASK_CFG.TSTATE (R65). -/
def tstateCode : TState → Nat
  | .idle => 0 | .running => 1 | .fault => 2 | .withheld => 3

/-- Upstream STATE (Table FCD-2). -/
def feStateCode : FeState → Nat
  | .unarmed => 0 | .armed => 1 | .localSafe => 2 | .failed => 3

/-- The front-end state of an upstream STATE field (Table FCD-2). -/
def feStateOf : Nat → FeState
  | 0 => .unarmed | 1 => .armed | 2 => .localSafe | _ => .failed

/-- FGRP_STAT.STATE (R141). -/
def supplyCode : Supply → Nat
  | .ok => 0 | .low => 1 | .missing => 2 | .high => 3

/-- FCH_STAT.BUDGET (R141). -/
def budgetCode : Budget → Nat
  | .granted => 0 | .delayed => 1 | .refused => 2

/-- CLASS of a grant log entry (Table PWB-5). -/
def classCode : GrantClass → Nat
  | .c0 => 0 | .c1 => 1 | .c2 => 2 | .c3 => 3

/-- OUTCOME of a grant log entry (Table PWB-5). -/
def outcomeCode : GrantOutcome → Nat
  | .granted => 0 | .delayed => 1 | .refused => 2

/-- REASON of a grant log entry (Table PWB-6). -/
def reasonCode : Reason → Nat
  | .none => 0 | .groupCont => 1 | .groupPeak => 2 | .groupTime => 3 | .stagger => 4 | .logicCap => 5
  | .c2Age => 6 | .queueFull => 7 | .tooLarge => 8 | .pfw => 9 | .withdrawn => 10 | .supplyMissing => 11

/-- CODE of the status word (Table CMD-2). -/
def codeNumber : Code → Nat
  | .ok => 0x0000 | .acceptedPending => 0x0001 | .badOpcode => 0x0101 | .badLength => 0x0102
  | .badParam => 0x0103 | .badCrc => 0x0104 | .locked => 0x0201 | .notInStop => 0x0202
  | .wrongRole => 0x0203 | .husked => 0x0204 | .queueFull => 0x0301 | .budgetDelayed => 0x0302
  | .budgetRefused => 0x0303 | .busy => 0x0304 | .authFailed => 0x0401 | .signatureInvalid => 0x0402
  | .rollback => 0x0403 | .partnerLost => 0x0501

/-- CLASS of a change report entry (Table EXE-4). -/
def objClassCode : ObjClass → Nat
  | .variable => 0 | .retain => 1 | .timer => 2 | .counter => 3 | .edge => 4 | .forceChannel => 5 | .forceVariable => 6

/-- OUTCOME of a change report entry (Table EXE-4). -/
def changeOutcomeCode : ChangeOutcome → Nat
  | .matched => 0 | .new => 1 | .removed => 2 | .forceKept => 3 | .forceDropped => 4 | .forceCleared => 5 | .modeChanged => 6

/-- The window of an island's registers (Table REG-1); Walnut's two halves share one, and the two sides of the field array share one. -/
def windowOf : Island → Nat
  | .supervisor => 0x0 | .executive => 0x1 | .hazel => 0x2 | .fieldDigital => 0x3 | .fieldAnalogue => 0x3
  | .gourd => 0x4 | .gmu => 0x5 | .walnutA => 0x6 | .walnutB => 0x6 | .peapod => 0x7 | .memory => 0x8
  | .network => 0x9 | .can => 0xA | .seedbank => 0xB | .panel => 0xC | .trust => 0xD | .commands => 0xE

/-- Bytes 0–7 of a force key, as FORCE_LIST returns them (Table CMD-8). -/
def forceKeyNumber : ForceKey → Nat
  | .input c => c | .output c => c | .variable i => i

/-- KIND of a force (Table CMD-8). -/
def forceKind : ForceKey → Nat
  | .input _ => 0 | .output _ => 1 | .variable _ => 2

/-- A grant log entry as its 32 bytes (Table PWB-5). -/
def grantBytes (e : GrantEntry) : List Byte :=
  leBytes 4 (e.time / 1000000000) ++ leBytes 4 (e.time % 1000000000) ++ leBytes 1 (classCode e.cls)
    ++ leBytes 1 (outcomeCode e.outcome) ++ leBytes 1 (reasonCode e.reason) ++ leBytes 1 (b2n e.island)
    ++ leBytes 2 e.source ++ leBytes 2 (e.group.getD 0xFFFF) ++ leBytes 4 e.amount
    ++ leBytes 4 (e.duration.getD 0xFFFFFFFF) ++ leBytes 4 e.wait ++ leBytes 4 e.seq

/-- A change report entry as its 16 bytes (Table EXE-4). -/
def changeBytes (e : ChangeEntry) : List Byte :=
  leBytes 8 e.identity ++ leBytes 1 (objClassCode e.cls) ++ leBytes 1 (changeOutcomeCode e.outcome) ++ leBytes 2 0
    ++ leBytes 4 e.detail

end Sys2Proof.Machine
end

