-- ==== Sys2Proof/Machine/RegTable.lean ====
section
/-! DEFINITION. Machine/RegTable.lean: the register map of the manual as one table: for every register
its address, its value at reset, and which of its bits have which access code (Table SCO-4, Table REG-2). -/
namespace Sys2Proof.Machine
open Sys2Proof

/-- Which select register chooses the instance a register shows (R339 and the chapters' maps). -/
inductive Bank where
  | none | task | loop | frontEnd | group | gmuInput | lane | queue | netPort | canPort
deriving DecidableEq, Repr

/-- One register of the map. `rw`, `w1c`, `wo` and `ro` are the masks of the bits with that access code;
bits in no mask are keep bits, which read their reset value (R332). `mw`: a masked-write register (R331).
`staged`: applied at the island's natural boundary (R334). -/
structure RegSpec where
  addr : Nat
  reset : Nat
  rw : Nat
  w1c : Nat
  wo : Nat
  ro : Nat
  staged : Bool
  mw : Bool
  bank : Bank
deriving DecidableEq, Repr


/-- EXE_STATE (R65). -/
abbrev Reg.exeState : Nat := 0x00010000
/-- EXE_FLAGS (R65). -/
abbrev Reg.exeFlags : Nat := 0x00010004
/-- EXE_TASKSEL (R65). -/
abbrev Reg.exeTasksel : Nat := 0x00010010
/-- EXE_TASK_CFG (R65). -/
abbrev Reg.exeTaskCfg : Nat := 0x00010014
/-- EXE_TASK_TIME (R65). -/
abbrev Reg.exeTaskTime : Nat := 0x00010018
/-- EXE_SNAP (R65). -/
abbrev Reg.exeSnap : Nat := 0x00010020
/-- EXE_SNAP_REL (R65). -/
abbrev Reg.exeSnapRel : Nat := 0x00010024
/-- EXE_SNAP_SKIP (R65). -/
abbrev Reg.exeSnapSkip : Nat := 0x00010028
/-- EXE_SNAP_MAXEXEC (R65). -/
abbrev Reg.exeSnapMaxexec : Nat := 0x0001002C
/-- EXE_FORCE (R65). -/
abbrev Reg.exeForce : Nat := 0x00010030
/-- HZ_STAT (R106). -/
abbrev Reg.hzStat : Nat := 0x00020000
/-- HZ_FLAGS (R106). -/
abbrev Reg.hzFlags : Nat := 0x00020004
/-- HZ_APPLY (R106). -/
abbrev Reg.hzApply : Nat := 0x00020008
/-- HZ_SNAP (R106). -/
abbrev Reg.hzSnap : Nat := 0x00020010
/-- HZ_SNAP_POD1 (R106). -/
abbrev Reg.hzSnapPod1 : Nat := 0x00020014
/-- HZ_SNAP_POD2 (R106). -/
abbrev Reg.hzSnapPod2 : Nat := 0x00020018
/-- HZ_SNAP_POD3 (R106). -/
abbrev Reg.hzSnapPod3 : Nat := 0x0002001C
/-- HZ_SNAP_POD4 (R106). -/
abbrev Reg.hzSnapPod4 : Nat := 0x00020020
/-- HZ_SNAP_POD5 (R106). -/
abbrev Reg.hzSnapPod5 : Nat := 0x00020024
/-- HZ_LOOPSEL (R106). -/
abbrev Reg.hzLoopsel : Nat := 0x00020030
/-- HZ_LOOP_MODE (R106). -/
abbrev Reg.hzLoopMode : Nat := 0x00020034
/-- HZ_LOOP_STAT (R106). -/
abbrev Reg.hzLoopStat : Nat := 0x00020038
/-- HZ_LOOP_SP (R106). -/
abbrev Reg.hzLoopSp : Nat := 0x0002003C
/-- HZ_LOOP_MV (R106). -/
abbrev Reg.hzLoopMv : Nat := 0x00020060
/-- HZ_LOOP_VAL (R106). -/
abbrev Reg.hzLoopVal : Nat := 0x00020064
/-- HZ_LOOP_OUT (R106). -/
abbrev Reg.hzLoopOut : Nat := 0x00020068
/-- HZ_INJ (R106). -/
abbrev Reg.hzInj : Nat := 0x00020070
/-- HZ_INJ_STAT (R106). -/
abbrev Reg.hzInjStat : Nat := 0x00020074
/-- HZ_CAP_STAT (R106). -/
abbrev Reg.hzCapStat : Nat := 0x0002007C
/-- HZ_CAP (R106). -/
abbrev Reg.hzCap : Nat := 0x00020078
/-- HZ_IDX_ADDR (R106). -/
abbrev Reg.hzIdxAddr : Nat := 0x00020080
/-- HZ_IDX_DATA (R106). -/
abbrev Reg.hzIdxData : Nat := 0x00020084
/-- FCH_SEL (R141). -/
abbrev Reg.fchSel : Nat := 0x00030000
/-- FGRP_SEL (R141). -/
abbrev Reg.fgrpSel : Nat := 0x00030004
/-- FCH_APPLY (R141). -/
abbrev Reg.fchApply : Nat := 0x00030008
/-- FCH_SNAP (R141). -/
abbrev Reg.fchSnap : Nat := 0x0003000C
/-- FCH_MODE (R141). -/
abbrev Reg.fchMode : Nat := 0x00030010
/-- FCH_DICFG (R141). -/
abbrev Reg.fchDicfg : Nat := 0x00030014
/-- FCH_DOCFG (R141). -/
abbrev Reg.fchDocfg : Nat := 0x00030018
/-- FCH_STOPCFG (R141). -/
abbrev Reg.fchStopcfg : Nat := 0x0003001C
/-- FCH_PULSECFG (R141). -/
abbrev Reg.fchPulsecfg : Nat := 0x00030020
/-- FCH_CTRL (R141). -/
abbrev Reg.fchCtrl : Nat := 0x00030024
/-- FCH_STAT (R141). -/
abbrev Reg.fchStat : Nat := 0x00030028
/-- FCH_VAL (R141). -/
abbrev Reg.fchVal : Nat := 0x0003002C
/-- FCH_FLAGS (R141). -/
abbrev Reg.fchFlags : Nat := 0x00030030
/-- FCH_SPARE (R141). -/
abbrev Reg.fchSpare : Nat := 0x00030034
/-- FCH_IDX_ADDR (R141). -/
abbrev Reg.fchIdxAddr : Nat := 0x00030038
/-- FCH_IDX_DATA (R141). -/
abbrev Reg.fchIdxData : Nat := 0x0003003C
/-- FCH_SNAP_FRAMEERR (R141). -/
abbrev Reg.fchSnapFrameerr : Nat := 0x00030040
/-- FCH_SNAP_SHORTS (R141). -/
abbrev Reg.fchSnapShorts : Nat := 0x00030044
/-- FGRP_STAT (R141). -/
abbrev Reg.fgrpStat : Nat := 0x00030080
/-- FGRP_FLAGS (R141). -/
abbrev Reg.fgrpFlags : Nat := 0x00030084
/-- FCH_AICFG (R166). -/
abbrev Reg.fchAicfg : Nat := 0x000300A0
/-- FCH_AOCFG (R166). -/
abbrev Reg.fchAocfg : Nat := 0x000300A4
/-- FCH_AOSAFE (R166). -/
abbrev Reg.fchAosafe : Nat := 0x000300A8
/-- FCH_ADIAG (R166). -/
abbrev Reg.fchAdiag : Nat := 0x000300AC
/-- FCH_CAL (R166). -/
abbrev Reg.fchCal : Nat := 0x000300B0
/-- FCH_SNAP_COMPL (R166). -/
abbrev Reg.fchSnapCompl : Nat := 0x00030048
/-- GRD_STAT (R180). -/
abbrev Reg.grdStat : Nat := 0x00040000
/-- GRD_FLAGS (R180). -/
abbrev Reg.grdFlags : Nat := 0x00040004
/-- GRD_APPLY (R180). -/
abbrev Reg.grdApply : Nat := 0x00040008
/-- GRD_SNAP (R180). -/
abbrev Reg.grdSnap : Nat := 0x00040010
/-- GRD_CFG (R180). -/
abbrev Reg.grdCfg : Nat := 0x00040014
/-- GRD_LOGIC_CAP (R180). -/
abbrev Reg.grdLogicCap : Nat := 0x00040018
/-- GRD_LOGIC_MEAS (R180). -/
abbrev Reg.grdLogicMeas : Nat := 0x0004001C
/-- GRD_GRP (R180). -/
abbrev Reg.grdGrp : Nat := 0x00040020
/-- GRD_GRP_MEAS (R180). -/
abbrev Reg.grdGrpMeas : Nat := 0x00040024
/-- GRD_CHLOAD (R180). -/
abbrev Reg.grdChload : Nat := 0x00040028
/-- GRD_SNAP_C1DLY (R180). -/
abbrev Reg.grdSnapC1dly : Nat := 0x0004002C
/-- GRD_SNAP_REF (R180). -/
abbrev Reg.grdSnapRef : Nat := 0x00040030
/-- GRD_SNAP_MAXWAIT (R180). -/
abbrev Reg.grdSnapMaxwait : Nat := 0x00040034
/-- GRD_IDX_ADDR (R180). -/
abbrev Reg.grdIdxAddr : Nat := 0x00040038
/-- GRD_IDX_DATA (R180). -/
abbrev Reg.grdIdxData : Nat := 0x0004003C
/-- GMU_STAT (R212). -/
abbrev Reg.gmuStat : Nat := 0x00050000
/-- GMU_FLAGS (R212). -/
abbrev Reg.gmuFlags : Nat := 0x00050004
/-- GMU_APPLY (R212). -/
abbrev Reg.gmuApply : Nat := 0x00050008
/-- GMU_SNAP (R212). -/
abbrev Reg.gmuSnap : Nat := 0x00050010
/-- GMU_CFG (R212). -/
abbrev Reg.gmuCfg : Nat := 0x00050014
/-- GMU_ROCOF_CFG (R212). -/
abbrev Reg.gmuRocofCfg : Nat := 0x00050018
/-- GMU_INSEL (R212). -/
abbrev Reg.gmuInsel : Nat := 0x0005001C
/-- GMU_INSCALE (R212). -/
abbrev Reg.gmuInscale : Nat := 0x00050020
/-- GMU_INDELAY (R212). -/
abbrev Reg.gmuIndelay : Nat := 0x00050024
/-- GMU_INRMS (R212). -/
abbrev Reg.gmuInrms : Nat := 0x00050028
/-- GMU_FREQ0 (R212). -/
abbrev Reg.gmuFreq0 : Nat := 0x0005002C
/-- GMU_FREQ1 (R212). -/
abbrev Reg.gmuFreq1 : Nat := 0x00050030
/-- GMU_FREQ2 (R212). -/
abbrev Reg.gmuFreq2 : Nat := 0x00050034
/-- GMU_FREQ3 (R212). -/
abbrev Reg.gmuFreq3 : Nat := 0x00050038
/-- GMU_ROCOF (R212). -/
abbrev Reg.gmuRocof : Nat := 0x0005003C
/-- GMU_SYNC_CTRL (R212). -/
abbrev Reg.gmuSyncCtrl : Nat := 0x00050040
/-- GMU_SYNC_STAT (R212). -/
abbrev Reg.gmuSyncStat : Nat := 0x00050044
/-- GMU_SYNC_VAL (R212). -/
abbrev Reg.gmuSyncVal : Nat := 0x00050048
/-- GMU_SHED_LO (R212). -/
abbrev Reg.gmuShedLo : Nat := 0x0005004C
/-- GMU_SHED_HI (R212). -/
abbrev Reg.gmuShedHi : Nat := 0x00050050
/-- GMU_SHED_RELLO (R212). -/
abbrev Reg.gmuShedRello : Nat := 0x00050054
/-- GMU_SHED_RELHI (R212). -/
abbrev Reg.gmuShedRelhi : Nat := 0x00050058
/-- GMU_SHED_CTRL (R212). -/
abbrev Reg.gmuShedCtrl : Nat := 0x0005005C
/-- GMU_IDX_ADDR (R212). -/
abbrev Reg.gmuIdxAddr : Nat := 0x00050060
/-- GMU_IDX_DATA (R212). -/
abbrev Reg.gmuIdxData : Nat := 0x00050064
/-- GMU_SNAP_EVENTS (R212). -/
abbrev Reg.gmuSnapEvents : Nat := 0x00050068
/-- GMU_SNAP_SHEDS (R212). -/
abbrev Reg.gmuSnapSheds : Nat := 0x0005006C
/-- WNT_STATE (R253). -/
abbrev Reg.wntState : Nat := 0x00060000
/-- WNT_CYCLE (R253). -/
abbrev Reg.wntCycle : Nat := 0x00060004
/-- WNT_SI (R253). -/
abbrev Reg.wntSi : Nat := 0x00060008
/-- WNT_SQ (R253). -/
abbrev Reg.wntSq : Nat := 0x0006000C
/-- WNT_FUNC (R253). -/
abbrev Reg.wntFunc : Nat := 0x00060010
/-- WNT_FCAUSE (R253). -/
abbrev Reg.wntFcause : Nat := 0x00060014
/-- WNT_SPEED (R253). -/
abbrev Reg.wntSpeed : Nat := 0x00060018
/-- WNT_DEGR (R253). -/
abbrev Reg.wntDegr : Nat := 0x0006001C
/-- WNT_PARAM (R253). -/
abbrev Reg.wntParam : Nat := 0x00060020
/-- WNT_PEND (R253). -/
abbrev Reg.wntPend : Nat := 0x00060024
/-- WNT_PAIR (R253). -/
abbrev Reg.wntPair : Nat := 0x00060028
/-- WNT_IDX_ADDR (R253). -/
abbrev Reg.wntIdxAddr : Nat := 0x00060080
/-- WNT_IDX_DATA (R253). -/
abbrev Reg.wntIdxData : Nat := 0x00060084
/-- PPD_STAT (R281). -/
abbrev Reg.ppdStat : Nat := 0x00070000
/-- PPD_FLAGS (R281). -/
abbrev Reg.ppdFlags : Nat := 0x00070004
/-- PPD_SNAP (R281). -/
abbrev Reg.ppdSnap : Nat := 0x00070010
/-- PPD_CFG (R281). -/
abbrev Reg.ppdCfg : Nat := 0x00070014
/-- PPD_CTRL (R281). -/
abbrev Reg.ppdCtrl : Nat := 0x00070018
/-- PPD_LANE (R281). -/
abbrev Reg.ppdLane : Nat := 0x0007001C
/-- PPD_LANESEL (R281). -/
abbrev Reg.ppdLanesel : Nat := 0x00070020
/-- PPD_LANE_EQ (R281). -/
abbrev Reg.ppdLaneEq : Nat := 0x00070024
/-- PPD_SYNC (R281). -/
abbrev Reg.ppdSync : Nat := 0x00070028
/-- PPD_SNAP_REPLAY (R281). -/
abbrev Reg.ppdSnapReplay : Nat := 0x0007002C
/-- PPD_SNAP_PEAK (R281). -/
abbrev Reg.ppdSnapPeak : Nat := 0x00070030
/-- PPD_SNAP_ACKMAX (R281). -/
abbrev Reg.ppdSnapAckmax : Nat := 0x00070034
/-- PPD_TOFS (R281). -/
abbrev Reg.ppdTofs : Nat := 0x00070038
/-- PPD_CAP (R281). -/
abbrev Reg.ppdCap : Nat := 0x0007003C
/-- MEM_STAT (R306). -/
abbrev Reg.memStat : Nat := 0x00080000
/-- MEM_FLAGS (R306). -/
abbrev Reg.memFlags : Nat := 0x00080004
/-- MEM_SNAP (R306). -/
abbrev Reg.memSnap : Nat := 0x00080010
/-- MEM_SCRUB_CFG (R306). -/
abbrev Reg.memScrubCfg : Nat := 0x00080014
/-- MEM_LAP (R306). -/
abbrev Reg.memLap : Nat := 0x00080018
/-- MEM_LANE (R306). -/
abbrev Reg.memLane : Nat := 0x0008001C
/-- MEM_COPY (R306). -/
abbrev Reg.memCopy : Nat := 0x00080020
/-- MEM_SNAP_CORR0 (R306). -/
abbrev Reg.memSnapCorr0 : Nat := 0x00080024
/-- MEM_SNAP_CORR1 (R306). -/
abbrev Reg.memSnapCorr1 : Nat := 0x00080028
/-- MEM_SNAP_CORR2 (R306). -/
abbrev Reg.memSnapCorr2 : Nat := 0x0008002C
/-- MEM_SNAP_CORR3 (R306). -/
abbrev Reg.memSnapCorr3 : Nat := 0x00080030
/-- MEM_MRAM (R306). -/
abbrev Reg.memMram : Nat := 0x00080034
/-- MEM_IDX_ADDR (R306). -/
abbrev Reg.memIdxAddr : Nat := 0x00080080
/-- MEM_IDX_DATA (R306). -/
abbrev Reg.memIdxData : Nat := 0x00080084
/-- SPR_STAT (R307). -/
abbrev Reg.sprStat : Nat := 0x000F0000
/-- SPR_FLAGS (R307). -/
abbrev Reg.sprFlags : Nat := 0x000F0004
/-- SPR_SNAP (R307). -/
abbrev Reg.sprSnap : Nat := 0x000F0010
/-- SPR_CFG (R307). -/
abbrev Reg.sprCfg : Nat := 0x000F0014
/-- SPR_CORE (R307). -/
abbrev Reg.sprCore : Nat := 0x000F0018
/-- SPR_OSC (R307). -/
abbrev Reg.sprOsc : Nat := 0x000F001C
/-- SPR_HOLDUP (R307). -/
abbrev Reg.sprHoldup : Nat := 0x000F0020
/-- SPR_SNAP_SPROUTS (R307). -/
abbrev Reg.sprSnapSprouts : Nat := 0x000F0024
/-- CMD_STAT (R325). -/
abbrev Reg.cmdStat : Nat := 0x000E0000
/-- CMD_FLAGS (R325). -/
abbrev Reg.cmdFlags : Nat := 0x000E0004
/-- CMD_SNAP (R325). -/
abbrev Reg.cmdSnap : Nat := 0x000E0010
/-- CMD_CFG (R325). -/
abbrev Reg.cmdCfg : Nat := 0x000E0014
/-- CMD_AGE (R325). -/
abbrev Reg.cmdAge : Nat := 0x000E0018
/-- CMD_QSEL (R325). -/
abbrev Reg.cmdQsel : Nat := 0x000E001C
/-- CMD_QSTAT (R325). -/
abbrev Reg.cmdQstat : Nat := 0x000E0020
/-- CMD_SNAP_RX (R325). -/
abbrev Reg.cmdSnapRx : Nat := 0x000E0024
/-- CMD_SNAP_REFUSED (R325). -/
abbrev Reg.cmdSnapRefused : Nat := 0x000E0028
/-- CMD_SNAP_PROMOTE (R325). -/
abbrev Reg.cmdSnapPromote : Nat := 0x000E002C
/-- SUP_ID (R345). -/
abbrev Reg.supId : Nat := 0x00000000
/-- SUP_FLAGS (R345). -/
abbrev Reg.supFlags : Nat := 0x00000004
/-- SUP_SERIAL_LO (R345). -/
abbrev Reg.supSerialLo : Nat := 0x00000008
/-- SUP_SERIAL_HI (R345). -/
abbrev Reg.supSerialHi : Nat := 0x0000000C
/-- SUP_SNAP (R345). -/
abbrev Reg.supSnap : Nat := 0x00000010
/-- SUP_VERSION (R345). -/
abbrev Reg.supVersion : Nat := 0x00000014
/-- SUP_STRAP (R478). -/
abbrev Reg.supStrap : Nat := 0x00000018
/-- SUP_STATION (R478). -/
abbrev Reg.supStation : Nat := 0x0000001C
/-- SUP_LOCK (R478). -/
abbrev Reg.supLock : Nat := 0x00000020
/-- SUP_LOCK_KEY (R478). -/
abbrev Reg.supLockKey : Nat := 0x00000024
/-- SUP_FAULT_ADDR (R478). -/
abbrev Reg.supFaultAddr : Nat := 0x00000028
/-- SUP_FAULT_SRC (R478). -/
abbrev Reg.supFaultSrc : Nat := 0x0000002C
/-- SUP_SNAP_LOCKV (R478). -/
abbrev Reg.supSnapLockv : Nat := 0x00000030
/-- SUP_SNAP_UNMAPPED (R478). -/
abbrev Reg.supSnapUnmapped : Nat := 0x00000034
/-- NET_STAT (R370). -/
abbrev Reg.netStat : Nat := 0x00090000
/-- NET_FLAGS (R370). -/
abbrev Reg.netFlags : Nat := 0x00090004
/-- NET_APPLY (R370). -/
abbrev Reg.netApply : Nat := 0x00090008
/-- NET_SNAP (R370). -/
abbrev Reg.netSnap : Nat := 0x00090010
/-- NET_PORTSEL (R370). -/
abbrev Reg.netPortsel : Nat := 0x00090014
/-- NET_PORT_STAT (R370). -/
abbrev Reg.netPortStat : Nat := 0x00090018
/-- NET_PORT_CFG (R370). -/
abbrev Reg.netPortCfg : Nat := 0x0009001C
/-- NET_ASYM (R370). -/
abbrev Reg.netAsym : Nat := 0x00090020
/-- TIME_NSEC (R370). -/
abbrev Reg.timeNsec : Nat := 0x00090024
/-- TIME_SEC_LO (R370). -/
abbrev Reg.timeSecLo : Nat := 0x00090028
/-- TIME_SEC_HI (R370). -/
abbrev Reg.timeSecHi : Nat := 0x0009002C
/-- TIME_SERVO (R370). -/
abbrev Reg.timeServo : Nat := 0x00090030
/-- TIME_OFS (R370). -/
abbrev Reg.timeOfs : Nat := 0x00090034
/-- TIME_FREQ (R370). -/
abbrev Reg.timeFreq : Nat := 0x00090038
/-- TIME_REFUSED (R370). -/
abbrev Reg.timeRefused : Nat := 0x0009003C
/-- PTP_CFG (R370). -/
abbrev Reg.ptpCfg : Nat := 0x00090080
/-- PTP_INTV (R370). -/
abbrev Reg.ptpIntv : Nat := 0x00090084
/-- TIME_JUMP (R370). -/
abbrev Reg.timeJump : Nat := 0x00090088
/-- TIME_JUMP_LIM (R370). -/
abbrev Reg.timeJumpLim : Nat := 0x0009008C
/-- NET_SNAP_STORM (R370). -/
abbrev Reg.netSnapStorm : Nat := 0x00090090
/-- NET_SNAP_TTLATE (R370). -/
abbrev Reg.netSnapTtlate : Nat := 0x00090094
/-- NET_SNAP_PTPIGN (R370). -/
abbrev Reg.netSnapPtpign : Nat := 0x00090098
/-- NET_SNAP_BEACONREJ (R370). -/
abbrev Reg.netSnapBeaconrej : Nat := 0x0009009C
/-- NET_IDX_ADDR (R370). -/
abbrev Reg.netIdxAddr : Nat := 0x000900A0
/-- NET_IDX_DATA (R370). -/
abbrev Reg.netIdxData : Nat := 0x000900A4
/-- CAN_PORTSEL (R392). -/
abbrev Reg.canPortsel : Nat := 0x000A0000
/-- CAN_SNAP (R392). -/
abbrev Reg.canSnap : Nat := 0x000A0004
/-- CAN_STAT (R392). -/
abbrev Reg.canStat : Nat := 0x000A0008
/-- CAN_FLAGS (R392). -/
abbrev Reg.canFlags : Nat := 0x000A000C
/-- CAN_APPLY (R392). -/
abbrev Reg.canApply : Nat := 0x000A0010
/-- CAN_NBT (R392). -/
abbrev Reg.canNbt : Nat := 0x000A0014
/-- CAN_DBT (R392). -/
abbrev Reg.canDbt : Nat := 0x000A0018
/-- CAN_TDC (R392). -/
abbrev Reg.canTdc : Nat := 0x000A001C
/-- CAN_CFG (R392). -/
abbrev Reg.canCfg : Nat := 0x000A0020
/-- CAN_CTRL (R392). -/
abbrev Reg.canCtrl : Nat := 0x000A0024
/-- CAN_ERR (R392). -/
abbrev Reg.canErr : Nat := 0x000A0028
/-- CAN_TXB (R392). -/
abbrev Reg.canTxb : Nat := 0x000A002C
/-- CAN_RXF (R392). -/
abbrev Reg.canRxf : Nat := 0x000A0030
/-- CAN_TIME_CFG (R392). -/
abbrev Reg.canTimeCfg : Nat := 0x000A0034
/-- CAN_TIME_STAT (R392). -/
abbrev Reg.canTimeStat : Nat := 0x000A0038
/-- CAN_TOFS (R392). -/
abbrev Reg.canTofs : Nat := 0x000A003C
/-- CAN_SNAP_TX (R392). -/
abbrev Reg.canSnapTx : Nat := 0x000A0080
/-- CAN_SNAP_RX (R392). -/
abbrev Reg.canSnapRx : Nat := 0x000A0084
/-- CAN_SNAP_ERR (R392). -/
abbrev Reg.canSnapErr : Nat := 0x000A0088
/-- CAN_SNAP_OVR (R392). -/
abbrev Reg.canSnapOvr : Nat := 0x000A008C
/-- CAN_IDX_ADDR (R392). -/
abbrev Reg.canIdxAddr : Nat := 0x000A0090
/-- CAN_IDX_DATA (R392). -/
abbrev Reg.canIdxData : Nat := 0x000A0094
/-- SBK_STAT (R407). -/
abbrev Reg.sbkStat : Nat := 0x000B0000
/-- SBK_FLAGS (R407). -/
abbrev Reg.sbkFlags : Nat := 0x000B0004
/-- SBK_SNAP (R407). -/
abbrev Reg.sbkSnap : Nat := 0x000B0010
/-- SBK_SEQ_NEW (R407). -/
abbrev Reg.sbkSeqNew : Nat := 0x000B0014
/-- SBK_SEQ_LOG (R407). -/
abbrev Reg.sbkSeqLog : Nat := 0x000B0018
/-- SBK_SEQ_OLD (R407). -/
abbrev Reg.sbkSeqOld : Nat := 0x000B001C
/-- SBK_FROZEN_FIRST (R407). -/
abbrev Reg.sbkFrozenFirst : Nat := 0x000B0020
/-- SBK_FROZEN_LAST (R407). -/
abbrev Reg.sbkFrozenLast : Nat := 0x000B0024
/-- SBK_SNAP_POSTED (R407). -/
abbrev Reg.sbkSnapPosted : Nat := 0x000B0028
/-- SBK_SNAP_SUPP (R407). -/
abbrev Reg.sbkSnapSupp : Nat := 0x000B002C
/-- SBK_SNAP_LOST (R407). -/
abbrev Reg.sbkSnapLost : Nat := 0x000B0030
/-- SBK_IDX_ADDR (R407). -/
abbrev Reg.sbkIdxAddr : Nat := 0x000B0080
/-- SBK_IDX_DATA (R407). -/
abbrev Reg.sbkIdxData : Nat := 0x000B0084
/-- PNL_STAT (R423). -/
abbrev Reg.pnlStat : Nat := 0x000C0000
/-- PNL_FLAGS (R423). -/
abbrev Reg.pnlFlags : Nat := 0x000C0004
/-- PNL_APPLY (R423). -/
abbrev Reg.pnlApply : Nat := 0x000C0008
/-- PNL_SNAP (R423). -/
abbrev Reg.pnlSnap : Nat := 0x000C0010
/-- PNL_CFG (R423). -/
abbrev Reg.pnlCfg : Nat := 0x000C0014
/-- PNL_VCOM (R423). -/
abbrev Reg.pnlVcom : Nat := 0x000C0018
/-- PNL_CRACK (R423). -/
abbrev Reg.pnlCrack : Nat := 0x000C001C
/-- PNL_SNAP_UPD (R423). -/
abbrev Reg.pnlSnapUpd : Nat := 0x000C0020
/-- PNL_SNAP_REF (R423). -/
abbrev Reg.pnlSnapRef : Nat := 0x000C0024
/-- PNL_IDX_ADDR (R423). -/
abbrev Reg.pnlIdxAddr : Nat := 0x000C0080
/-- PNL_IDX_DATA (R423). -/
abbrev Reg.pnlIdxData : Nat := 0x000C0084
/-- TRU_STAT (R438). -/
abbrev Reg.truStat : Nat := 0x000D0000
/-- TRU_FLAGS (R438). -/
abbrev Reg.truFlags : Nat := 0x000D0004
/-- TRU_SNAP (R438). -/
abbrev Reg.truSnap : Nat := 0x000D0010
/-- TRU_ARB (R438). -/
abbrev Reg.truArb : Nat := 0x000D0014
/-- TRU_SIGNER (R438). -/
abbrev Reg.truSigner : Nat := 0x000D0018
/-- TRU_SNAP_VERIFY (R438). -/
abbrev Reg.truSnapVerify : Nat := 0x000D0020
/-- TRU_SNAP_FAIL (R438). -/
abbrev Reg.truSnapFail : Nat := 0x000D0024
/-- TRU_SNAP_SIGN (R438). -/
abbrev Reg.truSnapSign : Nat := 0x000D0028
/-- SUP_SUPPLY (R458). -/
abbrev Reg.supSupply : Nat := 0x00000080
/-- SUP_PFLAGS (R458). -/
abbrev Reg.supPflags : Nat := 0x00000084
/-- SUP_RST (R458). -/
abbrev Reg.supRst : Nat := 0x00000088
/-- SUP_BOOT (R458). -/
abbrev Reg.supBoot : Nat := 0x0000008C
/-- SUP_RESET (R458). -/
abbrev Reg.supReset : Nat := 0x00000090
/-- SUP_WDOG (R458). -/
abbrev Reg.supWdog : Nat := 0x00000094
/-- SUP_OPT_CTRL (R458). -/
abbrev Reg.supOptCtrl : Nat := 0x00000098
/-- SUP_IDX_ADDR (R458). -/
abbrev Reg.supIdxAddr : Nat := 0x000000A0
/-- SUP_IDX_DATA (R458). -/
abbrev Reg.supIdxData : Nat := 0x000000A4
/-- SUP_SNAP_RESETS (R458). -/
abbrev Reg.supSnapResets : Nat := 0x000000A8
/-- SUP_SNAP_DIPS (R458). -/
abbrev Reg.supSnapDips : Nat := 0x000000AC
/-- SUP_SNAP_ISLRST (R458). -/
abbrev Reg.supSnapIslrst : Nat := 0x000000B0

/-- Occurrence counters of SUP_FLAGS: bit n at this address + 4 × n (R333). -/
abbrev Fcnt.supFlags : Nat := 0x00000040
/-- Occurrence counters of SUP_PFLAGS: bit n at this address + 4 × n (R333). -/
abbrev Fcnt.supPflags : Nat := 0x000000C0
/-- Occurrence counters of EXE_FLAGS: bit n at this address + 4 × n (R333). -/
abbrev Fcnt.exeFlags : Nat := 0x00010040
/-- Occurrence counters of HZ_FLAGS: bit n at this address + 4 × n (R333). -/
abbrev Fcnt.hzFlags : Nat := 0x00020040
/-- Occurrence counters of FCH_FLAGS: bit n at this address + 4 × n (R333). -/
abbrev Fcnt.fchFlags : Nat := 0x00030050
/-- Occurrence counters of FGRP_FLAGS: bit n at this address + 4 × n (R333). -/
abbrev Fcnt.fgrpFlags : Nat := 0x00030090
/-- Occurrence counters of GRD_FLAGS: bit n at this address + 4 × n (R333). -/
abbrev Fcnt.grdFlags : Nat := 0x00040040
/-- Occurrence counters of GMU_FLAGS: bit n at this address + 4 × n (R333). -/
abbrev Fcnt.gmuFlags : Nat := 0x00050080
/-- Occurrence counters of PPD_FLAGS: bit n at this address + 4 × n (R333). -/
abbrev Fcnt.ppdFlags : Nat := 0x00070040
/-- Occurrence counters of MEM_FLAGS: bit n at this address + 4 × n (R333). -/
abbrev Fcnt.memFlags : Nat := 0x00080040
/-- Occurrence counters of SPR_FLAGS: bit n at this address + 4 × n (R333). -/
abbrev Fcnt.sprFlags : Nat := 0x000F0040
/-- Occurrence counters of CMD_FLAGS: bit n at this address + 4 × n (R333). -/
abbrev Fcnt.cmdFlags : Nat := 0x000E0040
/-- Occurrence counters of NET_FLAGS: bit n at this address + 4 × n (R333). -/
abbrev Fcnt.netFlags : Nat := 0x00090040
/-- Occurrence counters of CAN_FLAGS: bit n at this address + 4 × n (R333). -/
abbrev Fcnt.canFlags : Nat := 0x000A0040
/-- Occurrence counters of SBK_FLAGS: bit n at this address + 4 × n (R333). -/
abbrev Fcnt.sbkFlags : Nat := 0x000B0040
/-- Occurrence counters of PNL_FLAGS: bit n at this address + 4 × n (R333). -/
abbrev Fcnt.pnlFlags : Nat := 0x000C0040
/-- Occurrence counters of TRU_FLAGS: bit n at this address + 4 × n (R333). -/
abbrev Fcnt.truFlags : Nat := 0x000D0040

/-- Window 0x00, part 1 of the register map. -/
def regsWin0a : List RegSpec := [
  ⟨0x00000000, 0x90001, 0x0, 0x0, 0x0, 0xFFFFF0FF, false, false, .none⟩,
  ⟨0x00000004, 0x0, 0x0, 0x1F, 0x0, 0x0, false, false, .none⟩,
  ⟨0x00000008, 0x0, 0x0, 0x0, 0x0, 0xFFFFFFFF, false, false, .none⟩,
  ⟨0x0000000C, 0x0, 0x0, 0x0, 0x0, 0xFFFFFFFF, false, false, .none⟩,
  ⟨0x00000010, 0x0, 0x0, 0x0, 0x1, 0xFFFF0000, false, false, .none⟩,
  ⟨0x00000014, 0x1000000, 0x0, 0x0, 0x0, 0xFFFFFFFF, false, false, .none⟩,
  ⟨0x00000018, 0x0, 0x0, 0x0, 0x0, 0x1F, false, false, .none⟩,
  ⟨0x0000001C, 0x0, 0x0, 0x0, 0x0, 0x800007FF, false, false, .none⟩,
  ⟨0x00000020, 0x0, 0x3, 0x0, 0x0, 0xC, false, false, .none⟩,
  ⟨0x00000024, 0x0, 0x0, 0x0, 0xFFFFFFFF, 0x0, false, false, .none⟩,
  ⟨0x00000028, 0x0, 0x0, 0x0, 0x0, 0xFFFFFFFF, false, false, .none⟩,
  ⟨0x0000002C, 0x0, 0x0, 0x0, 0x0, 0x87FFFF00, false, false, .none⟩,
  ⟨0x00000030, 0x0, 0x0, 0x0, 0x0, 0xFFFFFFFF, false, false, .none⟩,
  ⟨0x00000034, 0x0, 0x0, 0x0, 0x0, 0xFFFFFFFF, false, false, .none⟩,
  ⟨0x00000080, 0x0, 0x0, 0x0, 0x0, 0xC3FF03FF, false, false, .none⟩,
  ⟨0x00000084, 0x0, 0x0, 0xFF, 0x0, 0x0, false, false, .none⟩,
  ⟨0x00000088, 0x0, 0x0, 0x0, 0x0, 0xFF0FFF, false, false, .none⟩,
  ⟨0x0000008C, 0x0, 0x0, 0x0, 0x0, 0xFFFF7F0F, false, false, .none⟩,
  ⟨0x00000090, 0x0, 0x0, 0x0, 0xFFFF0F03, 0x0, false, false, .none⟩,
  ⟨0x00000094, 0x0, 0x3FF, 0x0, 0x0, 0x0, false, false, .none⟩,
  ⟨0x00000098, 0x0, 0x0, 0x0, 0x3, 0xFFFF0000, false, false, .none⟩,
  ⟨0x000000A0, 0x0, 0xFFF, 0x0, 0x0, 0x0, false, false, .none⟩,
  ⟨0x000000A4, 0x0, 0xFFFFFFFF, 0x0, 0x0, 0x0, false, false, .none⟩,
  ⟨0x000000A8, 0x0, 0x0, 0x0, 0x0, 0xFFFFFFFF, false, false, .none⟩]

/-- Window 0x00, part 2 of the register map. -/
def regsWin0b : List RegSpec := [
  ⟨0x000000AC, 0x0, 0x0, 0x0, 0x0, 0xFFFFFFFF, false, false, .none⟩,
  ⟨0x000000B0, 0x0, 0x0, 0x0, 0x0, 0xFFFFFFFF, false, false, .none⟩,
  ⟨0x00000040, 0x0, 0x0, 0x0, 0x0, 0xFFFFFFFF, false, false, .none⟩,
  ⟨0x00000044, 0x0, 0x0, 0x0, 0x0, 0xFFFFFFFF, false, false, .none⟩,
  ⟨0x00000048, 0x0, 0x0, 0x0, 0x0, 0xFFFFFFFF, false, false, .none⟩,
  ⟨0x0000004C, 0x0, 0x0, 0x0, 0x0, 0xFFFFFFFF, false, false, .none⟩,
  ⟨0x00000050, 0x0, 0x0, 0x0, 0x0, 0xFFFFFFFF, false, false, .none⟩,
  ⟨0x000000C0, 0x0, 0x0, 0x0, 0x0, 0xFFFFFFFF, false, false, .none⟩,
  ⟨0x000000C4, 0x0, 0x0, 0x0, 0x0, 0xFFFFFFFF, false, false, .none⟩,
  ⟨0x000000C8, 0x0, 0x0, 0x0, 0x0, 0xFFFFFFFF, false, false, .none⟩,
  ⟨0x000000CC, 0x0, 0x0, 0x0, 0x0, 0xFFFFFFFF, false, false, .none⟩,
  ⟨0x000000D0, 0x0, 0x0, 0x0, 0x0, 0xFFFFFFFF, false, false, .none⟩,
  ⟨0x000000D4, 0x0, 0x0, 0x0, 0x0, 0xFFFFFFFF, false, false, .none⟩,
  ⟨0x000000D8, 0x0, 0x0, 0x0, 0x0, 0xFFFFFFFF, false, false, .none⟩,
  ⟨0x000000DC, 0x0, 0x0, 0x0, 0x0, 0xFFFFFFFF, false, false, .none⟩]

/-- The registers of window 0x00. -/
def regsWin0 : List RegSpec := regsWin0a ++ regsWin0b

/-- Window 0x01, part 1 of the register map. -/
def regsWin1a : List RegSpec := [
  ⟨0x00010000, 0x0, 0x0, 0x0, 0x0, 0xF1F3, false, false, .none⟩,
  ⟨0x00010004, 0x0, 0x0, 0x1F, 0x0, 0x0, false, false, .none⟩,
  ⟨0x00010010, 0x0, 0xF, 0x0, 0x0, 0x0, false, false, .none⟩,
  ⟨0x00010014, 0x0, 0x0, 0x0, 0x0, 0xF00FFFFF, false, false, .task⟩,
  ⟨0x00010018, 0x0, 0x0, 0x0, 0x0, 0xFFFFFFFF, false, false, .task⟩,
  ⟨0x00010020, 0x0, 0x0, 0x0, 0x1, 0xFFFF0000, false, false, .none⟩,
  ⟨0x00010024, 0x0, 0x0, 0x0, 0x0, 0xFFFFFFFF, false, false, .task⟩,
  ⟨0x00010028, 0x0, 0x0, 0x0, 0x0, 0xFFFFFFFF, false, false, .task⟩,
  ⟨0x0001002C, 0x0, 0x0, 0x0, 0x0, 0xFFFFFFFF, false, false, .task⟩,
  ⟨0x00010030, 0x0, 0x0, 0x0, 0x0, 0x3FF, false, false, .none⟩,
  ⟨0x00010040, 0x0, 0x0, 0x0, 0x0, 0xFFFFFFFF, false, false, .none⟩,
  ⟨0x00010044, 0x0, 0x0, 0x0, 0x0, 0xFFFFFFFF, false, false, .none⟩,
  ⟨0x00010048, 0x0, 0x0, 0x0, 0x0, 0xFFFFFFFF, false, false, .none⟩,
  ⟨0x0001004C, 0x0, 0x0, 0x0, 0x0, 0xFFFFFFFF, false, false, .none⟩,
  ⟨0x00010050, 0x0, 0x0, 0x0, 0x0, 0xFFFFFFFF, false, false, .none⟩]

/-- The registers of window 0x01. -/
def regsWin1 : List RegSpec := regsWin1a

/-- Window 0x02, part 1 of the register map. -/
def regsWin2a : List RegSpec := [
  ⟨0x00020000, 0xF, 0x0, 0x0, 0x0, 0x1FFF031F, false, false, .none⟩,
  ⟨0x00020004, 0x0, 0x0, 0x7F, 0x0, 0x0, false, false, .none⟩,
  ⟨0x00020008, 0x0, 0x0, 0x0, 0x0, 0xFFFF, false, false, .none⟩,
  ⟨0x00020010, 0x0, 0x0, 0x0, 0x1, 0xFFFF0000, false, false, .none⟩,
  ⟨0x00020014, 0x0, 0x0, 0x0, 0x0, 0xFFFFFFFF, false, false, .none⟩,
  ⟨0x00020018, 0x0, 0x0, 0x0, 0x0, 0xFFFFFFFF, false, false, .none⟩,
  ⟨0x0002001C, 0x0, 0x0, 0x0, 0x0, 0xFFFFFFFF, false, false, .none⟩,
  ⟨0x00020020, 0x0, 0x0, 0x0, 0x0, 0xFFFFFFFF, false, false, .none⟩,
  ⟨0x00020024, 0x0, 0x0, 0x0, 0x0, 0xFFFFFFFF, false, false, .none⟩,
  ⟨0x00020030, 0x0, 0xFFF, 0x0, 0x0, 0x0, false, false, .none⟩,
  ⟨0x00020034, 0x0, 0x7, 0x0, 0xFFFF0100, 0x0, true, true, .loop⟩,
  ⟨0x00020038, 0x0, 0x0, 0x0, 0x0, 0xFFF0FFFF, false, false, .loop⟩,
  ⟨0x0002003C, 0x0, 0xFFFF, 0x0, 0x0, 0x0, true, false, .loop⟩,
  ⟨0x00020060, 0x0, 0xFFFF, 0x0, 0x0, 0x0, true, false, .loop⟩,
  ⟨0x00020064, 0x0, 0x0, 0x0, 0x0, 0xFFFFFFFF, false, false, .loop⟩,
  ⟨0x00020068, 0x0, 0x0, 0x0, 0x0, 0xFFFFFFFF, false, false, .loop⟩,
  ⟨0x00020070, 0x0, 0x3, 0x0, 0x300, 0x0, false, false, .none⟩,
  ⟨0x00020074, 0x0, 0x0, 0x0, 0x0, 0x1F1F1F1F, false, false, .none⟩,
  ⟨0x00020078, 0x0, 0x3, 0x0, 0x700, 0x0, false, false, .none⟩,
  ⟨0x0002007C, 0x0, 0x0, 0x0, 0x0, 0x3030303, false, false, .none⟩,
  ⟨0x00020080, 0x0, 0x3FFFFF, 0x0, 0x0, 0x0, false, false, .none⟩,
  ⟨0x00020084, 0x0, 0xFFFFFFFF, 0x0, 0x0, 0x0, false, false, .none⟩,
  ⟨0x00020040, 0x0, 0x0, 0x0, 0x0, 0xFFFFFFFF, false, false, .none⟩,
  ⟨0x00020044, 0x0, 0x0, 0x0, 0x0, 0xFFFFFFFF, false, false, .none⟩,
  ⟨0x00020048, 0x0, 0x0, 0x0, 0x0, 0xFFFFFFFF, false, false, .none⟩,
  ⟨0x0002004C, 0x0, 0x0, 0x0, 0x0, 0xFFFFFFFF, false, false, .none⟩]

/-- Window 0x02, part 2 of the register map. -/
def regsWin2b : List RegSpec := [
  ⟨0x00020050, 0x0, 0x0, 0x0, 0x0, 0xFFFFFFFF, false, false, .none⟩,
  ⟨0x00020054, 0x0, 0x0, 0x0, 0x0, 0xFFFFFFFF, false, false, .none⟩,
  ⟨0x00020058, 0x0, 0x0, 0x0, 0x0, 0xFFFFFFFF, false, false, .none⟩]

/-- The registers of window 0x02. -/
def regsWin2 : List RegSpec := regsWin2a ++ regsWin2b

/-- Window 0x03, part 1 of the register map. -/
def regsWin3a : List RegSpec := [
  ⟨0x00030000, 0x0, 0xFF, 0x0, 0x0, 0x0, false, false, .none⟩,
  ⟨0x00030004, 0x0, 0xF, 0x0, 0x0, 0x0, false, false, .none⟩,
  ⟨0x00030008, 0x0, 0x0, 0x0, 0x0, 0xFFFF, false, false, .none⟩,
  ⟨0x0003000C, 0x0, 0x0, 0x0, 0x1, 0xFFFF0000, false, false, .none⟩,
  ⟨0x00030010, 0x0, 0xFF, 0x0, 0x0, 0x0, true, false, .frontEnd⟩,
  ⟨0x00030014, 0xA5848, 0x3FFFFFF, 0x0, 0x0, 0x0, true, false, .frontEnd⟩,
  ⟨0x00030018, 0x3, 0x78F, 0x0, 0x0, 0x0, true, false, .frontEnd⟩,
  ⟨0x0003001C, 0x0, 0x7, 0x0, 0x0, 0x0, true, false, .frontEnd⟩,
  ⟨0x00030020, 0xC3501900, 0xFFFFFFC3, 0x0, 0x0, 0x0, true, false, .frontEnd⟩,
  ⟨0x00030024, 0x200, 0x300, 0x0, 0x1, 0x0, false, false, .frontEnd⟩,
  ⟨0x00030028, 0x0, 0x0, 0x0, 0x0, 0xFFC0FFFF, false, false, .frontEnd⟩,
  ⟨0x0003002C, 0x0, 0x0, 0x0, 0x0, 0xFFFFFFFF, false, false, .frontEnd⟩,
  ⟨0x00030030, 0x0, 0x0, 0x3F, 0x0, 0x0, false, false, .frontEnd⟩,
  ⟨0x00030034, 0x0, 0x0, 0x0, 0x0, 0x1FF, false, false, .frontEnd⟩,
  ⟨0x00030038, 0x0, 0xFFF, 0x0, 0x0, 0x0, false, false, .none⟩,
  ⟨0x0003003C, 0x0, 0xFFFFFFFF, 0x0, 0x0, 0x0, false, false, .none⟩,
  ⟨0x00030040, 0x0, 0x0, 0x0, 0x0, 0xFFFFFFFF, false, false, .frontEnd⟩,
  ⟨0x00030044, 0x0, 0x0, 0x0, 0x0, 0xFFFFFFFF, false, false, .frontEnd⟩,
  ⟨0x00030080, 0x220000, 0x0, 0x0, 0x0, 0x3303FF, false, false, .group⟩,
  ⟨0x00030084, 0x0, 0x0, 0xF, 0x0, 0x0, false, false, .group⟩,
  ⟨0x000300A0, 0xA01, 0x3FFFF01, 0x0, 0x0, 0x0, true, false, .frontEnd⟩,
  ⟨0x000300A4, 0x0, 0x33, 0x0, 0x0, 0x0, true, false, .frontEnd⟩,
  ⟨0x000300A8, 0x0, 0xFFFFFFFF, 0x0, 0x0, 0x0, true, false, .frontEnd⟩,
  ⟨0x000300AC, 0x0, 0x0, 0x0, 0x0, 0xFFFFFFFF, false, false, .frontEnd⟩]

/-- Window 0x03, part 2 of the register map. -/
def regsWin3b : List RegSpec := [
  ⟨0x000300B0, 0x0, 0x2, 0x0, 0x0, 0xFF00000C, true, false, .frontEnd⟩,
  ⟨0x00030048, 0x0, 0x0, 0x0, 0x0, 0xFFFFFFFF, false, false, .frontEnd⟩,
  ⟨0x00030050, 0x0, 0x0, 0x0, 0x0, 0xFFFFFFFF, false, false, .frontEnd⟩,
  ⟨0x00030054, 0x0, 0x0, 0x0, 0x0, 0xFFFFFFFF, false, false, .frontEnd⟩,
  ⟨0x00030058, 0x0, 0x0, 0x0, 0x0, 0xFFFFFFFF, false, false, .frontEnd⟩,
  ⟨0x0003005C, 0x0, 0x0, 0x0, 0x0, 0xFFFFFFFF, false, false, .frontEnd⟩,
  ⟨0x00030060, 0x0, 0x0, 0x0, 0x0, 0xFFFFFFFF, false, false, .frontEnd⟩,
  ⟨0x00030064, 0x0, 0x0, 0x0, 0x0, 0xFFFFFFFF, false, false, .frontEnd⟩,
  ⟨0x00030090, 0x0, 0x0, 0x0, 0x0, 0xFFFFFFFF, false, false, .group⟩,
  ⟨0x00030094, 0x0, 0x0, 0x0, 0x0, 0xFFFFFFFF, false, false, .group⟩,
  ⟨0x00030098, 0x0, 0x0, 0x0, 0x0, 0xFFFFFFFF, false, false, .group⟩,
  ⟨0x0003009C, 0x0, 0x0, 0x0, 0x0, 0xFFFFFFFF, false, false, .group⟩]

/-- The registers of window 0x03. -/
def regsWin3 : List RegSpec := regsWin3a ++ regsWin3b

/-- Window 0x04, part 1 of the register map. -/
def regsWin4a : List RegSpec := [
  ⟨0x00040000, 0x0, 0x0, 0x0, 0x0, 0x1FF1F, false, false, .none⟩,
  ⟨0x00040004, 0x0, 0x0, 0x1F, 0x0, 0x0, false, false, .none⟩,
  ⟨0x00040008, 0x0, 0x0, 0x0, 0x0, 0xFFFF, false, false, .none⟩,
  ⟨0x00040010, 0x0, 0x0, 0x0, 0x1, 0xFFFF0000, false, false, .none⟩,
  ⟨0x00040014, 0x320005, 0x83FF001F, 0x0, 0x0, 0x0, true, false, .none⟩,
  ⟨0x00040018, 0xED8, 0xFFF, 0x0, 0x0, 0x0, true, false, .none⟩,
  ⟨0x0004001C, 0x0, 0x0, 0x0, 0x0, 0xFFFFFFFF, false, false, .none⟩,
  ⟨0x00040020, 0x0, 0x0, 0x0, 0x0, 0xFFFFFFFF, false, false, .group⟩,
  ⟨0x00040024, 0x0, 0x0, 0x0, 0x0, 0xFFFFFFFF, false, false, .group⟩,
  ⟨0x00040028, 0x1F4000A, 0x1FF003F, 0x0, 0x0, 0x0, true, false, .frontEnd⟩,
  ⟨0x0004002C, 0x0, 0x0, 0x0, 0x0, 0xFFFFFFFF, false, false, .none⟩,
  ⟨0x00040030, 0x0, 0x0, 0x0, 0x0, 0xFFFFFFFF, false, false, .none⟩,
  ⟨0x00040034, 0x0, 0x0, 0x0, 0x0, 0xFFFFFFFF, false, false, .none⟩,
  ⟨0x00040038, 0x0, 0x1FFF, 0x0, 0x0, 0xFF000000, false, false, .none⟩,
  ⟨0x0004003C, 0x0, 0x0, 0x0, 0x0, 0xFFFFFFFF, false, false, .none⟩,
  ⟨0x00040040, 0x0, 0x0, 0x0, 0x0, 0xFFFFFFFF, false, false, .none⟩,
  ⟨0x00040044, 0x0, 0x0, 0x0, 0x0, 0xFFFFFFFF, false, false, .none⟩,
  ⟨0x00040048, 0x0, 0x0, 0x0, 0x0, 0xFFFFFFFF, false, false, .none⟩,
  ⟨0x0004004C, 0x0, 0x0, 0x0, 0x0, 0xFFFFFFFF, false, false, .none⟩,
  ⟨0x00040050, 0x0, 0x0, 0x0, 0x0, 0xFFFFFFFF, false, false, .none⟩]

/-- The registers of window 0x04. -/
def regsWin4 : List RegSpec := regsWin4a

/-- Window 0x05, part 1 of the register map. -/
def regsWin5a : List RegSpec := [
  ⟨0x00050000, 0x80000, 0x0, 0x0, 0x0, 0xFCFF3F, false, false, .none⟩,
  ⟨0x00050004, 0x0, 0x0, 0x1FF, 0x0, 0x0, false, false, .none⟩,
  ⟨0x00050008, 0x0, 0x0, 0x0, 0x0, 0xFFFF, false, false, .none⟩,
  ⟨0x00050010, 0x0, 0x0, 0x0, 0x1, 0xFFFF0000, false, false, .none⟩,
  ⟨0x00050014, 0x6400, 0x3FFF1, 0x0, 0x0, 0x0, true, false, .none⟩,
  ⟨0x00050018, 0x1F40064, 0x1FF01FF, 0x0, 0x0, 0x0, true, false, .none⟩,
  ⟨0x0005001C, 0x0, 0xF, 0x0, 0x0, 0x0, false, false, .none⟩,
  ⟨0x00050020, 0x3F800000, 0xFFFFFFFF, 0x0, 0x0, 0x0, true, false, .gmuInput⟩,
  ⟨0x00050024, 0x0, 0xFFFFFFFF, 0x0, 0x0, 0x0, true, false, .gmuInput⟩,
  ⟨0x00050028, 0x0, 0x0, 0x0, 0x0, 0xFFFFFFFF, false, false, .gmuInput⟩,
  ⟨0x0005002C, 0x0, 0x0, 0x0, 0x0, 0xFFFFFFFF, false, false, .none⟩,
  ⟨0x00050030, 0x0, 0x0, 0x0, 0x0, 0xFFFFFFFF, false, false, .none⟩,
  ⟨0x00050034, 0x0, 0x0, 0x0, 0x0, 0xFFFFFFFF, false, false, .none⟩,
  ⟨0x00050038, 0x0, 0x0, 0x0, 0x0, 0xFFFFFFFF, false, false, .none⟩,
  ⟨0x0005003C, 0x0, 0x0, 0x0, 0x0, 0xFFFFFFFF, false, false, .none⟩,
  ⟨0x00050040, 0x0, 0x0, 0x0, 0x3, 0x0, false, false, .none⟩,
  ⟨0x00050044, 0x0, 0x0, 0x0, 0x0, 0xFFFFFF00, false, false, .none⟩,
  ⟨0x00050048, 0x0, 0x0, 0x0, 0x0, 0xFFFFFFFF, false, false, .none⟩,
  ⟨0x0005004C, 0x0, 0x0, 0x0, 0x0, 0xFFFFFFFF, false, false, .none⟩,
  ⟨0x00050050, 0x0, 0x0, 0x0, 0x0, 0xFFFFFFFF, false, false, .none⟩,
  ⟨0x00050054, 0x0, 0x0, 0x0, 0xFFFFFFFF, 0x0, false, false, .none⟩,
  ⟨0x00050058, 0x0, 0x0, 0x0, 0xFFFFFFFF, 0x0, false, false, .none⟩,
  ⟨0x0005005C, 0x0, 0x1F, 0x0, 0x300, 0x0, false, false, .none⟩,
  ⟨0x00050060, 0x0, 0x3FFF, 0x0, 0x0, 0x0, false, false, .none⟩]

/-- Window 0x05, part 2 of the register map. -/
def regsWin5b : List RegSpec := [
  ⟨0x00050064, 0x0, 0xFFFFFFFF, 0x0, 0x0, 0x0, false, false, .none⟩,
  ⟨0x00050068, 0x0, 0x0, 0x0, 0x0, 0xFFFFFFFF, false, false, .none⟩,
  ⟨0x0005006C, 0x0, 0x0, 0x0, 0x0, 0xFFFFFFFF, false, false, .none⟩,
  ⟨0x00050080, 0x0, 0x0, 0x0, 0x0, 0xFFFFFFFF, false, false, .none⟩,
  ⟨0x00050084, 0x0, 0x0, 0x0, 0x0, 0xFFFFFFFF, false, false, .none⟩,
  ⟨0x00050088, 0x0, 0x0, 0x0, 0x0, 0xFFFFFFFF, false, false, .none⟩,
  ⟨0x0005008C, 0x0, 0x0, 0x0, 0x0, 0xFFFFFFFF, false, false, .none⟩,
  ⟨0x00050090, 0x0, 0x0, 0x0, 0x0, 0xFFFFFFFF, false, false, .none⟩,
  ⟨0x00050094, 0x0, 0x0, 0x0, 0x0, 0xFFFFFFFF, false, false, .none⟩,
  ⟨0x00050098, 0x0, 0x0, 0x0, 0x0, 0xFFFFFFFF, false, false, .none⟩,
  ⟨0x0005009C, 0x0, 0x0, 0x0, 0x0, 0xFFFFFFFF, false, false, .none⟩,
  ⟨0x000500A0, 0x0, 0x0, 0x0, 0x0, 0xFFFFFFFF, false, false, .none⟩]

/-- The registers of window 0x05. -/
def regsWin5 : List RegSpec := regsWin5a ++ regsWin5b

/-- Window 0x06, part 1 of the register map. -/
def regsWin6a : List RegSpec := [
  ⟨0x00060000, 0x10703, 0x0, 0x0, 0x0, 0x1F0F07, false, false, .none⟩,
  ⟨0x00060004, 0x0, 0x0, 0x0, 0x0, 0xFFFFFFFF, false, false, .none⟩,
  ⟨0x00060008, 0x0, 0x0, 0x0, 0x0, 0xFFFFFF, false, false, .none⟩,
  ⟨0x0006000C, 0x0, 0x0, 0x0, 0x0, 0xFFFFFFF, false, false, .none⟩,
  ⟨0x00060010, 0x22222222, 0x0, 0x0, 0x0, 0xFFFFFFFF, false, false, .none⟩,
  ⟨0x00060014, 0x99999999, 0x0, 0x0, 0x0, 0xFFFFFFFF, false, false, .none⟩,
  ⟨0x00060018, 0x0, 0x0, 0x0, 0x0, 0xFFFFFFFF, false, false, .none⟩,
  ⟨0x0006001C, 0xFFFFFFFF, 0x0, 0x0, 0x0, 0xFFFFFFFF, false, false, .none⟩,
  ⟨0x00060020, 0x0, 0x0, 0x0, 0x0, 0xFFFFFFFF, false, false, .none⟩,
  ⟨0x00060024, 0x0, 0x0, 0x0, 0x0, 0xFFFFFFFF, false, false, .none⟩,
  ⟨0x00060028, 0x0, 0x0, 0x0, 0x0, 0x3FFFF, false, false, .none⟩,
  ⟨0x00060080, 0x0, 0x3FF, 0x0, 0x0, 0x0, false, false, .none⟩,
  ⟨0x00060084, 0x0, 0x0, 0x0, 0x0, 0xFFFFFFFF, false, false, .none⟩]

/-- The registers of window 0x06. -/
def regsWin6 : List RegSpec := regsWin6a

/-- Window 0x07, part 1 of the register map. -/
def regsWin7a : List RegSpec := [
  ⟨0x00070000, 0x706, 0x0, 0x0, 0x0, 0xFFFCF707, false, false, .none⟩,
  ⟨0x00070004, 0x0, 0x0, 0xFFF, 0x0, 0x0, false, false, .none⟩,
  ⟨0x00070010, 0x0, 0x0, 0x0, 0x1, 0xFFFF0000, false, false, .none⟩,
  ⟨0x00070014, 0xC80003, 0xFFFF0003, 0x0, 0x0, 0x0, false, false, .none⟩,
  ⟨0x00070018, 0x0, 0x0, 0x0, 0x301, 0x0, false, false, .none⟩,
  ⟨0x0007001C, 0x0, 0x0, 0x0, 0x0, 0xFFFFF, false, false, .none⟩,
  ⟨0x00070020, 0x0, 0x7, 0x0, 0x0, 0x0, false, false, .none⟩,
  ⟨0x00070024, 0xF0000, 0x0, 0x0, 0x0, 0xFF0FFFFF, false, false, .lane⟩,
  ⟨0x00070028, 0x0, 0x0, 0x0, 0x0, 0xF0FFFFFF, false, false, .none⟩,
  ⟨0x0007002C, 0x0, 0x0, 0x0, 0x0, 0xFFFFFFFF, false, false, .none⟩,
  ⟨0x00070030, 0x0, 0x0, 0x0, 0x0, 0xFFFFFFFF, false, false, .none⟩,
  ⟨0x00070034, 0x0, 0x0, 0x0, 0x0, 0xFFFFFFFF, false, false, .none⟩,
  ⟨0x00070038, 0x0, 0x0, 0x0, 0x0, 0xFFFFFFFF, false, false, .none⟩,
  ⟨0x0007003C, 0x0, 0x0, 0x0, 0x0, 0xFFFFFFFF, false, false, .none⟩,
  ⟨0x00070040, 0x0, 0x0, 0x0, 0x0, 0xFFFFFFFF, false, false, .none⟩,
  ⟨0x00070044, 0x0, 0x0, 0x0, 0x0, 0xFFFFFFFF, false, false, .none⟩,
  ⟨0x00070048, 0x0, 0x0, 0x0, 0x0, 0xFFFFFFFF, false, false, .none⟩,
  ⟨0x0007004C, 0x0, 0x0, 0x0, 0x0, 0xFFFFFFFF, false, false, .none⟩,
  ⟨0x00070050, 0x0, 0x0, 0x0, 0x0, 0xFFFFFFFF, false, false, .none⟩,
  ⟨0x00070054, 0x0, 0x0, 0x0, 0x0, 0xFFFFFFFF, false, false, .none⟩,
  ⟨0x00070058, 0x0, 0x0, 0x0, 0x0, 0xFFFFFFFF, false, false, .none⟩,
  ⟨0x0007005C, 0x0, 0x0, 0x0, 0x0, 0xFFFFFFFF, false, false, .none⟩,
  ⟨0x00070060, 0x0, 0x0, 0x0, 0x0, 0xFFFFFFFF, false, false, .none⟩,
  ⟨0x00070064, 0x0, 0x0, 0x0, 0x0, 0xFFFFFFFF, false, false, .none⟩]

/-- Window 0x07, part 2 of the register map. -/
def regsWin7b : List RegSpec := [
  ⟨0x00070068, 0x0, 0x0, 0x0, 0x0, 0xFFFFFFFF, false, false, .none⟩,
  ⟨0x0007006C, 0x0, 0x0, 0x0, 0x0, 0xFFFFFFFF, false, false, .none⟩]

/-- The registers of window 0x07. -/
def regsWin7 : List RegSpec := regsWin7a ++ regsWin7b

/-- Window 0x08, part 1 of the register map. -/
def regsWin8a : List RegSpec := [
  ⟨0x00080000, 0x0, 0x0, 0x0, 0x0, 0x1F01FF, false, false, .none⟩,
  ⟨0x00080004, 0x0, 0x0, 0x3FF, 0x0, 0x0, false, false, .none⟩,
  ⟨0x00080010, 0x0, 0x0, 0x0, 0x1, 0xFFFF0000, false, false, .none⟩,
  ⟨0x00080014, 0x27100304, 0xFFFF033F, 0x0, 0x0, 0x0, false, false, .none⟩,
  ⟨0x00080018, 0x0, 0x0, 0x0, 0x0, 0xFFFFFFFF, false, false, .none⟩,
  ⟨0x0008001C, 0x1F1F1F1F, 0x0, 0x0, 0x0, 0xFFFFFFFF, false, false, .none⟩,
  ⟨0x00080020, 0x0, 0x0, 0x0, 0x0, 0xC03FFFFF, false, false, .none⟩,
  ⟨0x00080024, 0x0, 0x0, 0x0, 0x0, 0xFFFFFFFF, false, false, .none⟩,
  ⟨0x00080028, 0x0, 0x0, 0x0, 0x0, 0xFFFFFFFF, false, false, .none⟩,
  ⟨0x0008002C, 0x0, 0x0, 0x0, 0x0, 0xFFFFFFFF, false, false, .none⟩,
  ⟨0x00080030, 0x0, 0x0, 0x0, 0x0, 0xFFFFFFFF, false, false, .none⟩,
  ⟨0x00080034, 0xA40, 0x0, 0x0, 0x0, 0xFFFFFFFF, false, false, .none⟩,
  ⟨0x00080080, 0x0, 0x3FFF, 0x0, 0x0, 0x0, false, false, .none⟩,
  ⟨0x00080084, 0x0, 0x0, 0x0, 0x0, 0xFFFFFFFF, false, false, .none⟩,
  ⟨0x00080040, 0x0, 0x0, 0x0, 0x0, 0xFFFFFFFF, false, false, .none⟩,
  ⟨0x00080044, 0x0, 0x0, 0x0, 0x0, 0xFFFFFFFF, false, false, .none⟩,
  ⟨0x00080048, 0x0, 0x0, 0x0, 0x0, 0xFFFFFFFF, false, false, .none⟩,
  ⟨0x0008004C, 0x0, 0x0, 0x0, 0x0, 0xFFFFFFFF, false, false, .none⟩,
  ⟨0x00080050, 0x0, 0x0, 0x0, 0x0, 0xFFFFFFFF, false, false, .none⟩,
  ⟨0x00080054, 0x0, 0x0, 0x0, 0x0, 0xFFFFFFFF, false, false, .none⟩,
  ⟨0x00080058, 0x0, 0x0, 0x0, 0x0, 0xFFFFFFFF, false, false, .none⟩,
  ⟨0x0008005C, 0x0, 0x0, 0x0, 0x0, 0xFFFFFFFF, false, false, .none⟩,
  ⟨0x00080060, 0x0, 0x0, 0x0, 0x0, 0xFFFFFFFF, false, false, .none⟩,
  ⟨0x00080064, 0x0, 0x0, 0x0, 0x0, 0xFFFFFFFF, false, false, .none⟩]

/-- The registers of window 0x08. -/
def regsWin8 : List RegSpec := regsWin8a

/-- Window 0x09, part 1 of the register map. -/
def regsWin9a : List RegSpec := [
  ⟨0x00090000, 0x70000, 0x0, 0x0, 0x0, 0x707CF, false, false, .none⟩,
  ⟨0x00090004, 0x0, 0x0, 0x7FF, 0x0, 0x0, false, false, .none⟩,
  ⟨0x00090008, 0x0, 0x0, 0x0, 0x0, 0xFFFF, false, false, .none⟩,
  ⟨0x00090010, 0x0, 0x0, 0x0, 0x1, 0xFFFF0000, false, false, .none⟩,
  ⟨0x00090014, 0x0, 0x3, 0x0, 0x0, 0x0, false, false, .none⟩,
  ⟨0x00090018, 0x0, 0x0, 0x0, 0x0, 0xF07, false, false, .netPort⟩,
  ⟨0x0009001C, 0x3E8B, 0x3FFFF, 0x0, 0x0, 0x0, true, false, .netPort⟩,
  ⟨0x00090020, 0x0, 0xFFFFFFFF, 0x0, 0x0, 0x0, true, false, .netPort⟩,
  ⟨0x00090024, 0x0, 0x0, 0x0, 0x0, 0xFFFFFFFF, false, false, .none⟩,
  ⟨0x00090028, 0x0, 0x0, 0x0, 0x0, 0xFFFFFFFF, false, false, .none⟩,
  ⟨0x0009002C, 0x0, 0x0, 0x0, 0x0, 0xFFFFFFFF, false, false, .none⟩,
  ⟨0x00090030, 0xF8001000, 0x0, 0x0, 0x0, 0xFF0F1007, false, false, .none⟩,
  ⟨0x00090034, 0x0, 0x0, 0x0, 0x0, 0xFFFFFFFF, false, false, .none⟩,
  ⟨0x00090038, 0x0, 0x0, 0x0, 0x0, 0xFFFFFFFF, false, false, .none⟩,
  ⟨0x0009003C, 0x0, 0x0, 0x0, 0x0, 0xFFFFFFFF, false, false, .none⟩,
  ⟨0x00090080, 0xF8F80100, 0xFFFF017F, 0x0, 0x0, 0x0, true, false, .none⟩,
  ⟨0x00090084, 0xFC00FC, 0xFFFFFF, 0x0, 0x0, 0x0, true, false, .none⟩,
  ⟨0x00090088, 0x78280A0, 0xFFFFFFF0, 0x0, 0x0, 0x0, true, false, .none⟩,
  ⟨0x0009008C, 0x3E8, 0xFFFFF, 0x0, 0x0, 0x0, true, false, .none⟩,
  ⟨0x00090090, 0x0, 0x0, 0x0, 0x0, 0xFFFFFFFF, false, false, .netPort⟩,
  ⟨0x00090094, 0x0, 0x0, 0x0, 0x0, 0xFFFFFFFF, false, false, .netPort⟩,
  ⟨0x00090098, 0x0, 0x0, 0x0, 0x0, 0xFFFFFFFF, false, false, .netPort⟩,
  ⟨0x0009009C, 0x0, 0x0, 0x0, 0x0, 0xFFFFFFFF, false, false, .none⟩,
  ⟨0x000900A0, 0x0, 0x3FFFF, 0x0, 0x0, 0x0, false, false, .none⟩]

/-- Window 0x09, part 2 of the register map. -/
def regsWin9b : List RegSpec := [
  ⟨0x000900A4, 0x0, 0xFFFFFFFF, 0x0, 0x0, 0x0, false, false, .none⟩,
  ⟨0x00090040, 0x0, 0x0, 0x0, 0x0, 0xFFFFFFFF, false, false, .none⟩,
  ⟨0x00090044, 0x0, 0x0, 0x0, 0x0, 0xFFFFFFFF, false, false, .none⟩,
  ⟨0x00090048, 0x0, 0x0, 0x0, 0x0, 0xFFFFFFFF, false, false, .none⟩,
  ⟨0x0009004C, 0x0, 0x0, 0x0, 0x0, 0xFFFFFFFF, false, false, .none⟩,
  ⟨0x00090050, 0x0, 0x0, 0x0, 0x0, 0xFFFFFFFF, false, false, .none⟩,
  ⟨0x00090054, 0x0, 0x0, 0x0, 0x0, 0xFFFFFFFF, false, false, .none⟩,
  ⟨0x00090058, 0x0, 0x0, 0x0, 0x0, 0xFFFFFFFF, false, false, .none⟩,
  ⟨0x0009005C, 0x0, 0x0, 0x0, 0x0, 0xFFFFFFFF, false, false, .none⟩,
  ⟨0x00090060, 0x0, 0x0, 0x0, 0x0, 0xFFFFFFFF, false, false, .none⟩,
  ⟨0x00090064, 0x0, 0x0, 0x0, 0x0, 0xFFFFFFFF, false, false, .none⟩,
  ⟨0x00090068, 0x0, 0x0, 0x0, 0x0, 0xFFFFFFFF, false, false, .none⟩]

/-- The registers of window 0x09. -/
def regsWin9 : List RegSpec := regsWin9a ++ regsWin9b

/-- Window 0x0A, part 1 of the register map. -/
def regsWinAa : List RegSpec := [
  ⟨0x000A0000, 0x0, 0x3, 0x0, 0x0, 0x0, false, false, .none⟩,
  ⟨0x000A0004, 0x0, 0x0, 0x0, 0x1, 0xFFFF0000, false, false, .none⟩,
  ⟨0x000A0008, 0x0, 0x0, 0x0, 0x0, 0x13F, false, false, .canPort⟩,
  ⟨0x000A000C, 0x0, 0x0, 0x7FF, 0x0, 0x0, false, false, .canPort⟩,
  ⟨0x000A0010, 0x0, 0x0, 0x0, 0x0, 0xFFFF, false, false, .canPort⟩,
  ⟨0x000A0014, 0x1E3CF801, 0xFFFFFCFF, 0x0, 0x0, 0x0, true, false, .canPort⟩,
  ⟨0x000A0018, 0x771E0000, 0xFF1F001F, 0x0, 0x0, 0x0, true, false, .canPort⟩,
  ⟨0x000A001C, 0x8020, 0x807F, 0x0, 0x0, 0xFF0000, true, false, .canPort⟩,
  ⟨0x000A0020, 0x42, 0xFF, 0x0, 0x0, 0x0, true, false, .canPort⟩,
  ⟨0x000A0024, 0x0, 0x0, 0x0, 0x7, 0x0, false, false, .canPort⟩,
  ⟨0x000A0028, 0x0, 0x0, 0x0, 0x0, 0x7FF00FF, false, false, .canPort⟩,
  ⟨0x000A002C, 0x0, 0x0, 0x0, 0x0, 0xFFFFFFFF, false, false, .canPort⟩,
  ⟨0x000A0030, 0x0, 0x0, 0x0, 0x0, 0x3F7F, false, false, .canPort⟩,
  ⟨0x000A0034, 0x2032700, 0xFFFFFFFF, 0x0, 0x0, 0x0, true, false, .canPort⟩,
  ⟨0x000A0038, 0x0, 0x0, 0x0, 0x0, 0xFF7F, false, false, .canPort⟩,
  ⟨0x000A003C, 0x0, 0x0, 0x0, 0x0, 0xFFFFFFFF, false, false, .canPort⟩,
  ⟨0x000A0080, 0x0, 0x0, 0x0, 0x0, 0xFFFFFFFF, false, false, .canPort⟩,
  ⟨0x000A0084, 0x0, 0x0, 0x0, 0x0, 0xFFFFFFFF, false, false, .canPort⟩,
  ⟨0x000A0088, 0x0, 0x0, 0x0, 0x0, 0xFFFFFFFF, false, false, .canPort⟩,
  ⟨0x000A008C, 0x0, 0x0, 0x0, 0x0, 0xFFFFFFFF, false, false, .canPort⟩,
  ⟨0x000A0090, 0x0, 0x3FFF, 0x0, 0x0, 0x0, false, false, .none⟩,
  ⟨0x000A0094, 0x0, 0xFFFFFFFF, 0x0, 0x0, 0x0, false, false, .none⟩,
  ⟨0x000A0040, 0x0, 0x0, 0x0, 0x0, 0xFFFFFFFF, false, false, .canPort⟩,
  ⟨0x000A0044, 0x0, 0x0, 0x0, 0x0, 0xFFFFFFFF, false, false, .canPort⟩]

/-- Window 0x0A, part 2 of the register map. -/
def regsWinAb : List RegSpec := [
  ⟨0x000A0048, 0x0, 0x0, 0x0, 0x0, 0xFFFFFFFF, false, false, .canPort⟩,
  ⟨0x000A004C, 0x0, 0x0, 0x0, 0x0, 0xFFFFFFFF, false, false, .canPort⟩,
  ⟨0x000A0050, 0x0, 0x0, 0x0, 0x0, 0xFFFFFFFF, false, false, .canPort⟩,
  ⟨0x000A0054, 0x0, 0x0, 0x0, 0x0, 0xFFFFFFFF, false, false, .canPort⟩,
  ⟨0x000A0058, 0x0, 0x0, 0x0, 0x0, 0xFFFFFFFF, false, false, .canPort⟩,
  ⟨0x000A005C, 0x0, 0x0, 0x0, 0x0, 0xFFFFFFFF, false, false, .canPort⟩,
  ⟨0x000A0060, 0x0, 0x0, 0x0, 0x0, 0xFFFFFFFF, false, false, .canPort⟩,
  ⟨0x000A0064, 0x0, 0x0, 0x0, 0x0, 0xFFFFFFFF, false, false, .canPort⟩,
  ⟨0x000A0068, 0x0, 0x0, 0x0, 0x0, 0xFFFFFFFF, false, false, .canPort⟩]

/-- The registers of window 0x0A. -/
def regsWinA : List RegSpec := regsWinAa ++ regsWinAb

/-- Window 0x0B, part 1 of the register map. -/
def regsWinBa : List RegSpec := [
  ⟨0x000B0000, 0x0, 0x0, 0x0, 0x0, 0xFF07FF, false, false, .none⟩,
  ⟨0x000B0004, 0x0, 0x0, 0x3F, 0x0, 0x0, false, false, .none⟩,
  ⟨0x000B0010, 0x0, 0x0, 0x0, 0x1, 0xFFFF0000, false, false, .none⟩,
  ⟨0x000B0014, 0x0, 0x0, 0x0, 0x0, 0xFFFFFFFF, false, false, .none⟩,
  ⟨0x000B0018, 0x0, 0x0, 0x0, 0x0, 0xFFFFFFFF, false, false, .none⟩,
  ⟨0x000B001C, 0x0, 0x0, 0x0, 0x0, 0xFFFFFFFF, false, false, .none⟩,
  ⟨0x000B0020, 0x0, 0x0, 0x0, 0x0, 0xFFFFFFFF, false, false, .none⟩,
  ⟨0x000B0024, 0x0, 0x0, 0x0, 0x0, 0xFFFFFFFF, false, false, .none⟩,
  ⟨0x000B0028, 0x0, 0x0, 0x0, 0x0, 0xFFFFFFFF, false, false, .none⟩,
  ⟨0x000B002C, 0x0, 0x0, 0x0, 0x0, 0xFFFFFFFF, false, false, .none⟩,
  ⟨0x000B0030, 0x0, 0x0, 0x0, 0x0, 0xFFFFFFFF, false, false, .none⟩,
  ⟨0x000B0080, 0x0, 0x1FFFFF, 0x0, 0x0, 0x0, false, false, .none⟩,
  ⟨0x000B0084, 0x0, 0xFFFFFFFF, 0x0, 0x0, 0x0, false, false, .none⟩,
  ⟨0x000B0040, 0x0, 0x0, 0x0, 0x0, 0xFFFFFFFF, false, false, .none⟩,
  ⟨0x000B0044, 0x0, 0x0, 0x0, 0x0, 0xFFFFFFFF, false, false, .none⟩,
  ⟨0x000B0048, 0x0, 0x0, 0x0, 0x0, 0xFFFFFFFF, false, false, .none⟩,
  ⟨0x000B004C, 0x0, 0x0, 0x0, 0x0, 0xFFFFFFFF, false, false, .none⟩,
  ⟨0x000B0050, 0x0, 0x0, 0x0, 0x0, 0xFFFFFFFF, false, false, .none⟩,
  ⟨0x000B0054, 0x0, 0x0, 0x0, 0x0, 0xFFFFFFFF, false, false, .none⟩]

/-- The registers of window 0x0B. -/
def regsWinB : List RegSpec := regsWinBa

/-- Window 0x0C, part 1 of the register map. -/
def regsWinCa : List RegSpec := [
  ⟨0x000C0000, 0x0, 0x0, 0x0, 0x0, 0xFF1FF7F8, false, false, .none⟩,
  ⟨0x000C0004, 0x0, 0x0, 0x7F, 0x0, 0x0, false, false, .none⟩,
  ⟨0x000C0008, 0x0, 0x0, 0x0, 0x0, 0xFFFF, false, false, .none⟩,
  ⟨0x000C0010, 0x0, 0x0, 0x0, 0x1, 0xFFFF0000, false, false, .none⟩,
  ⟨0x000C0014, 0x5, 0xFF07, 0x0, 0x0, 0x0, true, false, .none⟩,
  ⟨0x000C0018, 0x0, 0x0, 0x0, 0x0, 0x3FF03FF, false, false, .none⟩,
  ⟨0x000C001C, 0x0, 0x0, 0x0, 0x0, 0x8000FFFF, false, false, .none⟩,
  ⟨0x000C0020, 0x0, 0x0, 0x0, 0x0, 0xFFFFFFFF, false, false, .none⟩,
  ⟨0x000C0024, 0x0, 0x0, 0x0, 0x0, 0xFFFFFFFF, false, false, .none⟩,
  ⟨0x000C0080, 0x0, 0xFFFF, 0x0, 0x0, 0x0, false, false, .none⟩,
  ⟨0x000C0084, 0x0, 0x0, 0x0, 0x0, 0xFFFFFFFF, false, false, .none⟩,
  ⟨0x000C0040, 0x0, 0x0, 0x0, 0x0, 0xFFFFFFFF, false, false, .none⟩,
  ⟨0x000C0044, 0x0, 0x0, 0x0, 0x0, 0xFFFFFFFF, false, false, .none⟩,
  ⟨0x000C0048, 0x0, 0x0, 0x0, 0x0, 0xFFFFFFFF, false, false, .none⟩,
  ⟨0x000C004C, 0x0, 0x0, 0x0, 0x0, 0xFFFFFFFF, false, false, .none⟩,
  ⟨0x000C0050, 0x0, 0x0, 0x0, 0x0, 0xFFFFFFFF, false, false, .none⟩,
  ⟨0x000C0054, 0x0, 0x0, 0x0, 0x0, 0xFFFFFFFF, false, false, .none⟩,
  ⟨0x000C0058, 0x0, 0x0, 0x0, 0x0, 0xFFFFFFFF, false, false, .none⟩]

/-- The registers of window 0x0C. -/
def regsWinC : List RegSpec := regsWinCa

/-- Window 0x0D, part 1 of the register map. -/
def regsWinDa : List RegSpec := [
  ⟨0x000D0000, 0x0, 0x0, 0x0, 0x0, 0xFF0F, false, false, .none⟩,
  ⟨0x000D0004, 0x0, 0x0, 0x3F, 0x0, 0x0, false, false, .none⟩,
  ⟨0x000D0010, 0x0, 0x0, 0x0, 0x1, 0xFFFF0000, false, false, .none⟩,
  ⟨0x000D0014, 0x0, 0x0, 0x0, 0x0, 0x3F3F, false, false, .none⟩,
  ⟨0x000D0018, 0x0, 0x0, 0x0, 0x0, 0xF, false, false, .none⟩,
  ⟨0x000D0020, 0x0, 0x0, 0x0, 0x0, 0xFFFFFFFF, false, false, .none⟩,
  ⟨0x000D0024, 0x0, 0x0, 0x0, 0x0, 0xFFFFFFFF, false, false, .none⟩,
  ⟨0x000D0028, 0x0, 0x0, 0x0, 0x0, 0xFFFFFFFF, false, false, .none⟩,
  ⟨0x000D0040, 0x0, 0x0, 0x0, 0x0, 0xFFFFFFFF, false, false, .none⟩,
  ⟨0x000D0044, 0x0, 0x0, 0x0, 0x0, 0xFFFFFFFF, false, false, .none⟩,
  ⟨0x000D0048, 0x0, 0x0, 0x0, 0x0, 0xFFFFFFFF, false, false, .none⟩,
  ⟨0x000D004C, 0x0, 0x0, 0x0, 0x0, 0xFFFFFFFF, false, false, .none⟩,
  ⟨0x000D0050, 0x0, 0x0, 0x0, 0x0, 0xFFFFFFFF, false, false, .none⟩,
  ⟨0x000D0054, 0x0, 0x0, 0x0, 0x0, 0xFFFFFFFF, false, false, .none⟩]

/-- The registers of window 0x0D. -/
def regsWinD : List RegSpec := regsWinDa

/-- Window 0x0E, part 1 of the register map. -/
def regsWinEa : List RegSpec := [
  ⟨0x000E0000, 0x0, 0x0, 0x0, 0x0, 0x1F070F, false, false, .none⟩,
  ⟨0x000E0004, 0x0, 0x0, 0x3F, 0x0, 0x0, false, false, .none⟩,
  ⟨0x000E0010, 0x0, 0x0, 0x0, 0x1, 0xFFFF0000, false, false, .none⟩,
  ⟨0x000E0014, 0x1F003C, 0x1F03FF, 0x0, 0x0, 0x0, false, false, .none⟩,
  ⟨0x000E0018, 0x40, 0x7FF, 0x0, 0x0, 0x0, false, false, .none⟩,
  ⟨0x000E001C, 0x0, 0x3F, 0x0, 0x0, 0x0, false, false, .none⟩,
  ⟨0x000E0020, 0x0, 0x0, 0x0, 0x0, 0xFF1FFFFF, false, false, .queue⟩,
  ⟨0x000E0024, 0x0, 0x0, 0x0, 0x0, 0xFFFFFFFF, false, false, .queue⟩,
  ⟨0x000E0028, 0x0, 0x0, 0x0, 0x0, 0xFFFFFFFF, false, false, .queue⟩,
  ⟨0x000E002C, 0x0, 0x0, 0x0, 0x0, 0xFFFFFFFF, false, false, .none⟩,
  ⟨0x000E0040, 0x0, 0x0, 0x0, 0x0, 0xFFFFFFFF, false, false, .none⟩,
  ⟨0x000E0044, 0x0, 0x0, 0x0, 0x0, 0xFFFFFFFF, false, false, .none⟩,
  ⟨0x000E0048, 0x0, 0x0, 0x0, 0x0, 0xFFFFFFFF, false, false, .none⟩,
  ⟨0x000E004C, 0x0, 0x0, 0x0, 0x0, 0xFFFFFFFF, false, false, .none⟩,
  ⟨0x000E0050, 0x0, 0x0, 0x0, 0x0, 0xFFFFFFFF, false, false, .none⟩,
  ⟨0x000E0054, 0x0, 0x0, 0x0, 0x0, 0xFFFFFFFF, false, false, .none⟩]

/-- The registers of window 0x0E. -/
def regsWinE : List RegSpec := regsWinEa

/-- Window 0x0F, part 1 of the register map. -/
def regsWinFa : List RegSpec := [
  ⟨0x000F0000, 0x0, 0x0, 0x0, 0x0, 0x1F0F1F06, false, false, .none⟩,
  ⟨0x000F0004, 0x0, 0x0, 0x3F, 0x0, 0x0, false, false, .none⟩,
  ⟨0x000F0010, 0x0, 0x0, 0x0, 0x1, 0xFFFF0000, false, false, .none⟩,
  ⟨0x000F0014, 0x3, 0x3, 0x0, 0x0, 0x0, false, false, .none⟩,
  ⟨0x000F0018, 0x0, 0x0, 0x0, 0x0, 0x3C, false, false, .none⟩,
  ⟨0x000F001C, 0x3, 0x0, 0x0, 0x0, 0xFFFF0007, false, false, .none⟩,
  ⟨0x000F0020, 0xA00001F, 0x0, 0x0, 0x0, 0xFFFF003F, false, false, .none⟩,
  ⟨0x000F0024, 0x0, 0x0, 0x0, 0x0, 0xFFFFFFFF, false, false, .none⟩,
  ⟨0x000F0040, 0x0, 0x0, 0x0, 0x0, 0xFFFFFFFF, false, false, .none⟩,
  ⟨0x000F0044, 0x0, 0x0, 0x0, 0x0, 0xFFFFFFFF, false, false, .none⟩,
  ⟨0x000F0048, 0x0, 0x0, 0x0, 0x0, 0xFFFFFFFF, false, false, .none⟩,
  ⟨0x000F004C, 0x0, 0x0, 0x0, 0x0, 0xFFFFFFFF, false, false, .none⟩,
  ⟨0x000F0050, 0x0, 0x0, 0x0, 0x0, 0xFFFFFFFF, false, false, .none⟩,
  ⟨0x000F0054, 0x0, 0x0, 0x0, 0x0, 0xFFFFFFFF, false, false, .none⟩]

/-- The registers of window 0x0F. -/
def regsWinF : List RegSpec := regsWinFa

/-- The registers of a window (Table REG-1). -/
def regsOfWindow : Nat → List RegSpec
  | 0 => regsWin0
  | 1 => regsWin1
  | 2 => regsWin2
  | 3 => regsWin3
  | 4 => regsWin4
  | 5 => regsWin5
  | 6 => regsWin6
  | 7 => regsWin7
  | 8 => regsWin8
  | 9 => regsWin9
  | 10 => regsWinA
  | 11 => regsWinB
  | 12 => regsWinC
  | 13 => regsWinD
  | 14 => regsWinE
  | 15 => regsWinF
  | _ => []

/-- The register at an address, if the island's map defines one. -/
def regSpec? (a : Nat) : Option RegSpec := (regsOfWindow (a / 65536)).find? (fun r => r.addr == a)

/-- The reset value of the register at an address (0 where the map defines none). -/
def regReset (a : Nat) : Word :=
  match regSpec? a with
  | some r => BitVec.ofNat 32 r.reset
  | none => 0

/-- A register of one instance: the address and the instance number (0 for a register without a select). -/
def rkey (a i : Nat) : Nat := a + 1048576 * i

/-- What an unlisted key of the register file reads as: its register's reset value. NET_PORT_CFG.DELAY is
the port's own (R358: request-response on NET0 and NET1, peer delay on NET2 and NET3). -/
def regDefault (k : Nat) : Word :=
  if k % 1048576 = Reg.netPortCfg ∧ 2 ≤ k / 1048576 then regReset Reg.netPortCfg ||| 4#32
  else regReset (k % 1048576)

end Sys2Proof.Machine
end

