-- ==== Sys2Proof/Machine/Flags.lean ====
section
/-! DEFINITION. Machine/Flags.lean: the register file, the W1C flags with their occurrence counters (R333), and the
snapshots of the counters (R336). -/
namespace Sys2Proof.Machine
open Sys2Proof

/-- The word last written to a register of instance `i`, or its reset value. -/
def reg (s : State) (a i : Nat) : Word := storeGet regDefault s.regs (rkey a i)

/-- Put a word into the register file. -/
def setReg (s : State) (a i : Nat) (v : Word) : State := { s with regs := storeSet regDefault s.regs (rkey a i) v }

/-- The value of a staged register that is in force (R334). -/
def cfg (s : State) (a i : Nat) : Word := storeGet regDefault s.active (rkey a i)

/-- Put a value of a staged register into force (R334). -/
def setCfg (s : State) (a i : Nat) (v : Word) : State := { s with active := storeSet regDefault s.active (rkey a i) v }

/-- The field [hi:lo] of a register of instance `i`. -/
def regField (s : State) (a i hi lo : Nat) : Nat := field (reg s a i) hi lo

/-- The field [hi:lo] of the value in force of a staged register of instance `i`. -/
def cfgField (s : State) (a i hi lo : Nat) : Nat := field (cfg s a i) hi lo

/-- Write the field [hi:lo] of a register of instance `i`. -/
def setRegField (s : State) (a i hi lo v : Nat) : State := setReg s a i (setField (reg s a i) hi lo v)

/-- The live value of the counter whose holding register is at `a`, instance `i`. -/
def counter (s : State) (a i : Nat) : Word := storeGet (fun _ => 0) s.ctrs (rkey a i)

/-- Set the counter whose holding register is at `a`, instance `i`. -/
def setCounter (s : State) (a i : Nat) (v : Word) : State :=
  { s with ctrs := storeSet (fun _ => 0) s.ctrs (rkey a i) v }

/-- Count one event: the counter wraps modulo 2^32. -/
def countUp (s : State) (a i : Nat) : State := setCounter s a i (counter s a i + 1)

/-- Keep the largest value seen. -/
def countMax (s : State) (a i v : Nat) : State :=
  if (counter s a i).toNat < v then setCounter s a i (word v) else s

/-- Where the occurrence counters of a flag register are read after a snapshot (the *_SNAP_FCNT addresses). -/
def fcntOf (a : Nat) : Nat :=
  if a = Reg.supFlags then Fcnt.supFlags else if a = Reg.supPflags then Fcnt.supPflags
  else if a = Reg.exeFlags then Fcnt.exeFlags else if a = Reg.hzFlags then Fcnt.hzFlags
  else if a = Reg.fchFlags then Fcnt.fchFlags else if a = Reg.fgrpFlags then Fcnt.fgrpFlags
  else if a = Reg.grdFlags then Fcnt.grdFlags else if a = Reg.gmuFlags then Fcnt.gmuFlags
  else if a = Reg.ppdFlags then Fcnt.ppdFlags else if a = Reg.memFlags then Fcnt.memFlags
  else if a = Reg.sprFlags then Fcnt.sprFlags else if a = Reg.cmdFlags then Fcnt.cmdFlags
  else if a = Reg.netFlags then Fcnt.netFlags else if a = Reg.canFlags then Fcnt.canFlags
  else if a = Reg.pnlFlags then Fcnt.pnlFlags else if a = Reg.truFlags then Fcnt.truFlags
  else Fcnt.sbkFlags

/-- An event sets bit `n` of the flag register at `a`, instance `i`: the flag becomes 1 and its occurrence counter counts
the event, whether or not the flag was already 1 (R333). -/
def raise (s : State) (a i n : Nat) : State :=
  countUp (setReg s a i (setField (reg s a i) n n 1)) (fcntOf a + 4 * n) i

/-- Raise a flag when a condition holds. -/
def raiseIf (p : Bool) (s : State) (a i n : Nat) : State := if p then raise s a i n else s

/-- The flag bit `n` of the flag register at `a`, instance `i`. -/
def flagOf (s : State) (a i n : Nat) : Bool := bit (reg s a i) n

/-- Software clears the flags written 1 and hardware sets those of `race` in the same cycle: the set wins (R333). -/
def clearFlags (s : State) (a i : Nat) (v : Word) (race : List Nat) : State :=
  race.foldl (fun s n => raise s a i n) (setReg s a i (reg s a i &&& ~~~v))

/-- The SNAP register of a window that has a snapshot (the Walnut window has none, R336). -/
def snapReg : Nat → Option Nat
  | 0x0 => some Reg.supSnap | 0x1 => some Reg.exeSnap | 0x2 => some Reg.hzSnap | 0x3 => some Reg.fchSnap
  | 0x4 => some Reg.grdSnap | 0x5 => some Reg.gmuSnap | 0x7 => some Reg.ppdSnap | 0x8 => some Reg.memSnap
  | 0x9 => some Reg.netSnap | 0xA => some Reg.canSnap | 0xB => some Reg.sbkSnap | 0xC => some Reg.pnlSnap
  | 0xD => some Reg.truSnap | 0xE => some Reg.cmdSnap | 0xF => some Reg.sprSnap
  | _ => none

/-- The counters of one window, as they stand. -/
def windowCounters (s : State) (w : Nat) : Store Word :=
  if w = 0xB then s.sbk.ctrs else s.ctrs.filter (fun p => decide (p.1 % 1048576 / 65536 = w))

/-- Copy every counter of a window into its holding registers and increment SNAP.GEN, which wraps at 65,536 (R336). -/
def takeSnapshot (s : State) (w : Nat) : State :=
  match snapReg w with
  | none => s
  | some a =>
    let s1 := { s with snaps := storeSet (fun _ => []) s.snaps w (windowCounters s w) }
    setReg s1 a 0 (setField (reg s1 a 0) 31 16 (field (reg s1 a 0) 31 16 + 1))

/-- The holding register at `a`, instance `i`, after the last snapshot of its window (R337). -/
def heldCounter (s : State) (a i : Nat) : Word :=
  storeGet (fun _ => 0) (storeGet (fun _ => []) s.snaps (a / 65536)) (rkey a i)

/-- Increment an island's APPLY.GEN, which wraps at 65,536 (R334). -/
def bumpApply (s : State) (a i : Nat) : State :=
  setReg s a i (setField (reg s a i) 15 0 (field (reg s a i) 15 0 + 1))

end Sys2Proof.Machine
end

