-- ==== Sys2Proof/Machine/Opcodes.lean ====
section
/-! DEFINITION. Machine/Opcodes.lean: packets on the wire (R308, R309, R315), what the opcodes of the command families need (R322, Tables
CMD-2 to CMD-19), the payloads that spell their commands, and the arrival checks on them (R311). -/
namespace Sys2Proof.Machine
open Sys2Proof

/-! ## Packets on the wire (R308, R309, R315) -/

/-- The header fields of a packet (Table CMD-1). -/
structure Header where
  mark : Nat
  version : Nat
  queue : Nat
  opcode : Nat
  tag : Nat
  length : Nat
  seq : Nat

/-- A packet's header. -/
def headerOf (p : List Byte) : Header :=
  { mark := blockField p 0 2, version := blockField p 2 1, queue := blockField p 3 1, opcode := blockField p 4 2
    tag := blockField p 6 2, length := blockField p 8 4, seq := blockField p 12 4 }

/-- A packet's payload. -/
def payloadOf (p : List Byte) : List Byte := (p.drop 16).take (blockField p 8 4)

/-- The CRC-32C over header and payload matches the 4 bytes that follow. -/
def packetCrcOk (p : List Byte) : Bool :=
  let n := 16 + blockField p 8 4
  decide (p.length = n + 4) && decide (blockField p n 4 = crc32c (p.take n))

/-- The status word of a reply or notification (R309). -/
def statusWord (r : Reply) : Nat :=
  codeNumber r.code + 0x10000 * (r.credit % 256) + 0x1000000 * b2n r.final + 0x2000000 * b2n r.notify + 0x4000000 * b2n r.lost

/-- QUEUE of a reply: its NQ number plus 32, or 0xFF where the request named no queue (Tables CMD-1, CMD-3). -/
def replyQueue (q : Nat) : Nat := if q < 32 then q + 32 else 255

/-- A reply or notification as its packet: header, status word, DETAIL, result and CRC-32C (R308, R309). -/
def replyPacket (q : Nat) (r : Reply) : List Byte :=
  let p := leBytes 2 0x5A1B ++ leBytes 1 1 ++ leBytes 1 (replyQueue q) ++ leBytes 2 r.opcode ++ leBytes 2 r.tag
    ++ leBytes 4 (16 + r.result.length) ++ leBytes 4 r.seq ++ leBytes 4 (statusWord r) ++ leBytes 4 r.whereField ++ leBytes 8 r.ident ++ r.result
  p ++ leBytes 4 (crc32c p)

/-- A byte inside a frame: 0x7E and 0x7D go as 0x7D and the byte XOR 0x20 (R315). -/
def stuff (b : Byte) : List Byte := if b = 0x7E ∨ b = 0x7D then [0x7D, b ^^^ 0x20] else [b]

/-- A packet as a frame of the service port (R315). -/
def frameOf (p : List Byte) : List Byte := 0x7E :: (p.flatMap stuff ++ [0x7E])

/-- The stuffing removed up to the closing 0x7E; none where the frame is not closed there, or ends inside an escape. -/
def unstuff : List Byte → Option (List Byte)
  | [] => none
  | [b] => if b = 0x7E then some [] else none
  | b :: c :: rest =>
    if b = 0x7E then none
    else if b = 0x7D then (if c = 0x7E then none else (unstuff rest).map (fun p => (c ^^^ 0x20) :: p))
    else (unstuff (c :: rest)).map (fun p => b :: p)

/-- The packet in a frame of the service port's line (R315). -/
def unframe : List Byte → Option (List Byte)
  | b :: rest => if b = 0x7E then unstuff rest else none
  | [] => none

/-- What a notification queue sends: on the service port as a frame. -/
def wireBytes (q : Nat) (r : Reply) : List Byte := if r.session = 16 then frameOf (replyPacket q r) else replyPacket q r

/-! ## Opcodes (Tables CMD-5 to CMD-19) -/

/-- What an opcode needs: the queues that accept it, the role its session must hold as a mask (0 for a read or none), and the shortest
and longest payload. -/
structure OpcodeRow where
  op : Nat
  firstQueue : Nat
  lastQueue : Nat
  roles : Nat
  least : Nat
  most : Nat

/-- Opcodes 0x01xx to 0x04xx with fixed payload lengths (Tables CMD-6 to CMD-9). -/
def opcodesLow : List OpcodeRow :=
  [⟨0x0101, 4, 23, 2, 0, 0⟩, ⟨0x0102, 4, 23, 2, 0, 0⟩, ⟨0x0103, 4, 23, 4, 1, 1⟩, ⟨0x0104, 4, 23, 4, 1, 1⟩,
   ⟨0x0105, 4, 7, 16, 1, 1⟩, ⟨0x0106, 4, 23, 0, 0, 0⟩,
   ⟨0x0201, 16, 31, 4, 5, 5⟩, ⟨0x0202, 16, 31, 4, 5, 65520⟩, ⟨0x0203, 16, 31, 4, 0, 0⟩, ⟨0x0204, 16, 31, 0, 1, 1⟩,
   ⟨0x0205, 16, 31, 4, 1, 1⟩, ⟨0x0206, 16, 31, 4, 0, 0⟩, ⟨0x0207, 16, 31, 0, 6, 6⟩, ⟨0x0208, 16, 31, 4, 0, 0⟩]

/-- Opcodes of variables, forces and registers (Tables CMD-8, CMD-9). -/
def opcodesData : List OpcodeRow :=
  [⟨0x0301, 8, 23, 0, 16, 3586⟩, ⟨0x0302, 8, 23, 2, 14, 65520⟩, ⟨0x0303, 8, 23, 4, 11, 17⟩, ⟨0x0304, 8, 23, 4, 3, 9⟩,
   ⟨0x0305, 8, 23, 4, 0, 0⟩, ⟨0x0306, 8, 23, 0, 4, 4⟩,
   ⟨0x0401, 8, 23, 0, 7, 7⟩, ⟨0x0402, 8, 23, 4, 7, 1031⟩, ⟨0x0403, 8, 23, 4, 12, 12⟩, ⟨0x0404, 8, 23, 4, 1, 1⟩,
   ⟨0x0501, 8, 23, 0, 2, 2⟩, ⟨0x0502, 8, 23, 2, 1, 1⟩, ⟨0x0503, 8, 23, 2, 2, 2⟩, ⟨0x0504, 8, 23, 2, 2, 2⟩, ⟨0x0505, 8, 23, 0, 1, 1⟩]

/-- Opcodes of the loops and the grid measurement unit (Tables CMD-11, CMD-12). -/
def opcodesLoops : List OpcodeRow :=
  [⟨0x0601, 8, 31, 0, 4, 4⟩, ⟨0x0602, 8, 31, 2, 4, 4⟩, ⟨0x0603, 8, 31, 2, 4, 4⟩, ⟨0x0604, 8, 31, 2, 4, 4⟩,
   ⟨0x0605, 8, 31, 4, 5, 1025⟩, ⟨0x0606, 8, 31, 4, 33, 33⟩, ⟨0x0607, 8, 31, 4, 1, 1⟩, ⟨0x0608, 8, 31, 4, 49, 49⟩,
   ⟨0x0609, 8, 31, 4, 1, 1⟩, ⟨0x060A, 8, 31, 4, 1, 1⟩, ⟨0x060B, 8, 31, 0, 7, 7⟩,
   ⟨0x0701, 8, 23, 2, 2, 2⟩, ⟨0x0702, 8, 23, 2, 32, 32⟩, ⟨0x0703, 8, 23, 2, 0, 0⟩, ⟨0x0704, 8, 23, 2, 8, 8⟩,
   ⟨0x0705, 8, 23, 2, 2, 2⟩, ⟨0x0706, 8, 23, 0, 1, 1⟩, ⟨0x0707, 8, 23, 0, 0, 0⟩]

/-- Opcodes 0x08xx to 0x0Exx (Tables CMD-13 to CMD-19). The frame of CAN_SEND has no stated layout, so its length is held to what an
identifier, flags and 0 to 64 bytes can take (log 40). -/
def opcodesHigh : List OpcodeRow :=
  [⟨0x0801, 0, 3, 8, 256, 256⟩, ⟨0x0802, 0, 3, 8, 20, 20⟩, ⟨0x0803, 0, 3, 8, 0, 0⟩, ⟨0x0804, 0, 3, 0, 1, 1⟩,
   ⟨0x0901, 8, 31, 0, 6, 6⟩, ⟨0x0902, 8, 31, 4, 0, 0⟩, ⟨0x0903, 8, 31, 4, 0, 0⟩, ⟨0x0904, 8, 31, 4, 1, 1⟩,
   ⟨0x0A01, 8, 23, 2, 9, 65520⟩, ⟨0x0A02, 8, 23, 2, 2, 2⟩, ⟨0x0A03, 8, 23, 0, 0, 0⟩,
   ⟨0x0B01, 16, 23, 0, 1, 1⟩, ⟨0x0B02, 16, 23, 4, 0, 65520⟩, ⟨0x0B03, 16, 23, 4, 1, 65520⟩, ⟨0x0B04, 8, 23, 0, 0, 0⟩,
   ⟨0x0B05, 8, 23, 0, 97, 97⟩, ⟨0x0B06, 16, 23, 4, 1, 1⟩]

/-- Opcodes of time, CAN and diagnostics (Tables CMD-17 to CMD-19). -/
def opcodesDiag : List OpcodeRow :=
  [⟨0x0C01, 4, 23, 0, 0, 0⟩, ⟨0x0C02, 4, 23, 4, 0, 0⟩, ⟨0x0D01, 8, 23, 0, 1, 1⟩, ⟨0x0D02, 8, 23, 4, 1, 1⟩,
   ⟨0x0D03, 8, 23, 4, 6, 73⟩, ⟨0x0E01, 8, 31, 0, 0, 256⟩, ⟨0x0E02, 8, 31, 0, 3, 3⟩, ⟨0x0E03, 8, 31, 0, 0, 0⟩,
   ⟨0x0E04, 8, 31, 4, 0, 0⟩, ⟨0x0E05, 8, 31, 0, 0, 0⟩, ⟨0x0E06, 8, 31, 0, 0, 0⟩]

/-- The row of an opcode. -/
def opcodeRow (op : Nat) : Option OpcodeRow :=
  let hit (rs : List OpcodeRow) : Option OpcodeRow := rs.find? (fun r => decide (r.op = op))
  (hit opcodesLow).orElse fun _ => (hit opcodesData).orElse fun _ => (hit opcodesLoops).orElse fun _ =>
    (hit opcodesHigh).orElse fun _ => hit opcodesDiag

/-- The payload lengths an opcode accepts, from its payload where a count in it decides. -/
def lengthRange (r : OpcodeRow) (p : List Byte) : Nat × Nat :=
  let exactly (n : Nat) : Nat × Nat := (n, n)
  match r.op with
  | 0x0301 => exactly (2 + 14 * blockField p 0 2)
  | 0x0302 => exactly (14 + blockField p 12 2)
  | 0x0303 => exactly (if blockField p 0 1 = 2 then 17 else 11)
  | 0x0304 => exactly (if blockField p 0 1 = 2 then 9 else 3)
  | 0x0402 => exactly (7 + 4 * blockField p 4 2)
  | 0x0605 => exactly (5 + 4 * blockField p 3 1)
  | 0x0A01 => exactly (9 + (blockField p 4 2 * blockField p 6 2 + 3) / 4)
  | _ => (r.least, r.most)

/-- Class of a queue (Table CMD-4), 0 to 4. -/
def queueClass (q : Nat) : Nat := if q < 4 then 0 else if q < 8 then 1 else if q < 16 then 2 else if q < 24 then 3 else 4

/-- Roles a queue class admits, as a mask (Table CMD-4). -/
def classRoles (q : Nat) : Nat := match queueClass q with | 0 => 8 | 1 => 16 | 2 => 7 | _ => 4

/-- Bytes of an opcode's largest reply: header, status word and DETAIL, and the largest result (R318, Tables CMD-6 to CMD-19). -/
def largestReply (op : Nat) : Nat :=
  32 + match op with
    | 0x0106 => 24 | 0x0204 => 73 | 0x0207 => 64004 | 0x0301 => 65504 | 0x0306 => 12288 | 0x0401 => 1024 | 0x0501 => 3456
    | 0x0601 => 40960 | 0x060B => 65504 | 0x0706 => 256 | 0x0707 => 1024 | 0x0801 => 268 | 0x0804 => 256 | 0x0901 => 65280
    | 0x0B01 => 2048 | 0x0B02 => 2048 | 0x0E01 => 256 | 0x0E02 => 8192 | 0x0E03 => 512 | 0x0E06 => 272 | _ => 48

/-! ## Payloads (Tables CMD-6 to CMD-19) -/

/-- FORCE_CHOICE as its byte. -/
def choiceByte : ForceChoice → List Byte
  | .none => leBytes 1 0 | .keep => leBytes 1 1 | .clear => leBytes 1 2

/-- KIND and CHANNEL or IDENTITY of a force key. -/
def forceKeyBytes : ForceKey → List Byte
  | .input c => leBytes 1 0 ++ leBytes 2 c | .output c => leBytes 1 1 ++ leBytes 2 c | .variable i => leBytes 1 2 ++ leBytes 8 i

/-- Words, little-endian. -/
def wordBytes (ws : List Word) : List Byte := ws.flatMap (fun w => leBytes 4 w.toNat)

/-- The payload of a packet command, its fields in their order with no gaps, and how many further bytes it has that the command's operands
do not spell out: the signature of AUTH_RESPONSE, and the frame of CAN_SEND, whose layout is not given (log 40). None: the payload is not
laid out (CSR_MAKE, R427), or the command is no packet. -/
def packetBytes : Instr → Option (List Byte × Nat)
  | .start _ | .stop _ | .stateRead _ | .loadCommit _ | .swapCancel _ | .loadAbort _ | .forceClearAll _ | .syncDisarm _ | .gridEvents _
  | .safeParamAbort _ | .sbkSnapshot _ | .sbkRelease _ | .panelStatus _ | .authChallenge _ _ | .timeRead _ | .timeAcceptJump _
  | .memlogRead _ | .memlogClear _ | .sproutRead _ | .sessions _ => some ([], 0)
  | .warm _ k | .cold _ k | .swapPrepare _ k => some (choiceByte k, 0)
  | .handover _ swap => some (leBytes 1 (b2n swap), 0)
  | .loadBegin _ slot len => some (leBytes 1 slot.toNat ++ leBytes 4 len.toNat, 0)
  | .loadChunk _ offset data => some (leBytes 4 offset.toNat ++ data, 0)
  | .verify _ slot => some (leBytes 1 slot.toNat, 0)
  | .changeReport _ first count => some (leBytes 4 first.toNat ++ leBytes 2 count.toNat, 0)
  | .varRead _ items => some (leBytes 2 items.length
      ++ items.flatMap (fun x => leBytes 8 x.1.toNat ++ leBytes 4 x.2.1.toNat ++ leBytes 2 x.2.2.toNat), 0)
  | .varWrite _ identity offset data => some (leBytes 8 identity.toNat ++ leBytes 4 offset.toNat ++ leBytes 2 data.length ++ data, 0)
  | .forceSet _ k v => some (forceKeyBytes k ++ leBytes 8 v.toNat, 0)
  | .forceClear _ k => some (forceKeyBytes k, 0)
  | .forceList _ first count => some (leBytes 2 first.toNat ++ leBytes 2 count.toNat, 0)
  | .regRead _ addr count same => some (leBytes 4 addr.toNat ++ leBytes 2 count.toNat ++ leBytes 1 (b2n same), 0)
  | .regWrite _ addr same words =>
      some (leBytes 4 addr.toNat ++ leBytes 2 words.length ++ leBytes 1 (b2n same) ++ wordBytes words, 0)
  | .regMaskwrite _ addr mask value => some (wordBytes [addr, mask, value], 0)
  | .snapshot _ window => some (leBytes 1 window.toNat, 0)
  | .chRead _ first count => some (leBytes 1 first.toNat ++ leBytes 1 count.toNat, 0)
  | .chClearFault _ ch => some (leBytes 1 ch.toNat, 0)
  | .chSprout _ ch spare => some (leBytes 1 ch.toNat ++ leBytes 1 spare.toNat, 0)
  | .chFailsig _ ch on => some (leBytes 1 ch.toNat ++ leBytes 1 (b2n on), 0)
  | .grpRead _ g => some (leBytes 1 g.toNat, 0)
  | .loopRead _ first count => some (leBytes 2 first.toNat ++ leBytes 2 count.toNat, 0)
  | .loopMode _ loop mode track => some (leBytes 2 loop.toNat ++ leBytes 1 mode.toNat ++ leBytes 1 track.toNat, 0)
  | .loopSp _ loop v | .loopMv _ loop v => some (leBytes 2 loop.toNat ++ leBytes 2 v.toNat, 0)
  | .loopParam _ loop w words commit =>
      some (leBytes 2 loop.toNat ++ leBytes 1 w.toNat ++ leBytes 1 words.length ++ wordBytes words ++ leBytes 1 (b2n commit), 0)
  | .injectStart _ gen icb => some (leBytes 1 gen.toNat ++ icb, 0)
  | .injectStop _ gen => some (leBytes 1 gen.toNat, 0)
  | .capArm _ set ccb => some (leBytes 1 set.toNat ++ ccb, 0)
  | .capTrigger _ set | .capDisarm _ set => some (leBytes 1 set.toNat, 0)
  | .capRead _ set first count => some (leBytes 1 set.toNat ++ leBytes 4 first.toNat ++ leBytes 2 count.toNat, 0)
  | .gmuSubscribe _ every => some (leBytes 2 every.toNat, 0)
  | .syncArm _ block => some (block, 0)
  | .shedRelease _ mask => some (leBytes 8 mask.toNat, 0)
  | .trigArm _ t arm => some (leBytes 1 t.toNat ++ leBytes 1 arm.toNat, 0)
  | .harmRead _ input => some (leBytes 1 input.toNat, 0)
  | .safeParamLoad _ set => some (set, 0)
  | .safeParamConfirm _ crc setId => some (leBytes 4 crc.toNat ++ setId, 0)
  | .safeRead _ area => some (leBytes 1 area.toNat, 0)
  | .sbkRead _ first count => some (leBytes 4 first.toNat ++ leBytes 2 count.toNat, 0)
  | .sbkSubscribe _ minSev => some (leBytes 1 minSev.toNat, 0)
  | .panelUpdate _ x y w h flags pixels =>
      some (leBytes 2 x.toNat ++ leBytes 2 y.toNat ++ leBytes 2 w.toNat ++ leBytes 2 h.toNat ++ leBytes 1 flags.toNat ++ pixels, 0)
  | .panelScreen _ screen => some (leBytes 2 screen.toNat, 0)
  | .certRead _ which => some (leBytes 1 which.toNat, 0)
  | .certInstall _ slot cert => some (leBytes 1 slot.toNat ++ cert.der, 0)
  | .authResponse _ slot _ => some (leBytes 1 slot.toNat, 96)
  | .certRemove _ slot => some (leBytes 1 slot.toNat, 0)
  | .canStatus _ port | .canRecover _ port => some (leBytes 1 port.toNat, 0)
  | .canSend _ port frame => some (leBytes 1 port.toNat, 5 + frame.data.length)
  | .echo _ data => some (data, 0)
  | .grantlogRead _ first count => some (leBytes 1 first.toNat ++ leBytes 2 count.toNat, 0)
  | _ => none

/-- A queued packet's payload spells the command. -/
def spells (i : Instr) (payload : List Byte) : Bool :=
  match packetBytes i with
  | some (bs, more) => decide (payload.take bs.length = bs) && decide (payload.length = bs.length + more)
  | none => true

/-- A payload that spells the command, with zeros where its operands say nothing. -/
def samplePayload (op : Nat) (i : Instr) : List Byte :=
  match packetBytes i with
  | some (bs, more) => bs ++ List.replicate more 0
  | none => List.replicate (((opcodeRow op).map (·.least)).getD 0) 0

/-! ## Admission (Table CMD-3, rows 6 to 9) -/

/-- The certificate in operator slot `k` (1 to 8). -/
def slotCert (s : State) (k : Nat) : Option Certificate := storeGet (fun _ => none) s.tru.slots k

/-- TRU_STAT.COMMISSION (R431): every slot is empty, or slot 1 alone is filled and waits for its proof. -/
def commissioning (s : State) : Bool :=
  [2, 3, 4, 5, 6, 7, 8].all (fun k => decide (slotCert s k = none)) && (decide (slotCert s 1 = none) || s.tru.proof.isSome)

/-- AUTH_CHALLENGE and AUTH_RESPONSE on CQ08 to CQ15, and CERT_INSTALL there from the service port during commissioning, pass without
a role (Table CMD-3, rows 6 and 8). -/
def roleExempt (s : State) (slot : Nat) (h : Header) : Bool :=
  decide (8 ≤ h.queue) && decide (h.queue ≤ 15)
    && (decide (h.opcode = 0x0B04) || decide (h.opcode = 0x0B05)
        || (decide (h.opcode = 0x0B03) && decide (slot = 16) && commissioning s))

/-- The opcode is admitted on its queue (Table CMD-5); CERT_INSTALL also where row 6 lets it pass. -/
def queueAdmits (s : State) (slot : Nat) (h : Header) (r : OpcodeRow) : Bool :=
  (decide (r.firstQueue ≤ h.queue) && decide (h.queue ≤ r.lastQueue)) || (decide (h.opcode = 0x0B03) && roleExempt s slot h)

/-- What BOOT_SRC and TRIM_FAULT leave open: the image family only on the service port (10) or on the network (11) (R449, log 41). -/
def bootAdmits (s : State) (slot op : Nat) : Bool :=
  decide (op / 256 ≠ 2) || decide (s.sup.bootSrc < 2) || (decide (s.sup.bootSrc = 2) && decide (slot = 16))
    || (decide (s.sup.bootSrc = 3) && decide (slot ≠ 16))

/-- Rows 6 to 9 of Table CMD-3 on an open session, with the code and WHERE of the first check that fails. -/
def admission (s : State) (x : Session) (h : Header) (payload : List Byte) : Option (Code × Nat) :=
  let exempt := roleExempt s x.slot h
  if !exempt && decide (x.roles &&& classRoles h.queue = 0) then some (.authFailed, classRoles h.queue)
  else match opcodeRow h.opcode with
    | none => some (.badOpcode, h.opcode)
    | some r =>
      let range := lengthRange r payload
      if !queueAdmits s x.slot h r || !bootAdmits s x.slot h.opcode then some (.badOpcode, h.opcode)
      else if !exempt && decide (r.roles ≠ 0) && decide (x.roles &&& r.roles = 0) then some (.authFailed, r.roles)
      else if s.sup.trimFault && decide (r.roles ≠ 0) then some (.authFailed, r.roles)
      else if h.length < range.1 then some (.badLength, range.1)
      else if range.2 < h.length then some (.badLength, range.2)
      else none

end Sys2Proof.Machine
end

