-- ==== Sys2Proof/Machine/Ops.lean ====
section
/-! DEFINITION. Machine/Ops.lean: the operations every island shares: module time, free values, posting an event to
Seedbank (R393 to R406), answering a command packet (R309, R313, R316 to R318), Husks (R13), roles and the owner line. -/
namespace Sys2Proof.Machine
open Sys2Proof

/-! ## Time and free values -/

/-- Seconds of module time. -/
def sec (s : State) : Nat := s.now / 1000000000

/-- Nanoseconds of module time within the second. -/
def nsec (s : State) : Nat := s.now % 1000000000

/-- The free value the machine would use next: nothing constrains it (log 3). -/
def freeNow (s : State) : Word := Config.freeValue s.free

/-- Use up one free value. -/
def freeNext (s : State) : State := { s with free := s.free + 1 }

/-- The base cycle in ns: the running image's BASE_CYCLE, 250 µs while there is no image (log 14). -/
def baseNs (s : State) : Nat :=
  match s.exe.image with
  | some im => im.header.baseCycle * 1000
  | none => 250000

/-- Module time of the last base-cycle boundary at or before now (R25, R35). -/
def boundaryOf (s : State) : Nat := s.now / baseNs s * baseNs s

/-- The address register `a` of an indirect window advances by 4 and wraps to 0 after the highest address of its field, of which there
are `size` (R338). -/
def advanceIdx (s : State) (a size : Nat) : State := setReg s a 0 (word (((reg s a 0).toNat + 4) % size))

/-! ## Events (R393 to R402) -/

/-- The number of an event in its range: bound for Table SBK-4, free for the others (R480). -/
def eventNumber (e : Event) : Nat :=
  match e with
  | .sbkStart => 1 | .sbkRingOverrun => 2 | .sbkRateSummary => 3 | .sbkLogWriteFailed => 4 | .sbkSnapshotExpired => 5
  | e => 1 + Config.eventNumber e.ctorIdx % 255

/-- CODE of an event (R395). -/
def eventCode (e : Event) : Nat := 4096 * eventWindow e + eventNumber e

/-- SEV of an event: Table SBK-4, MODULE_FAULT 4, else free: up to 5 in the Walnut range, below 5 elsewhere (R480). -/
def severity (e : Event) : Nat :=
  match e with
  | .sbkStart => 1 | .sbkRingOverrun => 3 | .sbkRateSummary => 1 | .sbkLogWriteFailed => 3 | .sbkSnapshotExpired => 1
  | .moduleFault => 4
  | e => if eventWindow e = 6 then Config.eventSeverity e.ctorIdx % 6 else Config.eventSeverity e.ctorIdx % 5

/-- A code that is never rate-limited: SEV 4 and 5, the Walnut range, and the rate summary (R396, R402). -/
def exempt (e : Event) : Bool := decide (eventWindow e = 6) || decide (4 ≤ severity e) || decide (e = .sbkRateSummary)

/-- The bucket of a code that has posted nothing yet: full, at the defaults of Table SBK-3. -/
def freshBucket : Bucket := { rate := 10, burst := 20, tokens := 20000000000, at_ := 0, pending := 0, lastSeq := 0 }

/-- The bucket of an event's code. -/
def bucketOf (b : Seedbank) (e : Event) : Bucket := storeGet (fun _ => freshBucket) b.buckets e.ctorIdx

/-- Put a bucket back. -/
def setBucket (b : Seedbank) (e : Event) (x : Bucket) : Seedbank :=
  { b with buckets := storeSet (fun _ => freshBucket) b.buckets e.ctorIdx x }

/-- Refill a bucket up to now: RATE tokens per second, at most BURST (R401). -/
def refill (x : Bucket) (now : Nat) : Bucket :=
  { x with tokens := min (x.burst * 1000000000) (x.tokens + (now - x.at_) * x.rate), at_ := now }

/-- Set flag bit `n` of SBK_FLAGS and count the event (R333). -/
def sbkRaise (b : Seedbank) (n : Nat) : Seedbank :=
  { b with flags := setField b.flags n n 1
           ctrs := storeSet (fun _ => 0) b.ctrs (Fcnt.sbkFlags + 4 * n)
             (storeGet (fun _ => 0) b.ctrs (Fcnt.sbkFlags + 4 * n) + 1) }

/-- Count one event in a Seedbank counter, named by its holding register. -/
def sbkCount (b : Seedbank) (a : Nat) : Seedbank :=
  { b with ctrs := storeSet (fun _ => 0) b.ctrs a (storeGet (fun _ => 0) b.ctrs a + 1) }

/-- SEQ a follows SEQ b: a signed 32-bit difference above 0 (R403). -/
def seqAfter (a b : Nat) : Bool :=
  let d := (a + 4294967296 - b % 4294967296) % 4294967296
  decide (0 < d) && decide (d < 2147483648)

/-- Record SEQ occupies slot SEQ mod 21,845 (R397). -/
def ringSlot (seq : Nat) : Nat := seq % 21845

/-- Write a record into its ring slot. A record there that has not been flushed is lost: counted, flagged, and kept for
the SBK_RING_OVERRUN of the next flush (R399). -/
def ringWrite (b : Seedbank) (r : Record) : Seedbank :=
  let slot := ringSlot r.seq
  let old := storeGet (fun _ => none) b.ring slot
  let lost := match old with
    | some o => seqAfter o.seq b.logged
    | none => false
  let b1 := if lost then
      let b' := sbkRaise (sbkCount b Reg.sbkSnapLost) 0
      match b'.overrun with
      | some (f, n) => { b' with overrun := some (f, n + 1) }
      | none => { b' with overrun := old.map (fun o => (o.seq, 1)) }
    else b
  { b1 with ring := storeSet (fun _ => none) b1.ring slot (some r), newest := r.seq }

/-- Admit a record past the rate limit (R401): number it, carry PENDING and POST_LOST, write it to the ring, and make a
flush due at once at SEV 4 and above (R398). -/
def admitRecord (b : Seedbank) (r : Record) : Seedbank :=
  let x := refill (bucketOf b r.event) r.time
  let seq := (b.newest + 1) % 4294967296
  let w := eventWindow r.event
  let r' : Record := { r with seq := seq, suppressed := min x.pending 65535, postLost := b.postLost.contains w }
  let x' : Bucket := { x with
    tokens := if exempt r.event then x.tokens else x.tokens - 1000000000
    pending := 0, lastSeq := seq }
  let b1 := sbkCount (ringWrite (setBucket b r.event x') r') Reg.sbkSnapPosted
  { b1 with postLost := b1.postLost.erase w, flushDue := b1.flushDue || decide (4 ≤ severity r.event) }

/-- Suppress a record that finds fewer than one token (R401). -/
def suppressRecord (b : Seedbank) (r : Record) : Seedbank :=
  let x := refill (bucketOf b r.event) r.time
  sbkRaise (sbkCount (setBucket b r.event { x with pending := x.pending + 1, suppressedAt := r.time }) Reg.sbkSnapSupp) 1

/-- Whether the rate limit admits a record now (R401). -/
def admits (b : Seedbank) (r : Record) : Bool :=
  exempt r.event || decide (1000000000 ≤ (refill (bucketOf b r.event) r.time).tokens)

/-- Seedbank takes a posted record: admitted or suppressed. -/
def sbkTake (b : Seedbank) (r : Record) : Seedbank := if admits b r then admitRecord b r else suppressRecord b r

/-- The time is not synchronised: the servo is in FREE_RUN, ACQUIRING or DEGRADED (Table SBK-1). -/
def timeUnsync (s : State) : Bool :=
  match s.net.servo with
  | .freeRun => true | .acquiring => true | .degraded => true | .locked => false | .holdover => false

/-- A record as its 48 bytes, the CRC-32C over bytes 0 to 43 (R393). -/
def recordBytes (r : Record) : List Byte :=
  let body := leBytes 4 r.seq ++ leBytes 8 (r.time / 1000000000) ++ leBytes 4 (r.time % 1000000000)
    ++ leBytes 2 (eventCode r.event) ++ leBytes 2 (4096 * eventWindow r.event + r.inst % 4096)
    ++ leBytes 1 (severity r.event)
    ++ leBytes 1 (b2n r.ended + 2 * b2n r.postLost + 4 * b2n r.unsync + 8 * b2n r.pfw)
    ++ leBytes 2 r.suppressed ++ leBytes 4 r.subject ++ leBytes 4 r.value1 ++ leBytes 4 r.value2 ++ leBytes 8 r.extra
  body ++ leBytes 4 (crc32c body)

/-! ## Replies and notifications (R309, R313, R316 to R318) -/

/-- Bytes of the pool a waiting packet holds: header and payload (R317). -/
def packetSize (p : Packet) : Nat := 16 + p.payload.length

/-- The packets waiting in a command queue. -/
def queueOf (c : Commands) (q : Nat) : List Packet := storeGet (fun _ => []) c.queues q

/-- Pool bytes reserved to a queue: 64 KiB on CQ00 to CQ07 (R317). -/
def reservedBytes (q : Nat) : Nat := if q < 8 then 65536 else 0

/-- Pool bytes a queue holds. -/
def queueBytes (c : Commands) (q : Nat) : Nat := ((queueOf c q).map packetSize).sum

/-- Shared pool bytes in use: what each queue holds beyond its reserve (R317). -/
def sharedUsed (c : Commands) : Nat :=
  ((List.range 32).map (fun q => queueBytes c q - reservedBytes q)).sum

/-- Pool bytes still open to a queue: what is left of its reserve and of the shared 256 KiB. -/
def roomBytes (c : Commands) (q : Nat) : Nat := (reservedBytes q - queueBytes c q) + (262144 - sharedUsed c)

/-- A packet of `n` pool bytes is queued only if a free entry exists and its bytes fit (R317). -/
def hasRoom (c : Commands) (q n : Nat) : Bool := decide ((queueOf c q).length < 16) && decide (n ≤ roomBytes c q)

/-- CREDIT: maximum-size packets the queue is sure to accept. DEDUCED: only the free bytes of its own reserve are sure, since the other
queues may fill the shared part (R317; log 20). -/
def credit (c : Commands) (q : Nat) : Nat := min (16 - (queueOf c q).length) ((reservedBytes q - queueBytes c q) / 65536)

/-- The packets waiting in a notification queue, oldest first. -/
def repliesOf (c : Commands) (q : Nat) : List Reply := storeGet (fun _ => []) c.replies q

/-- Bytes a reply holds in the reply pool: header, status word, DETAIL and result (R309, R318). -/
def replySize (r : Reply) : Nat := 32 + r.result.length

/-- Bytes held in the reply pool of 512 KiB (R318). -/
def poolHeld (c : Commands) : Nat := (c.replies.map (fun p => (p.2.map replySize).sum)).sum

/-- An open session's record. -/
def sessionOf (c : Commands) (slot : Nat) : Option Session := c.sessions.find? (fun x => x.slot == slot)

/-- Change an open session's record. -/
def modSession (c : Commands) (slot : Nat) (f : Session → Session) : Commands :=
  { c with sessions := c.sessions.map (fun x => if x.slot = slot then f x else x) }

/-- Put a packet on a notification queue, numbered on its session (R313); a closed session's packets are discarded (R316). -/
def pushReply (c : Commands) (q : Nat) (r : Reply) : Commands :=
  match sessionOf c r.session with
  | none => c
  | some x =>
    let n := (x.seqOut + 1) % 4294967296
    let c1 := modSession c r.session (fun y => { y with seqOut := n })
    { c1 with replies := storeSet (fun _ => []) c1.replies q (repliesOf c1 q ++ [{ r with seq := n, credit := credit c q }]) }

/-- Drop the oldest waiting notification of a subscription (R318). -/
def dropOldest (rs : List Reply) (x : Subscription) : List Reply :=
  match rs with
  | [] => []
  | r :: rs => if r.notify && decide (r.session = x.session) && decide (r.tag = x.tag) && decide (r.opcode = x.opcode)
      then rs else r :: dropOldest rs x

/-- Mark a subscription as having lost a notification. -/
def markLost (c : Commands) (x : Subscription) : Commands :=
  { c with subs := c.subs.map (fun y => if y = x then { y with lost := true } else y) }

/-- A notification of `n` result bytes finds no room in its queue or in the reply pool (R318). -/
def noRoom (c : Commands) (q n : Nat) : Bool := decide (16 ≤ (repliesOf c q).length) || decide (524288 < poolHeld c + 32 + n)

/-- Send one notification of a subscription: dropped ones before it show as LOST. One that finds no room drops the oldest waiting one of its
subscription; where that makes no room, or none waits, it is the one that is dropped (R318; log 148). -/
def notifySub (c : Commands) (x : Subscription) (result : List Byte) : Commands × Bool :=
  let full := noRoom c x.queue result.length
  let c1 := if full then { c with replies := storeSet (fun _ => []) c.replies x.queue (dropOldest (repliesOf c x.queue) x) } else c
  if noRoom c1 x.queue result.length then (markLost c1 x, true)
  else
    let r : Reply := { session := x.session, tag := x.tag, opcode := x.opcode, code := .ok, final := false, notify := true,
                       lost := x.lost || full, result := result }
    let c2 := pushReply c1 x.queue r
    ({ c2 with subs := c2.subs.map (fun y => if y = x then { y with lost := false } else y) }, full)

/-- Notify every subscription of `xs`; answers whether any notification was dropped. -/
def notifyAll (c : Commands) (xs : List Subscription) (result : Subscription → List Byte) : Commands × Bool :=
  xs.foldl (fun (p : Commands × Bool) x =>
    let (c', full) := notifySub p.1 x (result x)
    (c', p.2 || full)) (c, false)

/-- Set CMD_FLAGS.NOTIFY_LOST when notifications were dropped (R318). -/
def flagNotifyLost (s : State) (lost : Bool) : State := raiseIf lost s Reg.cmdFlags 0 4

/-- The Seedbank subscriptions a record goes to: SEV at or above MIN_SEV (R406). -/
def sbkSubscribers (s : State) (e : Event) : List Subscription :=
  s.cmd.subs.filter (fun x => decide (x.opcode = 0x0904) && decide (x.param ≤ severity e))

/-- Post an event with every field given. Seedbank alone changes, and the subscribers' queues when the record is admitted. -/
def postFull (s : State) (e : Event) (inst : Nat) (ended : Bool) (subject value1 value2 extra time : Nat) : State :=
  let r : Record := { seq := 0, time := time, event := e, inst := inst, ended := ended, postLost := false,
                      unsync := timeUnsync s, pfw := s.sup.pfw, suppressed := 0, subject := subject % 4294967296,
                      value1 := value1 % 4294967296, value2 := value2 % 4294967296, extra := extra }
  let b := sbkTake s.sbk r
  if s.cmd.subs.all (fun x => decide (x.opcode ≠ 0x0904)) then { s with sbk := b }
  else if admits s.sbk r then
    let r' : Record := (storeGet (fun _ => none) b.ring (ringSlot b.newest)).getD r
    let (c, lost) := notifyAll s.cmd (sbkSubscribers s e) (fun _ => recordBytes r')
    flagNotifyLost { s with sbk := b, cmd := c } lost
  else { s with sbk := b }

/-- Post an event at the present module time (R394): the object's number in SOURCE, SUBJECT, VALUE1 and VALUE2. -/
def post (s : State) (e : Event) (inst subject value1 value2 : Nat) : State :=
  postFull s e inst false subject value1 value2 0 s.now

/-- Post an event that says a condition has ended (FLAGS.END). -/
def postEnd (s : State) (e : Event) (inst subject value1 value2 : Nat) : State :=
  postFull s e inst true subject value1 value2 0 s.now

/-- An event that finds its island's posting queue full is dropped and counted, and the next record of that island carries
POST_LOST (R394). -/
def postDropped (s : State) (w : Nat) : State :=
  let b := sbkRaise (sbkCount s.sbk Reg.sbkSnapLost) 2
  { s with sbk := { b with postLost := if b.postLost.contains w then b.postLost else w :: b.postLost } }

/-! ## Answering a command -/

/-- The executing entry of a command. -/
def execOf (s : State) (c : Ctx) : Option Executing :=
  s.cmd.executing.find? (fun x => decide (x.queue = c.queue.val) && decide (x.session = c.session.val) && decide (x.tag = c.tag.toNat))

/-- Commands that occupy an execution place. -/
def executingCount (c : Commands) : Nat := (c.executing.filter (fun x => !x.blocked)).length

/-- The reply pool has room for a command's largest reply beside those of the commands that run. -/
def replyRoom (c : Commands) (op : Nat) : Bool :=
  decide (poolHeld c + ((c.executing.filter (fun x => !x.pending)).map (fun x => largestReply x.opcode)).sum + largestReply op ≤ 524288)

/-- The reply of a command, whose entry says whether its session has closed meanwhile (R316). -/
def pushFor (c : Commands) (x : Option Executing) (q : Nat) (r : Reply) : Commands :=
  if (x.map (·.closed)).getD false then c else pushReply c q r

/-- The command `i` of context `c` runs now: the dispatcher has started the packet that spells it, which waits for nothing. A command without
a packet stands for one whose packet has just arrived at an empty queue and passed its checks, and that the dispatcher starts at once, so
that it takes a free execution place (R311, R318 to R320, R322; log 149). -/
def starts (s : State) (c : Ctx) (op : Nat) (i : Instr) : Bool :=
  let q := c.queue.val
  match execOf s c with
  | some x => decide (x.opcode = op) && !x.blocked && (match queueOf s.cmd q with
    | p :: _ => spells i p.payload
    | [] => true)
  | none =>
    let h : Header := { mark := 0x5A1B, version := 1, queue := q, opcode := op, tag := c.tag.toNat, length := (samplePayload op i).length, seq := 0 }
    decide (queueOf s.cmd q = []) && s.cmd.executing.all (fun x => decide (x.queue ≠ q)) && decide (executingCount s.cmd < 8)
      && replyRoom s.cmd op && (match sessionOf s.cmd c.session.val with
      | some x => decide (admission s x h (samplePayload op i) = none)
      | none => false)

/-- A command's executing entry leaves the list, and its packet leaves the head of its queue (R319). -/
def retire (c : Commands) (x : Executing) : Commands :=
  let c1 := { c with executing := c.executing.erase x }
  match queueOf c x.queue with
  | p :: rest =>
    if p.session = x.session ∧ p.tag = x.tag then { c1 with queues := storeSet (fun _ => []) c1.queues x.queue rest } else c1
  | [] => c1

/-- The command processor's entry of a command, made new if the dispatcher left none. -/
def entryFor (s : State) (c : Ctx) (op island subject : Nat) : Executing :=
  match execOf s c with
  | some x => { x with island := island, subject := subject }
  | none => { queue := c.queue.val, session := c.session.val, tag := c.tag.toNat, opcode := op, blocked := false,
              pending := false, island := island, subject := subject }

/-- Flags and counters of a refusal: BAD_CRC and AUTH_FAILED each have a flag of their own (R325). -/
def flagCode (s : State) (code : Code) : State :=
  match code with
  | .badCrc => raise s Reg.cmdFlags 0 1
  | .authFailed => raise s Reg.cmdFlags 0 2
  | _ => s

/-- The final reply of a command: its result when OK, its WHERE and IDENT otherwise (R309); its entry is retired (R319). -/
def answer (s : State) (c : Ctx) (op : Nat) (code : Code) (wh ident : Nat) (result : List Byte) : State :=
  let was := execOf s c
  let r : Reply := { session := c.session.val, tag := c.tag.toNat, opcode := op, code := code, final := true,
                     notify := (was.map (·.pending)).getD false, lost := false, whereField := wh, ident := ident, result := result }
  let s1 := flagCode s code
  let c1 := match was with
    | some x => retire s1.cmd x
    | none => s1.cmd
  { s1 with cmd := pushFor c1 was c.queue.val r }

/-- Reply OK with its result. -/
def ok (s : State) (c : Ctx) (op : Nat) (result : List Byte) : State := answer s c op .ok 0 0 result

/-- Refuse a command, with WHERE (Table CMD-2). -/
def refuse (s : State) (c : Ctx) (op : Nat) (code : Code) (wh : Nat) : State := answer s c op code wh 0 []

/-- A command waits for an event before its reply: its queue is blocked and its place freed (R319). -/
def await (s : State) (c : Ctx) (op island subject : Nat) : State :=
  let x := entryFor s c op island subject
  let old := execOf s c
  let rest := match old with
    | some y => s.cmd.executing.erase y
    | none => s.cmd.executing
  { s with cmd := { s.cmd with executing := rest ++ [{ x with blocked := true }] } }

/-- Reply ACCEPTED_PENDING or BUDGET_DELAYED and wait: the final outcome follows as a notification (R309, R310). -/
def accept (s : State) (c : Ctx) (op : Nat) (code : Code) (estimate island subject : Nat) : State :=
  let x := entryFor s c op island subject
  let old := execOf s c
  let rest := match old with
    | some y => s.cmd.executing.erase y
    | none => s.cmd.executing
  let r : Reply := { session := c.session.val, tag := c.tag.toNat, opcode := op, code := code, final := false,
                     notify := false, lost := false, whereField := estimate, ident := 0, result := [] }
  let c1 : Commands := { s.cmd with executing := rest ++ [{ x with blocked := true, pending := true }] }
  { s with cmd := pushFor c1 old c.queue.val r }

/-- The final outcome of a waiting command, given by its entry. -/
def conclude (s : State) (x : Executing) (code : Code) (wh ident : Nat) (result : List Byte) : State :=
  let r : Reply := { session := x.session, tag := x.tag, opcode := x.opcode, code := code, final := true,
                     notify := x.pending, lost := false, whereField := wh, ident := ident, result := result }
  let s1 := flagCode s code
  { s1 with cmd := pushFor (retire s1.cmd x) (some x) x.queue r }

/-- The waiting commands that satisfy a test. -/
def waiting (s : State) (p : Executing → Bool) : List Executing := s.cmd.executing.filter p

/-- Give every waiting command of an opcode its final outcome. -/
def concludeAll (s : State) (p : Executing → Bool) (code : Code) (wh : Nat) (result : State → Executing → List Byte) : State :=
  (waiting s p).foldl (fun s x => conclude s x code wh 0 (result s x)) s

/-! ## Husks (R13) -/

/-- A Husk holds the island of a window. -/
def held (s : State) (w : Nat) : Bool := s.own.held.contains w

/-- The Husk of a window takes over: every request inside completes with HUSKED (R13). -/
def huskHold (s : State) (w : Nat) : State :=
  let s1 := { s with own := { s.own with held := if held s w then s.own.held else s.own.held ++ [w] } }
  concludeAll s1 (fun x => decide (x.island = w)) .husked w (fun _ _ => [])

/-- The Husk of a window releases its island. -/
def huskRelease (s : State) (w : Nat) : State := { s with own := { s.own with held := s.own.held.filter (fun x => x ≠ w) } }

/-! ## Roles -/

/-- A role that owns the field: ACTIVE or ALONE (R17). -/
def ownerRole (r : Role) : Bool := decide (r = .active) || decide (r = .alone)

/-- The module owns the field. -/
def owner (s : State) : Bool := ownerRole s.pair.role

/-- A module whose commits stream to the partner: ACTIVE, past BULK (R18, R276). -/
def paired (s : State) : Bool := decide (s.pair.role = .active) && s.pair.streaming

/-- A ROLE message says whether a region of this module is without a spare (R295); one goes as the link becomes READY (DEDUCED, log 145). -/
def roleStamp (s : State) : PairMsg → PairMsg
  | .role note => .role { note with noSpare := s.mem.regions.any (fun p => p.2.erased.isSome) }
  | m => m

/-- Queue a message for the partner; a link that is not READY carries none (R261), and neither does Peapod behind its Husk (R13). -/
def send (s : State) (m : PairMsg) : State :=
  if s.pair.link = .ready ∧ held s 7 = false then { s with pair := { s.pair with outbox := s.pair.outbox ++ [roleStamp s m] } } else s

/-- What a writer has changed goes to the partner under its tag, then its COMMIT (R18, R271; log 119). -/
def sendEntries (s : State) (tag seq : Nat) (x : CopyContent) : State := send (send s (.copy tag x)) (.commit tag seq)

/-- A change that drives nothing itself is copied to the partner (R55, R143, R179, R271). -/
def copyChange (s : State) (tag : Nat) (x : CopyContent) : State :=
  if paired s then
    sendEntries { s with own := { s.own with nextCommit := (s.own.nextCommit + 1) % 4294967296 } } tag s.own.nextCommit x
  else s

/-- The module's output stages conduct: its own line toggles and the partner's has been quiet for 2 µs (R16). -/
def conducting (s : State) : Bool := s.own.ownSeen && s.own.partnerQuiet

/-! ## State memory (R81, R191, R214, R379) -/

/-- BULK or CATCHUP runs on the owner: what is written now must be sent again (R276). -/
def marksLines (s : State) : Bool := decide (s.pair.role = .active) && !s.pair.streaming && decide (2 ≤ s.pair.phase)

/-- The lines of `n` bytes from address `a` join those marked. -/
def markLines (s : State) (a n : Nat) : List Nat :=
  if marksLines s then (s.exe.dirty ++ (List.range ((a % 64 + n + 63) / 64)).map (a / 64 + ·)).dedup else s.exe.dirty

/-- Bytes written to state memory at address `a`, in an area that the image gives to an island (R81, R191, R214, R379). -/
def areaPut (s : State) (a : Nat) (bs : List Byte) : State :=
  { s with exe := { s.exe with area := putStore s.exe.area a bs, dirty := markLines s a bs.length } }

/-- `n` bytes of state memory from address `a`. -/
def areaGet (s : State) (a n : Nat) : List Byte := getStore s.exe.area a n

/-- Run the command `i` where the dispatcher has started it, after the checks made at execution: the island is not held, and the pair role is
one in which the family's writes execute (R310, R311, R319, Table CMD-5). One that has not started leaves the module as it is. -/
def command (s : State) (c : Ctx) (op island : Nat) (i : Instr) (roleOk : Bool) (body : State → State) : State :=
  if !starts s c op i then s
  else if held s island then refuse s c op .husked island
  else if roleOk then body s
  else refuse s c op .wrongRole (roleCode s.pair.role)

/-- Part of a command's work is in the island of window `w` too: behind its Husk the command ends HUSKED before it changes anything (R13,
R310). -/
def meets (s : State) (c : Ctx) (op w : Nat) (body : State → State) : State :=
  if held s w then refuse s c op .husked w else body s

/-- The blocks of a message on the link (Table PPD-3). Those of a copied line count one LINE with its eight data blocks, and those of a message
whose data the manual does not lay out as few as they can (log 28). -/
def messageBlocks : PairMsg → Nat
  | .copy _ _ => 9
  | .hrec _ _ _ _ data => 1 + (data.length + 7) / 8
  | .safety _ set => 17 + (if set.isSome then 32 else 0)
  | .replay _ _ => 31
  | .challenge _ => 7
  | .ident cert _ _ _ _ signature => 1 + (cert.length + signature.length + 7) / 8
  | _ => 1

/-- The physical lanes in service, in the order of their logical lanes. -/
def streamLanes (s : State) : List Nat :=
  (List.range 4).filterMap (fun g => (List.range 5).find? (fun k =>
    let l := s.pair.lanes.getD k {}
    decide (l.state = 2) && decide (l.logical = g)))

/-- A lane has sent `n` more blocks: every 32nd block on it is a CHECK, so one follows each 31 others, and an ALIGN goes every 16,384
blocks (R258). -/
def laneSent (l : Lane) (n : Nat) : Lane :=
  let checks := (l.sent + n) / 31
  { l with sent := l.sent + n, checks := checks, aligns := (l.sent + n + checks) / 16384 }

/-- `n` blocks are dealt round robin over the lanes in service, in logical lane order (R258). -/
def dealBlocks (s : State) (n : Nat) : State :=
  let ks := streamLanes s
  let m := ks.length
  if m = 0 then s
  else
    let share (j : Nat) : Nat := (n + m - 1 - (j + m - s.pair.turn % m) % m) / m
    { s with pair := { s.pair with
      turn := (s.pair.turn + n) % m
      lanes := ks.zipIdx.foldl (fun ls p => modAt ls p.1 (fun l => laneSent l (share p.2))) s.pair.lanes } }

/-- What waits for the partner is sent over the lanes. -/
def sendOutbox (s : State) : State :=
  let t := dealBlocks s ((s.pair.outbox.map messageBlocks).sum)
  { t with pair := { t.pair with outbox := [] } }

/-- The packets that the notification queues send now, beside what the others sent last. -/
def sendReplies (c : Commands) : Store (List Byte) :=
  c.replies.foldl (fun m p => match p.2 with
    | r :: _ => storeSet (fun _ => []) m p.1 (wireBytes p.1 r)
    | [] => m) c.sent

/-- What the machine does with an empty command queue: each notification queue sends its oldest packet (R318), what waits for the
partner and the network ports is sent, and a credential operation that nothing waits for has ended (log 5). -/
def idleTick (s : State) : State :=
  { s with cmd := { s.cmd with replies := (s.cmd.replies.map (fun p => (p.1, p.2.drop 1))).filter (fun p => p.2 ≠ []), sent := sendReplies s.cmd }
           pair := (sendOutbox s).pair
           net := { s.net with out := [] }
           tru := if s.tru.waitingOps = [] then { s.tru with busy := none } else s.tru }

end Sys2Proof.Machine
end

