-- ==== Sys2Proof/Machine/NvWrites.lean ====
section
/-! DEFINITION. Machine/NvWrites.lean: the MRAM writes that wait for a claim of Gourd: the retain store, the force table, the sprout record,
the fault record, module time and the option copies (R47, R55, R300, R361, R450, R481). -/
namespace Sys2Proof.Machine
open Sys2Proof

/-! ## The retain store (R47, R48) -/

/-- A function block instance as the bytes of a retain copy (log 97). -/
def fbBytes (x : Fb) : List Byte :=
  leBytes 1 (b2n x.seen + 2 * b2n x.running + 4 * b2n x.q + 8 * b2n x.qd + 16 * b2n x.prev + 32 * b2n x.prevDown)
    ++ leBytes 8 x.start.toNat ++ leBytes 8 x.elapsed.toNat ++ leBytes 8 (x.cv % 18446744073709551616).toNat

/-- The bytes of a retain copy that its CRC covers: sequence number, PROGRAM_ID and the retain set (R47; the layout is log 97's). -/
def retainBytes (k : RetainCopy) : List Byte :=
  leBytes 4 k.seq ++ leBytes 16 k.program ++ leBytes 8 k.data.time
    ++ k.data.vars.flatMap (fun p => leBytes 8 p.1 ++ leBytes 4 p.2.length ++ p.2)
    ++ k.data.fbs.flatMap (fun p => leBytes 8 p.1 ++ fbBytes p.2)

/-- A retain copy passes its CRC-32C (R47, R48). -/
def retainOk (k : RetainCopy) : Bool := decide (k.crc = crc32c (retainBytes k))

/-- A retain copy with the CRC-32C over it. -/
def sealRetain (k : RetainCopy) : RetainCopy := { k with crc := crc32c (retainBytes k) }

/-- The retain set goes to the copy that was not written last, once a restart, a task end or the saved copy has filled the shadow (R47;
log 128). -/
def storeRetain (s : State) : State :=
  let program := (s.exe.image.map (fun im => im.header.programId)).getD 0
  let a := s.exe.copyA
  let b := s.exe.copyB
  if !s.exe.shadowLive then s
  else if retainOk a && (decide (b.seq < a.seq) || !retainOk b) then
    { s with exe := { s.exe with copyB := sealRetain { seq := a.seq + 1, program := program, data := s.exe.shadow } } }
  else
    { s with exe := { s.exe with copyA := sealRetain { seq := (if retainOk b then b.seq + 1 else a.seq + 1), program := program, data := s.exe.shadow } } }

/-- The valid copy with the higher sequence number (R48). -/
def retainCopy (s : State) : Option RetainCopy :=
  let a := s.exe.copyA
  let b := s.exe.copyB
  if retainOk a && retainOk b then (if a.seq < b.seq then some b else some a)
  else if retainOk a then some a
  else if retainOk b then some b
  else none

/-! ## Sprout's record, the fault record and the options -/

/-- The parts out of service and the spares in use now (R300). -/
def sproutRecordNow (s : State) : SproutRecord :=
  let x := s.spr
  { coreX := x.coreX, coreY := x.coreY, zRole := x.zRole, oscs := x.oscs, oscOut := x.oscOut, cells := x.cells, cellOut := x.cellOut
    ppdLane := x.ppdLane, pod := x.pod, sprouts := x.sprouts
    fes := (s.fch.fes.filter (fun p => p.2.broken || p.2.link.isSome)).map (fun p => (p.1, p.2.broken, p.2.link))
    regions := s.mem.regions.map (fun p => (p.1, p.2.retired, p.2.erased))
    podMap := s.hz.podMap, failedPods := s.hz.failedPods
    lanes := (s.pair.lanes.zipIdx.filter (fun p => decide (p.1.state = 4))).map (·.2) }

/-- The fault record that waits goes to the copy that was not written last (R450). -/
def storeFault (s : State) : State :=
  let sa := (s.sup.faultA.map (·.seq)).getD 0
  let sb := (s.sup.faultB.map (·.seq)).getD 0
  match s.sup.faultNext with
  | none => s
  | some r =>
    let r' := { r with seq := max sa sb + 1 }
    if sa ≤ sb then { s with sup := { s.sup with faultA := some r', faultNext := none } }
    else { s with sup := { s.sup with faultB := some r', faultNext := none } }

/-- A committed option copy is written to copy 2 and then to copy 1; else copy 1 is rewritten from copy 2 (R450, R452). -/
def storeOptions (s : State) : State :=
  match s.sup.optNext with
  | some m => { s with sup := { s.sup with opt1 := m, opt2 := m, optNext := none } }
  | none => { s with sup := { s.sup with opt1 := s.sup.opt2 } }

/-- The MRAM write that a claim was asked for is made. The writes that a row of their own ends are left to it: the ring's flush, the capture
data, a remap and the panel's record. -/
def nvWrite (s : State) : Purpose → State
  | .retainWrite => storeRetain s
  | .forceTable => { s with exe := { s.exe with savedForces := s.exe.forces } }
  | .sproutRecord => { s with spr := { s.spr with saved := sproutRecordNow s } }
  | .faultRecord => storeFault s
  | .timeSave => { s with net := { s.net with saved := s.now } }
  | .optionWrite => storeOptions s
  | _ => s

/-- MRAM writes of the power-fail sequence, which count as C0 after the warning (R177). -/
def powerFailWrite : Purpose → Bool
  | .retainWrite => true | .seedbankFlush => true | .panelRecord => true | .timeSave => true | .sproutRecord => true
  | .faultRecord => true | .mramRemap sequence => sequence
  | _ => false

/-- A C2 request reaches Gourd; a write of the power-fail sequence is C0 after the warning, and is made without waiting (R177, R481).
While a Husk holds Gourd, the request ends HUSKED and leaves nothing waiting (R13). -/
def requestC2 (s : State) (r : Request) : State :=
  if held s 4 then s
  else if s.grd.pfw && powerFailWrite r.purpose then
    nvWrite { s with grd := { s.grd with c0 := s.grd.c0 ++ [{ r with cls := .c0 }] } } r.purpose
  else { s with grd := { s.grd with c2 := s.grd.c2 ++ [r] } }

/-- An island asks for the claim of an MRAM write, 450 mW for the time of Table PWB-7, and the write is made at its grant (R481). A write that
finds Gourd behind its Husk, as at start-up, is made without a claim (log 111). -/
def askWrite (s : State) (window durUs : Nat) (p : Purpose) : State :=
  requestC2 (if held s 4 then nvWrite s p else s)
    { cls := .c2, source := window, group := none, amount := 450, duration := some durUs, purpose := p,
      made := s.now, delayed := none, estimate := none }

/-- At the warning the writes of the power-fail sequence that still wait become C0 and are made (R177). -/
def waitingToC0 (s : State) : State :=
  let mine := s.grd.c2.filter (fun r => powerFailWrite r.purpose)
  let s1 := { s with grd := { s.grd with
    c0 := s.grd.c0 ++ mine.map (fun r => { r with cls := .c0 }), c2 := s.grd.c2.filter (fun r => !powerFailWrite r.purpose) } }
  mine.foldl (fun t r => nvWrite t r.purpose) s1

end Sys2Proof.Machine
end

