-- ==== Sys2Proof/Machine/GmuTables.lean ====
section
/-! DEFINITION. Machine/GmuTables.lean: the grid measurement unit's indirect tables as the state holds them (Tables GMU-6,
GMU-11 to GMU-14). -/
namespace Sys2Proof.Machine
open Sys2Proof

/-- What a byte of the GMU tables reads as before anything is written: membership 0xFF, the default thresholds of Table GMU-12,
0 elsewhere. -/
def gmuByte0 (a : Nat) : Byte :=
  if 0xC00 ≤ a ∧ a < 0xCC0 then 0xFF
  else if 0x900 ≤ a ∧ a < 0x920 then (match a % 8 with
    | 4 => 90 | 5 => 110 | 6 => 10 | _ => 0)
  else 0

/-- A byte of the GMU tables. -/
def gmuByte (s : State) (a : Nat) : Byte := storeGet gmuByte0 s.gmu.table a

/-- A little-endian field of `n` bytes of the GMU tables. -/
def gmuField (s : State) (a n : Nat) : Nat := ofLe ((List.range n).map (fun i => gmuByte s (a + i)))

/-- Write bytes into the GMU tables from address `a`. -/
def setGmuBytes (s : State) (a : Nat) (bs : List Byte) : State :=
  { s with gmu := { s.gmu with table := bs.zipIdx.foldl (fun m p => storeSet gmuByte0 m (a + p.2) p.1) s.gmu.table } }

/-- The load group of a channel, 0xFF for none (R201). -/
def loadGroupOf (s : State) (c : Nat) : Nat := gmuField s (0xC00 + c) 1

/-- Group `g` is defined. -/
def loadDefined (s : State) (g : Nat) : Bool := decide (gmuField s (0x401 + 16 * g) 1 % 2 = 1)

/-- The member channels of a load group. -/
def loadMembers (s : State) (g : Nat) : List Nat := (List.range 192).filter (fun c => decide (loadGroupOf s c = g))

/-- A field of trigger `t`: `n` bytes at offset `o` (Table GMU-13). -/
def trigField (s : State) (t o n : Nat) : Nat := gmuField s (32 * t + o) n

/-- A trigger's run state. -/
def trig (s : State) (t : Nat) : Trig := storeGet (fun _ => {}) s.gmu.trigs t

/-- Replace a trigger's run state. -/
def setTrig (s : State) (t : Nat) (x : Trig) : State :=
  { s with gmu := { s.gmu with trigs := storeSet (fun _ => {}) s.gmu.trigs t x } }

/-- STATE of a trigger entry (Table GMU-13). -/
def trigState (s : State) (t : Nat) : Word := fieldWord 31 16 (trig s t).firings ||| fieldWord 1 0 (trig s t).st

/-- A field of the synchroscope block (Table GMU-6). -/
def syncField (s : State) (o n : Nat) : Nat := gmuField s (0x800 + o) n

/-- The synchroscope times the close itself (MODE AUTO). -/
def syncAuto (s : State) : Bool := decide (syncField s 0 1 = 1)

/-- The block permits a close onto a dead reference. -/
def syncDeadBus (s : State) : Bool := decide (syncField s 3 1 / 2 % 2 = 1)

/-- Change the synchroscope. -/
def modSync (s : State) (f : Sync → Sync) : State := { s with gmu := { s.gmu with sync := f s.gmu.sync } }

/-- A task's write of CLOSE_CH reaches the synchroscope (R196, R197, Table GMU-8): an off-to-on transition while ARMED in AUTO is
held; a withdrawal returns to ARMED; after an abort only an off frees the channel. -/
def syncWriter (s : State) (c : Nat) (was now : Bool) : State :=
  let y := s.gmu.sync
  if y.closeCh ≠ c then s
  else if !now then
    modSync s (fun y => { y with lockout := false, held := false, state := if y.state = 2 ∨ y.state = 3 then 1 else y.state })
  else if !was && decide (y.state = 1) && syncAuto s then
    modSync s (fun y => { y with state := 2, held := true, since := s.now })
  else s

end Sys2Proof.Machine
end

