-- ==== Sys2Proof/Machine/Channels.lean ====
section
/-! DEFINITION. Machine/Channels.lean: the field channels' shared operations: modes, the precedence of Table ARC-3,
Gourd's field claims (R169) and the grant log (R178), the driven value (R23, R152), and the latched entry (R111, R121). -/
namespace Sys2Proof.Machine
open Sys2Proof

/-! ## Front-ends and groups -/

/-- Front-end `n` (0–191 channels, 192–215 spares, R107). -/
def fe (s : State) (n : Nat) : FrontEnd := storeGet (fun _ => {}) s.fch.fes n

/-- Replace front-end `n`. -/
def setFe (s : State) (n : Nat) (f : FrontEnd) : State :=
  { s with fch := { s.fch with fes := storeSet (fun _ => {}) s.fch.fes n f } }

/-- Change front-end `n`. -/
def modFe (s : State) (n : Nat) (g : FrontEnd → FrontEnd) : State := setFe s n (g (fe s n))

/-- The group of a front-end (Table FCD-1). -/
def groupOf (n : Nat) : Nat := if n < 192 then n / 16 else (n - 192) / 2

/-- Group `g`. -/
def group (s : State) (g : Nat) : Group := storeGet (fun _ => {}) s.fch.groups g

/-- Replace group `g`. -/
def setGroup (s : State) (g : Nat) (x : Group) : State :=
  { s with fch := { s.fch with groups := storeSet (fun _ => {}) s.fch.groups g x } }

/-- The channels of a group. -/
def groupChannels (g : Nat) : List Nat := (List.range 16).map (fun i => 16 * g + i)

/-- The spare front-ends of a group. -/
def groupSpares (g : Nat) : List Nat := [192 + 2 * g, 193 + 2 * g]

/-- The channel whose settings and state front-end `n` stands for: a spare in service stands for its channel (R140). -/
def channelOf (s : State) (n : Nat) : Nat := if n < 192 then n else ((fe s n).link).getD n

/-- Spares of a group not in service and not failed (FGRP_STAT.SPARES_FREE). DESIGN CHOICE: an idle spare that has failed is not counted, since
it can serve no channel (log 136). -/
def sparesFree (s : State) (g : Nat) : Nat :=
  ((groupSpares g).filter (fun n => (fe s n).link.isNone && !(fe s n).broken)).length

/-- The mode in force of front-end `n` (Table FCD-5). -/
def modeOf (s : State) (n : Nat) : Nat := cfgField s Reg.fchMode (channelOf s n) 7 0

/-- DI modes. -/
def isDi (m : Nat) : Bool := decide (m = 1) || decide (m = 2) || decide (m = 3)
/-- DO and DO with readback. -/
def isDo (m : Nat) : Bool := decide (m = 4) || decide (m = 5)
/-- Pulse count and frequency. -/
def isPulse (m : Nat) : Bool := decide (m = 6) || decide (m = 7)
/-- AI modes. -/
def isAi (m : Nat) : Bool := decide (m = 0x10) || decide (m = 0x11) || decide (m = 0x12)
/-- AO. -/
def isAo (m : Nat) : Bool := decide (m = 0x13)
/-- Current modes. -/
def isCurrent (m : Nat) : Bool := isAi m || isAo m
/-- The modes of Table FCD-5. -/
def modeDefined (m : Nat) : Bool := decide (m = 0) || isDi m || isDo m || isPulse m || isCurrent m
/-- Modes that use FCH_DICFG.ON and OFF (R122). -/
def usesThresholds (m : Nat) : Bool := decide (m = 3) || isPulse m

/-! ## The grant log and the outcomes of requests (R178) -/

/-- Add an entry to the grant log, a ring of 256; overwriting an unread one sets LOG_WRAP. -/
def logGrant (s : State) (cls : GrantClass) (o : GrantOutcome) (why : Reason) (island : Bool) (source : Nat)
    (grp : Option Nat) (amount : Nat) (duration : Option Nat) (wait : Nat) : State :=
  let e : GrantEntry := { time := s.now, cls := cls, outcome := o, reason := why, island := island, source := source,
                          group := grp, amount := amount, duration := duration, wait := wait % 4294967296,
                          seq := s.grd.logSeq, read := false }
  let unread := match s.grd.log[255]? with
    | some old => !old.read
    | none => false
  raiseIf unread { s with grd := { s.grd with log := (e :: s.grd.log).take 256, logSeq := (s.grd.logSeq + 1) % 4294967296 } }
    Reg.grdFlags 0 3

/-- Log an outcome of a request. -/
def logRequest (s : State) (r : Request) (o : GrantOutcome) (why : Reason) (wait : Nat) : State :=
  logGrant s r.cls o why (decide (r.cls ≠ .c1)) r.source r.group r.amount r.duration wait

/-- A wait of `n` ns in µs, and the code for an unknown one (R167). -/
def estimateField (e : Option Nat) : Nat := e.getD 0xFFFFFFFF

/-- The subject number of a command that waits for channel `c`'s grant. -/
def grantSubject (c : Nat) : Nat := 65536 + c

/-- The subject number of a command that waits for the claim of a force table write. -/
def tableSubject : Nat := 131072

/-- A command awaits the outcomes of its requests to Gourd before its reply (R178). -/
def awaitGrants (s : State) (c : Ctx) (op island : Nat) (qs : List Nat) (undo : List (ForceKey × Option Nat) := []) : State :=
  let x := entryFor s c op island 0
  let rest := match execOf s c with
    | some y => s.cmd.executing.erase y
    | none => s.cmd.executing
  { s with cmd := { s.cmd with executing := rest ++ [{ x with blocked := true, waits := qs, undo := undo }] } }

/-- A granted request answers a command that waits for nothing else: OK, with EXE_FORCE.COUNT for a force command (R178). -/
def grantOne (q : Nat) (s : State) (x : Executing) : State :=
  let left := x.waits.erase q
  if left = [] then conclude s x .ok 0 0 (if x.opcode = 0x0502 then [] else leBytes 4 s.exe.forces.length)
  else { s with cmd := { s.cmd with executing := s.cmd.executing.map (fun y => if y = x then { y with waits := left } else y) } }

/-- A request that commands wait for was granted. -/
def concludeGrant (s : State) (q : Nat) : State := (waiting s (fun x => x.waits.contains q)).foldl (grantOne q) s

/-- A request that commands wait for ended otherwise: its outcome is theirs. -/
def concludeOther (s : State) (q : Nat) (code : Code) (wh : Nat) : State :=
  concludeAll s (fun x => x.waits.contains q) code wh (fun _ _ => [])

/-- A request that commands wait for is delayed: they are answered BUDGET_DELAYED with its estimate (R178). -/
def replyDelayed (s : State) (p : Executing → Bool) (est : Option Nat) : State :=
  (waiting s (fun x => p x && !x.pending)).foldl (fun s x =>
    accept s { queue := Fin.ofNat 32 x.queue, session := Fin.ofNat 17 x.session, tag := BitVec.ofNat 16 x.tag } x.opcode .budgetDelayed
      (estimateField est) x.island x.subject) s

/-- A request was refused: flag, counter and log (R178, R180). -/
def refuseRequest (s : State) (r : Request) (why : Reason) : State :=
  let s1 := logRequest (countUp (raise s Reg.grdFlags 0 1) Reg.grdSnapRef 0) r .refused why 0
  if r.cls = .c1 then
    concludeOther (modFe s1 r.source (fun f => { f with budget := .refused })) (grantSubject r.source) .budgetRefused (reasonCode why)
  else s1

/-! ## Gourd's field claims (Table PWB-2) -/

/-- LOAD_I of a GRD_CHLOAD value in mode `m` (Table PWB-2): an AO takes 1–24 mA, and a declaration outside that stands for the default
of 24 (log 112). -/
def loadOf (m : Nat) (v : Word) : Nat :=
  if isAo m && (decide (field v 24 16 = 0) || decide (24 < field v 24 16)) then 24 else field v 24 16

/-- The declared load current of a channel, mA. -/
def loadI (s : State) (c : Nat) : Nat := loadOf (modeOf s c) (cfg s Reg.grdChload c)

/-- The declared inrush time of a channel, ns. -/
def inrushNs (s : State) (c : Nat) : Nat := cfgField s Reg.grdChload c 5 0 * 100000

/-- The field claims of channel `c`. -/
def claimOf (s : State) (c : Nat) : FieldClaim := storeGet (fun _ => {}) s.grd.field c

/-- Replace the field claims of channel `c`. -/
def setClaim (s : State) (c : Nat) (x : FieldClaim) : State :=
  { s with grd := { s.grd with field := storeSet (fun _ => {}) s.grd.field c x } }

/-- The claims of every channel that holds one, with the excesses that are active now (R179). -/
def claimsNow (s : State) : List ClaimCopy :=
  s.grd.field.map (fun p => { channel := p.1, standing := p.2.standing, excess := if s.now < p.2.excessEnd then p.2.excess else 0
                              short := if s.now < p.2.shortEnd then p.2.shortExcess else 0 })

/-- The partner has the claims as they stand. -/
def noteCopied (s : State) : State := { s with grd := { s.grd with copied := claimsNow s } }

/-- The C1 request of channel `c` that waits, if any. -/
def waitingC1 (s : State) (c : Nat) : Option Request := s.grd.c1.find? (fun r => r.source == c)

/-- Make a C1 request of channel `c`, or change the amount of the one that waits (R167, Table PWB-1); while a Husk holds
Gourd the request ends HUSKED (R13). DESIGN CHOICE: a new AO command above the claim, while the request waits, changes that request's amount and
keeps its place, its time, its reason and its estimate (log 140). The request's group and amount are as Table PWB-5 gives them. -/
def requestC1 (s : State) (c amount : Nat) : State :=
  if held s 4 then s
  else match waitingC1 s c with
  | some _ => { s with grd := { s.grd with c1 := s.grd.c1.map (fun r => if r.source = c then { r with amount := amount } else r) } }
  | none =>
    let r : Request := { cls := .c1, source := c, group := some (groupOf c), amount := amount, duration := none,
                         purpose := .other, made := s.now, delayed := none, estimate := none }
    { s with grd := { s.grd with c1 := s.grd.c1 ++ [r] } }

/-- A waiting C1 request of channel `c` ends REFUSED (R174). -/
def withdrawC1 (s : State) (c : Nat) (why : Reason) : State :=
  match waitingC1 s c with
  | some r => refuseRequest { s with grd := { s.grd with c1 := s.grd.c1.filter (fun x => x.source ≠ c) } } r why
  | none => s

/-! ## The commanded value: Table ARC-3 -/

/-- A force entry by key (R54). -/
def forceOf (s : State) (k : ForceKey) : Option Nat := (s.exe.forces.find? (fun f => decide (f.key = k))).map (·.value)

/-- AO failure current of FAILDIR (Table FCA-5). -/
def failCounts (s : State) (c : Nat) : Nat :=
  match cfgField s Reg.fchAocfg c 1 0 with
  | 0 => 7200 | 1 => 43000 | _ => 0

/-- The demand an output word asks for in a mode (Table FCA-2): DO bit 0; AO COUNTS at most 48,000, or the failure current. -/
def demandOf (s : State) (c : Nat) (w : Word) : Nat :=
  let m := modeOf s c
  if isDo m then field w 0 0
  else if isAo m then (if bit w 16 then failCounts s c else min (field w 15 0) 48000)
  else 0

/-- The STOP behaviour of a channel (R52, R159). -/
def stopDemand (s : State) (c : Nat) : Nat :=
  match cfgField s Reg.fchStopcfg c 1 0 with
  | 1 => if isDo (modeOf s c) then cfgField s Reg.fchStopcfg c 2 2 else min (cfgField s Reg.fchAosafe c 15 0) 48000
  | 2 => (fe s c).driven.toNat
  | _ => 0

/-- The channel belongs to a load group whose reflex shed is active (row 4). -/
def shedOn (s : State) (c : Nat) : Bool :=
  let g := loadGroupOf s c
  decide (g < 64) && s.gmu.shed.testBit g

/-- The channel's close command is held by the synchroscope, or stays off after an abort (R196, R197). -/
def closeHeld (s : State) (c : Nat) : Bool := (s.gmu.sync.held || s.gmu.sync.lockout) && decide (s.gmu.sync.closeCh = c)

/-- The first row of Table ARC-3 from row 3 on whose condition holds; rows 1 and 2 act in the front-end (R16, R113). -/
def arcRow (s : State) (c : Nat) : Nat :=
  let f := fe s c
  if f.failed || f.broken || decide ((group s (groupOf c)).supply = .missing) then 3
  else if shedOn s c then 4
  else if (forceOf s (.output c)).isSome then 5
  else if decide (s.exe.station ≠ .run) || !f.written || f.taskStopped then 6
  else 7

/-- The value that Table ARC-3 selects for an output channel by its rows 3 to 7. -/
def commanded (s : State) (c : Nat) : Nat :=
  if !(isDo (modeOf s c) || isAo (modeOf s c)) then 0
  else match arcRow s c with
    | 5 => demandOf s c (word ((forceOf s (.output c)).getD 0))
    | 6 => stopDemand s c
    | 7 => if closeHeld s c then 0 else demandOf s c (fe s c).writer
    | _ => 0

/-- The writer's on is held by the synchroscope: it is requested from Gourd but not driven (R196). -/
def heldOn (s : State) (c : Nat) : Bool :=
  s.gmu.sync.held && decide (s.gmu.sync.closeCh = c) && decide (arcRow s c = 7) && decide (demandOf s c (fe s c).writer = 1)

/-- The channel does not drive its writer's demand, under rows 1 to 6 of Table ARC-3 (R88). -/
def overridden (s : State) (c : Nat) : Bool :=
  !conducting s || decide ((fe s c).seenState = .localSafe) || decide (arcRow s c ≠ 7)

/-- The failure current is being driven: FAILSIG, by the local safe state, or by a FAIL bit at row 5 or 7 of Table ARC-3 (R157). -/
def failSignalled (s : State) (c : Nat) : Bool :=
  let f := fe s c
  let local_ := decide (f.seenState = .localSafe) && decide (cfgField s Reg.fchAocfg c 5 4 = 2)
  let asked : Bool := match arcRow s c with
    | 5 => bit (word ((forceOf s (.output c)).getD 0)) 16
    | 7 => bit f.writer 16
    | _ => false
  let byWriter := asked && decide (f.driven.toNat = failCounts s c) && decide (f.seenState = .armed)
  isAo (modeOf s c) && (local_ || byWriter)

/-! ## Driving under a grant (R23, R152, R169) -/

/-- The counts an AO's standing claim covers: LOAD_I at 0.5 µA a count (R169). -/
def aoBase (s : State) (c : Nat) : Nat := loadI s c * 2000

/-- The mA above LOAD_I that an AO command needs (R169; a part of a mA counts whole, log 21). -/
def aoAbove (s : State) (c want : Nat) : Nat := (want - aoBase s c + 1999) / 2000

/-- The local safe setting the logic side writes into the isolated-side store at arming and at each staged change (R158). -/
def safeSetting (s : State) (c : Nat) : Nat :=
  match cfgField s Reg.fchAocfg c 5 4 with
  | 1 => cfgField s Reg.fchAosafe c 31 16
  | 2 => failCounts s c
  | _ => 0

/-- An AO's standing claim while it drives `want`: LOAD_I, raised to the current driven and to the local safe current (R158, R169). -/
def aoStanding (s : State) (c want : Nat) : Nat :=
  max (loadI s c + (if want ≤ aoBase s c then 0 else aoAbove s c want)) ((safeSetting s c + 1999) / 2000)

/-- Release a DO's claims, with any waiting request WITHDRAWN (R168, R174). -/
def releaseDo (s : State) (c : Nat) : State :=
  let s1 := withdrawC1 s c .withdrawn
  let s2 := setClaim s1 c {}
  modFe s2 c (fun f => { f with granted := 0, driven := 0 })

/-- A DO's commanded value reaches the grant gate. -/
def refreshDo (s : State) (c : Nat) : State :=
  if heldOn s c then
    let f := fe s c
    if f.granted = 1 ∨ f.latchedOff then modFe s c (fun f => { f with driven := 0 })
    else requestC1 (modFe s c (fun f => { f with driven := 0 })) c (loadI s c)
  else if commanded s c = 0 then releaseDo s c
  else
    let f := fe s c
    if f.granted = 1 then modFe s c (fun f => { f with driven := 1 })
    else if f.latchedOff then s
    else requestC1 (modFe s c (fun f => { f with driven := 0 })) c (loadI s c)

/-- An AO's commanded value reaches the grant gate: a fall below what is driven, or a value within the claim, is driven at once; a rise
above the grant waits, and the previous current holds, its claim raised where the local safe current now is the higher (R23, R152, R158). -/
def refreshAo (s : State) (c : Nat) : State :=
  let want := commanded s c
  let base := aoBase s c
  let f := fe s c
  if want ≤ max (max base f.granted) f.driven.toNat then
    let s1 := withdrawC1 s c .withdrawn
    let s2 := modFe s1 c (fun f => { f with driven := BitVec.ofNat 16 want, granted := if want ≤ base then 0 else want })
    setClaim s2 c { claimOf s2 c with standing := aoStanding s c want }
  else requestC1 (setClaim s c { claimOf s c with standing := max (claimOf s c).standing (aoStanding s c f.driven.toNat) }) c (aoAbove s c want)

/-- The channel's bring-in runs or waits: its front-end drives nothing, and the spare takes over the grant and the value it holds (R30,
R137, R138). -/
def sproutHeld (s : State) (c : Nat) : Bool :=
  (fe s c).sprouting || ((fe s c).broken && s.spr.feQueue.any (fun p => decide (p.1 = c)))

/-- Bring the driven value of output channel `c` up to what Table ARC-3 and Gourd allow. Only a module that owns the field
makes field requests (R179). -/
def refresh (s : State) (c : Nat) : State :=
  if !owner s then s
  else if sproutHeld s c then s
  else if isDo (modeOf s c) then refreshDo s c
  else if isAo (modeOf s c) then refreshAo s c
  else s

/-- Refresh several channels in order. -/
def refreshAll (s : State) (cs : List Nat) : State := cs.foldl refresh s

/-- A writer drives one output word: the channel takes its writer's value, counts as driven, and reaches the gate. The value stays the
front-end's preload, should the module become STANDBY (R20). -/
def driveOne (s : State) (d : Nat × Word) : State :=
  let was := (fe s d.1).written && bit (fe s d.1).writer 0
  let s1 := modFe s d.1 (fun f => { f with
    writer := d.2, written := true, taskStopped := false, preload := BitVec.ofNat 16 (demandOf s d.1 d.2) })
  refresh (syncWriter s1 d.1 was (bit d.2 0)) d.1

/-- A writer drives output words (R42). -/
def drive (s : State) (ds : List (Nat × Word)) : State := ds.foldl driveOne s

/-- The last committed value becomes the preload of the matching front-end (R20). -/
def preload (s : State) (ds : List (Nat × Word)) : State :=
  ds.foldl (fun s d => modFe s d.1 (fun f => { f with writer := d.2, written := true,
                                                      preload := BitVec.ofNat 16 (demandOf s d.1 d.2) })) s

/-- A close is committed for a frame that has passed (R209). -/
def closePassed (s : State) : Bool := decide (s.gmu.sync.state = 3) && decide (s.gmu.sync.frame ≤ s.now)

/-- The demand a front-end is preloaded with on a module that does not own the field: the last committed value (R20), less what the
committed shed set and a close whose frame is still to come take off it (R209). -/
def preloadDemand (s : State) (c : Nat) : Nat :=
  if shedOn s c || (closeHeld s c && !closePassed s) || (fe s c).failed || (fe s c).broken then 0 else (fe s c).preload.toNat

/-- The standing claim an armed channel takes: LOAD_I for an AO, and what it drives; a loop supply that holds no grant asks for its 22 mA
(R151, R158, R169, R179). -/
def armClaims (s : State) (c : Nat) : State :=
  let m := modeOf s c
  if !owner s then s
  else if isAo m then setClaim s c { claimOf s c with standing := aoStanding s c (fe s c).driven.toNat }
  else if decide (m = 0x12) && decide ((fe s c).granted = 0) then requestC1 s c 22
  else s

/-! ## What the front-end drives and what the channel reads -/

/-- The local safe current of a front-end in counts, or DO off (R113, R158). -/
def localSafeDemand (s : State) (c : Nat) : Nat :=
  if isAo (modeOf s c) then (fe s c).safeCounts.toNat else 0

/-- What the output stage of channel `c` drives to its terminal: nothing without ownership (row 1), the local safe state
(row 2), else the last good demand while armed and not latched off. -/
def terminalDrive (s : State) (c : Nat) : Nat :=
  let f := fe s c
  if !conducting s then 0
  else match f.state with
    | .armed => if f.latchedOff || f.reconfiguring then 0 else f.feDemand.toNat
    | .localSafe => localSafeDemand s c
    | _ => 0

/-- A current-mode channel shows the partner's committed value and STATUS: while its parts do not conduct (R143), and for an AI after the
module took the field until its own conversion (R161). -/
def showsPartner (s : State) (c : Nat) : Bool :=
  isCurrent (modeOf s c) && (!conducting s || (isAi (modeOf s c) && (fe s c).fromPartner))

/-- A channel's VALUE word from its last good frame (R111, R119, R144). -/
def channelValue (s : State) (c : Nat) : Word :=
  let f := fe s c
  let m := modeOf s c
  if isDi m then (f.value.setWidth 32) &&& 0xFF01#32
  else if isDo m then ((f.value.setWidth 32) &&& 3#32) ||| ((f.aux.setWidth 32) <<< 16)
  else if m = 6 then f.count + f.countOffset
  else if m = 7 then word f.freq
  else if isCurrent m then
    if showsPartner s c then f.partnerValue else (f.value.setWidth 32) ||| ((f.aux.setWidth 32) <<< 16)
  else 0

/-- A channel's entry is valid (R121). -/
def channelValid (s : State) (c : Nat) : Bool :=
  let f := fe s c
  decide ((group s (groupOf c)).supply ≠ .missing) && f.lastGood && decide (f.seenState = .armed)
    && !f.reconfiguring && !f.sprouting && !f.broken && !f.gap

/-- OVER of a channel (Tables FCD-7, FCA-3). -/
def channelOver (s : State) (c : Nat) : Bool :=
  let f := fe s c
  let m := modeOf s c
  if isPulse m then decide (1000 * cfgField s Reg.fchPulsecfg c 31 16 < f.freq)
  else isCurrent m && decide (40000 < f.value.toNat)

/-- SHORT of a channel: a DO's current limit and latch-off, by the upstream FLAGS and the latched condition; a loop supply's latch-off
(Tables FCD-7, FCA-3, R151). -/
def channelShort (s : State) (c : Nat) : Bool :=
  let f := fe s c
  let m := modeOf s c
  if m = 0x12 then f.supplyShort else if isCurrent m then false else f.short || (isDo m && (f.flags.getLsbD 0 || f.flags.getLsbD 1))

/-- STATUS [12]: COMPLIANCE of an AO; BURDEN_PROT in modes 0x10 and 0x11, by FLAGS [3] and through the whole retry (R148). -/
def channelProt (s : State) (c : Nat) : Bool :=
  let f := fe s c
  let m := modeOf s c
  if isAo m then f.compliance else (decide (m = 0x10) || decide (m = 0x11)) && (f.flags.getLsbD 3 || f.burdenOpen || f.burdenRetry)

/-- The NE 43 range failures show in modes 0x10 and 0x12 (R150). -/
def showsNe43 (m : Nat) : Bool := decide (m = 0x10) || decide (m = 0x12)

/-- STATUS of a channel: Table EXE-2 bits [2:0], Tables FCD-7 and FCA-3 above. A channel that waits for a spare, or gets none, is FAILED
(R137). -/
def channelStatus (s : State) (c : Nat) : Nat :=
  let f := fe s c
  let m := modeOf s c
  if showsPartner s c then f.partnerStatus
  else
    b2n (channelValid s c) + 2 * b2n (forceOf s (.input c)).isSome + 4 * b2n (decide (c < 192) && f.link.isSome)
    + 8 * b2n (channelOver s c) + 16 * b2n (decide ((group s (groupOf c)).supply = .low))
    + 32 * b2n (decide (f.seenState = .localSafe)) + 64 * b2n (f.misHigh && !isAi m)
    + 128 * b2n (f.misLow && !isCurrent m) + 256 * b2n (channelShort s c)
    + 512 * b2n (decide (f.budget = .delayed) && (isDo m || isAo m || decide (m = 0x12)))
    + 1024 * b2n (f.openLoad && (isDo m || isAo m)) + 2048 * b2n (f.failed || (f.broken && !f.sprouting))
    + 4096 * b2n (channelProt s c) + 8192 * b2n (isAo m && f.alarmUnreach)
    + 16384 * b2n (if isAo m then failSignalled s c && decide (failCounts s c ≠ 43000) else f.failLow && showsNe43 m)
    + 32768 * b2n (if isAo m then failSignalled s c && decide (failCounts s c = 43000) else f.failHigh && showsNe43 m)

/-- The channels a latch holds an entry of: those in use, and those of a group in LOW, whose entries show it (the entry of an UNUSED
channel of any other group is the default, R119, R120). -/
def latchChannels (s : State) : List Nat :=
  let low := (s.fch.groups.filter (fun p => decide (p.2.supply = .low))).flatMap (fun p => groupChannels p.1)
  (storeKeys s.fch.fes (low ++ (s.active.filter (fun p => decide (p.1 % 1048576 = Reg.fchMode))).map (fun p => p.1 / 1048576))).filter
    (fun c => c < 192)

/-- The latch of the last completed coupler frame (R26). -/
def latchNow (s : State) (seq : Nat) : Store LatchEntry :=
  (latchChannels s).map (fun c =>
    (c, { value := channelValue s c, status := channelStatus s c, mode := modeOf s c, seq := seq }))

/-- A channel's entry of a latch. -/
def latched (m : Store LatchEntry) (c : Nat) : LatchEntry := storeGet (fun _ => {}) m c

/-- A channel's entry as a task or Hazel reads it: a forced input shows its value and FORCED (R54). -/
def readEntry (s : State) (m : Store LatchEntry) (c : Nat) : LatchEntry :=
  let e := latched m c
  match forceOf s (.input c) with
  | some v => { e with value := word v, status := e.status ||| 2 }
  | none => e

/-- A latched fault of Table FCD-7 was set: FCH_FLAGS.FAULT. -/
def feFault (s : State) (c : Nat) : State := raise s Reg.fchFlags c 0

end Sys2Proof.Machine
end

