-- ==== Sys2Proof/Machine/GmuOps.lean ====
section
/-! DEFINITION. Machine/GmuOps.lean: what the GMU does to the field and to its own tables on behalf of others: shed and release
records, the close, its abort, the input area, and the tables of an image (R196 to R207). -/
namespace Sys2Proof.Machine
open Sys2Proof

/-- Raise a flag of GMU_FLAGS. -/
def gmuRaise (s : State) (n : Nat) : State := raise s Reg.gmuFlags 0 n

/-- The groups of a mask, rising. -/
def maskGroups (m : Nat) : List Nat := (List.range 64).filter (fun g => m.testBit g)

/-- The members of every group of a mask. -/
def maskMembers (s : State) (m : Nat) : List Nat := (maskGroups m).flatMap (loadMembers s)

/-- A shed record is acknowledged, or needs no acknowledge: its groups are shed, every member channel is de-energised in the next
frame, and the shed is posted and counted (R205). -/
def shedApply (s : State) (t mask : Nat) : State :=
  let s1 := { s with gmu := { s.gmu with shed := s.gmu.shed ||| mask } }
  let s2 := refreshAll s1 (maskMembers s1 mask)
  post (gmuRaise (countUp s2 Reg.gmuSnapSheds 0) 4) .shedExec t t (mask % 4294967296) (mask / 4294967296)

/-- A release takes effect: the groups are shed no more, and their members return to their writers through Gourd. The commands that waited
for its boundary, or an earlier one, are answered (R207). -/
def releaseApply (s : State) (mask gen : Nat) : State :=
  let keep := s.gmu.shed &&& (18446744073709551615 - mask % 18446744073709551616)
  let back := s.gmu.shed &&& mask
  let s1 := { s with gmu := { s.gmu with shed := keep } }
  let s2 := refreshAll s1 (maskMembers s1 back)
  concludeAll s2 (fun x => decide (x.opcode = 0x0704) && decide (x.subject ≤ gen)) .ok 0 (fun t _ => leBytes 8 t.gmu.shed)

/-- The close record is committed: CLOSE_WAIT becomes CLOSING (Table GMU-8). -/
def closeCommitted (s : State) : State := modSync s (fun y => { y with state := if y.state = 2 then 3 else y.state })

/-- The close channel is granted its energisation. -/
def closeGranted (s : State) : Bool := decide ((fe s s.gmu.sync.closeCh).granted = 1)

/-- CLOSE_CH is driven on (R196, R198): the hold ends, the state is CLOSED, and the close is posted with the dead-bus mark. -/
def closeNow (s : State) (dead : Bool) : State :=
  let c := s.gmu.sync.closeCh
  let s1 := modSync s (fun y => { y with state := 4, held := false, measuring := if dead then none else some y.frame, agreed := none })
  post (gmuRaise (refresh s1 c) 2) .syncClose c c (b2n dead) 0

/-- The synchroscope aborts: posted, flagged, and a held request released; the channel then stays off (R192, R197). -/
def syncAbort (s : State) (reason : Nat) : State :=
  let c := s.gmu.sync.closeCh
  let s1 := modSync s (fun y => { y with state := 5, reason := reason, lockout := y.held || y.lockout, held := false })
  post (gmuRaise (refresh s1 c) 3) .syncAbort c c reason 0

/-- A held close at a coupler frame: it aborts with NOT_RUN when the station is not in RUN and with CHANNEL when CLOSE_CH meets one of
rows 1 to 5 of Table ARC-3 (R197); with a dead reference and DEAD_BUS it is driven at the next frame after its grant (R198). -/
def deadBusFrame (s : State) : State :=
  let y := s.gmu.sync
  if decide (y.state = 2) && y.held && owner s then
    if s.exe.station ≠ .run then syncAbort s 4
    else if !conducting s || decide ((fe s y.closeCh).seenState = .localSafe) || decide (arcRow s y.closeCh < 6) then syncAbort s 5
    else if y.deadRef && syncDeadBus s && closeGranted s then closeNow s true
    else s
  else s

/-- The writer's end commits the GMU input area: the bytes it wrote, stamped with the commit (R204). -/
def commitGmuInput (s : State) (ws : List (Nat × Word)) : State :=
  let inside := ws.filter (fun p => decide (p.1 + 4 ≤ 336))
  let put (m : Store Byte) (p : Nat × Word) : Store Byte := putStore m p.1 (leBytes 4 p.2.toNat)
  let s1 := inside.foldl (fun t p => areaPut t (t.gmu.inputBase + p.1) (leBytes 4 p.2.toNat)) s
  { s1 with gmu := { s1.gmu with input := inside.foldl put s1.gmu.input, inputTime := some s1.now, staleSeen := false } }

/-- A word of the input area (Table GMU-14). -/
def inputWord (s : State) (a : Nat) : Word := word (ofLe ((List.range 4).map (fun i => storeGet (fun _ => 0) s.gmu.input (a + i))))

/-- The input area is stale: never committed since INIT was left, or older than STALE_T (R204). -/
def inputStale (s : State) : Bool :=
  match s.gmu.inputTime with
  | none => true
  | some t => decide (t + cfgField s Reg.gmuCfg 0 17 8 * 10000000 < s.now)

/-- The condition of GEN_TRIP and its validity for a trigger (R202): the filtered state of the DI channel, forces apart. -/
def genTripSeen (s : State) (t : Nat) : Option Bool :=
  let c := trigField s t 2 2
  if channelValid s c then
    let on := bit (channelValue s c) 0
    some (if trigField s t 15 1 = 1 then on else !on)
  else none

/-- The quantity's condition moves a trigger's timing (R202): true counts toward T_CONF, or for a fired trigger back to 0; false
the other way; no value holds it. -/
def trigStep (x : Trig) (seen : Option Bool) (us : Nat) : Trig :=
  match seen with
  | none => x
  | some c =>
    let on := if x.st = 3 then !c else c
    if x.st = 0 then x
    else if on then
      { x with counting := true, timing := if x.counting then x.timing + us else 0, st := if x.st = 1 then 2 else x.st }
    else { x with counting := false, timing := 0, st := if x.st = 2 then 1 else x.st }

/-- GEN_TRIP triggers are evaluated on every coupler frame (R202). -/
def genTripFrame (s : State) : State :=
  (List.range 32).foldl (fun t n =>
    if trigField t n 0 1 = 4 then setTrig t n (trigStep (trig t n) (genTripSeen t n) 5) else t)
    { s with gmu := { s.gmu with chosen := 0 } }

/-- Arm a disarmed trigger, with its timing at 0 (R202). -/
def armTrigger (s : State) (t : Nat) : State :=
  let x := trig s t
  if x.st = 0 then setTrig s t { x with st := 1, counting := false, timing := 0 } else s

/-- Disarm a trigger from any state (R202). -/
def disarmTrigger (s : State) (t : Nat) : State := setTrig s t { trig s t with st := 0, counting := false, timing := 0 }

/-- The GMU section of an image comes into force: tables, settings, the input area's initial bytes, and the triggers armed at
load (R202, R204). -/
def installGmu (s : State) (g : GmuTables) : State :=
  let put (t : State) (a i : Nat) (v : Word) : State := setCfg (setReg t a i v) a i v
  let s1 := g.bytes.foldl (fun t p => setGmuBytes t p.1 p.2) s
  let s2 := put (put s1 Reg.gmuCfg 0 g.cfg) Reg.gmuRocofCfg 0 g.rocof
  let s3 := g.delays.foldl (fun t p => put t Reg.gmuIndelay p.1 p.2) (g.scales.foldl (fun t p => put t Reg.gmuInscale p.1 p.2) s2)
  let s4 := { s3 with gmu := { s3.gmu with
    input := putStore [] 0 g.input, inputBase := g.inputBase, inputTask := g.inputTask, inputTime := none } }
  (List.range 32).foldl (fun t n => if trigField t n 1 1 % 2 = 1 then armTrigger t n else t) s4

end Sys2Proof.Machine
end

