-- ==== Sys2Proof/Machine/CanOps.lean ====
section
/-! DEFINITION. Machine/CanOps.lean: the CAN ports' transmit list and buffers (R374 to R377), the operating mode (R388, R391),
and committed payloads (R374, R389). -/
namespace Sys2Proof.Machine
open Sys2Proof

/-- Port `p`. -/
def canPort (s : State) (p : Nat) : CanPort := storeGet (fun _ => {}) s.can.ports p

/-- Replace port `p`. -/
def setPort (s : State) (p : Nat) (x : CanPort) : State :=
  { s with can := { s.can with ports := storeSet (fun _ => {}) s.can.ports p x } }

/-- Change port `p`. -/
def modPort (s : State) (p : Nat) (f : CanPort → CanPort) : State := setPort s p (f (canPort s p))

/-- A field of CAN_CFG in force. -/
def canCfg (s : State) (p hi lo : Nat) : Nat := cfgField s Reg.canCfg p hi lo

/-- Raise a flag of the port's CAN_FLAGS. -/
def canRaise (s : State) (p n : Nat) : State := raise s Reg.canFlags p n

/-- CAN_STAT.OPMODE (R388, R391): 0 disabled, 1 listen-only, 2 normal, 3 awaiting budget. -/
def canOpmode (s : State) (p : Nat) : Nat :=
  let x := canPort s p
  if canCfg s p 0 0 = 0 ∨ s.pair.role = .offline then 0
  else if x.awaiting || !x.enabled then 3
  else if canCfg s p 2 2 = 1 then 1
  else if conducting s then 2
  else 1

/-- The port drives the bus. -/
def canNormal (s : State) (p : Nat) : Bool := decide (canOpmode s p = 2)

/-- Data bytes of a data length code (classical frames carry at most 8). -/
def dlcBytes (fdf : Bool) (d : Nat) : Nat :=
  if d ≤ 8 then d
  else if !fdf then 8
  else match d with
    | 9 => 12 | 10 => 16 | 11 => 20 | 12 => 24 | 13 => 32 | 14 => 48 | _ => 64

/-- How a frame's arbitration field ranks on the bus, from its bits in their order: identifier, RTR or SRR, IDE, identifier extension and its
RTR; lower wins (R376). -/
def arbRank (f : CanFrame) : Nat :=
  if f.ext then f.id / 262144 % 2048 * 2097152 + 1572864 + f.id % 262144 * 2 + b2n f.rtr else f.id % 2048 * 2097152 + 1048576 * b2n f.rtr

/-- The entry `a` goes before `b` in CAN_CFG.ORDER: by rank, then by age; or by age alone (R376). -/
def txBefore (fifo : Bool) (a b : TxEntry) : Bool :=
  if fifo then decide (a.order ≤ b.order)
  else decide (arbRank a.frame < arbRank b.frame) || (decide (arbRank a.frame = arbRank b.frame) && decide (a.order ≤ b.order))

/-- The first entry of a list in the order. -/
def txFirst (fifo : Bool) : List TxEntry → Option TxEntry
  | [] => none
  | e :: es => match txFirst fifo es with
    | some f => if txBefore fifo e f then some e else some f
    | none => some e

/-- The buffers open to list entries: TB0 holds only reference messages while the port is time master (R376). -/
def openBuffers (x : CanPort) : List Nat := if x.tstate = 3 then [1, 2] else [0, 1, 2]

/-- Buffer `b`. -/
def txb (x : CanPort) (b : Nat) : TxBuffer := x.buffers.getD b {}

/-- Replace buffer `b`. -/
def setTxb (x : CanPort) (b : Nat) (y : TxBuffer) : CanPort := { x with buffers := x.buffers.set b y }

/-- A buffered frame goes back to the list; an entry of the same object there keeps its place with its newer payload (R375, R376). -/
def returnEntry (x : CanPort) (e : TxEntry) : CanPort :=
  if e.src ≠ .send ∧ x.list.any (fun y => decide (y.src = e.src)) = true then x else { x with list := x.list ++ [e] }

/-- One loading step: the first list entry takes an empty buffer; in PRIORITY order an entry that outranks a buffered frame not in
transmission swaps with the lowest-ranking one (R376). -/
def loadOne (fifo : Bool) (x : CanPort) : CanPort :=
  match txFirst fifo x.list with
  | none => x
  | some e =>
    let takes (b : Nat) : CanPort := setTxb { x with list := x.list.erase e } b { txb x b with state := 1, entry := some e }
    match (openBuffers x).find? (fun b => decide ((txb x b).state = 0)) with
    | some b => takes b
    | none =>
      if fifo then x
      else
        let loaded := (openBuffers x).filter (fun b => decide ((txb x b).state = 1) && !(txb x b).held)
        let worst := loaded.foldl (fun (w : Option Nat) b =>
          match w with
          | none => some b
          | some v => match (txb x v).entry, (txb x b).entry with
            | some ev, some eb => if txBefore false ev eb then some b else some v
            | _, _ => some v) none
        match worst with
        | none => x
        | some b => match (txb x b).entry with
          | some old => if arbRank e.frame < arbRank old.frame then returnEntry (takes b) old else x
          | none => x

/-- Load the buffers until nothing more moves: at most one pass per entry and buffer. -/
def loadBuffers (fifo : Bool) : Nat → CanPort → CanPort
  | 0, x => x
  | n + 1, x => loadBuffers fifo n (loadOne fifo x)

/-- The frame as it goes out: an error-passive sender sets the error-state indicator of an FD frame (R371). -/
def withEsi (x : CanPort) (e : TxEntry) : TxEntry :=
  { e with frame := { e.frame with esi := e.frame.fdf && (e.frame.esi || decide (x.errState = 1)) } }

/-- Offer the first buffered frame for arbitration when none is being sent; those held at a bus-off go before the others (R376, R381; log 24). -/
def offer (fifo : Bool) (x : CanPort) : CanPort :=
  if x.buffers.any (fun b => decide (b.state = 2)) then x
  else
    let waiting := [0, 1, 2].filter (fun b => decide ((txb x b).state = 1))
    let heldBufs := waiting.filter (fun b => (txb x b).held)
    let cands := if heldBufs = [] then waiting else heldBufs
    let pick := txFirst fifo (cands.filterMap (fun b => (txb x b).entry))
    match pick with
    | none => x
    | some e => match cands.find? (fun b => decide ((txb x b).entry = some e)) with
      | some b => setTxb x b { txb x b with state := 2, entry := some (withEsi x e) }
      | none => x

/-- Let the list feed the buffers and the buffers the bus, while the port drives it, is not off the bus and is
integrated. -/
def canFeed (s : State) (p : Nat) : State :=
  let fifo := decide (canCfg s p 3 3 = 1)
  let x := canPort s p
  if canNormal s p && decide (x.errState < 2) && decide (x.integrating ≤ s.now) then setPort s p (offer fifo (loadBuffers fifo 36 x)) else s

/-- Every port offers what waits: the transmitters have just been enabled (R389). -/
def canFeedAll (s : State) : State := [0, 1, 2, 3].foldl canFeed s

/-- Put an entry on the list: an entry already there for the same source keeps its place with the newer frame (R375). -/
def queueEntry (s : State) (p : Nat) (src : TxSource) (f : CanFrame) (oneShot : Bool) : State :=
  let x := canPort s p
  let x' := if x.list.any (fun e => decide (e.src = src)) then
      { x with list := x.list.map (fun e => if e.src = src then { e with frame := f, oneShot := oneShot } else e) }
    else { x with list := x.list ++ [{ src := src, frame := f, oneShot := oneShot, order := x.nextOrder }], nextOrder := x.nextOrder + 1 }
  canFeed (setPort s p x') p

/-- Object `o` of port `p`. -/
def txObject (x : CanPort) (o : Nat) : Option TxObject := x.objects.find? (fun d => decide (d.object = o))

/-- What object `o` holds. -/
def txState (x : CanPort) (o : Nat) : TxState := storeGet (fun _ => {}) x.tx o

/-- Replace what object `o` holds. -/
def setTxState (x : CanPort) (o : Nat) (y : TxState) : CanPort := { x with tx := storeSet (fun _ => {}) x.tx o y }

/-- The frame of an object with a payload. -/
def objectFrame (d : TxObject) (data : List Byte) : CanFrame :=
  let n := dlcBytes d.fdf d.dlc
  { id := d.id, ext := d.ext, fdf := d.fdf, brs := d.brs, dlc := d.dlc
    data := (data ++ List.replicate (n - data.length) 0).take n }

/-- Queue an object with its committed payload. -/
def queueObject (s : State) (p : Nat) (d : TxObject) : State :=
  queueEntry s p (.object d.object) (objectFrame d (txState (canPort s p) d.object).data) d.oneShot

/-- A committed payload source: SEND count, 2 reserved bytes, data. An event object whose count changed is queued (R374). -/
def commitPayload (s : State) (c : Nat × Nat × List Byte) : State :=
  let p := c.1
  let o := c.2.1
  match txObject (canPort s p) o with
  | none => s
  | some d =>
    let old := txState (canPort s p) o
    let send := blockField c.2.2 0 2
    let data := c.2.2.drop 4
    let s1 := modPort s p (fun x => setTxState x o { committed := true, send := send, data := data, carried := false })
    if d.enabled && !d.cyclic && decide (send ≠ old.send) && owner s then queueObject s1 p d else s1

/-- The limits of Table CAN-1 that a nominal timing keeps by itself. -/
def nbtOk (v : Word) : Bool :=
  decide (1 ≤ field v 17 10 ∧ 1 ≤ field v 24 18 ∧ field v 31 25 ≤ field v 24 18 ∧ 8 ≤ 3 + field v 17 10 + field v 24 18)

/-- The limits of Table CAN-1 that a data-phase timing keeps by itself. -/
def dbtOk (v : Word) : Bool := decide (field v 31 28 ≤ field v 27 24 ∧ 5 ≤ 3 + field v 20 16 + field v 27 24)

/-- DBRP ≤ BRP (Table CAN-1). -/
def ratioOk (nbt dbt : Word) : Bool := decide (field dbt 4 0 ≤ field nbt 7 0)

/-- The nominal timing that takes effect of the values staged for one boundary: it keeps its limits, with the data-phase timing in force or
with one that takes effect beside it (R372). -/
def nextNbt (s : State) (p : Nat) (n d : Option Word) : Option Word :=
  n.filter (fun v => nbtOk v && (ratioOk v (cfg s Reg.canDbt p) || (d.map (fun w => dbtOk w && ratioOk v w)).getD false))

/-- The data-phase timing that takes effect: it keeps its limits with the nominal timing that is then in force (R372). -/
def nextDbt (s : State) (p : Nat) (n d : Option Word) : Option Word :=
  d.filter (fun w => dbtOk w && ratioOk ((nextNbt s p n d).getD (cfg s Reg.canNbt p)) w)

/-- The timings of a port's section take effect as far as they keep Table CAN-1; one that does not is discarded, with CFG_REFUSED, and the
register shows it (R335, R372). -/
def installTiming (s : State) (d : CanPortImage) : State :=
  let shown := setReg (setReg (setReg s Reg.canNbt d.port d.nbt) Reg.canDbt d.port d.dbt) Reg.canTdc d.port d.tdc
  let n := nextNbt s d.port (some d.nbt) (some d.dbt)
  let w := nextDbt s d.port (some d.nbt) (some d.dbt)
  let s1 := setCfg (setCfg (setCfg shown Reg.canTdc d.port d.tdc) Reg.canNbt d.port (n.getD (cfg s Reg.canNbt d.port)))
    Reg.canDbt d.port (w.getD (cfg s Reg.canDbt d.port))
  if n.isSome && w.isSome then s1 else canRaise s1 d.port 5

/-- The CAN section of an image (R374). -/
def installCan (s : State) (ps : List CanPortImage) : State :=
  ps.foldl (fun t d =>
    let t2 := setReg (setReg (installTiming t d) Reg.canTimeCfg d.port d.timeCfg) Reg.canCfg d.port d.cfg
    modPort { t2 with staged := t2.staged ++ [(rkey Reg.canTimeCfg d.port, d.timeCfg), (rkey Reg.canCfg d.port, d.cfg)] }
      d.port (fun x => { x with objects := d.objects, tx := [], rxBase := d.rxBase
                                filters := d.filters.zipIdx.foldl (fun m q => storeSet (fun _ => 0) m q.2 q.1) [] })) s

end Sys2Proof.Machine
end

