-- ==== Sys2Proof/Machine/HazelBlocks.lean ====
section
/-! DEFINITION. Machine/HazelBlocks.lean: Hazel's arithmetic (R66 to R69), the block set of Table HZL-4 (R72), the ramp limiter
(R92), the load conditions of a loop (R67, R69, R70, R73, R80) and its cost (R75). -/
namespace Sys2Proof.Machine
open Sys2Proof

/-! ## Arithmetic (R66 to R68) -/

/-- Saturate to the 40-bit Q10.30 accumulator. -/
def sat40 (i : Int) : Int := clampInt (-549755813888) 549755813887 i

/-- Saturate to a Q1.15 signal. -/
def sat16 (i : Int) : Int := clampInt (-32768) 32767 i

/-- The two's complement value of 16 bits. -/
def s16 (n : Nat) : Int := if n % 65536 < 32768 then Int.ofNat (n % 65536) else Int.ofNat (n % 65536) - 65536

/-- A signal as a Q10.30 value. -/
def toAcc (q : Int) : Int := q * 32768

/-- A Q10.30 value as a signal: nearest, ties away from zero, then saturated (R68). -/
def toSig (v : Int) : Int := sat16 (roundDiv v 32768)

/-- A saturating addition of the accumulator. -/
def addA (a b : Int) : Int := sat40 (a + b)

/-- A coefficient's mantissa (R67). -/
def coefMant (w : Word) : Int := s16 (field w 15 0)

/-- The product of a signal and a coefficient: exact in Q2.30, then shifted left by EXP (R66). -/
def mulSig (w : Word) (q : Int) : Int := sat40 (coefMant w * q * 2 ^ (field w 20 16))

/-- The product of a Q10.30 value and a coefficient: exact, shifted, then rounded to Q10.30 (R66). -/
def mulAcc (w : Word) (v : Int) : Int := sat40 (roundDiv (coefMant w * v * 2 ^ (field w 20 16)) 32768)

/-- The sum of products of a row of coefficients with Q10.30 values, added in order. -/
def dotAcc (acc : Int) (ws : List Word) (vs : List Int) : Int :=
  (ws.zip vs).foldl (fun a p => addA a (mulAcc p.1 p.2)) acc

/-! ## Channel values as signals (R69) -/

/-- A raw current as a signal, with OVER apart (Table HZL-1). -/
def rawToSig (raw : Nat) : Int := sat16 (roundDiv ((Int.ofNat raw - 8000) * 128) 125)

/-- A signal as an AO current: the counts, and CLAMP_LO below 0 mA (Table HZL-1). -/
def sigToRaw (q : Int) : Nat × Bool :=
  if q < -8192 then (0, true) else ((8000 + roundDiv (q * 125) 128).toNat, false)

/-- A DI or DO state as a signal. -/
def boolSig (b : Bool) : Int := if b then 0x7FFF else 0

/-- A frequency as a signal (Table FCD-6): `fs` is FREQ_FS in Hz, `f` in mHz. -/
def freqSig (f fs : Nat) : Int := if fs = 0 then 0 else sat16 (roundDiv (32767 * Int.ofNat f) (1000 * fs))

/-! ## Blocks (R72) -/

/-- Signal `i` of a loop's file; 0 for a signal number that names none. -/
def sigAt (sig : List Int) (i : Nat) : Int := sig.getD i 0

/-- Write signal `i`. -/
def putSig (sig : List Int) (i : Nat) (v : Int) : List Int := (sig ++ List.replicate (32 - sig.length) 0).set i v

/-- Write consecutive signals. -/
def putSigs (sig : List Int) : Nat → List Int → List Int
  | _, [] => sig
  | i, v :: vs => putSigs (putSig sig i v) (i + 1) vs

/-- Parameter word `i` of a block: at PARAM + i of the loop's parameter area. -/
def parm (d : LoopDesc) (b : BlockSlot) (i : Nat) : Word := d.params.getD (b.param + i) 0

/-- The words of a row of coefficients. -/
def parms (d : LoopDesc) (b : BlockSlot) (first n : Nat) : List Word := (List.range n).map (fun i => parm d b (first + i))

/-- The state value `i` of a block. -/
def stAt (st : List Int) (i : Nat) : Int := st.getD i 0

/-- HI of a limit word, in Q10.30. -/
def hiOf (w : Word) : Int := toAcc (s16 (field w 31 16))

/-- LO of a limit word, in Q10.30. -/
def loOf (w : Word) : Int := toAcc (s16 (field w 15 0))

/-- What PID_BLK sees beside its inputs: the channel limits of R89 and a preset target (R86, R91), in Q10.30. -/
structure PidDrive where
  up : Bool := false
  down : Bool := false
  preset : Option Int := none
deriving DecidableEq, Repr

/-- What a block leaves: the signal file, its states, and the flags of PID_BLK and RAMP_BLK. -/
structure BlockOut where
  sig : List Int
  st : List Int
  limHi : Bool := false
  limLo : Bool := false
  frozen : Bool := false
  ramping : Bool := false
deriving DecidableEq, Repr

/-- The PID (R72, R86, R89). States D, I, ed′, y′, u′. -/
def pidBlock (d : LoopDesc) (b : BlockSlot) (sig st : List Int) (x : PidDrive) : BlockOut :=
  let pv := sigAt sig b.inA
  let sp := sigAt sig b.inB
  let ff := toAcc (sigAt sig b.inC)
  let ep := addA (mulSig (parm d b 5) sp) (- toAcc pv)
  let ed := addA (mulSig (parm d b 6) sp) (- toAcc pv)
  let hi := hiOf (parm d b 7)
  let lo := loOf (parm d b 7)
  let kpep := mulAcc (parm d b 0) ep
  let inc := mulAcc (parm d b 1) (toAcc (sp - pv))
  let cut := (x.up && decide (0 < inc)) || (x.down && decide (inc < 0))
  let back := if x.up || x.down then 0 else mulAcc (parm d b 2) (addA (stAt st 3) (- stAt st 4))
  let dd := match x.preset with
    | some _ => 0
    | none => addA (mulAcc (parm d b 3) (stAt st 0)) (mulAcc (parm d b 4) (addA ed (- stAt st 2)))
  let ii := match x.preset with
    | some t => addA (addA (clampInt lo hi t) (- kpep)) (- ff)
    | none => addA (addA (stAt st 1) (if cut then 0 else inc)) back
  let u := addA (addA (addA kpep ii) dd) ff
  let y := clampInt lo hi u
  { sig := putSig sig b.out (toSig y), st := [dd, ii, ed, y, u]
    limHi := decide (hi ≤ u), limLo := decide (u ≤ lo), frozen := x.preset.isNone && cut }

/-- The first-order low-pass. State y′. -/
def lowPassBlock (d : LoopDesc) (b : BlockSlot) (sig st : List Int) : BlockOut :=
  let y := addA (stAt st 0) (mulAcc (parm d b 0) (addA (toAcc (sigAt sig b.inA)) (- stAt st 0)))
  { sig := putSig sig b.out (toSig y), st := [y] }

/-- The lead-lag. States x′, y′. -/
def leadLagBlock (d : LoopDesc) (b : BlockSlot) (sig st : List Int) : BlockOut :=
  let x := sigAt sig b.inA
  let y := addA (addA (mulSig (parm d b 0) x) (mulAcc (parm d b 1) (stAt st 0))) (- mulAcc (parm d b 2) (stAt st 1))
  { sig := putSig sig b.out (toSig y), st := [toAcc x, y] }

/-- The largest number of at most `n`'s bits that keeps its 16 most significant bits: truncation to 16 significant bits. -/
def top16 (n : Nat) : Nat := let e := Nat.log2 n - 15; n / 2 ^ e * 2 ^ e

/-- One move of the ramp limiter (R92) from value y and rate v toward a target, all in 2^-30 of full scale. -/
def rampMove (up down acc : Nat) (accEn : Bool) (target y v : Int) : Int × Int :=
  let e := addA target (- y)
  if accEn then
    let lim := if 0 < e then up else down
    let root := top16 (isqrt (2 * acc * e.natAbs))
    let cmd : Int := (if e < 0 then -1 else 1) * Int.ofNat (if lim = 0 then root else min lim root)
    let v1 := addA v (clampInt (- Int.ofNat acc) (Int.ofNat acc) (cmd - v))
    if e.natAbs ≤ v1.natAbs ∧ v1.natAbs ≤ acc then (target, 0) else (addA y v1, v1)
  else
    let capped := if 0 < e then (if up = 0 then e else min e (Int.ofNat up)) else (if down = 0 then e else max e (- Int.ofNat down))
    (addA y capped, v)

/-- The ramp limiter. States y, v; a preset starts it at a value with rate 0 (R86). -/
def rampBlock (d : LoopDesc) (b : BlockSlot) (sig st : List Int) (preset : Option Int) : BlockOut :=
  let target := toAcc (sigAt sig b.inA)
  let (y, v) := match preset with
    | some p => (p, 0)
    | none => rampMove (parm d b 0).toNat (parm d b 1).toNat (parm d b 2).toNat (b.flags % 2 == 1) target (stAt st 0) (stAt st 1)
  { sig := putSig sig b.out (toSig y), st := [y, v], ramping := decide (y ≠ target) }

/-- The selector. -/
def selectorBlock (b : BlockSlot) (sig st : List Int) : BlockOut :=
  let n := b.flags / 4 % 4 + 1
  let xs := (List.range n).map (fun i => sigAt sig (b.inA + i))
  let sorted := xs.mergeSort (fun p q => decide (p ≤ q))
  let y := match b.flags % 4 with
    | 0 => sorted.getD 0 0
    | 1 => sorted.getD (n - 1) 0
    | 2 => sorted.getD (n / 2) 0
    | _ => sigAt xs (clampInt 0 (Int.ofNat n - 1) (Int.fdiv (4 * sigAt sig b.inB) 32768)).toNat
  { sig := putSig sig b.out y, st := st }

/-- Ratio and bias. -/
def ratioBlock (d : LoopDesc) (b : BlockSlot) (sig st : List Int) : BlockOut :=
  let y := addA (mulSig (parm d b 0) (sigAt sig b.inA)) (toAcc (s16 (field (parm d b 1) 15 0)))
  { sig := putSig sig b.out (toSig y), st := st }

/-- The deadband. -/
def deadbandBlock (d : LoopDesc) (b : BlockSlot) (sig st : List Int) : BlockOut :=
  let x := sigAt sig b.inA
  let db := s16 (field (parm d b 0) 15 0)
  let y := if x.natAbs ≤ db.toNat then 0
    else if b.flags % 2 = 1 then x else if x < 0 then x + db else x - db
  { sig := putSig sig b.out (sat16 y), st := st }

/-- The integrator. State y′. -/
def integratorBlock (d : LoopDesc) (b : BlockSlot) (sig st : List Int) : BlockOut :=
  let y := if 0x4000 ≤ sigAt sig b.inB then toAcc (s16 (field (parm d b 2) 15 0))
    else clampInt (loOf (parm d b 1)) (hiOf (parm d b 1)) (addA (stAt st 0) (mulSig (parm d b 0) (sigAt sig b.inA)))
  { sig := putSig sig b.out (toSig y), st := [y] }

/-- The biquad. States x′, x″, y′, y″. -/
def biquadBlock (d : LoopDesc) (b : BlockSlot) (sig st : List Int) : BlockOut :=
  let x := sigAt sig b.inA
  let f := addA (addA (mulSig (parm d b 0) x) (mulAcc (parm d b 1) (stAt st 0))) (mulAcc (parm d b 2) (stAt st 1))
  let y := addA (addA f (- mulAcc (parm d b 3) (stAt st 2))) (- mulAcc (parm d b 4) (stAt st 3))
  { sig := putSig sig b.out (toSig y), st := [toAcc x, stAt st 0, y, stAt st 2] }

/-- Linear interpolation between points in rising X, clamped outside them. The exact result is rounded, ties away from zero (R68). -/
def interpolate : List (Int × Int) → Int → Int
  | [], _ => 0
  | [p], _ => p.2
  | p :: q :: rest, x =>
    if x ≤ p.1 then p.2
    else if x ≤ q.1 then roundDiv (p.2 * (q.1 - p.1) + (q.2 - p.2) * (x - p.1)) (q.1 - p.1).toNat
    else interpolate (q :: rest) x

/-- The points of a lookup. -/
def lookupPoints (d : LoopDesc) (b : BlockSlot) : List (Int × Int) :=
  (parms d b 0 (b.flags % 32 + 1)).map (fun w => (s16 (field w 31 16), s16 (field w 15 0)))

/-- The lookup. -/
def lookupBlock (d : LoopDesc) (b : BlockSlot) (sig st : List Int) : BlockOut :=
  { sig := putSig sig b.out (sat16 (interpolate (lookupPoints d b) (sigAt sig b.inA))), st := st }

/-- The sizes n, m and p of a state-space block. -/
def ssN (b : BlockSlot) : Nat := b.flags % 4 + 1
/-- The number of inputs m. -/
def ssM (b : BlockSlot) : Nat := b.flags / 4 % 4 + 1
/-- The number of outputs p. -/
def ssP (b : BlockSlot) : Nat := b.flags / 16 % 4 + 1

/-- The state-space block: outputs from the held states, then the new states. -/
def stateSpaceBlock (d : LoopDesc) (b : BlockSlot) (sig st : List Int) : BlockOut :=
  let n := ssN b
  let m := ssM b
  let p := ssP b
  let u := (List.range m).map (fun i => toAcc (sigAt sig (b.inA + i)))
  let xs := (List.range n).map (stAt st)
  let row (mat cols : Nat) (i : Nat) : List Word := parms d b (mat + i * cols) cols
  let y := (List.range p).map (fun i =>
    dotAcc (dotAcc 0 (row (n * n + n * m) n i) xs) (row (n * n + n * m + p * n) m i) u)
  let next := (List.range n).map (fun i => dotAcc (dotAcc 0 (row 0 n i) xs) (row (n * n) m i) u)
  { sig := putSigs sig b.out (y.map toSig), st := next }

/-- Run one block (Table HZL-4); an empty slot does nothing. -/
def runBlock (d : LoopDesc) (b : BlockSlot) (sig st : List Int) (x : PidDrive) (ramp : Option Int) : BlockOut :=
  match b.type with
  | 0x01 => pidBlock d b sig st x
  | 0x02 => lowPassBlock d b sig st
  | 0x03 => leadLagBlock d b sig st
  | 0x04 => rampBlock d b sig st ramp
  | 0x05 => selectorBlock b sig st
  | 0x06 => ratioBlock d b sig st
  | 0x07 => deadbandBlock d b sig st
  | 0x08 => integratorBlock d b sig st
  | 0x09 => biquadBlock d b sig st
  | 0x0A => lookupBlock d b sig st
  | 0x0B => stateSpaceBlock d b sig st
  | _ => { sig := sig, st := st }

/-! ## Sizes and costs (Tables HZL-4, HZL-5, HZL-15) -/

/-- State values a block holds (Table HZL-15). -/
def blockStates (b : BlockSlot) : Nat :=
  match b.type with
  | 0x01 => 5 | 0x02 => 1 | 0x03 => 2 | 0x04 => 2 | 0x08 => 1 | 0x09 => 4 | 0x0B => ssN b | _ => 0

/-- Parameter words a block uses. -/
def blockParams (b : BlockSlot) : Nat :=
  match b.type with
  | 0x01 => 8 | 0x02 => 1 | 0x03 => 3 | 0x04 => 3 | 0x06 => 2 | 0x07 => 1 | 0x08 => 3 | 0x09 => 5
  | 0x0A => b.flags % 32 + 1 | 0x0B => (ssN b + ssP b) * (ssN b + ssM b) | _ => 0

/-- Pod-cycles of a block. -/
def blockCost (b : BlockSlot) : Nat :=
  match b.type with
  | 0x01 => 36 | 0x02 => 8 | 0x03 => 12 | 0x04 => if b.flags % 2 = 1 then 24 else 16 | 0x05 => 8 | 0x06 => 4
  | 0x07 => 6 | 0x08 => 8 | 0x09 => 16 | 0x0A => 14
  | 0x0B => 12 + 2 * (((ssN b + ssP b) * (ssN b + ssM b) + 3) / 4) | _ => 0

/-- The blocks a loop has. -/
def loopBlocks (d : LoopDesc) : List BlockSlot := d.blocks.take d.nblk

/-- State bytes of a loop's blocks (Table PPD-8, without the exchange bytes). -/
def stateBytesOf (d : LoopDesc) : Nat := 8 * ((loopBlocks d).map blockStates).sum

/-- Blocks of a loop's Hazel record (R274, Table PPD-8). -/
def recordBlocks (d : LoopDesc) : Nat := 1 + (16 + stateBytesOf d + 7) / 8

/-- The channels bound to s0 to s3. -/
def boundChannels (d : LoopDesc) : List Nat := (d.inBind.take 4).filter (fun c => decide (c < 192))

/-- A loop's cost in pod-cycles (R75). -/
def loopCost (d : LoopDesc) : Nat :=
  22 + 4 * (boundChannels d).length + 2 + (if d.out = 0xFFFF then 0 else 8) + ((loopBlocks d).map blockCost).sum

/-- A loop's output channel, if its OUT names one. -/
def loopOutChannel (d : LoopDesc) : Option Nat := if d.out < 192 then some d.out else none

/-- The inner loop a loop's OUT names, if any. -/
def innerOf (d : LoopDesc) : Option Nat := if 0x8000 ≤ d.out ∧ d.out < 0x9000 then some (d.out - 0x8000) else none

/-- A loop is due in slot `n` (R74). -/
def loopDue (d : LoopDesc) (n : Nat) : Bool := decide (n % 2 ^ d.k = d.phase)

/-! ## Load conditions (R67, R69, R70, R73, R80) -/

/-- A coefficient word is in the layout of R67. -/
def coefOk (w : Word) : Bool := decide (field w 31 21 = 0)

/-- A signal-value word is in the layout of R67. -/
def signalWordOk (w : Word) : Bool := decide (field w 31 16 = 0)

/-- X values strictly ascending. -/
def ascending : List (Int × Int) → Bool
  | [] => true
  | [_] => true
  | p :: q :: rest => decide (p.1 < q.1) && ascending (q :: rest)

/-- The signals a block writes. -/
def blockOuts (b : BlockSlot) : List Nat :=
  if b.type = 0 then [] else (List.range (if b.type = 0x0B then ssP b else 1)).map (fun i => b.out + i)

/-- The signals a block reads exist. -/
def inputsOk (b : BlockSlot) : Bool :=
  let n := match b.type with
    | 0x05 => b.flags / 4 % 4 + 1
    | 0x0B => ssM b
    | _ => 1
  decide (b.inA + n ≤ 32) && (decide (b.inB < 32) || decide (b.inB = 255)) && (decide (b.inC < 32) || decide (b.inC = 255))

/-- A block meets the conditions of its entry in Table HZL-4 (R67, R73). -/
def blockOk (d : LoopDesc) (b : BlockSlot) : Bool :=
  let place := decide (1 ≤ b.param) && decide (b.param + blockParams b ≤ 88)
  let coefs (n : Nat) : Bool := (parms d b 0 n).all coefOk
  inputsOk b && (match b.type with
    | 0x00 => true
    | 0x01 => place && coefs 7 && decide (loOf (parm d b 7) < hiOf (parm d b 7)) && decide (b.inB < 32)
    | 0x02 => place && coefs 1
    | 0x03 => place && coefs 3
    | 0x04 => place
    | 0x05 => decide (1 ≤ b.flags / 4 % 4) && (decide (b.flags % 4 ≠ 2) || decide (b.flags / 4 % 4 = 2))
        && (decide (b.flags % 4 ≠ 3) || decide (b.inB < 32))
    | 0x06 => place && coefs 1 && signalWordOk (parm d b 1)
    | 0x07 => place && signalWordOk (parm d b 0) && decide (0 ≤ s16 (field (parm d b 0) 15 0))
    | 0x08 => place && coefs 1 && decide (loOf (parm d b 1) < hiOf (parm d b 1)) && signalWordOk (parm d b 2)
    | 0x09 => place && coefs 5
    | 0x0A => place && decide (1 ≤ b.flags % 32) && ascending (lookupPoints d b)
    | 0x0B => place && coefs (blockParams b) && decide (b.inA + ssM b ≤ 32)
    | _ => false)

/-- No signal has two writing blocks, and blocks write s8 to s31 only (R70). -/
def writersOk (d : LoopDesc) : Bool :=
  let outs := (loopBlocks d).flatMap blockOuts
  outs.all (fun o => decide (8 ≤ o) && decide (o < 32)) && decide outs.Nodup

/-- PID_BLK and RAMP_BLK name blocks of their kind, and OUT_SIG is PID_BLK's output (R73). -/
def pidBlkOk (d : LoopDesc) : Bool :=
  decide (d.pidBlk = 255) || (match (loopBlocks d)[d.pidBlk]? with
    | some b => decide (b.type = 1) && decide (d.outSig = b.out)
    | none => false)

/-- A loop's blocks meet R67, R70 and R73; parameters are checked again at PCOMMIT (R91). -/
def loopOk (d : LoopDesc) : Bool :=
  decide (1 ≤ d.nblk) && decide (d.nblk ≤ 16) && (loopBlocks d).all (blockOk d) && writersOk d && pidBlkOk d
    && decide (stateBytesOf d ≤ 256) && decide (8 ≤ d.outSig) && decide (d.outSig < 32)
    && decide (d.k ≤ 12) && decide (d.phase < 2 ^ d.k) && decide (d.rank < 16) && decide (1 ≤ d.pod) && decide (d.pod ≤ 4)
    && decide (d.initMode < 4)

/-- DO_ON above DO_OFF, for a loop that drives a DO (R69). -/
def doLevelsOk (d : LoopDesc) : Bool :=
  decide (s16 (field (d.params.getD 0 0) 15 0) < s16 (field (d.params.getD 0 0) 31 16))

/-- A cascade link meets R80. -/
def cascadeOk (outer inner : LoopDesc) : Bool :=
  decide (outer.pod = inner.pod) && decide (outer.rank < inner.rank) && decide (inner.k ≤ outer.k)
    && decide (outer.phase % 2 ^ inner.k = inner.phase)

/-- Pod-cycles of the loops of `ds` due in slot `n`. -/
def slotCost (ds : List LoopDesc) (n : Nat) : Nat := ((ds.filter (fun d => loopDue d n)).map loopCost).sum

/-- The check of R76 for the loops of one pod: every value of n mod 4,096. -/
def podFits (ds : List LoopDesc) : Bool := (List.range 4096).all (fun n => decide (slotCost ds n ≤ 49152))

/-! ## Injected signals (R95) -/

/-- π ÷ 2 in 2^-80. -/
def halfPi80 : Int := 1898976236818169290393996

/-- Terms of the sine series, in 2^-80. -/
def sineSum : Nat → Nat → Int → Int → Int → Int
  | 0, _, _, _, acc => acc
  | n + 1, k, x, t, acc =>
    let t' := - (t * x / 2 ^ 80 * x / 2 ^ 80) / Int.ofNat ((2 * k + 2) * (2 * k + 3))
    sineSum n (k + 1) x t' (acc + t')

/-- The sine of a first-quadrant angle of `r` parts in 2^30, in 2^-80. -/
def sine80 (r : Nat) : Int :=
  let x := Int.ofNat r * halfPi80 / 2 ^ 30
  sineSum 20 0 x x x

/-- AMPL × sin(2π·φ/2^32), to the nearest signal value. -/
def chirpValue (ampl : Int) (phase : Nat) : Int :=
  let r := phase % 2 ^ 30
  let s := match phase / 2 ^ 30 % 4 with
    | 0 => sine80 r | 1 => sine80 (2 ^ 30 - r) | 2 => - sine80 r | _ => - sine80 (2 ^ 30 - r)
  sat16 (roundDiv (ampl * s) (2 ^ 80))

/-- The feedback taps of the PRBS register, as exponents below n (Table HZL-10). -/
def prbsTaps : Nat → List Nat
  | 7 => [7, 6] | 8 => [8, 6, 5, 4] | 9 => [9, 5] | 10 => [10, 7] | 11 => [11, 9] | 12 => [12, 11, 10, 4]
  | 13 => [13, 12, 11, 8] | 14 => [14, 13, 12, 2] | _ => [15, 14]

/-- One shift of the Fibonacci register: stage n is bit n − 1, and the feedback enters stage 1 (log 23). -/
def prbsShift (n reg : Nat) : Nat :=
  let fbk := ((prbsTaps n).map (fun t => (reg >>> (t - 1)) % 2)).sum % 2
  (reg * 2 + fbk) % 2 ^ n

/-- The register's output bit: stage n. -/
def prbsBit (n reg : Nat) : Bool := reg.testBit (n - 1)

end Sys2Proof.Machine
end

