-- ==== Sys2Proof/Machine/HazelOps.lean ====
section
/-! DEFINITION. Machine/HazelOps.lean: Hazel's loops, generators and capture sets as the state holds them, their status words
and exchange bytes, and how an injection or a capture ends (R81, R96, R98, R102). -/
namespace Sys2Proof.Machine
open Sys2Proof

/-- Loop `n`, if the image defines it. -/
def loop? (s : State) (n : Nat) : Option Loop := (s.hz.loops.find? (fun p => p.1 == n)).map (·.2)

/-- Change loop `n`. -/
def modLoop (s : State) (n : Nat) (f : Loop → Loop) : State :=
  { s with hz := { s.hz with loops := s.hz.loops.map (fun p => if p.1 = n then (n, f p.2) else p) } }

/-- Raise a flag of HZ_FLAGS. -/
def hzRaise (s : State) (n : Nat) : State := raise s Reg.hzFlags 0 n

/-- The owner of MODE, SP or MV (bit 0, 1 or 2 of FLAGS, R83): true for the operator. -/
def operatorOwns (d : LoopDesc) (n : Nat) : Bool := d.flags.testBit n

/-- PRIO of a loop. -/
def prioOf (d : LoopDesc) : Nat := d.flags / 64 % 4

/-- The physical pod that runs a loop (R103, R104). DESIGN CHOICE: 0 for an UNPLACED loop, which no pod runs, so HZ_LOOP_STAT.POD shows 0
(R106; log 103). -/
def podOf (s : State) (l : Loop) : Nat := if l.unplaced then 0 else l.placed.getD (s.hz.podMap.getD (l.desc.pod - 1) 0)

/-- What an output channel actually drives, as a signal: an AO's readback, a DO's state driven (R69, R144). -/
def drivenSig (s : State) (c : Nat) : Int :=
  let v := (latched s.fch.sampleLatch c).value
  let m := modeOf s c
  if isAo m then rawToSig (field v 15 0) else if isDo m then boolSig (bit v 0) else 0

/-- The STOP-behaviour value of the loop's output channel, as a demand word (R90, R104). -/
def loopStopDemand (s : State) (l : Loop) : Option (Nat × Word) := (loopOutChannel l.desc).map (fun c => (c, word (stopDemand s c)))

/-- Generator `g`. -/
def gen (s : State) (g : Nat) : Generator := storeGet (fun _ => {}) s.hz.gens g

/-- Replace generator `g`. -/
def setGen (s : State) (g : Nat) (x : Generator) : State :=
  { s with hz := { s.hz with gens := storeSet (fun _ => {}) s.hz.gens g x } }

/-- Capture set `c`. -/
def cap (s : State) (c : Nat) : Capture := storeGet (fun _ => {}) s.hz.caps c

/-- Replace capture set `c`. -/
def setCap (s : State) (c : Nat) (x : Capture) : State :=
  { s with hz := { s.hz with caps := storeSet (fun _ => {}) s.hz.caps c x } }

/-- The generator that runs on loop `n`, if any. -/
def injecting (s : State) (n : Nat) : Option Nat :=
  (List.range 4).find? (fun g => decide ((gen s g).state = 1) && decide (blockField (gen s g).icb 0 2 = n))

/-- An injection ends: done, or aborted with a reason; posted and flagged (R96). -/
def endInjection (s : State) (g reason : Nat) : State :=
  let s1 := setGen s g { gen s g with state := if reason = 0 then 2 else 3, reason := reason }
  if reason = 0 then post (hzRaise s1 4) .injectDone g g 0 0 else post (hzRaise s1 3) .injectAbort g g reason 0

/-- Every running injection ends with a reason (R96, R102). -/
def endInjections (s : State) (reason : Nat) : State :=
  (List.range 4).foldl (fun t g => if (gen t g).state = 1 then endInjection t g reason else t) s

/-- A capture set completes: DONE, flagged (R97, R98). -/
def finishCapture (s : State) (c : Nat) (truncated : Bool) : State :=
  hzRaise (setCap s c { cap s c with state := 3, truncated := truncated, fire := false }) 5

/-- Every armed or recording set ends as DONE with TRUNCATED set (R102). -/
def truncateCaptures (s : State) : State :=
  (List.range 4).foldl (fun t c => if (cap t c).state = 1 ∨ (cap t c).state = 2 then finishCapture t c true else t) s

/-- HZ_LOOP_STAT of a loop (R106). -/
def loopStat (s : State) (n : Nat) (l : Loop) : Word :=
  fieldWord 31 28 l.desc.rank ||| fieldWord 27 24 l.desc.k ||| fieldWord 23 21 (podOf s l) ||| fieldWord 20 20 (b2n l.unplaced)
    ||| fieldWord 15 15 (b2n (injecting s n).isSome) ||| fieldWord 14 14 (b2n l.ramping) ||| fieldWord 13 13 (b2n l.intFrozen)
    ||| fieldWord 12 12 (b2n l.budgetHeld) ||| fieldWord 11 11 (b2n l.compliance) ||| fieldWord 10 10 (b2n l.clampLo)
    ||| fieldWord 9 9 (b2n l.limLo) ||| fieldWord 8 8 (b2n l.limHi) ||| fieldWord 7 7 (b2n l.override)
    ||| fieldWord 6 6 (b2n l.tracking) ||| fieldWord 5 5 (b2n l.casFallback) ||| fieldWord 4 4 (b2n l.manHold)
    ||| fieldWord 3 3 (b2n l.badIn) ||| fieldWord 2 0 l.mode

/-- A signal as its two bytes. -/
def sigBytes (q : Int) : List Byte := leBytes 2 (wordOfInt q).toNat

/-- Bytes 16 to 31 of a loop's exchange entry (Table HZL-6). -/
def exchangeOut (s : State) (n : Nat) (l : Loop) : List Byte :=
  sigBytes (sigAt l.signals l.desc.pubSig) ++ sigBytes l.spWork ++ sigBytes l.mv ++ sigBytes (sigAt l.signals 7)
    ++ leBytes 2 (loopStat s n l).toNat ++ leBytes 1 l.mode ++ leBytes 1 0 ++ leBytes 4 l.seqEcho

/-- Address in state memory of a loop's exchange entry: base + 32 × L, at the base that the image declares (R81). -/
def exchangeAddr (s : State) (n : Nat) : Nat := (s.exe.image.map (·.loopBase)).getD 0 + 32 * n

/-- Hazel writes bytes 16 to 31 of a loop's entry at the end of each of its samples (R81); those of the sample before stay at hand for a
boundary that falls inside this slot (R82). -/
def publish (s : State) (n slot : Nat) : State :=
  match loop? s n with
  | none => s
  | some l =>
    let bs := exchangeOut s n l
    areaPut (modLoop s n (fun l => { l with pubBefore := l.published, published := bs, pubSlot := slot })) (exchangeAddr s n + 16) bs

/-- A program half as its 16 bytes (Table HZL-6). -/
def programBytes (w : LoopWrite) : List Byte :=
  sigBytes w.sp ++ sigBytes w.ff ++ sigBytes w.track ++ sigBytes w.mvMan ++ leBytes 1 w.modeReq ++ leBytes 1 w.ctrl ++ leBytes 2 0
    ++ leBytes 4 w.seq

/-- The program half that 16 bytes of a loop's entry spell. -/
def programOf (n : Nat) (bs : List Byte) : LoopWrite :=
  { loop := n, sp := s16 (blockField bs 0 2), ff := s16 (blockField bs 2 2), track := s16 (blockField bs 4 2), mvMan := s16 (blockField bs 6 2)
    modeReq := blockField bs 8 1, ctrl := blockField bs 9 1, seq := blockField bs 12 4 }

/-- Bytes 0 to 15 of a loop's exchange entry, as last written. -/
def exchangeIn (l : Loop) : List Byte := programBytes (l.written.getD l.prog)

/-- The block-state area of a loop, 256 bytes (R105, Table HZL-15). -/
def blockStateBytes (l : Loop) : List Byte :=
  let bs := l.states.flatten.flatMap (fun v => leBytes 8 (BitVec.ofInt 64 v).toNat)
  bs ++ List.replicate (256 - bs.length) 0

/-- Cut a list of state values into the blocks of a loop. -/
def splitStates : List BlockSlot → List Int → List (List Int)
  | [], _ => []
  | b :: bs, vs => vs.take (blockStates b) :: splitStates bs (vs.drop (blockStates b))

/-- The 64-bit state values a byte string holds. -/
def stateValues : Nat → List Byte → List Int
  | 0, _ => []
  | n + 1, bs => (BitVec.ofNat 64 (ofLe (bs.take 8))).toInt :: stateValues n (bs.drop 8)

/-- Take a Hazel record into a loop (R100): exchange bytes 16 to 31, then the block states. In MAN_HOLD the SEQ last applied is the one at
the entry (R87). -/
def loadRecord (l : Loop) (bs : List Byte) : Loop :=
  let q (a : Nat) : Int := s16 (blockField bs a 2)
  let st := blockField bs 8 2
  let ws := stateValues ((stateBytesOf l.desc) / 8) (bs.drop 16)
  { l with
    signals := putSig (putSig l.signals l.desc.pubSig (q 0)) 7 (q 6)
    spWork := q 2, mv := q 4, base := q 4, mode := blockField bs 10 1, seqEcho := blockField bs 12 4
    ramping := st.testBit 14, intFrozen := st.testBit 13, budgetHeld := st.testBit 12, compliance := st.testBit 11
    clampLo := st.testBit 10, limLo := st.testBit 9, limHi := st.testBit 8, override := st.testBit 7
    tracking := st.testBit 6, casFallback := st.testBit 5, manHold := st.testBit 4, badIn := st.testBit 3
    seqAtEntry := if st.testBit 4 then blockField bs 12 4 else l.seqAtEntry
    states := splitStates (loopBlocks l.desc) ws, fresh := false, fromDriven := false, published := bs.take 16 }

/-- A task's writes to the program halves of the loops' exchange entries (R81). -/
def applyLoopWrites (s : State) (ws : List LoopWrite) : State :=
  ws.foldl (fun t w => areaPut (modLoop t w.loop (fun l => { l with written := some w })) (exchangeAddr t w.loop) (programBytes w)) s

/-! ## Pod counters (R106) -/

/-- A pod's counter holds MISSED in [31:16] and PEAK in [15:0]. -/
def podCounter (pod : Nat) : Nat := Reg.hzSnapPod1 + 4 * ((pod - 1) % 5)

/-- Keep the highest pod-cycles of one slot. -/
def podPeak (s : State) (pod cycles : Nat) : State :=
  let w := counter s (podCounter pod) 0
  if field w 15 0 < cycles then setCounter s (podCounter pod) 0 (setField w 15 0 cycles) else s

/-- Count a slot whose results were discarded, saturating. -/
def podMissed (s : State) (pod : Nat) : State :=
  let w := counter s (podCounter pod) 0
  setCounter s (podCounter pod) 0 (setField w 31 16 (min (field w 31 16 + 1) 65535))

/-- A START restarts the PEAK figures. -/
def clearPeaks (s : State) : State :=
  [1, 2, 3, 4, 5].foldl (fun t p => setCounter t (podCounter p) 0 (setField (counter t (podCounter p) 0) 15 0 0)) s

/-! ## Loops at a restart (R99, R101) -/

/-- A loop as a restart or a new image starts it: zeroed states, INIT_MODE (R99). -/
def freshLoop (d : LoopDesc) : Loop :=
  { desc := d
    prog := { loop := d.loop, sp := 0, ff := 0, track := 0, mvMan := 0, modeReq := d.initMode, ctrl := 0, seq := 0 }
    opMode := d.initMode, spTrackPv := d.flags.testBit 3, signals := List.replicate 32 0, mode := d.initMode
    manHold := decide (d.initMode = 1), states := (loopBlocks d).map (fun b => List.replicate (blockStates b) 0)
    fresh := true, fromDriven := true }

/-- A loop that starts takes the driven value of its channel as its output (R99). -/
def startDriven (s : State) (l : Loop) : Loop :=
  match loopOutChannel l.desc with
  | some c => { l with base := drivenSig s c, mv := drivenSig s c }
  | none => l

/-- A loop matched by LOOP_ID keeps its mode, and the state of each slot whose block type is unchanged (R101). -/
def matchedLoop (d : LoopDesc) (old : Loop) : Loop :=
  let keep (i : Nat) (b : BlockSlot) : List Int :=
    match (loopBlocks old.desc)[i]? with
    | some b' => if b'.type = b.type ∧ blockStates b' = blockStates b then old.states.getD i [] else List.replicate (blockStates b) 0
    | none => List.replicate (blockStates b) 0
  { freshLoop d with
    prog := { old.prog with loop := d.loop }, written := old.written.map (fun w => { w with loop := d.loop }), seqEcho := old.seqEcho, opMode := old.opMode, spTrackPv := old.spTrackPv
    opSp := old.opSp, opMv := old.opMv, mode := old.mode, manHold := old.manHold, seqAtEntry := old.seqAtEntry
    base := old.base, mv := old.mv, cascade := old.cascade, fromDriven := old.fromDriven
    states := ((loopBlocks d).zipIdx.map (fun p => keep p.2 p.1)), fresh := true }

/-- The loops of an image, matched with those in force when `keep` holds (R99, R101). -/
def installLoops (s : State) (im : Image) (keep : Bool) : State :=
  let start (d : LoopDesc) : Loop :=
    match s.hz.loops.find? (fun p => decide (p.2.desc.loopId = d.loopId)) with
    | some p => if keep then matchedLoop d p.2 else startDriven s (freshLoop d)
    | none => startDriven s (freshLoop d)
  let ds := im.loops.mergeSort (fun a b => decide (a.loop ≤ b.loop))
  { s with hz := { s.hz with loops := ds.map (fun d => (d.loop, start d)), batches := [] } }

/-! ## Placement (R103, R104) -/

/-- Physical pods in service. -/
def podsInService (s : State) : List Nat := [1, 2, 3, 4, 5].filter (fun p => s.hz.podMap.contains p)

/-- Loops of `ls` joined to loop `n` by one cascade link. -/
def linked (ls : List (Nat × Loop)) (n : Nat) : List Nat :=
  (ls.filter (fun p => decide (innerOf p.2.desc = some n))).map (·.1)
    ++ (ls.filterMap (fun p => if p.1 = n then innerOf p.2.desc else none)).filter (fun i => ls.any (fun p => decide (p.1 = i)))

/-- One pass of labelling: each loop takes the lowest label among its own and its links'. -/
def relabel (ls : List (Nat × Loop)) (lab : List (Nat × Nat)) : List (Nat × Nat) :=
  lab.map (fun p => (p.1, ((linked ls p.1).map (fun i => ((lab.find? (fun q => decide (q.1 = i))).map (·.2)).getD p.2)).foldl min p.2))

/-- Labels after enough passes: the lowest loop number of the unit. -/
def labels (ls : List (Nat × Loop)) : Nat → List (Nat × Nat)
  | 0 => ls.map (fun p => (p.1, p.1))
  | k + 1 => relabel ls (labels ls k)

/-- The placement units of `ls`, in descending PRIO of the highest member, then ascending lowest loop number (R104). -/
def placementUnits (ls : List (Nat × Loop)) : List (List (Nat × Loop)) :=
  let lab := labels ls ls.length
  let heads := (lab.map (·.2)).dedup
  let unit (h : Nat) : List (Nat × Loop) := ls.filter (fun p => lab.contains (p.1, h))
  let prio (h : Nat) : Nat := ((unit h).map (fun p => prioOf p.2.desc)).foldl max 0
  (heads.mergeSort (fun a b => decide (prio b < prio a) || (decide (prio a = prio b) && decide (a ≤ b)))).map unit

/-- A unit goes whole to the in-service pod with the lowest number on which it fits in every slot; else all its loops are UNPLACED. -/
def placeUnit (pods : List Nat) (s : State) (u : List (Nat × Loop)) : State :=
  let on (p : Nat) : List LoopDesc := (s.hz.loops.filter (fun q => decide (podOf s q.2 = p) && !q.2.unplaced)).map (·.2.desc)
  match pods.find? (fun p => podFits (on p ++ u.map (·.2.desc))) with
  | some p => u.foldl (fun t q => modLoop t q.1 (fun l => { l with placed := some p, unplaced := false })) s
  | none => u.foldl (fun t q => modLoop t q.1 (fun l => { l with placed := none, unplaced := true })) s

end Sys2Proof.Machine
end

