-- ==== Sys2Proof/Machine/PanelOps.lean ====
section
/-! DEFINITION. Machine/PanelOps.lean: requests of the front status panel and how they end, the dirty-rectangle record, and the start of
the panel island (R408 to R421). -/
namespace Sys2Proof.Machine
open Sys2Proof

/-- Raise a flag of PNL_FLAGS. -/
def pnlRaise (s : State) (n : Nat) : State := raise s Reg.pnlFlags 0 n

/-- Change the panel's record. -/
def modPnl (s : State) (f : Panel → Panel) : State := { s with pnl := f s.pnl }

/-- Two rectangles share a pixel (R413). -/
def overlaps (a b : PanelReq) : Bool :=
  decide (a.x < b.x + b.w) && decide (b.x < a.x + a.w) && decide (a.y < b.y + b.h) && decide (b.y < a.y + a.h)

/-- Rectangle `a` covers `b` completely (R414). -/
def covers (a b : PanelReq) : Bool :=
  decide (a.x ≤ b.x) && decide (b.x + b.w ≤ a.x + a.w) && decide (a.y ≤ b.y) && decide (b.y + b.h ≤ a.y + a.h)

/-- The command that a request came from, while it still waits for its outcome. -/
def panelCommand (s : State) (r : PanelReq) : Option Executing :=
  match r.from_ with
  | none => none
  | some (q, se, tag) => s.cmd.executing.find? (fun x => decide (x.queue = q) && decide (x.session = se) && decide (x.tag = tag))

/-- A request ends with a status and WHERE (Table PNL-2); other outcomes than OK are counted. -/
def endPanel (s : State) (r : PanelReq) (code : Code) (wh : Nat) : State :=
  let s1 := if code = .ok then s else countUp s Reg.pnlSnapRef 0
  match panelCommand s1 r with
  | some x => conclude s1 x code wh 0 []
  | none => s1

/-- Change the queued request with this number. -/
def modPanelReq (s : State) (id : Nat) (f : PanelReq → PanelReq) : State :=
  modPnl s (fun p => { p with queue := p.queue.map (fun r => if r.id = id then f r else r) })

/-- Take a request out of the queue. -/
def dropPanelReq (s : State) (id : Nat) : State := modPnl s (fun p => { p with queue := p.queue.filter (fun r => r.id ≠ id) })

/-- Gourd refused a queued request's claim: it ends BUDGET_REFUSED with the reason, its rectangle unchanged (R415). -/
def panelBudgetRefused (s : State) (id why : Nat) : State :=
  match s.pnl.queue.find? (fun r => r.id == id) with
  | some r => endPanel (pnlRaise (dropPanelReq s id) 3) r .budgetRefused why
  | none => s

/-- Gourd's Husk ended a queued request's claim: it ends HUSKED, its rectangle unchanged (R13). -/
def panelHusked (s : State) (id : Nat) : State :=
  match s.pnl.queue.find? (fun r => r.id == id) with
  | some r => endPanel (dropPanelReq s id) r .husked 4
  | none => s

/-- Gourd granted a queued request's claim: its record entry is to be written, which is a C2 NV commit (R415, R419). -/
def panelGranted (s : State) (id : Nat) : State :=
  let s1 := modPanelReq s id (fun r => { r with phase := 2 })
  askWrite s1 0xC 1000 .panelRecord

/-! ## The dirty-rectangle record (R419, Table PNL-3) -/

/-- The record in force: the copy with the higher sequence number. -/
def panelRecord (p : Panel) : PanelRecord := if p.recordA.seq < p.recordB.seq then p.recordB else p.recordA

/-- Write the record to the copy that is not in force. -/
def writePanelRecord (p : Panel) (count time : Nat) (es : List PanelEntry) : Panel :=
  let r : PanelRecord := { seq := (panelRecord p).seq + 1, count := count, time := time, entries := es }
  if p.recordA.seq < p.recordB.seq then { p with recordA := r } else { p with recordB := r }

/-- The record entry of a request. -/
def entryOf (r : PanelReq) (state frame : Nat) : PanelEntry :=
  { x := r.x, y := r.y, w := r.w, h := r.h, state := state, frame := frame, kind := r.kind, tag := r.tag, queue := r.queue }

/-- An entry belongs to a request. -/
def entryIs (r : PanelReq) (e : PanelEntry) : Bool :=
  decide (e.x = r.x) && decide (e.y = r.y) && decide (e.w = r.w) && decide (e.h = r.h) && decide (e.tag = r.tag) && decide (e.queue = r.queue)

/-- Set a request's entry to a state, or clear it with state 0. -/
def setPanelEntry (p : Panel) (r : PanelReq) (state frame : Nat) : Panel :=
  let rec0 := panelRecord p
  let rest := rec0.entries.filter (fun e => !entryIs r e)
  writePanelRecord p rec0.count rec0.time (if state = 0 then rest else rest ++ [entryOf r state frame])

/-- The fault record last written (R450). -/
def faultRecord (s : State) : Option FaultRecord :=
  match s.sup.faultA, s.sup.faultB with
  | some a, some b => if a.seq < b.seq then some b else some a
  | some a, none => some a
  | none, b => b

/-- The panel island starts (R421): it redraws the rectangles that the record shows as not free before anything else. -/
def panelStart (s : State) : State :=
  let rects := ((panelRecord s.pnl).entries.filter (fun e => decide (e.state ≠ 0))).map (fun e => (e.x, e.y, e.w, e.h))
  modPnl s (fun p => { p with
    released := true, redraw := if rects = [] then 0 else 1, redrawRects := rects, measured := false, tempMeasured := false
    faultScreen := p.faultScreen || s.sup.trimFault })

/-- What a reset of the panel island keeps: the glass, the record and the last completed image in MRAM (R419, R440). -/
def panelKeep (p : Panel) : Panel :=
  { pixels := p.pixels, recordA := p.recordA, recordB := p.recordB, image := p.image, completed := p.completed, stamped := p.stamped
    nextId := p.nextId, factoryVcom := p.factoryVcom, faultScreen := p.faultScreen }

/-- The power-fail warning or an island reset stops every running update; its record is written STOPPED_PFW, then the discharge runs
(R420, R444). -/
def panelStopAll (s : State) : State :=
  let runs := s.pnl.running
  let s1 := modPnl s (fun p =>
    let p1 := runs.foldl (fun q r => setPanelEntry q r.req 2 r.frames) p
    { p1 with running := [], pumps := false, discharging := p.pumps || !runs.isEmpty })
  runs.foldl (fun t r => endPanel t r.req .busy 4) s1

end Sys2Proof.Machine
end

