-- ==== Sys2Proof/Machine/Grants.lean ====
section
/-! DEFINITION. Machine/Grants.lean: what an island does when Gourd grants, delays or refuses its logic request (R178, R291, R391, R415),
and the entries of the grant log by index (Table PWB-5). -/
namespace Sys2Proof.Machine
open Sys2Proof

/-- The grant log entry at ring index `i` (entry e at 32 × e, R180): SEQ mod 256. -/
def grantAt (s : State) (i : Nat) : Option GrantEntry := s.grd.log.find? (fun e => decide (e.seq % 256 = i))

/-- Index of the newest grant log entry (GRD_IDX_ADDR.HEAD). -/
def grantHead (s : State) : Nat := match s.grd.log with
  | e :: _ => e.seq % 256
  | [] => 0

/-- A logic request was granted. A C0 write has been made without waiting (R481). -/
def onLogicGrant (s : State) (r : Request) : State :=
  match r.purpose with
  | .retainWrite => if r.cls = .c2 then nvWrite s r.purpose else s
  | .timeSave => if r.cls = .c2 then nvWrite s r.purpose else s
  | .forceTable => concludeGrant (nvWrite s r.purpose) tableSubject
  | .sproutRecord => if r.cls = .c2 then nvWrite s r.purpose else s
  | .faultRecord => if r.cls = .c2 then nvWrite s r.purpose else s
  | .optionWrite => nvWrite s r.purpose
  | .canBurst p => canFeed (modPort s p (fun x => { x with enabled := true, awaiting := false })) p
  | .panelUpdate id => panelGranted s id
  | .captureWrite c => setCap s c { cap s c with staging := 0 }
  | _ => s

/-- A logic request was delayed for the first time. -/
def onLogicDelay (s : State) (r : Request) (est : Option Nat) : State :=
  match r.purpose with
  | .forceTable => replyDelayed s (fun x => x.waits.contains tableSubject) est
  | .seedbankFlush => replyDelayed s (fun x => decide (x.opcode = 0x0902)) est
  | .scrubAccel _ => raise s Reg.memFlags 0 6
  | _ => s

/-- A logic request was refused. -/
def onLogicRefuse (s : State) (r : Request) (why : Reason) : State :=
  match r.purpose with
  | .scrubAccel _ => raise s Reg.memFlags 0 6
  | .panelUpdate id => panelBudgetRefused s id (reasonCode why)
  | .panelRedraw => pnlRaise (modPnl s (fun p => { p with redraw := 1 })) 3
  | _ => s

/-- A force as it was before a command that changed it. -/
def undoForce (s : State) (u : ForceKey × Option Nat) : State :=
  let rest := s.exe.forces.filter (fun f => f.key ≠ u.1)
  { s with exe := { s.exe with forces := match u.2 with
    | some v => if (forceOf s u.1).isSome then s.exe.forces.map (fun f => if f.key = u.1 then { f with value := v } else f)
                else rest ++ [{ key := u.1, value := v }]
    | none => rest } }

/-- The force commands that wait for the table's write end HUSKED, and the table is as they found it (R310). -/
def huskForces (s : State) : State :=
  let us := (waiting s (fun x => x.waits.contains tableSubject)).flatMap (·.undo)
  let s1 := us.reverse.foldl undoForce s
  concludeOther (refreshAll (nvWrite s1 .forceTable) (us.filterMap (fun u => match u.1 with
    | .output c => some c
    | _ => none))) tableSubject .husked 4

/-- A logic request met Gourd's Husk, or was inside when the Husk took over: it ends HUSKED, and its island goes on without the grant
and a write of its own is made (R13; log 111). -/
def onLogicHusked (s : State) (r : Request) : State :=
  match r.purpose with
  | .canBurst p => modPort s p (fun x => { x with awaiting := false })
  | .panelUpdate id => panelHusked s id
  | .panelRedraw => modPnl s (fun p => { p with redraw := 1 })
  | .seedbankFlush => { s with sbk := { s.sbk with flushing := false, flushDue := true } }
  | .scrubAccel _ => raise s Reg.memFlags 0 6
  | .forceTable => huskForces s
  | p => nvWrite s p

/-- Gourd's Husk takes over: every request inside ends HUSKED. A channel's stays undriven, and a command that waited on it is answered
(R13). -/
def huskRequests (s : State) : State :=
  let chans := s.grd.c1.map (·.source)
  let logic := s.grd.c0 ++ s.grd.c2 ++ s.grd.c3
  let s1 := { s with grd := { s.grd with c0 := [], c1 := [], c2 := [], c3 := [] } }
  let s2 := chans.foldl (fun t c => concludeOther (modFe t c (fun f => { f with budget := .refused })) (grantSubject c) .husked 4) s1
  logic.foldl onLogicHusked s2

end Sys2Proof.Machine
end

