-- ==== Sys2Proof/Machine/Gourd.lean ====
section
/-! DEFINITION. Machine/Gourd.lean: Gourd, the power and current budget arbiter (R167 to R181, R481). -/
namespace Sys2Proof.Machine
open Sys2Proof

/-! ## The group model (R169 to R171) -/

/-- S: the sum of the standing claims of a group, mA. -/
def groupStanding (s : State) (g : Nat) : Nat := ((groupChannels g).map (fun c => (claimOf s c).standing)).sum

/-- The excesses active in a group now: amount and end. -/
def groupExcesses (s : State) (g : Nat) : List (Nat × Nat) :=
  (groupChannels g).flatMap (fun c =>
    let x := claimOf s c
    (if 0 < x.excess && decide (s.now < x.excessEnd) then [(x.excess, x.excessEnd)] else [])
      ++ (if 0 < x.shortExcess && decide (s.now < x.shortEnd) then [(x.shortExcess, x.shortEnd)] else []))

/-- X: the sum of the active transient excesses of a group, mA. -/
def groupExcess (s : State) (g : Nat) : Nat := ((groupExcesses s g).map (·.1)).sum

/-- The model of a group, S + X, mA (GRD_GRP.MODEL). -/
def groupModel (s : State) (g : Nat) : Nat := groupStanding s g + groupExcess s g

/-- The budget record of a group. -/
def groupBudget (s : State) (g : Nat) : GroupBudget := storeGet (fun _ => {}) s.grd.groups g

/-- Replace the budget record of a group. -/
def setGroupBudget (s : State) (g : Nat) (x : GroupBudget) : State :=
  { s with grd := { s.grd with groups := storeSet (fun _ => {}) s.grd.groups g x } }

/-- Note since when the model of a group has been above 8,000 mA (R170). -/
def markAbove (s : State) (g : Nat) : State :=
  let b := groupBudget s g
  if 8000 < groupModel s g then setGroupBudget s g { b with above := some (b.above.getD s.now) }
  else setGroupBudget s g { b with above := none }

/-- When the model S + X, with these excesses, is back at or below 8,000 mA, if it ever is by their expiry. -/
def backBelow (standing : Nat) (xs : List (Nat × Nat)) (now : Nat) : Option Nat :=
  let model (t : Nat) := standing + ((xs.filter (fun x => decide (t < x.2))).map (·.1)).sum
  if model now ≤ 8000 then some now
  else ((xs.map (·.2)).mergeSort (fun a b => decide (a ≤ b))).find? (fun t => decide (model t ≤ 8000))

/-- The conditions of R170 for a group holding, after the grant, `standing` mA and these excesses: the first that fails. -/
def r170 (above : Option Nat) (standing : Nat) (xs : List (Nat × Nat)) (now : Nat) : Option Reason :=
  let x := (xs.map (·.1)).sum
  if 8000 < standing then some .groupCont
  else if 12000 < standing + x then some .groupPeak
  else if standing + x ≤ 8000 then none
  else match backBelow standing xs now with
    | some t => if t ≤ above.getD now + 10000000 then none else some .groupTime
    | none => some .groupTime

/-- The claim a C1 request takes when granted: standing mA, excess mA and the excess's duration in ns (Table PWB-2). -/
def c1Claim (s : State) (c amount : Nat) : Nat × Nat × Nat :=
  let m := modeOf s c
  if isDo m then (loadI s c, 1200 - loadI s c, inrushNs s c)
  else if m = 0x12 then (22, 8, 100000000)
  else (max (loadI s c + amount) ((safeSetting s c + 1999) / 2000), 0, 0)

/-- Decide one C1 request against the model (R170). -/
def c1Fits (s : State) (r : Request) : Option Reason :=
  let g := groupOf r.source
  let (st, ex, dur) := c1Claim s r.source r.amount
  let xs := (groupExcesses s g) ++ (if 0 < ex && decide (0 < dur) then [(ex, s.now + dur)] else [])
  r170 (groupBudget s g).above (groupStanding s g - (claimOf s r.source).standing + st) xs s.now

/-- µs from now to a time. -/
def microsTo (s : State) (t : Nat) : Nat := (t - s.now) / 1000

/-- The estimated wait of a delayed field request: to the earliest expiry of an active excess in its group (R167). -/
def fieldEstimate (s : State) (g : Nat) : Option Nat :=
  (((groupExcesses s g).map (·.2)).min?).map (microsTo s)

/-- A C1 request is granted: the channel takes its claim and its output may be driven in the next frame (R168). -/
def grantC1 (s : State) (r : Request) : State :=
  let c := r.source
  let (st, ex, dur) := c1Claim s c r.amount
  let wait := (s.now - r.made) / 1000
  let s1 := setClaim s c { claimOf s c with standing := st, excess := ex, excessEnd := s.now + dur }
  let s2 := modFe s1 c (fun f => { f with
    budget := .granted
    granted := if isDo (modeOf s c) || decide (modeOf s c = 0x12) then 1
               else if isAo (modeOf s c) then aoBase s c + r.amount * 2000 else f.granted })
  let s3 := countMax s2 Reg.grdSnapMaxwait 0 wait
  let s4 := if r.delayed.isSome then logRequest s3 r .granted .none wait
            else if bit (cfg s3 Reg.grdCfg 0) 31 then logRequest s3 r .granted .none 0 else s3
  concludeGrant (markAbove s4 (groupOf c)) (grantSubject c)

/-- A C1 request is delayed. The first decision that delays it counts, flags and logs it, with its estimate (R167, R178). -/
def delayC1 (s : State) (r : Request) (why : Reason) (est : Option Nat) : State :=
  if r.delayed.isSome then s
  else
    let r' := { r with delayed := some why, estimate := est, since := s.now }
    let s1 := modFe s r.source (fun f => { f with budget := .delayed })
    let s2 := { s1 with grd := { s1.grd with c1 := s1.grd.c1.map (fun x => if x.source = r.source then r' else x) } }
    let s3 := logRequest (countUp (raise s2 Reg.grdFlags 0 0) Reg.grdSnapC1dly 0) r' .delayed why (estimateField est)
    replyDelayed s3 (fun x => x.waits.contains (grantSubject r.source)) est

/-- C1 order within a group: FCH_DOCFG.PRIO, then channel number (R168). -/
def c1Before (s : State) (a b : Request) : Bool :=
  let pa := cfgField s Reg.fchDocfg a.source 10 8
  let pb := cfgField s Reg.fchDocfg b.source 10 8
  decide (pa < pb) || (decide (pa = pb) && decide (a.source ≤ b.source))

/-- Decide one C1 request of a group; `p.2` is the estimate of the earlier request that waits, if one does. A request that fails R170 by
itself carries that reason; one that would pass waits with STAGGER and that request's estimate (R167, R170). -/
def decideC1 (g : Nat) (p : State × Option (Option Nat)) (r : Request) : State × Option (Option Nat) :=
  match c1Fits p.1 r, p.2 with
  | none, none => (grantC1 { p.1 with grd := { p.1.grd with c1 := p.1.grd.c1.filter (fun x => x.source ≠ r.source) } } r, none)
  | none, some est => (delayC1 p.1 r .stagger est, p.2)
  | some why, blocked =>
    let est := fieldEstimate p.1 g
    (delayC1 p.1 r why est, some (blocked.getD (if r.delayed.isSome then r.estimate else est)))

/-- Decide the waiting C1 requests of one group in order: a request never passes an earlier waiting one (R168). -/
def decideGroup (s : State) (g : Nat) : State :=
  (((s.grd.c1.filter (fun r => decide (groupOf r.source = g))).mergeSort (c1Before s)).foldl (decideC1 g) (s, none)).1

/-! ## The logic model (R175, R176) -/

/-- GRD_LOGIC_CAP.CAP in mW. -/
def capMw (s : State) : Nat := cfgField s Reg.grdLogicCap 0 11 0 * 10

/-- P_NEW: claims granted less than 1 ms earlier (R175). -/
def pNew (s : State) : Nat := ((s.grd.claims.filter (fun c => decide (s.now < c.start + 1000000))).map (·.amount)).sum

/-- The condition of R175 for an amount, in mW. -/
def logicFits (s : State) (amount : Nat) : Bool := decide (s.grd.pMeas + pNew s + amount + 1500 ≤ capMw s)

/-- The largest C3 request, CAP − 36.40 W (R175). -/
def largestC3 (s : State) : Nat := capMw s - 36400

/-- The estimate of a delayed logic request: to the end of the earliest timed claim in force, plus 1 ms (R167). -/
def logicEstimate (s : State) : Option Nat :=
  ((s.grd.claims.filterMap (·.stop)).min?).map (fun t => microsTo s (t + 1000000))

/-- A logic request is granted: its claim starts now, and it takes effect in the next coupler frame (R168). Every C0, C2 and C3 grant is
logged (R178). -/
def grantLogic (s : State) (r : Request) : State :=
  let k : Claim := { cls := r.cls, source := r.source, amount := r.amount, purpose := r.purpose, start := s.now,
                     stop := r.duration.map (fun d => s.now + d * 1000) }
  let wait := if r.delayed.isSome then (s.now - r.made) / 1000 else 0
  logRequest { s with grd := { s.grd with claims := s.grd.claims ++ [k], granted := s.grd.granted ++ [r] } } r .granted .none wait

/-- The grants made since the last coupler frame take effect in this one (R168). -/
def grantsTakeEffect (s : State) : State :=
  s.grd.granted.foldl onLogicGrant { s with grd := { s.grd with granted := [] } }

/-- A logic request is delayed: flagged and logged once, with its estimate, which is not revised; one that already waits takes the reason
PFW when the warning holds it (R167, R177, R178). -/
def delayLogic (s : State) (r : Request) (why : Reason) : State × Request :=
  if r.delayed.isSome then (s, { r with delayed := if why = .pfw then some .pfw else r.delayed })
  else
    let est := logicEstimate s
    let r' := { r with delayed := some why, estimate := est, since := s.now }
    (onLogicDelay (logRequest (raise s Reg.grdFlags 0 0) r' .delayed why (estimateField est)) r' est, r')

/-- A logic request is refused. -/
def refuseLogic (s : State) (r : Request) (why : Reason) : State := onLogicRefuse (refuseRequest s r why) r why

/-- Decide the C2 queue in arrival order: nothing passes an earlier waiting request (R168). An over-large request is decided
with CAP − 36.40 W (R175); after the warning every C2 request waits with reason PFW (R177). -/
def decideC2 : List Request → State → State × List Request
  | [], s => (s, [])
  | r :: rs, s =>
    if s.grd.pfw then
      let (s1, r') := delayLogic s r .pfw
      let (s2, rest) := decideC2 rs s1
      (s2, r' :: rest)
    else if logicFits s (min r.amount (largestC3 s)) then decideC2 rs (grantLogic s r)
    else
      let (s1, r') := delayLogic s r .logicCap
      let (s2, rest) := rs.foldl (fun (p : State × List Request) q =>
        let (t, q') := delayLogic p.1 q .stagger
        (t, p.2 ++ [q'])) (s1, [])
      (s2, r' :: rest)

/-- Decide the C3 queue one at a time in arrival order: a later one that fits may pass (R168). -/
def decideC3 : List Request → State → State × List Request
  | [], s => (s, [])
  | r :: rs, s =>
    if s.grd.pfw then decideC3 rs (refuseLogic s r .pfw)
    else if largestC3 s < r.amount then decideC3 rs (refuseLogic s r .tooLarge)
    else if s.grd.c2Aged then decideC3 rs (refuseLogic s r .c2Age)
    else if logicFits s r.amount then decideC3 rs (grantLogic s r)
    else
      let (s1, r') := delayLogic s r .logicCap
      let (s2, rest) := decideC3 rs s1
      (s2, r' :: rest)

/-- A C3 claim is timed and lasts at most 250 ms (R176). DESIGN CHOICE: a C3 request that asks for more, or names no duration, is taken for
250 ms (log 113). -/
def timedC3 (r : Request) : Request := { r with duration := some (min (r.duration.getD 250000) 250000) }

/-- A logic request reaches Gourd (R167, R176, R177): C3 beyond sixteen waiting, while C2 has aged, or after the warning is
refused; the power-fail writes are C0 after the warning. -/
def requestLogic (s : State) (r : Request) : State :=
  if held s 4 then onLogicHusked s r
  else match r.cls with
  | .c0 => { s with grd := { s.grd with c0 := s.grd.c0 ++ [r] } }
  | .c1 => { s with grd := { s.grd with c1 := s.grd.c1 ++ [r] } }
  | .c2 => requestC2 s r
  | .c3 =>
    if 16 ≤ s.grd.c3.length then refuseLogic s (timedC3 r) .queueFull
    else if s.grd.pfw then refuseLogic s (timedC3 r) .pfw
    else if s.grd.c2Aged then refuseLogic s (timedC3 r) .c2Age
    else { s with grd := { s.grd with c3 := s.grd.c3 ++ [timedC3 r] } }

/-- An island asks Gourd for a timed logic claim. -/
def askLogic (s : State) (cls : GrantClass) (window amount : Nat) (durationUs : Option Nat) (p : Purpose) : State :=
  requestLogic s { cls := cls, source := window, group := none, amount := amount, duration := durationUs, purpose := p,
                   made := s.now, delayed := none, estimate := none }

/-- A claim for a purpose is in force. -/
def hasClaim (s : State) (p : Purpose) : Bool := s.grd.claims.any (fun c => decide (c.purpose = p))

/-- A claim for a purpose ends. -/
def endClaim (s : State) (p : Purpose) : State :=
  { s with grd := { s.grd with claims := s.grd.claims.filter (fun c => decide (c.purpose ≠ p)) } }

/-- Step 1 of a decision: expired claims are released, and the groups' times above 8,000 mA kept (R168, R170). -/
def releaseExpired (s : State) : State :=
  let live := s.grd.claims.filter (fun c => match c.stop with
    | some t => decide (s.now < t)
    | none => true)
  (List.range 12).foldl markAbove { s with grd := { s.grd with claims := live } }

/-- Changed claims of channels are copied to the partner (R179). -/
def copyClaims (s : State) : State :=
  if claimsNow s = s.grd.copied then s else copyChange (noteCopied s) 0x31 { claims := some (claimsNow s) }

/-- One decision of Gourd, in the fixed order of R168. -/
def gourdDecide (s : State) : State :=
  let s1 := releaseExpired s
  let s2 := s1.grd.c0.foldl grantLogic { s1 with grd := { s1.grd with c0 := [] } }
  let s3 := (List.range 12).foldl decideGroup s2
  let (s4, c2) := decideC2 s3.grd.c2 { s3 with grd := { s3.grd with c2 := [] } }
  let s5 := { s4 with grd := { s4.grd with c2 := c2, c2Aged := s4.grd.c2Aged && decide (s3.grd.c2.length = c2.length) } }
  let (s6, c3) := decideC3 s5.grd.c3 { s5 with grd := { s5.grd with c3 := [] } }
  copyClaims { s6 with grd := { s6.grd with c3 := c3 ++ s6.grd.c3 } }

/-! ## The rows -/

/-- GOURD_REQUEST (R167): a request carrying class, amount and duration reaches Gourd. A module that does not own the field makes no field
request (R179). -/
def execGourdRequest (r : GourdAsk) (s : State) : Host.Outcome State Fault Refusal :=
  match r with
  | .channel c amount => .next (if owner s then requestC1 s c.val amount else s)
  | .island cls w amount dur p => .next (askLogic s cls (windowOf w) amount dur p)

/-- GOURD_DECISION (R168): the decision of one coupler frame. -/
def execGourdDecision (s : State) : Host.Outcome State Fault Refusal := .next (gourdDecide s)

/-- GROUP_CURRENT_MEASURE (R172): the switch and loop currents a group's front-ends report are summed, mA; a count of the
current modes is 0.5 µA. -/
def execGroupCurrentMeasure (g : Fin 12) (s : State) : Host.Outcome State Fault Refusal :=
  let total := ((groupChannels g.val).map (fun c =>
    let m := modeOf s c
    if isDo m then (fe s c).aux.toNat * 2000 else if isCurrent m then (fe s c).value.toNat else 0)).sum / 2000
  .next (setGroupBudget s g.val { groupBudget s g.val with measured := total % 65536 })

/-- LOGIC_POWER_MEASURE (R175): the supervisor's 1 ms average of input power, mW. -/
def execLogicPowerMeasure (mw : BitVec 16) (s : State) : Host.Outcome State Fault Refusal :=
  .next { s with grd := { s.grd with pMeas := mw.toNat } }

/-- The oldest waiting C2 request has been DELAYED for C2_AGE, in ms (R176). -/
def c2AgeReached (s : State) : Bool := match s.grd.c2 with
  | r :: _ => r.delayed.isSome && decide (r.since + cfgField s Reg.grdCfg 0 25 16 * 1000000 ≤ s.now)
  | [] => false

/-- C2_AGE_EXPIRY (R176): the oldest waiting C2 request has been DELAYED for C2_AGE, so every waiting C3 request is refused and new ones
are until it is granted. -/
def execC2AgeExpiry (s : State) : Host.Outcome State Fault Refusal :=
  if c2AgeReached s then .next (s.grd.c3.foldl (fun t r => refuseLogic t r .c2Age) { s with grd := { s.grd with c2Aged := true, c3 := [] } })
  else .next s

/-- GRANTLOG_READ (0x0E02, R178): COUNT entries of the grant log from index FIRST; what is read counts as read. -/
def execGrantlogRead (c : Ctx) (first : BitVec 8) (count : BitVec 16) (s : State) : Host.Outcome State Fault Refusal :=
  .next (command s c 0x0E02 0x4 (.grantlogRead c first count) true (fun s =>
    if count.toNat = 0 ∨ 256 < count.toNat then refuse s c 0x0E02 .badParam 1
    else
      let picked := (List.range count.toNat).filterMap (fun i => grantAt s ((first.toNat + i) % 256))
      ok { s with grd := { s.grd with log := s.grd.log.map (fun e => if picked.contains e then { e with read := true } else e) } }
        c 0x0E02 (picked.flatMap grantBytes)))

end Sys2Proof.Machine
end

