-- ==== Sys2Proof/Machine/RegAccess.lean ====
section
/-! DEFINITION. Machine/RegAccess.lean: what stands before every register write: Husks, the device lock and its key sequence, and locked and
unmapped writes with their capture (R327, R328, R340 to R344). -/
namespace Sys2Proof.Machine
open Sys2Proof

/-- How a register access ends: it completed, it was a locked write (R343), or it met a Husk (R328). -/
inductive Access where
  | done | locked | husked
deriving DecidableEq, Repr

/-- SUP_FAULT_SRC.QUEUE and SESSION of a requester. -/
def sourceBits (r : Requester) : Nat := match r with
  | .stationCode => 0xFF * 65536 + 0xFF * 256
  | .command q x => q % 256 * 65536 + x % 256 * 256

/-- The first locked or unmapped write while both flags are 0 is captured with its kind (R344). -/
def captureWrite (s : State) (addr : Nat) (r : Requester) (kind : Nat) : State :=
  if field (reg s Reg.supFlags 0) 1 0 = 0 then
    setReg (setReg s Reg.supFaultAddr 0 (word addr)) Reg.supFaultSrc 0 (word (2147483648 + kind * 16777216 + sourceBits r))
  else s

/-- A locked write is discarded, captured, flagged, counted, and posted with its address and requester (R343). -/
def lockedWrite (s : State) (addr : Nat) (r : Requester) (kind : Nat) : State :=
  post (countUp (raise (captureWrite s addr r kind) Reg.supFlags 0 0) Reg.supSnapLockv 0) .lockViolation 0 addr (sourceBits r) kind

/-- A write to an undefined address is discarded, captured, flagged and counted (R327). -/
def unmappedWrite (s : State) (addr : Nat) (r : Requester) : State :=
  countUp (raise (captureWrite s addr r 4) Reg.supFlags 0 1) Reg.supSnapUnmapped 0

/-- SUP_LOCK.DEV_LOCK. -/
def devLocked (s : State) : Bool := bit (reg s Reg.supLock 0) 0

/-- SUP_LOCK.PERM. -/
def permLocked (s : State) : Bool := bit (reg s Reg.supLock 0) 1

/-- SUP_LOCK.KEY_STEP. -/
def keyStep (s : State) : Nat := regField s Reg.supLock 0 3 2

/-- Set SUP_LOCK.KEY_STEP, with who wrote the first key word and when. -/
def setKeyStep (s : State) (n : Nat) (by_ : Option Requester) : State :=
  let s1 := setRegField s Reg.supLock 0 3 2 n
  { s1 with sup := { s1.sup with keyBy := by_, keyAt := s1.now } }

/-- The key sequence fails: KEY_ERR, LOCK_KEY_ERROR, KEY_STEP 0 (R341). -/
def keyFail (s : State) (r : Requester) : State :=
  post (raise (setKeyStep s 0 none) Reg.supFlags 0 2) .lockKeyError 0 0 (sourceBits r) 0

/-- A write to the supervisor window that is no key word ends a key sequence in progress (R341). -/
def breakKey (s : State) (addr : Nat) (r : Requester) : State :=
  if addr / 65536 = 0 ∧ addr ≠ Reg.supLockKey ∧ keyStep s = 1 then keyFail s r else s

/-- A register write of `r` at `addr`: it ends in HUSKED at a held island, is a locked write under DEV_LOCK unless Table REG-5 lists it,
and else takes effect. -/
def guardWrite (s : State) (addr : Nat) (r : Requester) (listed : Bool) (body : State → State × Access) : State × Access :=
  if held s (addr / 65536) then (s, .husked)
  else
    let s1 := breakKey s addr r
    if devLocked s1 && !listed then (lockedWrite s1 addr r 0, .locked) else body s1

/-- A register action's row: the write, with what becomes of it answered by the register path (REG_WRITE) and not here. -/
def actionWrite (s : State) (addr : Nat) (r : Requester) (body : State → State) : State :=
  (guardWrite s addr r false (fun t => (body t, .done))).1

end Sys2Proof.Machine
end

