-- ==== Sys2Proof/Machine/HazelSample.lean ====
section
/-! DEFINITION. Machine/HazelSample.lean: one sample of a Hazel loop: inputs, modes, tracking, presets, blocks, injection and output
(R70 to R72, R81 to R91, R95, R96, R99). -/
namespace Sys2Proof.Machine
open Sys2Proof

/-! ## Inputs (R69, R70) -/

/-- A bound channel's signal from the sample latch, as Hazel reads it: forces included (R54, R69). -/
def channelSig (s : State) (c : Nat) : Int :=
  let e := readEntry s s.fch.sampleLatch c
  let m := modeOf s c
  let fs := cfgField s Reg.fchPulsecfg c 31 16
  if isCurrent m then rawToSig (field e.value 15 0)
  else if isDi m || isDo m then boolSig (bit e.value 0)
  else if m = 7 then freqSig e.value.toNat fs
  else if m = 6 then freqSig ((forceOf s (.input c)).getD (fe s c).freq) fs
  else 0

/-- A bound channel has VALID = 1 (R90). -/
def channelSigValid (s : State) (c : Nat) : Bool := (readEntry s s.fch.sampleLatch c).status.testBit 0

/-- The signals s0 to s3 and s7 of this sample; s5 and s6 from the program half (Table HZL-3). DESIGN CHOICE: s7 is 0 for a loop whose
OUT names no channel, for which the spec gives no driven value (R70; log 105). -/
def inputSigs (s : State) (l : Loop) : List Int :=
  let bind (sig : List Int) (i : Nat) : List Int :=
    let c := l.desc.inBind.getD i 0xFFFF
    putSig sig i (if c < 192 then channelSig s c else 0)
  let sig := [0, 1, 2, 3].foldl bind l.signals
  let s7 := match loopOutChannel l.desc with
    | some c => drivenSig s c
    | none => 0
  putSig (putSig (putSig sig 5 l.prog.ff) 6 l.prog.track) 7 s7

/-- A channel bound to s0 to s3 has VALID = 0 (R90). -/
def badInputs (s : State) (l : Loop) : Bool := (boundChannels l.desc).any (fun c => !channelSigValid s c)

/-! ## Modes and tracking (R83 to R88) -/

/-- The program half the loop applies at this sample (R81). -/
def takeProgram (l : Loop) : Loop :=
  match l.written with
  | some w => { l with prog := w, written := none, seqEcho := w.seq }
  | none => l

/-- The mode its owner requests (R83). -/
def modeRequest (l : Loop) : Nat := if operatorOwns l.desc 0 then l.opMode % 4 else (l.written.getD l.prog).modeReq % 4

/-- CTRL.TRACK_ON of the program half that the loop's last sample applied (R81, R88). -/
def trackOn (l : Loop) : Bool := l.prog.ctrl.testBit 0

/-- The outer loop of loop `n`. -/
def outerOf (s : State) (n : Nat) : Option Loop := (s.hz.loops.find? (fun p => decide (innerOf p.2.desc = some n))).map (·.2)

/-- An outer loop that lets its inner loop run in CAS (R84). -/
def feedsCascade (mode : Nat) (bad unplaced ownTrack : Bool) : Bool :=
  (decide (mode = 2) || decide (mode = 3)) && !bad && !unplaced && !ownTrack

/-- The actual mode a request gives: CAS falls back to AUTO while no outer loop feeds it (R84). -/
def actualMode (s : State) (n : Nat) (l : Loop) : Nat × Bool :=
  if modeRequest l ≠ 3 then (modeRequest l, false)
  else match outerOf s n with
    | some o => if feedsCascade o.mode o.badIn o.unplaced (trackOn o) then (3, false) else (2, true)
    | none => (2, true)

/-- The modes that loops start in: an INIT_MODE of CAS is a request, so a loop that nothing feeds starts as AUTO in fallback (R84). -/
def startModes (s : State) : State :=
  { s with hz := { s.hz with loops := s.hz.loops.map (fun p =>
      if p.2.mode = 3 then let (m, f) := actualMode s p.1 p.2; (p.1, { p.2 with mode := m, casFallback := f }) else p) } }

/-- PV: the loop's PUB_SIG. -/
def loopPv (sig : List Int) (l : Loop) : Int := sigAt sig l.desc.pubSig

/-- The set-point of its owner (R83). -/
def ownSp (l : Loop) : Int := if operatorOwns l.desc 1 then l.opSp else l.prog.sp

/-- s4 for the actual mode (Table HZL-7, R84); in fallback the last cascade value, where there is one (log
50), and for a loop that no loop names as inner its owner's value. -/
def setPoint (s : State) (n : Nat) (l : Loop) (sig : List Int) (mode : Nat) (fallback : Bool) : Int :=
  if mode = 3 then (match outerOf s n with
    | some o => o.mv
    | none => ownSp l)
  else if fallback && (outerOf s n).isSome then l.cascade.getD (ownSp l)
  else if mode = 1 ∧ l.spTrackPv then loopPv sig l
  else ownSp l

/-- What an outer loop tracks: its inner loop's s4, while that is not in actual CAS and does not return to it in this slot (R84, R85). -/
def innerTrack (s : State) (l : Loop) (mode : Nat) (bad : Bool) : Option Int :=
  match innerOf l.desc with
  | none => none
  | some i => match loop? s i with
    | none => none
    | some x =>
      if decide (modeRequest x = 3) && feedsCascade mode bad l.unplaced (trackOn l) then none else some (sigAt x.signals 4)

/-- The array does not drive the loop's demand, under rows 1 to 6 of Table ARC-3 (R88). -/
def loopOverridden (s : State) (l : Loop) : Bool :=
  match loopOutChannel l.desc with
  | some c => overridden s c
  | none => false

/-- A demand word as a signal. -/
def demandSig (s : State) (c : Nat) (w : Word) : Int := if isAo (modeOf s c) then rawToSig (field w 15 0) else boolSig (bit w 0)

/-- What a sample has settled before its blocks run. -/
structure SampleView where
  sig : List Int
  bad : Bool
  mode : Nat
  fallback : Bool
  /-- Tracked value, if the loop tracks. -/
  track : Option Int
  override : Bool
  /-- The loop drives its channel's STOP-behaviour value (R90 SAFE). -/
  stop : Option (Nat × Word)
  /-- R86 applies at this sample, with this target. -/
  enter : Option Int
  /-- The loop leaves tracking at this sample, in whatever mode (R86). -/
  left : Bool
  /-- MAN_HOLD, its entry at this sample, and the MV of MAN. -/
  hold : Bool
  holdEntry : Bool
  manMv : Int
deriving DecidableEq, Repr

/-- The MV last driven: for a loop that has driven none, the driven value (R86, R99). -/
def lastMv (l : Loop) (sig : List Int) : Int := if l.fromDriven then sigAt sig 7 else l.base

/-- Settle modes, tracking and presets of a sample (R83 to R90). DESIGN CHOICE: a matched loop in MAN enters MAN_HOLD again at its first sample
after a swap, or a warm restart with a new image, even if its hold had ended before (log 130). -/
def viewLoop (s : State) (n : Nat) (l : Loop) : SampleView :=
  let sig0 := inputSigs s l
  let bad := badInputs s l
  let (mode, fallback) := actualMode s n l
  let sig := putSig sig0 4 (setPoint s n l sig0 mode fallback)
  let safe := bad && l.desc.flags.testBit 4
  let stop := if safe then loopStopDemand s l else none
  let ovr := loopOverridden s l
  let inner := innerTrack s l mode bad
  let track : Option Int := match stop with
    | some (c, w) => some (demandSig s c w)
    | none => if trackOn l then some l.prog.track else if ovr then some (sigAt sig 7) else inner
  let auto := decide (mode = 2) || decide (mode = 3)
  let left := l.tracking && track.isNone
  let enter := auto && (decide (l.mode ≠ mode) || l.fresh || left || (l.badIn && !bad))
  let entry := decide (mode = 1) && (decide (l.mode ≠ 1) || l.fresh || left)
  let isNew := if operatorOwns l.desc 2 then l.mvWritten else decide (l.prog.seq ≠ l.seqAtEntry)
  let hold := decide (mode = 1) && (entry || (l.manHold && !isNew))
  { sig := sig, bad := bad, mode := mode, fallback := fallback, track := track
    override := ovr || (inner.isSome && !trackOn l), stop := stop
    enter := if enter then some (lastMv l sig) else none, left := left
    hold := hold, holdEntry := entry
    manMv := if hold then lastMv l sig else if operatorOwns l.desc 2 then l.opMv else l.prog.mvMan }

/-! ## Injection (R95) -/

/-- The loop samples an injection takes in all; 0 for a STEP that runs until it is stopped (Table HZL-10). -/
def injectionLength (g : Generator) : Nat :=
  let w := blockField g.icb 8 4
  match blockField g.icb 2 1 with
  | 2 => 2 * w
  | 3 => w * ((2 ^ blockField g.icb 6 1 - 1) * blockField g.icb 7 1)
  | _ => w

/-- The component a running generator adds at this sample (Table HZL-10). -/
def injectionValue (g : Generator) : Int :=
  let a := s16 (blockField g.icb 4 2)
  let w := blockField g.icb 8 4
  match blockField g.icb 2 1 with
  | 1 => a
  | 2 => if g.count < w then a else -a
  | 3 => if prbsBit (blockField g.icb 6 1) g.lfsr then a else -a
  | _ => chirpValue a g.phase

/-- The generator after this sample: the PRBS register shifts every WIDTH samples, and the CHIRP phase advances by an increment that
moves linearly from F0 to F1. -/
def injectionNext (g : Generator) : Generator :=
  let w := blockField g.icb 8 4
  let n := g.count + 1
  let shift := decide (blockField g.icb 2 1 = 3) && decide (0 < w) && decide (n % w = 0)
  let f0 := Int.ofNat (blockField g.icb 12 4)
  let f1 := Int.ofNat (blockField g.icb 16 4)
  let inc := f0 + (if w = 0 then 0 else roundDiv ((f1 - f0) * Int.ofNat g.count) w)
  { g with count := n, lfsr := if shift then prbsShift (blockField g.icb 6 1) g.lfsr else g.lfsr
           shifts := if shift then g.shifts + 1 else g.shifts, phase := ((Int.ofNat g.phase + inc) % 4294967296).toNat }

/-- The component injected into a loop at a point: 0 SP, 1 MV. -/
def injected (s : State) (n point : Nat) : Int :=
  match injecting s n with
  | some g => if blockField (gen s g).icb 3 1 = point then injectionValue (gen s g) else 0
  | none => 0

/-! ## The blocks (R71, R86, R89) -/

/-- The preset target of PID_BLK at this sample (R86, R91). -/
def pidTarget (v : SampleView) (applied : Bool) (st : List Int) : Option Int :=
  match v.track with
  | some t => some (toAcc t)
  | none =>
    if v.mode = 1 then some (toAcc v.manMv)
    else match v.enter with
      | some t => some (toAcc t)
      | none => if applied then some (stAt st 3) else none

/-- The value RAMP_BLK starts from at this sample: s4, or the PV as the signals `now` of this sample give it (R86 step 3). -/
def rampTarget (l : Loop) (v : SampleView) (now : List Int) : Option Int :=
  if v.track.isSome || v.enter.isSome || v.left then some (toAcc (if l.spTrackPv then loopPv now l else sigAt v.sig 4)) else none

/-- The chain of blocks as it runs: signals, states in slot order, and the flags of PID_BLK and RAMP_BLK. -/
structure ChainRun where
  sig : List Int
  states : List (List Int) := []
  limHi : Bool := false
  limLo : Bool := false
  frozen : Bool := false
  ramping : Bool := false
deriving DecidableEq, Repr

/-- Run the block of slot `i`. An injected set-point component joins after the ramp (R94). -/
def chainStep (l : Loop) (v : SampleView) (applied up down : Bool) (spInj : Int) (r : ChainRun) (q : BlockSlot × Nat) : ChainRun :=
  let b := q.1
  let i := q.2
  let st := l.states.getD i []
  let isPid := decide (i = l.desc.pidBlk)
  let isRamp := decide (i = l.desc.rampBlk)
  let x : PidDrive := if isPid then { up := up, down := down, preset := pidTarget v applied st } else {}
  let o := runBlock l.desc b r.sig st x (if isRamp then rampTarget l v r.sig else none)
  let sig := if isRamp then putSig o.sig b.out (sat16 (sigAt o.sig b.out + spInj)) else o.sig
  { sig := sig, states := r.states ++ [o.st]
    limHi := if isPid then o.limHi else r.limHi, limLo := if isPid then o.limLo else r.limLo
    frozen := if isPid then o.frozen else r.frozen, ramping := if isRamp then o.ramping else r.ramping }

/-- The loop has a set-point ramp. -/
def hasRamp (l : Loop) : Bool := decide (l.desc.rampBlk < (loopBlocks l.desc).length)

/-- Run the loop's blocks in slot order (R71). -/
def runChain (l : Loop) (v : SampleView) (applied up down : Bool) (spInj : Int) : ChainRun :=
  let sig := if hasRamp l then v.sig else putSig v.sig 4 (sat16 (sigAt v.sig 4 + spInj))
  ((loopBlocks l.desc).zipIdx).foldl (chainStep l v applied up down spInj) { sig := sig }

/-- The working set-point: after the ramp (R81). -/
def workingSp (l : Loop) (sig : List Int) : Int :=
  match (loopBlocks l.desc)[l.desc.rampBlk]? with
  | some b => sigAt sig b.out
  | none => sigAt sig 4

/-! ## The output (R69, R90) -/

/-- The output word a demand gives a channel, with CLAMP_LO (Table HZL-1). -/
def outputWord (s : State) (l : Loop) (c : Nat) (q : Int) : Option Word × Bool :=
  let m := modeOf s c
  if isAo m then
    let (raw, clamp) := sigToRaw q
    (some (word raw), clamp)
  else if isDo m then
    let w := l.desc.params.getD 0 0
    let on := if s16 (field w 31 16) ≤ q then true else if q ≤ s16 (field w 15 0) then false else bit (fe s c).writer 0
    (some (word (b2n on)), false)
  else (none, false)

/-- What one sample of a loop leaves: the loop, and the output it drives. -/
structure SampleOut where
  loop : Loop
  drive : Option (Nat × Word)
  badRise : Bool
deriving DecidableEq, Repr

/-- The word that a loop's MV gives its output channel, with CLAMP_LO. -/
def loopOutput (s : State) (l : Loop) (mv : Int) : Option (Nat × Word) × Bool :=
  match loopOutChannel l.desc with
  | none => (none, false)
  | some c => ((outputWord s l c mv).1.map (fun w => (c, w)), (outputWord s l c mv).2)

/-- COMPLIANCE and BUDGET_HELD as the loop's output channel returns them (R89). -/
def channelLimits (s : State) (l : Loop) : Bool × Bool :=
  match loopOutChannel l.desc with
  | some c => ((fe s c).compliance, decide ((fe s c).budget = .delayed))
  | none => (false, false)

/-- The channel's limits as a sample that runs no block shows them: no integrator increment is made, so none is discarded. -/
def idleLimits (s : State) (l : Loop) : Loop :=
  { l with compliance := (channelLimits s l).1, budgetHeld := (channelLimits s l).2, intFrozen := false }

/-- A loop in OFF is not executed: its channel keeps the last demand (Table HZL-7), and its s4 stays what its last sample used (R85). -/
def sampleOff (s : State) (l : Loop) (v : SampleView) : SampleOut :=
  let l1 := idleLimits s l
  { loop := { l1 with mode := 0, badIn := v.bad, manHold := false, casFallback := false, tracking := false, override := false
                      signals := putSig v.sig 4 (sigAt l.signals 4) }
    drive := none, badRise := v.bad && !l.badIn }

/-- What every sample of a loop in MAN, AUTO or CAS settles: its mode, MAN_HOLD, and what it tracks. -/
def settleSample (l : Loop) (v : SampleView) : Loop :=
  { l with mode := v.mode, casFallback := v.fallback, manHold := v.hold, seqAtEntry := if v.holdEntry then l.prog.seq else l.seqAtEntry
           mvWritten := l.mvWritten && !v.holdEntry, tracking := v.track.isSome, override := v.override, badIn := v.bad
           fresh := false, fromDriven := false }

/-- BAD_IN under HOLD: the MV is held and no block state updated (R90). DESIGN CHOICE: a loop that tracks meanwhile follows the tracked
value, which R88 gives without an exception for BAD_IN (log 106). -/
def sampleHold (s : State) (l : Loop) (v : SampleView) : SampleOut :=
  let mv := v.track.getD (lastMv l v.sig)
  { loop := { settleSample (idleLimits s l) v with signals := v.sig, base := mv, mv := mv }
    drive := if v.track.isSome then (loopOutput s l mv).1 else none, badRise := !l.badIn }

/-- A sample that runs the blocks. -/
def sampleRun (s : State) (n : Nat) (l : Loop) (v : SampleView) (applied : Bool) : SampleOut :=
  let (compl, held_) := channelLimits s l
  let r := runChain l v applied (compl || held_) l.clampLo (injected s n 0)
  let base := match v.track with
    | some t => t
    | none => if v.mode = 1 then v.manMv else sigAt r.sig l.desc.outSig
  let mv := sat16 (base + (if v.track.isSome then 0 else injected s n 1))
  let (out, clamp) := loopOutput s l mv
  { loop := { settleSample l v with
      signals := r.sig, states := r.states, base := base, mv := mv, spWork := workingSp l r.sig
      cascade := if v.mode = 3 then some (sigAt v.sig 4) else l.cascade
      limHi := r.limHi, limLo := r.limLo, clampLo := clamp, compliance := compl, budgetHeld := held_
      intFrozen := r.frozen, ramping := r.ramping }
    drive := v.stop.or out, badRise := v.bad && !l.badIn }

/-- One sample of loop `n`, with its program half applied (R70 to R91). -/
def sampleLoop (s : State) (n : Nat) (l : Loop) (applied : Bool) : SampleOut :=
  let v := viewLoop s n l
  if v.mode = 0 then sampleOff s l v
  else if v.bad && v.stop.isNone then sampleHold s l v
  else sampleRun s n l v applied

/-! ## Parameter changes (R91) -/

/-- What becomes of a PCOMMIT at the loop's sample: 0 none, 1 applied, 2 refused, 3 nothing was staged. -/
def takeParams (s : State) (l : Loop) : Loop × Nat :=
  if !l.pcommit then (l, 0)
  else if l.staged = [] then ({ l with pcommit := false }, 3)
  else
    let words := l.desc.params ++ List.replicate (88 - l.desc.params.length) 0
    let d := { l.desc with params := l.staged.foldl (fun ps p => ps.set p.1 p.2) words }
    let drivesDo := match loopOutChannel d with
      | some c => isDo (modeOf s c)
      | none => false
    if loopOk d && (!drivesDo || doLevelsOk d) then ({ l with desc := d, staged := [], pcommit := false }, 1)
    else ({ l with staged := [], pcommit := false }, 2)

end Sys2Proof.Machine
end

