-- ==== Sys2Proof/Machine/Commit.lean ====
section
/-! DEFINITION. Machine/Commit.lean: the commit order (R18 to R20) and what an acknowledged commit drives, and the sections of an image
that other islands than the executive take. -/
namespace Sys2Proof.Machine
open Sys2Proof

/-- The writer tag a commit travels under (Table PPD-3). -/
def commitTag : CommitKind → Nat
  | .task n => n
  | .hazel pod => 0x20 + pod - 1
  | _ => 0x30

/-- A payload source of a time-triggered frame, as a task end at `t` left it: kept with those less than 5 µs older than the present and the
newest before these (R366). -/
def commitSource (t : Nat) (s : State) (x : Nat × List Byte) : State :=
  let old := storeGet (fun _ => []) s.net.sources x.1
  let fresh := old.takeWhile (fun p => decide (s.now < p.1 + 5000))
  { s with net := { s.net with
    sources := storeSet (fun _ => []) s.net.sources x.1 ((t, x.2) :: fresh ++ (old.drop fresh.length).take 1) } }

/-- What an acknowledged commit, or one that needs no acknowledge, does (R18): outputs driven, payloads queued, groups shed. -/
def applyCommit (s : State) (c : Commit) : State :=
  match c.kind with
  | .task _ => c.sources.foldl (commitSource c.sent) (c.canPayloads.foldl commitPayload (drive s c.drives))
  | .hazel _ => drive s c.drives
  | .shed t mask => shedApply s t mask
  | .release mask gen => releaseApply s mask gen
  | .closeRecord => closeCommitted s

/-- The shed set as the commits sent so far leave it, those not yet acknowledged among them (R205, R207). -/
def committedShed (s : State) : Nat :=
  s.own.outstanding.foldl (fun m c => match c.kind with
    | .shed _ k => m ||| k
    | .release k _ => m - (m &&& k)
    | _ => m) s.gmu.shed

/-- The synchroscope's state as the commits sent so far leave it: CLOSING once its close record is sent (Table GMU-8). -/
def committedSync (s : State) : Nat :=
  if s.gmu.sync.state = 2 ∧ s.own.outstanding.any (fun c => decide (c.kind = .closeRecord)) then 3 else s.gmu.sync.state

/-- The GMU's state as its partner is to hold it (R208). -/
def gmuNow (s : State) : GmuCopy :=
  let y := s.gmu.sync
  { shed := committedShed s, trigs := (List.range 32).map (fun t => (t, (trig s t).st, (trig s t).firings))
    sync := { state := committedSync s, reason := y.reason, frame := y.frame, held := y.held, lockout := y.lockout
              closeCh := y.closeCh, since := y.since } }

/-- The GMU's state is copied as it stands. -/
def noteGmu (s : State) : State := { s with gmu := { s.gmu with copied := some (gmuNow s) } }

/-- What the GMU has changed without a shed, a release or a close goes to the partner: a trigger or the synchroscope armed, disarmed, fired
without groups, reset, aborted or closed (R208). -/
def copyGmuState (s : State) : State :=
  if !paired s || decide (s.gmu.copied = some (gmuNow s)) then s else copyChange (noteGmu s) 0x30 { gmu := some (gmuNow s) }

/-- The words of the GMU input area that a commit of its writer carries (R204). -/
def inputWords (s : State) : List (Nat × Word) := if s.gmu.input = [] then [] else (List.range 84).map (fun i => (4 * i, inputWord s (4 * i)))

/-- What a committing writer has changed, as the partner takes it (R271, R272): a task's outputs, variables and payloads, or the GMU's
state. Hazel's batches travel as HREC records. -/
def copyOf (s : State) (c : Commit) : CopyContent :=
  match c.kind with
  | .task n =>
    { outputs := c.drives, canPayloads := c.canPayloads, sources := c.sources.map (fun x => (c.sent, x)), fbs := s.exe.fbs
      vars := (s.exe.vars.filter (fun p => decide (p.2.writer = some n))).map (fun p => (p.1, p.2.value))
      gmuInput := if n = s.gmu.inputTask then inputWords s else [] }
  | .hazel _ => {}
  | _ => { gmu := some (gmuNow s) }

/-- A commit of the GMU leaves its copied state as it stands. -/
def noteKind (s : State) (k : CommitKind) : State :=
  match k with
  | .task _ => s
  | .hazel _ => s
  | _ => noteGmu s

/-- The entries and the COMMIT of a commit, with the claims where they have changed since they were last copied (R179); the last HREC of a
Hazel batch carries its commit bit instead (R271). -/
def sendCommit (s : State) (c : Commit) : State :=
  match c.kind with
  | .hazel _ => s
  | _ =>
    if claimsNow s = s.grd.copied then sendEntries (noteKind s c.kind) (commitTag c.kind) c.id (copyOf s c)
    else sendEntries (noteKind (noteCopied s) c.kind) (commitTag c.kind) c.id { copyOf s c with claims := some (claimsNow s) }

/-- A writer commits. In a pair the marker goes to the partner and its outputs wait for the acknowledge; else they are driven at
once (R18, R276). -/
def commit (s : State) (kind : CommitKind) (drives : List (Nat × Word)) (canPayloads : List (Nat × Nat × List Byte))
    (sources : List (Nat × List Byte) := []) : State :=
  let c : Commit := { id := s.own.nextCommit, kind := kind, drives := drives, canPayloads := canPayloads, sources := sources, sent := s.now }
  if paired s then
    sendCommit { s with own := { s.own with
      outstanding := s.own.outstanding ++ [c], nextCommit := (s.own.nextCommit + 1) % 4294967296 } } c
  else applyCommit s c

/-- Every commit that waits is driven, oldest first (R19). -/
def applyOutstanding (s : State) : State :=
  let cs := s.own.outstanding
  cs.foldl applyCommit { s with own := { s.own with outstanding := [] } }

/-- The loops of a failed pod move onto the remaining pods; those that fit nowhere drive their channels' STOP-behaviour values (R104). -/
def replaceLoops (s : State) (pod : Nat) (moving : List (Nat × Loop)) : State :=
  let away := moving.foldl (fun t q => modLoop t q.1 (fun l => { l with unplaced := true })) s
  let s1 := (placementUnits moving).foldl (placeUnit (podsInService s)) away
  let lost := moving.filter (fun q => ((loop? s1 q.1).map (·.unplaced)).getD false)
  if lost = [] then s1
  else
    let s2 := lost.foldl (fun t q => match loopStopDemand s1 q.2 with
      | some (c, w) => modLoop t q.1 (fun l => { l with base := demandSig s1 c w, mv := demandSig s1 c w })
      | none => t) (hzRaise s1 1)
    if owner s2 then commit s2 (.hazel pod) (lost.filterMap (fun q => loopStopDemand s1 q.2)) [] else s2

/-- Loops whose logical pod has no physical pod, after a pod failed with no spare left, are placed as at the failure (R31, R104; log 104). -/
def placeOrphans (s : State) : State :=
  let moving := s.hz.loops.filter (fun q => decide (podOf s q.2 = 0))
  if moving = [] then s else replaceLoops s 1 moving

/-- A network port (R346). -/
def netPort (s : State) (p : Nat) : NetPort := storeGet (fun _ => {}) s.net.ports p

/-- Replace a network port. -/
def setNetPort (s : State) (p : Nat) (x : NetPort) : State :=
  { s with net := { s.net with ports := storeSet (fun _ => {}) s.net.ports p x } }

/-- The NET section of an image: the pair's addresses, and the schedule of every port (R347, R366). -/
def installNet (s : State) (d : NetImage) : State :=
  let s1 := (List.range 4).foldl (fun t p => setNetPort t p { netPort t p with schedule := [], latePost := [] }) { s with net := { s.net with sources := [] } }
  let s2 := d.schedule.foldl (fun t e =>
    setNetPort t e.port { netPort t e.port with schedule := putStore (netPort t e.port).schedule (32 * e.index) (e.bytes.take 32) }) s1
  { s2 with net := { s2.net with domainPrefix := d.domainPrefix, cellAddress := d.cellAddress, cellPrefix := d.cellPrefix
                                 sectionBytes := d.sectionBytes } }

/-- The sections of an image that comes into force: the GMU, CAN and network settings only when the image has changed, the loops
always, matched with those in force at a warm change (R99, R101, R117). -/
def installSections (s : State) (im : Image) (changed keepLoops : Bool) : State :=
  let s1 := if changed then installNet (installCan (installGmu s im.gmu) im.can) im.net else s
  placeOrphans (startModes (installLoops s1 im keepLoops))

end Sys2Proof.Machine
end

