-- ==== Sys2Proof/Machine/Phasor.lean ====
section
/-! DEFINITION. Machine/Phasor.lean: phasors as numbers: an angle's cosine and sine, the angle of a point, the sequence phasors of a
three-phase set and the power of two phasors (R186, R187). Angles are in 10^-6 degree; results are cut to that unit (log 52). -/
namespace Sys2Proof.Machine
open Sys2Proof

/-- An angle wrapped into (−180°, +180°], in 10^-6 degree. -/
def wrapAngle (a : Int) : Int :=
  let r := a % 360000000
  if 180000000 < r then r - 360000000 else r

/-- The scale of a cosine or sine: 10^15. -/
def trigUnit : Nat := 1000000000000000

/-- `n` terms of the alternating series of sine or cosine from the term `t`, whose next has the factors k and k + 1 below it. -/
def trigSeries (square : Int) : Nat → Int → Nat → Int
  | 0, _, _ => 0
  | n + 1, t, k => t + trigSeries square n (-(t * square) / Int.ofNat (trigUnit * (k * (k + 1)))) (k + 2)

/-- The cosine and sine of an angle below 90°, times 10^15. -/
def cosSinFirst (a : Nat) : Int × Int :=
  let x : Int := Int.ofNat (a * 3141592653589793 / 180000000)
  let square := x * x / Int.ofNat trigUnit
  (trigSeries square 14 (Int.ofNat trigUnit) 1, trigSeries square 14 x 2)

/-- The cosine and sine of an angle, times 10^15. -/
def cosSin (a : Int) : Int × Int :=
  let r := (a % 360000000).toNat
  let (c, s) := cosSinFirst (r % 90000000)
  match r / 90000000 with
  | 0 => (c, s)
  | 1 => (-s, c)
  | 2 => (-c, -s)
  | _ => (s, -c)

/-- The largest angle below 90° whose tangent is at most y ÷ x, found bit by bit. -/
def angleFrom (x y : Int) : Nat → Nat → Nat
  | 0, t => t
  | n + 1, t =>
    let u := t + 2 ^ n
    let (c, s) := cosSinFirst u
    if u < 90000000 ∧ x * s ≤ y * c then angleFrom x y n u else angleFrom x y n t

/-- The angle of a point, in (−180°, +180°]; 0 for the origin. -/
def angleOf (x y : Int) : Int :=
  let first (x y : Int) : Int := Int.ofNat (angleFrom x y 27 0)
  wrapAngle (if 0 < x ∧ 0 ≤ y then first x y
    else if x ≤ 0 ∧ 0 < y then 90000000 + first y (-x)
    else if x < 0 then 180000000 + first (-x) (-y)
    else if y < 0 then 270000000 + first (-y) x
    else 0)

/-- A phasor turned by an angle. -/
def turned (p : Phasor) (a : Int) : Phasor := { p with angle := p.angle + a }

/-- The sum of phasors as a point, times 10^15. -/
def phasorSum (ps : List Phasor) : Int × Int :=
  ps.foldl (fun z p => (z.1 + Int.ofNat p.mag * (cosSin p.angle).1, z.2 + Int.ofNat p.mag * (cosSin p.angle).2)) (0, 0)

/-- The mean of three phasors. -/
def meanOfThree (a b c : Phasor) : Phasor :=
  let (x, y) := phasorSum [a, b, c]
  { mag := (roundDiv (Int.ofNat (isqrtFrom 127 0 (x * x + y * y).toNat)) (3 * trigUnit)).toNat, angle := angleOf x y }

/-- The sequence phasors of the phasors of three phases (R186). -/
def sequencesOf (a b c : Phasor) : Sequences :=
  { positive := meanOfThree a (turned b 120000000) (turned c (-120000000))
    negative := meanOfThree a (turned b (-120000000)) (turned c 120000000)
    zero := meanOfThree a b c }

/-- The active and reactive power of a voltage and a current phasor, times 10^15. -/
def phasorPower (u i : Phasor) : Int × Int :=
  let (c, s) := cosSin (u.angle - i.angle)
  (Int.ofNat (u.mag * i.mag) * c, Int.ofNat (u.mag * i.mag) * s)

end Sys2Proof.Machine
end

