-- ==== Sys2Proof/Machine/Seedbank.lean ====
section
/-! DEFINITION. Machine/Seedbank.lean: the event recorder: posting, flushes to the log, rate summaries, reading, the frozen window and
subscriptions (R393 to R407). -/
namespace Sys2Proof.Machine
open Sys2Proof

/-! ## Posting and the log (R394, R398, R399) -/

/-- EVENT_POST (R394, R479): an island posts an event, or finds its posting queue full. -/
def execEventPost (e : Event) (inst : BitVec 12) (ended full : Bool) (subject value1 value2 : Word) (extra : BitVec 64)
    (s : State) : Host.Outcome State Fault Refusal :=
  if full then .next (postDropped s (eventWindow e))
  else .next (postFull s e (if instanceKind e = 0 then 0 else inst.toNat) ended subject.toNat value1.toNat value2.toNat extra.toNat s.now)

/-- Distance of SEQ `a` after SEQ `b`, modulo 2^32. -/
def seqDist (a b : Nat) : Nat := (a + 4294967296 - b % 4294967296) % 4294967296

/-- The ring's records, in the order of their SEQ after `from_`. -/
def ringAfter (b : Seedbank) (from_ : Nat) : List Record :=
  ((b.ring.filterMap (fun p => p.2)).filter (fun r => seqAfter r.seq from_)).mergeSort
    (fun x y => decide (seqDist x.seq from_ ≤ seqDist y.seq from_))

/-- The records not yet in the log, up to the SEQ the flush runs to (R398). -/
def toFlush (b : Seedbank) : List Record := (ringAfter b b.logged).filter (fun r => !seqAfter r.seq b.flushTo)

/-- The block of a log position. -/
def logBlock (p : Nat) : Nat := p / 85 % 4096

/-- A record of the frozen window (R405). -/
def frozenHolds (b : Seedbank) (r : Record) : Bool :=
  match b.frozen with
  | some f => !seqAfter f.first r.seq && !seqAfter r.seq f.last
  | none => false

/-- What entering the block of position `p` would overwrite: the records of an earlier wrap. -/
def overwritten (b : Seedbank) (p : Nat) : List (Nat × Record) :=
  b.log.filter (fun x => decide (logBlock x.1 = logBlock p) && decide (x.1 / 85 ≠ p / 85))

/-- A flush in progress: the recorder, the records not logged by block with their first SEQ and count, and whether a frozen block stopped
it. -/
structure FlushAcc where
  b : Seedbank
  failed : List (Nat × Nat × Nat) := []
  stopped : Bool := false

/-- Note a record that its block did not take. -/
def noteFailed (xs : List (Nat × Nat × Nat)) (block seq : Nat) : List (Nat × Nat × Nat) :=
  if xs.any (fun x => x.1 == block) then xs.map (fun x => if x.1 = block then (x.1, x.2.1, x.2.2 + 1) else x)
  else xs ++ [(block, seq, 1)]

/-- The header of the block of position `p`, entered with record `seq`: MARK, FIRST_SEQ, how often the log has wrapped, and their CRC-32C
(R398). -/
def logHeader (p seq : Nat) : List Byte :=
  let h := leBytes 4 0x5A1B5342 ++ leBytes 4 seq ++ leBytes 4 (p / 348160)
  h ++ leBytes 4 (crc32c h)

/-- Write one record to the log (R398): a block with a frozen record stops the flush (R405); a block in `bad` takes nothing. -/
def flushOne (bad : List Nat) (a : FlushAcc) (r : Record) : FlushAcc :=
  let p := a.b.logAt
  let old := overwritten a.b p
  if a.stopped || old.any (fun x => frozenHolds a.b x.2) then { a with stopped := true }
  else
    let heads := if p % 85 = 0 then storeSet (fun _ => []) a.b.headers (logBlock p) (logHeader p r.seq) else a.b.headers
    let b1 := { a.b with log := a.b.log.filter (fun x => !old.contains x), logAt := p + 1, logged := r.seq, headers := heads }
    if bad.contains (logBlock p) then { b := b1, failed := noteFailed a.failed (logBlock p) r.seq, stopped := false }
    else { b := { b1 with log := b1.log ++ [(p, r)] }, failed := a.failed, stopped := false }

/-- Start a flush, or merge it into the one that runs (R398); while a Husk holds Gourd it stays due (R13; log 111). A run of lost SEQs is posted first (R399). -/
def startFlush (s : State) : State :=
  let s1 := match s.sbk.overrun with
    | some (f, n) => post { s with sbk := { s.sbk with overrun := none } } .sbkRingOverrun 0 f n 0
    | none => s
  let was := s1.sbk.flushing
  if held s1 4 && !was then { s1 with sbk := { s1.sbk with flushTo := s1.sbk.newest, flushDue := true } }
  else
    let s2 := { s1 with sbk := { s1.sbk with
      flushing := true, flushTo := s1.sbk.newest, flushDue := false, flushAt := s1.now } }
    if was then s2 else askWrite s2 0xB 4000 .seedbankFlush

/-- A flush starts: 1 s has passed since the last, a record of SEV 4 or above was written, or the power-fail warning stands (R398). -/
def flushStarts (s : State) : Bool := s.sbk.flushDue || decide (s.sbk.flushAt + 1000000000 ≤ s.now) || s.sup.pfw

/-- SBK_FLUSH (R398): every 1 s, at a record of SEV 4 or above, and at the warning. -/
def execSbkFlush (s : State) : Host.Outcome State Fault Refusal := .next (if flushStarts s then startFlush s else s)

/-- A block whose write failed with no spare left (R398). -/
def postLogFailure (s : State) (x : Nat × Nat × Nat) : State :=
  post { s with sbk := sbkRaise s.sbk 3 } .sbkLogWriteFailed 0 x.1 x.2.1 x.2.2

/-- Seconds left of a frozen window (R405, R407). -/
def frozenLeft (s : State) : Nat :=
  match s.sbk.frozen with
  | some f => (f.expires - s.now + 999999999) / 1000000000
  | none => 0

/-- The window is frozen by another session than `session`. -/
def frozenByOther (s : State) (session : Nat) : Bool :=
  match s.sbk.frozen with
  | some f => decide (f.session ≠ session)
  | none => false

/-- Freeze the window for a waiting SBK_SNAPSHOT: from the newest logged record back 32,768 records (R405). -/
def freezeFor (s : State) (x : Executing) : State :=
  if frozenByOther s x.session then conclude s x .busy (frozenLeft s) 0 []
  else
    let held := s.sbk.log.drop (s.sbk.log.length - 32768)
    let first := (held.head?.map (·.2.seq)).getD 0
    let last := (held.getLast?.map (·.2.seq)).getD 0
    let s1 := { s with sbk := { s.sbk with frozen := some { first := first, last := last, session := x.session, expires := s.now + 60000000000 } } }
    conclude s1 x .ok 0 0 (leBytes 4 first ++ leBytes 4 last)

/-- A block whose write failed is skipped: the log goes on in the next one (R398). -/
def skipBad (bad : List Nat) (b : Seedbank) : Seedbank :=
  if b.logAt % 85 ≠ 0 ∧ bad.contains (logBlock b.logAt) = true then { b with logAt := (b.logAt / 85 + 1) * 85 } else b

/-- The flush reaches its end: what it covered is in the log, and waiting snapshots freeze their window (R398, R405). -/
def finishFlush (s : State) (bad : List Nat) : State :=
  let a := (toFlush s.sbk).foldl (flushOne bad) { b := s.sbk }
  let s1 := endClaim { s with sbk := { skipBad bad a.b with flushing := false } } .seedbankFlush
  let s2 := a.failed.foldl postLogFailure s1
  (waiting s2 (fun x => decide (x.opcode = 0x0902))).foldl freezeFor s2

/-- SBK_FLUSH_DONE (R398): the granted flush completes; `failed` names the log blocks whose write failed with no spare left. -/
def execSbkFlushDone (failed : List Nat) (s : State) : Host.Outcome State Fault Refusal :=
  if s.sbk.flushing && (hasClaim s .seedbankFlush || s.sup.pfw) then .next (finishFlush s failed) else .next s

/-- SBK_RATE_SUMMARY (R402): 60 s after the last suppression of a code with PENDING above 0. -/
def execSbkRateSummary (e : Event) (s : State) : Host.Outcome State Fault Refusal :=
  let x := bucketOf s.sbk e
  if x.pending = 0 ∨ s.now < x.suppressedAt + 60000000000 then .next s
  else .next (post { s with sbk := setBucket s.sbk e { x with pending := 0 } } .sbkRateSummary 0 (eventCode e) x.pending 0)

/-! ## Start (R400) -/

/-- The highest SEQ in the log, 0 when it is empty. -/
def highestLogged (b : Seedbank) : Nat := (b.log.getLast?.map (·.2.seq)).getD 0

/-- The rescue of R400 and the first record of a start: the retained ring's records above the highest logged SEQ go to the log, and
numbering continues from there. -/
def sbkStart (s : State) (ringOk : Bool) (cause : Nat) : State :=
  let top := highestLogged s.sbk
  let rescued := if ringOk then ringAfter s.sbk top else []
  let a := rescued.foldl (flushOne []) { b := { s.sbk with frozen := none } }
  let seq := highestLogged a.b
  let b := { a.b with ring := [], newest := seq, logged := seq, overrun := none, postLost := [], flushing := false, flushTo := seq, flushDue := false }
  post { s with sbk := b } .sbkStart 0 seq rescued.length cause

/-! ## Reading (R403 to R406) -/

/-- Every record still held: the ring's, and the log's that the ring no longer holds (R403). -/
def heldRecords (b : Seedbank) : List Record :=
  let ring := b.ring.filterMap (fun p => p.2)
  ring ++ ((b.log.map (·.2)).filter (fun r => !(match storeGet (fun _ => none) b.ring (ringSlot r.seq) with
    | some o => decide (o.seq = r.seq)
    | none => false)))

/-- Up to `n` records from SEQ `first` on, in ascending SEQ (R403). -/
def recordsFrom (b : Seedbank) (first n : Nat) : List Record :=
  (((heldRecords b).filter (fun r => decide (r.seq = first) || seqAfter r.seq first)).mergeSort
    (fun x y => decide (seqDist x.seq first ≤ seqDist y.seq first))).take n

/-- SBK_READ (0x0901, R403). -/
def execSbkRead (c : Ctx) (first : BitVec 32) (count : BitVec 16) (s : State) : Host.Outcome State Fault Refusal :=
  .next (command s c 0x0901 0xB (.sbkRead c first count) true (fun s =>
    if count.toNat = 0 ∨ 1360 < count.toNat then refuse s c 0x0901 .badParam 4
    else ok s c 0x0901 ((recordsFrom s.sbk first.toNat count.toNat).flatMap recordBytes)))

/-- SBK_SNAPSHOT (0x0902, R405): the ring is flushed first; the reply follows the flush. -/
def execSbkSnapshot (c : Ctx) (s : State) : Host.Outcome State Fault Refusal :=
  .next (command s c 0x0902 0xB (.sbkSnapshot c) true (fun s =>
    if frozenByOther s c.session.val then refuse s c 0x0902 .busy (frozenLeft s)
    else await (startFlush s) c 0x0902 0xB 0))

/-- SBK_RELEASE (0x0903, R405). -/
def execSbkRelease (c : Ctx) (s : State) : Host.Outcome State Fault Refusal :=
  .next (command s c 0x0903 0xB (.sbkRelease c) true (fun s =>
    if frozenByOther s c.session.val then refuse s c 0x0903 .busy (frozenLeft s)
    else ok { s with sbk := { s.sbk with frozen := none } } c 0x0903 []))

/-- SBK_SNAPSHOT_EXPIRED (R405): the window's 60 s are over. -/
def execSbkSnapshotExpired (s : State) : Host.Outcome State Fault Refusal :=
  match s.sbk.frozen with
  | none => .next s
  | some f => if s.now < f.expires then .next s else .next (post { s with sbk := sbkRaise { s.sbk with frozen := none } 4 } .sbkSnapshotExpired 0 f.first f.last 0)

/-- End a session's subscription of an opcode (R316, R406). -/
def endSubs (s : State) (p : Subscription → Bool) : State := { s with cmd := { s.cmd with subs := s.cmd.subs.filter (fun x => !p x) } }

/-- Start a subscription: OK, with notifications under the same tag to follow, so FINAL is 0 (R309, R318). -/
def subscribe (s : State) (c : Ctx) (op param : Nat) : State :=
  let s1 := endSubs s (fun x => decide (x.session = c.session.val) && decide (x.queue = c.queue.val) && decide (x.opcode = op))
  let sub : Subscription := { queue := c.queue.val, session := c.session.val, tag := c.tag.toNat, opcode := op, param := param, lost := false, count := 0 }
  let r : Reply := { session := c.session.val, tag := c.tag.toNat, opcode := op, code := .ok, final := false }
  let c1 := match execOf s1 c with
    | some x => retire s1.cmd x
    | none => s1.cmd
  let closed := ((execOf s1 c).map (·.closed)).getD false
  { s1 with cmd := pushFor { c1 with subs := if closed then c1.subs else c1.subs ++ [sub] } (execOf s1 c) c.queue.val r }

/-- SBK_SUBSCRIBE (0x0904, R406): MIN_SEV 0xFF ends the subscription. -/
def execSbkSubscribe (c : Ctx) (minSev : BitVec 8) (s : State) : Host.Outcome State Fault Refusal :=
  .next (command s c 0x0904 0xB (.sbkSubscribe c minSev) true (fun s =>
    if minSev.toNat = 0xFF then
      ok (endSubs s (fun x => decide (x.session = c.session.val) && decide (x.queue = c.queue.val) && decide (x.opcode = 0x0904))) c 0x0904 []
    else if 5 < minSev.toNat then refuse s c 0x0904 .badParam 0
    else subscribe s c 0x0904 minSev.toNat))

/-! ## Registers (R396, R404, R407) -/

/-- A flush waits for Gourd, or for a frozen block. -/
def flushHeld (s : State) : Bool :=
  (s.sbk.flushing && !hasClaim s .seedbankFlush) || (overwritten s.sbk s.sbk.logAt).any (fun x => frozenHolds s.sbk x.2)

/-- SBK_STAT (R407). -/
def sbkStat (s : State) : Word :=
  let n := (ringAfter s.sbk s.sbk.logged).length
  fieldWord 23 16 (frozenLeft s) ||| fieldWord 10 10 (b2n s.sbk.frozen.isSome) ||| fieldWord 9 9 (b2n (flushHeld s))
    ||| fieldWord 8 8 (b2n s.sbk.flushing) ||| fieldWord 7 0 (n * 100 / 21845)

/-- SBK_SEQ_OLD: the oldest record held in the log. -/
def sbkSeqOld (s : State) : Nat := (s.sbk.log.head?.map (·.2.seq)).getD 0

/-- SBK_FROZEN_FIRST and SBK_FROZEN_LAST. -/
def sbkFrozen (s : State) (last : Bool) : Nat :=
  match s.sbk.frozen with
  | some f => if last then f.last else f.first
  | none => 0

/-- The event whose code table entry has this index: range × 256 + number. -/
def eventAt (i : Nat) : Option Event := allEvents.find? (fun e => decide (eventWindow e * 256 + eventNumber e = i))

/-- The first 16 characters of an event's name as bytes, NUL-padded. -/
def nameBytes (e : Event) : List Byte :=
  let cs := ((eventName e).toList.take 16).map (fun x => BitVec.ofNat 8 x.toNat)
  cs ++ List.replicate (16 - cs.length) 0

/-- A code table entry (Table SBK-3). -/
def codeEntry (s : State) (i : Nat) : List Byte :=
  match eventAt i with
  | none => List.replicate 32 0
  | some e =>
    let x := bucketOf s.sbk e
    leBytes 2 (eventCode e) ++ leBytes 1 (severity e)
      ++ leBytes 1 (1 + 2 * b2n (exempt e) + 4 * b2n (decide (instanceKind e ≠ 0)))
      ++ leBytes 1 x.rate ++ leBytes 1 x.burst ++ leBytes 2 (min x.pending 65535) ++ leBytes 4 x.lastSeq
      ++ leBytes 1 (instanceKind e) ++ leBytes 3 0 ++ nameBytes e

/-- The record of ring slot `k`, 48 zero bytes when none was written (R404). -/
def slotBytes (s : State) (k : Nat) : List Byte :=
  match storeGet (fun _ => none) s.sbk.ring k with
  | some r => recordBytes r
  | none => List.replicate 48 0

/-- A byte of the Seedbank window (R404, R407). -/
def sbkWindowByte (s : State) (a : Nat) : Byte :=
  if a < 48 * 21845 then (slotBytes s (a / 48)).getD (a % 48) 0
  else if 0x100000 ≤ a ∧ a < 0x120000 then (codeEntry s ((a - 0x100000) / 32)).getD (a % 32) 0
  else 0

/-- A window write of a word at `a`: RATE and BURST of a code that is not EXEMPT, and not 0 (R396). Every other byte keeps its value. -/
def sbkWindowWrite (s : State) (a : Nat) (v : Word) : State :=
  if a < 0x100000 ∨ 0x120000 ≤ a ∨ a % 32 ≠ 4 then s
  else match eventAt ((a - 0x100000) / 32) with
    | none => s
    | some e =>
      if exempt e || decide (field v 7 0 = 0) || decide (field v 15 8 = 0) then { s with sbk := sbkRaise s.sbk 5 }
      else
        let x := refill (bucketOf s.sbk e) s.now
        { s with sbk := setBucket s.sbk e { x with rate := field v 7 0, burst := field v 15 8, tokens := min x.tokens (field v 15 8 * 1000000000) } }

end Sys2Proof.Machine
end

