-- ==== Sys2Proof/Machine/GmuReport.lean ====
section
/-! DEFINITION. Machine/GmuReport.lean: what the 1 ms report of the GMU computes: validity, the reference frequency and ROCOF (R184 to
R190), the synchroscope's checks and the frame of a close (R194 to R196), the trigger conditions (R202), and the report block (R191). -/
namespace Sys2Proof.Machine
open Sys2Proof

/-! ## Settings and exact numbers -/

/-- FNOM in µHz (GMU_CFG.FNOM). -/
def fnom (s : State) : Nat := if cfgField s Reg.gmuCfg 0 0 0 = 1 then 60000000 else 50000000

/-- UNOM of set `k` (Table GMU-12). -/
def unomWord (s : State) (k : Nat) : Word := word (gmuField s (0x900 + 8 * k) 4)

/-- 2^149, the scale of `f32Scaled`. -/
def f32Unit : Nat := 2 ^ 149

/-- A magnitude in mV is at least `permille` thousandths of UNOM; never while UNOM is not a finite number above 0 (log 52). -/
def atLeastUnom (s : State) (k mag permille : Nat) : Bool :=
  f32Positive (unomWord s k) && decide (f32Scaled (unomWord s k) * permille ≤ Int.ofNat (mag * f32Unit))

/-- A signed 16-bit field. -/
def signed16 (n : Nat) : Int := (BitVec.ofNat 16 n).toInt

/-- A binary32 word's value times 2^149 for a comparison of sums: an infinity counts as more than any sum, and a NaN as the free
value `nan` (log 3). -/
def f32Value (nan : Word) (w : Word) : Int :=
  if f32Finite w then f32Scaled w
  else if field w 22 0 = 0 then (if bit w 31 then -(2 ^ 400) else 2 ^ 400)
  else nan.toInt * 2 ^ 149

/-! ## Validity (R183, R184, R192) -/

/-- Reports in one cycle of a set's frequency, FNOM for a frequency out of range. -/
def cycleReports (s : State) (freq : Nat) : Nat :=
  let f := if fnom s * 8 ≤ freq * 10 ∧ freq * 10 ≤ fnom s * 12 then freq else fnom s
  (1000000000 + f - 1) / f

/-- The reports in the longest window, 10 min: counts of reports stop there. -/
def longestWindow : Nat := 600000

/-- The window of `n` reports of an input is full and free of an over-range sample. -/
def windowOk (s : State) (i n : Nat) : Bool :=
  decide (n ≤ s.gmu.sinceRestart) && decide (n ≤ storeGet (fun _ => longestWindow) s.gmu.sinceOver i)

/-- The voltage inputs of set `k`; its current inputs are 8 above (Table GMU-1). -/
def setInputs (k : Nat) : List Nat := match k with
  | 0 => [0, 1, 2] | 1 => [3, 4, 5] | 2 => [6] | _ => [7]

/-- The set whose frequency an input's phasor uses: its own, or that of the voltage set of the same place. -/
def setOfInput (i : Nat) : Nat :=
  let j := i % 8
  if j < 3 then 0 else if j < 6 then 1 else j - 4

/-- The measurement of set `k`. -/
def setOf (s : State) (k : Nat) : SetMeasure := s.gmu.sets[k]?.getD {}

/-- An input's phasor is valid. -/
def phasorOk (s : State) (i : Nat) : Bool := windowOk s i (cycleReports s (setOf s (setOfInput i)).freq)

/-- A set's frequency is valid (R184). -/
def freqOk (s : State) (k : Nat) : Bool :=
  let x := setOf s k
  (setInputs k).all (phasorOk s) && atLeastUnom s k x.mag 100 && decide (fnom s * 8 ≤ x.freq * 10) && decide (x.freq * 10 ≤ fnom s * 12)

/-- The set of the reference frequency: VS0 while it is valid, else VS1 (R185). -/
def refSource (s : State) : Option Nat := if freqOk s 0 then some 0 else if freqOk s 1 then some 1 else none

/-- The voltage set of a power point (Table GMU-2). -/
def powerVoltage (s : State) (p : Nat) : Nat := if p = 1 ∧ cfgField s Reg.gmuCfg 0 6 6 = 1 then 0 else p

/-- A power point's P1 and Q1 are valid: their phasors are. -/
def powerOk (s : State) (p : Nat) : Bool :=
  (setInputs (powerVoltage s p)).all (phasorOk s) && (setInputs p).all (fun i => phasorOk s (8 + i))

/-- Over-range samples restart the windows of their inputs (R183). -/
def takeOverrange (s : State) (m : BitVec 16) : State :=
  let put (x : Store Nat) (i : Nat) : Store Nat :=
    storeSet (fun _ => longestWindow) x i (if m.getLsbD i then 0 else min longestWindow (storeGet (fun _ => longestWindow) x i + 1))
  raiseIf (decide (m ≠ 0)) { s with gmu := { s.gmu with sinceOver := (List.range 16).foldl put s.gmu.sinceOver } } Reg.gmuFlags 0 0

/-! ## ROCOF and slopes (R190, R194) -/

/-- The least-squares slope of values 1 ms apart, newest first, per second (log 52: rounded to a whole unit). -/
def slope (newestFirst : List Int) : Int :=
  let n := newestFirst.length
  let num := (newestFirst.zipIdx.map (fun p => (Int.ofNat n - 1 - 2 * Int.ofNat p.2) * p.1)).sum
  if n < 2 then 0 else roundDiv (6000 * num) (n * (n * n - 1))

/-- ROCOF over the last `w` reference frequencies: valid only if every one was, from the same source (R190). -/
def rocofOver (s : State) (w : Nat) : Option Int :=
  let xs := s.gmu.history.take w
  let ys := xs.filterMap id
  if xs.length = w ∧ ys.length = w ∧ 2 ≤ w then
    if ys.all (fun p => decide (p.2 = (ys.headD (0, 0)).2)) then some (slope (ys.map (fun p => Int.ofNat p.1))) else none
  else none

/-- ROCOF of the fast or the slow window. -/
def rocof (s : State) (slow : Bool) : Option Int :=
  rocofOver s (if slow then cfgField s Reg.gmuRocofCfg 0 24 16 else cfgField s Reg.gmuRocofCfg 0 8 0)

/-! ## The synchroscope (R194 to R199) -/

/-- The slip, angle, voltage difference and slip acceleration of the report (R194). -/
def syncMeasure (s : State) : State :=
  let r := syncField s 1 1 % 4
  let i := syncField s 2 1 % 4
  let a := setOf s r
  let b := setOf s i
  let rOk := freqOk s r
  let iOk := freqOk s i
  let slip := Int.ofNat b.freq - Int.ofNat a.freq
  let slips := if rOk && iOk then (slip :: s.gmu.sync.slips).take 100 else []
  let u := unomWord s r
  let du := if f32Positive u then roundDiv ((Int.ofNat b.mag - Int.ofNat a.mag) * 1000 * Int.ofNat f32Unit) (f32Scaled u).toNat else 0
  modSync s (fun y => { y with
    slip := slip, slips := slips, acc := slope slips, du := du
    dphi := wrapAngle (b.angle - a.angle - 10000 * signed16 (syncField s 4 2)) })

/-- A side is live: its frequency valid and its voltage at least U_MIN (Table GMU-7). -/
def sideLive (s : State) (k : Nat) : Bool := freqOk s k && atLeastUnom s k (setOf s k).mag (syncField s 20 2)

/-- Every check of Table GMU-7 passes; the acceleration needs its 100 ms. -/
def syncChecks (s : State) : Bool :=
  let y := s.gmu.sync
  sideLive s (syncField s 1 1 % 4) && sideLive s (syncField s 2 1 % 4)
    && decide (y.slip.natAbs ≤ 1000 * syncField s 12 2) && (decide (0 < y.slip) || decide (syncField s 3 1 % 2 = 0))
    && decide (y.du.natAbs ≤ 100 * syncField s 16 2) && decide (y.slips.length = 100) && decide (y.acc.natAbs ≤ 1000 * syncField s 18 2)

/-- SYNC_OK: the checks, and in CHECK mode |Δφ| ≤ WIN (R194). -/
def syncOk (s : State) : Bool :=
  syncChecks s && (syncAuto s || decide (s.gmu.sync.dphi.natAbs ≤ 10000 * syncField s 14 2))

/-- The reference is a dead bus while the incoming side is live, with DEAD_BUS = 1 (R198). -/
def deadReference (s : State) : Bool :=
  let r := syncField s 1 1 % 4
  syncDeadBus s && (setInputs r).all (phasorOk s) && f32Positive (unomWord s r) && !atLeastUnom s r (setOf s r).mag 100
    && sideLive s (syncField s 2 1 % 4)

/-- The angle predicted at contact for a command driven at `t`, in 10^-24 degree (R195). -/
def theta (s : State) (centre t : Nat) : Int :=
  let y := s.gmu.sync
  let T : Int := Int.ofNat t + 1000 * Int.ofNat (syncField s 8 4) - Int.ofNat centre
  y.dphi * 1000000000000000000 + 360000000000 * y.slip * T + 180 * y.acc * T * T

/-- The coupler frames from 50 µs to 2 ms after the report. -/
def closeFrames (s : State) : List Nat :=
  let first := (s.now + 50000 + 4999) / 5000
  (List.range ((s.now + 2000000) / 5000 + 1 - first)).map (fun k => 5000 * (first + k))

/-- The frame at which |θ| is smallest, with whether it is the last of the interval, if |θ| there is within WIN (R196). -/
def closeFrame (s : State) (centre : Nat) : Option Nat :=
  let fs := closeFrames s
  let best := fs.foldl (fun (b : Option (Nat × Nat)) f =>
    let v := (theta s centre f).natAbs
    match b with
    | some (_, w) => if v < w then some (f, v) else b
    | none => some (f, v)) none
  match best with
  | some (f, v) => if some f ≠ fs.getLast? ∧ v ≤ syncField s 14 2 * 10000 * 1000000000000000000 then some f else none
  | none => none

/-- No close record waits for the partner's acknowledge. -/
def closeUncommitted (s : State) : Bool := s.own.outstanding.all (fun c => decide (c.kind ≠ .closeRecord))

/-- A held close at a report: it aborts when a side has lost VALID (R197), and commits its frame when every check passes (R196). -/
def syncHeld (s : State) (centre : Nat) (refWas incWas : Bool) : State :=
  let y := s.gmu.sync
  if y.state ≠ 2 ∨ !y.held ∨ !owner s then s
  else if (refWas && !y.refValid && !y.deadRef) || (incWas && !y.incValid) then syncAbort s 2
  else if syncAuto s && syncChecks s && closeGranted s && closeUncommitted s then
    match closeFrame s centre with
    | some f => commit (modSync s (fun y => { y with frame := f })) .closeRecord [] []
    | none => s
  else s

/-- Write MEAS_TCLOSE (Table GMU-6). -/
def setMeasClose (s : State) (us : Nat) : State := modSync (setGmuBytes s 0x818 (leBytes 4 us)) (fun y => { y with measuring := none, agreed := none })

/-- After a timed close: the moment at which |Δφ| < 1° and |ΔU| < 1 % hold and stay for 20 ms, or 0 after 2 × T_CLOSE (R199). -/
def measureClose (s : State) (centre : Nat) : State :=
  let y := s.gmu.sync
  match y.measuring with
  | none => s
  | some f =>
    let late (t : Nat) : Bool := decide (f + 2000 * syncField s 8 4 < t)
    if decide (y.dphi.natAbs < 1000000) && decide (y.du.natAbs < 10000) then
      let t := y.agreed.getD centre
      if late t then setMeasClose s 0
      else if t + 20000000 ≤ centre then setMeasClose s ((t - f) / 1000)
      else modSync s (fun y => { y with agreed := some t })
    else if late centre then setMeasClose s 0
    else modSync s (fun y => { y with agreed := none })

/-- The synchroscope's part of a report. -/
def syncReport (s : State) (centre : Nat) : State :=
  let refWas := s.gmu.sync.refValid
  let incWas := s.gmu.sync.incValid
  let s1 := syncMeasure s
  let s2 := modSync s1 (fun y => { y with
    ok := syncOk s1, deadRef := deadReference s1
    refValid := freqOk s1 (syncField s1 1 1 % 4), incValid := freqOk s1 (syncField s1 2 1 % 4) })
  measureClose (syncHeld s2 centre refWas incWas) centre

/-! ## Trigger conditions (R202) -/

/-- THR of a trigger, i32. -/
def trigThr (s : State) (t : Nat) : Int := (word (trigField s t 4 4)).toInt

/-- The condition of a report-based trigger; none while its quantity is not valid, or for a kind that no report evaluates. -/
def reportCondition (s : State) (t : Nat) : Option Bool :=
  let src := trigField s t 2 2 % 4
  let r := rocof s (decide (trigField s t 1 1 / 4 % 2 = 1))
  match trigField s t 0 1 with
  | 1 => if freqOk s src then some (decide (Int.ofNat (setOf s src).freq < 1000 * trigThr s t)) else none
  | 2 => r.map (fun x => decide (x < -(1000 * trigThr s t)))
  | 3 => match refSource s, r with
    | some k, some x => some (decide (x < 0)
        && decide (1000 * Int.ofNat (setOf s k).freq + x * Int.ofNat (trigField s t 12 2) < 1000000 * trigThr s t))
    | _, _ => none
  | 5 => if powerOk s src then some (decide (1000 * trigThr s t < (s.gmu.power[src]?.getD (0, 0)).1)) else none
  | _ => none

/-- The report-based triggers are evaluated, a new evaluation for the selection of groups (R202, R203). -/
def trigReport (s : State) : State :=
  (List.range 32).foldl (fun t n =>
    if trigField t n 0 1 = 4 ∨ trigField t n 0 1 = 0 then t else setTrig t n (trigStep (trig t n) (reportCondition t n) 1000))
    { s with gmu := { s.gmu with chosen := 0 } }

/-! ## The report block (Table GMU-5) -/

/-- VALID of the report block. -/
def validBits (s : State) : Nat :=
  let put (i : Nat) (b : Bool) : Nat := b2n b * 2 ^ i
  ((List.range 4).map (fun k => put k (freqOk s k))).sum + put 4 (rocof s false).isSome + put 5 (rocof s true).isSome
    + ((List.range 16).map (fun i => put (6 + i) (phasorOk s i))).sum + ((List.range 4).map (fun p => put (22 + p) (powerOk s p))).sum

/-- A quotient as the four bytes of a binary32 number. -/
def f32Bytes (num : Int) (den : Nat) : List Byte := leBytes 4 (f32OfRat num den).toNat

/-- Triggers in FIRED, as a bitmap. -/
def firedBits (s : State) : Nat := ((List.range 32).map (fun t => if (trig s t).st = 3 then 2 ^ t else 0)).sum

/-- The report block of the measurements the state holds. -/
def reportBlock (s : State) (centre : Nat) : List Byte :=
  let y := s.gmu.sync
  leBytes 8 (centre / 1000000000) ++ leBytes 4 (centre % 1000000000) ++ leBytes 4 s.gmu.reportSeq ++ leBytes 4 s.gmu.valid
    ++ (List.range 4).flatMap (fun k => f32Bytes (setOf s k).freq 1000000)
    ++ f32Bytes s.gmu.rocofFast 1000000 ++ f32Bytes s.gmu.rocofSlow 1000000
    ++ (List.range 4).flatMap (fun k => f32Bytes (setOf s k).mag 1000 ++ f32Bytes (setOf s k).angle 1000000)
    ++ (List.range 4).flatMap (fun p => f32Bytes (s.gmu.power[p]?.getD (0, 0)).1 1000 ++ f32Bytes (s.gmu.power[p]?.getD (0, 0)).2 1000)
    ++ leBytes 1 y.state ++ leBytes 1 y.reason ++ leBytes 2 (b2n y.ok + 2 * b2n y.deadRef)
    ++ f32Bytes y.slip 1000000 ++ f32Bytes y.dphi 1000000 ++ f32Bytes y.du 10000
    ++ leBytes 8 s.gmu.shed ++ leBytes 4 (firedBits s)
    ++ (List.range 16).flatMap (fun i => f32Bytes (Int.ofNat (s.gmu.rms[i]?.getD 0)) 1000) ++ leBytes 56 0

/-- Notify the subscriptions of GMU_SUBSCRIBE whose EVERY reports have come (Table CMD-12). -/
def notifyReports (s : State) : State :=
  let due (x : Subscription) : Bool := decide (x.opcode = 0x0701) && decide (x.param ≤ x.count + 1)
  let xs := s.cmd.subs.filter due
  let (c, lost) := notifyAll s.cmd xs (fun _ => s.gmu.block)
  let c1 := { c with subs := c.subs.map (fun x =>
    if x.opcode = 0x0701 then { x with count := if x.param ≤ x.count + 1 then 0 else x.count + 1 } else x) }
  flagNotifyLost { s with cmd := c1 } lost

/-- GMU_INSCALE applied to a value at the terminals: µV to mV or mA primary, rounded to a whole unit (R183; log 52). -/
def scaleInput (s : State) (i mag : Nat) : Nat :=
  (roundDiv (Int.ofNat mag * f32Scaled (cfg s Reg.gmuInscale i)) (1000 * f32Unit)).toNat

/-- An input's phasor as GMU_INSCALE and GMU_INDELAY prepare it, at its set's frequency: a delay of d turns it back by 360° × f × d (R183;
log 52). -/
def prepare (s : State) (freqs : List Nat) (i : Nat) (p : Phasor) : Phasor :=
  { mag := scaleInput s i p.mag
    angle := wrapAngle (p.angle - roundDiv (360 * Int.ofNat (freqs.getD (setOfInput i) 0) * (cfg s Reg.gmuIndelay i).toInt) 1000000000) }

/-- The voltage set of a power point is wired three-wire (R181). -/
def threeWire (s : State) (p : Nat) : Bool :=
  match powerVoltage s p with
  | 0 => decide (cfgField s Reg.gmuCfg 0 4 4 = 1)
  | 1 => decide (cfgField s Reg.gmuCfg 0 5 5 = 1)
  | _ => false

/-- The prepared phasors of a report, GV0 to GI7 (R183, R186). -/
def phasorsOf (s : State) (m : GmuMeasure) : List Phasor := (List.range 16).map (fun i => prepare s m.freqs i (m.phasors.getD i {}))

/-- The sequence phasors of VS0, VS1, IS0 and IS1 from the phasors of their inputs (R186). -/
def allSequences (ps : List Phasor) : List Sequences :=
  [0, 3, 8, 11].map (fun i => sequencesOf (ps.getD i {}) (ps.getD (i + 1) {}) (ps.getD (i + 2) {}))

/-- P1 and Q1 of a power point in W and var, from the phasors (R187): a three-phase point takes its positive sequences, three times their
power in the four-wire connection and by two wattmeters on U12 and U32 with I1 and I3 in the three-wire one; in a positive sequence U32 leads
U12 by 60° and I3 leads I1 by 120°. -/
def fundamentalPower (s : State) (ps : List Phasor) (qs : List Sequences) (p : Nat) : Int × Int :=
  let watts (x y : Int) : Int × Int := (roundDiv x (1000000 * trigUnit), roundDiv y (1000000 * trigUnit))
  if p < 2 then
    let u := (qs.getD (powerVoltage s p) {}).positive
    let i := (qs.getD (2 + p) {}).positive
    let w1 := phasorPower u i
    if threeWire s p then
      let w2 := phasorPower (turned u 60000000) (turned i 120000000)
      watts (w1.1 + w2.1) (w1.2 + w2.2)
    else watts (3 * w1.1) (3 * w1.2)
  else
    let w := phasorPower (ps.getD (4 + p) {}) (ps.getD (12 + p) {})
    watts w.1 w.2

/-- The reference frequency and the sequence magnitudes of a report join the windows of Table GMU-4 (R185, R188). -/
def addToWindows (s : State) (f : Option (Nat × Nat)) : State :=
  let seq (k : Nat) : Sequences := s.gmu.sequences.getD k {}
  { s with gmu := { s.gmu with
    freqSum := s.gmu.freqSum + (f.getD (0, 0)).1, freqCount := s.gmu.freqCount + b2n f.isSome
    unbalance := [0, 1].map (fun k => let x := s.gmu.unbalance.getD k (0, 0)
                                      (x.1 + (seq k).negative.mag, x.2 + (seq k).positive.mag)) } }

/-- The measured values of a report enter the state, with the reference frequency and the counts of filled windows: a three-phase set shows
its positive sequence, a single voltage its own phasor, and the power points follow from them (R184, R186, R187). -/
def takeMeasure (s : State) (m : GmuMeasure) : State :=
  let ps := phasorsOf s m
  let qs := allSequences ps
  let phasorOf (k : Nat) : Phasor := if k < 2 then (qs.getD k {}).positive else ps.getD (k + 4) {}
  let s1 := takeOverrange { s with gmu := { s.gmu with
    sets := (List.range 4).map (fun k => { freq := m.freqs.getD k 0, mag := (phasorOf k).mag, angle := (phasorOf k).angle })
    phasors := ps, sequences := qs, power := (List.range 4).map (fundamentalPower s ps qs), reportSeq := (s.gmu.reportSeq + 1) % 4294967296
    sinceRestart := min longestWindow (s.gmu.sinceRestart + 1) } } m.overrange
  let f := (refSource s1).map (fun k => ((setOf s1 k).freq, k))
  let s2 := addToWindows { s1 with gmu := { s1.gmu with history := (f :: s1.gmu.history).take 500, refLost := if f.isNone then 15 else s1.gmu.refLost } } f
  { s2 with gmu := { s2.gmu with rocofFast := (rocof s2 false).getD 0, rocofSlow := (rocof s2 true).getD 0, valid := validBits s2 } }

/-- A whole 1 ms report: the block is written to state memory at the base that the image declares (R191). -/
def gmuReport (s : State) (m : GmuMeasure) : State :=
  let s1 := trigReport (syncReport (takeMeasure s m) m.centre)
  let block := reportBlock s1 m.centre
  let s2 := { s1 with gmu := { s1.gmu with block := block } }
  copyGmuState (notifyReports (match s2.exe.image with
    | some im => areaPut s2 im.reportBase block
    | none => s2))

/-- The end of a 10 min interval that `now` has reached: a multiple of 600 s of module time (R188). -/
def minutesEnd (s : State) : Nat := s.now / 600000000000 * 600000000000

/-- Module time has taken an accepted step: every window restarts on the new time (the 10 min window counts from the last multiple of 600 s of
that time), the aggregates are invalid until theirs have filled again, and a running synchroscope aborts (R192). -/
def gmuTimeStep (s : State) : State :=
  let stale (x : PqResult) : PqResult := { x with valid := 0 }
  let s1 := modSync { s with gmu := { s.gmu with
    sinceRestart := 0, history := [], valid := 0, refLost := 0
    sum150 := {}, sumMinutes := {}, freqSum := 0, freqCount := 0, unbalance := []
    pq10 := stale s.gmu.pq10, pq150 := stale s.gmu.pq150, pqMinutes := { stale s.gmu.pqMinutes with time := minutesEnd s }, pqFreq := stale s.gmu.pqFreq } }
    (fun y => { y with slips := [] })
  let s2 := post (gmuRaise s1 7) .gmuTimeRestart 0 0 0 0
  if 1 ≤ s2.gmu.sync.state ∧ s2.gmu.sync.state ≤ 3 then syncAbort s2 3 else s2

end Sys2Proof.Machine
end

