-- ==== Sys2Proof/Machine/WalnutOps.lean ====
section
/-! DEFINITION. Machine/WalnutOps.lean: Walnut's parameter set, its pairs, speeds, functions and outputs, the island state, and the
merging of the partner's safety message (R215 to R252), as functions of the Walnut record. -/
namespace Sys2Proof.Machine
open Sys2Proof

/-! ## The safety CRC and the parameter set (R245, R250) -/

/-- One byte step of the safety CRC: the polynomial 0xF4AC_FB13 reflected. -/
def safetyCrcBits : Nat → Nat → Nat
  | 0, c => c
  | n + 1, c => safetyCrcBits n (if c % 2 = 1 then (c / 2) ^^^ 0xC8DF352F else c / 2)

/-- The safety CRC of R245 over the given bytes (log 32: the polynomial governs, not the quoted check value). -/
def safetyCrc (bs : List Byte) : Nat :=
  (bs.foldl (fun c b => safetyCrcBits 8 (c ^^^ b.toNat)) 0xFFFFFFFF) ^^^ 0xFFFFFFFF

/-- The safety CRC word of a parameter set holds (R250). -/
def setCrcOk (bs : List Byte) : Bool :=
  decide (bs.length = 256) && decide (blockField bs 252 4 = safetyCrc (bs.take 252))

/-- A field of the set that governs; a set that is absent reads as zeros, so it defines no function. -/
def wparam (w : Walnut) (a n : Nat) : Nat := blockField w.governing a n

/-- MODE of pair `k` (Table WNT-2). -/
def pairMode (w : Walnut) (k : Nat) : Nat := wparam w (32 + 4 * k) 1
/-- SRC of pair `k`: fed from the test sources. -/
def pairSrc (w : Walnut) (k : Nat) : Bool := decide (wparam w (33 + 4 * k) 1 = 1)
/-- T_DISC of pair `k`, ns. -/
def pairDiscNs (w : Walnut) (k : Nat) : Nat := wparam w (35 + 4 * k) 1 * 10000000
/-- LIGHT of output `q`. -/
def lightOf (w : Walnut) (q : Nat) : Nat := wparam w (65 + 4 * q) 1
/-- PPR of speed input `i`. -/
def pprOf (w : Walnut) (i : Nat) : Nat := wparam w (96 + 4 * i) 2
/-- SPD_TOL of speed input `i`, %. -/
def spdTol (w : Walnut) (i : Nat) : Nat := wparam w (98 + 4 * i) 1
/-- Byte offset of function `f`'s entry. -/
def funcBase (f : Nat) : Nat := 104 + 16 * f
/-- KIND of function `f`: 0 none, 1 STO, 2 SS1. -/
def kindOf (w : Walnut) (f : Nat) : Nat := wparam w (funcBase f) 1
/-- DEMAND pairs of function `f`. -/
def demandMask (w : Walnut) (f : Nat) : Nat := wparam w (funcBase f + 1) 1
/-- STO_MASK of function `f`. -/
def stoMask (w : Walnut) (f : Nat) : Nat := wparam w (funcBase f + 2) 1
/-- QS_MASK of function `f`, which applies to kind SS1. -/
def qsMask (w : Walnut) (f : Nat) : Nat := if kindOf w f = 2 then wparam w (funcBase f + 3) 1 else 0
/-- SPEED of function `f`: the speed input an SS1-r function uses. -/
def speedOf (w : Walnut) (f : Nat) : Option Nat :=
  if kindOf w f = 2 then (match wparam w (funcBase f + 4) 1 with | 1 => some 0 | 2 => some 1 | _ => none) else none

/-- Function `f` is defined (KIND is STO or SS1). -/
def defined (w : Walnut) (f : Nat) : Bool := decide (kindOf w f = 1) || decide (kindOf w f = 2)

/-- Function `f` names output `q`. -/
def names (w : Walnut) (f q : Nat) : Bool := defined w f && ((stoMask w f).testBit q || (qsMask w f).testBit q)

/-- A RESET pair is defined (R238). -/
def hasReset (w : Walnut) : Bool := (List.range 6).any (fun k => decide (pairMode w k = 3))

/-! ## Records of the island -/

/-- Pair `k`. -/
def spair (w : Walnut) (k : Nat) : SafePair := storeGet (fun _ => {}) w.pairs k
/-- Replace pair `k`. -/
def setSpair (w : Walnut) (k : Nat) (x : SafePair) : Walnut := { w with pairs := storeSet (fun _ => {}) w.pairs k x }
/-- Speed input `i`. -/
def speed (w : Walnut) (i : Nat) : SpeedInput := storeGet (fun _ => {}) w.speeds i
/-- Replace speed input `i`. -/
def setSpeed (w : Walnut) (i : Nat) (x : SpeedInput) : Walnut := { w with speeds := storeSet (fun _ => {}) w.speeds i x }
/-- Function `f`. -/
def sfunc (w : Walnut) (f : Nat) : SafeFunc := storeGet (fun _ => {}) w.funcs f
/-- Replace function `f`. -/
def setSfunc (w : Walnut) (f : Nat) (x : SafeFunc) : Walnut := { w with funcs := storeSet (fun _ => {}) w.funcs f x }
/-- Output `q`. -/
def sout (w : Walnut) (q : Nat) : SafeOutput := storeGet (fun _ => {}) w.outs q
/-- Replace output `q`. -/
def setSout (w : Walnut) (q : Nat) (x : SafeOutput) : Walnut := { w with outs := storeSet (fun _ => {}) w.outs q x }

/-- Every function, or every pair, or every output. -/
def eight : List Nat := List.range 8

/-- An output has a latched fault (R225, R227). -/
def outFault (w : Walnut) (q : Nat) : Bool :=
  let x := sout w q
  x.short || x.mismatchHigh || x.mismatchLow || x.testFail

/-- The supply group of output `q` is OK, and its group series element is closed. -/
def groupReady (w : Walnut) (q : Nat) : Bool :=
  if q < 4 then w.supply0 && !w.groupOpen0 else w.supply1 && !w.groupOpen1

/-- A set of eight bits as a number. -/
def bits8 (p : Nat → Bool) : Nat := (eight.map (fun k => b2n (p k) * 2 ^ k)).sum

/-- `m` without the bits of `x`, both below 2^8. -/
def bitsWithout (m x : Nat) : Nat := bits8 (fun k => m.testBit k && !x.testBit k)

/-! ## Island states (R237) -/

/-- Island state (Table WNT-7a): 0 NORMAL, 1 DEGRADED, 2 SAFE_STOPPED, 3 LOCKED. `stops` holds the causes present, and 16 + c for a
cause that has gone while functions still stop. -/
def islandState (w : Walnut) : Nat :=
  if w.stops ≠ [] then 2 else if w.locked then 3 else if w.halfA && w.halfB then 0 else 1

/-- How restrictive an island state is, in the order of R237. -/
def islandRank (i : Nat) : Nat := if i = 2 then 3 else if i = 3 then 2 else i

/-- Elements whose driver is a failed half's and holds its last state until the healthy half takes it over: half A drives the even
switches and the odd series elements, half B the others (R213, R232). With both halves failed none is held. -/
def heldSwitches (w : Walnut) : Nat :=
  if w.drivesTaken || w.halfA == w.halfB then 0 else if w.halfA then 0xAA else 0x55
/-- The series elements held as `heldSwitches`. -/
def heldSeries (w : Walnut) : Nat :=
  if w.drivesTaken || w.halfA == w.halfB then 0 else if w.halfA then 0x55 else 0xAA

/-- Drive the two elements of every output by the commands `m` that the halves agree on, but those that a failed half holds (R213,
R230, R232). -/
def driveElements (w : Walnut) (m : Nat) : Walnut :=
  let mix (held was : Nat) : Nat := bits8 (fun q => if held.testBit q then was.testBit q else m.testBit q)
  { w with cmd := m, switchOn := mix (heldSwitches w) w.switchOn, seriesOn := mix (heldSeries w) w.seriesOn }

/-- A test of an output ends before its result: it starts again 100 ms later (R229). -/
def abandonTest (now : Nat) (x : SafeOutput) : SafeOutput :=
  let again := now + 100000000
  if x.test = 0 then x
  else if x.test = 3 then { x with test := 0, lightDue := again } else { x with test := 0, due := again }

/-- A function enters STOPPED with a cause, and a latched fault if it is one (Table WNT-5). A STOPPED function keeps its cause. -/
def stopFunc (w : Walnut) (f cause : Nat) (fault : Bool) : Walnut :=
  let x := sfunc w f
  if x.st = 2 then setSfunc w f { x with fault := x.fault || fault }
  else setSfunc w f { x with st := 2, cause := cause, fault := x.fault || fault }

/-- Stop the functions that satisfy a test. -/
def stopFuncs (w : Walnut) (p : Nat → Bool) (cause : Nat) (fault : Bool) : Walnut :=
  eight.foldl (fun w f => if defined w f && p f then stopFunc w f cause fault else w) w

/-- The higher speed estimate of function `f`'s speed input, rpm (R235). -/
def speedNow (w : Walnut) (f : Nat) : Nat := ((speedOf w f).map (fun i => (speed w i).rpm)).getD 0

/-- A demand on function `f`: STO to STOPPED, SS1 to STOPPING with t0 and v0; STOPPING and STOPPED stay (R234 to R236). -/
def demandFunc (w : Walnut) (now f cause : Nat) : Walnut :=
  let x := sfunc w f
  if x.st ≠ 0 then w
  else if kindOf w f = 2 then setSfunc w f { x with st := 1, cause := cause, t0 := now, v0 := speedNow w f }
  else setSfunc w f { x with st := 2, cause := cause }

/-- Every function is STOPPED. -/
def allStopped (w : Walnut) : Bool := eight.all (fun f => decide ((sfunc w f).st = 2))

/-- A copy of the parameter set that verifies, half A's first (R250). -/
def confirmedSet (w : Walnut) : List Byte :=
  if setCrcOk w.copyA1 then w.copyA1 else if setCrcOk w.copyA2 then w.copyA2
  else if setCrcOk w.copyB1 then w.copyB1 else if setCrcOk w.copyB2 then w.copyB2 else []

/-- CRC of the confirmed set, 0 while there is none (WNT_PARAM). -/
def confirmedCrc (w : Walnut) : Nat := blockField (confirmedSet w) 252 4

/-- SAFE_STOPPED is left for LOCKED once no cause is present and every function is STOPPED; a confirmed set then governs (R237, R251). -/
def settle (w : Walnut) : Walnut :=
  if w.stops ≠ [] ∧ w.stops.all (fun c => decide (16 ≤ c)) ∧ allStopped w then
    let c := w.stops.getLastD 16 - 16
    { w with stops := [], locked := true, cause := c
             governing := if w.stops.contains 20 then confirmedSet w else w.governing }
  else w

/-- The island enters SAFE_STOPPED with a cause, and every function executes its stop under R237. -/
def enterSafeStop (w : Walnut) (now cause : Nat) : Walnut :=
  let w1 := { w with stops := if w.stops.contains cause then w.stops else w.stops ++ [cause], cause := cause }
  eight.foldl (fun w f =>
    if !defined w f then w
    else if cause = 3 ∨ cause = 6 then demandFunc w now f 9
    else stopFunc w f 9 false) w1

/-- A cause of SAFE_STOPPED has gone; LOCKED will show `shown` (R251). -/
def dropCause (w : Walnut) (cause shown : Nat) : Walnut :=
  if w.stops.contains cause then settle { w with stops := w.stops.erase cause ++ [16 + shown] } else w

/-! ## Safe inputs (R218 to R220) -/

/-- A pair has latched DISCREPANCY or CROSS_CIRCUIT. -/
def pairFault (w : Walnut) (k : Nat) : Bool := (spair w k).discrepancy || (spair w k).cross

/-- A pair takes the latched states of its two channels (R218, R219): `even` and `odd`, at `now`, with T_DISC in ns. -/
def pairStep (x : SafePair) (even odd : Bool) (now disc : Nat) : SafePair :=
  match even, odd with
  | false, false => { x with on := false, bothOff := true, firstOn := none }
  | true, true =>
    if x.on then x
    else if x.bothOff then
      let within := (x.firstOn.map (fun t => decide (now - t ≤ disc))).getD true
      if (x.discrepancy || x.cross) && !within then { x with bothOff := false, firstOn := none }
      else { x with on := true, bothOff := false, firstOn := none, discrepancy := false, cross := false }
    else { x with firstOn := none }
  | _, _ =>
    if x.on then { x with on := false, bothOff := false, firstOn := some now }
    else if x.bothOff ∧ x.firstOn = none then { x with firstOn := some now }
    else x

/-- Channels of pair `k` in an image of SI00–SI15. -/
def pairBits (img k : Nat) : Bool × Bool := (img.testBit (2 * k), img.testBit (2 * k + 1))

/-- The DUAL pairs take the image; a RESET pair goes by its odd channel alone, so a CROSS_CIRCUIT of it clears as the input comes on
after it has been off (R218, R220; log 116). -/
def stepPairs (w : Walnut) (now : Nat) : Walnut :=
  eight.foldl (fun w k =>
    let (e, o) := pairBits w.image k
    if pairMode w k = 1 then setSpair w k (pairStep (spair w k) e o now (pairDiscNs w k))
    else if pairMode w k = 3 then setSpair w k (pairStep (spair w k) o o now 0)
    else w) w

/-- A demand pair of function `f` is OFF. -/
def demandOff (w : Walnut) (f : Nat) : Bool := eight.any (fun k => (demandMask w f).testBit k && !(spair w k).on)

/-- The cause that a demand of function `f` shows: a latched CROSS_CIRCUIT, then DISCREPANCY, else DEMAND (WNT_FCAUSE). -/
def demandCause (w : Walnut) (f : Nat) : Nat :=
  let on (p : SafePair → Bool) := eight.any (fun k => (demandMask w f).testBit k && p (spair w k))
  if on (·.cross) then 3 else if on (·.discrepancy) then 2 else 1

/-! ## Speed (R221, R222, R235) -/

/-- τ of a half: the larger of its last complete period and the time since its last pulse, ns; none before a period is complete. -/
def tauOf (last period : Option Nat) (now : Nat) : Option Nat :=
  match last, period with
  | some l, some p => some (max p (now - l))
  | _, _ => none

/-- The τ of each healthy half; a failed half counts as none. -/
def taus (w : Walnut) (i now : Nat) : List (Option Nat) :=
  let x := speed w i
  (if w.halfA then [tauOf x.lastA x.periodA now] else []) ++ (if w.halfB then [tauOf x.lastB x.periodB now] else [])

/-- The smallest τ: that of the higher estimate. None stands for standstill. -/
def tauHigh (ts : List (Option Nat)) : Option Nat :=
  (ts.filterMap id).foldl (fun (m : Option Nat) t => some ((m.map (min t)).getD t)) none

/-- v ≤ `v` rpm, exactly, for a half whose τ is `t`: 60 ÷ (PPR × τ) rpm with τ in s. -/
def speedLe (ppr : Nat) (t : Option Nat) (v : Nat) : Bool :=
  match t with
  | none => true
  | some τ => decide (60000000000 ≤ v * ppr * τ)

/-- The estimates agree: they differ by no more than SPD_TOL % of the higher one or 2 rpm, whichever is larger (R222). -/
def speedsAgree (ppr tol : Nat) (a b : Option Nat) : Bool :=
  match a, b with
  | none, none => true
  | some a, none => decide (60000000000 ≤ 2 * ppr * a)
  | none, some b => decide (60000000000 ≤ 2 * ppr * b)
  | some a, some b =>
    let lo := min a b
    let hi := max a b
    decide (100 * (hi - lo) ≤ tol * hi) || decide (60000000000 * (hi - lo) ≤ 2 * ppr * lo * hi)

/-- The estimate in rpm, saturating at 65,535; its rounding is a free bit (log 3). -/
def rpmOf (ppr : Nat) (t : Option Nat) (up : Bool) : Nat :=
  match t with
  | none => 0
  | some τ =>
    let d := ppr * τ
    if d = 0 then 65535 else min 65535 (60000000000 / d + b2n (up && decide (60000000000 % d ≠ 0)))

/-- The speed inputs at a cycle start: the estimates, and SPEED_DISC clearing after 100 ms of agreement (R221, R222). -/
def stepSpeeds (w : Walnut) (now : Nat) (up : Bool) : Walnut :=
  [0, 1].foldl (fun w i =>
    if pairMode w (6 + i) ≠ 2 then w
    else
      let x := speed w i
      let ts := taus w i now
      let agree := match ts with
        | [a, b] => speedsAgree (pprOf w i) (spdTol w i) a b
        | _ => true
      let since := if agree then some (x.agreed.getD now) else none
      let clear := (since.map (fun t => decide (100000000 ≤ now - t))).getD false
      setSpeed w i { x with rpm := rpmOf (pprOf w i) (tauHigh ts) up, agreed := since, disc := x.disc && !clear }) w

/-- A STOPPING function has reached T_MAX (R235). -/
def tmaxReached (w : Walnut) (f now : Nat) : Bool :=
  decide ((sfunc w f).st = 1) && decide (wparam w (funcBase f + 8) 2 * 10000000 ≤ now - (sfunc w f).t0)

/-- The envelope v_lim of a STOPPING function at `now`, in 10^-9 rpm (R235). -/
def vLimit (w : Walnut) (f now : Nat) : Nat :=
  let x := sfunc w f
  let b := funcBase f
  let delay := wparam w (b + 6) 2 * 1000000
  let start := (x.v0 + wparam w (b + 12) 2) * 1000000000
  let dt := now - x.t0
  if dt ≤ delay then start else max (start - wparam w (b + 10) 2 * (dt - delay)) (wparam w (b + 14) 2 * 1000000000)

/-- Speed input `i`'s higher estimate is above the limit, in 10^-9 rpm. -/
def aboveLimit (w : Walnut) (i now limit : Nat) : Bool :=
  match tauHigh (taus w i now) with
  | none => false
  | some τ => decide (limit * (pprOf w i * τ) < 60000000000 * 1000000000)

/-- T_MAX ends the stop: cause T_MAX for an SS1-r function, while SS1-t keeps the cause that started it (R235). -/
def endByTmax (w : Walnut) (f : Nat) : Walnut :=
  stopFunc w f (if (speedOf w f).isSome then 7 else (sfunc w f).cause) false

/-- A STOPPING function at a cycle: standstill, T_MAX, or an envelope violation, whichever comes first (R235). -/
def stepStopping (w : Walnut) (f now : Nat) : Walnut :=
  match speedOf w f with
  | some i =>
    if (taus w i now).all (fun t => speedLe (pprOf w i) t (wparam w (funcBase f + 14) 2)) then
      stopFunc w f (sfunc w f).cause false
    else if tmaxReached w f now then endByTmax w f
    else if aboveLimit w i now (vLimit w f now) then
      let w1 := stopFunc w f 5 true
      setSfunc w1 f { sfunc w1 f with ramp := true }
    else w
  | none => if tmaxReached w f now then endByTmax w f else w

/-- The supply of an output that function `f` names is missing (R226). -/
def supplyGone (w : Walnut) (f : Nat) : Bool :=
  eight.any (fun q => names w f q && !(if q < 4 then w.supply0 else w.supply1))

/-- One function's evaluation in a cycle (R233 to R236). -/
def stepFunc (w : Walnut) (now f : Nat) : Walnut :=
  if !defined w f then w
  else
    let w1 := if supplyGone w f then stopFunc w f 8 false else w
    let w2 := if !demandOff w1 f then w1
      else if demandCause w1 f = 1 then demandFunc w1 now f 1
      else if (sfunc w1 f).st = 2 then w1 else stopFunc w1 f (demandCause w1 f) true
    if (sfunc w2 f).st = 1 then stepStopping w2 f now else w2

/-- Every function is evaluated on the image; a stop that is complete lets SAFE_STOPPED end. -/
def stepFuncs (w : Walnut) (now : Nat) : Walnut := settle (eight.foldl (fun w f => stepFunc w now f) w)

/-! ## Outputs (R224, R233) -/

/-- A defined function allows output `q` (Table WNT-6). -/
def allows (w : Walnut) (f q : Nat) : Bool :=
  match (sfunc w f).st with
  | 0 => true
  | 1 => (stoMask w f).testBit q
  | _ => false

/-- Output `q` is commanded on (R224, log 33), for an island shown in state `island`. -/
def outputOn (w : Walnut) (island q : Nat) : Bool :=
  decide (island < 2) && eight.any (fun f => names w f q) && eight.all (fun f => !names w f q || allows w f q)
    && !outFault w q && groupReady w q

/-- The eight output commands. -/
def outputsOn (w : Walnut) (island : Nat) : Nat := bits8 (outputOn w island)

/-- Outputs are opened at once: their commands and elements go off, and a running test ends (R225, R229). -/
def openOutputs (w : Walnut) (now m : Nat) : Walnut :=
  let w1 := driveElements { w with evaluated := bitsWithout w.evaluated m } (bitsWithout w.cmd m)
  { w1 with outs := w1.outs.map (fun p => if m.testBit p.1 then (p.1, abandonTest now p.2) else p) }

/-- A fault is latched on an output, and every function that names it stops with a fault (R225). -/
def faultOutput (w : Walnut) (now q : Nat) (x : SafeOutput) : Walnut :=
  openOutputs (stopFuncs (setSout w q x) (fun f => names w f q) 4 true) now (2 ^ q)

/-- Outputs under a dark test that a demand to de-energise meets. -/
def metDark (w : Walnut) : Nat :=
  bits8 (fun q => (decide ((sout w q).test = 1) || decide ((sout w q).test = 2)) && !outputOn w (islandState w) q)

/-- A light test that a demand meets ends (R229). -/
def endLight (before w : Walnut) (now : Nat) (p : Nat × SafeOutput) : Nat × SafeOutput :=
  let met := decide (p.2.test = 3)
    && eight.any (fun f => names w f p.1 && decide ((sfunc before f).st = 0) && decide ((sfunc w f).st ≠ 0))
  (p.1, if met then abandonTest now p.2 else p.2)

/-- Tests that a demand meets end (Table WNT-4): an output under a dark test that is to go off stays off, both its elements opened at once,
and so is one under a light test whose function has left ENABLED. -/
def endMetTests (before w : Walnut) (now : Nat) : Walnut :=
  let w1 := if metDark w = 0 then w else openOutputs w now (metDark w)
  { w1 with outs := w1.outs.map (endLight before w1 now) }

/-- T_TEST of output `q`, ns (Table WNT-11). -/
def testNs (w : Walnut) (q : Nat) : Nat := wparam w (64 + 4 * q) 1 * 100000000

/-- The tests of a module that takes the field start 1 s later (Table WNT-4). -/
def scheduleTests (w : Walnut) (now : Nat) : Walnut :=
  eight.foldl (fun w q => setSout w q { sout w q with due := now + 1000000000, lightDue := now + 1000000000 }) w

/-! ## Faults that stand (R225, R239) -/

/-- The fault of function `f` that still stands: a latch of R219, R220 or R222 on what it uses, or an output fault (R239). -/
def faultStands (w : Walnut) (f : Nat) : Bool :=
  eight.any (fun k => (demandMask w f).testBit k && pairFault w k)
    || ((speedOf w f).map (fun i => (speed w i).disc)).getD false
    || eight.any (fun q => names w f q && (outFault w q || (if q < 4 then w.groupOpen0 else w.groupOpen1)))

/-- Output faults clear, and open group series elements reclose, where the readback agrees with an off command (R225). -/
def clearOutputs (w : Walnut) : Walnut :=
  let off (q : Nat) : Bool := !w.readback.testBit q && !w.cmd.testBit q
  let w1 := eight.foldl (fun w q =>
    if outFault w q && off q then setSout w q { sout w q with short := false, mismatchHigh := false, mismatchLow := false, testFail := false }
    else w) w
  { w1 with groupOpen0 := w1.groupOpen0 && !([0, 1, 2, 3].all off), groupOpen1 := w1.groupOpen1 && !([4, 5, 6, 7].all off) }

/-! ## The safety message (R245, R246) -/

/-- The island's own safety message (Table WNT-9), `rpm` and times as the last cycle left them. -/
def safetyMessage (w : Walnut) (now : Nat) : List Byte :=
  let t := now
  let f8 (f : Nat) : Byte := BitVec.ofNat 8 ((sfunc w f).st + 4 * b2n (sfunc w f).fault + 16 * (sfunc w f).cause)
  let left : Nat := match w.failTime with
    | some ft => if islandState w = 1 then wparam w 24 4 * 60 - (now - ft) / 1000000000 else 0xFFFFFFFF
    | none => 0xFFFFFFFF
  let body := leBytes 4 w.seqOut ++ leBytes 4 (t / 1000000000) ++ leBytes 4 (t % 1000000000)
    ++ leBytes 1 (islandState w + 8 * w.cause)
    ++ leBytes 1 (b2n w.halfA + 2 * b2n w.halfB + 4 * b2n w.halfB + 8 * b2n w.resetJammed) ++ leBytes 2 0
    ++ eight.map f8 ++ leBytes 2 w.image
    ++ leBytes 1 (bits8 (fun k => (spair w k).on)) ++ leBytes 1 (bits8 (pairFault w))
    ++ leBytes 1 w.cmd ++ leBytes 1 (bits8 (outFault w))
    ++ leBytes 1 (b2n (speed w 0).disc + 2 * b2n (speed w 1).disc) ++ leBytes 1 (b2n w.groupOpen0 + 2 * b2n w.groupOpen1)
    ++ (eight.map (fun f => leBytes 4 ((t - (sfunc w f).t0) / 1000) ++ leBytes 2 (sfunc w f).v0 ++ leBytes 2 0)).flatten
    ++ leBytes 4 left ++ leBytes 4 (confirmedCrc w) ++ leBytes 2 (speed w 0).rpm ++ leBytes 2 (speed w 1).rpm
    ++ leBytes 16 0
  body ++ leBytes 4 (safetyCrc body)

/-- A field of the last accepted message. -/
def msgField (m : List Byte) (a n : Nat) : Nat := blockField m a n

/-- Module time of a message at its latch, ns: its SEC is the low 32 bits (R245). -/
def msgTime (m : List Byte) (now : Nat) : Nat :=
  (now / 1000000000 / 4294967296 * 4294967296 + msgField m 4 4) * 1000000000 + msgField m 8 4

/-- One function merged with the partner's: the more restrictive state, every fault, and the earlier t0 with its v0 (R246). -/
def mergeFunc (m : List Byte) (now f : Nat) (x : SafeFunc) : SafeFunc :=
  let b := msgField m (16 + f) 1
  let st := b % 4
  let t0 := msgTime m now - 1000 * msgField m (32 + 8 * f) 4
  let v0 := msgField m (36 + 8 * f) 2
  let fault := x.fault || decide (b / 4 % 2 = 1)
  if st ≤ 2 ∧ x.st < st then { x with st := st, cause := b / 16, fault := fault, t0 := t0, v0 := v0 }
  else if st = 1 ∧ x.st = 1 ∧ t0 < x.t0 then { x with fault := fault, t0 := t0, v0 := v0 }
  else { x with fault := fault }

/-- The island merged with a message (R246): functions, latched faults and island state. A fault of an output comes with no kind and
is held as a short (log 34). -/
def mergeMessage (w : Walnut) (m : List Byte) (now : Nat) : Walnut :=
  let w1 := eight.foldl (fun w f => setSfunc w f (mergeFunc m now f (sfunc w f))) w
  let w2 := eight.foldl (fun w k =>
    if (msgField m 27 1).testBit k && !pairFault w k then
      setSpair w k { spair w k with discrepancy := true, on := false, bothOff := false } else w) w1
  let w3 := eight.foldl (fun w q =>
    if (msgField m 29 1).testBit q && !outFault w q then setSout w q { sout w q with short := true } else w) w2
  let w4 := [0, 1].foldl (fun w i =>
    if (msgField m 30 1).testBit i then setSpeed w i { speed w i with disc := true } else w) w3
  let w5 := { w4 with groupOpen0 := w4.groupOpen0 || (msgField m 31 1).testBit 0
                      groupOpen1 := w4.groupOpen1 || (msgField m 31 1).testBit 1 }
  let island := msgField m 12 1 % 8
  let cause := msgField m 12 1 / 8
  if island = 2 ∧ w5.stops = [] then { w5 with stops := [16 + cause], cause := cause }
  else if island = 3 ∧ w5.stops = [] ∧ w5.locked = false then { w5 with locked := true, cause := cause }
  else w5

/-- What a module that does not own the field goes by: its own evaluation merged with the last accepted message (R246). -/
def mergedView (w : Walnut) (now : Nat) : Walnut := if w.lastMsg = [] then w else mergeMessage w w.lastMsg now

/-- The island state shown: the more restrictive of the own and, for a merged view, the message's (R246). -/
def shownIsland (v : Walnut) (m : List Byte) : Nat :=
  let own := islandState v
  let other := if m = [] then 0 else msgField m 12 1 % 8
  if islandRank own < islandRank other ∧ other ≤ 3 then other else own

/-- A more restrictive state that a new message shows and the one before did not is taken over, so that a later message alone does
not release it (R247). -/
def takeStops (w : Walnut) (m : List Byte) (now : Nat) : Walnut :=
  eight.foldl (fun w f =>
    let old := if w.lastMsg = [] then 0 else msgField w.lastMsg (16 + f) 1 % 4
    if old < msgField m (16 + f) 1 % 4 then setSfunc w f (mergeFunc m now f (sfunc w f)) else w) w

/-- A module that starts beside an owner takes the owner's island state, its functions' states, and the pairs that are ON where its
own two channels are on (R248, log 35). -/
def joinPair (w : Walnut) (m : List Byte) (now : Nat) : Walnut :=
  let w1 := eight.foldl (fun w f =>
    let b := msgField m (16 + f) 1
    setSfunc w f { st := if b % 4 ≤ 2 then b % 4 else 2, cause := b / 16, fault := decide (b / 4 % 2 = 1), ramp := false
                   t0 := msgTime m now - 1000 * msgField m (32 + 8 * f) 4, v0 := msgField m (36 + 8 * f) 2 }) w
  let w2 := eight.foldl (fun w k =>
    let (e, o) := pairBits w.inputs k
    if (msgField m 26 1).testBit k && e && o then setSpair w k { spair w k with on := true, bothOff := false, firstOn := none }
    else w) w1
  { w2 with powerUp := false, locked := decide (msgField m 12 1 % 8 = 3), cause := msgField m 12 1 / 8 }

/-! ## What the registers show (R253) -/

/-- A RESET pair with a latched CROSS_CIRCUIT is held OFF (R220). -/
def resetHeldOff (w : Walnut) : Bool := (List.range 6).any (fun k => decide (pairMode w k = 3) && (spair w k).cross)

/-- WNT_FUNC bit 3 of function `f`: STOPPED and waiting only for a reset edge, which would clear a fault whose cause has gone; not while no
reset edge counts (R220, R240). -/
def onlyReset (w : Walnut) (f : Nat) : Bool :=
  w.halfB && !resetHeldOff w && defined w f && decide ((sfunc w f).st = 2) && !faultStands (clearOutputs w) f && !demandOff w f && !supplyGone w f
    && decide (islandState w ≠ 2)

/-- Seconds until the own DEGRADED_EXPIRED, all ones while the island itself is not DEGRADED. -/
def degradedLeft (w : Walnut) (now : Nat) : Nat :=
  match w.failTime with
  | some ft => if islandState w = 1 then (wparam w 24 4 * 60000000000 - (now - ft)) / 1000000000 else 0xFFFFFFFF
  | none => 0xFFFFFFFF

/-- WNT_DEGR: seconds until DEGRADED_EXPIRED of the island as it is shown, the shorter of the own count and that of the message it is merged
with; all ones when it does not show DEGRADED (R246, R253). -/
def shownLeft (w v : Walnut) (m : List Byte) (now : Nat) : Nat :=
  if shownIsland v m ≠ 1 then 0xFFFFFFFF
  else min (degradedLeft w now) (if m = [] then 0xFFFFFFFF else msgField m 96 4)

/-- WNT_STATE to WNT_PAIR after a cycle: `v` is the view that governs, `m` the message it is merged with, `w` the own record. -/
def shownWords (w v : Walnut) (m : List Byte) (now : Nat) : List Word :=
  let per (g : Nat → Nat) : Nat := (eight.map (fun f => g f * 16 ^ f)).sum
  [ fieldWord 20 16 v.cause ||| fieldWord 11 11 (b2n w.resetJammed) ||| fieldWord 10 10 (b2n w.halfB)
      ||| fieldWord 9 9 (b2n w.halfB) ||| fieldWord 8 8 (b2n w.halfA) ||| fieldWord 2 0 (shownIsland v m),
    word w.cycle,
    fieldWord 23 16 (bits8 (pairFault v)) ||| fieldWord 15 0 v.image,
    fieldWord 27 27 (b2n v.groupOpen1) ||| fieldWord 26 26 (b2n v.groupOpen0) ||| fieldWord 25 25 (b2n v.supply1)
      ||| fieldWord 24 24 (b2n v.supply0) ||| fieldWord 23 16 (bits8 (outFault v)) ||| fieldWord 15 8 v.readback
      ||| fieldWord 7 0 v.cmd,
    word (per (fun f => (sfunc v f).st + 4 * b2n (sfunc v f).fault + 8 * b2n (onlyReset v f))),
    word (per (fun f => (sfunc v f).cause)),
    fieldWord 31 16 (speed v 1).rpm ||| fieldWord 15 0 (speed v 0).rpm,
    word (shownLeft w v m now),
    word (confirmedCrc w),
    word ((w.pendingSet.map (fun p => blockField p.bytes 252 4)).getD 0),
    fieldWord 17 17 (b2n (decide (w.lastMsg ≠ []) && decide (msgField w.lastMsg 100 4 = confirmedCrc w)))
      ||| fieldWord 16 16 (b2n w.partnerOk) ||| fieldWord 15 0 w.msgErr ]

/-- The 32-byte status block that Walnut publishes at the end of each cycle: WNT_STATE to WNT_SPEED and 4 bytes 0 (R214, log 36). -/
def statusBlock (w : Walnut) : List Byte := ((w.shown.take 7).map (fun x => leBytes 4 x.toNat)).flatten ++ leBytes 4 0

/-- A word of the exposed-state window (WNT_IDX_DATA): confirmed set, pending set, last accepted message. -/
def exposedByte (w : Walnut) (a : Nat) : Byte :=
  if a < 0x100 then (confirmedSet w).getD a 0
  else if a < 0x200 then ((w.pendingSet.map (·.bytes)).getD []).getD (a - 0x100) 0
  else if a < 0x280 then w.lastMsg.getD (a - 0x200) 0
  else 0

/-! ## The pending set (R251, R279) -/

/-- The pending set is discarded: the old set stays in force and the island goes to LOCKED (R251). -/
def discardSet (w : Walnut) : Walnut := dropCause { w with pendingSet := none } 3 7

/-- A half's boot check: governing set, and NO_PARAM when a half finds no valid copy (R250). -/
def bootSet (w : Walnut) : Walnut :=
  let okA := setCrcOk w.copyA1 || setCrcOk w.copyA2
  let okB := setCrcOk w.copyB1 || setCrcOk w.copyB2
  let w1 := { w with governing := confirmedSet w }
  if okA && okB then w1 else { w1 with stops := w1.stops ++ [2], cause := 2 }

/-- Both halves store a set in both their copies (R251). -/
def storeSetCopies (w : Walnut) (bs : List Byte) : Walnut := { w with copyA1 := bs, copyA2 := bs, copyB1 := bs, copyB2 := bs }

/-- A pending set is confirmed: stored, and with it NO_PARAM and PARAM_PENDING are gone (R237, R251). -/
def confirmSet (w : Walnut) (bs : List Byte) : Walnut := dropCause (dropCause (storeSetCopies { w with pendingSet := none } bs) 2 4) 3 4

/-- The reply of SAFE_PARAM_LOAD: both halves' CRCs, the partner's, and the set as read back (R251). -/
def loadReply (bs : List Byte) (partnerCrc : Nat) : List Byte :=
  let own := blockField bs 252 4
  leBytes 4 own ++ leBytes 4 own ++ leBytes 4 partnerCrc ++ bs

/-- A SAFE_PARAM_LOAD waits for the partner's CRC. -/
def loadWaits (s : State) : Bool := s.cmd.executing.any (fun x => decide (x.opcode = 0x0801))

/-- Discard the pending set, if there is one, and post its cause (R251). DESIGN CHOICE: a LOAD that still waits for the partner's CRC is
answered with the set it loaded and 0 for that CRC (log 143). -/
def discardPending (s : State) (cause : Nat) : State :=
  match s.wnt.pendingSet with
  | none => s
  | some p =>
    concludeAll (post { s with wnt := discardSet s.wnt } .safeParamExpired 0 0 cause 0) (fun x => decide (x.opcode = 0x0801)) .ok 0
      (fun _ _ => loadReply p.bytes 0)

end Sys2Proof.Machine
end

