-- ==== Sys2Proof/Machine/PairOps.lean ====
section
/-! DEFINITION. Machine/PairOps.lean: changes of pair role and the module's answer to its own faults (R29, R254, R255, R266, R279). -/
namespace Sys2Proof.Machine
open Sys2Proof

/-- Raise a flag of PPD_FLAGS. -/
def ppdRaise (s : State) (n : Nat) : State := raise s Reg.ppdFlags 0 n

/-- Toggle the owner line, or stop it (R17). -/
def driveLine (s : State) (on : Bool) : State := { s with own := { s.own with ownDriven := on } }

/-- A change of role ends Walnut's running output tests, and a module that takes the field starts its schedule 1 s later (R229,
Table WNT-4). -/
def roleTests (s : State) (takes : Bool) : State :=
  let w := { s.wnt with outs := s.wnt.outs.map (fun p => (p.1, abandonTest s.now p.2)) }
  { s with wnt := if takes then scheduleTests w s.now else w }

/-- Safe output `q` is on: both its elements closed, the series element gated by R16, its group series element closed and its supply OK;
a dark test opens one element, a light test closes both (R213, R224, R227, R228). -/
def safeOutputOn (s : State) (q : Nat) : Bool :=
  let t := (sout s.wnt q).test
  conducting s && groupReady s.wnt q && ((s.wnt.switchOn.testBit q && decide (t ≠ 1)) || decide (t = 3))
    && ((s.wnt.seriesOn.testBit q && decide (t ≠ 2)) || decide (t = 3))

/-- The commands whose outcome only the owner of the field brings about: STOP, HANDOVER, SWAP_PREPARE, SWAP_CANCEL, LOOP_PARAM with
COMMIT and SHED_RELEASE. -/
def waitsAsOwner (x : Executing) : Bool :=
  decide (x.opcode = 0x0102) || decide (x.opcode = 0x0105) || decide (x.opcode = 0x0205) || decide (x.opcode = 0x0206)
    || decide (x.opcode = 0x0605) || decide (x.opcode = 0x0704)

/-- A module without the field runs no task, makes no field request and holds no commit back (R18, R179, R254). A command that only an owner
could conclude ends WRONG_ROLE, so that none waits for ever (R14; log 110). -/
def leaveField (s : State) : State :=
  let idle (t : Task) : Task := if t.state = .running ∨ t.state = .withheld then { t with state := .idle } else t
  let live (x : FieldClaim) : FieldClaim :=
    { x with excess := if x.excessEnd ≤ s.now then 0 else x.excess, shortExcess := if x.shortEnd ≤ s.now then 0 else x.shortExcess }
  let s1 := { s with
    own := { s.own with outstanding := [] }
    grd := { s.grd with field := s.grd.field.map (fun p => (p.1, live p.2)) }
    exe := { s.exe with handover := none, stopPending := none, startPending := none, tasks := s.exe.tasks.map (fun p => (p.1, idle p.2)) } }
  let s2 := concludeAll s1 waitsAsOwner .wrongRole (roleCode s1.pair.role) (fun _ _ => [])
  s.grd.c1.foldl (fun t r => withdrawC1 t r.source .withdrawn) s2

/-- Change role with its cause: the event, the record, the owner line, the end of a resynchronisation (R276), of output tests and injections, and on the module that leaves ACTIVE
the end of its captures (R17, R102, R255). A module that is to be OFFLINE before its role decision stays so until reset, with the cause
recorded. -/
def changeRole (s : State) (r : Role) (cause : Nat) : State :=
  let old := s.pair.role
  if old = r then
    if s.pair.decided then s else { s with pair := { s.pair with cause := cause, decided := true } }
  else
    let s1 := post s .pairRoleChange 0 (roleCode r) cause (roleCode old)
    let s2 := driveLine { s1 with pair := { s1.pair with role := r, cause := cause, decided := true
                                                         streaming := s1.pair.streaming && decide (r = .active)
                                                         phase := 0, remain := 0, streamNext := false } } (ownerRole r)
    let s3 := endInjections (roleTests s2 (ownerRole r && !ownerRole old)) 5
    let s4 := if old = .active then truncateCaptures s3 else s3
    let s5 := if r = .orphan then ppdRaise s4 2 else s4
    if ownerRole r then s5 else leaveField s5

/-- The commands that wait on the partner (R279). -/
def waitsOnPartner (x : Executing) : Bool :=
  decide (x.opcode = 0x0105) || decide (x.opcode = 0x0205) || decide (x.opcode = 0x0206) || decide (x.opcode = 0x0801)

/-- A SAFE_PARAM_LOAD that still waits for the partner's CRC ends PARTNER_LOST, so its set is not held (R279; log 37). -/
def dropWaitingSet (s : State) : State :=
  if s.cmd.executing.any (fun x => decide (x.opcode = 0x0801)) then { s with wnt := discardSet s.wnt } else s

/-- What a command that still waits has asked for is taken back, as it ends HUSKED (R310). -/
def undoOne (s : State) (x : Executing) : State :=
  match x.opcode with
  | 0x0102 => { s with exe := { s.exe with stopPending := none } }
  | 0x0105 => { s with exe := { s.exe with
      handover := none, tasks := s.exe.tasks.map (fun p => (p.1, if p.2.state = .withheld then { p.2 with state := .idle } else p.2)) } }
  | 0x0203 => { s with exe := { s.exe with load := s.exe.load.map (fun l => { l with checking := false }) } }
  | 0x0503 => { s with spr := { s.spr with feQueue := s.spr.feQueue.erase (x.subject, true) } }
  | 0x0605 => modLoop s x.subject (fun l => { l with pcommit := false })
  | 0x0704 => { s with gmu := { s.gmu with release := 0 } }
  | 0x0801 => dropWaitingSet s
  | 0x0C02 => { s with net := { s.net with acceptJump := false } }
  | _ => s

/-- What the commands that wait in the island of a window have asked for is taken back. -/
def undoWork (s : State) (w : Nat) : State := (waiting s (fun x => decide (x.island = w))).foldl undoOne s

/-- The partner is lost: every command that waits on it ends PARTNER_LOST, and a handover or a resynchronisation in progress is abandoned, the
latter to start again from its first phase (R14, R276, R279). -/
def partnerLost (s : State) : State :=
  let any := s.cmd.executing.any waitsOnPartner
  let s1 := concludeAll (raiseIf any (dropWaitingSet s) Reg.ppdFlags 0 10) waitsOnPartner .partnerLost 0 (fun _ _ => [])
  { s1 with exe := { s1.exe with handover := none }
            pair := { s1.pair with prepareAcked := false, phase := 0, remain := 0, streamNext := false } }

/-- ACTIVE becomes ALONE: what waits for the partner is driven, and commits stream no more (R19, Table PPD-2). -/
def becomeAlone (s : State) (cause : Nat) : State :=
  if s.pair.role = .active then applyOutstanding (changeRole (partnerLost s) .alone cause) else s

/-- The fault record is to be written: the newest fault waits for the claim of that write (R450, R481). -/
def writeFaultRecord (s : State) (kind addr region syndrome : Nat) : State :=
  let r : FaultRecord := { kind := kind, time := s.now, addr := addr, region := region, syndrome := syndrome }
  askWrite { s with sup := { s.sup with faultNext := some r } } 0 1000 .faultRecord

/-- The code of a kind of module fault (log 8). -/
def faultCode (k : FaultKind) : Nat := Config.faultKind k.ctorIdx

/-- A module fault (R29, Table ARC-5): a FAULT message where the link works, the owner line stopped, OFFLINE until reset, the station in
FAULT, the record written and MODULE_FAULT posted. -/
def moduleFault (s : State) (kind : FaultKind) (addr region syndrome : Nat) : State :=
  let k := faultCode kind
  let s1 := post (writeFaultRecord (driveLine (send s .fault) false) k addr region syndrome) .moduleFault 0 k addr 0
  let s2 := { s1 with own := { s1.own with moduleFaults := (k, addr) :: s1.own.moduleFaults }
                      exe := { s1.exe with station := .fault } }
  changeRole (partnerLost s2) .offline 18

/-- An ACTIVE module gives up the field for a cause that is not a module fault: YIELD, the line stopped, SYNCING, and HANDED_OVER (R266,
PPD_FLAGS). -/
def yieldField (s : State) : State :=
  if s.pair.role = .active then ppdRaise (changeRole (driveLine (send s .yield) false) .syncing 17) 1 else s

/-- An island asks Gourd for a C0 claim, which is never delayed or refused (Table PWB-1): nothing of what it does waits for it. Behind its Husk
Gourd takes no request (R13). -/
def askC0 (s : State) (window amount : Nat) (durationUs : Option Nat) (p : Purpose) : State :=
  if held s 4 then s
  else { s with grd := { s.grd with
    c0 := s.grd.c0 ++ [{ cls := .c0, source := window, amount := amount, duration := durationUs, purpose := p, made := s.now }] } }

/-- Gourd holds or has been asked for a claim for a purpose. -/
def claimAsked (s : State) (p : Purpose) : Bool :=
  s.grd.claims.any (fun c => decide (c.purpose = p)) || s.grd.c0.any (fun r => decide (r.purpose = p))

/-- What stands or waits at Gourd for a purpose ends. -/
def dropAsked (s : State) (p : Purpose) : State :=
  { s with grd := { s.grd with claims := s.grd.claims.filter (fun c => decide (c.purpose ≠ p)), c0 := s.grd.c0.filter (fun r => decide (r.purpose ≠ p)) } }

/-- ACTIVE with a STANDBY partner. -/
def hasStandby (s : State) : Bool := decide (s.pair.role = .active) && decide (s.pair.partnerRole = 2)

/-- Sprout asks for a commanded handover (R295, R301); with no drain it yields (R266). -/
def startHandover (s : State) (swap internal : Bool) : State :=
  if s.exe.handover.isSome then s
  else { s with exe := { s.exe with handover := some { swap := swap, boundary := none, internal := internal } } }

/-- A task that is running. -/
def anyRunning (s : State) : Bool := s.exe.tasks.any (fun p => decide (p.2.state = .running))

/-! ## Lanes and the copy's load (R262, R263) -/

/-- Lanes in service. -/
def lanesInService (s : State) : Nat := (s.pair.lanes.filter (fun l => decide (l.state = 2))).length

/-- With fewer than three lanes the active module becomes ALONE at the boundary and says so (R263). -/
def lanesBoundary (s : State) : State :=
  if s.pair.lanesShort then
    let s1 := { s with pair := { s.pair with lanesShort := false } }
    if s1.pair.role = .active then send (becomeAlone s1 7) (.role { role := .alone }) else s1
  else s

/-- Blocks that the copy stream carries in the base cycle in progress (PPD_SNAP_PEAK). -/
def countBlocks (s : State) (n : Nat) : State :=
  if paired s then { s with pair := { s.pair with cycleBlocks := s.pair.cycleBlocks + n } } else s

/-- A base cycle ends: its copy blocks are compared with the largest seen. -/
def closeCycle (s : State) : State :=
  countMax { s with pair := { s.pair with cycleBlocks := 0 } } Reg.ppdSnapPeak 0 s.pair.cycleBlocks

/-- PPD_STAT (R281). OWN_LINE is the line as read back at X1. -/
def ppdStat (s : State) : Word :=
  let p := s.pair
  fieldWord 31 24 p.cause ||| fieldWord 23 23 (b2n s.sup.sideB) ||| fieldWord 22 22 (b2n p.hbOk)
    ||| fieldWord 21 21 (b2n p.partnerLine) ||| fieldWord 20 20 (b2n s.own.ownSeen) ||| fieldWord 19 18 p.speed
    ||| fieldWord 15 12 p.link.ctorIdx ||| fieldWord 10 8 p.partnerRole ||| fieldWord 2 0 (roleCode p.role)

/-- WNT_STATE as the last completed safety cycle left it (R253). -/
def wntState (s : State) : Word := s.wnt.shown.getD 0 0

end Sys2Proof.Machine
end

