-- ==== Sys2Proof/Machine/Runtime.lean ====
section
/-! DEFINITION. Machine/Runtime.lean: the executive's runtime: standard function blocks (R43 to R46), variables and
forces (R54, R57), retain data (R47, R48), restarts and image installation (R49, R58, R59), and leaving INIT (R33). -/
namespace Sys2Proof.Machine
open Sys2Proof

/-! ## Function blocks -/

/-- A function block instance. -/
def fb (s : State) (i : Nat) : Fb := storeGet (fun _ => {}) s.exe.fbs i

/-- Replace a function block instance. -/
def setFb (s : State) (i : Nat) (x : Fb) : State := { s with exe := { s.exe with fbs := storeSet (fun _ => {}) s.exe.fbs i x } }

/-- A module time as a TIME value: a signed 64-bit count of ns (R44). -/
def ltime (t : Nat) : LTime := BitVec.ofNat 64 t

/-- The smaller of two TIME values. -/
def ltimeMin (a b : LTime) : LTime := if a.slt b then a else b

/-- A retained timer's start is rebased at its first scan: the scan's time less the elapsed time at the save (Table EXE-3). -/
def rebased (x : Fb) (t : LTime) : Fb := if x.rebase then { x with rebase := false, start := t - x.elapsed } else x

/-- The TON of R43. -/
def tonStep (x0 : Fb) (inp : Bool) (pt t : LTime) : Fb :=
  let x := rebased x0 t
  if !inp then { x with seen := true, running := false, elapsed := 0, q := false, prev := inp }
  else
    let start := if x.running then x.start else t
    let et := ltimeMin (t - start) pt
    { x with seen := true, running := true, start := start, elapsed := et, q := pt.sle et, prev := inp }

/-- A TOF: the same start and elapsed rule, with the output logic of IEC 61131-3 (log 15). -/
def tofStep (x0 : Fb) (inp : Bool) (pt t : LTime) : Fb :=
  let x := rebased x0 t
  if inp then { x with seen := true, running := false, elapsed := 0, q := true, prev := inp }
  else if x.running || x.q then
    let start := if x.running then x.start else t
    let et := ltimeMin (t - start) pt
    { x with seen := true, running := true, start := start, elapsed := et, q := et.slt pt, prev := inp }
  else { x with seen := true, prev := inp }

/-- A TP: the same start and elapsed rule, with the output logic of IEC 61131-3; PT = 0 gives Q at the rising edge's call alone (R43;
log 15). DESIGN CHOICE: a first call that has IN true is no rising edge, so it starts no pulse (log 95). -/
def tpStep (x0 : Fb) (inp : Bool) (pt t : LTime) : Fb :=
  let x := rebased x0 t
  let rise := inp && !x.prev && x.seen
  if x.running then
    let et := ltimeMin (t - x.start) pt
    if et.slt pt then { x with elapsed := et, q := true, prev := inp }
    else if inp then { x with elapsed := et, q := false, prev := inp }
    else { x with running := false, elapsed := 0, q := false, prev := inp }
  else if rise then { x with seen := true, running := true, start := t, elapsed := 0, q := true, prev := inp }
  else { x with seen := true, q := false, prev := inp }

/-- The smallest and the largest value of a counter's type: CV stops there and never wraps (R46; IEC 61131-3's integer types). -/
def cvRange : IntType → Int × Int
  | .int => (-32768, 32767) | .dint => (-2147483648, 2147483647) | .lint => (-9223372036854775808, 9223372036854775807)
  | .uint => (0, 65535) | .udint => (0, 4294967295) | .ulint => (0, 18446744073709551615)

/-- A value held to the limits of a counter's type. -/
def cvClamp (ty : IntType) (v : Int) : Int := max (cvRange ty).1 (min (cvRange ty).2 v)

/-- A rising edge between two consecutive calls; none at the first call (R46, Table EXE-3). -/
def edgeUp (seen prev inp : Bool) : Bool := seen && inp && !prev

/-- A counter's new CV: reset, load, then an up or a down count (R46). -/
def counterStep (x : Fb) (ty : IntType) (cu cd reset load : Bool) (pv : Int) : Fb :=
  let up := edgeUp x.seen x.prev cu
  let down := edgeUp x.seen x.prevDown cd
  let cv := if reset then 0 else if load then cvClamp ty pv
    else if up && !down then cvClamp ty (x.cv + 1)
    else if down && !up then cvClamp ty (x.cv - 1)
    else x.cv
  { x with seen := true, prev := cu, prevDown := cd, cv := cv, q := decide (pv ≤ cv), qd := decide (cv ≤ 0) }

/-- Evaluate one call of a task instance that started at `t`: every call of the instance sees the same time (R43). -/
def fbCall (t : Nat) (s : State) (k : FbCall) : State :=
  match k with
  | .ton i inp pt => setFb s i (tonStep (fb s i) inp pt (ltime t))
  | .tof i inp pt => setFb s i (tofStep (fb s i) inp pt (ltime t))
  | .tp i inp pt => setFb s i (tpStep (fb s i) inp pt (ltime t))
  | .ctu i ty cu r pv => setFb s i (counterStep (fb s i) ty cu false r false pv)
  | .ctd i ty cd ld pv => setFb s i (counterStep (fb s i) ty false cd false ld pv)
  | .ctud i ty cu cd r ld pv => setFb s i (counterStep (fb s i) ty cu cd r ld pv)
  | .rTrig i clk => setFb s i { fb s i with seen := true, prev := clk, q := edgeUp (fb s i).seen (fb s i).prev clk }
  | .fTrig i clk => setFb s i { fb s i with seen := true, prev := clk, q := (fb s i).seen && !clk && (fb s i).prev }

/-! ## Variables -/

/-- What a variable of the running image is, if the image has it. -/
def var? (s : State) (i : Nat) : Option VarEntry :=
  match s.exe.vars.find? (fun p => p.1 == i) with
  | some p => some p.2
  | none => none

/-- A variable's own value: one that another island writes lies in state memory (R191, R214, R379). -/
def ownValue (s : State) (x : VarEntry) : List Byte :=
  match x.place with
  | some a => areaGet s a x.value.length
  | none => x.value

/-- A forced variable's bytes: the entry's 8 value bytes stand for its first bytes (R54). -/
def forcedBytes (s : State) (i : Nat) (own : List Byte) : List Byte :=
  match forceOf s (.variable i) with
  | some v => leBytes (min 8 own.length) v ++ own.drop 8
  | none => own

/-- The value every read of a variable returns: the forced value, else its own (R54). -/
def readVar (s : State) (i : Nat) : List Byte :=
  match var? s i with
  | some x => forcedBytes s i (ownValue s x)
  | none => []

/-- Overwrite a variable's bytes; a forced variable discards the write (R54). DESIGN CHOICE: the rule names program writes, and a
VAR_WRITE to a forced variable is discarded in the same way (log 96). -/
def writeVar (s : State) (i offset : Nat) (data : List Byte) : State :=
  match var? s i with
  | none => s
  | some x =>
    if (forceOf s (.variable i)).isSome then s
    else { s with exe := { s.exe with vars := s.exe.vars.map (fun p => if p.1 = i then (i, { x with value := putBytes x.value offset data }) else p) } }

/-- The VAR_WRITEs that are applied: for the tasks released, before their input copies, and those without a writer task (R321). -/
def applyVarWrites (s : State) (released : List Nat) : State :=
  let due (w : VarWrite) : Bool := match var? s w.identity with
    | some x => (match x.writer with
      | some t => released.contains t
      | none => true)
    | none => true
  let s1 := (s.exe.varWrites.filter due).foldl (fun t w => writeVar t w.identity w.offset w.data) s
  { s1 with exe := { s1.exe with varWrites := s1.exe.varWrites.filter (fun w => !due w) } }

/-! ## Tasks -/

/-- Task `n`. -/
def task (s : State) (n : Nat) : Task := storeGet (fun _ => {}) s.exe.tasks n

/-- Replace task `n`. -/
def setTask (s : State) (n : Nat) (t : Task) : State := { s with exe := { s.exe with tasks := storeSet (fun _ => {}) s.exe.tasks n t } }

/-- Task `n`'s period in ns. -/
def periodNs (s : State) (n : Nat) : Nat := (task s n).period * baseNs s

/-- `k` releases of task `n` are skipped: counted with those of all causes, and by cause (R37, R61, R269, R364, R455). -/
def skipRelease (s : State) (n k : Nat) (why : SkipCause) : State :=
  let i := 8 * n + why.ctorIdx
  setCounter { s with exe := { s.exe with skips := storeSet (fun _ => 0) s.exe.skips i (storeGet (fun _ => 0) s.exe.skips i + k) } }
    Reg.exeSnapSkip n (counter s Reg.exeSnapSkip n + word k)

/-! ## The retain store -/

/-- The retain variables and retained function blocks, as the shadow holds them after a task end (R47). -/
def retainNow (s : State) : RetainData :=
  let kept := s.exe.vars.filter (fun p => p.2.retain)
  { vars := kept.map (fun p => (p.1, p.2.value))
    fbs := kept.filterMap (fun p => if (s.exe.fbs.any (fun q => q.1 == p.1)) then some (p.1, fb s p.1) else none)
    time := s.now }

/-- Copy the retain variables that a task wrote into the shadow, as part of its commit (R47). -/
def shadowTask (s : State) (n : Nat) : State :=
  let mine := s.exe.vars.filter (fun p => p.2.retain && decide (p.2.writer = some n))
  let keep := s.exe.shadow.vars.filter (fun p => !(mine.any (fun q => q.1 == p.1)))
  let blocks := mine.filterMap (fun p => if (s.exe.fbs.any (fun q => q.1 == p.1)) then some (p.1, fb s p.1) else none)
  let keepFb := s.exe.shadow.fbs.filter (fun p => !(mine.any (fun q => q.1 == p.1)))
  let shadow : RetainData := { vars := keep ++ mine.map (fun p => (p.1, p.2.value)), fbs := keepFb ++ blocks, time := s.now }
  { s with exe := { s.exe with shadow := shadow, shadowLive := true } }

/-- The retain set is to be written: the write waits for its claim, a C2 claim, or C0 after the warning (R47, R177, R481). -/
def writeRetain (s : State) : State := askWrite s 1 6000 .retainWrite

/-! ## Installing an image -/

/-- An object of an image as a variable of the station, at its initial value. -/
def varOfDecl (o : ObjDecl) : Nat × VarEntry :=
  (o.identity, { cls := o.cls, retain := o.retain, writer := o.writers.head?, exchange := o.exchange, init := o.init, value := o.init
                 place := o.place })

/-- A task of an image, idle. -/
def taskOfDecl (d : TaskDecl) : Task :=
  { defined := true, stopTask := d.stopTask, period := d.period, reads := d.reads, writes := d.writes, xreads := d.xreads, loops := d.loops }

/-- Put a configuration word of the image into force, so that reads show it too. -/
def imageCfg (s : State) (a i : Nat) (v : Word) : State := setCfg (setReg s a i v) a i v

/-- The channel settings of the image's CHANNELS section (R117). -/
def installChannel (s : State) (d : ChannelDecl) : State :=
  let c := d.channel
  let s1 := imageCfg s Reg.fchMode c (word d.mode)
  let s2 := imageCfg (imageCfg s1 Reg.fchDicfg c d.dicfg) Reg.fchDocfg c d.docfg
  let s3 := imageCfg (imageCfg s2 Reg.fchStopcfg c d.stopcfg) Reg.fchPulsecfg c d.pulsecfg
  let s4 := imageCfg (imageCfg s3 Reg.fchAicfg c d.aicfg) Reg.fchAocfg c d.aocfg
  let s5 := imageCfg (imageCfg s4 Reg.fchAosafe c d.aosafe) Reg.grdChload c d.chload
  let s6 := setRegField s5 Reg.fchCtrl c 9 8 d.policy
  if decide (modeOf s c = d.mode) then s6
  else modFe s6 c (fun f => { f with reconfiguring := true, state := .unarmed })

/-- Variables sorted by identity, as a store holds them. -/
def varStore (im : Image) : Store VarEntry := ((im.objects.map varOfDecl).mergeSort (fun a b => decide (a.1 ≤ b.1)))

/-- The committed values of an image's exchange variables before any writer's task end: their initial values (R40). -/
def initialExchange (im : Image) : Store (List Byte) :=
  (varStore im).filterMap (fun p => if p.2.exchange && p.2.place.isNone && decide (p.2.init ≠ []) then some (p.1, p.2.init) else none)

/-- Bring an image into force: its tasks and objects always; its channels, the islands' areas of state memory and the other islands'
sections when the image has changed; its loops, matched with those in force when `keep` holds at a change (R99, R101, R117, Table EXE-3). -/
def installImage (s : State) (im : Image) (keep : Bool) : State :=
  let changed := decide (s.exe.image ≠ some im)
  let s1 := { s with exe := { s.exe with
    image := some im
    tasks := (im.tasks.mergeSort (fun a b => decide (a.task ≤ b.task))).map (fun d => (d.task, taskOfDecl d))
    vars := varStore im, fbs := [], exchange := initialExchange im
    area := if changed then [] else s.exe.area } }
  installSections (if changed then im.channels.foldl installChannel s1 else s1) im changed (keep && changed)

/-- Every output keeps its STOP behaviour until its writer drives it (R53). -/
def unwriteOutputs (s : State) : State :=
  { s with fch := { s.fch with fes := s.fch.fes.map (fun p => (p.1, { p.2 with written := false, taskStopped := false })) } }

/-- Tasks leave task fault, and the longest execution times and the pods' PEAK figures restart (R38, R65, R106). -/
def clearTasks (s : State) : State :=
  let s1 := { s with exe := { s.exe with tasks := s.exe.tasks.map (fun p => (p.1, { p.2 with state := .idle, consec := 0 })) } }
  clearPeaks ((List.range 16).foldl (fun t n => setCounter t Reg.exeSnapMaxexec n 0) s1)

/-! ## The change report and forces at a program change (R58, R59) -/

/-- The objects of an image by identity, its loops among them as variables under their LOOP_ID (R59, R101). -/
def imageObjects (im : Option Image) : List (Nat × ObjClass) :=
  match im with
  | none => []
  | some i => i.objects.map (fun o => (o.identity, o.cls)) ++ i.loops.map (fun d => (d.loopId, ObjClass.variable))

/-- A timer's elapsed time in whole ms (Table EXE-4). -/
def elapsedMs (x : Fb) : Nat := (x.elapsed.toInt / 1000000).toNat

/-- An entry of the change report for each object of both images; a matched timer shows the elapsed time that it transfers (Table EXE-4). -/
def objectChanges (old new : Option Image) (transferred : Nat → Fb) : List ChangeEntry :=
  let o := imageObjects old
  let n := imageObjects new
  (n.map (fun d =>
    let hit := o.any (fun e => e.1 == d.1)
    { identity := d.1, cls := d.2, outcome := if hit then .matched else .new
      detail := if hit && decide (d.2 = .timer) then elapsedMs (transferred d.1) else 0 : ChangeEntry }))
  ++ (o.filter (fun e => !(n.any (fun d => d.1 == e.1)))).map (fun e =>
    { identity := e.1, cls := e.2, outcome := .removed, detail := 0 : ChangeEntry })

/-- A function block instance of a retain set; one that it does not hold is idle. -/
def retainedFb (data : RetainData) (i : Nat) : Fb := ((data.fbs.find? (fun p => p.1 == i)).map (·.2)).getD {}

/-- The retain set that the store holds; without a valid copy, the shadow (R59). -/
def savedRetain (s : State) : RetainData := ((retainCopy s).map (·.data)).getD s.exe.shadow

/-- An entry for each retain entry of the saved set. -/
def retainChanges (data : RetainData) (new : Option Image) : List ChangeEntry :=
  let n := (new.map (·.objects)).getD []
  data.vars.map (fun p =>
    { identity := p.1, cls := .retain
      outcome := if n.any (fun d => decide (d.identity = p.1) && d.retain) then .matched else .removed, detail := 0 : ChangeEntry })

/-- What becomes of a force when `new` comes into force with KEEP_FORCES, `mode` being each channel's mode before (R58). -/
def forceFate (mode : Nat → Nat) (new : Option Image) (f : Force) : ChangeOutcome :=
  let chans := (new.map (·.channels)).getD []
  let chan (c : Nat) : ChangeOutcome :=
    match chans.find? (fun d => d.channel == c) with
    | none => .forceDropped
    | some d => if mode c = d.mode then .forceKept else .modeChanged
  match f.key with
  | .input c => chan c
  | .output c => chan c
  | .variable i => if ((new.map (·.objects)).getD []).any (fun d => d.identity == i) then .forceKept else .forceDropped

/-- The identity bytes of a force's report entry: a channel number and direction, or the variable (Table EXE-4). -/
def forceIdentity : ForceKey → Nat
  | .input c => c | .output c => c + 65536 | .variable i => i

/-- The force table changes: it is copied to the partner, and MRAM takes it as the claim of that write is granted (R55, R481). -/
def writeForces (s : State) (fs : List Force) : State :=
  let s1 := copyChange { s with exe := { s.exe with forces := fs } } 0x10 { forces := some (fs.map (fun f => (f.key, f.value))) }
  askWrite s1 1 1000 .forceTable

/-- Apply the force choice of a program change to the table, with the report entries; `old` is the state before the change (R58). DESIGN CHOICE: a WARM with no new image keeps the force
table whatever choice it carries, as Table EXE-3 and R55 say, where R58 names every warm restart (log 98). -/
def changeForces (s old : State) (new : Option Image) (choice : ForceChoice) (changed : Bool) : State × List ChangeEntry :=
  let fate (f : Force) : ChangeOutcome :=
    if !changed then .forceKept else if choice = .clear then .forceCleared else forceFate (modeOf old) new f
  let entry (f : Force) : ChangeEntry :=
    { identity := forceIdentity f.key, cls := (match f.key with
        | .variable _ => .forceVariable
        | _ => .forceChannel), outcome := fate f, detail := 0 }
  let kept := s.exe.forces.filter (fun f => decide (fate f = .forceKept))
  (if kept = s.exe.forces then s else writeForces s kept, s.exe.forces.map entry)

/-! ## Restarts (R48, R49) -/

/-- A new image is committed and not yet in service. -/
def newImageCommitted (s : State) : Bool := decide (s.exe.slotA ≠ none) && decide (s.exe.slotA ≠ s.exe.image)

/-- A restart may bring the committed image into service: on a lone module, or where no program is in force at all (R56; log 99). -/
def mayChange (s : State) : Bool := decide (s.pair.role = .alone) || s.exe.image.isNone

/-- The image a restart brings into service: a committed new image of slot A where the program may change, else the one in force
(R56, R324). -/
def restartImage (s : State) : Option Image := if mayChange s then s.exe.slotA.or s.exe.image else s.exe.image

/-- Cold data: initial values, timers and counters idle, retain store cleared (Table EXE-3). -/
def coldData (s : State) (im : Image) : State :=
  let s1 := installImage s im false
  { s1 with exe := { s1.exe with shadow := {}, shadowLive := true, copyA := {}, copyB := {}, restart := .cold } }

/-- Warm data: retain variables and retained timers, counters and edge detectors that match are restored (Table EXE-3). -/
def warmData (s : State) (im : Image) (data : RetainData) : State :=
  let s1 := installImage s im true
  let s2 := data.vars.foldl (fun t p =>
    { t with exe := { t.exe with vars := t.exe.vars.map (fun q => if q.1 = p.1 ∧ q.2.retain then (q.1, { q.2 with value := p.2 }) else q) } }) s1
  let s3 := data.fbs.foldl (fun t p =>
    if t.exe.vars.any (fun q => decide (q.1 = p.1) && q.2.retain) then setFb t p.1 { p.2 with rebase := p.2.running } else t) s2
  { s3 with exe := { s3.exe with
    restart := .warm, shadow := data, shadowLive := true
    exchange := (s3.exe.vars.filter (fun p => p.2.exchange && p.2.retain && p.2.place.isNone)).foldl
      (fun m p => storeSet (fun _ => []) m p.1 p.2.value) s3.exe.exchange } }

/-- A cold restart with its force choice, and its change report when the program changes (R49, R59). -/
def coldRestart (s : State) (im : Image) (choice : ForceChoice) : State :=
  let old := s.exe.image
  let changed := decide (old ≠ some im)
  let objs := objectChanges old (some im) (fun _ => {}) ++ retainChanges (savedRetain s) (some im)
  let (s1, fs) := changeForces (coldData s im) s (some im) choice changed
  let s2 := unwriteOutputs (clearTasks s1)
  { s2 with exe := { s2.exe with report := if changed then objs ++ fs else s2.exe.report } }

/-- A warm restart with its change report and force choice (R58, R59). -/
def warmRestart (s : State) (im : Image) (data : RetainData) (choice : ForceChoice) : State :=
  let old := s.exe.image
  let changed := decide (old ≠ some im)
  let objs := objectChanges old (some im) (retainedFb data) ++ retainChanges data (some im)
  let (s1, fs) := changeForces (warmData s im data) s (some im) choice changed
  let s2 := unwriteOutputs (clearTasks s1)
  { s2 with exe := { s2.exe with report := objs ++ fs } }

/-- RETAIN_LOST_ACTION of an image: true for COLD (Table EXE-6). -/
def retainLostCold (im : Image) : Bool := (im.header.flags / 4) % 2 == 1

/-- AUTOSTART of an image (Table EXE-6). -/
def autostart (im : Image) : Nat := im.header.flags % 4

/-- No valid retain copy: flagged and posted (R48). -/
def retainInvalid (s : State) : State := post (raise s Reg.exeFlags 0 2) .retainInvalid 0 0 0 0

/-- Enter STOP with a cause. -/
def stopWith (s : State) (c : StopCause) : State :=
  { s with exe := { s.exe with station := .stop, stopCause := c, stopPending := none, startPending := none } }

/-- The station leaves INIT by the INIT rows of Table EXE-1 (R33, R48, R50). DESIGN CHOICE: AUTOSTART = COLD starts the station whatever
the retain store holds, since COLD clears it, where an invalid store with RETAIN_LOST_ACTION = STOP meets the STOP row too (log 100). -/
def leaveInit (s0 : State) : State :=
  let s := { s0 with gmu := { s0.gmu with inputTime := none } }
  match s.exe.image with
  | none => stopWith s .image
  | some im =>
    let run (t : State) : State := { t with exe := { t.exe with station := .run, stopCause := .none } }
    if autostart im = 1 then
      match retainCopy s with
      | some k => run (warmRestart s im k.data .none)
      | none =>
        let s1 := retainInvalid s
        if retainLostCold im then run (coldRestart s1 im .none) else stopWith (installImage s1 im false) .retain
    else if autostart im = 2 then run (coldRestart s im .none)
    else stopWith (installImage s im false) .autostartNone

/-- EXE_STATE (R65): a module in STANDBY, SYNCING or PREPARING shows the partner's station state (R34). -/
def exeState (s : State) : Word :=
  let shown : Nat := match s.pair.role with
    | .standby => s.pair.partnerStation | .syncing => s.pair.partnerStation | .preparing => s.pair.partnerStation
    | _ => stationCode s.exe.station
  fieldWord 15 12 (restartCode s.exe.restart) ||| fieldWord 8 8 (b2n s.exe.abandoned)
    ||| fieldWord 7 4 (stopCauseCode s.exe.stopCause) ||| fieldWord 1 0 shown

end Sys2Proof.Machine
end

