-- ==== Sys2Proof/Machine/TimeOps.lean ====
section
/-! DEFINITION. Machine/TimeOps.lean: the ports' masters and states (R354 to R356), accepted steps of module time and what every island
does at one (R45, R79, R192, R363, R364). -/
namespace Sys2Proof.Machine
open Sys2Proof

/-- Raise a flag of NET_FLAGS. -/
def netRaise (s : State) (n : Nat) : State := raise s Reg.netFlags 0 n

/-- Change a network port. -/
def modNet (s : State) (p : Nat) (f : NetPort → NetPort) : State := setNetPort s p (f (netPort s p))

/-! ## Ports and masters (R346, R354 to R356) -/

/-- A port takes part in PTP. -/
def ptpOn (s : State) (p : Nat) : Bool := (netPort s p).linked && cfgField s Reg.netPortCfg p 1 1 == 1

/-- A cell port that is only a master port (R355). -/
def masterOnly (s : State) (p : Nat) : Bool := decide (2 ≤ p) && decide (cfgField s Reg.netPortCfg p 3 3 = 1)

/-- 2^`e` seconds in ns, for an i8 exponent of PTP_INTV. -/
def intervalNs (e : Nat) : Nat := if e < 128 then 1000000000 * 2 ^ e else 1000000000 / 2 ^ (256 - e)

/-- The Announce interval in ns (PTP_INTV.LOG_ANNOUNCE). -/
def announceNs (s : State) : Nat := intervalNs (cfgField s Reg.ptpIntv 0 15 8)

/-- A master is qualified: 2 Announce messages in 4 intervals (Table NET-3). -/
def masterQualified (s : State) (m : PtpMaster) : Bool :=
  match m.seen[1]? with
  | some t => decide (s.now ≤ t + 4 * announceNs s)
  | none => false

/-- The order in which the best master clock algorithm compares data sets, the lowest first (PRESUMED: IEEE 1588-2019's default order;
log 54). -/
def announceOrder (a : Announce) : List Nat :=
  [a.priority1, a.clockClass, a.accuracy, a.variance, a.priority2, a.grandmaster, a.steps, a.source]

/-- Lists compared in order. -/
def lexLess : List Nat → List Nat → Bool
  | [], _ => false
  | _ :: _, [] => false
  | a :: as, b :: bs => decide (a < b) || (decide (a = b) && lexLess as bs)

/-- The better of two masters. -/
def betterMaster (a b : PtpMaster) : PtpMaster := if lexLess (announceOrder b.data) (announceOrder a.data) then b else a

/-- The best qualified master of a port. -/
def bestMaster (s : State) (p : Nat) : Option PtpMaster :=
  ((netPort s p).masters.filter (masterQualified s)).foldl (fun (b : Option PtpMaster) m => match b with
    | some x => some (betterMaster x m)
    | none => some m) none

/-- The factory base MAC address, a multiple of 4 (R347). -/
def baseMac (s : State) : Nat := 4 * s.tru.device.macBlock % 281474976710656

/-- The MAC address of a port: NET0 and NET1 use the base address, NET2 and NET3 the next two (R347). -/
def portMac (s : State) (p : Nat) : Nat := baseMac s + (p - 1)

/-- The clock identity: the EUI-64 formed from the base MAC address, 0xFFFE set between its halves (R356; log 54). -/
def clockIdentity (s : State) : Nat :=
  baseMac s / 16777216 * 1099511627776 + 0xFFFE * 16777216 + baseMac s % 16777216

/-- The module's own data set (log 54). -/
def ownAnnounce (s : State) : Announce :=
  { source := 0, grandmaster := clockIdentity s
    priority1 := cfgField s Reg.ptpCfg 0 23 16, clockClass := 248, accuracy := 0xFE, variance := 0xFFFF
    priority2 := cfgField s Reg.ptpCfg 0 31 24, steps := 0 }

/-- The module steers its time from a port of its own: it owns the field, or it is in ORPHAN or OFFLINE (R356). -/
def steersItself (s : State) : Bool := owner s || decide (s.pair.role = .orphan) || decide (s.pair.role = .offline)

/-- The port with the best master, the lowest number first where two see the same, unless the module's own clock is better (R355). -/
def bestPort (s : State) : Option Nat :=
  let cands := ([0, 1, 2, 3].filter (fun p => ptpOn s p && !masterOnly s p)).filterMap (fun p => (bestMaster s p).map (fun m => (p, m)))
  let best := cands.foldl (fun (b : Option (Nat × PtpMaster)) c => match b with
    | some x => if lexLess ((announceOrder c.2.data).take 6) ((announceOrder x.2.data).take 6) then some c else some x
    | none => some c) none
  match best with
  | some (p, m) =>
    if decide (cfgField s Reg.ptpCfg 0 8 8 = 0) && lexLess ((announceOrder (ownAnnounce s)).take 6) ((announceOrder m.data).take 6) then none
    else some p
  | none => none

/-- A port follows its best master; its measurements start again when that changes. -/
def followMaster (s : State) (p : Nat) : State :=
  let x := netPort s p
  match bestMaster s p with
  | some m =>
    if x.master = some m.data.source then setNetPort s p { x with grandmaster := m.data.grandmaster }
    else setNetPort s p { x with master := some m.data.source, grandmaster := m.data.grandmaster, measured := 0, forward := none, offset := none
                                 delay := none, reqSent := none, syncWait := none, pdelayWait := none }
  | none => setNetPort s p { x with master := none, grandmaster := 0, measured := 0, forward := none, offset := none, syncWait := none }

/-- PTP_STATE of a port (NET_PORT_STAT): 0 DISABLED, 1 LISTENING, 2 MASTER, 3 SLAVE, 4 PASSIVE, 5 PASSIVE_SLAVE. -/
def ptpState (s : State) (p : Nat) : Nat :=
  if !ptpOn s p then 0
  else if masterOnly s p then 2
  else if s.net.slave = p then 3
  else if p < 2 then
    if cfgField s Reg.ptpCfg 0 8 8 = 0 ∧ s.net.slave = 7 ∧ steersItself s = true ∧ bestPort s = none then 2
    else if (netPort s p).master.isSome then 5 else 1
  else match (netPort s p).master with
    | some _ => if some (netPort s p).grandmaster = s.net.followed then 4 else 2
    | none => 2

/-- Set the ports' PTP states. -/
def setPtpStates (s : State) : State := [0, 1, 2, 3].foldl (fun t p => modNet t p (fun x => { x with ptp := ptpState s p })) s

/-- The clock class announced on master ports (Table NET-3). -/
def announcedClass (s : State) : Nat :=
  match s.net.servo with
  | .holdover => 7
  | .freeRun => 248
  | .degraded => 248
  | _ =>
    let p := if s.net.slave < 4 then some s.net.slave else [0, 1, 2, 3].find? (fun p => (netPort s p).master.isSome)
    match p with
    | some p => ((bestMaster s p).map (·.data.clockClass)).getD 248
    | none => 248

/-- The frequency kept in HOLDOVER: that of the last 60 s in LOCKED, as the mean of its updates (R361; log 152). -/
def heldFreq (n : Net) : Int := if n.lockFreqs = [] then n.freq else n.lockFreqs.foldl (· + ·) 0 / n.lockFreqs.length

/-- Entry to HOLDOVER with a cause: flagged, with the frequency kept (R359, R361). -/
def toHoldover (s : State) (cause : Nat) : State :=
  netRaise { s with net := { s.net with
    servo := .holdover, servoCause := cause, holdSince := s.now, lockRun := 0, freq := heldFreq s.net, base := heldFreq s.net } } 5

/-- The servo has lost what it followed: it enters HOLDOVER, unless it is there or DEGRADED already (R359). -/
def enterHoldover (s : State) (cause : Nat) : State :=
  if s.net.servo = .holdover ∨ s.net.servo = .degraded then { s with net := { s.net with servoCause := cause } } else toHoldover s cause

/-- The SLAVE port has lost its master: another port becomes SLAVE at the next servo update (R355, R359). -/
def slaveLost (s : State) (p cause : Nat) : State :=
  if s.net.slave ≠ p then s
  else
    let s1 := { s with net := { s.net with slave := 7 } }
    if s1.net.servo = .acquiring ∨ s1.net.servo = .locked then enterHoldover s1 cause else s1

/-- Select the SLAVE port at a servo update (R355, R356), with MASTER_CHANGE when its grandmaster is another (R365). -/
def selectSlave (s : State) : State :=
  let s1 := [0, 1, 2, 3].foldl followMaster s
  match (if steersItself s1 then bestPort s1 else none) with
  | none =>
    let s2 := if s1.net.slave < 4 && steersItself s1 then slaveLost s1 s1.net.slave 1 else { s1 with net := { s1.net with slave := 7 } }
    setPtpStates s2
  | some p =>
    let g := (netPort s1 p).grandmaster
    let changed := decide (s1.net.followed ≠ some g)
    let s2 := { s1 with net := { s1.net with
      slave := p, followed := some g, aboveRun := if changed then 0 else s1.net.aboveRun, belowRun := if changed then 0 else s1.net.belowRun
      servo := if s1.net.servo = .freeRun then .acquiring else s1.net.servo
      servoCause := if s1.net.servoCause = 4 then 0 else s1.net.servoCause } }
    let s3 := if changed && s1.net.followed.isSome then
        post (netRaise s2 4) .ptpMasterChange 0 (g % 4294967296) (g % 4294967296) (g / 4294967296)
      else s2
    setPtpStates s3

/-- The former active of a handover is past its boundary: launch times and reference messages from there belong to the new active (R369, R390). -/
def pastHandover (s : State) : Bool :=
  match s.exe.handover with
  | some h => (h.boundary.map (fun b => decide (b ≤ s.now))).getD false
  | none => false

/-! ## Accepted steps (R363, R364) -/

/-- Shift a time of the module's by a step of `d` ns. -/
def shiftTime (d : Int) (t : Nat) : Nat := (Int.ofNat t + d).toNat

/-- The executive rebases its running timers, in force and in the retain shadow, and the starts of running instances (R45). -/
def rebaseTimers (s : State) (d : Int) : State :=
  let f (p : Nat × Fb) : Nat × Fb := (p.1, if p.2.running then { p.2 with start := p.2.start + BitVec.ofInt 64 d } else p.2)
  let g (p : Nat × Task) : Nat × Task := (p.1, if p.2.state = .running then { p.2 with start := shiftTime d p.2.start } else p.2)
  raise { s with exe := { s.exe with
    fbs := s.exe.fbs.map f, shadow := { s.exe.shadow with fbs := s.exe.shadow.fbs.map f }, tasks := s.exe.tasks.map g } } Reg.exeFlags 0 3

/-- Add `n` to a counter, modulo 2^32. -/
def countBy (s : State) (a i n : Nat) : State := setCounter s a i (counter s a i + word n)

/-- How many multiples of `m`, shifted by `c`, lie above `lo` and below `hi`. -/
def gridBetween (m c lo hi : Nat) : Nat :=
  if m = 0 then 0
  else
    let upTo (t : Nat) : Nat := if t < c then 0 else (t - c) / m + 1
    upTo (hi - 1) - upTo lo

/-- The next base-cycle boundary after a step: the first grid point at least 50 µs after it (R364). -/
def firstBoundary (s : State) : Nat := (s.now + 50000 + baseNs s - 1) / baseNs s * baseNs s

/-- Releases whose grid points a forward step jumped over count as skipped, with cause TIME_STEP (R364). -/
def skipJumped (s : State) (old : Nat) : State :=
  if old < s.now ∧ owner s = true ∧ s.exe.station = .run then
    (List.range 16).foldl (fun t n =>
      if (task t n).defined ∧ (task t n).state ≠ .fault then skipRelease t n (gridBetween (periodNs t n) 0 old (firstBoundary s)) .timeStep else t) s
  else s

/-- Post TT_LATE of an entry, at most once per second (R368). -/
def postLate (s : State) (p i : Nat) : State :=
  let x := netPort s p
  let due := match storeGet (fun _ => none) x.latePost i with
    | some t => decide (t + 1000000000 ≤ s.now)
    | none => true
  let s1 := netRaise s 8
  if due then post (setNetPort s1 p { x with latePost := storeSet (fun _ => none) x.latePost i (some s.now) }) .ttLate p i p 0 else s1

/-- A field of a schedule entry (Table NET-7). -/
def ttField (s : State) (p i o n : Nat) : Nat := ofLe (getStore (netPort s p).schedule (32 * i + o) n)

/-- The schedule entries of a port that are enabled. -/
def ttEnabled (s : State) (p : Nat) : List Nat := (List.range 256).filter (fun i => decide (ttField s p i 1 1 % 2 = 1))

/-- Launch times after `old` and before now that no module served, or that a step jumped over, are late under DROP (R369). -/
def lateJumped (s : State) (old : Nat) : State :=
  if old < s.now ∧ owner s = true then
    [0, 1, 2, 3].foldl (fun t p => (ttEnabled s p).foldl (fun u i =>
      let n := gridBetween (ttField s p i 8 8) (ttField s p i 16 4) old s.now
      if n = 0 then u else postLate (countBy u Reg.netSnapTtlate p n) p i) t) s
  else s

/-- A CAN port that follows a time master drops what it measured against the old time (R364, R387). -/
def dropReference (x : CanPort) : CanPort := if x.tstate = 3 then x else { x with offset := 0, measured := 0, stamp := none }

/-- Module time takes an accepted step of `d` ns, and the islands respond (R364); the servo is ACQUIRING, and the measurements of the
old time are dropped. -/
def stepTime (s : State) (d : Int) : State :=
  let old := s.now
  let s1 := { s with now := shiftTime d s.now }
  let s2 := gmuTimeStep (rebaseTimers s1 d)
  let s3 := { s2 with hz := { s2.hz with slot := some (s2.now / 50000) }, exe := { s2.exe with releaseFrom := firstBoundary s2 } }
  let s4 := lateJumped (skipJumped s3 old) old
  let s5 := [0, 1, 2, 3].foldl (fun t p => modNet t p (fun x => { x with offset := none, forward := none, syncWait := none, measured := 0 })) s4
  let s5c := [0, 1, 2, 3].foldl (fun t p => modPort t p dropReference) s5
  let s6 := { s5c with net := { s5c.net with
    servo := .acquiring, servoCause := if steersItself s5c then 0 else 4, refused := 0, jumpRefused := false, aboveRun := 0, belowRun := 0
    lockRun := 0, acceptJump := false, step := none, initStepped := true } }
  let w : BitVec 64 := BitVec.ofInt 64 d
  let s7 := post (netRaise s6 7) .timeStepped 0 0 (w.toNat % 4294967296) (w.toNat / 4294967296)
  concludeAll s7 (fun x => decide (x.opcode = 0x0C02)) .ok 0 (fun _ _ => leBytes 8 w.toNat)

/-- The servo decides a step of `d` ns: an ACTIVE module names its instant to the partner, and both apply it then; the lead is not given
and is a free value (R364; log 55). Without a partner it is applied at once. -/
def acceptStep (s : State) (d : Int) : State :=
  if s.pair.role = .active then
    let at_ := s.now + 1 + (freeNow s).toNat % 62500000
    send (freeNext { s with net := { s.net with step := some (d, at_), initStepped := true } }) (.time (BitVec.ofInt 64 d).toNat at_)
  else stepTime s d

end Sys2Proof.Machine
end

