-- ==== Sys2Proof/Machine/Can.lean ====
section
/-! DEFINITION. Machine/Can.lean: the CAN FD ports (R371 to R392) and the commands of the 0x0Dxx family. -/
namespace Sys2Proof.Machine
open Sys2Proof

/-! ## Error counters and states (R380 to R382) -/

/-- Post a port's event. -/
def canPost (s : State) (e : Event) (p : Nat) : State := post s e p p 0 0

/-- CAN_ERR.LEC of an error. -/
def lecOf : CanError → Nat
  | .stuff => 1 | .form => 2 | .ack => 3 | .bit1 => 4 | .bit0 => 5 | .crc => 6 | .resRecessive => 2

/-- The port counts errors: it is normal and not off the bus (R380, R388). -/
def canCounts (s : State) (p : Nat) : Bool := canNormal s p && decide ((canPort s p).errState < 2)

/-- Every buffer with a frame shows HELD_BUSOFF (R380). -/
def holdBuffers (x : CanPort) : CanPort :=
  { x with buffers := x.buffers.map (fun b => if b.entry.isSome then { b with state := 3 } else b) }

/-- The port enters bus-off: under AUTO the recovery sequence starts at once (R380, R381). -/
def canBusOff (s : State) (p : Nat) : State :=
  let cmd := decide (canCfg s p 4 4 = 1)
  canPost (canRaise (modPort s p (fun x => { holdBuffers x with errState := if cmd then 2 else 3, recoveryWait := cmd })) p 1) .canBusOff p

/-- The error states that follow the counters: warning at 96, passive above 127, bus-off above 255 (R380). -/
def canErrorStates (s : State) (p : Nat) : State :=
  let x := canPort s p
  let warn := decide (96 ≤ x.tec) || decide (96 ≤ x.recCount)
  let passive := decide (127 < x.tec) || decide (127 < x.recCount)
  let s1 := setPort s p { x with warning := warn, errState := if 2 ≤ x.errState then x.errState else b2n passive }
  let s2 := if warn && !x.warning then canPost (canRaise s1 p 9) .canErrorWarning p else s1
  let s3 := if passive && decide (x.errState = 0) then canPost (canRaise s2 p 0) .canErrorPassive p else s2
  if decide (255 < x.tec) && decide (x.errState < 2) then canBusOff s3 p else s3

/-- Set a port's counters and let the states follow. -/
def canCount (s : State) (p tec recv : Nat) : State :=
  canErrorStates (modPort s p (fun x => { x with tec := tec, recCount := min recv 128 })) p

/-- An error frame is seen: counted, with its LEC; a receiver that drives the bus counts REC, 8 more for each dominant bit that ISO 11898-1
counts (R380; log 47). -/
def canErrorSeen (s : State) (p : Nat) (e : BusError) : State :=
  let s1 := modPort (countUp s Reg.canSnapErr p) p (fun x => { x with lec := lecOf e.kind })
  if canCounts s p then canCount s1 p (canPort s p).tec ((canPort s p).recCount + 1 + 8 * e.dominant) else s1

/-! ## Transmission (R374 to R377) -/

/-- The buffer in transmission. -/
def transmitting (x : CanPort) : Option (Nat × TxEntry) :=
  match [0, 1, 2].find? (fun b => decide ((txb x b).state = 2)) with
  | some b => (txb x b).entry.map (fun e => (b, e))
  | none => none

/-- A CAN_SEND ends with its outcome in DETAIL.WHERE (R377). Its entry is found by its port and its place in the queueing order. -/
def sendOutcome (s : State) (p : Nat) (e : TxEntry) (outcome : Nat) : State :=
  if e.src = .send then
    concludeAll s (fun x => decide (x.opcode = 0x0D03) && decide (x.subject = 4 * e.order + p)) .ok outcome (fun _ _ => [])
  else s

/-- A buffer is released with its outcome. -/
def releaseBuffer (s : State) (p b : Nat) (e : TxEntry) (outcome : Nat) : State :=
  sendOutcome (modPort s p (fun x => setTxb x b { state := 0, outcome := outcome, entry := none })) p e outcome

/-- A frame that is not one-shot stays pending for its retransmission (R377); from TB0 of a time master, which keeps it for reference messages,
it goes back to the list (R376). -/
def retryBuffer (s : State) (p b : Nat) (outcome : Nat) : State :=
  modPort s p (fun x =>
    match (txb x b).entry with
    | some e => if x.tstate = 3 ∧ b = 0 then returnEntry (setTxb x b { state := 0, outcome := outcome, entry := none }) e
      else setTxb x b { txb x b with state := 1, outcome := outcome }
    | none => x)

/-- The bus has carried an object's frame: recorded when it is the last committed payload (R389). -/
def markCarried (x : CanPort) (f : CanFrame) : CanPort :=
  x.objects.foldl (fun y d =>
    let t := txState y d.object
    let own := objectFrame d t.data
    if t.committed && decide (own.id = f.id ∧ own.ext = f.ext ∧ own.data = f.data) then setTxState y d.object { t with carried := true } else y) x

/-- An FD frame with BRS has the loop delay measured at its FDF-to-res edge, however it ends after it (R372). -/
def measureDelay (x : CanPort) (e : TxEntry) (loopDelay : Nat) : CanPort :=
  if e.frame.fdf && e.frame.brs then { x with tdcv := loopDelay % 256 } else x

/-- Frame in buffer `b` was sent and acknowledged. -/
def canSent (s : State) (p b : Nat) (e : TxEntry) (sof loopDelay : Nat) : State :=
  let x := canPort s p
  let y := markCarried { x with ackErrors := 0, noPartner := false } e.frame
  let z := if e.src = .reference then { y with stamp := some sof, prevAcked := true, alone := false } else y
  canCount (releaseBuffer (countUp (setPort s p (measureDelay z e loopDelay)) Reg.canSnapTx p) p b e 1) p (x.tec - 1) x.recCount

/-- Frame in buffer `b` met no acknowledge: TEC rises to error passive and stops there, but for a dominant bit in a passive error flag; after 16
in a row the port has no partner (R382, R386). -/
def canNoAck (s : State) (p b : Nat) (e : TxEntry) (sof loopDelay : Nat) (dominant : Bool) : State :=
  let x := canPort s p
  let n := x.ackErrors + 1
  let y := { x with ackErrors := n, lec := 3, noPartner := x.noPartner || decide (16 ≤ n) }
  let z := if e.src = .reference then { y with alone := true, stamp := some sof, prevAcked := false } else y
  let s1 := countUp (setPort s p (measureDelay z e loopDelay)) Reg.canSnapErr p
  let s2 := if decide (16 ≤ n) && !x.noPartner then canPost (canRaise s1 p 3) .canNoPartner p else s1
  let s3 := if e.oneShot then releaseBuffer s2 p b e 2 else retryBuffer s2 p b 2
  canCount s3 p (if x.errState = 0 ∨ dominant = true then x.tec + 8 else x.tec) x.recCount

/-- Frame in buffer `b` met an error: TEC rises by 8, but for the errors that ISO 11898-1 excepts, and by 8 for each dominant bit it counts
(R377, R380). A frame held by the bus-off this causes stays held. The error comes before the FDF-to-res edge where the loop delay is 0. -/
def canTxError (s : State) (p b : Nat) (e : TxEntry) (loopDelay : Nat) (k : BusError) : State :=
  let x := canPort s p
  let y := { x with lec := lecOf k.kind, ackErrors := 0 }
  let z := if e.src = .reference then { y with stamp := none, prevAcked := false } else y
  let s1 := countUp (setPort s p (if loopDelay = 0 then z else measureDelay z e loopDelay)) Reg.canSnapErr p
  let s2 := if e.oneShot then releaseBuffer s1 p b e 3 else retryBuffer s1 p b 3
  canCount s2 p (x.tec + (if k.uncounted then 0 else 8) + 8 * k.dominant) x.recCount

/-- Frame in buffer `b` lost the arbitration. -/
def canLostArb (s : State) (p b : Nat) (e : TxEntry) : State :=
  let s1 := if e.src = .reference then modPort s p (fun x => { x with stamp := none, prevAcked := false }) else s
  if e.oneShot then releaseBuffer s1 p b e 4 else retryBuffer s1 p b 4

/-- CAN_FRAME_TX_END (R377): the frame in transmission ends; the buffers then offer the next (R376). -/
def execCanFrameTxEnd (port : Fin 4) (outcome : CanEnd) (sof loopDelay : Nat) (s : State) : Host.Outcome State Fault Refusal :=
  let p := port.val
  match transmitting (canPort s p) with
  | none => .next s
  | some (b, e) =>
    let s1 := match outcome with
      | .sent => canSent s p b e sof loopDelay
      | .noAck dominant => canNoAck s p b e sof loopDelay dominant
      | .error k => canTxError s p b e loopDelay k
      | .lostArb => canLostArb s p b e
    .next (canFeed s1 p)

/-- CAN_CYCLIC_QUEUE (R374): a cyclic object is queued every PERIOD ms, counted from the PTP epoch; with RUN_ONLY not outside RUN. -/
def execCanCyclicQueue (port : Fin 4) (obj : Fin 32) (s : State) : Host.Outcome State Fault Refusal :=
  let p := port.val
  match txObject (canPort s p) obj.val with
  | some d =>
    if owner s && d.enabled && d.cyclic && decide (s.now % (d.period * 1000000) = 0) && (txState (canPort s p) obj.val).committed
        && (!d.runOnly || decide (s.exe.station = .run)) then .next (queueObject s p d)
    else .next s
  | none => .next s

/-! ## Receiving (R378, R379) -/

/-- A received frame as its 96-byte record (Table CAN-4). -/
def canRecord (f : CanFrame) (filter sof count : Nat) : List Byte :=
  leBytes 4 (f.id % 536870912 + 536870912 * b2n f.ext + 1073741824 * b2n f.rtr) ++ leBytes 1 f.dlc
    ++ leBytes 1 (b2n f.fdf + 2 * b2n f.brs + 4 * b2n f.esi) ++ leBytes 1 filter ++ leBytes 1 0
    ++ leBytes 8 (sof / 1000000000) ++ leBytes 4 (sof % 1000000000)
    ++ (f.data ++ List.replicate (64 - f.data.length) 0).take 64 ++ leBytes 4 count ++ leBytes 8 0

/-- Bytes `a` to `a + n - 1` of a port's filters. -/
def filterField (x : CanPort) (a n : Nat) : Nat := ofLe ((List.range n).map (fun i => storeGet (fun _ => 0) x.filters (a + i)))

/-- Filter `k` is enabled and matches a frame: (ID XOR filter ID) AND MASK = 0, and the IDE bits agree (R378). -/
def filterMatches (x : CanPort) (f : CanFrame) (k : Nat) : Bool :=
  let id := filterField x (16 * k) 4
  let mask := filterField x (16 * k + 4) 4 % 536870912
  decide (filterField x (16 * k + 8) 1 ≠ 0) && decide ((f.id ^^^ (id % 536870912)) &&& mask = 0) && decide (id.testBit 29 = f.ext)

/-- A record goes to the receive FIFO, which holds 64; one that finds it full is lost and counted, and posted at most once per second
(R379). -/
def fifoPush (s : State) (p : Nat) (record : List Byte) : State :=
  let x := canPort s p
  if x.count < 64 then
    setPort s p { x with slots := storeSet (fun _ => []) x.slots ((x.head + x.count) % 64) record, count := x.count + 1 }
  else
    let s1 := canRaise (countUp s Reg.canSnapOvr p) p 4
    let due := match x.overrunPost with
      | some t => decide (t + 1000000000 ≤ s.now)
      | none => true
    if due then canPost (modPort s1 p (fun y => { y with overrunPost := some s.now })) .canRxOverrun p else s1

/-- The COUNT of a receive object's record. -/
def objectCount (x : CanPort) (o : Nat) : Nat := blockField (storeGet (fun _ => []) x.rxObjects o) 84 4

/-- The first enabled filter that matches decides the frame's fate; without one it is discarded, or placed in the FIFO (R378). -/
def canFilter (s : State) (p : Nat) (f : CanFrame) (sof : Nat) : State :=
  let x := canPort s p
  match (List.range 32).find? (filterMatches x f) with
  | none => if canCfg s p 5 5 = 1 then fifoPush s p (canRecord f 0xFF sof 0) else s
  | some k =>
    match filterField x (16 * k + 8) 1 with
    | 1 => fifoPush s p (canRecord f k sof 0)
    | 2 =>
      let o := filterField x (16 * k + 9) 1 % 32
      let record := canRecord f k sof ((objectCount x o + 1) % 4294967296)
      areaPut (setPort s p { x with rxObjects := storeSet (fun _ => []) x.rxObjects o record }) (x.rxBase + 96 * o) record
    | _ => s

/-- A field of CAN_TIME_CFG in force. -/
def canTimeCfg (s : State) (p hi lo : Nat) : Nat := cfgField s Reg.canTimeCfg p hi lo

/-- The priority of a reference message of this port's time service (R383, R384). -/
def referencePrio (s : State) (p : Nat) (f : CanFrame) : Option Nat :=
  if !f.ext && f.fdf && decide (f.dlc = 9) && decide (f.id / 8 * 8 = canTimeCfg s p 31 21) then some (f.id % 8) else none

/-- Signed difference of two counts of seconds held in 32 bits. -/
def secondsBetween (a b : Nat) : Int := (BitVec.ofNat 32 a - BitVec.ofNat 32 b).toInt

/-- The offset of R387: the master's stated time of its previous message, less the own stamp of it, less PROP, saturating. -/
def referenceOffset (s : State) (p : Nat) (f : CanFrame) (stamp : Nat) : Int :=
  let d := secondsBetween (blockField f.data 4 4) (stamp / 1000000000) * 1000000000
    + (Int.ofNat (blockField f.data 8 4) - Int.ofNat (stamp % 1000000000)) - 25 * Int.ofNat (canTimeCfg s p 4 0)
  clampInt (-2147483648) 2147483647 d

/-- The port ceases to be master (R385). -/
def becomeBackup (s : State) (p : Nat) : State := modPort s p (fun x => { x with tstate := 2, alone := false, quietFrom := s.now })

/-- A reference message of priority `q` is received in SLAVE or BACKUP: the offset where the message before it was this master's, and the
stamp kept for the next (R387, R390). -/
def hearReference (s : State) (p q : Nat) (f : CanFrame) (sof : Nat) : State :=
  let x := canPort s p
  let valid := (blockField f.data 1 1).testBit 0
  let same := x.masterSeen && decide (x.master = q)
  let off := x.stamp.bind (fun t => if valid && same then some (referenceOffset s p f t) else none)
  setPort s p { x with offset := off.getD x.offset, measured := if off.isSome then x.measured + 1 else 0
                       quietFrom := if q < canTimeCfg s p 10 8 then s.now else x.quietFrom, refSince := some s.now, stamp := some sof, prevAcked := true, seq := blockField f.data 0 1, master := q, masterSeen := true
                       partnerMaster := decide (x.tstate = 2) && decide (q = canTimeCfg s p 10 8) }

/-- What a port does with a reference message (R385, R387). -/
def onReference (s : State) (p q : Nat) (f : CanFrame) (sof : Nat) : State :=
  let x := canPort s p
  let own := canTimeCfg s p 10 8
  if x.tstate = 0 then s
  else if x.tstate = 3 then
    if q < own then hearReference (becomeBackup s p) p q f sof
    else if q = own then
      modPort (hearReference (canPost (canRaise (becomeBackup s p) p 7) .canRefConflict p) p q f sof) p (fun y => { y with partnerMaster := false })
    else s
  else hearReference s p q f sof

/-- A frame received without error: counted, REC reduced, compared with the objects of a module that does not own the field (R389), taken
as a reference message, and filtered. -/
def canReceive (s : State) (p : Nat) (f : CanFrame) (sof : Nat) : State :=
  let x := canPort s p
  let s1 := countUp s Reg.canSnapRx p
  let s2 := if canCounts s p then
      if 127 < x.recCount then freeNext (canCount s1 p x.tec (119 + (freeNow s).toNat % 9)) else canCount s1 p x.tec (x.recCount - 1)
    else s1
  let s3 := if owner s then s2 else modPort s2 p (fun y => markCarried y f)
  let s4 := match referencePrio s p f with
    | some q => onReference s3 p q f sof
    | none => s3
  canFilter s4 p f sof

/-- CAN_FRAME_RX (R379): a frame is received, with the module time of its SOF sample point. A disabled port and one off the bus receive
nothing; with FD_EN = 0 an FD frame is an error. -/
def execCanFrameRx (port : Fin 4) (frame : CanFrame) (sof : Nat) (s : State) : Host.Outcome State Fault Refusal :=
  let p := port.val
  let m := canOpmode s p
  if m = 0 ∨ m = 3 ∨ (m = 2 ∧ 2 ≤ (canPort s p).errState) ∨ s.now < (canPort s p).integrating then .next s
  else if frame.fdf && decide (canCfg s p 1 1 = 0) then .next (canErrorSeen s p { kind := .form })
  else .next (canFeed (canReceive s p frame sof) p)

/-- A nominal bit of a port in ns: 1 + TSEG1 + TSEG2 time quanta of BRP × 12.5 ns (R372). -/
def bitNs (s : State) (p : Nat) : Nat :=
  (cfgField s Reg.canNbt p 7 0 + 1) * (3 + cfgField s Reg.canNbt p 17 10 + cfgField s Reg.canNbt p 24 18) * 25 / 2

/-- A protocol exception: the port goes to bus integration, which ends after 11 recessive bits; until then it offers and receives nothing, and
a frame it was offering waits. DESIGN CHOICE: no command reports those bits, and they are taken to follow at once (R371; log 154). -/
def protocolException (s : State) (p : Nat) : State :=
  canRaise (modPort s p (fun x => { x with
    integrating := s.now + 11 * bitNs s p, buffers := x.buffers.map (fun b => if b.state = 2 then { b with state := 1 } else b) })) p 10

/-- CAN_ERROR_FRAME (R380, R371): an error is seen on the bus. A recessive res bit is a protocol exception under PEX, else a form error. -/
def execCanErrorFrame (port : Fin 4) (k : BusError) (s : State) : Host.Outcome State Fault Refusal :=
  let p := port.val
  let m := canOpmode s p
  if m = 0 ∨ m = 3 ∨ (m = 2 ∧ 2 ≤ (canPort s p).errState) ∨ s.now < (canPort s p).integrating then .next s
  else if decide (k.kind = .resRecessive) && decide (canCfg s p 6 6 = 1) then .next (protocolException s p)
  else .next (canErrorSeen s p k)

/-- Release the head of the receive FIFO (R379). -/
def fifoPop (s : State) (p : Nat) : State :=
  modPort s p (fun x => if x.count = 0 then x else
    { x with slots := storeSet (fun _ => []) x.slots x.head [], head := (x.head + 1) % 64, count := x.count - 1 })

/-- CAN_RXF_POP (R379): a write of CAN_CTRL.RXF_POP. -/
def execCanRxfPop (port : Fin 4) (r : Requester) (s : State) : Host.Outcome State Fault Refusal :=
  .next (actionWrite s Reg.canCtrl r (fun t => fifoPop t port.val))

/-! ## Recovery (R381) -/

/-- The recovery sequence starts on a port that waits for it. -/
def startRecovery (s : State) (p : Nat) : State :=
  let x := canPort s p
  if x.recoveryWait then setPort s p { x with errState := 3, recoveryWait := false } else s

/-- Held frames are offered again, before the list: their buffers are pending, and nothing takes their place (R381). -/
def unholdBuffers (x : CanPort) : CanPort :=
  { x with buffers := x.buffers.map (fun b => if b.state = 3 then { b with state := 1, held := true } else b) }

/-- CAN_RECOVERED (R381): 128 occurrences of 11 recessive bits: error active with both counters 0, the held frames offered first. -/
def execCanRecovered (port : Fin 4) (s : State) : Host.Outcome State Fault Refusal :=
  let p := port.val
  if (canPort s p).errState = 3 then
    let s1 := modPort s p (fun x => { unholdBuffers x with errState := 0, tec := 0, recCount := 0, warning := false })
    .next (canFeed (canPost (canRaise s1 p 2) .canRecovered p) p)
  else .next s

/-- Release every buffer not in transmission, held ones included, with ABORTED (R381). -/
def abortBuffers (s : State) (p : Nat) : State :=
  [0, 1, 2].foldl (fun t b =>
    let y := txb (canPort t p) b
    match y.entry with
    | some e => if y.state = 2 then t else releaseBuffer t p b e 5
    | none => t) s

/-- CAN_TX_ABORT (R381): a write of CAN_CTRL.TX_ABORT; the list then feeds the free buffers. -/
def execCanTxAbort (port : Fin 4) (r : Requester) (s : State) : Host.Outcome State Fault Refusal :=
  .next (actionWrite s Reg.canCtrl r (fun t => canFeed (abortBuffers t port.val) port.val))

/-- CAN_CTRL_RECOVER (R381): a write of CAN_CTRL.RECOVER, ignored but for a port that waits under RECOVERY = 1. -/
def execCanCtrlRecover (port : Fin 4) (r : Requester) (s : State) : Host.Outcome State Fault Refusal :=
  .next (actionWrite s Reg.canCtrl r (fun t => startRecovery t port.val))

/-! ## The time service (R383 to R387, R390) -/

/-- The reference message of a master: 12 bytes (R384). -/
def referenceFrame (s : State) (p seq : Nat) : CanFrame :=
  let x := canPort s p
  let prio := canTimeCfg s p 10 8
  let t := x.stamp.getD 0
  { id := canTimeCfg s p 31 21 / 8 * 8 + prio, ext := false, fdf := true, brs := decide (canTimeCfg s p 5 5 = 1), dlc := 9
    data := leBytes 1 seq
      ++ leBytes 1 (b2n x.stamp.isSome + 2 * b2n x.prevAcked + 4 * b2n (decide (s.net.servo = .locked)) + 8 * b2n x.alone)
      ++ leBytes 1 prio ++ leBytes 1 0 ++ leBytes 4 (t / 1000000000) ++ leBytes 4 (t % 1000000000) }

/-- REF_PERIOD of a port in ns. -/
def refPeriodNs (s : State) (p : Nat) : Nat := canTimeCfg s p 20 11 * 1000000

/-- CAN_REF_DUE (R384): at every module time that is a multiple of REF_PERIOD a reference message is due: it is offered one-shot from TB0,
with SEQ one above the last. -/
def execCanRefDue (port : Fin 4) (s : State) : Host.Outcome State Fault Refusal :=
  let p := port.val
  let x := canPort s p
  if decide (x.tstate = 3) && canCounts s p && !pastHandover s && decide (x.integrating ≤ s.now) && decide ((txb x 0).state ≠ 2) && decide (s.now % refPeriodNs s p = 0) then
    let seq := (x.seq + 1) % 256
    let e : TxEntry := { src := .reference, frame := referenceFrame s p seq, oneShot := true, order := x.nextOrder }
    let y := setTxb { x with seq := seq, nextOrder := x.nextOrder + 1 } 0 { txb x 0 with state := 1, entry := some e }
    .next (canFeed (setPort s p y) p)
  else .next s

/-- A candidate becomes MASTER: TB0 is kept for reference messages, and a frame in it not in transmission returns to the list
(R376, R385). -/
def becomeMaster (s : State) (p : Nat) : State :=
  let x := canPort s p
  let y := match (txb x 0).entry with
    | some e => if (txb x 0).state = 2 then x else returnEntry (setTxb x 0 { txb x 0 with state := 0, held := false, entry := none }) e
    | none => x
  canPost (canRaise (setPort s p { y with tstate := 3, master := canTimeCfg s p 10 8 }) p 6) .canTimeMaster p

/-- CAN_TIME_MASTER (R385): (3 + p) × REF_PERIOD ÷ 2 without a valid reference message of a higher priority. Its first message states no
previous one. -/
def execCanTimeMaster (port : Fin 4) (s : State) : Host.Outcome State Fault Refusal :=
  let p := port.val
  let wait := (3 + canTimeCfg s p 10 8) * refPeriodNs s p / 2
  if decide ((canPort s p).tstate = 2) && canNormal s p && decide ((canPort s p).quietFrom + wait ≤ s.now) then
    .next (canFeed (becomeMaster (modPort s p (fun x => { x with stamp := none, prevAcked := false, alone := false })) p) p)
  else .next s

/-- A port whose time service the servo may follow: it is set as a time source, and has an offset from a master it hears (R387). -/
def canSource (s : State) : Option Nat :=
  [0, 1, 2, 3].find? (fun p =>
    let x := canPort s p
    decide (canCfg s p 7 7 = 1) && (decide (x.tstate = 1) || decide (x.tstate = 2)) && x.masterSeen && decide (0 < x.measured))

/-- The servo steers from a CAN port: it steers itself and no PTP port is SLAVE. -/
def followsCan (s : State) : Bool :=
  steersItself s && decide (4 ≤ s.net.slave) && (decide (s.net.servo = .acquiring) || decide (s.net.servo = .locked))

/-- CAN_TIME_LOST (R387): 3 × REF_PERIOD without a reference message in SLAVE or BACKUP. -/
def execCanTimeLost (port : Fin 4) (s : State) : Host.Outcome State Fault Refusal :=
  let p := port.val
  let x := canPort s p
  let lost := (x.refSince.map (fun t => decide (t + 3 * refPeriodNs s p ≤ s.now))).getD false
  if (x.tstate = 1 ∨ x.tstate = 2) ∧ lost = true then
    let s1 := setPort s p { x with masterSeen := false, refSince := none, measured := 0 }
    let s2 := if canSource s = some p ∧ followsCan s = true then enterHoldover s1 1 else s1
    .next (canPost (canRaise s2 p 8) .canTimeLost p)
  else .next s

/-! ## Taking the field (R389, R390) -/

/-- Frames left from an earlier ownership go no further: their CAN_SEND commands end ABORTED (log 49). -/
def dropStale (s : State) (p : Nat) : State :=
  let x := canPort s p
  let old := x.list ++ x.buffers.filterMap (·.entry)
  let empty : List TxBuffer := x.buffers.map (fun b => { b with state := 0, entry := none })
  old.foldl (fun t e => sendOutcome t p e 5) (setPort s p { x with list := [], buffers := empty })

/-- A port of the new owner: error active, every committed object that the bus has not carried since is queued, and the partner's place as
time master taken without a wait. -/
def canTake (s : State) (p : Nat) : State :=
  let s1 := modPort (dropStale s p) p (fun x => { x with errState := 0, tec := 0, recCount := 0, warning := false, recoveryWait := false })
  let due := (canPort s1 p).objects.filter (fun d =>
    let t := txState (canPort s1 p) d.object
    d.enabled && t.committed && !t.carried && (!d.cyclic || !d.runOnly || decide (s.exe.station = .run)))
  let s2 := due.foldl (fun t d => queueObject t p d) s1
  if (canPort s2 p).partnerMaster then modPort (becomeMaster s2 p) p (fun x => { x with partnerMaster := false }) else s2

/-- Every port takes the field. -/
def canTakeover (s : State) : State := [0, 1, 2, 3].foldl canTake s

/-! ## Settings (R372, R373, R391) -/

/-- The limits of CAN_TIME_CFG, and of Table CAN-1 with the timings that take effect together, for a value of a staged register. -/
def canCheck (a : Nat) (v : Word) (nbt dbt : Option Word) : Bool :=
  if a = Reg.canNbt then decide (nbt = some v)
  else if a = Reg.canDbt then decide (dbt = some v)
  else if a = Reg.canTimeCfg then
    decide (field v 31 21 % 8 = 0 ∧ 10 ≤ field v 20 11 ∧ field v 20 11 ≤ 1000 ∧ field v 7 6 ≠ 3)
  else true

/-- CAN_CFG takes effect: enabling asks Gourd for the standing claim of 200 mW, disabling ends it (R391). -/
def canEnable (s : State) (p : Nat) (old new : Word) : State :=
  if bit new 0 && !bit old 0 then
    askLogic (modPort s p (fun x => { x with awaiting := true })) .c2 0xA 200 none (.canBurst p)
  else if bit old 0 && !bit new 0 then
    let s1 := endClaim (modPort s p (fun x => { x with enabled := false, awaiting := false })) (.canBurst p)
    { s1 with grd := { s1.grd with c2 := s1.grd.c2.filter (fun r => decide (r.purpose ≠ .canBurst p)) } }
  else s

/-- CAN_TIME_CFG takes effect: the state the role gives (R383). -/
def canRole (s : State) (p : Nat) (old new : Word) : State :=
  if field old 7 6 = field new 7 6 then s
  else modPort s p (fun x => { x with
    tstate := field new 7 6, masterSeen := false, alone := false, stamp := none, partnerMaster := false, measured := 0
    quietFrom := s.now, refSince := some s.now })

/-- Apply one staged value of a port, or discard it with CFG_REFUSED (R335, R372); answers whether it took effect. -/
def canApplyOne (p : Nat) (nbt dbt : Option Word) (x : State × Bool) (k : Nat × Word) : State × Bool :=
  let s := x.1
  let a := k.1 % 1048576
  let old := cfg s a p
  if canCheck a k.2 nbt dbt then
    let s1 := setCfg s a p k.2
    (if a = Reg.canCfg then canEnable s1 p old k.2 else if a = Reg.canTimeCfg then canRole s1 p old k.2 else s1, true)
  else (canRaise s p 5, x.2)

/-- Staged values of a port take effect at the end of a frame or on the idle bus, in write order (R334, R373). -/
def canApply (s : State) (p : Nat) : State :=
  let ours (k : Nat × Word) : Bool := decide (k.1 % 1048576 / 65536 = 0xA) && decide (k.1 / 1048576 = p)
  let last (a : Nat) : Option Word := (s.staged.reverse.find? (fun k => decide (k.1 = rkey a p))).map (·.2)
  let nbt := nextNbt s p (last Reg.canNbt) (last Reg.canDbt)
  let dbt := nextDbt s p (last Reg.canNbt) (last Reg.canDbt)
  let x := (s.staged.filter ours).foldl (canApplyOne p nbt dbt) ({ s with staged := s.staged.filter (fun k => !ours k) }, false)
  if x.2 then canFeed (bumpApply x.1 Reg.canApply p) p else x.1

/-! ## Status -/

/-- TEC, REC and the error state as shown: 0 in listen-only (R388). -/
def canShown (s : State) (p : Nat) : CanPort :=
  let x := canPort s p
  if canOpmode s p = 1 then { x with tec := 0, recCount := 0, errState := 0, warning := false, recoveryWait := false } else x

/-- CAN_STAT (R392). -/
def canStat (s : State) (p : Nat) : Word :=
  let x := canShown s p
  fieldWord 8 8 (b2n x.recoveryWait) ||| fieldWord 5 4 (canOpmode s p) ||| fieldWord 3 3 (b2n x.noPartner)
    ||| fieldWord 2 2 (b2n x.warning) ||| fieldWord 1 0 x.errState

/-- CAN_ERR (R392). -/
def canErr (s : State) (p : Nat) : Word :=
  let x := canShown s p
  fieldWord 26 24 x.lec ||| fieldWord 23 23 (b2n (decide (127 < x.recCount))) ||| fieldWord 22 16 (min x.recCount 127)
    ||| fieldWord 7 0 (min x.tec 255)

/-- CAN_TXB (R392). -/
def canTxb (s : State) (p : Nat) : Word :=
  let x := canPort s p
  let b (n : Nat) : Nat := (txb x n).state + 16 * (txb x n).outcome
  fieldWord 31 24 x.list.length ||| fieldWord 23 16 (b 2) ||| fieldWord 15 8 (b 1) ||| fieldWord 7 0 (b 0)

/-- CAN_RXF (R392). -/
def canRxf (s : State) (p : Nat) : Word :=
  fieldWord 13 8 (canPort s p).head ||| fieldWord 6 0 (canPort s p).count

/-- CAN_TIME_STAT (R392). -/
def canTimeStat (s : State) (p : Nat) : Word :=
  let x := canPort s p
  fieldWord 15 8 x.seq ||| fieldWord 6 4 x.master ||| fieldWord 3 3 (b2n x.masterSeen) ||| fieldWord 2 2 (b2n x.alone)
    ||| fieldWord 1 0 x.tstate

/-! ## The commands -/

/-- CAN_STATUS (0x0D01, R322): CAN_STAT, CAN_ERR, CAN_TXB and CAN_TIME_STAT of a port (log 48). -/
def execCanStatus (c : Ctx) (port : BitVec 8) (s : State) : Host.Outcome State Fault Refusal :=
  .next (command s c 0x0D01 0xA (.canStatus c port) true fun s =>
    if 3 < port.toNat then refuse s c 0x0D01 .badParam 0
    else ok s c 0x0D01 ([canStat s port.toNat, canErr s port.toNat, canTxb s port.toNat, canTimeStat s port.toNat].flatMap
      (fun w => leBytes 4 w.toNat)))

/-- CAN_RECOVER (0x0D02, R381): BAD_PARAM unless the port is off the bus under RECOVERY = 1. -/
def execCanRecover (c : Ctx) (port : BitVec 8) (s : State) : Host.Outcome State Fault Refusal :=
  .next (command s c 0x0D02 0xA (.canRecover c port) (owner s) fun s =>
    if 3 < port.toNat ∨ (canPort s port.toNat).errState < 2 ∨ canCfg s port.toNat 4 4 = 0 then refuse s c 0x0D02 .badParam 0
    else ok (startRecovery s port.toNat) c 0x0D02 [])

/-- The frame is one the port can send: its identifier fits its format, and its data its length code; FD only with FD_EN. -/
def sendable (s : State) (p : Nat) (f : CanFrame) : Bool :=
  decide (f.id < (if f.ext then 536870912 else 2048)) && decide (f.dlc < 16) && decide (f.data.length = (if f.rtr then 0 else dlcBytes f.fdf f.dlc))
    && (f.fdf || decide (f.dlc ≤ 8)) && (!f.fdf || decide (canCfg s p 1 1 = 1)) && !(f.fdf && f.rtr)

/-- CAN_SEND (0x0D03, R375, R377): a one-shot frame joins the list, in STOP only; the reply follows its outcome. -/
def execCanSend (c : Ctx) (port : BitVec 8) (frame : CanFrame) (s : State) : Host.Outcome State Fault Refusal :=
  .next (command s c 0x0D03 0xA (.canSend c port frame) (owner s) fun s =>
    let p := port.toNat
    if 3 < p then refuse s c 0x0D03 .badParam 0
    else if !sendable s p frame then refuse s c 0x0D03 .badParam 1
    else if s.exe.station ≠ .stop then refuse s c 0x0D03 .notInStop (stationCode s.exe.station)
    else if (canPort s p).list.any (fun e => decide (e.src = .send)) then refuse s c 0x0D03 .busy 0
    else queueEntry (await s c 0x0D03 0xA (4 * (canPort s p).nextOrder + p)) p .send frame true)

/-- A port after an island reset: no errors, empty buffers, an empty list and FIFO, disabled until its settings are loaded again; what
stands in state memory is kept (R440, R444). -/
def canPortReset (x : CanPort) : CanPort :=
  { objects := x.objects, tx := x.tx, rxObjects := x.rxObjects, rxBase := x.rxBase }

/-- Every register of a window leaves the register file: the register, its value in force, its counters and its holding registers. -/
def clearWindow (s : State) (w : Nat) : State :=
  let out (k : Nat) : Bool := decide (k % 1048576 / 65536 ≠ w)
  { s with regs := s.regs.filter (fun q => out q.1), active := s.active.filter (fun q => out q.1)
           staged := s.staged.filter (fun q => out q.1), ctrs := s.ctrs.filter (fun q => out q.1)
           snaps := s.snaps.filter (fun q => decide (q.1 ≠ w)) }

/-- The CAN island after its reset: reset values, then the image's settings; each enabled port asks for its claim again (R440, R444). -/
def canIslandReset (s : State) : State :=
  let s1 := clearWindow s 0xA
  let s2 := { s1 with can := { ports := s1.can.ports.map (fun (q : Nat × CanPort) => (q.1, canPortReset q.2)) }
                      grd := { s1.grd with c2 := s1.grd.c2.filter (fun (r : Request) => decide (r.source ≠ 0xA))
                                           claims := s1.grd.claims.filter (fun (k : Claim) => decide (k.source ≠ 0xA)) } }
  let kept (t : State) (p : Nat) : State := modPort t p (fun x => { x with tx := (canPort s p).tx })
  let s3 := match s2.exe.image with
    | some im => [0, 1, 2, 3].foldl kept (installCan s2 im.can)
    | none => s2
  [0, 1, 2, 3].foldl canApply s3

end Sys2Proof.Machine
end

