-- ==== Sys2Proof/Machine/ImageChecks.lean ====
section
/-! DEFINITION. Machine/ImageChecks.lean: the checks of a loaded image: header, signature, sections and budgets (R62 to R64, R22, R41,
R57, R67, R70, R73, R76, R80, R173, R175, R201, R273, R274, R366, R374, R433 to R436). -/
namespace Sys2Proof.Machine
open Sys2Proof

/-! ## The anti-rollback counter and the signer (R434, R436) -/

/-- The anti-rollback counter: fuses blown (R436). -/
def arbCounter (s : State) : Nat := s.tru.fuses

/-- A certificate holds ENGINEER (R312). -/
def isEngineer (c : Certificate) : Bool := match c.roles with
  | some r => r.getLsbD 2
  | none => false

/-- TRU_SIGNER of an image (R434): 1 to 8 the operator slot whose certificate is the signer's and holds ENGINEER, 9 the production CA's
image signer, 0 none. -/
def signerOf (s : State) (im : Image) : Nat :=
  match (List.range 8).find? (fun k => match slotCert s (k + 1) with
    | some c => decide (c.der = im.signerDer) && isEngineer c
    | none => false) with
  | some k => k + 1
  | none => if im.signerIsImage then 9 else 0

/-- The image's signature is valid: an accepted signer, and the signature verifies (R434). -/
def imageSigned (s : State) (im : Image) : Bool := decide (signerOf s im ≠ 0) && im.signatureOk

/-- Raise a flag of TRU_FLAGS. -/
def truRaise (s : State) (n : Nat) : State := raise s Reg.truFlags 0 n

/-- The element verifies the image's signature: counted, and a bad one flagged and posted (R434, R438). -/
def verifyImage (s : State) (im : Image) : State :=
  let s1 := countUp s Reg.truSnapVerify 0
  if imageSigned s im then s1
  else post (truRaise (countUp s1 Reg.truSnapFail 0) 0) .imageSigInvalid 0 0 0 0

/-! ## Budgets -/

/-- Pair X utilisation: the sum of execution time over period is at most 0.80, in exact fractions (Table EXE-8). -/
def utilisationOk (ts : List (Nat × Nat)) : Bool :=
  let total := ts.foldl (fun (p : Nat × Nat) t => (p.1 * t.2 + t.1 * p.2, p.2 * t.2)) (0, 1)
  decide (10 * total.1 ≤ 8 * total.2)

/-- A(T) of R274 for a base cycle of `t` µs: the blocks three lanes carry, derated, less the fixed traffic. -/
def copyCapacity (t : Nat) : Nat := 31875 * t / 66 - 15 * t / 2

/-- Blocks of the records of one slot. -/
def slotBlocks (ds : List LoopDesc) (n : Nat) : Nat := ((ds.filter (fun d => loopDue d n)).map recordBlocks).sum

/-- The largest sum of record blocks in one base cycle of `m` slots, over every place of a cycle on the schedule. -/
def worstCycle (ds : List LoopDesc) (m : Nat) : Nat :=
  ((List.range 4096).map (fun b => ((List.range m).map (fun j => slotBlocks ds ((b * m + j) % 4096))).sum)).max?.getD 0

/-- The copy checks of R273 and R274. -/
def copyBudgetOk (im : Image) : Bool :=
  let t := im.header.baseCycle
  decide (im.copy.taskLines.sum ≤ 28672) && decide (9 * im.copy.lines + worstCycle im.loops (t / 50) ≤ copyCapacity t)

/-- The Hazel cost check of R76, and no more logical pods than physical ones in service (R31; loops of a logical pod without a physical
one are re-placed when the image is installed, R104). -/
def hazelCostOk (s : State) (im : Image) : Bool :=
  let pods := [1, 2, 3, 4].filter (fun p => im.loops.any (fun d => decide (d.pod = p)))
  pods.all (fun p => podFits (im.loops.filter (fun d => decide (d.pod = p))))
    && decide (pods.length ≤ (s.hz.podMap.filter (fun p => decide (p ≠ 0))).length)

/-- A declared channel's claims when on: standing mA, excess mA and its time in ns; none for a channel that claims nothing (Table PWB-2). -/
def declaredClaim (mode : Nat) (chload : Word) : Option (Nat × Nat × Nat) :=
  let i := loadOf mode chload
  if isDo mode then some (i, 1200 - i, field chload 5 0 * 100000)
  else if mode = 0x12 then some (22, 8, 100000000)
  else if isAo mode then some (i, 0, 0)
  else none

/-- Grant a list of requests in order from an empty model, each at the first moment R170 lets it, and answer the time of the last
grant; none when one never fits (R173). `fuel` bounds the moments tried. -/
def fullReturn : Nat → List (Nat × Nat × Nat) → Nat → List (Nat × Nat) → Option Nat → Nat → Option Nat
  | _, [], _, _, _, now => some now
  | 0, _ :: _, _, _, _, _ => none
  | fuel + 1, r :: rs, standing, xs, above, now =>
    let live := xs.filter (fun x => decide (now < x.2))
    let model := standing + (live.map (·.1)).sum
    let since := if 8000 < model then some (above.getD now) else none
    let xs' := if 0 < r.2.1 ∧ 0 < r.2.2 then live ++ [(r.2.1, now + r.2.2)] else live
    match r170 since (standing + r.1) xs' now with
    | none => fullReturn fuel rs (standing + r.1) xs' since now
    | some _ => match (live.map (·.2)).min? with
      | some t => fullReturn fuel (r :: rs) standing live since t
      | none => none

/-- The checks of R173 for one group's declarations: the standing claims, and a full return within `stagger` ns. DESIGN CHOICE: the AO claims,
which are taken at arming and not when an output is commanded on, stand before the return starts (log 139). -/
def groupReturnOk (ds : List (Nat × Nat × Word × Word)) (stagger : Nat) : Bool :=
  let claims := ds.filterMap (fun d => (declaredClaim d.2.1 d.2.2.1).map (fun k => (d, k)))
  let base := ((claims.filter (fun p => isAo p.1.2.1)).map (fun p => p.2.1)).sum
  let asked := (claims.filter (fun p => !isAo p.1.2.1)).mergeSort (fun a b =>
    let pa := field a.1.2.2.2 10 8
    let pb := field b.1.2.2.2 10 8
    decide (pa < pb) || (decide (pa = pb) && decide (a.1.1 ≤ b.1.1)))
  decide ((claims.map (fun p => p.2.1)).sum ≤ 8000)
    && (match fullReturn 64 (asked.map (·.2)) base [] none 0 with
      | some t => decide (t ≤ stagger)
      | none => false)

/-- The declarations of a group's channels: channel, mode, load and DO settings. -/
def groupDeclared (cs : List ChannelDecl) (g : Nat) : List (Nat × Nat × Word × Word) :=
  (cs.filter (fun d => decide (d.channel / 16 = g))).map (fun d => (d.channel, d.mode, d.chload, d.docfg))

/-- Gourd's load checks: every group under R173, and the declared logic cap between 36.50 W and 38.00 W, 0 for none (R175). -/
def gourdClassesOk (s : State) (im : Image) : Bool :=
  (List.range 12).all (fun g => groupReturnOk (groupDeclared im.channels g) (cfgField s Reg.grdCfg 0 4 0 * 1000000))
    && (decide (im.logicCap = 0) || (decide (36500 ≤ im.logicCap) && decide (im.logicCap ≤ 38000)))

/-! ## Sections -/

/-- A byte of the image's GMU tables. -/
def imageGmuByte (im : Image) (a : Nat) : Nat :=
  let m : Store Byte := im.gmu.bytes.foldl (fun m p => p.2.zipIdx.foldl (fun m q => storeSet gmuByte0 m (p.1 + q.2) q.1) m) []
  (storeGet gmuByte0 m a).toNat

/-- The mode an image gives a channel. -/
def imageMode (im : Image) (c : Nat) : Nat := ((im.channels.find? (fun d => decide (d.channel = c))).map (·.mode)).getD 0

/-- The first channel in a load group that is no DO, or group of a rank another has (R201). -/
def gmuFault (im : Image) : Option Nat :=
  match (List.range 192).find? (fun c => decide (imageGmuByte im (0xC00 + c) < 64) && !isDo (imageMode im c)) with
  | some c => some c
  | none =>
    let defined := (List.range 64).filter (fun g => decide (imageGmuByte im (0x401 + 16 * g) % 2 = 1))
    defined.find? (fun g => defined.any (fun h => decide (h < g) && decide (imageGmuByte im (0x400 + 16 * h) = imageGmuByte im (0x400 + 16 * g))))

/-- The first loop that breaks R67, R69, R70, R73 or R80. -/
def loopFault (im : Image) : Option Nat :=
  (im.loops.find? (fun d =>
    !loopOk d
    || (match loopOutChannel d with
        | some c => isDo (imageMode im c) && !doLevelsOk d
        | none => false)
    || (match innerOf d with
        | some n => (match im.loops.find? (fun e => decide (e.loop = n)) with
          | some e => !cascadeOk d e
          | none => true)
        | none => false))).map (·.loop)

/-- The payload sources of two transmit objects meet in state memory: SEND, 2 reserved bytes and the data (R374). -/
def sourcesMeet (a b : TxObject) : Bool :=
  decide (a.srcOfs < b.srcOfs + 4 + dlcBytes b.fdf b.dlc) && decide (b.srcOfs < a.srcOfs + 4 + dlcBytes a.fdf a.dlc)

/-- The first transmit object whose writer task the image does not have, or whose payload source another task writes too (R41, R374). -/
def canFault (im : Image) : Option Nat :=
  let os := (im.can.flatMap (·.objects)).filter (·.enabled)
  (os.find? (fun o => !(im.tasks.any (fun t => decide (t.task = o.writer))) || os.any (fun d => decide (d.writer ≠ o.writer) && sourcesMeet d o))).map (·.object)

/-- Two launch times of one queue coincide: the phases differ by a multiple of the periods' greatest common divisor (R366). -/
def launchesMeet (a b : TtEntry) : Bool :=
  let p (e : TtEntry) := blockField e.bytes 8 8
  let f (e : TtEntry) := blockField e.bytes 16 4
  let g := Nat.gcd (p a) (p b)
  decide (a.port = b.port) && decide (blockField a.bytes 0 1 = blockField b.bytes 0 1)
    && (blockField a.bytes 1 1).testBit 0 && (blockField b.bytes 1 1).testBit 0
    && (if g = 0 then decide (f a = f b) else decide (f a % g = f b % g))

/-- The addresses of a NET section are of the rule's forms: DOMAIN_PREFIX a /19 network, each cell prefix a /8 to /30 (R347). -/
def prefixesOk (d : NetImage) : Bool :=
  decide (d.domainPrefix % 8192 = 0) && decide (d.domainPrefix < 4294967296) && d.cellPrefix.all (fun n => decide (8 ≤ n) && decide (n ≤ 30))

/-- A NET section whose addresses are not of the rule's forms, shown as object 0 (R347); the first schedule entry with a template outside 60 to
1,514 bytes, or whose launch times coincide with an earlier one's (R366). -/
def netFault (im : Image) : Option Nat :=
  let es := im.net.schedule
  if !prefixesOk im.net then some 0
  else (es.find? (fun e =>
    decide (blockField e.bytes 2 2 < 60) || decide (1514 < blockField e.bytes 2 2)
    || es.any (fun d => decide (d.index < e.index) && launchesMeet d e))).map (·.index)

/-- An area of state memory that the HAZEL, GMU or safety section places off a 32-byte boundary (R81, R191, R214). -/
def areaFault (im : Image) : Option Nat := [im.loopBase, im.reportBase, im.safetyBase].find? (fun a => decide (a % 32 ≠ 0))

/-- The first condition of the sections' own chapters that an image breaks, with the object it lies in. -/
def sectionFault (im : Image) : Option Nat :=
  (areaFault im).or ((loopFault im).or ((gmuFault im).or ((canFault im).or (netFault im))))

/-! ## The load checks in order -/

/-- The header conditions of Table EXE-6: the offset of the first field that fails. -/
def headerFault (s : State) (h : ImageHeader) : Option Nat :=
  if h.mark ≠ 0x5A1B5349 then some 0
  else if h.hdrVersion ≠ 1 then some 4
  else if h.hdrLength ≠ 128 then some 6
  else if h.target ≠ 9 then some 32
  else if h.stationId ≠ 0xFFFF ∧ (2047 < h.stationId ∨ h.stationId ≠ s.sup.stationId) then some 34
  else if 8 ≤ h.flags ∨ h.flags % 4 = 3 then some 36
  else if h.baseCycle < 250 ∨ 1000 < h.baseCycle ∨ h.baseCycle % 50 ≠ 0 then some 48
  else if h.sectionCount = 0 ∨ 64 < h.sectionCount then some 52
  else if h.reserved54 ≠ 0 then some 54
  else if h.sigOffset + h.sigLength ≠ h.imageLength then some 64
  else if 33554432 < h.imageLength then some 72
  else if h.stopGrace = 0 ∨ 1000 < h.stopGrace then some 76
  else if h.retainPeriod < 100 ∨ 10000 < h.retainPeriod then some 80
  else if h.handoverDrain < 10 ∨ 1000 < h.handoverDrain then some 84
  else if h.reserved88 ≠ 0 then some 88
  else none

/-- The first element that also stands later in a list. -/
def firstRepeat : List Nat → Option Nat
  | [] => none
  | x :: xs => if xs.contains x then some x else firstRepeat xs

/-- Every writer of a channel output: tasks, then loops (R22). -/
def channelWriters (im : Image) : List Nat := im.tasks.flatMap (·.writes) ++ im.loops.filterMap loopOutChannel

/-- Every writer of an exchange variable, as the tasks' IO_MAPs declare it (R41). -/
def exchangeWriters (im : Image) : List Nat := im.tasks.flatMap (·.xwrites)

/-- The single-writer rules of R22, R41, R57 and R271: the offending identity, channel or codeword of state memory. -/
def structureFault (im : Image) : Option Nat :=
  (firstRepeat (channelWriters im)).or ((firstRepeat (im.objects.map (·.identity))).or ((firstRepeat (exchangeWriters im)).or
    (((im.objects.find? (fun o => ((o.exchange || o.retain) && decide (1 < o.writers.length)) || decide (1 < o.callers.length))).map (·.identity)).or
      (firstRepeat (im.codewords.map (·.1))))))

/-- The budget checks of Table EXE-8: the number of the first row that fails (counted from 1, log 16). -/
def budgetFault (s : State) (im : Image) : Option Nat :=
  let b := im.header.baseCycle
  let ts := im.tasks
  if ts.any (fun t => decide (t.period = 0) || decide (60000000 < t.period * b)) then some 1
  else if ts.any (fun t => decide (t.period * b < t.wcetUs)) then some 2
  else if !utilisationOk (ts.map (fun t => (t.wcetUs, t.period * b))) then some 3
  else if ts.any (fun t => decide (16384 < t.inputBytes)) || decide (65536 < (ts.map (·.inputBytes)).sum) then some 4
  else if 15728640 < im.stateBytes then some 5
  else if 2097152 < im.retainBytes then some 6
  else if !copyBudgetOk im then some 7
  else if !hazelCostOk s im then some 8
  else if !gourdClassesOk s im then some 9
  else none

/-! ## The image's bytes (Tables EXE-6, EXE-7) -/

/-- A little-endian field of an image: `n` bytes at offset `a`. -/
def imageField (bs : List Byte) (a n : Nat) : Nat := blockField bs a n

/-- The header that an image's first 128 bytes spell (Table EXE-6). -/
def imageHeaderOf (bs : List Byte) : ImageHeader :=
  let u (a n : Nat) : Nat := imageField bs a n
  { mark := u 0 4, hdrVersion := u 4 2, hdrLength := u 6 2, programId := u 8 16, releaseVersion := u 24 4, securityVersion := u 28 4
    target := u 32 2, stationId := u 34 2, flags := u 36 4, buildTime := u 40 8, baseCycle := u 48 4, sectionCount := u 52 2
    reserved54 := u 54 2, sectionTable := u 56 4, budget := u 60 4, sigOffset := u 64 4, sigLength := u 68 4, imageLength := u 72 4
    stopGrace := u 76 4, retainPeriod := u 80 4, handoverDrain := u 84 4, reserved88 := u 88 40 }

/-- Offset of entry `i` of the section table, whose entries are 16 bytes: type, flags, offset, length and CRC-32C (R63). -/
def sectionAt (bs : List Byte) (i : Nat) : Nat := imageField bs 56 4 + 16 * i

/-- The bytes of section `i`. -/
def sectionBody (bs : List Byte) (i : Nat) : List Byte :=
  (bs.drop (imageField bs (sectionAt bs i + 4) 4)).take (imageField bs (sectionAt bs i + 8) 4)

/-- Section `i` lies inside the image, before the signature block, with flags 0 and a type of Table EXE-7. -/
def sectionEntryOk (bs : List Byte) (i : Nat) : Bool :=
  let a := sectionAt bs i
  decide (1 ≤ imageField bs a 2) && decide (imageField bs a 2 ≤ 12) && decide (imageField bs (a + 2) 2 = 0)
    && decide (a + 16 ≤ bs.length) && decide (imageField bs (a + 4) 4 + imageField bs (a + 8) 4 ≤ imageField bs 64 4)

/-- The checks of the section table: an entry that is malformed is BAD_PARAM at its offset (log 102), one whose CRC-32C fails is
BAD_CRC with its index (R63). -/
def sectionTableFault (bs : List Byte) : Option (Code × Nat × Nat) :=
  let sections := List.range (imageField bs 52 2)
  match sections.find? (fun i => !sectionEntryOk bs i) with
  | some i => some (.badParam, sectionAt bs i, 0)
  | none => (sections.find? (fun i => decide (imageField bs (sectionAt bs i + 12) 4 ≠ crc32c (sectionBody bs i)))).map (fun i => (.badCrc, i, 0))

/-- The bytes of the TASKS section, if the image has one. -/
def tasksSection (bs : List Byte) : List Byte :=
  match (List.range (imageField bs 52 2)).find? (fun i => decide (imageField bs (sectionAt bs i) 2 = 1)) with
  | some i => sectionBody bs i
  | none => []

/-- The tasks of an image: the 16-byte entries of its TASKS section (Table EXE-7), each with the IO_MAP that the decoded contents give
that task. -/
def tasksOf (bs : List Byte) (maps : List TaskDecl) : List TaskDecl :=
  let sec := tasksSection bs
  (List.range (sec.length / 16)).map (fun i =>
    let n := imageField sec (16 * i) 1
    let m : Option TaskDecl := maps.find? (fun d => d.task == n)
    { task := n, stopTask := (imageField sec (16 * i + 1) 1).testBit 0, period := imageField sec (16 * i + 4) 4
      wcetUs := imageField sec (16 * i + 8) 4, inputBytes := imageField sec (16 * i + 12) 4
      reads := (m.map (·.reads)).getD [], writes := (m.map (·.writes)).getD [], xreads := (m.map (·.xreads)).getD []
      xwrites := (m.map (·.xwrites)).getD [], loops := (m.map (·.loops)).getD [] })

/-- CERT_LEN of the signature block at SIG_OFFSET (R433). -/
def signerLength (bs : List Byte) : Nat := imageField bs (imageField bs 64 4 + 6) 2

/-- The signature block has its MARK and VERSION, a CERT_LEN in its range, and the length that the header states (R433). -/
def signatureBlockOk (bs : List Byte) : Bool :=
  let a := imageField bs 64 4
  decide (imageField bs a 4 = 0x5A1B5347) && decide (imageField bs (a + 4) 2 = 1) && decide (1 ≤ signerLength bs)
    && decide (signerLength bs ≤ 2048) && decide (imageField bs 68 4 = 104 + signerLength bs)

/-- The DER of the signer certificate (R433). -/
def signerCert (bs : List Byte) : List Byte := (bs.drop (imageField bs 64 4 + 104)).take (signerLength bs)

/-- The image that its bytes spell: header, tasks and signature block decoded, the other sections as the decoded contents give them
(log 12). -/
def imageOf (bs : List Byte) (im : Image) : Image :=
  { im with header := imageHeaderOf bs, tasks := tasksOf bs im.tasks, sigBlockOk := signatureBlockOk bs, signerDer := signerCert bs }

/-- The outcome of the checks of R62 to R64, in their order: a status code with WHERE and IDENT, or none for a pass. `table` is what the
check of the section table came to. -/
def imageRefusal (s : State) (im : Image) (table : Option (Code × Nat × Nat)) : Option (Code × Nat × Nat) :=
  match headerFault s im.header with
  | some off => some (.badParam, off, 0)
  | none =>
    if !im.sigBlockOk then some (.badParam, 64, 0)
    else if !imageSigned s im then some (.signatureInvalid, 0, 0)
    else if 63 < im.header.securityVersion then some (.badParam, 28, 0)
    else if im.header.securityVersion < arbCounter s then some (.rollback, arbCounter s, 0)
    else match table with
      | some x => some x
      | none => match structureFault im with
        | some i => some (.badParam, 0xFFFFFFFF, i)
        | none => match sectionFault im with
          | some i => some (.badParam, 0xFFFFFFFF, i)
          | none => match budgetFault s im with
            | some r => some (.budgetRefused, 0x100 + r, 0)
            | none => none

/-- The outcome of the load checks of an image by its bytes: the header first, its length, then the rest. -/
def loadRefusal (s : State) (bs : List Byte) (im : Image) : Option (Code × Nat × Nat) :=
  if (headerFault s (imageHeaderOf bs)).isNone && decide ((imageHeaderOf bs).imageLength ≠ bs.length) then some (.badParam, 72, 0)
  else imageRefusal s (imageOf bs im) (sectionTableFault bs)

/-- The trust element's part of the checks: it verifies a well-formed image's signature (R438), and a security version below the
anti-rollback counter is flagged (R436). -/
def trustChecks (s : State) (im : Image) (outcome : Option (Code × Nat × Nat)) : State :=
  let s1 := if (headerFault s im.header).isSome || !im.sigBlockOk then s else verifyImage s im
  match outcome with
  | some (.rollback, _, _) => truRaise s1 1
  | _ => s1

/-- IMAGE_CHECK_DONE (R63, R324): the checks of the committed image complete; it is written to its slot or refused. The trust
element counts the check (R438) and posts IMAGE_SIG_INVALID on a bad signature (R436). -/
def execImageCheckDone (im : Image) (s : State) : Host.Outcome State Fault Refusal :=
  match s.exe.load.filter (·.checking) with
  | none => .next s
  | some l =>
    let outcome := loadRefusal s l.bytes im
    let im' := imageOf l.bytes im
    let s0 := trustChecks s im' outcome
    let s1 := { s0 with exe := { s0.exe with load := none } }
    match outcome with
    | some (code, wh, id) =>
      .next ((waiting s1 (fun x => decide (x.opcode = 0x0203))).foldl (fun t x => conclude t x code wh id []) s1)
    | none =>
      let s2 := if l.slot = 0 then { s1 with exe := { s1.exe with slotA := some im' } } else { s1 with exe := { s1.exe with slotB := some im' } }
      .next (concludeAll s2 (fun x => decide (x.opcode = 0x0203)) .ok 0
        (fun _ _ => leBytes 16 im'.header.programId ++ leBytes 4 im'.header.securityVersion))

end Sys2Proof.Machine
end

