-- ==== Sys2Proof/Machine/SessionOps.lean ====
section
/-! DEFINITION. Machine/SessionOps.lean: opening and closing command sessions (R312 to R316) and the expiry of a credential (R430). -/
namespace Sys2Proof.Machine
open Sys2Proof

/-- A session closes (R316): its packets not yet started are discarded, what runs loses its replies, and its image load, its pending
safety parameter set and its subscriptions end. -/
def closeSession (s : State) (slot : Nat) : State :=
  let running (q : Nat) (p : Packet) : Bool :=
    s.cmd.executing.any (fun x => decide (x.queue = q) && decide (x.session = p.session) && decide (x.tag = p.tag))
  let trim (q : Nat) (ps : List Packet) : List Packet :=
    match ps with
    | [] => []
    | p :: rest =>
      let rest' := rest.filter (fun x => decide (x.session ≠ slot))
      if p.session ≠ slot || running q p then p :: rest' else rest'
  let c1 := { s.cmd with
    queues := (s.cmd.queues.map (fun p => (p.1, trim p.1 p.2))).filter (fun p => decide (p.2 ≠ []))
    executing := s.cmd.executing.map (fun x => if x.session = slot then { x with closed := true } else x)
    replies := (s.cmd.replies.map (fun p => (p.1, p.2.filter (fun r => decide (r.session ≠ slot))))).filter (fun p => decide (p.2 ≠ []))
    subs := s.cmd.subs.filter (fun x => decide (x.session ≠ slot))
    sessions := s.cmd.sessions.filter (fun x => decide (x.slot ≠ slot)) }
  let s1 := { s with cmd := c1
                     exe := { s.exe with load := s.exe.load.filter (fun l => decide (l.session ≠ slot) || l.checking) } }
  if (s.wnt.pendingSet.map (fun p => decide (p.session = slot))).getD false then discardPending s1 4 else s1

/-- Close every session that satisfies a test. -/
def closeSessions (s : State) (p : Session → Bool) : State :=
  ((s.cmd.sessions.filter p).map (·.slot)).foldl closeSession s

/-- The date of a credential lets it be used (R430): checked only after the servo has been LOCKED since the reset. -/
def dateOk (s : State) (c : Certificate) : Bool := !s.net.everLocked || decide (sec s < c.notAfter)

/-- A credential's date was not checked: flagged and posted (R430). -/
def dateUnchecked (s : State) : State :=
  if s.net.everLocked then s else post (truRaise s 5) .trustTimeUnchecked 0 0 0 0

/-- The role mask of a certificate. -/
def rolesOf (c : Certificate) : Nat := (c.roles.map (·.toNat)).getD 0

end Sys2Proof.Machine
end

