-- ==== Sys2Proof/Machine/Commands.lean ====
section
/-! DEFINITION. Machine/Commands.lean: the command processor: arrival checks, dispatch, sessions, and its own two commands
(R308 to R325). -/
namespace Sys2Proof.Machine
open Sys2Proof

/-! ## Arrival (R308, R311, Table CMD-3) -/

/-- The notification queue a refusal goes to: that of QUEUE, or one of its own for a QUEUE above 31 (Table CMD-3). -/
def refusalQueue (h : Header) : Nat := if h.queue ≤ 31 then h.queue else 255

/-- A packet is refused on arrival: its reply, its flags, and its count (R311, R325). Before a session has opened the reply carries
no sequence number. -/
def refusePacket (s : State) (slot : Nat) (h : Header) (code : Code) (wh : Nat) : State :=
  let s1 := flagCode s code
  let s2 := if code = .queueFull then raise s1 Reg.cmdFlags 0 3 else s1
  let s3 := if h.queue ≤ 31 then countUp s2 Reg.cmdSnapRefused h.queue else s2
  let r : Reply := { session := slot, tag := h.tag, opcode := h.opcode, code := code, final := true, whereField := wh
                     credit := if h.queue ≤ 31 then credit s3.cmd h.queue else 0 }
  let q := refusalQueue h
  match sessionOf s3.cmd slot with
  | some _ => { s3 with cmd := pushReply s3.cmd q r }
  | none => { s3 with cmd := { s3.cmd with replies := storeSet (fun _ => []) s3.cmd.replies q (repliesOf s3.cmd q ++ [r]) } }

/-- The checks 4 to 10 of Table CMD-3 in their order, with the code and WHERE of the first that fails. -/
def arrivalFault (s : State) (x : Session) (h : Header) (payload : List Byte) : Option (Code × Nat) :=
  if h.seq ≠ (x.seqIn + 1) % 4294967296 then some (.badParam, 0xFFFFFF0C)
  else if 31 < h.queue then some (.badParam, 0xFFFFFF03)
  else match admission s x h payload with
    | some f => some f
    | none => if !hasRoom s.cmd h.queue (16 + h.length) then some (.queueFull, h.queue) else none

/-- A packet that passed every check is queued: its session advances and its queue counts it (R311, R313, R317). -/
def queuePacket (s : State) (slot : Nat) (h : Header) (payload : List Byte) : State :=
  let c := modSession s.cmd slot (fun x => { x with seqIn := h.seq, accepted := x.accepted + 1 })
  let p : Packet := { session := slot, opcode := h.opcode, tag := h.tag, payload := payload, arrived := s.now }
  countUp { s with cmd := { c with queues := storeSet (fun _ => []) c.queues h.queue (queueOf c h.queue ++ [p]) } } Reg.cmdSnapRx h.queue

/-- The service-port session, which opens at the first valid packet with the role VIEW (R315). -/
def openService (s : State) : State :=
  match sessionOf s.cmd 16 with
  | some _ => s
  | none =>
    let x : Session := { slot := 16, interface := 4, roles := 1, opened := s.now, lastPacket := s.now }
    { s with cmd := { s.cmd with sessions := s.cmd.sessions ++ [x] } }

/-- Checks 4 to 10 on an open session. -/
def takePacket (s : State) (slot : Nat) (h : Header) (p : List Byte) : State :=
  match sessionOf s.cmd slot with
  | none => s
  | some x =>
    let s1 := { s with cmd := modSession s.cmd slot (fun y => { y with lastPacket := s.now }) }
    match arrivalFault s1 x h (payloadOf p) with
    | some (code, wh) => refusePacket s1 slot h code wh
    | none => queuePacket s1 slot h (payloadOf p)

/-- A frame of the service port, once its flag bytes and stuffing are removed, as a packet (R311, R315). -/
def takeFrame (s : State) (packet : List Byte) : State :=
  let h := headerOf packet
  if packet.length < 12 ∨ h.mark ≠ 0x5A1B ∨ h.version ≠ 1 then raise s Reg.cmdFlags 0 0
  else if 65520 < h.length then refusePacket s 16 h .badLength 65520
  else if packet.length ≠ h.length + 20 then refusePacket s 16 h .badLength (packet.length - 20)
  else if !packetCrcOk packet then refusePacket s 16 h .badCrc 0
  else takePacket (openService s) 16 h packet

/-- PACKET_ARRIVAL (R311): a packet arrives on an open network session, or the bytes of a frame on the service port's line. -/
def execPacketArrival (session : Fin 17) (packet : List Byte) (s : State) : Host.Outcome State Fault Refusal :=
  let h := headerOf packet
  let slot := session.val
  if slot = 16 then
    if !bit (reg s Reg.cmdCfg 0) 20 || held s 0xE then .next s
    else match unframe packet with
      | none => .next (raise s Reg.cmdFlags 0 0)
      | some p => .next (takeFrame s p)
  else if (sessionOf s.cmd slot).isNone || held s 0xE then .next s
  else if h.mark ≠ 0x5A1B ∨ h.version ≠ 1 ∨ 65520 < h.length then .next (closeSession s slot)
  else if !packetCrcOk packet then .next (refusePacket s slot h .badCrc 0)
  else .next (takePacket s slot h packet)

/-! ## Dispatch (R318, R319) -/

/-- A queue's first command can start: the queue runs none, and the reply pool has room (R318, R319). -/
def canStart (c : Commands) (q : Nat) : Bool :=
  match queueOf c q with
  | [] => false
  | p :: _ => c.executing.all (fun x => decide (x.queue ≠ q)) && replyRoom c p.opcode

/-- The queues of a class, in ascending order from the one after the last served (R319). -/
def classOrder (c : Commands) (k : Nat) : List Nat :=
  let qs := (List.range 32).filter (fun q => decide (queueClass q = k))
  match c.lastServed[k]? with
  | some l => if l = 0 then qs else qs.filter (fun q => decide (l < q + 1)) ++ qs.filter (fun q => decide (q + 1 ≤ l))
  | none => qs

/-- The next queue of a class that can start, if any. -/
def nextOf (c : Commands) (k : Nat) : Option Nat := (classOrder c k).find? (canStart c)

/-- The queue whose first command has waited longest, of those that can start. -/
def longestWaiting (c : Commands) : Option Nat :=
  let at_ (q : Nat) : Nat := ((queueOf c q).head?.map (·.arrived)).getD 0
  ((List.range 32).filter (canStart c)).foldl (fun (b : Option Nat) q =>
    match b with
    | none => some q
    | some x => if at_ q < at_ x then some q else b) none

/-- Start the first command of a queue: it takes an execution place. `lastServed` keeps the queue's number plus one for its class. -/
def startQueue (s : State) (q : Nat) (starts : Nat) : State :=
  match queueOf s.cmd q with
  | [] => s
  | p :: _ =>
    let e : Executing := { queue := q, session := p.session, tag := p.tag, opcode := p.opcode }
    let served := if s.cmd.lastServed = [] then [0, 0, 0, 0, 0] else s.cmd.lastServed
    { s with cmd := { s.cmd with executing := s.cmd.executing ++ [e], starts := starts
                                 lastServed := setAt served (queueClass q) (q + 1) } }

/-- COMMAND_DISPATCH (R319): a free place takes the next command: the lowest class with one, round robin within it, or after AGE starts
past a waiting lower class the longest-waiting of any class. -/
def execCommandDispatch (s : State) : Host.Outcome State Fault Refusal :=
  if 8 ≤ executingCount s.cmd ∨ held s 0xE then .next s
  else match [0, 1, 2, 3, 4].find? (fun k => (nextOf s.cmd k).isSome) with
    | none => .next s
    | some k =>
      let lower := [0, 1, 2, 3, 4].any (fun j => decide (k < j) && (nextOf s.cmd j).isSome)
      if lower && decide (regField s Reg.cmdAge 0 10 0 ≤ s.cmd.starts) then
        match longestWaiting s.cmd with
        | some q => .next (startQueue (countUp s Reg.cmdSnapPromote 0) q 0)
        | none => .next s
      else match nextOf s.cmd k with
        | some q => .next (startQueue s q (if lower then s.cmd.starts + 1 else 0))
        | none => .next s

/-- A notification queue has no room: 16 packets wait in it, or the reply pool does not hold a bare status and DETAIL more (R318). -/
def notifyFull (c : Commands) (queue : Nat) : Bool :=
  decide (16 ≤ (repliesOf c queue).length) || decide (524288 < poolHeld c + 32)

/-- NOTIFY_LOST (R318): a subscription notification finds its queue full: the oldest waiting one of the subscription is dropped and
the next carries LOST. -/
def execNotifyLost (queue : Fin 32) (s : State) : Host.Outcome State Fault Refusal :=
  match (s.cmd.subs.filter (fun _ => notifyFull s.cmd queue.val)).find? (fun x => decide (x.queue = queue.val)) with
  | none => .next s
  | some x =>
    let c1 := { s.cmd with replies := storeSet (fun _ => []) s.cmd.replies queue.val (dropOldest (repliesOf s.cmd queue.val) x) }
    .next (flagNotifyLost { s with cmd := markLost c1 x } true)

/-! ## Sessions (R314 to R316) -/

/-- Network sessions that are open. -/
def netSessions (c : Commands) : Nat := (c.sessions.filter (fun x => decide (x.slot < 16))).length

/-- The slot of the installed operator certificate with these DER bytes; slot 1 opens no session while its proof is awaited. -/
def credentialSlot (s : State) (der : List Byte) : Option (Nat × Certificate) :=
  [1, 2, 3, 4, 5, 6, 7, 8].findSome? (fun k =>
    match slotCert s k with
    | some c => if c.der = der ∧ ¬(k = 1 ∧ s.tru.proof.isSome) then some (k, c) else none
    | none => none)

/-- SESSION_OPEN (R314): a TLS handshake with a client certificate on a network port. -/
def execSessionOpen (net : Fin 4) (der : List Byte) (s : State) : Host.Outcome State Fault Refusal :=
  if !bit (reg s Reg.cmdCfg 0) (16 + net.val) || s.sup.trimFault || held s 0xE || held s 9 || !s.tru.keyOk then .next s
  else if 16 ≤ netSessions s.cmd then .next (raise s Reg.cmdFlags 0 5)
  else match credentialSlot s der with
    | none => .next (truRaise s 2)
    | some (k, cert) =>
      if !dateOk s cert then .next (truRaise s 2)
      else
        let s1 := dateUnchecked s
        let slot := ((List.range 16).find? (fun i => (sessionOf s1.cmd i).isNone)).getD 15
        let x : Session := { slot := slot, interface := if net.val = 1 then 0 else net.val, roles := rolesOf cert, opened := s.now
                             lastPacket := s.now, credential := k }
        .next (countUp { s1 with cmd := { s1.cmd with sessions := s1.cmd.sessions ++ [x] } } Reg.truSnapSign 0)

/-- A session has sent no packet for CMD_CFG.IDLE_T seconds (R314, R315). -/
def sessionIdle (s : State) (slot : Nat) : Bool :=
  ((sessionOf s.cmd slot).map (fun x =>
    decide (x.lastPacket + regField s Reg.cmdCfg 0 9 0 * 1000000000 ≤ s.now))).getD false

/-- SESSION_IDLE_TIMEOUT (R314, R315): a session closes once IDLE_T has passed without a packet from its client. -/
def execSessionIdleTimeout (session : Fin 17) (s : State) : Host.Outcome State Fault Refusal :=
  .next (if sessionIdle s session.val then closeSession s session.val else s)

/-- SERVICE_BREAK (R315): the line is held at break for 1 ms. -/
def execServiceBreak (s : State) : Host.Outcome State Fault Refusal := .next (closeSession s 16)

/-- SESSION_CLOSE (R316): the client closes its session. -/
def execSessionClose (session : Fin 17) (s : State) : Host.Outcome State Fault Refusal := .next (closeSession s session.val)

/-- AUTH_LOCKOUT_END (R315): the lockout ends 60 s after the third failed response. -/
def execAuthLockoutEnd (s : State) : Host.Outcome State Fault Refusal :=
  .next (if s.cmd.failedAuth.all (fun t => decide (t + 60000000000 ≤ s.now))
    then { s with cmd := { s.cmd with lockout := false, failedAuth := [] } } else s)

/-! ## Commands of the processor itself (Table CMD-19) -/

/-- ECHO (0x0E01): the same bytes. -/
def execEcho (c : Ctx) (data : List Byte) (s : State) : Host.Outcome State Fault Refusal :=
  .next (command s c 0x0E01 0xE (.echo c data) true (fun s => if 256 < data.length then refuse s c 0x0E01 .badLength 256 else ok s c 0x0E01 data))

/-- A session as its 16 bytes of SESSIONS (Table CMD-19). -/
def sessionBytes (x : Session) : List Byte :=
  leBytes 1 x.interface ++ leBytes 1 x.roles ++ leBytes 2 0 ++ leBytes 4 (x.opened / 1000000000) ++ leBytes 4 (x.opened % 1000000000)
    ++ leBytes 4 x.accepted

/-- SESSIONS (0x0E06): 16 bytes of each open session. -/
def execSessions (c : Ctx) (s : State) : Host.Outcome State Fault Refusal :=
  .next (command s c 0x0E06 0xE (.sessions c) true (fun s => ok s c 0x0E06 (s.cmd.sessions.map sessionBytes).flatten))

/-! ## Registers (R325) -/

/-- CMD_STAT. -/
def cmdStat (s : State) : Word :=
  let svc := sessionOf s.cmd 16
  fieldWord 20 16 (netSessions s.cmd) ||| fieldWord 10 10 (b2n s.cmd.lockout)
    ||| fieldWord 9 9 (b2n ((svc.map (fun x => decide (x.credential ≠ 0))).getD false)) ||| fieldWord 8 8 (b2n svc.isSome)
    ||| fieldWord 3 0 (executingCount s.cmd)

/-- CMD_QSTAT of queue `q` (0–31 command queues, 32–63 notification queues). -/
def cmdQstat (s : State) (q : Nat) : Word :=
  if q < 32 then
    let ps := queueOf s.cmd q
    let waits := s.cmd.executing.any (fun x => decide (x.queue = q) && x.blocked)
      || (match ps with
          | p :: _ => s.cmd.executing.all (fun x => decide (x.queue ≠ q)) && !replyRoom s.cmd p.opcode
          | [] => false)
    fieldWord 31 24 (credit s.cmd q) ||| fieldWord 20 20 (b2n waits) ||| fieldWord 19 5 ((queueBytes s.cmd q + 63) / 64)
      ||| fieldWord 4 0 ps.length
  else
    let rs := repliesOf s.cmd (q - 32)
    fieldWord 19 5 (((rs.map replySize).sum + 63) / 64) ||| fieldWord 4 0 (min 16 rs.length)

end Sys2Proof.Machine
end

