-- ==== Sys2Proof/Machine/SproutOps.lean ====
section
/-! DEFINITION. Machine/SproutOps.lean: what Sprout does when a front-end fails (R136 to R140, R299), and its shared figures. -/
namespace Sys2Proof.Machine
open Sys2Proof

/-- Raise a flag of SPR_FLAGS. -/
def sprRaise (s : State) (n : Nat) : State := raise s Reg.sprFlags 0 n

/-- No spare of a kind is left: flagged and posted with its kind (R299). -/
def exhausted (s : State) (kind : Nat) : State := post (sprRaise s 2) .spareExhausted 0 kind 0 0

/-- The sprout record in MRAM is to be written anew, as its claim is granted (R300, R481). -/
def writeSproutRecord (s : State) : State := askWrite s 0xF 1000 .sproutRecord

/-- A spare has come into service, and the sprout record says so. -/
def sprouted (s : State) : State :=
  writeSproutRecord (countUp (sprRaise { s with spr := { s.spr with sprouts := s.spr.sprouts + 1 } } 0) Reg.sprSnapSprouts 0)

/-- A free spare front-end of a channel's group: not in service, not failed. -/
def freeSpare (s : State) (c : Nat) : Option Nat :=
  (groupSpares (groupOf c)).find? (fun n => (fe s n).link.isNone && !(fe s n).broken)

/-- SPROUT_POLICY lets the channel be sprouted now: 01 only in STOP, 10 also in RUN (R137). A module that does not own the field
sprouts at once under either (R139). DESIGN CHOICE: the value 11, to which no meaning is given, is kept as written and never lets one be
sprouted (log 137). -/
def policyAllows (s : State) (c : Nat) : Bool :=
  match regField s Reg.fchCtrl c 9 8 with
  | 1 => !owner s || decide (s.exe.station = .stop)
  | 2 => true
  | _ => false

/-- Put a channel on Sprout's waiting list once. -/
def queueSprout (s : State) (c : Nat) (asked : Bool) : State :=
  if s.spr.feQueue.any (fun p => decide (p.1 = c)) then s
  else { s with spr := { s.spr with feQueue := s.spr.feQueue ++ [(c, asked)] } }

/-- A failed front-end leaves its channel FAILED, with VALID = 0 and its output off, until a spare serves it (R137). -/
def failChannel (s : State) (c : Nat) : State :=
  feFault (modFe s c (fun f => { f with broken := true, acyc := [], acycDone := 0, lastGood := false, state := .failed, seenState := .failed, feDemand := 0 })) c

/-- Sprout judges the front-end that serves a channel failed (R136, R139): an ACTIVE module with a STANDBY partner yields; then the
channel waits for its spare, or stays FAILED when its group has none. An idle spare that fails leaves service. What leaves service goes into the
sprout record (R300). -/
def feFailure (s : State) (n : Nat) : State :=
  if 192 ≤ n ∧ (fe s n).link.isNone then
    (if (fe s n).broken then s else writeSproutRecord (modFe s n (fun f => { f with broken := true })))
  else
    let c := channelOf s n
    if (fe s c).broken then s
    else
      let s1 := if hasStandby s then yieldField s else s
      let s2 := match (fe s1 c).link with
        | some sp => modFe (modFe s1 sp (fun f => { f with broken := true, link := none })) c (fun f => { f with link := none })
        | none => s1
      let s3 := writeSproutRecord (failChannel s2 c)
      if (freeSpare s3 c).isNone then refresh (exhausted s3 0) c
      else if policyAllows s3 c then refresh (queueSprout s3 c false) c
      else refresh (sprRaise (queueSprout s3 c false) 1) c

/-! ## Core pair Z (R301, R302) -/

/-- A pair's number in SPR_CORE.Z_ROLE: 1 X, 2 Y. -/
def pairNumber : CorePair → Nat
  | .x => 1
  | .y => 2

/-- The state in which Sprout may swap a core pair: a module that does not own the field, or a lone one that is not in RUN (R301). -/
def coreSwapAllowed (s : State) : Bool :=
  !owner s || (decide (s.pair.role = .alone) && decide (s.exe.station ≠ .run))

/-- Start the swap that waits, where the state allows it: the executive is held behind its Husk (R301). -/
def startCoreSwap (s : State) : State :=
  if s.spr.corePending.isSome && !s.spr.coreBusy && decide (s.spr.zRole = 0) && coreSwapAllowed s then
    huskHold (undoWork { s with spr := { s.spr with coreBusy := true } } 1) 1
  else s

/-- Put pair Z in place of a failed pair, in the sprout record (R300 to R302). -/
def mapCore (s : State) (p : CorePair) : State :=
  sprRaise (sprouted { s with spr := { s.spr with
    coreX := s.spr.coreX || decide (p = .x), coreY := s.spr.coreY || decide (p = .y), zRole := pairNumber p
    corePending := none, coreBusy := false, mismatch := none } }) 3

end Sys2Proof.Machine
end

