-- ==== Sys2Proof/Machine/FieldDigital.lean ====
section
/-! DEFINITION. Machine/FieldDigital.lean: the field channel array: coupler frames, group supplies and the digital modes
(R107 to R141). -/
namespace Sys2Proof.Machine
open Sys2Proof

/-! ## Calibration (R164) -/

/-- A quotient as a count, rounded down or up as bit `k` of the free value says: the manual bounds the error and states no rounding
(log 22). -/
def freeRound (s : State) (k n d : Nat) : Nat := if n % d = 0 then n / d else n / d + b2n ((freeNow s).getLsbD k)

/-- The CRC-32C of a factory area that holds FORMAT 1 and zeros. -/
def isoFactoryCrc : Nat := 0x73C0FB34

/-- What a byte of the isolated side holds as made (Table FCA-8): FORMAT is 1, and the factory area's CRC-32C over it and zeros matches; the
rest reads 0 (log 7). -/
def isoDefault (a : Nat) : Byte :=
  if a = 0x100 then 1 else if 0x1FC ≤ a ∧ a < 0x200 then (leBytes 4 isoFactoryCrc).getD (a - 0x1FC) 0 else 0

/-- A byte of the isolated-side store of front-end `n`. -/
def isoByte (s : State) (n a : Nat) : Byte := storeGet isoDefault (fe s n).isolated a

/-- Bytes written to the isolated-side store from `a`. -/
def putIso (m : Store Byte) (a : Nat) (bs : List Byte) : Store Byte := bs.zipIdx.foldl (fun m p => storeSet isoDefault m (a + p.2) p.1) m

/-- `k` little-endian bytes of the isolated-side store. -/
def isoNat (s : State) (n a k : Nat) : Nat := ofLe ((List.range k).map (fun i => isoByte s n (a + i)))

/-- Byte `o` of the calibration area in use: the user area as it was taken when it came into use, else the factory area (R164, R165). -/
def calByte (s : State) (n o : Nat) : Byte := if (fe s n).useUserNow then (fe s n).userInUse.getD o 0 else isoByte s n (0x100 + o)

/-- The signed little-endian value of `k` bytes of the area in use. -/
def calInt (s : State) (n o k : Nat) : Int :=
  let v := ofLe ((List.range k).map (fun i => calByte s n (o + i)))
  if v < 2 ^ (8 * k - 1) then Int.ofNat v else Int.ofNat v - Int.ofNat (2 ^ (8 * k))

/-- Temperature of the front-end less T_CAL, 0.01 K (R164). -/
def calDt (s : State) (n : Nat) : Int := (fe s n).temperature - calInt s n 0x10 2

/-- The offset of set `k`, over 6,400 of the path's unit. -/
def calOffset (s : State) (n k : Nat) : Int :=
  calInt s n (0x20 + 16 * k + 4) 4 * 100 + calInt s n (0x20 + 16 * k + 10) 2 * calDt s n

/-- The gain of set `k`, over 2^30 × 10^9. -/
def calGain (s : State) (n k : Nat) : Int :=
  1073741824 * 1000000000 + calInt s n (0x20 + 16 * k) 4 * 1000000000 + calInt s n (0x20 + 16 * k + 8) 2 * calDt s n * 1073741824

/-- The correction of R164 for coefficient set `k`, exact, as a numerator over `calDen`. -/
def calNum (s : State) (n k : Nat) (x : Int) : Int := (x * 6400 + calOffset s n k) * calGain s n k

/-- The denominator of `calNum`. -/
def calDen : Nat := 6400 * 1073741824 * 1000000000

/-- A corrected reading of set `k`, 0 to 65,535; a value between two counts goes to either, as the free value says (log 22). -/
def calibrated (s : State) (n k : Nat) (x : Int) : Nat :=
  let y := calNum s n k x
  if y < 0 then 0 else min (freeRound s k y.natAbs calDen) 65535

/-- The raw code the AO driver drives for a command: the one whose corrected value equals it (R164, set 2). Where no gain is left there is no
such code, and the code is free (log 22). -/
def driverRaw (s : State) (n y : Nat) : Nat :=
  let g := calGain s n 2
  let x := Int.ofNat (y * calDen) - calOffset s n 2 * g
  if g ≤ 0 then (freeNow s).toNat % 65536 else if x < 0 then 0 else min (freeRound s 2 x.natAbs (6400 * g.natAbs)) 65535

/-- The factory area passes its CRC-32C; as made it does (R164, Table FCA-8; log 7). -/
def factoryOk (s : State) (n : Nat) : Bool :=
  (fe s n).isolated.all (fun p => decide (p.1 < 0x100) || decide (0x200 ≤ p.1))
    || decide (crc32c ((List.range 252).map (fun k => isoByte s n (0x100 + k))) = isoNat s n 0x1FC 4)

/-- The front-end checks its factory area as it starts (R164). -/
def checkFactory (s : State) (n : Nat) : State := modFe s n (fun f => { f with factoryValid := factoryOk s n })

/-- The user calibration area is checked when its CRC word is written: a set that passes is valid and
waits for the next boundary, and one that fails while USE_USER = 1
clears USER_VALID and leaves the factory set in use (R164, R165). -/
def checkUserArea (s : State) (c : Nat) : State :=
  let bs := (List.range 252).map (fun k => isoByte s c (0x200 + k))
  if crc32c bs = isoNat s c 0x2FC 4 then
    modFe s c (fun f => { f with userValid := true, userStaged := some ((List.range 256).map (fun k => isoByte s c (0x200 + k))) })
  else if cfgField s Reg.fchCal c 1 1 = 1 then post (modFe s c (fun f => { f with userValid := false, useUserNow := false })) .calUserInvalid c c 0 0
  else modFe s c (fun f => { f with userValid := false })

/-! ## The isolated side, one byte per frame (R114) -/

/-- The byte and its address that the access under way is at. -/
def acycByteAt (f : FrontEnd) : Option (Bool × Nat × Byte) :=
  f.acyc.head?.map (fun x => (x.write, x.addr + f.acycDone, BitVec.ofNat 8 (x.word.toNat / 256 ^ f.acycDone)))

/-- The front-end takes the operation of a good downstream frame: a byte to write joins its word, which the fourth byte stores; a byte to
read is answered in the next upstream frame. -/
def takeAcyc (s : State) (n w : Nat) : State :=
  let a := w / 2 ^ 28 % 4096
  match w / 2 ^ 56 % 4 with
  | 1 =>
    let bs := (fe s n).acycBuf.take (a % 4) ++ [BitVec.ofNat 8 (w / 2 ^ 20)]
    let s1 := modFe s n (fun f => { f with
      acycSt := 1, acycBuf := bs, isolated := if a % 4 = 3 then putIso f.isolated (a - 3) bs else f.isolated })
    if a = 0x2FF then checkUserArea s1 n else s1
  | 2 => modFe s n (fun f => { f with acycSt := 1, acycByte := isoByte s n a })
  | _ => modFe s n (fun f => { f with acycSt := 0 })

/-- A done status confirms a byte; the fourth completes the access. -/
def confirmAcyc (f : FrontEnd) (st : Nat) : FrontEnd :=
  if st = 1 ∧ f.acyc ≠ [] then
    if f.acycDone = 3 then { f with acyc := f.acyc.tail, acycDone := 0 } else { f with acycDone := f.acycDone + 1 }
  else f

/-- The isolated side does not answer: the crosspoint has disconnected the front-end, an access has timed out and no good frame has come
since, or no good frame has come for the 25 µs that an access may take (R114). -/
def isoSilent (s : State) (c : Nat) : Bool :=
  (fe s c).silent || (fe s c).broken || (fe s c).sprouting || decide ((fe s c).goodAt + 25000 < s.now)

/-- A byte of the isolated side as a read through the window finds it, after the writes that are under way. -/
def isoShown (s : State) (c a : Nat) : Byte :=
  match (fe s c).acyc.reverse.find? (fun x => x.write && decide (x.addr ≤ a) && decide (a < x.addr + 4)) with
  | some x => BitVec.ofNat 8 (x.word.toNat / 256 ^ (a - x.addr))
  | none => isoByte s c a

/-- An access goes to the front-end, after those that are under way. -/
def pushAcyc (s : State) (c : Nat) (write : Bool) (a : Nat) (v : Word) : State :=
  modFe s c (fun f => { f with acyc := f.acyc ++ [{ write := write, addr := a, word := v }] })

/-! ## The coupler frame (Table FCD-2) -/

/-- The CRC-8 of a frame, over bits [63:8], most significant byte first (R110). -/
def frameCrc (w : Nat) : Nat := crc8 [byteOf w 7, byteOf w 6, byteOf w 5, byteOf w 4, byteOf w 3, byteOf w 2, byteOf w 1]

/-- A frame's 56 high bits with its CRC-8 appended. -/
def withFrameCrc (w : Nat) : Nat := w / 256 * 256 + frameCrc w

/-- Upstream VALUE of a front-end (R111). -/
def upValue (s : State) (n : Nat) : Nat :=
  let f := fe s n
  let m := modeOf s n
  if isDi m then b2n f.diState + 256 * f.voltCode.toNat
  else if isDo m then b2n (decide (terminalDrive s n = 1)) + 2 * b2n f.comp
  else if m = 6 then f.edgeCount % 65536
  else if m = 7 then f.freqNow % 65536
  else if isAi m then f.reported % 65536
  else if isAo m then f.current.toNat
  else 0

/-- Upstream AUX of a front-end (R111). -/
def upAux (s : State) (n : Nat) : Nat :=
  let f := fe s n
  let m := modeOf s n
  if isDo m then f.auxNow.toNat
  else if m = 6 then (if s.fch.frame % 2 = 0 then f.freqNow % 65536 else f.freqNow / 65536 % 65536)
  else if m = 7 then f.freqNow / 65536 % 65536
  else if isAi m then f.auxNow.toNat
  else if isAo m then (if f.state = .localSafe then f.safeCounts.toNat else f.feDemand.toNat)
  else 0

/-- Upstream FLAGS of a front-end (R111): [0] limit, [1] open after a latch-off, [3] burden open; [2], [4] and [5] as the
front-end's own comparators and self-test say. -/
def upFlags (s : State) (n : Nat) : Nat :=
  let f := fe s n
  b2n f.limit + 2 * b2n (f.latchedOff || f.supplyOpen) + (f.limitFlags &&& 0x34#8).toNat + 8 * b2n f.burdenOpen

/-- The upstream frame of a front-end. -/
def upstreamWord (s : State) (n : Nat) : Nat :=
  withFrameCrc (s.fch.frame % 16 * 2 ^ 60 + feStateCode (fe s n).state * 2 ^ 58 + upValue s n * 2 ^ 40 + upAux s n * 2 ^ 24
    + upFlags s n % 16 * 2 ^ 20 + upFlags s n / 16 * 2 ^ 16 + (fe s n).acycSt % 4 * 2 ^ 56 + (fe s n).acycByte.toNat * 2 ^ 8)

/-- The downstream frame to a front-end: ARM, DEMAND and the operation of an isolated-side access with the frame count (Table FCD-2). -/
def downstreamWord (s : State) (n arm demand : Nat) : Nat :=
  let acyc := match acycByteAt (fe s n) with
    | some (write, a, b) => (if write then 1 else 2) * 2 ^ 56 + a % 4096 * 2 ^ 28 + (if write then b.toNat else 0) * 2 ^ 20
    | none => 0
  withFrameCrc (s.fch.frame % 16 * 2 ^ 60 + arm * 2 ^ 58 + demand * 2 ^ 40 + acyc + s.fch.frame % 4096 * 2 ^ 8)

/-- A frame passes its CRC and carries the expected SEQ (R112). -/
def frameGood (w seq : Nat) : Bool := decide (frameCrc w = w % 256) && decide (w / 2 ^ 60 = seq)

/-- The on and off threshold codes of front-end `n` (Table FCD-8); the readback of an output has those of type 1 (R127), and the pulse modes
those of FCH_DICFG (R132). -/
def thresholds (s : State) (n : Nat) : Nat × Nat :=
  let m := modeOf s n
  if m = 2 then (64, 52)
  else if usesThresholds m then (cfgField s Reg.fchDicfg (channelOf s n) 15 8, cfgField s Reg.fchDicfg (channelOf s n) 7 0)
  else (88, 72)

/-- The comparator at a terminal voltage in 10 mV: on at or above the on threshold, off at or below the off threshold, unchanged between; a
code is 0.125 V (R122). -/
def compare (th : Nat × Nat) (old : Bool) (volt : Nat) : Bool :=
  if 25 * th.1 ≤ 2 * volt then true else if 2 * volt ≤ 25 * th.2 then false else old

/-- What the front-end's own circuits read in this frame, each path corrected by its set (R164). A pulse mode's comparator moves with its edges
instead (R132). When a DO is out of its current limit, SHORT ends unless it is latched, and its short excess with it (R120, R171). -/
def applyMeasure (s : State) (m : FeMeasure) : State :=
  if decide (m.sel.val < 192) && (fe s m.sel.val).link.isSome then s
  else
    let c := channelOf s m.sel.val
    let md := modeOf s c
    let volt := calibrated s c 3 m.volt
    let inLimit := m.limitFlags.getLsbD 0 && (isDo md || decide (md = 0x12))
    let ended := isDo md && (fe s c).limit && !inLimit
    let s1 := modFe s c (fun f => { f with
      voltCode := BitVec.ofNat 8 (min (freeRound s 5 (2 * volt) 25) 255)
      comp := if isPulse md then f.comp else compare (thresholds s c) f.comp volt
      auxNow := if isDo md then m.load else BitVec.ofNat 16 (calibrated s c 1 m.path)
      current := BitVec.ofNat 16 (calibrated s c 1 m.path)
      termV := BitVec.ofNat 16 (calibrated s c 4 m.termV)
      headroom := if isAo md || decide (md = 0x12) then BitVec.ofNat 16 (calibrated s c 4 m.headroom) else 0
      limit := inLimit, short := if isDo md then f.latchedShort || inLimit else f.short, limitFlags := m.limitFlags })
    freeNext (if ended then setClaim s1 c { claimOf s1 c with shortExcess := 0 } else s1)

/-- No good frame has come for 300 ms or more, by the frames missed (60,000) or by module time (R111). -/
def longGap (now : Nat) (f : FrontEnd) : Bool := decide (60000 ≤ f.badRun) || decide (f.goodAt + 300000000 ≤ now)

/-- The pulse count extended to 32 bits by the difference from the previous good frame (R111). After a gap of 300 ms or more it continues from
the new low bits and the last complete count. -/
def extendCount (now : Nat) (f : FrontEnd) (low : Nat) : Word :=
  if !longGap now f then f.count + word ((low + 65536 - f.value.toNat) % 65536)
  else word (f.count.toNat / 65536 * 65536 + low)

/-- The frequency result the logic side takes (R111): whole in every frame in frequency mode; in pulse count the low half of an
even frame and the high half of the odd frame that follows it. -/
def takeFreq (f : FrontEnd) (mode frame low aux : Nat) : FrontEnd :=
  if mode = 7 then { f with freq := low + 65536 * aux }
  else if mode = 6 then
    if frame % 2 = 0 then { f with freqLow := some aux }
    else match f.freqLow with
      | some l => { f with freq := l + 65536 * aux, freqLow := none }
      | none => f
  else f

/-- A good upstream frame is taken (R111). -/
def takeUpstream (s : State) (n w : Nat) : State :=
  let m := modeOf s n
  let v := w / 2 ^ 40 % 65536
  let a := w / 2 ^ 24 % 65536
  let fl := w / 2 ^ 20 % 16 + 16 * (w / 2 ^ 16 % 16)
  let st := feStateOf (w / 2 ^ 58 % 4)
  modFe s n (fun f =>
    let f1 := takeFreq f m s.fch.frame v a
    confirmAcyc { f1 with
      count := if m = 6 then extendCount s.now f v else f1.count
      lastGood := true, gap := f1.gap || (decide (m = 6) && longGap s.now f), goodAt := s.now, silent := false
      value := BitVec.ofNat 16 v, aux := BitVec.ofNat 16 a, flags := BitVec.ofNat 8 fl, seenState := st
      badRun := 0
      goodRun := if st = .localSafe then f.goodRun + 1 else 0 } (w / 2 ^ 56 % 4))

/-- An upstream frame that fails its CRC or SEQ is discarded and counted; the channel keeps its last good value (R112). -/
def badUpstream (s : State) (n : Nat) : State :=
  countUp (raise (modFe s n (fun f => { f with lastGood := false, badRun := f.badRun + 1, goodRun := 0, freqLow := none }))
    Reg.fchFlags n 1) Reg.fchSnapFrameerr n

/-- The front-end takes a good downstream frame: its demand, an arm or disarm frame, and the byte of an isolated-side access (R112, R113,
R114). A failed front-end is not armed again (R138). -/
def takeDownstream (s : State) (n w : Nat) : State :=
  let demand := w / 2 ^ 40 % 65536
  takeAcyc (modFe s n (fun f => { f with
    feDemand := BitVec.ofNat 16 demand
    driverCode := if isAo (modeOf s n) then driverRaw s n demand else f.driverCode
    state := if f.state = .failed then .failed
             else if w / 2 ^ 58 % 4 = 1 then .armed else if w / 2 ^ 58 % 4 = 2 then .unarmed else f.state })) n w

/-- A bad downstream frame leaves the front-end its last good demand, and no operation to answer (R112). -/
def badDownstream (s : State) (n : Nat) : State := modFe s n (fun f => { f with acycSt := 0 })

/-- Sprout judges a front-end failed by its frames: STATE = 11, 8 consecutive bad ones, or the self-test failure of FLAGS [5] (R136). -/
def judgedFailed (f : FrontEnd) : Bool := decide (f.seenState = .failed) || decide (8 ≤ f.badRun) || f.flags.getLsbD 5

/-- A granted loop supply closes in the frame after its grant; it is a retry while SHORT stands (R151, R168). -/
def closeSupply (s : State) (n : Nat) : State :=
  if owner s && decide (modeOf s n = 0x12) && decide ((fe s n).granted = 1) && !(fe s n).supplyClosed then
    modFe s n (fun f => { f with supplyClosed := true, supplyOpen := false, supplyRetry := f.supplyShort })
  else s

/-- The ARM field of a frame: disarm while a mode change reconfigures the front-end, arm to leave the local safe state or to arm a
configured front-end (Table FCD-2, R113, R118). -/
def armCode (s : State) (n : Nat) (rearm : Bool) : Nat :=
  if (fe s n).reconfiguring then 2
  else b2n (rearm || (decide ((fe s n).seenState = .unarmed) && decide (modeOf s n ≠ 0)))

/-- The downstream half of an exchange: Table ARC-3 and the grant gate, then the frame, which the front-end takes if it is good. -/
def exchangeDown (downError : Nat) (s : State) (n : Nat) : State :=
  let rearm := decide ((fe s n).seenState = .localSafe) && decide (8 ≤ (fe s n).goodRun)
  let s1 := closeSupply (refresh s n) n
  let demand := if owner s1 then (fe s1 n).driven.toNat else preloadDemand s1 n
  let s2 := modFe s1 n (fun f => { f with demand := BitVec.ofNat 16 demand, safeCounts := if rearm then BitVec.ofNat 16 (safeSetting s1 n) else f.safeCounts })
  let down := downstreamWord s2 n (armCode s2 n rearm) demand ^^^ downError
  let s3 := if frameGood down (s.fch.frame % 16) then takeDownstream s2 n down else badDownstream s2 n
  if rearm then post (raise (modFe s3 n (fun f => { f with goodRun := 0 })) Reg.fchFlags n 4) .feRearmed n n 0 0 else s3

/-- One front-end's exchange of a coupler frame: the upstream check and Sprout's judgement of it (R112, R136), then the downstream half. None
with one that the crosspoint has disconnected (R137); a spare in service is exchanged with as its channel (R140). -/
def exchange (upError downError : Nat) (s : State) (n : Nat) : State :=
  if (fe s n).broken || (decide (192 ≤ n) && (fe s n).link.isSome) then s
  else
    let up := upstreamWord s n ^^^ upError
    let s1 := if frameGood up (s.fch.frame % 16) then takeUpstream s n up else badUpstream s n
    if judgedFailed (fe s1 n) then feFailure s1 n else exchangeDown downError s1 n

/-- The bit errors of front-end `n`'s frames in this exchange. -/
def errorsOf (s : State) (ms : List FeMeasure) (n : Nat) : Nat × Nat :=
  match ms.find? (fun m => decide (channelOf s m.sel.val = n)) with
  | some m => (m.upError.toNat, m.downError.toNat)
  | none => (0, 0)

/-- The front-ends whose exchange can change anything: those in use and those the field gives a reading of. -/
def framedFes (s : State) (ms : List FeMeasure) : List Nat := storeKeys s.fch.fes (ms.map (fun m => channelOf s m.sel.val))

/-- A coupler frame with all front-ends (R110), in which Gourd's grants take effect (R168), then the GEN_TRIP triggers (R202) and a dead-bus
close that waits for the next frame (R198). -/
def coupleAll (ms : List FeMeasure) (s : State) : State :=
  let s1 := ms.foldl applyMeasure (grantsTakeEffect s)
  let s2 := (framedFes s1 ms).foldl (fun t n => exchange (errorsOf s1 ms n).1 (errorsOf s1 ms n).2 t n) s1
  copyGmuState (copyClaims (deadBusFrame (genTripFrame { s2 with fch := { s2.fch with frame := s2.fch.frame + 1 } })))

/-- COUPLER_FRAME (R110): one frame in each direction with every front-end, and Table ARC-3 decided again (R21). -/
def execCouplerFrame (ms : List FeMeasure) (s : State) : Host.Outcome State Fault Refusal := .next (coupleAll ms s)

/-- FE_FRAME_TIMEOUT (R113): an armed front-end without a good downstream frame for 200 µs enters its local safe state. -/
def execFeFrameTimeout (n : Fin 216) (s : State) : Host.Outcome State Fault Refusal :=
  let c := channelOf s n.val
  if (fe s c).state = .armed then
    .next (raise (modFe s c (fun f => { f with state := .localSafe, goodRun := 0 })) Reg.fchFlags c 3)
  else .next s

/-! ## Group supplies (R115, R116) -/

/-- The supply state the 1 ms average asks for, in 0.05 V; none below 16.0 V, where only MISSING can follow (Table FCD-3). -/
def supplyByAverage (samples : List Nat) : Option Supply :=
  let n := samples.length
  let t := samples.sum
  if 640 * n < t then some .high
  else if 384 * n ≤ t then some .ok
  else if 320 * n ≤ t then some .low
  else none

/-- The 1 ms average of a group's supply in 0.05 V (FGRP_STAT.VOLT). -/
def groupVolt (x : Group) : Nat := if x.samples.isEmpty then 0 else x.samples.sum / x.samples.length

/-- A group's outputs are de-energised and its waiting requests end REFUSED (R115, R174). -/
def groupLoss (s : State) (g : Nat) : State :=
  (groupChannels g).foldl (fun s c =>
    let s1 := setClaim (withdrawC1 s c .supplyMissing) c {}
    if (fe s1 c).granted = 0 ∧ (fe s1 c).driven = 0 then s1
    else modFe s1 c (fun f => { f with granted := 0, driven := 0, supplyClosed := false })) s

/-- A group enters a supply state: flag and event (Table FCD-3). -/
def enterSupply (s : State) (g : Nat) (x : Group) (st : Supply) : State :=
  let s1 := setGroup s g { x with supply := st }
  let v := groupVolt x
  match st with
  | .ok => post s1 .fsupOk g g v 0
  | .low => post (raise s1 Reg.fgrpFlags g 0) .fsupLow g g v 0
  | .missing => groupLoss (post (raise s1 Reg.fgrpFlags g 1) .fsupMissing g g v 0) g
  | .high => post (raise s1 Reg.fgrpFlags g 3) .fsupHigh g g v 0

/-- GROUP_SUPPLY_SAMPLE (R115): one 50 µs sample of a field supply, in 0.05 V. 2 ms are 40 samples, 1 ms are 20. -/
def execGroupSupplySample (g : Fin 12) (v : BitVec 10) (s : State) : Host.Outcome State Fault Refusal :=
  let x0 := group s g.val
  let x : Group := { x0 with
    lowRun := if v.toNat < 320 then x0.lowRun + 1 else 0
    highRun := if 384 ≤ v.toNat then x0.highRun + 1 else 0
    samples := (v.toNat :: x0.samples).take 20 }
  if x0.supply = .missing then .next (setGroup s g.val x)
  else if 40 ≤ x.lowRun then .next (enterSupply s g.val x .missing)
  else match supplyByAverage x.samples with
    | some st => if st = x0.supply then .next (setGroup s g.val x) else .next (enterSupply s g.val x st)
    | none => .next (setGroup s g.val x)

/-- FSUP_RETURN (R116): 100 ms (2,000 samples) at 19.2 V or more end MISSING; the commanded outputs ask Gourd again. -/
def execFsupReturn (g : Fin 12) (s : State) : Host.Outcome State Fault Refusal :=
  let x := group s g.val
  if decide (x.supply = .missing) && decide (2000 ≤ x.highRun) then
    let st : Supply := match supplyByAverage x.samples with
      | some .high => .high
      | _ => .ok
    let s1 := post (raise s Reg.fgrpFlags g.val 2) .fsupReturn g.val g.val (groupVolt x) 0
    let s2 := enterSupply s1 g.val x st
    .next (refreshAll ((groupChannels g.val).foldl armClaims s2) (groupChannels g.val))
  else .next s

/-- The state in which a configured front-end starts: armed, unarmed for UNUSED, or failed when the CRC of its factory area is wrong (R164). -/
def armedState (s : State) (c : Nat) : FeState :=
  if !(fe s c).factoryValid then .failed else if modeOf s c = 0 then .unarmed else .armed

/-- FE_RECONFIG_DONE (R118): the front-end is re-armed with its settings, its local safe setting stored (R158). -/
def execFeReconfigDone (n : Fin 216) (s : State) : Host.Outcome State Fault Refusal :=
  let c := channelOf s n.val
  if (fe s c).reconfiguring then
    let s0 := checkFactory s c
    let s1 := modFe s0 c (fun f => { f with
      reconfiguring := false
      state := if f.state = .failed then .failed else armedState s0 c
      safeCounts := BitVec.ofNat 16 (safeSetting s c) })
    .next (refresh (armClaims s1 c) c)
  else .next s

/-! ## Digital input, pulse and frequency -/

/-- DI_FILTER_CHANGE (R124): the comparator has shown a new state for FILTER, and shows it still. -/
def execDiFilterChange (n : Fin 216) (st : Bool) (s : State) : Host.Outcome State Fault Refusal :=
  let c := channelOf s n.val
  if isDi (modeOf s c) && decide ((fe s c).comp = st) then .next (modFe s c (fun f => { f with diState := st })) else .next s

/-- FCH_PULSECFG.EDGE counts an edge of this direction: 00 rising, 01 falling, 10 both (R132). -/
def edgeCounts (s : State) (c : Nat) (rising : Bool) : Bool :=
  match cfgField s Reg.fchPulsecfg c 1 0 with
  | 0 => rising
  | 1 => !rising
  | 2 => true
  | _ => false

/-- PULSE_EDGE (R132, R133): the terminal voltage, past the 2 µs filter, has reached `n.volt` in 10 mV. Where it crosses the threshold of
FCH_DICFG, it is an edge, counted as FCH_PULSECFG.EDGE selects and timestamped (R134). -/
def execPulseEdge (n : EdgeSample) (s : State) : Host.Outcome State Fault Refusal :=
  let c := channelOf s n.sel.val
  let now := compare (thresholds s c) (fe s c).comp (calibrated s c 3 n.volt)
  if isPulse (modeOf s c) && decide (now ≠ (fe s c).comp) then
    .next (freeNext (modFe s c (fun f => { f with
      comp := now
      edgeCount := if edgeCounts s c now then (f.edgeCount + 1) % 4294967296 else f.edgeCount
      gateEdges := if edgeCounts s c now then f.gateEdges + 1 else f.gateEdges
      gateFirst := if edgeCounts s c now && decide (f.gateEdges = 0) then s.now else f.gateFirst
      gateLast := if edgeCounts s c now then s.now else f.gateLast })))
  else .next s

/-- The front-end's t_last − t_first, in 10 ns, agrees with the edges' own times to two ticks of 10 ns and 50 ppm (R134). -/
def spanAgrees (f : FrontEnd) (span : Nat) : Bool :=
  let d := f.gateLast - f.gateFirst
  let e := 20 + d / 20000
  decide (10 * span ≤ d + e) && decide (d ≤ 10 * span + e)

/-- FREQ_GATE_END (R134): a gate ends with the N edges counted in it, and t_last − t_first as the front-end timestamped it, in 10 ns. With fewer
than 2 edges the gate is extended, and after 10 gates f is 0. Figures that the edges do not bear out end no gate (log 134). -/
def execFreqGateEnd (n : Fin 216) (edges span : Nat) (s : State) : Host.Outcome State Fault Refusal :=
  let c := channelOf s n.val
  let f0 := fe s c
  if !isPulse (modeOf s c) || decide (edges ≠ f0.gateEdges) || (decide (2 ≤ edges) && !(spanAgrees f0 span && decide (0 < span))) then .next s
  else if 2 ≤ edges then
    .next (freeNext (modFe s c (fun f => { f with
      freqNow := freeRound s 0 ((edges - 1) * 100000000000) span % 4294967296, emptyGates := 0, gateEdges := 0 })))
  else if 10 ≤ (fe s c).emptyGates + 1 then .next (modFe s c (fun f => { f with freqNow := 0, emptyGates := 0, gateEdges := 0 }))
  else .next (modFe s c (fun f => { f with emptyGates := f.emptyGates + 1 }))

/-! ## Digital output (R125 to R131) -/

/-- A DO that this module drives: R126 to R130 are evaluated only in ACTIVE or ALONE (R131). -/
def evaluatesDo (s : State) (c : Nat) : Bool := owner s && isDo (modeOf s c)

/-- The group's model is above 12,000 mA because of a short excess: flagged and posted (R171). -/
def checkOverpeak (s : State) (g : Nat) : State :=
  let m := groupModel s g
  if 12000 < m then post (raise s Reg.grdFlags 0 2) .grdGroupOverpeak g g m 12000 else s

/-- DO_OVERLOAD (R126): the switch is in current limit, SHORT is set, and outside INRUSH_T Gourd adds the short excess for as long as it
holds, at most 5 ms (R171). -/
def execDoOverload (c : Fin 192) (s : State) : Host.Outcome State Fault Refusal :=
  if evaluatesDo s c.val && decide ((fe s c.val).driven = 1) then
    let s1 := modFe s c.val (fun f => { f with limit := true, short := true })
    let k := claimOf s1 c.val
    if k.excessEnd ≤ s.now then
      let s2 := setClaim s1 c.val { k with shortExcess := 1200 - loadI s c.val, shortEnd := s.now + 5000000 }
      .next (checkOverpeak (markAbove s2 (groupOf c.val)) (groupOf c.val))
    else .next s1
  else .next s

/-- DO_LATCHOFF (R126): 5 ms in limit open the switch; after the last retry the channel is FAILED. -/
def execDoLatchoff (c : Fin 192) (s : State) : Host.Outcome State Fault Refusal :=
  if evaluatesDo s c.val && (fe s c.val).limit then
    let s1 := modFe s c.val (fun f => { f with limit := false, short := true, latchedShort := true, latchedOff := true, granted := 0, driven := 0 })
    let s2 := markAbove (setClaim s1 c.val {}) (groupOf c.val)
    let s3 := post (countUp (feFault s2 c.val) Reg.fchSnapShorts c.val) .doLatchoff c.val c.val (fe s c.val).retries 0
    if cfgField s Reg.fchDocfg c.val 3 0 ≤ (fe s c.val).retries then
      .next (post (feFault (modFe s3 c.val (fun f => { f with failed := true })) c.val) .doFailed c.val c.val (fe s c.val).retries 0)
    else .next s3
  else .next s

/-- DO_RETRY (R126): 1 s after a latch-off with the demand still on, the energisation is asked for again. -/
def execDoRetry (c : Fin 192) (s : State) : Host.Outcome State Fault Refusal :=
  let f := fe s c.val
  if evaluatesDo s c.val && f.latchedOff && !f.failed && !f.broken && decide (commanded s c.val = 1) then
    let s1 := raise (modFe s c.val (fun f => { f with latchedOff := false, retries := f.retries + 1 })) Reg.fchFlags c.val 2
    .next (refresh s1 c.val)
  else .next s

/-- DO_MISMATCH (R127, R128): the readback differs from the driven state and has done so for 2 ms. On while commanded off with more than 20 mA in the open
switch, the front-end has failed as well. -/
def execDoMismatch (c : Fin 192) (high : Bool) (s : State) : Host.Outcome State Fault Refusal :=
  let f := fe s c.val
  if !(owner s && decide (modeOf s c.val = 5)) then .next s
  else if high then
    if f.comp && decide (f.driven = 0) then
      let s1 := feFault (modFe s c.val (fun f => { f with misHigh := true, failed := true })) c.val
      let s2 := refresh (post s1 .mismatchHigh c.val c.val f.auxNow.toNat 0) c.val
      if 20 < f.auxNow.toNat then .next (feFailure s2 c.val) else .next s2
    else .next s
  else if decide (f.driven = 1) && !f.comp && !f.short && decide ((group s (groupOf c.val)).supply ≠ .missing) then
    let s1 := feFault (modFe s c.val (fun f => { f with misLow := true, failed := true })) c.val
    .next (refresh (post s1 .mismatchLow c.val c.val f.auxNow.toNat 0) c.val)
  else .next s

/-- DO_OPEN_LOAD (R130): a switch current below 5 mA for 100 ms while on, and still, sets OPEN_LOAD; 5 mA or more for 100 ms, and still,
clears it. The current is the upstream AUX (R111). -/
def execDoOpenLoad (c : Fin 192) (st : Bool) (s : State) : Host.Outcome State Fault Refusal :=
  let ma := (fe s c.val).aux.toNat
  if !(evaluatesDo s c.val && bit (cfg s Reg.fchDocfg c.val) 7) then .next s
  else if st then
    if decide ((fe s c.val).driven = 1) && decide (ma < 5) then
      .next (post (modFe s c.val (fun f => { f with openLoad := true })) .doOpenLoad c.val c.val ma 5)
    else .next s
  else if 5 ≤ ma then .next (modFe s c.val (fun f => { f with openLoad := false }))
  else .next s

/-- Clear a channel's latched faults and restart its retry count (R129). A current limit that goes on sets SHORT again, and the set wins; a
front-end that is itself failed stays so, and so does SHORT of a loop supply, which is not latched. -/
def clearFault (s : State) (c : Nat) : State :=
  refresh (modFe s c (fun f => { f with failed := false, misHigh := false, misLow := false, short := f.limit, latchedShort := false,
                                        latchedOff := false, retries := 0 })) c

end Sys2Proof.Machine
end

