-- ==== Sys2Proof/Machine/FieldRegs.lean ====
section
/-! DEFINITION. Machine/FieldRegs.lean: the field channel and Gourd registers that show live state (R141, R166, R180). -/
namespace Sys2Proof.Machine
open Sys2Proof

/-- FCH_VAL of front-end `n`: the true value at the last base-cycle boundary; a spare shows its channel's (R140, R141). -/
def fchVal (s : State) (n : Nat) : Word := (latched s.fch.cycleLatch (channelOf s n)).value

/-- FCH_STAT of front-end `n` (R141). -/
def fchStat (s : State) (n : Nat) : Word :=
  let c := channelOf s n
  let f := fe s c
  fieldWord 31 30 (budgetCode f.budget) ||| fieldWord 29 28 (feStateCode f.seenState) ||| fieldWord 27 24 f.retries
    ||| fieldWord 23 23 (b2n (decide (c < 192) && f.link.isSome)) ||| fieldWord 22 22 (b2n f.sprouting)
    ||| fieldWord 15 0 (channelStatus s c)

/-- FCH_SPARE of front-end `n` (R141). -/
def fchSpare (s : State) (n : Nat) : Word :=
  match (fe s n).link with
  | some k => fieldWord 8 8 1 ||| fieldWord 7 0 k
  | none => 0

/-- FGRP_STAT of group `g` (R141). -/
def fgrpStat (s : State) (g : Nat) : Word :=
  fieldWord 21 20 (sparesFree s g) ||| fieldWord 17 16 (supplyCode (group s g).supply) ||| fieldWord 9 0 (groupVolt (group s g))

/-- GRD_GRP of group `g` (R180). -/
def grdGrp (s : State) (g : Nat) : Word := fieldWord 31 16 (groupModel s g) ||| fieldWord 15 0 (groupStanding s g)

/-- GRD_GRP_MEAS of group `g` (R180). -/
def grdGrpMeas (s : State) (g : Nat) : Word :=
  let ov8 := match (groupBudget s g).above with
    | some t => min ((s.now - t) / 100000) 255
    | none => 0
  let waits := (s.grd.c1.filter (fun r => decide (groupOf r.source = g) && r.delayed.isSome)).length
  fieldWord 31 24 ov8 ||| fieldWord 23 16 (min waits 255) ||| fieldWord 15 0 (groupBudget s g).measured

end Sys2Proof.Machine
end

