-- ==== Sys2Proof/Machine/Executive.lean ====
section
/-! DEFINITION. Machine/Executive.lean: the station executive's steps: boundaries, task ends, STOP and START, the retain
store, forces and channel reads (R26 to R65). -/
namespace Sys2Proof.Machine
open Sys2Proof

/-! ## Boundaries (R26, R27, R35 to R40) -/

/-- A pulse count's first entry after a gap has been latched (R111). -/
def closeGap (f : FrontEnd) : FrontEnd := if f.lastGood then { f with gap := false } else f

/-- Load the cycle latch from the last completed coupler frame, stamped with the boundary (R26). A gap of the pulse count ends with the entry
of this latch; the sample latches before it show it too (R111). -/
def loadCycleLatch (s : State) (b : Nat) : State :=
  let seq := (s.exe.latchSeq + 1) % 256
  { s with fch := { s.fch with cycleLatch := latchNow s seq, cycleStamp := b, fes := s.fch.fes.map (fun p => (p.1, closeGap p.2)) }
           exe := { s.exe with latchSeq := seq, lastBoundary := b } }

/-- The user calibration sets that pass take effect at the boundary (R165). -/
def calibrationBoundary (s : State) : State :=
  { s with fch := { s.fch with fes := s.fch.fes.map (fun p =>
      (p.1, { p.2 with
        useUserNow := p.2.userValid && decide (cfgField s Reg.fchCal p.1 1 1 = 1)
        userInUse := p.2.userStaged.getD p.2.userInUse, userStaged := none })) } }

/-- A task is due at boundary `b`: its period divides the boundary's module time (R35). -/
def taskDue (s : State) (b n : Nat) : Bool :=
  (task s n).defined && decide (0 < (task s n).period) && decide (b % periodNs s n = 0)

/-- The station has entered STOP with its cause: the retain store is written (R47), the outputs take their STOP behaviour (R52), and
waiting STOP commands get their reply. A core pair that waits for STOP is swapped now (R301). -/
def enterStopWith (s : State) (cause : StopCause) (abandon : Bool) : State :=
  let s1 := writeRetain (stopWith { s with exe := { s.exe with abandoned := abandon } } cause)
  let s2 := if abandon then
      post { s1 with exe := { s1.exe with tasks := s1.exe.tasks.map (fun p => (p.1, if p.2.state = .running then { p.2 with state := .idle } else p.2)) } }
        .stopAbandoned 0 0 0 0
    else s1
  let s3 := refreshAll s2 (latchChannels s2)
  startCoreSwap (concludeAll s3 (fun x => decide (x.opcode = 0x0102)) .ok 0 (fun t _ => leBytes 4 (exeState t).toNat))

/-- A task whose third consecutive overrun puts it into task fault; its FAULT_ACTION follows (R38). DESIGN CHOICE: under STOP_STATION the
station is in STOP at once, and instances of other tasks that run then go on to their ends, whose outputs are committed (log 129). -/
def taskFault (s : State) (n : Nat) : State :=
  let t := task s n
  let s1 := post (raise (setTask s n { t with state := .fault }) Reg.exeFlags 0 1) .taskFault n n t.consec 0
  if t.stopTask then
    let s2 := t.writes.foldl (fun u c => modFe u c (fun f => { f with taskStopped := true })) s1
    refreshAll s2 t.writes
  else enterStopWith s1 .taskFault false

/-- A release that meets the previous instance still running is skipped and counted (R37). -/
def taskOverrun (s : State) (n : Nat) : State :=
  let t := { task s n with consec := min ((task s n).consec + 1) 3 }
  let s1 := skipRelease (setTask s n t) n 1 .overrun
  let s2 := post (raise s1 Reg.exeFlags 0 0) .taskOverrun n n t.consec 0
  if 3 ≤ t.consec then taskFault s2 n else s2

/-- The value of an exchange variable that a reader's input image takes: the forced value (R54), else what lies in state memory for one
that another island writes (R191, R214, R379), else the value its writer left at its last task end (R40). -/
def exchangeValue (s : State) (i : Nat) : List Byte :=
  forcedBytes s i (match (var? s i).bind (fun x => x.place.map (fun _ => ownValue s x)) with
    | some bs => bs
    | none => storeGet (fun _ => []) s.exe.exchange i)

/-- Bytes 16 to 31 of a loop's exchange entry, as the last sample completed before the boundary `b` left them (R82). -/
def loopBefore (s : State) (b n : Nat) : List Byte :=
  match loop? s n with
  | some l => if l.pubSlot * 50000 < b then l.published else l.pubBefore
  | none => leBytes 16 0

/-- An 8-byte channel entry of an input image (Table EXE-2). -/
def latchBytes (e : LatchEntry) : List Byte := leBytes 4 e.value.toNat ++ leBytes 2 e.status ++ leBytes 1 e.mode ++ leBytes 1 e.seq

/-- An input image as state memory holds it: the 16-byte header, the channel entries, the exchange variables, and the declared loops'
bytes among these, after the tasks' (R39, R82). -/
def imageBytes (t : Task) : List Byte :=
  leBytes 8 (t.start / 1000000000) ++ leBytes 4 (t.start % 1000000000) ++ leBytes 4 t.releases
    ++ t.input.flatMap (fun p => latchBytes p.2) ++ t.xinput.flatMap (·.2) ++ t.linput.flatMap (·.2)

/-- Release a task: the start timestamp is the boundary's, and the input image is copied from the cycle latch and the committed
exchange values (R27, R39, R40, R82). -/
def releaseTask (s : State) (b n : Nat) : State :=
  let t := task s n
  let t' : Task := { t with
    state := .running, start := b, releases := (t.releases + 1) % 4294967296
    input := t.reads.map (fun c => (c, { readEntry s s.fch.cycleLatch c with seq := s.exe.latchSeq }))
    xinput := t.xreads.map (fun i => (i, exchangeValue s i))
    linput := t.loops.map (fun k => (k, loopBefore s b k)) }
  countUp (setTask s n { t' with image := imageBytes t' }) Reg.exeSnapRel n

/-- Releases are withheld: for a handover, or from the power-fail warning on (R61, R455). -/
def withheld (s : State) : Bool := s.exe.handover.isSome || s.sup.pfw

/-- A withheld release counts as skipped with its cause, not as an overrun (R61, R277, R455). -/
def withholdTask (s : State) (n : Nat) : State :=
  let t := task s n
  skipRelease (setTask s n { t with state := if t.state = .running then .running else .withheld }) n 1
    (if s.sup.pfw then .powerFail else .handover)

/-- One due task at a boundary. -/
def boundaryTask (b : Nat) (s : State) (n : Nat) : State :=
  if s.exe.station ≠ .run then s
  else match (task s n).state with
    | .fault => s
    | .running => if withheld s then withholdTask s n else taskOverrun s n
    | _ => if withheld s then withholdTask s n else releaseTask s b n

/-- Tasks are released at boundary `b` at all (R34, R51, R364). -/
def releasesTasks (s : State) (b : Nat) : Bool :=
  owner s && decide (s.exe.station = .run) && s.exe.stopPending.isNone && decide (s.exe.releaseFrom ≤ b)

/-- The variable writes that wait, then the tasks due at boundary `b` in priority order, where tasks are released (R35, R321). -/
def releaseDue (s : State) (b : Nat) : State :=
  if releasesTasks s b then
    let due := (List.range 16).filter (taskDue s b)
    let going := if withheld s then [] else due.filter (fun n => decide ((task s n).state = .idle) || decide ((task s n).state = .withheld))
    due.foldl (boundaryTask b) (applyVarWrites s going)
  else applyVarWrites s []

/-- The latched values with their status, and the pulse counts (R135, R143). -/
def fieldContent (s : State) : CopyContent :=
  { values := s.fch.cycleLatch.map (fun p => (p.1, p.2.value, p.2.status))
    counts := (s.fch.cycleLatch.filter (fun p => isPulse (modeOf s p.1))).map (fun p => (p.1, p.2.value)) }

/-- The latched values and the pulse counts go to the partner. -/
def copyField (s : State) : State := copyChange s 0x32 (fieldContent s)

/-- The force table as a commit carries it (R55). -/
def forceContent (s : State) : List (ForceKey × Nat) := s.exe.forces.map (fun f => (f.key, f.value))

/-- After CATCHUP, commits stream from this base-cycle boundary; the writers that commit only changes make their first commit with what they
hold: the executive, Gourd and the GMU (R276, Table PPD-3). -/
def startStream (s : State) : State :=
  if s.pair.streamNext && decide (s.pair.role = .active) then
    let s1 := { s with pair := { s.pair with streamNext := false, streaming := true } }
    let s2 := copyChange s1 0x10 { forces := some (forceContent s1), station := some s1.exe.station }
    let s3 := copyChange (noteCopied s2) 0x31 { claims := some (claimsNow s2) }
    copyChange (noteGmu s3) 0x30 { gmu := some (gmuNow s3) }
  else s

/-- BASE_CYCLE_BOUNDARY (R26, R27, R35, R263): the latch, the pending variable writes, then the due tasks in priority order. -/
def execBaseCycleBoundary (s : State) : Host.Outcome State Fault Refusal :=
  let b := boundaryOf s
  .next (releaseDue (copyField (startStream (calibrationBoundary (loadCycleLatch (lanesBoundary (closeCycle s)) b)))) b)

/-- The instance that pair X runs: the released one with the lowest task number; it preempts every other (R36). -/
def onPairX (s : State) (n : Nat) : Bool :=
  decide ((task s n).state = .running) && (List.range n).all (fun k => decide ((task s k).state ≠ .running))

/-- A payload is of a transmit object whose writer is task `n` (R374). -/
def writesObject (s : State) (n : Nat) (c : Nat × Nat × List Byte) : Bool :=
  ((txObject (canPort s c.1) c.2.1).map (fun d => decide (d.writer = n))).getD false

/-- TASK_END (R36, R42 to R47): the instance's function blocks, variables and outputs take effect; the output image is driven after
the partner's acknowledge, or at once in a lone module. An abandoned instance drives nothing, and a preempted one does not end. -/
def execTaskEnd (r : TaskResult) (s : State) : Host.Outcome State Fault Refusal :=
  let n := r.task.val
  let t := task s n
  if !onPairX s n then .next s
  else
    let s1 := r.calls.foldl (fbCall t.start) s
    let s2 := (r.vars.filter (fun v => match var? s1 v.1 with
      | some x => decide (x.writer = some n)
      | none => false)).foldl (fun u v => writeVar u v.1 0 v.2) s1
    let s3 := { s2 with exe := { s2.exe with exchange :=
      (s2.exe.vars.filter (fun p => p.2.exchange && decide (p.2.writer = some n))).foldl (fun m p => storeSet (fun _ => []) m p.1 p.2.value) s2.exe.exchange } }
    let s4 := shadowTask s3 n
    let done : Task := { task s4 n with
      state := .idle, lastUs := r.execUs
      consec := if s.now < t.start + periodNs s n then 0 else t.consec }
    let s5 := countMax (setTask s4 n done) Reg.exeSnapMaxexec n r.execUs
    let s6 := applyLoopWrites s5 r.loops
    let s7 := if n = s6.gmu.inputTask then commitGmuInput s6 (r.gmuInput.getD []) else s6
    .next (commit (countBlocks s7 (9 * r.dirtyLines + 1)) (.task n) (r.outputs.filter (fun o => t.writes.contains o.1)) (r.canPayloads.filter (writesObject s7 n)) r.sources)

/-- RETAIN_STORE_WRITE (R47): the shadow is written to the alternate MRAM copy. -/
def execRetainStoreWrite (s : State) : Host.Outcome State Fault Refusal := .next (writeRetain s)

/-! ## STOP, START and restarts (R51 to R53) -/

/-- The station enters STOP with the cause that waits (R51). -/
def enterStop (s : State) (abandon : Bool) : State := enterStopWith s (s.exe.stopPending.getD .command) abandon

/-- STOP_ENTER (R51): at the first boundary after a STOP with no instance running. -/
def execStopEnter (s : State) : Host.Outcome State Fault Refusal :=
  if s.exe.stopPending.isSome && !anyRunning s then .next (enterStop s false) else .next s

/-- STOP_GRACE_EXPIRY (R51): the station enters STOP at the next boundary anyway and abandons what still runs; with no instance
running there is nothing to abandon. -/
def execStopGraceExpiry (s : State) : Host.Outcome State Fault Refusal :=
  if s.exe.stopPending.isSome then .next (enterStop s (anyRunning s)) else .next s

/-- RESTART_BOUNDARY (R53): the boundary after START, WARM or COLD puts the station in RUN. -/
def execRestartBoundary (s : State) : Host.Outcome State Fault Refusal :=
  if s.exe.startPending.isSome && decide (s.exe.station = .stop) then
    .next { s with exe := { s.exe with station := .run, stopCause := .none, startPending := none } }
  else .next s

/-- START (0x0101, R53). -/
def execStart (c : Ctx) (s : State) : Host.Outcome State Fault Refusal :=
  .next (command s c 0x0101 1 (.start c) (owner s) (fun s =>
    if s.exe.station ≠ .stop then refuse s c 0x0101 .notInStop (stationCode s.exe.station)
    else
      let s1 := unwriteOutputs (clearTasks s)
      let s2 := { s1 with exe := { s1.exe with startPending := some { kind := .none, choice := .none } } }
      ok s2 c 0x0101 (leBytes 4 (exeState s2).toNat)))

/-- STOP (0x0102, R51): no task is released after it, so a start that waits for its boundary is dropped; the reply is final when STOP is
entered. -/
def execStop (c : Ctx) (s : State) : Host.Outcome State Fault Refusal :=
  .next (command s c 0x0102 1 (.stop c) (owner s) (fun s =>
    if s.exe.station = .stop then ok { s with exe := { s.exe with startPending := none } } c 0x0102 (leBytes 4 (exeState s).toNat)
    else if s.exe.station = .run then
      await { s with exe := { s.exe with stopPending := some .command } } c 0x0102 1 0
    else refuse s c 0x0102 .badParam 0xFFFFFFFF))

/-- A restart command's conditions: STOP, an image, and a force choice when a new image comes into service (R53, R56). -/
def restartCommand (s : State) (c : Ctx) (op : Nat) (choice : ForceChoice) (go : State → Image → State) : State :=
  if s.exe.station ≠ .stop then refuse s c op .notInStop (stationCode s.exe.station)
  else if newImageCommitted s && mayChange s && decide (choice = .none) then refuse s c op .badParam 0
  else match restartImage s with
    | none => refuse s c op .badParam 0xFFFFFFFF
    | some im => go s im

/-- The results of WARM and COLD: EXE_STATE and the entries of the change report. -/
def restartResult (s : State) : List Byte := leBytes 4 (exeState s).toNat ++ leBytes 4 s.exe.report.length

/-- WARM (0x0103, R48, R49, R58): the retain copy is restored; without a valid copy RETAIN_LOST_ACTION decides. DESIGN CHOICE: the spec
names no status code for a WARM that stays in STOP; it is answered OK, with EXE_STATE showing STOP_CAUSE = RETAIN (log 101). -/
def execWarm (c : Ctx) (choice : ForceChoice) (s : State) : Host.Outcome State Fault Refusal :=
  .next (command s c 0x0103 1 (.warm c choice) (owner s) (fun s =>
    restartCommand s c 0x0103 choice (fun s im =>
      let pend (t : State) (k : Restart) : State := { t with exe := { t.exe with startPending := some { kind := k, choice := choice } } }
      match retainCopy s with
      | some k =>
        let s1 := pend (warmRestart s im k.data choice) .warm
        ok s1 c 0x0103 (restartResult s1)
      | none =>
        let s1 := retainInvalid s
        if retainLostCold im then
          let s2 := pend (coldRestart s1 im choice) .cold
          ok s2 c 0x0103 (restartResult s2)
        else
          let s2 := stopWith s1 .retain
          ok s2 c 0x0103 (restartResult s2))))

/-- COLD (0x0104, R49). -/
def execCold (c : Ctx) (choice : ForceChoice) (s : State) : Host.Outcome State Fault Refusal :=
  .next (command s c 0x0104 1 (.cold c choice) (owner s) (fun s =>
    restartCommand s c 0x0104 choice (fun s im =>
      let s1 := coldRestart s im choice
      let s2 := { s1 with exe := { s1.exe with startPending := some { kind := .cold, choice := choice } } }
      ok s2 c 0x0104 (restartResult s2))))

/-- STATE_READ (0x0106, R322): EXE_STATE, PPD_STAT, WNT_STATE and module time. -/
def execStateRead (c : Ctx) (s : State) : Host.Outcome State Fault Refusal :=
  .next (command s c 0x0106 1 (.stateRead c) true (fun s =>
    meets s c 0x0106 7 (fun s => meets s c 0x0106 6 (fun s =>
      ok s c 0x0106 (leBytes 4 (exeState s).toNat ++ leBytes 4 (ppdStat s).toNat ++ leBytes 4 (wntState s).toNat
        ++ leBytes 8 (sec s) ++ leBytes 4 (nsec s))))))

/-- CHANGE_REPORT (0x0207, R59): entries of the change report. -/
def execChangeReport (c : Ctx) (first : BitVec 32) (count : BitVec 16) (s : State) : Host.Outcome State Fault Refusal :=
  .next (command s c 0x0207 1 (.changeReport c first count) true (fun s =>
    if count.toNat = 0 ∨ 4000 < count.toNat then refuse s c 0x0207 .badParam 4
    else ok s c 0x0207 (leBytes 4 s.exe.report.length
      ++ ((s.exe.report.drop first.toNat).take count.toNat).flatMap changeBytes)))

/-! ## Image loads (R62 to R64, R324) -/

/-- LOAD_BEGIN (0x0201, R324): every role but OFFLINE; slot B only in STOP; BUSY while another load is open. -/
def execLoadBegin (c : Ctx) (slot : BitVec 8) (len : BitVec 32) (s : State) : Host.Outcome State Fault Refusal :=
  .next (command s c 0x0201 1 (.loadBegin c slot len) (decide (s.pair.role ≠ .offline)) (fun s =>
    if 1 < slot.toNat then refuse s c 0x0201 .badParam 0
    else if 33554432 < len.toNat ∨ len.toNat = 0 then refuse s c 0x0201 .badParam 1
    else if s.exe.load.isSome then refuse s c 0x0201 .busy 0
    else if decide (slot.toNat = 1) && decide (s.exe.station ≠ .stop) then refuse s c 0x0201 .notInStop (stationCode s.exe.station)
    else ok { s with exe := { s.exe with load := some { slot := slot.toNat, queue := c.queue.val, session := c.session.val, length := len.toNat, bytes := [], checking := false } } }
      c 0x0201 []))

/-- The session's own open load, not yet under check. -/
def openLoad (s : State) (c : Ctx) : Option Load :=
  s.exe.load.filter (fun l => decide (l.session = c.session.val) && !l.checking)

/-- LOAD_CHUNK (0x0202): bytes at the offset received so far. -/
def execLoadChunk (c : Ctx) (offset : BitVec 32) (data : List Byte) (s : State) : Host.Outcome State Fault Refusal :=
  .next (command s c 0x0202 1 (.loadChunk c offset data) (decide (s.pair.role ≠ .offline)) (fun s =>
    match openLoad s c with
    | none => refuse s c 0x0202 .badParam 0xFFFFFFFF
    | some l =>
      if offset.toNat ≠ l.bytes.length then refuse s c 0x0202 .badParam 0
      else if l.length < l.bytes.length + data.length then refuse s c 0x0202 .badParam 4
      else
        let l' := { l with bytes := l.bytes ++ data }
        ok { s with exe := { s.exe with load := some l' } } c 0x0202 (leBytes 4 l'.bytes.length)))

/-- LOAD_COMMIT (0x0203, R324): the checks start once every byte is there. -/
def execLoadCommit (c : Ctx) (s : State) : Host.Outcome State Fault Refusal :=
  .next (command s c 0x0203 1 (.loadCommit c) (decide (s.pair.role ≠ .offline)) (fun s =>
    match openLoad s c with
    | none => refuse s c 0x0203 .badParam 0xFFFFFFFF
    | some l =>
      if l.bytes.length ≠ l.length then refuse s c 0x0203 .badParam 0xFFFFFFFF
      else accept { s with exe := { s.exe with load := some { l with checking := true } } } c 0x0203 .acceptedPending 0 1 0))

/-- LOAD_ABORT (0x0208): the open load is discarded; the slot keeps its image. -/
def execLoadAbort (c : Ctx) (s : State) : Host.Outcome State Fault Refusal :=
  .next (command s c 0x0208 1 (.loadAbort c) (decide (s.pair.role ≠ .offline)) (fun s =>
    match openLoad s c with
    | none => refuse s c 0x0208 .badParam 0xFFFFFFFF
    | some _ => ok { s with exe := { s.exe with load := none } } c 0x0208 []))

/-- The image of a slot. -/
def slotImage (s : State) (slot : Nat) : Option Image := if slot = 0 then s.exe.slotA else s.exe.slotB

/-- VERIFY (0x0204): a slot's validity, versions and hash. -/
def execVerify (c : Ctx) (slot : BitVec 8) (s : State) : Host.Outcome State Fault Refusal :=
  .next (command s c 0x0204 1 (.verify c slot) true (fun s =>
    if 1 < slot.toNat then refuse s c 0x0204 .badParam 0
    else match slotImage s slot.toNat with
      | some im => ok s c 0x0204 (leBytes 1 1 ++ leBytes 16 im.header.programId ++ leBytes 4 im.header.releaseVersion
          ++ leBytes 4 im.header.securityVersion ++ leBytes 48 im.hash)
      | none => ok s c 0x0204 (leBytes 73 0)))

/-! ## Variables and forces (R54, R55, R321, R323) -/

/-- VAR_READ (0x0301): values by identity, offset and size. -/
def execVarRead (c : Ctx) (items : List (BitVec 64 × BitVec 32 × BitVec 16)) (s : State) : Host.Outcome State Fault Refusal :=
  .next (command s c 0x0301 1 (.varRead c items) true (fun s =>
    if items.isEmpty ∨ 256 < items.length then refuse s c 0x0301 .badParam 0
    else if 65504 < (items.map (fun i => i.2.2.toNat)).sum then refuse s c 0x0301 .badLength 65504
    else
      let bad (p : Nat × (BitVec 64 × BitVec 32 × BitVec 16)) : Bool :=
        decide (p.2.2.2.toNat = 0) || decide (256 < p.2.2.2.toNat)
          || decide ((readVar s p.2.1.toNat).length < p.2.2.1.toNat + p.2.2.2.toNat)
      match (items.zipIdx.map (fun p => (p.2, p.1))).find? bad with
      | some p => refuse s c 0x0301 .badParam (2 + 14 * p.1)
      | none => ok s c 0x0301 (items.flatMap (fun i => ((readVar s i.1.toNat).drop i.2.1.toNat).take i.2.2.toNat))))

/-- VAR_WRITE (0x0302, R321): staged until the writer task's next release, or the next boundary without one. -/
def execVarWrite (c : Ctx) (identity : BitVec 64) (offset : BitVec 32) (data : List Byte) (s : State) : Host.Outcome State Fault Refusal :=
  .next (command s c 0x0302 1 (.varWrite c identity offset data) (owner s) (fun s =>
    match var? s identity.toNat with
    | none => refuse s c 0x0302 .badParam 0
    | some x =>
      if x.value.length < offset.toNat + data.length then refuse s c 0x0302 .badParam 8
      else ok { s with exe := { s.exe with varWrites := s.exe.varWrites ++ [{ identity := identity.toNat, offset := offset.toNat, data := data }] } }
        c 0x0302 []))

/-- A force's target exists and is no safe channel: channels CH000 to CH191, or a variable of the image (R24, R54). -/
def forceTargetOk (s : State) (k : ForceKey) : Bool :=
  match k with
  | .input c => decide (c < 192)
  | .output c => decide (c < 192)
  | .variable i => (var? s i).isSome

/-- Enter or replace a force; a 513th entry is refused (R54). -/
def setForce (s : State) (k : ForceKey) (v : Nat) : Option State :=
  if (forceOf s k).isSome then some (writeForces s (s.exe.forces.map (fun f => if f.key = k then { f with value := v } else f)))
  else if 512 ≤ s.exe.forces.length then none
  else some (writeForces s (s.exe.forces ++ [{ key := k, value := v }]))

/-- Remove a force. -/
def clearForce (s : State) (k : ForceKey) : State := writeForces s (s.exe.forces.filter (fun f => f.key ≠ k))

/-- The EXE_FORCE.COUNT a force command returns. -/
def forceCount (s : State) : List Byte := leBytes 4 s.exe.forces.length

/-- The output channel of a force's key. -/
def forceChannel : ForceKey → Option Nat
  | .output ch => some ch
  | _ => none

/-- A force command has changed the table from `before`: the channels reach the grant gate again, and the reply waits for the claim of the table's MRAM write and for each
channel's grant. A channel whose request was delayed before has its estimate in the reply at once (R178). -/
def afterForce (s : State) (c : Ctx) (op : Nat) (before : List Force) (ks : List ForceKey) : State :=
  let chans := ks.filterMap forceChannel
  let s1 := refreshAll s chans
  let asking := chans.filter (fun ch => (waitingC1 s1 ch).isSome)
  let undo := ks.map (fun k => (k, (before.find? (fun f => decide (f.key = k))).map (·.value)))
  let s2 := awaitGrants s1 c op 4 (tableSubject :: asking.map grantSubject) undo
  match (asking.filterMap (waitingC1 s1)).find? (fun r => r.delayed.isSome) with
  | some r => accept s2 c op .budgetDelayed (estimateField r.estimate) 4 0
  | none => s2

/-- FORCE_SET (0x0303, R54). -/
def execForceSet (c : Ctx) (k : ForceKey) (v : BitVec 64) (s : State) : Host.Outcome State Fault Refusal :=
  .next (command s c 0x0303 1 (.forceSet c k v) (owner s) (fun s =>
    if !forceTargetOk s k then refuse s c 0x0303 .badParam 1
    else meets s c 0x0303 4 (fun s => match setForce s k v.toNat with
      | none => refuse (raise s Reg.exeFlags 0 4) c 0x0303 .busy 0
      | some s1 => afterForce s1 c 0x0303 s.exe.forces [k])))

/-- FORCE_CLEAR (0x0304, R54): the channel returns to its writer's demand through Gourd. -/
def execForceClear (c : Ctx) (k : ForceKey) (s : State) : Host.Outcome State Fault Refusal :=
  .next (command s c 0x0304 1 (.forceClear c k) (owner s) (fun s =>
    if (forceOf s k).isNone then refuse s c 0x0304 .badParam 1
    else meets s c 0x0304 4 (fun s => afterForce (clearForce s k) c 0x0304 s.exe.forces [k])))

/-- FORCE_CLEAR_ALL (0x0305, R55, R178): the channels return to their writers' demands through Gourd, and the reply waits for each of them
that asks for a grant. -/
def execForceClearAll (c : Ctx) (s : State) : Host.Outcome State Fault Refusal :=
  .next (command s c 0x0305 1 (.forceClearAll c) (owner s) (fun s =>
    meets s c 0x0305 4 (fun s => afterForce (writeForces s []) c 0x0305 s.exe.forces (s.exe.forces.map (·.key)))))

/-- FORCE_LIST (0x0306): entries of 24 bytes. -/
def execForceList (c : Ctx) (first count : BitVec 16) (s : State) : Host.Outcome State Fault Refusal :=
  .next (command s c 0x0306 1 (.forceList c first count) true (fun s =>
    if count.toNat = 0 ∨ 512 < count.toNat then refuse s c 0x0306 .badParam 2
    else ok s c 0x0306 (((s.exe.forces.drop first.toNat).take count.toNat).flatMap (fun f =>
      leBytes 1 (forceKind f.key) ++ leBytes 7 0 ++ leBytes 8 (forceKeyNumber f.key) ++ leBytes 8 f.value))))

/-- CH_FAILSIG (0x0504, R157): a force with FAIL = 1 on an AO output is entered or removed. -/
def execChFailsig (c : Ctx) (ch : BitVec 8) (on : Bool) (s : State) : Host.Outcome State Fault Refusal :=
  .next (command s c 0x0504 3 (.chFailsig c ch on) (owner s) (fun s =>
    if 191 < ch.toNat ∨ modeOf s ch.toNat ≠ 0x13 then refuse s c 0x0504 .badParam 0
    else meets s c 0x0504 4 (fun s =>
      if on then
        match setForce s (.output ch.toNat) 65536 with
        | none => refuse (raise s Reg.exeFlags 0 4) c 0x0504 .busy 0
        | some s1 => afterForce s1 c 0x0504 s.exe.forces [.output ch.toNat]
      else afterForce (clearForce s (.output ch.toNat)) c 0x0504 s.exe.forces [.output ch.toNat])))

/-! ## Channel reads and clears (R129, R322) -/

/-- CH_READ (0x0501): 16 bytes for each front-end. -/
def execChRead (c : Ctx) (first count : BitVec 8) (s : State) : Host.Outcome State Fault Refusal :=
  .next (command s c 0x0501 3 (.chRead c first count) true (fun s =>
    if 215 < first.toNat then refuse s c 0x0501 .badParam 0
    else if count.toNat = 0 ∨ 216 < first.toNat + count.toNat then refuse s c 0x0501 .badParam 1
    else ok s c 0x0501 ((List.range count.toNat).flatMap (fun i =>
      let n := first.toNat + i
      leBytes 4 (fchVal s n).toNat ++ leBytes 4 (fchStat s n).toNat ++ leBytes 1 (modeOf s n)
        ++ leBytes 1 (((fe s n).link).getD 0) ++ leBytes 6 0))))

/-- The cleared channel asks Gourd for a grant: its request would be made if Gourd were not behind its Husk. -/
def clearAsks (s : State) (ch : Nat) : Bool := (waitingC1 (clearFault (huskRelease s 4) ch) ch).isSome

/-- CH_CLEAR_FAULT (0x0502, R129). A clear whose request would meet Gourd's Husk ends HUSKED (R310). -/
def execChClearFault (c : Ctx) (ch : BitVec 8) (s : State) : Host.Outcome State Fault Refusal :=
  .next (command s c 0x0502 3 (.chClearFault c ch) (owner s) (fun s =>
    if 191 < ch.toNat then refuse s c 0x0502 .badParam 0
    else if held s 4 && clearAsks s ch.toNat then refuse s c 0x0502 .husked 4
    else
      let s1 := clearFault s ch.toNat
      match waitingC1 s1 ch.toNat with
      | none => ok s1 c 0x0502 []
      | some r =>
        let s2 := awaitGrants s1 c 0x0502 3 [grantSubject ch.toNat]
        if r.delayed.isSome then accept s2 c 0x0502 .budgetDelayed (estimateField r.estimate) 3 0 else s2))

/-- GRP_READ (0x0505): FGRP_STAT, GRD_GRP and GRD_GRP_MEAS of a group. -/
def execGrpRead (c : Ctx) (g : BitVec 8) (s : State) : Host.Outcome State Fault Refusal :=
  .next (command s c 0x0505 3 (.grpRead c g) true (fun s =>
    if 11 < g.toNat then refuse s c 0x0505 .badParam 0
    else meets s c 0x0505 4 (fun s =>
      ok s c 0x0505 (leBytes 4 (fgrpStat s g.toNat).toNat ++ leBytes 4 (grdGrp s g.toNat).toNat ++ leBytes 4 (grdGrpMeas s g.toNat).toNat))))

end Sys2Proof.Machine
end

