-- ==== Sys2Proof/Machine/FieldAnalogue.lean ====
section
/-! DEFINITION. Machine/FieldAnalogue.lean: the current-loop modes (R142 to R166). -/
namespace Sys2Proof.Machine
open Sys2Proof

/-- A current-mode channel this module evaluates: only in ACTIVE or ALONE (R160). -/
def evaluatesLoop (s : State) (c : Nat) (p : Nat → Bool) : Bool := owner s && p (modeOf s c)

/-- The first-order filter of R147 with time constant `ms`, in 2^-16 counts: in one conversion of 25 µs the output moves by the part
1 − exp(−25 µs / ms) of the way, which lies between 1 / (40 ms + 1) and 1 / (40 ms). What it rounds to between these is not stated, and is
free (log 22). -/
def filterStep (s : State) (ms old new : Nat) : Nat :=
  let d := max old new - min old new
  let lo := d / (40 * ms + 1)
  let hi := min d (d / (40 * ms) + 1)
  let step := lo + (freeNow s).toNat % (hi - lo + 1)
  if old ≤ new then old + step else old - step

/-- AI_CONVERSION (R147): a conversion of the main converter, corrected by set 0. With FILTER = 0 it is the reported current, else it passes
the first-order filter. An open burden (R148) or an open loop supply (R151) reports 0. After a takeover it is the module's own first value
(R161). -/
def execAiConversion (n : Fin 216) (raw : Int) (s : State) : Host.Outcome State Fault Refusal :=
  let c := channelOf s n.val
  let f := fe s c
  let m := modeOf s c
  if !(isAi m && conducting s) then .next s
  else if f.burdenOpen || f.burdenRetry || (decide (m = 0x12) && !f.supplyClosed) then
    .next (modFe s c (fun f => { f with reported := 0, filtered := 0, fromPartner := false }))
  else
    let ms := cfgField s Reg.fchAicfg c 25 16
    let y := calibrated s c 0 raw
    let s1 := freeNext s
    let z := if ms = 0 then y * 65536 else filterStep s1 ms f.filtered (y * 65536)
    .next (freeNext (modFe s1 c (fun f => { f with reported := freeRound s1 31 z 65536, filtered := z, fromPartner := false })))

/-- BURDEN_OPEN (R148): more than 25 mA for 100 µs, or at once within a retry, opens the burden in modes 0x10 and 0x11. -/
def execBurdenOpen (c : Fin 192) (s : State) : Host.Outcome State Fault Refusal :=
  if evaluatesLoop s c.val (fun m => decide (m = 0x10) || decide (m = 0x11)) then
    let f := fe s c.val
    let s1 := modFe s c.val (fun f => { f with burdenOpen := true, burdenRetry := false, reported := 0 })
    if f.burdenOpen || f.burdenRetry then .next s1 else .next (post s1 .aiOvercurrent c.val c.val f.reported 50000)
  else .next s

/-- BURDEN_RETRY (R148): the burden closes for 1 ms; the flag stays set and 0 counts are reported. -/
def execBurdenRetry (c : Fin 192) (s : State) : Host.Outcome State Fault Refusal :=
  if evaluatesLoop s c.val isAi && (fe s c.val).burdenOpen then
    .next (modFe s c.val (fun f => { f with burdenOpen := false, burdenRetry := true, reported := 0 }))
  else .next s

/-- BURDEN_RETRY_END (R148): a whole retry at or below 25 mA leaves the burden closed and clears BURDEN_PROT. -/
def execBurdenRetryEnd (c : Fin 192) (s : State) : Host.Outcome State Fault Refusal :=
  if evaluatesLoop s c.val isAi && (fe s c.val).burdenRetry then
    .next (modFe s c.val (fun f => { f with burdenRetry := false }))
  else .next s

/-- READBACK_DISAGREE (R149): more than 0.1 mA between the paths for 10 ms: the front-end reports failed, and the next frame shows it (R136).
The comparison is suspended while the burden is open and during a retry. -/
def execReadbackDisagree (n : Fin 216) (s : State) : Host.Outcome State Fault Refusal :=
  let c := channelOf s n.val
  if evaluatesLoop s c isAi && !(fe s c).burdenOpen && !(fe s c).burdenRetry then .next (modFe s c (fun f => { f with state := .failed })) else .next s

/-- NE43_CONFIRM (R150, R160, Table FCA-4): a range condition of the loop that this module measures has held for T. DESIGN CHOICE: FAIL_LOW and
FAIL_HIGH that stand when NE43_EN is cleared stay set, since no condition is then detected (log 135). -/
def execNe43Confirm (n : Fin 216) (k : Ne43) (s : State) : Host.Outcome State Fault Refusal :=
  let c := channelOf s n.val
  let m := modeOf s c
  let v := (fe s c).reported
  if !(showsNe43 m && bit (cfg s Reg.fchAicfg c) 0 && owner s && conducting s) then .next s
  else match k with
    | .lowSet =>
      if v < 7600 ∧ !(fe s c).failLow then .next (post (modFe s c (fun f => { f with failLow := true })) .aiFailLow c c v 7600) else .next s
    | .lowClear =>
      if 7700 ≤ v ∧ (fe s c).failLow then .next (post (modFe s c (fun f => { f with failLow := false })) .aiFailLowEnd c c v 7700) else .next s
    | .highSet =>
      if 41000 < v ∧ !(fe s c).failHigh then .next (post (modFe s c (fun f => { f with failHigh := true })) .aiFailHigh c c v 41000) else .next s
    | .highClear =>
      if v ≤ 40900 ∧ (fe s c).failHigh then .next (post (modFe s c (fun f => { f with failHigh := false })) .aiFailHighEnd c c v 40900) else .next s

/-- LOOP_SUPPLY_SHORT (R151): the limit has been active for 100 ms: the supply opens, SHORT is set and posted. -/
def execLoopSupplyShort (c : Fin 192) (s : State) : Host.Outcome State Fault Refusal :=
  if evaluatesLoop s c.val (fun m => decide (m = 0x12)) && (fe s c.val).supplyClosed then
    let s1 := modFe s c.val (fun f => { f with supplyClosed := false, supplyOpen := true, supplyRetry := false, supplyShort := true, granted := 0, reported := 0 })
    .next (post (setClaim s1 c.val {}) .aiLoopShort c.val c.val (fe s c.val).reported 0)
  else .next s

/-- LOOP_SUPPLY_RETRY (R151): every 1 s an opened supply asks Gourd for its 22 mA again. -/
def execLoopSupplyRetry (c : Fin 192) (s : State) : Host.Outcome State Fault Refusal :=
  if evaluatesLoop s c.val (fun m => decide (m = 0x12)) && (fe s c.val).supplyOpen then .next (requestC1 s c.val 22) else .next s

/-- LOOP_SUPPLY_RECOVER (R151): a retry that stayed out of limit for 100 ms clears SHORT. -/
def execLoopSupplyRecover (c : Fin 192) (s : State) : Host.Outcome State Fault Refusal :=
  if evaluatesLoop s c.val (fun m => decide (m = 0x12)) && (fe s c.val).supplyClosed then
    .next (modFe s c.val (fun f => { f with supplyShort := false, supplyRetry := false }))
  else .next s

/-- The readback of an AO is compared with its command (R154): not while its group is MISSING. -/
def comparesAo (s : State) (c : Nat) : Bool := evaluatesLoop s c isAo && decide ((group s (groupOf c)).supply ≠ .missing)

/-- The command that an AO front-end drives, and its readback, as its last good frame reported them: in the local safe state the command is the
local safe current (R111, R154, R157). -/
def aoCommand (s : State) (c : Nat) : Nat := (fe s c).aux.toNat
/-- See `aoCommand`. -/
def aoReadback (s : State) (c : Nat) : Nat := (fe s c).value.toNat

/-- The driver is at its voltage limit, by the upstream FLAGS [2] (R111, R154). -/
def atVoltLimit (s : State) (c : Nat) : Bool := (fe s c).flags.getLsbD 2

/-- AO_COMPLIANCE (R154): the readback stayed more than 0.2 mA (400 counts) below the command at the voltage limit for 10 ms, and is so still;
from 21.0 mA up and from 3.6 mA down the alarm current is unreachable, also when the command gets there while COMPLIANCE stands. -/
def execAoCompliance (c : Fin 192) (s : State) : Host.Outcome State Fault Refusal :=
  let cmd := aoCommand s c.val
  let rb := aoReadback s c.val
  if comparesAo s c.val && atVoltLimit s c.val && decide (rb + 400 < cmd) then
    let s1 := if (fe s c.val).compliance then s
      else post (countUp (modFe s c.val (fun f => { f with compliance := true })) Reg.fchSnapCompl c.val) .aoCompliance c.val c.val rb cmd
    if (42000 ≤ cmd ∨ cmd ≤ 7200) ∧ (fe s c.val).alarmUnreach = false then
      .next (post (modFe s1 c.val (fun f => { f with alarmUnreach := true })) .aoAlarmUnreachable c.val c.val rb cmd)
    else .next s1
  else .next s

/-- AO_COMPLIANCE_END (R154, R155): the readback was within 0.1 mA (200 counts) of the command for 10 ms, and is so still. -/
def execAoComplianceEnd (c : Fin 192) (s : State) : Host.Outcome State Fault Refusal :=
  let cmd := aoCommand s c.val
  let rb := aoReadback s c.val
  if comparesAo s c.val && (fe s c.val).compliance && decide (cmd ≤ rb + 200) && decide (rb ≤ cmd + 200) then
    .next (post (modFe s c.val (fun f => { f with compliance := false, alarmUnreach := false, openLoad := false }))
      .aoComplianceEnd c.val c.val rb cmd)
  else .next s

/-- AO_OPEN_LOAD (R155): the readback is below 0.5 mA (1,000 counts) while COMPLIANCE is set. -/
def execAoOpenLoad (c : Fin 192) (s : State) : Host.Outcome State Fault Refusal :=
  if evaluatesLoop s c.val isAo && (fe s c.val).compliance && !(fe s c.val).openLoad && decide (aoReadback s c.val < 1000) then
    .next (post (modFe s c.val (fun f => { f with openLoad := true })) .aoOpenLoad c.val c.val (aoReadback s c.val) 1000)
  else .next s

/-- AO_BACKFEED (R156): more than 0.2 mA off the command for 10 ms, and still: above it while the driver sources nothing, a current forced into
the loop, is MISMATCH_HIGH and FAILED; otherwise, with the driver not at a limit, the front-end reports failed, and the next frame shows it
(R136). -/
def execAoBackfeed (c : Fin 192) (forced : Bool) (s : State) : Host.Outcome State Fault Refusal :=
  let cmd := aoCommand s c.val
  let rb := aoReadback s c.val
  if !evaluatesLoop s c.val isAo then .next s
  else if forced then
    if cmd + 400 < rb then
      let s1 := feFault (modFe s c.val (fun f => { f with misHigh := true, failed := true })) c.val
      .next (refresh (post s1 .mismatchHigh c.val c.val rb cmd) c.val)
    else .next s
  else if (decide (cmd + 400 < rb) || decide (rb + 400 < cmd)) && !atVoltLimit s c.val then .next (modFe s c.val (fun f => { f with state := .failed }))
  else .next s

/-- FE_TEMP_MEASURE (R164): the front-end's temperature in 0.01 °C, every 100 ms. -/
def execFeTempMeasure (n : Fin 216) (t : BitVec 16) (s : State) : Host.Outcome State Fault Refusal :=
  .next (modFe s (channelOf s n.val) (fun f => { f with temperature := t.toInt }))

end Sys2Proof.Machine
end

