-- ==== Sys2Proof/Machine/Gmu.lean ====
section
/-! DEFINITION. Machine/Gmu.lean: the grid measurement unit's commands: reports, power-quality windows, grid events, the synchroscope, the
load-shed triggers, releases, and the opcode family 0x07xx (Grid Measurement, Synchronising and Load Shedding). -/
namespace Sys2Proof.Machine
open Sys2Proof

/-- GMU_REPORT (R191). -/
def execGmuReport (m : GmuMeasure) (s : State) : Host.Outcome State Fault Refusal := .next (gmuReport s m)

/-! ## Power quality (R187 to R189) -/

/-- The bit of an aggregation window in `refLost`. -/
def pqBit : PqWindow → Nat
  | .cycles10 => 0 | .cycles150 => 1 | .minutes10 => 2 | .frequency10s => 3

/-- The cycles of the shortest aggregation window: 10 at 50 Hz, 12 at 60 Hz (R187). -/
def pqCycles (s : State) : Nat := if cfgField s Reg.gmuCfg 0 0 0 = 1 then 12 else 10

/-- The reports in `n` cycles of the reference frequency, or of FNOM when there is none (R185). -/
def referenceReports (s : State) (n : Nat) : Nat :=
  let f := ((refSource s).map (fun k => (setOf s k).freq)).getD (fnom s)
  (n * 1000000000 + f - 1) / f

/-- The reports in an aggregation window: 10/12 cycles and fifteen times as many, 10 min, 10 s (R185, R187, R188). -/
def pqReports (s : State) : PqWindow → Nat
  | .cycles10 => referenceReports s (pqCycles s) | .cycles150 => referenceReports s (15 * pqCycles s)
  | .minutes10 => 600000 | .frequency10s => 10000

/-- The inputs whose window was full and free of over-range samples, one bit each (R183, R192). -/
def pqValid (s : State) (w : PqWindow) : Nat := ((List.range 16).map (fun i => b2n (windowOk s i (pqReports s w)) * 2 ^ i)).sum

/-- The pairs of voltage and current inputs that measure a power point: phase by phase, or the two wattmeters of the three-wire connection,
U12 with I1 and U32 with I3 (R187, Table GMU-2). -/
def powerInputs (s : State) (p : Nat) : List (Nat × Nat) :=
  let ps := (setInputs (powerVoltage s p)).zip ((setInputs p).map (· + 8))
  if threeWire s p then [ps.getD 0 (0, 8), ((ps.getD 1 (0, 8)).1, (ps.getD 2 (0, 8)).2)] else ps

/-- P, S and the power factor of a point (R187). P is the sum of the means of its pairs, at their GMU_INSCALE. S is U_RMS × I_RMS summed over
the phases, in VA; in the three-wire connection, which measures no phase voltage, it is as given (log 115). The factor is P ÷ S in 10^-4, and
free where S is 0 (log 115). -/
def powerOf (s : State) (rms : List Nat) (v : PqValues) (p : Nat) : Int × Int × Int :=
  let scale (i : Nat) : Int := f32Scaled (cfg s Reg.gmuInscale i)
  let act := roundDiv ((powerInputs s p).map (fun x => v.power.getD (x.2 - 8) 0 * scale x.1 * scale x.2)).sum (1000000000000 * f32Unit * f32Unit)
  let app := if threeWire s p then v.apparent.getD p 0
    else ((powerInputs s p).map (fun x => rms.getD x.1 0 * rms.getD x.2 0)).sum / 1000000
  (act, Int.ofNat app, if app = 0 then (Config.freeValue (s.free + p)).toInt else roundDiv (10000 * act) app)

/-- With SMOOTH, a harmonic moves toward its new value and not past it; how far in one window the manual does not state, and it is free
(R188, GMU_CFG.SMOOTH; log 115). Binary32 words of numbers not below 0 are ordered as the numbers. -/
def smoothed (s : State) (k : Nat) (old new : Word) : Word :=
  let d := max old.toNat new.toNat - min old.toNat new.toNat
  let step := (Config.freeValue (s.free + 4 + k)).toNat % (d + 1)
  word (if old.toNat ≤ new.toNat then old.toNat + step else old.toNat - step)

/-- The harmonics of an input from the RMS of its subgroups 1 to 50 (R188, Table GMU-11): subgroups 2 to 50 in % of the fundamental, and the
THD of the subgroups, in % too (log 115); free where the fundamental is 0. The scale of the input cancels. -/
def harmonicsOf (s : State) (i : Nat) (gs : List Nat) : List Word :=
  let first := gs.getD 0 0
  let rest := (List.range 49).map (fun k => gs.getD (k + 1) 0)
  if first = 0 then (List.range 50).map (fun k => Config.freeValue (s.free + 1100 + 64 * i + k))
  else rest.map (fun g => f32OfRat (Int.ofNat (100 * g)) first)
    ++ [f32OfRat (Int.ofNat (isqrtFrom 127 0 (10000000000000000 * (rest.map (fun g => g * g)).sum))) (1000000 * first)]

/-- The harmonics of an input after a window. -/
def newHarmonics (s : State) (i : Nat) (gs : List Nat) : List Word :=
  let ws := harmonicsOf s i gs
  if cfgField s Reg.gmuCfg 0 7 7 = 0 then ws
  else ws.zipIdx.map (fun p => smoothed s (64 * i + p.2) ((storeGet (fun _ => []) s.gmu.harmonics i).getD p.2 0) p.1)

/-- u2 of VS0 or VS1 over the window, the ratio of the sums of its sequence magnitudes, in 0.01 % (R188); free where the positive sequence is
0 (log 115). -/
def unbalanceOf (s : State) (k : Nat) : Nat :=
  let x := s.gmu.unbalance.getD k (0, 0)
  if x.2 = 0 then (Config.freeValue (s.free + 2200 + k)).toNat else (roundDiv (Int.ofNat (10000 * x.1)) x.2).toNat

/-- A 10/12-cycle window joins a longer one. -/
def PqSum.add (x : PqSum) (rms : List Nat) (valid : Nat) : PqSum :=
  { count := x.count + 1, squares := (List.range 16).map (fun i => x.squares.getD i 0 + rms.getD i 0 * rms.getD i 0), valid := x.valid &&& valid }

/-- The RMS of the voltages over the windows of a longer one (R188: only voltages are aggregated beyond 10/12 cycles). -/
def PqSum.rms (x : PqSum) : List Nat := (List.range 8).map (fun i => isqrtFrom 127 0 (x.squares.getD i 0 / max 1 x.count))

/-- The common part of a window's result: its end, whether it is flagged, and its valid inputs. -/
def pqBase (s : State) (w : PqWindow) : PqResult := { time := s.now, flagged := s.gmu.refLost.testBit (pqBit w), valid := pqValid s w }

/-- The window's mark of an invalid reference frequency starts again. -/
def clearLost (s : State) (w : PqWindow) : State :=
  let b := pqBit w
  { s with gmu := { s.gmu with refLost := if s.gmu.refLost.testBit b then s.gmu.refLost - 2 ^ b else s.gmu.refLost }, free := s.free + 2202 }

/-- The end of a 10/12-cycle window (R187, R188): RMS values, powers, unbalance and harmonics, and its part in the longer windows. A
150/180-cycle window takes fifteen. -/
def shortWindow (v : PqValues) (s : State) : State :=
  let rms := (List.range 16).map (fun i => scaleInput s i (v.rms.getD i 0))
  let x : PqResult := { pqBase s .cycles10 with rms := rms, power := (List.range 4).map (powerOf s rms v), unbalance := [unbalanceOf s 0, unbalanceOf s 1] }
  let t := clearLost s .cycles10
  { t with gmu := { t.gmu with
    pq10 := x, rms := rms, harmonics := (List.range 16).map (fun i => (i, newHarmonics s i (v.harmonics.getD i []))), unbalance := []
    sum150 := (if s.gmu.sum150.count = 15 then ({} : PqSum) else s.gmu.sum150).add rms x.valid, sumMinutes := s.gmu.sumMinutes.add rms x.valid } }

/-- The end of a 150/180-cycle window: fifteen 10/12-cycle windows have ended (R188). -/
def mediumWindow (s : State) : State :=
  if s.gmu.sum150.count = 15 then
    let t := clearLost s .cycles150
    { t with gmu := { t.gmu with
      pq150 := { pqBase s .cycles150 with rms := s.gmu.sum150.rms, valid := pqValid s .cycles150 &&& s.gmu.sum150.valid }, sum150 := {} } }
  else s

/-- The end of a 10 min interval: only at a multiple of 600 s, once (R188). -/
def longWindow (s : State) : State :=
  if s.gmu.pqMinutes.time < minutesEnd s then
    let t := clearLost s .minutes10
    { t with gmu := { t.gmu with
      pqMinutes := { pqBase s .minutes10 with time := minutesEnd s, rms := s.gmu.sumMinutes.rms
                                              valid := pqValid s .minutes10 &&& s.gmu.sumMinutes.valid }
      sumMinutes := {} } }
  else s

/-- The 10 s value of the power frequency: the mean of the reference frequencies of the window (R188); 0 when there was none, and the window
is then flagged. -/
def frequencyWindow (s : State) : State :=
  let t := clearLost s .frequency10s
  { t with gmu := { t.gmu with
    pqFreq := { pqBase s .frequency10s with frequency := s.gmu.freqSum / max 1 s.gmu.freqCount }, freqSum := 0, freqCount := 0 } }

/-- PQ_AGGREGATE (R187, R188): the end of an aggregation window. -/
def execPqAggregate (v : PqValues) (s : State) : Host.Outcome State Fault Refusal :=
  .next (match v.window with
    | .cycles10 => shortWindow v s
    | .cycles150 => mediumWindow s
    | .minutes10 => longWindow s
    | .frequency10s => frequencyWindow s)

/-- An event list entry; the manual gives its contents but not its byte offsets (Table GMU-11, R189; log 53). TYPE: 0 dip, 1 swell,
2 interruption. -/
def gridEntry (kind set mask start us level : Nat) : List Byte :=
  leBytes 1 kind ++ leBytes 1 set ++ leBytes 1 mask ++ leBytes 1 0 ++ leBytes 8 (start / 1000000000) ++ leBytes 4 (start % 1000000000)
    ++ leBytes 4 us ++ leBytes 2 level ++ leBytes 10 0

/-- A grid event ends: its entry, its flag and counter, and its record (R189). -/
def endGridEvent (s : State) (kind set : Nat) (e : GridEvent) : State :=
  let us := (s.now - e.start) / 1000
  let s1 := { s with gmu := { s.gmu with
    events := storeSet (fun _ => []) s.gmu.events s.gmu.eventNext (gridEntry kind set e.mask e.start us e.extreme)
    eventNext := (s.gmu.eventNext + 1) % 32 } }
  let ev : Event := match kind with
    | 0 => .gridDip | 1 => .gridSwell | _ => .gridInterrupt
  post (gmuRaise (countUp s1 Reg.gmuSnapEvents 0) 1) ev set set e.extreme us

/-- The phases of a list that satisfy a test, as a mask. -/
def phaseMask (ps : List Nat) (p : Nat → Bool) : Nat := (ps.zipIdx.map (fun x => if p x.1 then 2 ^ x.2 else 0)).sum

/-- A threshold of a voltage set in 0.01 % of UNOM (Table GMU-12: 4 DIP_THR, 5 SWL_THR, 6 INT_THR). -/
def pqThreshold (s : State) (set o : Nat) : Nat := 100 * gmuField s (0x900 + 8 * set + o) 1

/-- The dip and interruption detector of a set on a half-cycle's values, in 0.01 % of UNOM (R189). A dip that becomes an interruption is
recorded as one interruption, at the interruption's end (log 53). -/
def dipStep (s : State) (set : Nat) (ps : List Nat) : State :=
  let dip := pqThreshold s set 4
  let int := pqThreshold s set 6
  let put (t : State) (e : Option GridEvent) : State := { t with gmu := { t.gmu with dips := storeSet (fun _ => none) t.gmu.dips set e } }
  let low := phaseMask ps (fun v => decide (v < dip))
  let least := ps.foldl min 65535
  let out := ps.all (fun v => decide (v < int))
  let back := ps.all (fun v => decide (dip + 200 < v))
  let fresh : GridEvent := { start := s.now, mask := low, extreme := least, interruption := out }
  match storeGet (fun _ => none) s.gmu.dips set with
  | none => if low = 0 then s else put s (some fresh)
  | some e =>
    if e.closed then (if back then put s none else if out then put s (some fresh) else s)
    else
      let e1 := { e with mask := e.mask ||| low, extreme := min e.extreme least, interruption := e.interruption || out }
      if e1.interruption then
        if ps.any (fun v => decide (int + 200 < v)) then
          endGridEvent (put s (if back then none else some { e1 with closed := true })) 2 set e1
        else put s (some e1)
      else if back then endGridEvent (put s none) 0 set e1
      else put s (some e1)

/-- The swell detector of a set (R189). -/
def swellStep (s : State) (set : Nat) (ps : List Nat) : State :=
  let swl := pqThreshold s set 5
  let put (t : State) (e : Option GridEvent) : State := { t with gmu := { t.gmu with swells := storeSet (fun _ => none) t.gmu.swells set e } }
  let high := phaseMask ps (fun v => decide (swl < v))
  let most := ps.foldl max 0
  match storeGet (fun _ => none) s.gmu.swells set with
  | none => if high = 0 then s else put s (some { start := s.now, mask := high, extreme := most })
  | some e =>
    let e1 := { e with mask := e.mask ||| high, extreme := max e.extreme most }
    if ps.all (fun v => decide (v < swl - 200)) then endGridEvent (put s none) 1 set e1 else put s (some e1)

/-- GRID_EVENT (R189): Urms(1/2) of the phases of VS0, VS1, V6 or V7, in 0.01 % of UNOM. One whose window of a cycle holds an over-range
sample, or has not filled since a time step, is not valid and decides nothing (R183, R192). -/
def execGridEvent (set : Fin 4) (phases : List Nat) (s : State) : Host.Outcome State Fault Refusal :=
  if phases = [] ∨ (setInputs set.val).all (phasorOk s) = false then .next s
  else .next (swellStep (dipStep s set.val phases) set.val phases)

/-! ## The synchroscope (R193 to R199) -/

/-- SYNC_CLOSE (R196): frame F is reached in CLOSING. -/
def execSyncClose (s : State) : Host.Outcome State Fault Refusal :=
  if s.gmu.sync.state = 3 ∧ s.gmu.sync.frame ≤ s.now ∧ owner s = true then .next (closeNow s false) else .next s

/-- SYNC_TIMEOUT (R197): a held close has waited TIMEOUT seconds. -/
def execSyncTimeout (s : State) : Host.Outcome State Fault Refusal :=
  let y := s.gmu.sync
  if y.state = 2 ∧ y.held = true ∧ owner s = true ∧ y.since + syncField s 22 2 * 1000000000 ≤ s.now then .next (syncAbort s 1) else .next s

/-- The block may be written, and ARM accepted: IDLE, CLOSED or ABORTED (R193, Table GMU-8). -/
def syncFree (s : State) : Bool := decide (s.gmu.sync.state = 0) || decide (s.gmu.sync.state = 4) || decide (s.gmu.sync.state = 5)

/-- A channel is written by a task of the image. -/
def taskWritten (s : State) (c : Nat) : Bool := (List.range 16).any (fun n => (storeGet (fun _ => ({} : Task)) s.exe.tasks n).writes.contains c)

/-- The offset of the first field of the synchroscope block for which ARM is refused (R193); none when it is accepted. -/
def armRefusal (s : State) : Option Nat :=
  let f := syncField s
  let bad (p : Bool) (o : Nat) (rest : Option Nat) : Option Nat := if p then some o else rest
  let range (o n lo hi : Nat) : Bool := decide (f o n < lo) || decide (hi < f o n)
  let ch := f 6 2
  bad (range 0 1 0 1) 0 (bad (range 1 1 0 3) 1 (bad (range 2 1 0 3 || decide (f 1 1 = f 2 1)) 2 (bad (range 3 1 0 3) 3
    (bad (range 6 2 0 191 || (decide (f 0 1 = 1) && !(isDo (modeOf s ch) && taskWritten s ch && decide (64 ≤ loadGroupOf s ch)))) 6
    (bad (range 8 4 10000 500000) 8 (bad (range 12 2 10 1000) 12 (bad (range 14 2 10 1000) 14 (bad (range 16 2 10 1000) 16
    (bad (range 18 2 10 2000) 18 (bad (range 20 2 500 1000) 20 (bad (range 22 2 1 600) 22 none)))))))))))

/-- ARM: the synchroscope enters ARMED with the block's close channel. The measurement of the last close goes on (R199). -/
def armSync (s : State) : State :=
  modSync s (fun y => { y with state := 1, reason := 0, held := false, closeCh := syncField s 6 2
                               lockout := y.lockout && decide (y.closeCh = syncField s 6 2) })

/-- DISARM: IDLE; a held close is released, and its channel stays off until its task drives it off and on again. -/
def disarmSync (s : State) : State :=
  let s1 := modSync s (fun y => { y with state := 0, reason := 0, lockout := y.held || y.lockout, held := false })
  if s.gmu.sync.held then refresh s1 s.gmu.sync.closeCh else s1

/-- A write of ARM (R193): no effect in a state from which Table GMU-8 does not leave on ARM, else armed or refused with CFG_REFUSED. -/
def askSync (s : State) : State :=
  if !syncFree s then s else match armRefusal s with
    | some _ => gmuRaise s 8
    | none => armSync s

/-- GMU_SYNC_ARM (R193): a write of GMU_SYNC_CTRL.ARM. -/
def execGmuSyncArm (r : Requester) (s : State) : Host.Outcome State Fault Refusal := .next (actionWrite s Reg.gmuSyncCtrl r askSync)

/-- GMU_SYNC_DISARM (R193, Table GMU-8). -/
def execGmuSyncDisarm (r : Requester) (s : State) : Host.Outcome State Fault Refusal := .next (actionWrite s Reg.gmuSyncCtrl r disarmSync)

/-- SYNC_ARM (0x0702, R193): the block is written and the synchroscope armed; a block that is refused is not kept (R310). -/
def execSyncArm (c : Ctx) (block : List Byte) (s : State) : Host.Outcome State Fault Refusal :=
  .next (command s c 0x0702 5 (.syncArm c block) (owner s) (fun s =>
    if !syncFree s then refuse (gmuRaise s 8) c 0x0702 .badParam 0
    else
      let s1 := setGmuBytes s 0x800 (block.take 24)
      match armRefusal s1 with
      | some o => refuse (gmuRaise s 8) c 0x0702 .badParam o
      | none => ok (armSync s1) c 0x0702 []))

/-- SYNC_DISARM (0x0703, R193). -/
def execSyncDisarm (c : Ctx) (s : State) : Host.Outcome State Fault Refusal :=
  .next (command s c 0x0703 5 (.syncDisarm c) (owner s) (fun s => ok (disarmSync s) c 0x0703 []))

/-! ## Load shedding (R201 to R207) -/

/-- Groups whose shed is committed and not yet acknowledged. -/
def sheddingNow (s : State) : Nat :=
  s.own.outstanding.foldl (fun m c => match c.kind with
    | .shed _ k => m ||| k
    | _ => m) 0

/-- Groups that a firing can select: defined and not shed. -/
def freeGroups (s : State) : List Nat :=
  (List.range 64).filter (fun g => loadDefined s g && !(s.gmu.shed ||| sheddingNow s).testBit g)

/-- A group's power for the sum: LG_P when it is finite and not negative, else DEFAULT_P (R204). -/
def groupPower (s : State) (g : Nat) : Int :=
  let w := inputWord s (80 + 4 * g)
  if f32Finite w && decide (0 ≤ f32Scaled w) then f32Scaled w else f32Value (freeNow s) (word (gmuField s (0x404 + 16 * g) 4))

/-- The deficit of a trigger times 1000 × 2^149 kW (R203). For POWER the rule writes D = P − THR: P is taken as P1, the quantity of the
trigger's condition; DESIGN CHOICE (log 141). -/
def deficit (s : State) (t : Nat) : Int :=
  if trigField s t 0 1 = 4 then
    let g := trigField s t 14 1 % 8
    f32Value (freeNow s) (inputWord s (16 + 4 * g)) * Int.ofNat (1000 + trigField s t 24 2)
      - 1000 * f32Value (freeNow s) (inputWord s (48 + 4 * g))
  else ((s.gmu.power[trigField s t 2 2 % 4]?.getD (0, 0)).1 - 1000 * trigThr s t) * Int.ofNat f32Unit

/-- Groups as a mask. -/
def groupMask (gs : List Nat) : Nat := (gs.map (fun g => 2 ^ g)).sum

/-- The free groups in ascending RANK (Table GMU-11). -/
def rankedGroups (s : State) : List Nat :=
  (freeGroups s).mergeSort (fun a b => decide (gmuField s (0x400 + 16 * a) 1 ≤ gmuField s (0x400 + 16 * b) 1))

/-- Groups taken in order until the sum reaches the deficit, with the sum. -/
def takeGroups (s : State) (d : Int) : List Nat → Int → List Nat × Int
  | [], sum => ([], sum)
  | g :: gs, sum =>
    if d ≤ 1000 * sum then ([], sum)
    else
      let (rest, total) := takeGroups s d gs (sum + groupPower s g)
      (g :: rest, total)

/-- The trigger's firing selects these groups, and whether they fall short of its deficit; none when its deficit is not above 0 (R203,
R204). -/
def selectGroups (s : State) (t : Nat) : Option (Nat × Bool) :=
  let fallback := trigField s t 16 8 &&& groupMask (freeGroups s)
  let byDeficit := decide (trigField s t 1 1 / 2 % 2 = 1) && (decide (trigField s t 0 1 = 4) || decide (trigField s t 0 1 = 5))
  if !byDeficit || inputStale s then some (fallback, false)
  else
    let d := deficit s t
    if d ≤ 0 then none
    else
      let before := ((List.range 64).filter (fun g => s.gmu.chosen.testBit g)).map (groupPower s)
      let (gs, total) := takeGroups s d (rankedGroups s) before.sum
      some (groupMask gs, decide (1000 * total < d))

/-- STALE is set and STALE_INPUT posted, once while the values are stale (R204). -/
def noteStale (s : State) : State :=
  if s.gmu.staleSeen then s
  else post (gmuRaise { s with gmu := { s.gmu with staleSeen := true } } 5) .staleInput 0 0 0 0

/-- The trigger fires: FIRED and counted, its groups selected, and the shed record committed (R202 to R205). -/
def fireTrigger (s : State) (t : Nat) : State :=
  let x := trig s t
  let s1 := setTrig s t { x with st := 3, counting := false, timing := 0, firings := (x.firings + 1) % 65536 }
  let byDeficit := decide (trigField s t 1 1 / 2 % 2 = 1) && (decide (trigField s t 0 1 = 4) || decide (trigField s t 0 1 = 5))
  let s2 := if byDeficit && inputStale s then noteStale s1 else s1
  match selectGroups s t with
  | none => freeNext s2
  | some (m, short) =>
    let s3 := { s2 with gmu := { s2.gmu with chosen := s2.gmu.chosen ||| m } }
    let s4 := if short then post (gmuRaise s3 6) .shedShortfall 0 t (m % 4294967296) (m / 4294967296) else s3
    freeNext (commit s4 (.shed t m) [] [])

/-- A trigger's quantity is valid now: on invalid data none fires and none is released (R202). -/
def trigValid (s : State) (t : Nat) : Bool :=
  if trigField s t 0 1 = 4 then (genTripSeen s t).isSome else (reportCondition s t).isSome

/-- TRIGGER_FIRE (R202): the condition has held for T_CONF. Only a module that owns the field sheds (R208). -/
def execTriggerFire (t : Fin 32) (s : State) : Host.Outcome State Fault Refusal :=
  let x := trig s t.val
  if x.st = 2 ∧ x.counting = true ∧ trigValid s t.val = true ∧ trigField s t.val 8 2 * 1000 ≤ x.timing ∧ owner s = true then .next (fireTrigger s t.val) else .next s

/-- TRIGGER_RESET (R202): a fired trigger's condition has been false for T_RESET. -/
def execTriggerReset (t : Fin 32) (s : State) : Host.Outcome State Fault Refusal :=
  let x := trig s t.val
  if x.st = 3 ∧ x.counting = true ∧ trigValid s t.val = true ∧ trigField s t.val 10 2 * 1000 ≤ x.timing ∧ owner s = true then
    .next (setTrig s t.val { x with st := 1, counting := false, timing := 0 })
  else .next s

/-- STALE_INPUT (R204). -/
def execStaleInput (s : State) : Host.Outcome State Fault Refusal := if inputStale s then .next (noteStale s) else .next s

/-- SHED_RELEASE_APPLY (R207): at the boundary the release is committed, and takes effect under the commit order. -/
def execShedReleaseApply (s : State) : Host.Outcome State Fault Refusal :=
  let mask := s.gmu.release
  let s1 := { s with gmu := { s.gmu with release := 0, releaseGen := s.gmu.releaseGen + 1 } }
  if owner s then .next (commit s1 (.release mask s.gmu.releaseGen) [] [])
  else .next (concludeAll s1 (fun x => decide (x.opcode = 0x0704)) .wrongRole (roleCode s.pair.role) (fun _ _ => []))

/-- Ask for the release of groups at the next boundary (R207). -/
def askRelease (s : State) (mask : Nat) : State := { s with gmu := { s.gmu with release := s.gmu.release ||| (mask &&& s.gmu.shed) } }

/-- A write of a release register: refused with CFG_REFUSED outside ACTIVE and ALONE (R207). -/
def writeRelease (high : Bool) (v : Word) (s : State) : State :=
  if owner s then askRelease s (if high then v.toNat * 4294967296 else v.toNat) else gmuRaise s 8

/-- GMU_SHED_REL (R207): a write of GMU_SHED_RELLO or GMU_SHED_RELHI. -/
def execGmuShedRel (high : Bool) (v : Word) (r : Requester) (s : State) : Host.Outcome State Fault Refusal :=
  .next (actionWrite s (if high then Reg.gmuShedRelhi else Reg.gmuShedRello) r (writeRelease high v))

/-- SHED_RELEASE (0x0704, R207): the reply follows the boundary. -/
def execShedRelease (c : Ctx) (mask : BitVec 64) (s : State) : Host.Outcome State Fault Refusal :=
  .next (command s c 0x0704 5 (.shedRelease c mask) (owner s) (fun s => await (askRelease s mask.toNat) c 0x0704 5 s.gmu.releaseGen))

/-- GMU_TRIG_ARM (R202): ARM of the trigger that the same write selects. -/
def execGmuTrigArm (t : Fin 32) (r : Requester) (s : State) : Host.Outcome State Fault Refusal :=
  .next (actionWrite s Reg.gmuShedCtrl r (fun u => armTrigger (setRegField u Reg.gmuShedCtrl 0 4 0 t.val) t.val))

/-- GMU_TRIG_DISARM (R202). -/
def execGmuTrigDisarm (t : Fin 32) (r : Requester) (s : State) : Host.Outcome State Fault Refusal :=
  .next (actionWrite s Reg.gmuShedCtrl r (fun u => disarmTrigger (setRegField u Reg.gmuShedCtrl 0 4 0 t.val) t.val))

/-- TRIG_ARM (0x0705, R202). -/
def execTrigArm (c : Ctx) (t : BitVec 8) (arm : BitVec 8) (s : State) : Host.Outcome State Fault Refusal :=
  .next (command s c 0x0705 5 (.trigArm c t arm) (owner s) (fun s =>
    if 31 < t.toNat then refuse s c 0x0705 .badParam 0
    else if 1 < arm.toNat then refuse s c 0x0705 .badParam 1
    else
      let s1 := if arm.toNat = 1 then armTrigger s t.toNat else disarmTrigger s t.toNat
      ok s1 c 0x0705 (leBytes 4 (trigState s1 t.toNat).toNat)))

/-! ## Reads and subscriptions (Table CMD-12) -/

/-- GMU_SUBSCRIBE (0x0701, R322): EVERY 0 ends the subscription. -/
def execGmuSubscribe (c : Ctx) (every : BitVec 16) (s : State) : Host.Outcome State Fault Refusal :=
  .next (command s c 0x0701 5 (.gmuSubscribe c every) (owner s) (fun s =>
    if every.toNat = 0 then
      ok (endSubs s (fun x => decide (x.session = c.session.val) && decide (x.queue = c.queue.val) && decide (x.opcode = 0x0701))) c 0x0701 []
    else if 1000 < every.toNat then refuse s c 0x0701 .badParam 0
    else subscribe s c 0x0701 every.toNat))

/-- The 256 bytes of an input's harmonics: subgroups 2 to 50, then THD (Table GMU-11). -/
def harmonicBytes (s : State) (i : Nat) : List Byte :=
  let ws := storeGet (fun _ => []) s.gmu.harmonics i
  (List.range 64).flatMap (fun k => leBytes 4 (if k < 50 then (ws[k]?.getD 0).toNat else 0))

/-- HARM_READ (0x0706, R322). -/
def execHarmRead (c : Ctx) (input : BitVec 8) (s : State) : Host.Outcome State Fault Refusal :=
  .next (command s c 0x0706 5 (.harmRead c input) true (fun s =>
    if 15 < input.toNat then refuse s c 0x0706 .badParam 0 else ok s c 0x0706 (harmonicBytes s input.toNat)))

/-- The 32 bytes of an event list entry. -/
def gridEventBytes (s : State) (i : Nat) : List Byte :=
  let b := storeGet (fun _ => []) s.gmu.events i
  if b = [] then leBytes 32 0 else b

/-- GRID_EVENTS (0x0707, R322). -/
def execGridEvents (c : Ctx) (s : State) : Host.Outcome State Fault Refusal :=
  .next (command s c 0x0707 5 (.gridEvents c) true (fun s => ok s c 0x0707 ((List.range 32).flatMap (gridEventBytes s))))

/-! ## Registers and the indirect window (R211, R212) -/

/-- A signed value cut to an i16 at its limits. -/
def clamp16 (i : Int) : Nat := (wordOfInt (clampInt (-32768) 32767 i)).toNat % 65536

/-- GMU_STAT. STALE shows once the station has left INIT: staleness counts from there (R204), and its reset value is 0 (R212). -/
def gmuStat (s : State) : Word :=
  fieldWord 23 20 (s.gmu.valid % 16) ||| fieldWord 19 18 ((refSource s).getD 2) ||| fieldWord 15 12 s.gmu.sync.state
    ||| fieldWord 11 11 (b2n s.gmu.sync.ok) ||| fieldWord 10 10 (b2n s.gmu.sync.deadRef) ||| fieldWord 9 9 (b2n (decide (s.gmu.shed ≠ 0)))
    ||| fieldWord 8 8 (b2n (inputStale s && decide (s.exe.station ≠ .init))) ||| fieldWord 5 0 ((List.range 32).filter (fun t => decide ((trig s t).st = 3))).length

/-- GMU_FREQ0 to GMU_FREQ3: 0 when not VALID. -/
def gmuFreq (s : State) (k : Nat) : Word := if s.gmu.valid.testBit k then word (setOf s k).freq else 0

/-- GMU_ROCOF, in mHz/s. -/
def gmuRocof (s : State) : Word :=
  fieldWord 31 16 (clamp16 (roundDiv s.gmu.rocofSlow 1000)) ||| fieldWord 15 0 (clamp16 (roundDiv s.gmu.rocofFast 1000))

/-- GMU_SYNC_STAT. -/
def gmuSyncStat (s : State) : Word :=
  fieldWord 31 16 (clamp16 (roundDiv s.gmu.sync.dphi 10000)) ||| fieldWord 15 12 s.gmu.sync.state ||| fieldWord 11 8 s.gmu.sync.reason

/-- GMU_SYNC_VAL. -/
def gmuSyncVal (s : State) : Word :=
  fieldWord 31 16 (clamp16 (roundDiv s.gmu.sync.slip 1000)) ||| fieldWord 15 0 (clamp16 (roundDiv s.gmu.sync.du 100))

/-- GMU_INRMS of the selected input. -/
def gmuInrms (s : State) (i : Nat) : Word := f32OfRat (Int.ofNat (s.gmu.rms[i]?.getD 0)) 1000

/-- A word of the indirect window (Table GMU-11): STATE of a trigger and MEMBERS of a group are computed, the set table reads its staged
value, and a gap reads 0. -/
def gmuWindowRead (s : State) (a : Nat) : Word :=
  if a < 0x400 ∧ a % 32 = 28 then trigState s (a / 32)
  else if 0x400 ≤ a ∧ a < 0x800 ∧ a % 16 = 8 then word (loadMembers s ((a - 0x400) / 16)).length
  else if a < 0x820 ∨ (0xC00 ≤ a ∧ a < 0xCC0) then word (gmuField s a 4)
  else if 0x900 ≤ a ∧ a < 0x920 then
    match s.gmu.staged.reverse.find? (fun p => decide (p.1 = a)) with
    | some p => word (ofLe p.2)
    | none => word (gmuField s a 4)
  else if 0x1000 ≤ a ∧ a < 0x1400 then wordAt (gridEventBytes s ((a - 0x1000) / 32)) (a % 32)
  else if 0x2000 ≤ a ∧ a < 0x3000 then wordAt (harmonicBytes s ((a - 0x2000) / 256)) (a % 256)
  else 0

/-- A write through the indirect window (R193, R201, R211): tables in STOP only, the block while it may be written, the set table staged;
read-only words and gaps discard it. R201 refuses an image that puts another kind of channel into a load group or gives two defined groups
one RANK; a window write that does so is accepted: DESIGN CHOICE (log 142). -/
def gmuWindowWrite (s : State) (a : Nat) (v : Word) : State :=
  let bs := leBytes 4 v.toNat
  if a < 0x800 ∨ (0xC00 ≤ a ∧ a < 0xCC0) then
    if s.exe.station ≠ .stop then gmuRaise s 8
    else if (a < 0x400 ∧ a % 32 = 28) ∨ (0x400 ≤ a ∧ a < 0x800 ∧ 8 ≤ a % 16) then s
    else setGmuBytes s a bs
  else if 0x800 ≤ a ∧ a < 0x820 then
    if !syncFree s then gmuRaise s 8 else if 0x818 ≤ a then s else setGmuBytes s a bs
  else if 0x900 ≤ a ∧ a < 0x920 then { s with gmu := { s.gmu with staged := s.gmu.staged.filter (fun p => decide (p.1 ≠ a)) ++ [(a, bs)] } }
  else s

/-- GMU_INSCALE accepts a finite positive number only (R212). -/
def inscaleOk (v : Word) : Bool := f32Positive v

/-- The staged set-table bytes take effect at a report (R211). -/
def applySetTable (s : State) : State :=
  s.gmu.staged.foldl (fun t p => setGmuBytes t p.1 p.2) { s with gmu := { s.gmu with staged := [] } }

end Sys2Proof.Machine
end

