-- ==== Sys2Proof/Machine/Hazel.lean ====
section
/-! DEFINITION. Machine/Hazel.lean: the Hazel control engine (R66 to R106): sample slots, commit batches, pods, injections, captures, and the
commands of the 0x06xx family. -/
namespace Sys2Proof.Machine
open Sys2Proof

/-! ## Batches (R77, R78, R103) -/

/-- The open batch of a physical pod. -/
def batch (s : State) (pod : Nat) : List BatchItem := storeGet (fun _ => []) s.hz.batches pod

/-- Replace the open batch of a pod. -/
def setBatch (s : State) (pod : Nat) (b : List BatchItem) : State :=
  { s with hz := { s.hz with batches := storeSet (fun _ => []) s.hz.batches pod b } }

/-- A loop goes back to what it was before a sample whose results are discarded; what the program and the operator have written since
stays, and a program half or parameters that the sample had applied wait again (R103). -/
def restoreSample (prior l : Loop) : Loop :=
  { prior with
    written := if l.written.isSome then l.written else prior.written
    staged := if prior.pcommit then prior.staged ++ l.staged else l.staged, pcommit := prior.pcommit || l.pcommit
    opMode := l.opMode, spTrackPv := l.spTrackPv, opSp := l.opSp, opMv := l.opMv, opStaged := prior.opStaged || l.opStaged
    mvWritten := prior.mvWritten || l.mvWritten }

/-- The results of an open batch are discarded: its loops go back to what they were, and so do the published bytes of their entries
(R103). -/
def dropBatch (s : State) (pod : Nat) : State :=
  (batch s pod).reverse.foldl (fun t i =>
    areaPut (modLoop t i.loop (restoreSample i.prior)) (exchangeAddr t i.loop + 16) i.prior.published) (setBatch s pod [])

/-- Copy blocks of the records of an open batch (R271, R274). -/
def batchBlocks (s : State) (pod : Nat) : Nat := ((batch s pod).map (fun i => recordBlocks i.prior.desc)).sum

/-- A loop's descriptor goes to the partner where its sample has applied new parameters, and the operator's values where it has taken new ones
(R91, R105). -/
def sendParams (s : State) (tag : Nat) (prior l : Loop) (n : Nat) : State :=
  let s1 := if prior.opStaged then send s (.copy tag { operators := [(n, l.opMode, l.spTrackPv, l.opSp, l.opMv)] }) else s
  if l.desc.params = prior.desc.params then s1 else send s1 (.copy tag { params := [(n, l.desc.params)] })

/-- The records of an open batch go to the partner, the last with the commit bit; each names the low 29 bits of the commit sequence (R271,
Table PPD-3). -/
def sendBatch (s : State) (pod : Nat) : State :=
  let b := batch s pod
  if paired s then
    b.zipIdx.foldl (fun t p => match loop? t p.1.loop with
      | some l => send (sendParams t (0x20 + pod - 1) p.1.prior l p.1.loop)
          (.hrec (0x20 + pod - 1) p.1.loop (decide (p.2 + 1 = b.length)) (s.own.nextCommit % 536870912) (l.published ++ blockStateBytes l))
      | none => t) s
  else s

/-- A batch closes: committed under R18 and R19, its outputs then driven. A module that no longer owns the field drives nothing. -/
def closeBatch (s : State) (pod : Nat) : State :=
  if batch s pod = [] then s
  else if owner s then
    commit (countBlocks (setBatch (sendBatch s pod) pod []) (batchBlocks s pod)) (.hazel pod) ((batch s pod).filterMap (·.drive)) []
  else dropBatch s pod

/-- A loop's sample joins its pod's batch, which closes after 32 outputs (R77). -/
def addToBatch (s : State) (pod : Nat) (i : BatchItem) : State :=
  let b := batch s pod ++ [i]
  let s1 := setBatch s pod b
  if 32 ≤ (b.filterMap (·.drive)).length then closeBatch s1 pod else s1

/-- HAZEL_BATCH_CLOSE (R77): 8 µs after the first output in it, or at the end of the pod's slot work. -/
def execHazelBatchClose (pod : Fin 6) (s : State) : Host.Outcome State Fault Refusal := .next (closeBatch s pod.val)

/-! ## Injections at a sample (R95, R96) -/

/-- Why a running injection ends at this sample, if it does: the first reason of R96 that holds. -/
def injectionAbort (s : State) (g : Generator) (l : Loop) : Option Nat :=
  let pv := loopPv l.signals l
  let bandPv := blockField g.icb 20 2
  let bandMv := blockField g.icb 22 2
  if bandPv ≠ 0 ∧ bandPv < (pv - g.pv0).natAbs then some 1
  else if pv < s16 (blockField g.icb 24 2) ∨ s16 (blockField g.icb 26 2) < pv then some 2
  else if blockField g.icb 3 1 = 0 ∧ bandMv ≠ 0 ∧ bandMv < (l.base - g.mv0).natAbs then some 3
  else if l.mode ≠ g.mode ∨ l.tracking ∨ l.badIn then some 4
  else if s.exe.station ≠ .run then some 5
  else none

/-- The generator of a loop advances once per sample of the loop; PV0 and MV0 are those of its first sample. -/
def advanceInjection (s : State) (n : Nat) : State :=
  match injecting s n, loop? s n with
  | some k, some l =>
    let g0 := gen s k
    let g := if g0.begun then g0 else { g0 with begun := true, pv0 := loopPv l.signals l, mv0 := l.base }
    let g' := injectionNext g
    let s1 := setGen s k g'
    match injectionAbort s g l with
    | some r => endInjection s1 k r
    | none =>
      let len := injectionLength g'
      if len ≤ g'.count && !(decide (blockField g'.icb 2 1 = 1) && decide (len = 0)) then endInjection s1 k 0 else s1
  | _, _ => s

/-! ## A slot (R74, R79) -/

/-- The loops that run in slot `n`, in ascending RANK and then loop number (R74). -/
def dueLoops (s : State) (n : Nat) : List (Nat × Loop) :=
  let due := s.hz.loops.filter (fun p => loopDue p.2.desc n && !p.2.unplaced && decide (podOf s p.2 ≠ 0))
  due.mergeSort (fun a b => decide (a.2.desc.rank < b.2.desc.rank) || (decide (a.2.desc.rank = b.2.desc.rank) && decide (a.1 ≤ b.1)))

/-- What a slot gathers: the state, the loops whose parameters were applied, refused, or had none staged, and whether staged values took
effect. -/
structure SlotRun where
  s : State
  applied : List Nat := []
  refused : List Nat := []
  empty : List Nat := []
  bump : Bool := false
deriving DecidableEq, Repr

/-- One loop of a slot. -/
def slotLoop (r : SlotRun) (n : Nat) : SlotRun :=
  match loop? r.s n with
  | none => r
  | some prior =>
    let (l1, code) := takeParams r.s (takeProgram prior)
    let o := sampleLoop r.s n { l1 with opStaged := false } (decide (code = 1))
    let s1 := addToBatch (modLoop r.s n (fun _ => o.loop)) (podOf r.s prior) { loop := n, prior := prior, drive := o.drive }
    let s2 := if o.badRise then post (hzRaise s1 2) .loopBadInput (n % 4096) n 0 0 else s1
    let s3 := if code = 2 then hzRaise s2 6 else s2
    { s := publish (advanceInjection s3 n) n (r.s.now / 50000)
      applied := if code = 1 then r.applied ++ [n] else r.applied
      refused := if code = 2 then r.refused ++ [n] else r.refused
      empty := if code = 3 then r.empty ++ [n] else r.empty
      bump := r.bump || prior.opStaged || decide (code = 1) }

/-- LOOP_PARAM commands with COMMIT get their outcome at the commit sample: HZ_APPLY.GEN, or BAD_PARAM (R91). -/
def concludeParams (s : State) (ns : List Nat) (code : Code) (wh : Nat) : State :=
  ns.foldl (fun t n => concludeAll t (fun x => decide (x.opcode = 0x0605) && decide (x.subject = n)) code wh
    (fun u _ => if code = .ok then leBytes 2 (regField u Reg.hzApply 0 15 0) else [])) s

/-- The pod-cycles each pod spends on the due loops (R75, R106). -/
def notePeaks (s : State) (due : List (Nat × Loop)) : State :=
  [1, 2, 3, 4, 5].foldl (fun t p =>
    podPeak t p ((due.filter (fun q => decide (podOf s q.2 = p))).map (fun q => loopCost q.2.desc)).sum) s

/-- Run the due loops of slot `n`. Batches of the slot before are closed by now (R78). -/
def runLoops (s : State) (n : Nat) : State :=
  let s0 := [1, 2, 3, 4, 5].foldl closeBatch s
  let due := dueLoops s0 n
  let r := (due.map (·.1)).foldl slotLoop { s := notePeaks s0 due }
  let s1 := if r.bump then bumpApply r.s Reg.hzApply 0 else r.s
  concludeParams (concludeParams (concludeParams s1 r.applied .ok 0) r.empty .ok 0) r.refused .badParam 5

/-! ## Captures (R97, R98) -/

/-- DEPTH of a CCB: samples − 1. -/
def capDepth (c : Capture) : Nat := blockField c.ccb 0 2
/-- PRE of a CCB. -/
def capPre (c : Capture) : Nat := blockField c.ccb 2 2
/-- K_CAP of a CCB. -/
def capK (c : Capture) : Nat := blockField c.ccb 4 1
/-- NSIG of a CCB. -/
def capNsig (c : Capture) : Nat := blockField c.ccb 5 1

/-- The values a set records: each signal's value at the end of the slot's work. DESIGN CHOICE: 0 for a signal of a loop that the image does
not define (log 131). -/
def capValues (s : State) (c : Capture) : List Int :=
  (List.range (capNsig c)).map (fun i =>
    match loop? s (blockField c.ccb (16 + 4 * i) 2) with
    | some l => sigAt l.signals (blockField c.ccb (18 + 4 * i) 1)
    | none => 0)

/-- The set's trigger is met at this sample: a trigger waits, or signal 0 crosses LEVEL (Table HZL-11). -/
def capTriggered (c : Capture) (v0 : Int) : Bool :=
  let level := s16 (blockField c.ccb 10 2)
  c.fire || (match blockField c.ccb 6 1, c.last with
    | 2, some p => decide (p < level) && decide (level ≤ v0)
    | 3, some p => decide (level < p) && decide (v0 ≤ level)
    | _, _ => false)

/-- A set's sample of slot `n`: the newest PRE are kept before the trigger, DEPTH + 1 − PRE follow it (R97). DESIGN CHOICE: after a trigger
that comes before PRE samples were recorded, the set holds the fewer samples, and each is stamped from the index that the trigger has
among them (log 107). -/
def capSample (s : State) (k n : Nat) : State :=
  let c := cap s k
  let v := capValues s c
  let v0 := v.getD 0 0
  if c.state = 1 then
    if capTriggered c v0 then
      let left := capDepth c - capPre c
      let s1 := setCap s k { c with state := 2, rows := c.rows ++ [v], fire := false, trigTime := n * 50000, trigIndex := c.rows.length
                                    remaining := left, last := some v0 }
      if left = 0 then finishCapture s1 k false else s1
    else
      let kept := c.rows ++ [v]
      setCap s k { c with rows := kept.drop (kept.length - capPre c), last := some v0 }
  else if c.state = 2 then
    let s1 := setCap s k { c with rows := c.rows ++ [v], remaining := c.remaining - 1, last := some v0 }
    if c.remaining ≤ 1 then finishCapture s1 k c.truncated else s1
  else s

/-- Bytes in the staging buffer of all sets (R98). -/
def stagedBytes (s : State) : Nat := ((List.range 4).map (fun k => (cap s k).staging)).sum

/-- A set's sample passes the staging buffer to MRAM under a C2 claim, for which the set asks as long as it has none (R98, Table PWB-7). -/
def capStage (s : State) (k bytes : Nat) : State :=
  if hasClaim s (.captureWrite k) then s
  else
    let s1 := setCap s k { cap s k with staging := (cap s k).staging + bytes }
    if s.grd.c2.any (fun r => decide (r.purpose = .captureWrite k)) then s1 else askWrite s1 0x2 250000 (.captureWrite k)

/-- One due set: its sample is taken and staged; where Gourd's delays have filled the buffer, the set stops truncated instead (R98). -/
def capSlot (s : State) (k n : Nat) : State :=
  let bytes := 2 * capNsig (cap s k)
  if !hasClaim s (.captureWrite k) && decide (65536 < stagedBytes s + bytes) then finishCapture s k true
  else capStage (capSample s k n) k bytes

/-- The capture sets that sample in slot `n`: n mod 2^K_CAP = PHASE (R97). -/
def runCaptures (s : State) (n : Nat) : State :=
  [0, 1, 2, 3].foldl (fun t k =>
    let c := cap t k
    if (decide (c.state = 1) || decide (c.state = 2)) && decide (n % 2 ^ capK c = blockField c.ccb 8 2) then capSlot t k n else t) s

/-- The slot starts at or after the boundary at which this module gives the field by handover: the partner runs it (R277). -/
def slotGiven (s : State) (n : Nat) : Bool :=
  match s.exe.handover.bind (·.boundary) with
  | some b => decide (b ≤ n * 50000)
  | none => false

/-- HAZEL_SLOT (R74): the sample boundary: the sample latch is loaded (R26), the due loops run on the module that owns the field (R100,
R277), and the capture sets sample. A slot never runs twice (R79). -/
def execHazelSlot (s : State) : Host.Outcome State Fault Refusal :=
  let n := s.now / 50000
  if s.hz.slot = some n then .next s
  else
    let s1 := { s with hz := { s.hz with slot := some n }
                       fch := { s.fch with sampleLatch := latchNow s s.exe.latchSeq, sampleStamp := n * 50000 } }
    if held s 2 then .next s1
    else .next (runCaptures (if owner s1 && !slotGiven s1 n then runLoops s1 n else s1) n)

/-! ## Pods (R103, R104) -/

/-- POD_FAIL (R103, R104): the pod's results of the slot are discarded; pod 5 takes its place, or with no spare left the module fails over,
and a lone one re-places the loops. -/
def execPodFail (pod : Fin 6) (s : State) : Host.Outcome State Fault Refusal :=
  let p := pod.val
  if p = 0 ∨ p ∈ s.hz.failedPods then .next s
  else
    let s1 := post (hzRaise (podMissed (dropBatch s p) p) 0) .podFail p p 0 0
    let s2 := { s1 with hz := { s1.hz with failedPods := s1.hz.failedPods ++ [p] } }
    if p ∉ s2.hz.podMap then .next (writeSproutRecord s2)
    else if 5 ∉ s2.hz.failedPods ∧ 5 ∉ s2.hz.podMap then
      let s3 := { s2 with hz := { s2.hz with podMap := s2.hz.podMap.map (fun x => if x = p then 5 else x) }
                          spr := { s2.spr with pod := true } }
      .next (sprouted s3)
    else
      let moving := s2.hz.loops.filter (fun q => decide (podOf s2 q.2 = p) && !q.2.unplaced)
      let s3 := writeSproutRecord (exhausted { s2 with hz := { s2.hz with podMap := s2.hz.podMap.map (fun x => if x = p then 0 else x) } } 3)
      if s3.pair.role = .alone then .next (replaceLoops s3 p moving) else .next (moduleFault s3 .pod 0 0 0)

/-- HZ_STAT (R106). -/
def hzStat (s : State) : Word :=
  let ins := podsInService s
  fieldWord 28 16 s.hz.loops.length ||| fieldWord 9 9 (b2n (decide (ins.length < 4))) ||| fieldWord 8 8 (b2n (ins.contains 5))
    ||| fieldWord 4 0 ((ins.map (fun p => 2 ^ (p - 1))).sum)

/-! ## Operator fields (R83, R91) -/

/-- HZ_LOOPSEL.LOOP. -/
def selectedLoop (s : State) : Nat := regField s Reg.hzLoopsel 0 11 0

/-- PCOMMIT of loop `n`: its staged parameters apply at its next sample. -/
def pcommit (s : State) (n : Nat) : State := modLoop s n (fun l => { l with pcommit := true })

/-- The operator's mode request and SP_TRACK_PV of loop `n`. -/
def setOpMode (s : State) (n : Nat) (mode track : Option Nat) : State :=
  modLoop s n (fun l => { l with opMode := mode.getD l.opMode, spTrackPv := (track.map (fun t => decide (t = 1))).getD l.spTrackPv, opStaged := true })

/-- The operator's set-point of loop `n`. -/
def setOpSp (s : State) (n v : Nat) : State := modLoop s n (fun l => { l with opSp := s16 v, opStaged := true })

/-- The operator's manual output of loop `n`: a first new manual value ends MAN_HOLD (R87). -/
def setOpMv (s : State) (n v : Nat) : State := modLoop s n (fun l => { l with opMv := s16 v, mvWritten := true, opStaged := true })

/-- A write of HZ_LOOP_MODE: only bits under the mask change; MODE_REQ only where the operator owns the mode (R83, R331). -/
def writeLoopMode (s : State) (v : Word) : State :=
  match loop? s (selectedLoop s) with
  | none => s
  | some l =>
    let n := selectedLoop s
    let mask := field v 31 16
    let wantsMode := decide (mask % 4 ≠ 0)
    let refused := wantsMode && !operatorOwns l.desc 0
    let newMode := (l.opMode % 4 &&& (3 - mask % 4)) ||| (field v 1 0 &&& mask % 4)
    let mode := if wantsMode && !refused then some newMode else none
    let track := if mask.testBit 2 then some (field v 2 2) else none
    let s1 := if refused then hzRaise s 6 else s
    let s2 := if mode.isSome || track.isSome then setOpMode s1 n mode track else s1
    if mask.testBit 8 && bit v 8 then pcommit s2 n else s2

/-- A write of HZ_LOOP_SP (R83). -/
def writeLoopSp (s : State) (v : Word) : State :=
  match loop? s (selectedLoop s) with
  | none => s
  | some l => if operatorOwns l.desc 1 then setOpSp s (selectedLoop s) (field v 15 0) else hzRaise s 6

/-- A write of HZ_LOOP_MV (R83). -/
def writeLoopMv (s : State) (v : Word) : State :=
  match loop? s (selectedLoop s) with
  | none => s
  | some l => if operatorOwns l.desc 2 then setOpMv s (selectedLoop s) (field v 15 0) else hzRaise s 6

/-- HZ_PCOMMIT (R91): HZ_LOOP_MODE.PCOMMIT of the selected loop, with its mask bit. -/
def execHzPcommit (r : Requester) (s : State) : Host.Outcome State Fault Refusal :=
  .next (actionWrite s Reg.hzLoopMode r (fun t => pcommit t (selectedLoop t)))

/-- HZ_LOOP_MODE_WRITE (R83). -/
def execHzLoopModeWrite (v : Word) (r : Requester) (s : State) : Host.Outcome State Fault Refusal :=
  .next (actionWrite s Reg.hzLoopMode r (fun t => writeLoopMode t v))

/-- HZ_LOOP_SP_WRITE (R83). -/
def execHzLoopSpWrite (v : Word) (r : Requester) (s : State) : Host.Outcome State Fault Refusal :=
  .next (actionWrite s Reg.hzLoopSp r (fun t => writeLoopSp t v))

/-- HZ_LOOP_MV_WRITE (R83). -/
def execHzLoopMvWrite (v : Word) (r : Requester) (s : State) : Host.Outcome State Fault Refusal :=
  .next (actionWrite s Reg.hzLoopMv r (fun t => writeLoopMv t v))

/-! ## Starting and stopping injections (R94, R96) -/

/-- The ranges of an ICB (Table HZL-9). -/
def icbOk (b : List Byte) : Bool :=
  let kind := blockField b 2 1
  let n := blockField b 6 1
  decide (b.length = 32) && decide (1 ≤ kind) && decide (kind ≤ 4) && decide (blockField b 3 1 ≤ 1)
    && decide (0 < s16 (blockField b 4 2))
    && (decide (kind ≠ 3) || (decide (7 ≤ n) && decide (n ≤ 15) && decide (1 ≤ blockField b 7 1) && decide (1 ≤ blockField b 8 4)
        && decide (blockField b 8 4 ≤ 65536) && decide (blockField b 28 2 % 2 ^ n ≠ 0)))
    && (decide (kind ≠ 4) || decide (blockField b 16 4 ≤ 536870912)) && (decide (blockField b 30 1 < 4) || decide (blockField b 30 1 = 255))

/-- START is accepted: the loop is in a mode its POINT allows, and no other generator runs on it (R96). -/
def canInject (s : State) (g : Nat) : Bool :=
  let b := (gen s g).icb
  let n := blockField b 0 2
  icbOk b && (match loop? s n with
    | some l => (decide (l.mode = 2) || decide (l.mode = 3) || (decide (l.mode = 1) && decide (blockField b 3 1 = 1)))
        && (injecting s n).isNone
    | none => false)

/-- A trigger reaches an armed set. DESIGN CHOICE: the manual trigger fires any armed set, whatever its TRIG (R97; log 108). -/
def fireCapture (s : State) (k : Nat) : State := if (cap s k).state = 1 then setCap s k { cap s k with fire := true } else s

/-- Start a generator from its ICB, triggering the capture set it names; refused, it is ABORTED with reason 7 (R94 to R96). DESIGN CHOICE:
HZ_INJ.START written for a generator that runs is ignored (log 109). An injection that starts asks Gourd for a C3 claim (Table PWB-1), which
no other effect of it waits for (log 133). -/
def startInjection (s : State) (g : Nat) : State :=
  let x := gen s g
  if (gen s g).state = 1 then s
  else if canInject s g then
    let l := loop? s (blockField x.icb 0 2)
    let s1 := setGen s g { icb := x.icb, state := 1, lfsr := blockField x.icb 28 2 % 2 ^ blockField x.icb 6 1
                           mode := (l.map (·.mode)).getD 0 }
    let s2 := askLogic s1 .c3 0x2 Config.injectionPower none (.injection g)
    let k := blockField x.icb 30 1
    if k < 4 ∧ blockField (cap s2 k).ccb 6 1 = 1 then fireCapture s2 k else s2
  else endInjection s g 7

/-- Stop a running generator, with reason 6. -/
def stopInjection (s : State) (g : Nat) : State := if (gen s g).state = 1 then endInjection s g 6 else s

/-- HZ_INJ_START (R96): a write of HZ_INJ.START, with the GEN that the same write stores. -/
def execHzInjStart (gen : Fin 4) (r : Requester) (s : State) : Host.Outcome State Fault Refusal :=
  .next (actionWrite s Reg.hzInj r (fun t => startInjection (setRegField t Reg.hzInj 0 1 0 gen.val) gen.val))

/-- HZ_INJ_STOP (R96): a write of HZ_INJ.STOP. -/
def execHzInjStop (gen : Fin 4) (r : Requester) (s : State) : Host.Outcome State Fault Refusal :=
  .next (actionWrite s Reg.hzInj r (fun t => stopInjection (setRegField t Reg.hzInj 0 1 0 gen.val) gen.val))

/-! ## Capture sets (R97, R98) -/

/-- The ranges of a CCB (Table HZL-11). -/
def ccbOk (b : List Byte) : Bool :=
  decide (b.length = 48) && decide (blockField b 2 2 ≤ blockField b 0 2) && decide (blockField b 4 1 ≤ 12)
    && decide (1 ≤ blockField b 5 1) && decide (blockField b 5 1 ≤ 8) && decide (blockField b 6 1 ≤ 3)
    && decide (blockField b 8 2 < 2 ^ blockField b 4 1)
    && (List.range (blockField b 5 1)).all (fun i => decide (blockField b (16 + 4 * i) 2 < 4096) && decide (blockField b (18 + 4 * i) 1 < 32))

/-- A set may be armed, and its CCB written: it is idle or DONE. -/
def capFree (s : State) (k : Nat) : Bool := decide ((cap s k).state = 0) || decide ((cap s k).state = 3)

/-- Arm a set from its CCB: its data gives way. -/
def armCapture (s : State) (k : Nat) : State := setCap s k { ccb := (cap s k).ccb, state := 1 }

/-- A set returns to idle, its data discarded. -/
def disarmCapture (s : State) (k : Nat) : State := setCap s k { ccb := (cap s k).ccb }

/-- A write of ARM is ignored with WRITE_REFUSED unless the set is idle or DONE, and with a CCB out of its ranges. -/
def askArm (s : State) (k : Nat) : State := if capFree s k && ccbOk (cap s k).ccb then armCapture s k else hzRaise s 6

/-- HZ_CAP_ARM (R97): a write of HZ_CAP.ARM. -/
def execHzCapArm (set : Fin 4) (r : Requester) (s : State) : Host.Outcome State Fault Refusal :=
  .next (actionWrite s Reg.hzCap r (fun t => askArm (setRegField t Reg.hzCap 0 1 0 set.val) set.val))

/-- HZ_CAP_TRIGGER (R97): the manual trigger of an armed set. -/
def execHzCapTrigger (set : Fin 4) (r : Requester) (s : State) : Host.Outcome State Fault Refusal :=
  .next (actionWrite s Reg.hzCap r (fun t => fireCapture (setRegField t Reg.hzCap 0 1 0 set.val) set.val))

/-- HZ_CAP_DISARM (R97). -/
def execHzCapDisarm (set : Fin 4) (r : Requester) (s : State) : Host.Outcome State Fault Refusal :=
  .next (actionWrite s Reg.hzCap r (fun t => disarmCapture (setRegField t Reg.hzCap 0 1 0 set.val) set.val))

/-! ## The commands (Table CMD-11) -/

/-- The 20 bytes LOOP_READ gives of a loop number. -/
def loopReadBytes (s : State) (n : Nat) : List Byte :=
  match loop? s n with
  | some l => exchangeOut s n l ++ leBytes 4 (loopStat s n l).toNat
  | none => leBytes 20 0

/-- LOOP_READ (0x0601). -/
def execLoopRead (c : Ctx) (first count : BitVec 16) (s : State) : Host.Outcome State Fault Refusal :=
  .next (command s c 0x0601 2 (.loopRead c first count) true (fun s =>
    if 4095 < first.toNat then refuse s c 0x0601 .badParam 0
    else if count.toNat = 0 ∨ 2048 < count.toNat ∨ 4096 < first.toNat + count.toNat then refuse s c 0x0601 .badParam 2
    else ok s c 0x0601 ((List.range count.toNat).flatMap (fun i => loopReadBytes s (first.toNat + i)))))

/-- A loop command that writes an operator-owned field: BAD_PARAM for a loop the image does not define, and for a field the program owns
(R83). -/
def loopWrite (s : State) (c : Ctx) (op : Nat) (i : Instr) (n bit_ : Nat) (body : State → State) : State :=
  command s c op 2 i (owner s) (fun s => match loop? s n with
    | none => refuse s c op .badParam 0
    | some l => if operatorOwns l.desc bit_ then ok (body s) c op [] else refuse s c op .badParam 2)

/-- LOOP_MODE (0x0602). -/
def execLoopMode (c : Ctx) (loop : BitVec 16) (mode : BitVec 8) (track : BitVec 8) (s : State) : Host.Outcome State Fault Refusal :=
  if 3 < mode.toNat ∨ 1 < track.toNat then
    .next (command s c 0x0602 2 (.loopMode c loop mode track) (owner s) (fun s => refuse s c 0x0602 .badParam (if 3 < mode.toNat then 2 else 3)))
  else .next (loopWrite s c 0x0602 (.loopMode c loop mode track) loop.toNat 0 (fun t => setOpMode t loop.toNat (some mode.toNat) (some track.toNat)))

/-- LOOP_SP (0x0603). -/
def execLoopSp (c : Ctx) (loop : BitVec 16) (v : BitVec 16) (s : State) : Host.Outcome State Fault Refusal :=
  .next (loopWrite s c 0x0603 (.loopSp c loop v) loop.toNat 1 (fun t => setOpSp t loop.toNat v.toNat))

/-- LOOP_MV (0x0604). -/
def execLoopMv (c : Ctx) (loop : BitVec 16) (v : BitVec 16) (s : State) : Host.Outcome State Fault Refusal :=
  .next (loopWrite s c 0x0604 (.loopMv c loop v) loop.toNat 2 (fun t => setOpMv t loop.toNat v.toNat))

/-- Stage parameter words of a loop from word `w` (R91). -/
def stageParams (s : State) (n w : Nat) (ws : List Word) : State :=
  let new := ws.zipIdx.map (fun p => (w + p.2, p.1))
  modLoop s n (fun l => { l with
    staged := l.staged ++ new, wrote := l.wrote.filter (fun p => decide (p.1 < w) || decide (w + ws.length ≤ p.1)) ++ new })

/-- LOOP_PARAM (0x0605, R91): words are staged; with COMMIT the reply follows the commit sample with HZ_APPLY.GEN. -/
def execLoopParam (c : Ctx) (loop : BitVec 16) (word : BitVec 8) (words : List Word) (commit : Bool) (s : State) :
    Host.Outcome State Fault Refusal :=
  .next (command s c 0x0605 2 (.loopParam c loop word words commit) (owner s) (fun s =>
    let n := loop.toNat
    if (loop? s n).isNone then refuse s c 0x0605 .badParam 0
    else if word.toNat = 0 ∨ 87 < word.toNat then refuse s c 0x0605 .badParam 2
    else if 88 < word.toNat + words.length then refuse s c 0x0605 .badParam 3
    else
      let s1 := stageParams s n word.toNat words
      if commit then await (pcommit s1 n) c 0x0605 2 n else ok s1 c 0x0605 (leBytes 2 (regField s1 Reg.hzApply 0 15 0))))

/-- INJECT_START (0x0606, R96): OK once the generator runs; BAD_PARAM with WHERE = reason 7 otherwise. A running generator's ICB is not
written (R94). -/
def execInjectStart (c : Ctx) (gen : BitVec 8) (icb : List Byte) (s : State) : Host.Outcome State Fault Refusal :=
  .next (command s c 0x0606 2 (.injectStart c gen icb) (owner s) (fun s =>
    let g := gen.toNat
    if 3 < g then refuse s c 0x0606 .badParam 0
    else if (Sys2Proof.Machine.gen s g).state = 1 then refuse (hzRaise s 6) c 0x0606 .busy 0
    else
      let s1 := startInjection (setGen s g { Sys2Proof.Machine.gen s g with icb := icb }) g
      if (Sys2Proof.Machine.gen s1 g).state = 1 then ok s1 c 0x0606 []
      else refuse (setGen s1 g { Sys2Proof.Machine.gen s1 g with icb := (Sys2Proof.Machine.gen s g).icb }) c 0x0606 .badParam 7))

/-- INJECT_STOP (0x0607, R96): the reason recorded. -/
def execInjectStop (c : Ctx) (gen : BitVec 8) (s : State) : Host.Outcome State Fault Refusal :=
  .next (command s c 0x0607 2 (.injectStop c gen) (owner s) (fun s =>
    let g := gen.toNat
    if 3 < g then refuse s c 0x0607 .badParam 0
    else
      let s1 := stopInjection s g
      ok s1 c 0x0607 (leBytes 1 (Sys2Proof.Machine.gen s1 g).reason)))

/-- CAP_ARM (0x0608, R97): BUSY unless idle or DONE. -/
def execCapArm (c : Ctx) (set : BitVec 8) (ccb : List Byte) (s : State) : Host.Outcome State Fault Refusal :=
  .next (command s c 0x0608 2 (.capArm c set ccb) (owner s) (fun s =>
    let k := set.toNat
    if 3 < k then refuse s c 0x0608 .badParam 0
    else if !capFree s k then refuse s c 0x0608 .busy 0
    else if !ccbOk ccb then refuse s c 0x0608 .badParam 1
    else ok (armCapture (setCap s k { cap s k with ccb := ccb }) k) c 0x0608 []))

/-- CAP_TRIGGER (0x0609, R97). -/
def execCapTrigger (c : Ctx) (set : BitVec 8) (s : State) : Host.Outcome State Fault Refusal :=
  .next (command s c 0x0609 2 (.capTrigger c set) (owner s) (fun s =>
    if 3 < set.toNat then refuse s c 0x0609 .badParam 0 else ok (fireCapture s set.toNat) c 0x0609 []))

/-- CAP_DISARM (0x060A, R97). -/
def execCapDisarm (c : Ctx) (set : BitVec 8) (s : State) : Host.Outcome State Fault Refusal :=
  .next (command s c 0x060A 2 (.capDisarm c set) (owner s) (fun s =>
    if 3 < set.toNat then refuse s c 0x060A .badParam 0 else ok (disarmCapture s set.toNat) c 0x060A []))

/-- The header of a capture read-out: time of sample 0, period, sample count, trigger index and flags (R98; log 51). -/
def capHeader (x : Capture) : List Byte :=
  let period := 50000 * 2 ^ capK x
  let t0 := x.trigTime - x.trigIndex * period
  leBytes 8 (t0 / 1000000000) ++ leBytes 4 (t0 % 1000000000) ++ leBytes 4 period ++ leBytes 4 x.rows.length
    ++ leBytes 4 x.trigIndex ++ leBytes 4 (b2n x.truncated) ++ leBytes 4 0

/-- CAP_READ (0x060B, R98): the header, then the samples up to the last one, interleaved by signal. -/
def execCapRead (c : Ctx) (set : BitVec 8) (first : BitVec 32) (count : BitVec 16) (s : State) : Host.Outcome State Fault Refusal :=
  .next (command s c 0x060B 2 (.capRead c set first count) true (fun s =>
    if 3 < set.toNat then refuse s c 0x060B .badParam 0
    else if count.toNat = 0 ∨ 4092 < count.toNat then refuse s c 0x060B .badParam 5
    else
      let x := cap s set.toNat
      ok s c 0x060B (capHeader x ++ ((x.rows.drop first.toNat).take count.toNat).flatMap (fun v => v.flatMap sigBytes))))

/-! ## Status registers (R106) -/

/-- HZ_INJ_STAT. -/
def hzInjStat (s : State) : Word :=
  word (((List.range 4).map (fun g => ((gen s g).state % 4 + 4 * ((gen s g).reason % 8)) * 2 ^ (8 * g))).sum)

/-- HZ_CAP_STAT. -/
def hzCapStat (s : State) : Word := word (((List.range 4).map (fun k => ((cap s k).state % 4) * 2 ^ (8 * k))).sum)

end Sys2Proof.Machine
end

