-- ==== Sys2Proof/Machine/ReedSolomon.lean ====
section
/-! DEFINITION. Machine/ReedSolomon.lean: the RS(21,16) code of SRAM and MRAM with its three virtual symbols (R282 to R284). A word of
24 symbols: the virtual symbols, the data bytes and the check bytes, the coefficients of falling powers of x. -/
namespace Sys2Proof.Machine
open Sys2Proof

/-- Multiply by α in GF(2^8) with x^8 + x^4 + x^3 + x^2 + 1. -/
def gfDouble (a : Nat) : Nat := if a < 128 then 2 * a else (2 * a) % 256 ^^^ 0x1D

/-- Product in GF(2^8), over `n` bits of `b`. -/
def gfMulBits : Nat → Nat → Nat → Nat
  | 0, _, _ => 0
  | n + 1, a, b => (if b % 2 = 1 then a else 0) ^^^ gfMulBits n (gfDouble a) (b / 2)

/-- Product in GF(2^8). -/
def gfMul (a b : Nat) : Nat := gfMulBits 8 a b

/-- α^n. -/
def gfExp : Nat → Nat
  | 0 => 1
  | n + 1 => gfDouble (gfExp n)

/-- a^n. -/
def gfPow (a : Nat) : Nat → Nat
  | 0 => 1
  | n + 1 => gfMul a (gfPow a n)

/-- The inverse a^254. -/
def gfInv (a : Nat) : Nat := gfPow a 254

/-- Quotient in GF(2^8). -/
def gfDiv (a b : Nat) : Nat := gfMul a (gfInv b)

/-- The generator's five coefficients below x^5, of x^4 down to 1: the product of (x − α^0) to (x − α^4). -/
def rsGen : List Nat := [0x1F, 0xC6, 0x3F, 0x93, 0x74]

/-- One step of the division by the generator: shift symbol `d` into the remainder. -/
def rsShift (rem : List Nat) (d : Nat) : List Nat :=
  let f := (rem.headD 0) ^^^ d
  ((rem.drop 1 ++ [0]).zip rsGen).map (fun (p : Nat × Nat) => p.1 ^^^ gfMul f p.2)

/-- The five check bytes of the virtual and data symbols. -/
def rsCheck (msg : List Nat) : List Nat := msg.foldl rsShift [0, 0, 0, 0, 0]

/-- The virtual symbols of a codeword index, most significant first (R283). -/
def rsVirtual (idx : Nat) : List Nat := [idx / 65536 % 256, idx / 256 % 256, idx % 256]

/-- The symbols of lanes 0 to 20: the data bytes and their check bytes. -/
def rsEncode (idx : Nat) (data : List Nat) : List Nat := data ++ rsCheck (rsVirtual idx ++ data)

/-- Syndrome j: the word's polynomial at α^j. -/
def rsSyndrome (word : List Nat) (j : Nat) : Nat := word.foldl (fun a d => gfMul a (gfExp j) ^^^ d) 0

/-- The locator of symbol `i` of the 24: α to its power of x. -/
def rsLocator (i : Nat) : Nat := gfExp (23 - i)

/-- What a decode finds: no error, errors by symbol and value, or more than the code corrects. -/
inductive RsResult where
  | clean | errors (es : List (Nat × Nat)) | failed
deriving DecidableEq, Repr

/-- The symbol with this locator. -/
def rsPlace (x : Nat) : Option Nat := (List.range 24).find? (fun i => decide (rsLocator i = x))

/-- Decode with all lanes in service: up to two errors. -/
def rsDecode2 (s : List Nat) : RsResult :=
  let s0 := s.getD 0 0
  let s1 := s.getD 1 0
  let s2 := s.getD 2 0
  let s3 := s.getD 3 0
  let s4 := s.getD 4 0
  if s0 = 0 ∧ s1 = 0 ∧ s2 = 0 ∧ s3 = 0 ∧ s4 = 0 then .clean
  else
    let one := if s0 = 0 then none else
      let x := gfDiv s1 s0
      if gfMul s1 x = s2 ∧ gfMul s2 x = s3 ∧ gfMul s3 x = s4 then (rsPlace x).map (fun i => [(i, s0)]) else none
    match one with
    | some es => .errors es
    | none =>
      let det := gfMul s1 s1 ^^^ gfMul s0 s2
      if det = 0 then .failed
      else
        let a := gfDiv (gfMul s1 s2 ^^^ gfMul s0 s3) det
        let b := gfDiv (gfMul s2 s2 ^^^ gfMul s1 s3) det
        if gfMul a s3 ^^^ gfMul b s2 ≠ s4 then .failed
        else
          match (List.range 24).filter (fun i => decide (gfMul (rsLocator i) (rsLocator i) ^^^ gfMul a (rsLocator i) ^^^ b = 0)) with
          | [i, k] =>
            let e := gfDiv (s1 ^^^ gfMul s0 (rsLocator k)) (rsLocator i ^^^ rsLocator k)
            .errors [(i, e), (k, s0 ^^^ e)]
          | _ => .failed

/-- Decode with symbol `p` erased: its value, and up to one further error. -/
def rsDecodeErased (s : List Nat) (p : Nat) : RsResult :=
  let xp := rsLocator p
  let t := (List.range 4).map (fun j => s.getD (j + 1) 0 ^^^ gfMul xp (s.getD j 0))
  let s0 := s.getD 0 0
  if t.all (fun v => v == 0) then (if s0 = 0 then .clean else .errors [(p, s0)])
  else
    let t0 := t.getD 0 0
    let t1 := t.getD 1 0
    let t2 := t.getD 2 0
    if t0 = 0 then .failed
    else
      let x := gfDiv t1 t0
      if gfMul t1 x ≠ t2 ∨ gfMul t2 x ≠ t.getD 3 0 then .failed
      else match rsPlace x with
        | none => .failed
        | some q =>
          if q = p then .failed
          else
            let e := gfDiv t0 (x ^^^ xp)
            .errors [(q, e), (p, s0 ^^^ e)]

/-- Decode a word of 24 symbols (Table MEM-2); an error placed in a virtual symbol is an address error, and the word fails (R283). -/
def rsDecode (word : List Nat) (erased : Option Nat) : RsResult :=
  let s := (List.range 5).map (rsSyndrome word)
  let r := match erased with
    | none => rsDecode2 s
    | some p => rsDecodeErased s p
  match r with
  | .errors es => if es.any (fun e => decide (e.1 < 3) && decide (e.2 ≠ 0)) then .failed else .errors es
  | r => r

end Sys2Proof.Machine
end

