-- ==== Sys2Proof/Machine/MemoryOps.lean ====
section
/-! DEFINITION. Machine/MemoryOps.lean: codewords of the SRAM as the state holds them, their decoding, the count of corrections and the
retirement of lanes (R282 to R295). -/
namespace Sys2Proof.Machine
open Sys2Proof

/-! ## Regions and codewords -/

/-- The region of a codeword index: 0 image, 1 state, 2 loop memory, 3 buffers (R283). -/
def regionOf (idx : Nat) : Nat := if idx < 0x200000 then 0 else if idx < 0x300000 then 1 else if idx < 0x340000 then 2 else 3

/-- The first codeword index of a region. -/
def regionBase : Nat → Nat
  | 0 => 0 | 1 => 0x200000 | 2 => 0x300000 | _ => 0x340000

/-- Codewords of a region (Table MEM-4). -/
def regionSize : Nat → Nat
  | 0 => 2097152 | 1 => 1048576 | _ => 262144

/-- ADDR of a codeword: region in [31:30], byte offset in its region below (Table MEM-3). -/
def wordAddr (idx : Nat) : Nat := regionOf idx * 1073741824 + 16 * (idx - regionBase (regionOf idx))

/-- Region `r`. -/
def region (s : State) (r : Nat) : MemRegion := storeGet (fun _ => {}) s.mem.regions r

/-- Replace region `r`. -/
def setRegion (s : State) (r : Nat) (x : MemRegion) : State :=
  { s with mem := { s.mem with regions := storeSet (fun _ => {}) s.mem.regions r x } }

/-- Raise a flag of MEM_FLAGS. -/
def memRaise (s : State) (n : Nat) : State := raise s Reg.memFlags 0 n

/-- Bytes as numbers. -/
def nats (bs : List Byte) : List Nat := bs.map (·.toNat)

/-- Numbers as bytes. -/
def bytes (ns : List Nat) : List Byte := ns.map (BitVec.ofNat 8)

/-- The lane symbols of data at an index, with lane 21 as the spare's copy of lane `l`. -/
def laneSymbols (idx : Nat) (data : List Nat) (l : Option Nat) : List Byte :=
  let w := rsEncode idx data
  bytes (w ++ [match l with
    | some k => w.getD k 0
    | none => 0])

/-- What a codeword that nothing has written holds: zeros, encoded (the memory is initialised at bring-up, R448). -/
def freshWord (idx : Nat) : List Byte := laneSymbols idx (List.replicate 16 0) none

/-- What an MRAM codeword that nothing has written holds: zeros, encoded (Table MEM-6). -/
def mramFresh (i : Nat) : List Byte := bytes (rsEncode i (List.replicate 16 0))

/-- The canonical form of both memories: keys rising, nothing listed that an unlisted key reads as. -/
def Memory.wf (m : Memory) : Bool := storeWf freshWord m.words && storeWf mramFresh m.mram

/-- The 22 symbols of a codeword. -/
def memWord (s : State) (idx : Nat) : List Byte := storeGet freshWord s.mem.words idx

/-- Replace a codeword. -/
def setMemWord (s : State) (idx : Nat) (w : List Byte) : State :=
  { s with mem := { s.mem with words := storeSet freshWord s.mem.words idx w } }

/-- The cells of a codeword change: each lane's symbol is XORed. -/
def flipWord (w : List Byte) (fs : List (Fin 22 × Byte)) : List Byte :=
  fs.foldl (fun w f => modAt w f.1.val (fun b => b ^^^ f.2)) w

/-- Lane 21 stands for the retired lane of this codeword: the spare is in, or its copy has passed the codeword (R294). -/
def spareServes (s : State) (idx : Nat) : Bool :=
  let x := region s (regionOf idx)
  x.retired.isSome && (x.spareIn || (match x.copying with
    | some p => decide (idx - regionBase (regionOf idx) < p)
    | none => false))

/-- The lane whose symbol a decode of this codeword treats as erased (Table MEM-2): the lane erased for good, with lane 21 standing
for the one it replaced, else a retired lane that lane 21 does not yet serve. -/
def erasedLane (s : State) (idx : Nat) : Option Nat :=
  let x := region s (regionOf idx)
  match x.erased with
  | some 21 => x.retired
  | some l => some l
  | none => if spareServes s idx then none else x.retired

/-- The 21 symbols of a codeword in code order: lane 21 replaces the retired lane where it serves. -/
def codeSymbols (s : State) (idx : Nat) (w : List Byte) : List Byte :=
  let x := region s (regionOf idx)
  match x.retired with
  | some l => if spareServes s idx then (w.take 21).set l (w.getD 21 0) else w.take 21
  | none => w.take 21

/-- Physical lane that holds code symbol `l` of this codeword. -/
def physicalLane (s : State) (idx l : Nat) : Nat :=
  if spareServes s idx && decide ((region s (regionOf idx)).retired = some l) then 21 else l

/-- Decode the symbols read for codeword `idx`. -/
def decodeWord (s : State) (idx : Nat) (w : List Byte) : RsResult :=
  rsDecode (rsVirtual idx ++ nats (codeSymbols s idx w)) ((erasedLane s idx).map (· + 3))

/-- The data bytes of a codeword once decoded: each found error is XORed in. -/
def correctedData (s : State) (idx : Nat) (w : List Byte) (r : RsResult) : List Nat :=
  let sym := nats (codeSymbols s idx w)
  let fixed := match r with
    | .errors es => es.foldl (fun (ws : List Nat) (e : Nat × Nat) => modAt ws (e.1 - 3) (fun v => v ^^^ e.2)) sym
    | _ => sym
  fixed.take 16

/-- The lanes a decode corrected, the erased one apart. -/
def correctedLanes (s : State) (idx : Nat) (r : RsResult) : List Nat :=
  match r with
  | .errors es => ((es.filter (fun e => decide (e.2 ≠ 0))).map (fun e => e.1 - 3)).filter (fun l => decide (some l ≠ erasedLane s idx))
  | _ => []

/-! ## Counting (R291 to R293) -/

/-- Minute of module time. -/
def minuteOf (s : State) : Nat := s.now / 60000000000

/-- Hour count of a lane: its one-minute buckets of the last 60 (R292). -/
def hourBuckets (s : State) (r lane : Nat) : List (Nat × Nat) :=
  (storeGet (fun _ => []) s.mem.hours (22 * r + lane)).filter (fun p => decide (minuteOf s < p.1 + 60))

/-- A lane's hour count. -/
def hourCount (s : State) (r lane : Nat) : Nat := ((hourBuckets s r lane).map (·.2)).sum

/-- Count a correction of a lane in its present minute. -/
def countHour (s : State) (r lane : Nat) : State :=
  let m := minuteOf s
  let bs := hourBuckets s r lane
  let bs' := match bs.find? (fun p => decide (p.1 = m)) with
    | some _ => bs.map (fun p => if p.1 = m then (m, p.2 + 1) else p)
    | none => bs ++ [(m, 1)]
  { s with mem := { s.mem with hours := storeSet (fun _ => []) s.mem.hours (22 * r + lane) bs' } }

/-- SOURCE of a log entry (Table MEM-3). -/
def memSourceCode : MemSource → Nat
  | .requester => 0 | .background => 1 | .idle => 2 | .modify => 3 | .copy => 4

/-- The entry a full log gives up: the lowest COUNT, and of those the oldest LAST (R292). -/
def logVictim : List MemLogEntry → Option MemLogEntry
  | [] => none
  | e :: es => match logVictim es with
    | some v => if v.count < e.count ∨ (v.count = e.count ∧ v.last < e.last) then some v else some e
    | none => some e

/-- Enter a correction in the log (R292). -/
def logCorrection (s : State) (idx : Nat) (lanes : List Nat) (cls : Nat) (src : MemSource) : State :=
  let r := regionOf idx
  let hit (e : MemLogEntry) : Bool := decide (e.region = r) && decide (e.word = idx)
  let new : MemLogEntry := { region := r, word := idx, lane1 := lanes.getD 0 0, lane2 := lanes.getD 1 0xFF, cls := cls,
                             source := memSourceCode src, count := 1, first := s.now, last := s.now }
  if s.mem.log.any hit then
    { s with mem := { s.mem with log := s.mem.log.map (fun e => if hit e then { e with count := min (e.count + 1) 4294967295, last := s.now } else e) } }
  else if s.mem.log.length < 16 then { s with mem := { s.mem with log := s.mem.log ++ [new] } }
  else match logVictim s.mem.log with
    | some v => memRaise { s with mem := { s.mem with log := s.mem.log.map (fun e => if e = v then new else e) } } 5
    | none => s

/-- Ask Gourd for the 250 ms claim of an accelerated pass (R291). -/
def askAccel (s : State) (r : Nat) : State := askLogic s .c3 0x8 200 (some 250000) (.scrubAccel r)

/-- An accelerated pass of a region starts, unless one runs or ACCEL_EN is 0 (R291). -/
def startAccel (s : State) (r : Nat) : State :=
  if bit s.mem.passCfg 8 && (region s r).accel.isNone then
    askAccel (setRegion s r { region s r with accel := some s.now }) r
  else s

/-- More than 16 corrections of a region within 1 s start its accelerated pass (R291). -/
def noteRecent (s : State) (r : Nat) : State :=
  let x := region s r
  let recent := s.now :: x.recent.filter (fun t => decide (s.now < t + 1000000000))
  let s1 := setRegion s r { x with recent := recent.take 17 }
  if 16 < recent.length then startAccel s1 r else s1

/-! ## Lanes (R293 to R295) -/

/-- A region whose lane is being copied, if any: one bring-in of the island at a time (R299). -/
def copyingRegion (s : State) : Option Nat := (List.range 4).find? (fun r => (region s r).copying.isSome)

/-- Start the copy of a region that waits for it: one bring-in of the island at a time, an MRAM remap among them (R294, R299). -/
def startCopies (s : State) : State :=
  match copyingRegion s with
  | some _ => s
  | none => match (List.range 4).find? (fun r => s.mem.remapping.isNone && (region s r).retired.isSome && !(region s r).spareIn) with
    | some r => setRegion s r { region s r with copying := some 0 }
    | none => s

/-- A lane is erased for good: what follows depends on the role (R295). -/
def laneErased (s : State) (r lane : Nat) : State :=
  let s1 := post (memRaise (setRegion s r { region s r with erased := some lane }) 3) .noSpare r r lane 0
  let s2 := send s1 (.role { role := s1.pair.role })
  if hasStandby s2 then (if s2.pair.partnerNoSpare then s2 else startHandover s2 false true)
  else if decide (s2.pair.role = .alone) && bit s2.mem.passCfg 9 && decide (s2.exe.station = .run) then
    { s2 with exe := { s2.exe with stopPending := some .command } }
  else s2

/-- Retire a lane of a region (R293, R295): the first is replaced by lane 21, a further one erased, and the sprout record is written (R300). A
lane already out counts no more. -/
def retireLane (s : State) (r lane : Nat) : State :=
  let x := region s r
  if x.retired = some lane ∨ x.erased.isSome then s
  else
    let s1 := post (memRaise s 1) .memLaneRetired r r lane 0
    match x.retired with
    | none => if lane = 21 then s1
              else writeSproutRecord (startCopies (setRegion s1 r { x with retired := some lane, spareIn := false, copying := none }))
    | some _ => writeSproutRecord (laneErased (exhausted s1 1) r lane)

/-- The symbols that stayed wrong after the write-back: hard faults on two codewords of the region within 1 s retire the lane (R293). -/
def hardFault (s : State) (idx lane : Nat) : State :=
  let r := regionOf idx
  let x := region s r
  let kept := x.hard.filter (fun h => decide (s.now < h.1 + 1000000000))
  let s1 := setRegion s r { x with hard := (s.now, lane, idx) :: kept }
  if kept.any (fun h => decide (h.2.1 = lane) && decide (h.2.2 ≠ idx)) then retireLane s1 r lane else s1

/-- The holding register of a region's count of corrections. -/
def corrCounter (r : Nat) : Nat := Reg.memSnapCorr0 + 4 * (r % 4)

/-- A correction of codeword `idx` on these lanes (R292, R293). -/
def countCorrection (s : State) (idx : Nat) (lanes : List Nat) (erased : Bool) (src : MemSource) : State :=
  let r := regionOf idx
  let cls := if erased then 3 else if lanes.length = 1 then 1 else 2
  let s1 := logCorrection (countUp (memRaise s 0) (corrCounter r) 0) idx lanes cls src
  let s2 := noteRecent (lanes.foldl (fun t l => countHour t r l) s1) r
  lanes.foldl (fun t l => if 64 < hourCount t r l then retireLane t r l else t) s2

/-- The five syndromes of a failed word, as the fault record keeps them. -/
def syndromeWord (s : State) (idx : Nat) (w : List Byte) : Nat :=
  let v := rsVirtual idx ++ nats (codeSymbols s idx w)
  ((List.range 5).map (fun j => rsSyndrome v j * 256 ^ j)).sum

/-- Read codeword `idx`: the cells' upsets, decoding, the write-back of a correction, its count, and the module fault of an
uncorrectable word (R284 to R286, R292, R293). Answers the data, none for a faulted read. -/
def readWord16 (s : State) (idx : Nat) (u : MemUpset) (src : MemSource) : State × Option (List Nat) :=
  let stored := flipWord (memWord s idx) u.flips
  let s1 := setMemWord s idx stored
  let seen := match u.wrong with
    | some k => memWord s1 k
    | none => stored
  match decodeWord s1 idx seen with
  | .clean => (s1, some (correctedData s1 idx seen .clean))
  | .failed => (moduleFault s1 .memory (wordAddr idx) (regionOf idx) (syndromeWord s1 idx seen), none)
  | .errors es =>
    let data := correctedData s1 idx seen (.errors es)
    let lanes := (correctedLanes s1 idx (.errors es)).map (physicalLane s1 idx)
    let fresh := laneSymbols idx data (region s1 (regionOf idx)).retired
    let kept := u.stuck.foldl (fun w l => modAt w l.val (fun b => if (seen.getD l.val 0) = b then b else seen.getD l.val 0)) fresh
    let s2 := setMemWord s1 idx kept
    if lanes.isEmpty then (s2, some data)
    else
      let s3 := countCorrection s2 idx lanes (erasedLane s1 idx).isSome src
      ((lanes.filter (fun l => u.stuck.any (fun k => decide (k.val = l)))).foldl (fun t l => hardFault t idx l) s3, some data)

end Sys2Proof.Machine
end

