-- ==== Sys2Proof/Machine/Memory.lean ====
section
/-! DEFINITION. Machine/Memory.lean: the memory and integrity island: reads, narrow writes, scrubbers, the lane copy, the hour counts and
MRAM (R282 to R297, R306). -/
namespace Sys2Proof.Machine
open Sys2Proof

/-! ## Reads and writes -/

/-- What a requester's access is given; with none it ends in HUSKED (R13, R285). -/
def answered (s : State) (a : Option (List Byte)) : State := { s with mem := { s.mem with answer := a } }

/-- MEMORY_READ (R284, R285): a requester reads a codeword. -/
def execMemoryRead (word : Fin 3670016) (u : MemUpset) (s : State) : Host.Outcome State Fault Refusal :=
  let r := readWord16 s word.val u .requester
  .next (answered r.1 (r.2.map bytes))

/-- The 16 data bytes `old` of the codeword at byte address `lo` with those that a write at `addr` covers replaced (R287). -/
def mergeBytes (addr : Nat) (data : List Byte) (lo : Nat) (old : List Nat) : List Nat :=
  old.zipIdx.map (fun p => if addr ≤ lo + p.2 ∧ lo + p.2 < addr + data.length then (data.getD (lo + p.2 - addr) 0).toNat else p.1)

/-- A write of 16 aligned bytes, which is encoded and stored directly; every other one is read-modify-write (R287). -/
def wholeWord (addr : Nat) (data : List Byte) : Bool := decide (addr % 16 = 0) && decide (data.length = 16)

/-- Store data in codeword `idx`, its retired lane's symbol in lane 21 as well (R294). -/
def storeWord (s : State) (idx : Nat) (d : List Nat) : State := setMemWord s idx (laneSymbols idx d (region s (regionOf idx)).retired)

/-- Write the bytes that fall into codeword `idx`: a write of 16 aligned bytes is stored; any other reads, merges and stores, and stores
nothing and ends in HUSKED when the read fails (R285, R287). -/
def writeWord16 (addr : Nat) (data : List Byte) (u : MemUpset) (s : State) (idx : Nat) : State :=
  if wholeWord addr data then storeWord s idx (mergeBytes addr data (16 * idx) (List.replicate 16 0))
  else match readWord16 s idx u .modify with
    | (t, some d) => storeWord t idx (mergeBytes addr data (16 * idx) d)
    | (t, none) => answered t none

/-- MEMORY_WRITE (R287): a write to SRAM at a byte address across the regions; bytes past the SRAM are dropped. -/
def execMemoryWrite (addr : Nat) (data : List Byte) (u : MemUpset) (s : State) : Host.Outcome State Fault Refusal :=
  if data.isEmpty then .next s
  else
    let first := addr / 16
    let count := (addr + data.length - 1) / 16 + 1 - first
    let words := ((List.range count).map (fun i => first + i)).filter (fun i => decide (i < 3670016))
    .next (words.foldl (writeWord16 addr data u) (answered s (some [])))

/-! ## Scrubbers (R289 to R291) -/

/-- The last claim of a running accelerated pass has ended, so the next one is asked for (R291). -/
def renewAccel (s : State) (r : Nat) : State :=
  match (region s r).accel with
  | some t => if t + 250000000 ≤ s.now then askAccel (setRegion s r { region s r with accel := some s.now }) r else s
  | none => s

/-- SCRUB_STEP (R289, R290): the background engine, or the idle-cycle scrubber in image memory, reads its next codeword. A pass
restarts at index 0 with the settings written before it. -/
def execScrubStep (r : Fin 4) (u : MemUpset) (s : State) : Host.Outcome State Fault Refusal :=
  let at_ := storeGet (fun _ => 0) s.mem.scrubAt r.val
  let src : MemSource := if r.val = 0 then .idle else .background
  let s1 := (readWord16 (renewAccel s r.val) (regionBase r.val + at_) u src).1
  let next := (at_ + 1) % regionSize r.val
  let m := { s1.mem with scrubAt := storeSet (fun _ => 0) s1.mem.scrubAt r.val next }
  .next { s1 with mem := { m with passCfg := if next = 0 ∧ r.val ≠ 0 then reg s1 Reg.memScrubCfg 0 else m.passCfg } }

/-- Raise the lap alarm (R290). -/
def lapAlarm (s : State) : State :=
  post (memRaise { s with mem := { s.mem with lapAlarm := true, lapRaised := true } } 4) .scrubLapAlarm 0
    ((s.now - s.mem.lapStart) / 1000000) (field s.mem.lapCfg 31 16) 0

/-- IMAGE_SCRUB_LAP (R290): a lap of image memory is complete. -/
def execImageScrubLap (s : State) : Host.Outcome State Fault Refusal :=
  let ms := (s.now - s.mem.lapStart) / 1000000
  let long := decide (field s.mem.lapCfg 31 16 * 1000000 < s.now - s.mem.lapStart)
  let s1 := if long then (if s.mem.lapRaised then s else lapAlarm s) else { s with mem := { s.mem with lapAlarm := false } }
  .next { s1 with mem := { s1.mem with lapMs := min ms 4294967295, lapStart := s.now, lapRaised := false
                                       lapCfg := reg s1 Reg.memScrubCfg 0
                                       scrubAt := storeSet (fun _ => 0) s1.mem.scrubAt 0 0 } }

/-- SCRUB_LAP_ALARM (R290): a lap still runs at 2 × LAP_LIMIT. -/
def execScrubLapAlarm (s : State) : Host.Outcome State Fault Refusal :=
  if s.mem.lapRaised then .next s else .next (lapAlarm s)

/-- ACCEL_PASS_DONE (R291): the accelerated pass of a region ends, and its claim with it. -/
def execAccelPassDone (r : Fin 4) (s : State) : Host.Outcome State Fault Refusal :=
  if (region s r.val).accel.isSome then .next (endClaim (setRegion s r.val { region s r.val with accel := none, recent := [] }) (.scrubAccel r.val))
  else .next s

/-! ## MRAM (R296, R297) -/

/-- Bytes of the mapped areas (Table MEM-6). -/
def mramMapped : Nat := 62912 * 4096

/-- Spare blocks still free. -/
def mramFree (s : State) : Nat := 2624 - s.mem.remap.length

/-- The physical block that serves a mapped block: its newest entry in the remap table, else itself. -/
def mramBlock (s : State) (b : Nat) : Nat := ((s.mem.remap.reverse.find? (fun e => decide (e.2 = b))).map (·.1)).getD b

/-- The physical codeword that serves mapped codeword `i`. DEDUCED: the MRAM address that is folded into its check bytes is that of the
physical blocks (log 147). -/
def mramIndex (s : State) (i : Nat) : Nat := 256 * mramBlock s (i / 256) + i % 256

/-- The symbols of a physical MRAM codeword. -/
def mramSymbols (s : State) (k : Nat) : List Byte := storeGet mramFresh s.mem.mram k

/-- The corrected data of a physical codeword, none where it is uncorrectable (R282, R284, R296). -/
def mramDecode (k : Nat) (w : List Byte) : Option (List Nat) :=
  match rsDecode (rsVirtual k ++ nats w) none with
  | .clean => some ((nats w).take 16)
  | .failed => none
  | .errors es => some ((es.foldl (fun (ws : List Nat) (e : Nat × Nat) => modAt ws (e.1 - 3) (fun v => v ^^^ e.2)) (nats w)).take 16)

/-- The byte of the mapped areas at an address, as a read of it finds it. -/
def mramByte (s : State) (a : Nat) : Byte :=
  let k := mramIndex s (a / 16)
  BitVec.ofNat 8 (((mramDecode k (mramSymbols s k)).getD []).getD (a % 16) 0)

/-- Store the data of a physical codeword. -/
def mramSet (s : State) (k : Nat) (d : List Nat) : State :=
  { s with mem := { s.mem with mram := storeSet mramFresh s.mem.mram k (bytes (rsEncode k d)) } }

/-- An uncorrectable MRAM read: a module fault with the codeword's address and syndromes, in the region after those of SRAM (R285, R297;
log 147). -/
def mramLost (s : State) (k : Nat) : State :=
  let v := rsVirtual k ++ nats (mramSymbols s k)
  moduleFault s .mram (16 * k) 4 (((List.range 5).map (fun j => rsSyndrome v j * 256 ^ j)).sum)

/-- Write the bytes that fall into mapped codeword `i` (R287, R296). -/
def mramWord (addr : Nat) (data : List Byte) (s : State) (i : Nat) : State :=
  let k := mramIndex s i
  if wholeWord addr data then mramSet s k (mergeBytes addr data (16 * i) (List.replicate 16 0))
  else match mramDecode k (mramSymbols s k) with
    | some d => mramSet s k (mergeBytes addr data (16 * i) d)
    | none => mramLost s k

/-- Store bytes in the mapped areas, codeword by codeword; bytes past them are dropped. -/
def mramPut (s : State) (addr : Nat) (data : List Byte) : State :=
  if data.isEmpty then s
  else
    let first := addr / 16
    let words := (List.range ((addr + data.length - 1) / 16 + 1 - first)).map (fun i => first + i)
    (words.filter (fun i => decide (i < mramMapped / 16))).foldl (mramWord addr data) s

/-- A capture's write to MRAM failed, which its owner is told (R98, R297). -/
def mramFailed (s : State) (use : MramUse) : State :=
  let s1 := post (memRaise s 9) .mramWriteFailed 0 0 0 0
  match use with
  | .capture c => setCap s1 c.val { cap s1 c.val with truncated := true }
  | .sequence => s1
  | .plain => s1

/-- A write reaches block `b`. -/
def MramWait.reaches (x : MramWait) (b : Nat) : Bool :=
  decide (x.addr / 4096 ≤ b) && decide (b ≤ (x.addr + x.data.length - 1) / 4096)

/-- Two writes reach a common block. -/
def MramWait.meets (x y : MramWait) : Bool := x.reaches (y.addr / 4096) || y.reaches (x.addr / 4096)

/-- A write waits: for the remap of a block that it reaches (R296), behind a write that waits for one, or, needing a remap itself, for the
island's bring-in in progress (R299). -/
def mramWaits (s : State) (x : MramWait) : Bool :=
  s.mem.waiting.any x.meets ||
    (if x.verifies then (s.mem.remapping.map (fun p => x.reaches p.1)).getD false
     else s.mem.remapping.isSome || (copyingRegion s).isSome)

/-- A write to MRAM, read back to verify: a block that fails is remapped, or with no spare left the write fails (R296, R297). -/
def mramWrite (s : State) (x : MramWait) : State :=
  if mramWaits s x then { s with mem := { s.mem with waiting := s.mem.waiting ++ [x] } }
  else if x.verifies then mramPut s x.addr x.data
  else if mramFree s = 0 then mramFailed (exhausted s 5) x.use
  else askWrite { s with mem := { s.mem with remapping := some (x.addr / 4096, x.addr, x.data) } } 0x8 2000
    (.mramRemap (decide (x.use = .sequence)))

/-- MRAM_WRITE (R296, R297). -/
def execMramWrite (use : MramUse) (addr : Nat) (data : List Byte) (verifies : Bool) (s : State) : Host.Outcome State Fault Refusal :=
  .next (mramWrite s { use := use, addr := addr, data := data, verifies := verifies })

/-- The writes that waited for a remap or a copy go on, in their order. -/
def resumeWrites (s : State) : State := s.mem.waiting.foldl mramWrite { s with mem := { s.mem with waiting := [] } }

/-- The remap's claim still waits at Gourd (R296, R481). -/
def remapWaits (s : State) : Bool :=
  s.grd.c2.any (fun r => decide (r.purpose = .mramRemap false) || decide (r.purpose = .mramRemap true))

/-- A codeword of the block being remapped goes into the spare block, corrected and encoded anew; the copy's verify finds what was
written (R296). -/
def copyMramWord (from_ to_ : Nat) (s : State) (p : Nat × List Byte) : State :=
  if p.1 / 256 = from_ then
    match mramDecode p.1 p.2 with
    | some d => mramSet s (256 * to_ + p.1 % 256) d
    | none => mramLost s p.1
  else s

/-- MRAM_REMAP (R296): once its claim does not wait, the spare block holds the old codewords and the new data, and both copies of the
remap table its entry; the writes that waited follow. -/
def execMramRemap (s : State) : Host.Outcome State Fault Refusal :=
  match s.mem.remapping with
  | none => .next s
  | some (block, addr, data) =>
    if remapWaits s then .next s
    else if mramFree s = 0 then .next (resumeWrites (mramFailed { s with mem := { s.mem with remapping := none } } .plain))
    else
      let spare := 62912 + s.mem.remap.length
      let s0 := s.mem.mram.foldl (copyMramWord (mramBlock s block) spare) s
      let s1 := mramPut { s0 with mem := { s0.mem with remapping := none, remap := s0.mem.remap ++ [(spare, block)] } } addr data
      let s2 := post (memRaise (sprouted (endClaim (endClaim s1 (.mramRemap false)) (.mramRemap true))) 7) .mramRemap 0 block spare 0
      .next (startCopies (resumeWrites (if mramFree s2 < 64 then post (memRaise s2 8) .mramSparesLow 0 (mramFree s2) 64 0 else s2)))

/-! ## The lane copy (R294) -/

/-- LANE_COPY_STEP (R294): the codeword at the pointer is decoded, lane 21 takes the retired lane's symbol, the pointer advances. -/
def execLaneCopyStep (r : Fin 4) (u : MemUpset) (s : State) : Host.Outcome State Fault Refusal :=
  match (region s r.val).copying with
  | none => .next s
  | some p =>
    if regionSize r.val ≤ p then .next s
    else
      let idx := regionBase r.val + p
      match readWord16 s idx u .copy with
      | (t, none) => .next t
      | (t, some d) =>
        let w := memWord t idx
        let spare := (laneSymbols idx d (region t r.val).retired).getD 21 0
        .next (setRegion (setMemWord t idx (w.set 21 spare)) r.val { region t r.val with copying := some (p + 1) })

/-- LANE_COPY_DONE (R294): the copy has reached the region's end: lane 21 is in service, and the accelerated pass starts. -/
def execLaneCopyDone (r : Fin 4) (s : State) : Host.Outcome State Fault Refusal :=
  if (region s r.val).copying = some (regionSize r.val) then
    let s1 := setRegion s r.val { region s r.val with copying := none, spareIn := true }
    let s2 := post (sprouted (memRaise s1 2)) .memLaneSprouted r.val r.val (((region s r.val).retired).getD 0) 0
    .next (startAccel (startCopies (resumeWrites s2)) r.val)
  else .next s

/-- HOUR_COUNT_TICK (R292): the one-minute buckets older than an hour leave the counts. -/
def execHourCountTick (s : State) : Host.Outcome State Fault Refusal :=
  let live := s.mem.hours.map (fun p => (p.1, p.2.filter (fun b => decide (minuteOf s < b.1 + 60))))
  .next { s with mem := { s.mem with hours := live.filter (fun p => decide (p.2 ≠ [])) } }

/-! ## Registers and reads (R306, R322) -/

/-- MEM_STAT (R306). -/
def memStat (s : State) : Word :=
  let code (r : Nat) : Nat :=
    let x := region s r
    if x.erased.isSome then 3 else if x.spareIn then 2 else if x.copying.isSome || x.retired.isSome then 1 else 0
  fieldWord 20 16 s.mem.log.length ||| fieldWord 8 8 (b2n s.mem.lapAlarm)
    ||| fieldWord 7 0 (code 0 + 4 * code 1 + 16 * code 2 + 64 * code 3)

/-- MEM_LANE (R306). -/
def memLane (s : State) : Word :=
  let one (r : Nat) : Nat :=
    let x := region s r
    x.retired.getD 31 + 32 * b2n x.spareIn + 64 * b2n x.copying.isSome + 128 * b2n x.erased.isSome
  word (one 0 + 256 * one 1 + 65536 * one 2 + 16777216 * one 3)

/-- MEM_COPY (R306). -/
def memCopy (s : State) : Word :=
  match copyingRegion s with
  | some r => fieldWord 31 30 r ||| fieldWord 21 0 (regionSize r - (region s r).copying.getD 0)
  | none => 0

/-- MEM_MRAM (R306). -/
def memMram (s : State) : Word := fieldWord 31 16 s.mem.remap.length ||| fieldWord 15 0 (mramFree s)

/-- SEC low 32 bits and NSEC of a time. -/
def stampBytes (t : Nat) : List Byte := leBytes 4 (t / 1000000000) ++ leBytes 4 (t % 1000000000)

/-- A log entry as its 32 bytes (Table MEM-3). -/
def memLogBytes (e : MemLogEntry) : List Byte :=
  leBytes 4 (wordAddr e.word) ++ leBytes 1 e.lane1 ++ leBytes 1 e.lane2 ++ leBytes 1 e.cls ++ leBytes 1 e.source
    ++ leBytes 4 e.count ++ stampBytes e.first ++ stampBytes e.last ++ leBytes 4 0

/-- The log's 16 entries; a free one reads 0. -/
def memLogAll (s : State) : List Byte :=
  let bs := s.mem.log.flatMap memLogBytes
  bs ++ List.replicate (512 - bs.length) 0

/-- A byte of the memory island's window (R306): the log, the hour counts, the remap table. -/
def memWindowByte (s : State) (a : Nat) : Byte :=
  if a < 0x200 then (memLogAll s).getD a 0
  else if 0x200 ≤ a ∧ a < 0x2B0 then
    let l := (a - 0x200) / 2
    BitVec.ofNat 8 (min (hourCount s (l / 22) (l % 22)) 65535 / (if a % 2 = 0 then 1 else 256))
  else if 0x1000 ≤ a ∧ a < 0x3900 then
    match s.mem.remap[(a - 0x1000) / 4]? with
    | some e => BitVec.ofNat 8 ((e.1 * 65536 + e.2) / 256 ^ (a % 4))
    | none => 0
  else 0

/-- MEMLOG_READ (0x0E03, R292). -/
def execMemlogRead (c : Ctx) (s : State) : Host.Outcome State Fault Refusal :=
  .next (command s c 0x0E03 0x8 (.memlogRead c) true (fun s => ok s c 0x0E03 (memLogAll s)))

/-- MEMLOG_CLEAR (0x0E04, R292). -/
def execMemlogClear (c : Ctx) (s : State) : Host.Outcome State Fault Refusal :=
  .next (command s c 0x0E04 0x8 (.memlogClear c) true (fun s => ok { s with mem := { s.mem with log := [] } } c 0x0E04 []))

end Sys2Proof.Machine
end

