-- ==== Sys2Proof/Machine/DeviceCert.lean ====
section
/-! DEFINITION. Machine/DeviceCert.lean: the device certificate in DER (R4, R425), over the serial number and the order code that the module
holds. The encoding rules are those of X.509 (PRESUMED, log 117); what the manual does not give of it is free. -/
namespace Sys2Proof.Machine
open Sys2Proof

/-- A length in DER, below 65,536. -/
def derLength (n : Nat) : List Byte :=
  if n < 128 then [BitVec.ofNat 8 n]
  else if n < 256 then [0x81, BitVec.ofNat 8 n] else [0x82, BitVec.ofNat 8 (n / 256), BitVec.ofNat 8 n]

/-- A DER element of a tag. -/
def der (tag : Byte) (content : List Byte) : List Byte := tag :: derLength content.length ++ content

/-- The bytes of a text. -/
def asciiBytes (t : String) : List Byte := t.toList.map (fun c => BitVec.ofNat 8 c.toNat)

/-- `n` in `k` hexadecimal digits, most significant first. -/
def hexBytes (k n : Nat) : List Byte :=
  (List.range k).reverse.map (fun i =>
    let d := n / 16 ^ i % 16
    BitVec.ofNat 8 (if d < 10 then 48 + d else 55 + d))

/-- An INTEGER of 64 bits: the fewest bytes that hold it with a sign bit of 0. -/
def derNumber (n : Nat) : List Byte :=
  let b := ((leBytes 8 n).reverse).dropWhile (fun x => decide (x = 0))
  der 0x02 (match b with
    | [] => [0]
    | x :: _ => if 128 ≤ x.toNat then 0 :: b else b)

/-- One attribute of a name: its object identifier 2.5.4.`k` and its text. -/
def derAttribute (k : Byte) (text : List Byte) : List Byte := der 0x31 (der 0x30 (der 0x06 [0x55, 0x04, k] ++ der 0x0C text))

/-- The order code of the module as its certificate and its data sheet write it (R4, Table SCO-1). -/
def orderText (order : Nat) : List Byte := asciiBytes (if order = 1 then "BZ-PSC9-C" else "BZ-PSC9-S")

/-- The subject: CN, OU with the order code, and O (R425). -/
def deviceSubject (d : DeviceIdentity) : List Byte :=
  der 0x30 (derAttribute 0x03 (asciiBytes "PSC9-" ++ hexBytes 16 d.serial) ++ derAttribute 0x0B (orderText d.order)
    ++ derAttribute 0x0A (asciiBytes "Clozon"))

/-- ECDSA with SHA-384. -/
def derSignatureAlgorithm : List Byte := der 0x30 (der 0x06 [0x2A, 0x86, 0x48, 0xCE, 0x3D, 0x04, 0x03, 0x03])

/-- keyUsage digitalSignature, critical, and extKeyUsage serverAuth and clientAuth. -/
def deviceExtensions : List Byte :=
  let purpose (k : Byte) : List Byte := der 0x06 [0x2B, 0x06, 0x01, 0x05, 0x05, 0x07, 0x03, k]
  der 0xA3 (der 0x30 (der 0x30 (der 0x06 [0x55, 0x1D, 0x0F] ++ [0x01, 0x01, 0xFF] ++ der 0x04 [0x03, 0x02, 0x07, 0x80])
    ++ der 0x30 (der 0x06 [0x55, 0x1D, 0x25] ++ der 0x04 (der 0x30 (purpose 1 ++ purpose 2)))))

/-- The part of the certificate that the production CA signs. -/
def deviceCertBody (d : DeviceIdentity) : List Byte :=
  der 0x30 (der 0xA0 (derNumber 2) ++ derNumber d.serial ++ derSignatureAlgorithm ++ Config.caName
    ++ der 0x30 (Config.manufactured ++ der 0x18 (asciiBytes "99991231235959Z")) ++ deviceSubject d
    ++ der 0x30 (der 0x30 (der 0x06 [0x2A, 0x86, 0x48, 0xCE, 0x3D, 0x02, 0x01] ++ der 0x06 [0x2B, 0x81, 0x04, 0x00, 0x22])
        ++ der 0x03 (0x00 :: Config.devicePublicKey))
    ++ deviceExtensions)

/-- The device certificate in DER (R425). -/
def deviceCert (d : DeviceIdentity) : List Byte :=
  der 0x30 (deviceCertBody d ++ derSignatureAlgorithm ++ der 0x03 (0x00 :: Config.caSignature (deviceCertBody d)))

end Sys2Proof.Machine
end

