-- ==== Sys2Proof/Machine/NetSend.lean ====
section
/-! DEFINITION. Machine/NetSend.lean: handing frames to the ports: the redundancy trailer of the PRP pair (R349), the launch times that ordinary
frames keep clear of (R367), and the entries that are due (R366, R369). -/
namespace Sys2Proof.Machine
open Sys2Proof

/-- The next launch time of an entry that has not been served; none without a period. -/
def entryDue (s : State) (p i : Nat) : Option Nat :=
  let period := ttField s p i 8 8
  let phase := ttField s p i 16 4
  let start := max s.now s.net.launchFrom
  let t := if start ≤ phase then phase else phase + (start - phase + period - 1) / period * period
  if period = 0 then none
  else some (if storeGet (fun _ => none) (netPort s p).launched i = some t then t + period else t)

/-- The next launch time of a port. -/
def nextLaunch (s : State) (p : Nat) : Option Nat :=
  if owner s && decide ((netPort s p).schedule ≠ []) then ((ttEnabled s p).filterMap (entryDue s p)).min? else none

/-- The bytes of a frame from destination to FCS, the trailer of six bytes among them. What a message of the profile is long is PRESUMED from
its standard (log 153). -/
def NetSent.octets : NetSent → Nat
  | .supervision _ _ => 70
  | .beacon _ _ _ bytes => 52 + bytes.length
  | .ptp _ _ .announce _ _ => 82
  | .ptp .. | .followUp .. => 64
  | .delayResponse .. | .pdelayResponse .. | .pdelayFollowUp .. => 72
  | .launch _ _ t frame => frame.length + 4 + (if t.isSome then 6 else 0)
  | .arpReply .. => 70
  | .echoReply _ t n => max 60 n + 4 + (if t.isSome then 6 else 0)

/-- How long a frame of `n` bytes occupies a port, preamble and interframe gap with it, in ns (R367; log 153). -/
def frameNs (s : State) (p n : Nat) : Nat :=
  (20 + n) * 8 * (match (netPort s p).speed with
    | 3 => 1 | 2 => 10 | _ => 100)

/-- When a frame handed to the port now ends. -/
def frameEnd (s : State) (p : Nat) (f : NetSent) : Nat := max s.now (netPort s p).busy + frameNs s p f.octets

/-- The port starts a frame. -/
def startFrame (s : State) (p : Nat) (f : NetSent) : State :=
  let s1 := modNet s p (fun x => { x with busy := frameEnd s p f })
  { s1 with net := { s1.net with out := s1.net.out ++ [f] } }

/-- An ordinary frame joins those that wait; it starts where it ends before the port's next launch time and nothing waits before it (R367). -/
def offerFrame (s : State) (p : Nat) (f : NetSent) : State :=
  if (netPort s p).waiting = [] ∧ ((nextLaunch s p).map (fun t => decide (frameEnd s p f ≤ t))).getD true = true then startFrame s p f
  else modNet s p (fun x => { x with waiting := x.waiting ++ [f] })

/-- The frames that wait on a port are offered again in their order. -/
def flushPort (s : State) (p : Nat) : State :=
  (netPort s p).waiting.foldl (fun t f => offerFrame t p f) (modNet s p (fun x => { x with waiting := [] }))

/-- Hand an ordinary frame to a port, after those that wait there. -/
def sendFrame (s : State) (p : Nat) (f : NetSent) : State := offerFrame (flushPort s p) p f

/-- The trailer of the next frame of a port. -/
def trailerOf (s : State) (p : Nat) : Option Nat := if p < 2 then some s.net.prpSeq else none

/-- The ports that carry what is sent on port `p`: on the PRP pair both LANs (R349). -/
def lansOf (p : Nat) : List Nat := if p < 2 then [0, 1] else [p]

/-- The next frame of the PRP pair has the next sequence number. -/
def nextTrailer (s : State) (p : Nat) : State :=
  { s with net := { s.net with prpSeq := if p < 2 then (s.net.prpSeq + 1) % 65536 else s.net.prpSeq } }

/-- Send an ordinary frame that port `p` answers or makes: on the PRP pair on both LANs with one trailer (R349). -/
def sendOn (s : State) (p : Nat) (f : Nat → Option Nat → NetSent) : State :=
  nextTrailer ((lansOf p).foldl (fun t q => sendFrame t q (f q (trailerOf s p))) s) p

end Sys2Proof.Machine
end

