-- ==== Sys2Proof/Machine/Net.lean ====
section
/-! DEFINITION. Machine/Net.lean: the plant network and time unit's commands: links, frames, PRP, beacons and discovery, PTP, the servo,
time-triggered launch, and the opcode family 0x0Cxx (Plant Network, Discovery and Time). -/
namespace Sys2Proof.Machine
open Sys2Proof

/-! ## Links and frames (R346 to R350) -/

/-- A link report that the port's row of Table NET-1 allows. -/
def linkAllowed (p : Nat) (l : LinkReport) : Bool := l.fullDuplex && (if p < 2 then decide (l.speed = 3) else decide (l.speed ≠ 0))

/-- A LAN of the PRP pair is OK. -/
def lanOk (s : State) (b : Bool) : Bool := if b then s.net.lanB else s.net.lanA

/-- Set a LAN's state; the time from which frames count for its return starts again. -/
def setLan (s : State) (b on : Bool) : State :=
  if b then { s with net := { s.net with lanB := on, backB := none } } else { s with net := { s.net with lanA := on, backA := none } }

/-- A LAN is taken as failed (R350); with both failed, the servo has lost its master (Table NET-5). -/
def lanFails (s : State) (b : Bool) : State :=
  if lanOk s b then
    let s1 := post (netRaise (setLan s b false) 1) .prpLanFail (b2n b) (b2n b) 0 0
    if !s1.net.lanA && !s1.net.lanB && decide (s1.net.slave < 2) then slaveLost s1 s1.net.slave 2 else s1
  else s

/-- A port has no link: it forgets its masters, and a PRP port's LAN fails. -/
def portDown (s : State) (p : Nat) : State :=
  let x := netPort s p
  let s1 := setNetPort s p { x with linked := false, speed := 0, ptp := 0, masters := [], master := none, grandmaster := 0, syncWait := none
                                    forward := none, reqSent := none, delay := none, offset := none, pdelayWait := none, measured := 0, lastFrame := none }
  let s2 := slaveLost s1 p 2
  let s3 := if p = 0 then { s2 with net := { s2.net with backA := none } } else if p = 1 then { s2 with net := { s2.net with backB := none } } else s2
  if p < 2 then lanFails s3 (decide (p = 1)) else s3

/-- LINK_CHANGE (R346): a port links, loses its link, or links as its row does not allow and stays down, refused. A port that is not
enabled holds its PHY powered down. -/
def execLinkChange (port : Fin 4) (l : LinkReport) (s : State) : Host.Outcome State Fault Refusal :=
  let p := port.val
  if cfgField s Reg.netPortCfg p 0 0 = 0 then .next s
  else if !l.up then .next (if (netPort s p).linked then netRaise (portDown s p) 0 else s)
  else if linkAllowed p l then
    let s1 := modNet s p (fun x => { x with linked := true, speed := l.speed.toNat })
    .next (netRaise (modNet s1 p (fun x => { x with ptp := ptpState s1 p })) 0)
  else .next (post (netRaise (portDown s p) 0) .netLinkRefused p p l.speed.toNat (b2n l.fullDuplex))

/-- A received group frame that the storm limit counts (R348). -/
def stormCounts (f : EthFrame) : Bool :=
  f.group && (match f.kind with
    | .ptp => false | .prpSupervision => false | .beacon => false | _ => true)

/-- A duplicate of a frame received within the entry forget time of 400 ms (R349). -/
def isDuplicate (s : State) (f : EthFrame) : Bool :=
  match f.sequence with
  | some q => s.net.duplicates.any (fun d => decide (d.1 = f.source.toNat) && decide (d.2.1 = q.toNat) && decide (s.now < d.2.2 + 400000000))
  | none => false

/-- Note a frame's source and sequence: entries older than 400 ms and nodes older than 60 s are forgotten, and the node table holds 4,096
(R349). -/
def notePrp (s : State) (f : EthFrame) : State :=
  let dups := s.net.duplicates.filter (fun d => decide (s.now < d.2.2 + 400000000))
  let nodes := s.net.nodes.filter (fun d => decide (s.now < d.2 + 60000000000) && decide (d.1 ≠ f.source.toNat))
  { s with net := { s.net with
    duplicates := match f.sequence with
      | some q => dups ++ [(f.source.toNat, q.toNat, s.now)]
      | none => dups
    nodes := if nodes.length < 4096 then nodes ++ [(f.source.toNat, s.now)] else nodes } }

/-- The module's IPv4 address on the PRP pair (R347). -/
def ownAddress (s : State) : Nat := s.net.domainPrefix + 4096 + 2 * s.sup.stationId + b2n s.sup.sideB

/-- The IPv4 address of a port: the pair's on NET0 and NET1, the one that the NET section declares on a cell port (R347). -/
def portAddress (s : State) (p : Nat) : Nat := if p < 2 then ownAddress s else s.net.cellAddress.getD (p - 2) 0

/-- Deliver a frame; ARP and ICMP echo are answered on every port (R347). -/
def deliver (s : State) (p : Nat) (f : EthFrame) : State :=
  let s1 := { s with net := { s.net with delivered := s.net.delivered + 1 } }
  match f.kind with
  | .arp => sendOn s1 p (fun q t => .arpReply q t (portMac s p) (portAddress s p))
  | .icmpEcho => sendOn s1 p (fun q t => .echoReply q t f.octets)
  | _ => s1

/-- A port has carried a frame within the last second: a longer gap ends its span of frames (R350; log 150). -/
def carriesFrames (s : State) (p : Nat) : Bool := ((netPort s p).lastFrame.map (fun t => decide (s.now < t + 1000000000))).getD false

/-- The start of a failed LAN's span of frames, which a frame after a gap starts again (R350). -/
def spanFrom (s : State) (p : Nat) (since : Option Nat) : Option Nat := if since = none ∨ carriesFrames s p = false then some s.now else since

/-- A frame was seen on a port: a failed LAN's return is timed from the first frame of its span (R350). -/
def seenFrame (s : State) (p : Nat) : State :=
  let s1 := modNet s p (fun x => { x with lastFrame := some s.now })
  if p = 0 ∧ s1.net.lanA = false then { s1 with net := { s1.net with backA := spanFrom s 0 s.net.backA } }
  else if p = 1 ∧ s1.net.lanB = false then { s1 with net := { s1.net with backB := spanFrom s 1 s.net.backB } }
  else s1

/-- FRAME_RECEIVE (R348, R349): the storm limit, then duplicate discard on the PRP pair, then delivery. -/
def execFrameReceive (port : Fin 4) (f : EthFrame) (s : State) : Host.Outcome State Fault Refusal :=
  let p := port.val
  if !(netPort s p).linked then .next s
  else
    let s1 := seenFrame s p
    let second := s.now / 1000000000
    let n := if (netPort s1 p).stormSecond = second then (netPort s1 p).stormCount else 0
    if stormCounts f && decide (cfgField s1 Reg.netPortCfg p 17 4 ≤ n) then .next (netRaise (countUp s1 Reg.netSnapStorm p) 9)
    else
      let s2 := if stormCounts f then modNet s1 p (fun x => { x with stormSecond := second, stormCount := n + 1 }) else s1
      if p < 2 ∧ f.kind ≠ .ptp then (if isDuplicate s2 f then .next s2 else .next (deliver (notePrp s2 f) p f))
      else .next (deliver s2 p f)

/-- PRP_SUPERVISION_SEND (R349): on both LANs with one sequence number. -/
def execPrpSupervisionSend (s : State) : Host.Outcome State Fault Refusal :=
  .next (sendOn s 0 .supervision)

/-- No frame has come on a port for 3 s while frames come on the other of the pair (R350). -/
def lanSilent (s : State) (p : Nat) : Bool :=
  let recent (q : Nat) : Bool := match (netPort s q).lastFrame with
    | some t => decide (s.now < t + 3000000000)
    | none => false
  !recent p && recent (1 - p)

/-- PRP_LAN_FAIL (R350). -/
def execPrpLanFail (lanB : Bool) (s : State) : Host.Outcome State Fault Refusal :=
  if !(netPort s (b2n lanB)).linked || lanSilent s (b2n lanB) then .next (lanFails s lanB) else .next s

/-- PRP_LAN_OK (R350): a failed LAN has carried frames for 1 s. -/
def execPrpLanOk (lanB : Bool) (s : State) : Host.Outcome State Fault Refusal :=
  let since := if lanB then s.net.backB else s.net.backA
  match since with
  | some t =>
    if lanOk s lanB = false ∧ t + 1000000000 ≤ s.now ∧ (netPort s (b2n lanB)).linked = true ∧ carriesFrames s (b2n lanB) = true then
      .next (post (setLan s lanB true) .prpLanOk (b2n lanB) (b2n lanB) 0 0)
    else .next s
  | none => .next s

/-! ## Discovery (R351 to R353) -/

/-- The payload of the beacon before its signature (Table NET-2). -/
def beaconPayload (s : State) (cert : Bool) : List Byte :=
  let der := if cert then deviceCert s.tru.device else []
  leBytes 4 0x5A1B4243 ++ leBytes 2 1 ++ leBytes 2 s.sup.stationId
    ++ leBytes 1 (b2n s.sup.sideB + 2 * roleCode s.pair.role + 16 * stationCode s.exe.station + 64 * b2n (owner s))
    ++ leBytes 1 s.net.servo.ctorIdx ++ leBytes 2 der.length
    ++ leBytes 8 s.tru.device.serial ++ leBytes 8 s.sup.carrier
    ++ leBytes 16 ((s.exe.image.map (fun im => im.header.programId)).getD 0) ++ leBytes 4 (ownAddress s)
    ++ leBytes 8 (sec s) ++ leBytes 4 (nsec s) ++ (sha384 (deviceCert s.tru.device)).take 16 ++ der

/-- BEACON_SEND (R351): every 60th beacon carries the certificate; a module in OFFLINE sends none, nor one whose key self-test failed
(R426). -/
def execBeaconSend (signature : List Byte) (s : State) : Host.Outcome State Fault Refusal :=
  if s.pair.role = .offline ∨ s.tru.keyOk = false then .next s
  else
    let cert := decide ((s.net.beacons + 1) % 60 = 0)
    let b := beaconPayload s cert ++ signature
    .next (countUp (sendOn { s with net := { s.net with beacons := s.net.beacons + 1 } } 0 (fun q t => .beacon q t cert b)) Reg.truSnapSign 0)

/-- A beacon is rejected: counted and flagged (R352). -/
def rejectBeacon (s : State) : State := netRaise (countUp s Reg.netSnapBeaconrej 0) 2

/-- A station's discovery entry. -/
def stationEntry (s : State) (i : Nat) : StationEntry := storeGet (fun _ => {}) s.net.stations i

/-- Replace a station's discovery entry. -/
def setStation (s : State) (i : Nat) (e : StationEntry) : State :=
  { s with net := { s.net with stations := storeSet (fun _ => {}) s.net.stations i e } }

/-- The carriers that the records of a station name; the module's own counts for its own station. -/
def stationCarriers (s : State) (i : Nat) (e : StationEntry) : List Nat :=
  (e.first.map (·.beacon.carrier)).toList ++ (e.second.map (·.beacon.carrier)).toList
    ++ (if s.sup.stationValid && decide (s.sup.stationId = i) then [s.sup.carrier] else [])

/-- Enter an accepted beacon's record into the discovery table (R353). -/
def enterRecord (s : State) (b : Beacon) : State :=
  let i := b.stationId.toNat
  let e := stationEntry s i
  let r : ModuleRecord := { beacon := b, heard := s.now }
  let own (x : Option ModuleRecord) : Bool := (x.map (fun y => decide (y.beacon.serial = b.serial))).getD false
  let e1 : StationEntry :=
    if own e.first || (e.first.isNone && !own e.second) then { e with first := some r }
    else if own e.second || e.second.isNone then { e with second := some r }
    else e
  let clash := (stationCarriers s i e).any (fun c => decide (c ≠ b.carrier))
  let s1 := setStation s i { e1 with conflict := e.conflict || clash }
  if clash then
    let s2 := post s1 .stationIdConflict 0 i (b.carrier % 4294967296) (b.serial % 4294967296)
    if i = s.sup.stationId then netRaise s2 3 else s2
  else s1

/-- SENT of a beacon later than that of the module's last accepted one. -/
def sentLater (s : State) (b : Beacon) : Bool :=
  match s.net.lastSent.find? (fun x => decide (x.1 = b.serial)) with
  | some x => decide (x.2.1 < b.sentSec) || (decide (x.2.1 = b.sentSec) && decide (x.2.2 < b.sentNsec))
  | none => true

/-- The trust element verifies a signature: counted, and counted as failed where it does not hold (R438). -/
def verifySignature (s : State) (holds : Bool) : State :=
  let s1 := countUp s Reg.truSnapVerify 0
  if holds then s1 else countUp s1 Reg.truSnapFail 0

/-- Judge a beacon whose certificate is known and good (R352). -/
def judgeBeacon (s0 : State) (b : Beacon) : State :=
  let s := verifySignature s0 b.signatureOk
  if b.signatureOk && sentLater s b then
    let s1 := { s with net := { s.net with lastSent := s.net.lastSent.filter (fun x => decide (x.1 ≠ b.serial)) ++ [(b.serial, b.sentSec, b.sentNsec)] } }
    enterRecord s1 b
  else rejectBeacon s

/-- BEACON_RECEIVE (R352): a beacon without a known certificate is held; a certificate beacon releases those that waited for it. -/
def execBeaconReceive (b : Beacon) (s : State) : Host.Outcome State Fault Refusal :=
  let cached := s.net.cache.contains b.fingerprint
  if !b.hasCert && !cached then
    .next { s with net := { s.net with heldBeacons := s.net.heldBeacons ++ [(b, s.now)] } }
  else if !b.certOk then .next (rejectBeacon s)
  else
    let waited := s.net.heldBeacons.filter (fun h => decide (h.1.fingerprint = b.fingerprint))
    let s1 := { s with net := { s.net with
      cache := if cached then s.net.cache else (b.fingerprint :: s.net.cache).take 4096
      heldBeacons := s.net.heldBeacons.filter (fun h => decide (h.1.fingerprint ≠ b.fingerprint)) } }
    .next (judgeBeacon (waited.foldl (fun t h => judgeBeacon t h.1) s1) b)

/-- BEACON_HOLD_EXPIRY (R352): a module's beacons held for 60 s are discarded; none was accepted, so each counts as rejected. -/
def execBeaconHoldExpiry (serial : Nat) (s : State) : Host.Outcome State Fault Refusal :=
  let old (h : Beacon × Nat) : Bool := decide (h.1.serial = serial) && decide (h.2 + 60000000000 ≤ s.now)
  .next ((s.net.heldBeacons.filter old).foldl (fun t _ => rejectBeacon t)
    { s with net := { s.net with heldBeacons := s.net.heldBeacons.filter (fun h => !old h) } })

/-- DISCOVERY_RECORD_EXPIRY (R353): a module record goes 5 s after its last accepted beacon; CONFLICT stays while the records left differ. -/
def execDiscoveryRecordExpiry (serial : Nat) (s : State) : Host.Outcome State Fault Refusal :=
  let keep (r : ModuleRecord) : Bool := !(decide (r.beacon.serial = serial) && decide (r.heard + 5000000000 ≤ s.now))
  let f (t : State) (p : Nat × StationEntry) : State :=
    let e : StationEntry := { p.2 with first := p.2.first.filter keep, second := p.2.second.filter keep }
    if e = p.2 then t
    else
      let cs := stationCarriers t p.1 e
      setStation t p.1 { e with conflict := p.2.conflict && cs.any (fun c => some c ≠ cs.head?) }
  .next (s.net.stations.foldl f s)

/-! ## PTP (R354 to R359) -/

/-- NET_ASYM of a port in force. -/
def asymmetry (s : State) (p : Nat) : Int := (cfg s Reg.netAsym p).toInt

/-- Send a PTP message of a port: without a trailer, and on that port alone (R349). -/
def sendPtp (s : State) (p : Nat) (f : Nat → Nat → NetSent) : State := sendFrame s p (f p (clockIdentity s))

/-- A Sync and its delay give an offset: the master's time less the module's (R358). -/
def takeOffset (s : State) (p : Nat) (forward : Int) : State :=
  modNet s p (fun x => match x.delay with
    | some d => { x with forward := some forward, offset := some (d + asymmetry s p - forward), measured := x.measured + 1 }
    | none => { x with forward := some forward })

/-- The port measures delay by request and response. -/
def requestResponse (s : State) (p : Nat) : Bool := decide (cfgField s Reg.netPortCfg p 2 2 = 0)

/-- An Announce message of a master: kept with the times of the last two (R354). -/
def takeAnnounce (s : State) (p : Nat) (a : Announce) : State :=
  modNet s p (fun x =>
    let old := (x.masters.find? (fun m => decide (m.data.source = a.source))).map (·.seen)
    let m : PtpMaster := { data := a, seen := (s.now :: old.getD []).take 2 }
    { x with masters := x.masters.filter (fun m => decide (m.data.source ≠ a.source)) ++ [m] })

/-- A PTP message on a port that takes part, in the module's domain. The turnaround that a Pdelay_Resp_Follow_Up states, from the request's
receive time to the response's send time, is free (log 151). -/
def takePtp (s : State) (p : Nat) (m : PtpMessage) : State :=
  let x := netPort s p
  let mine (source : Nat) : Bool := decide (x.master = some source)
  match m.body with
  | .announce a => if masterOnly s p then s else takeAnnounce s p a
  | .sync source sequence twoStep origin correction =>
    if !mine source then s
    else if twoStep then setNetPort s p { x with syncWait := some (source, sequence, m.received - correction) }
    else takeOffset s p (m.received - origin - correction)
  | .followUp source sequence origin correction =>
    match x.syncWait with
    | some (src, seq, at_) =>
      if src = source ∧ seq = sequence ∧ mine source = true then
        takeOffset (setNetPort s p { x with syncWait := none }) p (at_ - origin - correction)
      else s
    | none => s
  | .delayReq source correction =>
    if x.ptp = 2 ∧ requestResponse s p = true then sendPtp s p (fun q i => .delayResponse q i source m.received correction) else s
  | .delayResp source received correction =>
    if mine source && requestResponse s p then
      match x.forward, x.reqSent with
      | some f, some t => setNetPort s p { x with delay := some ((f - asymmetry s p + (received - t - correction)) / 2), reqSent := none }
      | _, _ => s
    else s
  | .pdelayReq source correction =>
    if requestResponse s p then s
    else
      let s1 := sendPtp s p (fun q i => .pdelayResponse q i source m.received)
      freeNext (sendPtp s1 p (fun q i => .pdelayFollowUp q i source (freeNow s).toNat correction))
  | .pdelayResp source twoStep turnaround correction =>
    if requestResponse s p then s
    else match x.reqSent with
      | some t =>
        let at_ := m.received - turnaround - correction - asymmetry s p
        if twoStep then setNetPort s p { x with pdelayWait := some (source, at_) }
        else setNetPort s p { x with delay := some ((at_ - t) / 2), reqSent := none }
      | none => s
  | .pdelayFollowUp source turnaround correction =>
    match x.pdelayWait, x.reqSent with
    | some (src, at_), some t =>
      if src = source then setNetPort s p { x with delay := some ((at_ - t - turnaround - correction) / 2), reqSent := none, pdelayWait := none } else s
    | _, _ => s
  | .unsupported => countUp s Reg.netSnapPtpign p

/-- PTP_MESSAGE (R354): messages of another domain are ignored. -/
def execPtpMessage (port : Fin 4) (m : PtpMessage) (s : State) : Host.Outcome State Fault Refusal :=
  let p := port.val
  if ptpOn s p = true ∧ m.domain = cfgField s Reg.ptpCfg 0 6 0 then .next (takePtp s p m) else .next s

/-- PTP_MESSAGE_SEND (R354): Sync, with its hardware send time in the Follow_Up after it (R357), and Announce from master ports; delay requests
from ports that follow a master, and peer delay requests from every port that uses them, whose correction takes NET_ASYM off (R358). -/
def execPtpMessageSend (port : Fin 4) (k : PtpSend) (sent : Int) (s : State) : Host.Outcome State Fault Refusal :=
  let p := port.val
  let x := netPort s p
  let out (t : State) (correction : Int) : State := sendPtp t p (fun q i => .ptp q i k (announcedClass s) correction)
  if !ptpOn s p then .next s
  else match k with
    | .delayReq =>
      if requestResponse s p && x.master.isNone then .next s
      else .next (out (setNetPort s p { x with reqSent := some sent, pdelayWait := none }) (- asymmetry s p))
    | .sync => if x.ptp = 2 then .next (sendPtp (out s 0) p (fun q i => .followUp q i sent)) else .next s
    | .announce => if x.ptp = 2 then .next (out s 0) else .next s

/-- ANNOUNCE_TIMEOUT (R359): 3 intervals without an Announce of the port's master. -/
def execAnnounceTimeout (port : Fin 4) (s : State) : Host.Outcome State Fault Refusal :=
  let p := port.val
  let x := netPort s p
  match x.master with
  | none => .next s
  | some i =>
    let old (m : PtpMaster) : Bool := decide (m.data.source = i) && decide (m.seen.headD 0 + 3 * announceNs s ≤ s.now)
    if x.masters.any old then
      let s1 := setNetPort s p { x with masters := x.masters.filter (fun m => !old m), master := none, grandmaster := 0, measured := 0
                                        offset := none, forward := none, syncWait := none }
      let s2 := slaveLost s1 p 1
      .next (modNet s2 p (fun y => { y with ptp := ptpState s2 p }))
    else .next s

/-! ## The servo (R359 to R363) -/

/-- JUMP_LIMIT in 1/16 ns. -/
def jumpLimit (s : State) : Nat := cfgField s Reg.timeJumpLim 0 19 0 * 16000

/-- LOCK_THR in 1/16 ns. -/
def lockThr (s : State) : Nat := cfgField s Reg.timeJump 0 13 4 * 160

/-- A frequency correction is held to ±200 ppm, in units of 2^-16 ppm (R360). -/
def clampFreq (f : Int) : Int := clampInt (-13107200) 13107200 f

/-- The part of the correction that removes no offset, within ±200 ppm; the gains of the servo are not given, so it is a free value (R360;
log 55). -/
def freeFreq (s : State) : Int := Int.ofNat ((freeNow s).toNat % 26214401) - 13107200

/-- The part of the correction that removes the offset `off`: a free value of at most `ppm` toward it (R360, R280; log 55). -/
def freeSlew (s : State) (ppm : Nat) (off : Int) : Int := Int.sign off * Int.ofNat ((freeNow s).toNat % (65536 * ppm + 1))

/-- SLEW_MAX in ppm. -/
def slewMax (s : State) : Nat := cfgField s Reg.timeJump 0 20 14

/-- Saturate to a signed 32-bit value. -/
def sat32 (i : Int) : Int := clampInt (-2147483648) 2147483647 i

/-- An update with frequency correction `f`: LOCKED after 16 consecutive updates within LOCK_THR; the corrections of the last 60 s in LOCKED,
960 updates, are kept for HOLDOVER (R359, R361). -/
def lockUpdate (s : State) (off base f : Int) : State :=
  let n := if off.natAbs ≤ lockThr s then s.net.lockRun + 1 else 0
  let locks := decide (16 ≤ n) && decide (s.net.servo = .acquiring)
  { s with net := { s.net with
    freq := f, base := base, lockRun := n, servo := if locks then .locked else s.net.servo
    lockFreqs := if s.net.servo = .locked then (f :: s.net.lockFreqs).take 960 else s.net.lockFreqs
    initAcq := s.net.initAcq && !locks, everLocked := s.net.everLocked || locks } }

/-- Steer by frequency alone, the part that removes the offset within SLEW_MAX (R360). -/
def steer (s : State) (off : Int) : State :=
  let slew := freeSlew (freeNext s) (slewMax s) off
  lockUpdate (freeNext (freeNext s)) off (freeFreq s) (clampFreq (freeFreq s + slew))

/-- Steer toward the owner's time at no more than 1 ppm: the correction moves by at most that from the one in force, so that it follows the
owner's frequency (R280, R360; log 55). -/
def steerPartner (s : State) (off : Int) : State :=
  let f := clampFreq (s.net.freq - freeSlew s 1 off)
  lockUpdate (freeNext s) off f f

/-- The jump is refused: the servo enters HOLDOVER, from DEGRADED too (R362). -/
def refuseJump (s : State) (off : Int) : State :=
  let s1 := if s.net.servo = .degraded then toHoldover s 3 else enterHoldover s 3
  let s2 := { s1 with net := { s1.net with jumpRefused := true, refused := off, aboveRun := 0, belowRun := 0, lockRun := 0 } }
  post (netRaise s2 6) .timeJumpRefused 0 0 (wordOfInt (roundDiv off 16)).toNat 0

/-- A master is in reach again: HOLDOVER and DEGRADED are left for ACQUIRING (Table NET-5). -/
def leaveHoldover (s : State) : State :=
  if s.net.servo = .holdover ∨ s.net.servo = .degraded then
    { s with net := { s.net with servo := .acquiring, servoCause := 0, lockRun := 0 } }
  else s

/-- The update of a servo that follows a master of the module's own, with how many measurements it has and the latest offset
(R359 to R363). -/
def servoFollow (s : State) (measured : Nat) (off : Int) : State :=
  let s1 := { s with net := { s.net with offset := sat32 off } }
  let above := decide (jumpLimit s < off.natAbs)
  if s1.net.step.isSome then s1
  else if s1.net.acceptJump && s1.net.jumpRefused then acceptStep s1 (roundDiv off 16)
  else if s1.net.initAcq && !s1.net.initStepped then
    if 4 ≤ measured then acceptStep s1 (roundDiv off 16) else s1
  else if s1.net.initAcq then
    if above && decide (s1.net.servo = .holdover ∨ s1.net.servo = .degraded) then s1 else steer (if above then s1 else leaveHoldover s1) off
  else if s1.net.jumpRefused then
    let n := if above then 0 else s1.net.belowRun + 1
    if 4 ≤ n then
      { s1 with net := { s1.net with jumpRefused := false, refused := 0, belowRun := 0, aboveRun := 0, servo := .acquiring, servoCause := 0, lockRun := 0 } }
    else { s1 with net := { s1.net with refused := off, belowRun := n } }
  else if above then
    if 4 ≤ s1.net.aboveRun + 1 then refuseJump s1 off
    else { s1 with net := { s1.net with aboveRun := s1.net.aboveRun + 1 } }
  else steer (leaveHoldover { s1 with net := { s1.net with aboveRun := 0 } }) off

/-- The update that follows a CAN port's time service: its offset is in ns. Its master is selected as a PTP master is (R387). -/
def servoCan (s : State) (p : Nat) : State :=
  let s1 := { s with net := { s.net with
    servo := if s.net.servo = .freeRun then .acquiring else s.net.servo, servoCause := if s.net.servoCause = 4 then 0 else s.net.servoCause } }
  servoFollow s1 (canPort s p).measured (16 * (canPort s p).offset)

/-- The update of a module that steers its own time: from its SLAVE port, or while no PTP port is SLAVE from a CAN port set as a time source
(R356, R387; log 121); with none of them a servo that followed one has lost its master (R359). -/
def servoOwn (s : State) : State :=
  if s.net.slave < 4 then match (netPort s s.net.slave).offset with
    | some off => servoFollow s (netPort s s.net.slave).measured off
    | none => s
  else match canSource s with
    | some p => servoCan s p
    | none => if s.net.servo = .acquiring ∨ s.net.servo = .locked then enterHoldover s 1 else s

/-- The offset a module shows that does not steer itself: that of its PRP ports (R356). -/
def shownOffset (s : State) : Int := ([0, 1].findSome? (fun p => (netPort s p).offset)).getD s.net.offset

/-- The update of a module that steers toward the owner whenever the link is READY (R280, R356): its lock is judged by its offset from the
partner (log 55). -/
def servoPartner (s : State) : State :=
  let s1 := { s with net := { s.net with servoCause := 4, offset := sat32 (shownOffset s) } }
  if s.pair.link = .ready then
    steerPartner { s1 with net := { s1.net with servo := if s.net.servo = .locked then .locked else .acquiring } } s.pair.offset
  else s1

/-- A servo update once the SLAVE port is selected. -/
def servoSelected (s : State) : State := if steersItself s then servoOwn s else servoPartner s

/-- SERVO_UPDATE (R359 to R363): the SLAVE port is selected, and the servo follows it or the owner. Frames that waited for a launch are offered
to their ports again (R367). -/
def execServoUpdate (s : State) : Host.Outcome State Fault Refusal := .next ([0, 1, 2, 3].foldl flushPort (servoSelected (selectSlave s)))

/-- TIME_STEP_APPLY (R364): an accepted step reaches its named instant. -/
def execTimeStepApply (s : State) : Host.Outcome State Fault Refusal :=
  match s.net.step with
  | some (d, t) => if t ≤ s.now then .next (stepTime s d) else .next s
  | none => .next s

/-- HOLDOVER_EXPIRY (R359): HOLD_T in HOLDOVER. -/
def execHoldoverExpiry (s : State) : Host.Outcome State Fault Refusal :=
  if s.net.servo = .holdover ∧ s.net.holdSince + cfgField s Reg.timeJump 0 31 21 * 60000000000 ≤ s.now then
    .next { s with net := { s.net with servo := .degraded } }
  else .next s

/-- TIME_SAVE (R361): module time is saved to MRAM, under its Gourd claim (Table PWB-7). -/
def execTimeSave (s : State) : Host.Outcome State Fault Refusal :=
  .next (askWrite s 9 1000 .timeSave)

/-! ## Time-triggered launch (R366 to R369) -/

/-- The frame of a schedule entry: its template with the payload source's bytes placed in it (R366). -/
def launchFrame (s : State) (p i : Nat) (source : List Byte) : List Byte :=
  putBytes (getStore (putStore [] 0 ((s.net.sectionBytes.drop (ttField s p i 4 4)).take (ttField s p i 2 2))) 0 (ttField s p i 2 2))
    (ttField s p i 26 2) (source.take (ttField s p i 24 2))

/-- Hand a launched frame to its port; on the PRP pair to both LANs with one sequence number (R367). -/
def sendLaunch (s : State) (p i : Nat) (source : List Byte) : State :=
  nextTrailer ((lansOf p).foldl (fun t q => startFrame t q (.launch q i (trailerOf s p) (launchFrame s p i source))) s) p

/-- The bytes of an entry's payload source: those that its writer left at its last task end completed at least 5 µs ago, or where no such
task end has been committed the bytes `initial` of state memory (R366). -/
def launchSource (s : State) (p i : Nat) (initial : List Byte) : List Byte :=
  match (storeGet (fun _ => []) s.net.sources (ttField s p i 20 4)).find? (fun x => decide (x.1 + 5000 ≤ s.now)) with
  | some x => x.2
  | none => initial

/-- An entry is due now: enabled, at one of its launch times, and not yet served at it. -/
def dueNow (s : State) (p i : Nat) : Bool :=
  let period := ttField s p i 8 8
  let phase := ttField s p i 16 4
  decide (ttField s p i 1 1 % 2 = 1) && decide (period ≠ 0) && decide (phase ≤ s.now) && decide ((s.now - phase) % period = 0)
    && decide (storeGet (fun _ => none) (netPort s p).launched i ≠ some s.now)

/-- The entries of lower queues that are due together with entry `i`, in ascending queue number (R367). -/
def dueBefore (s : State) (p i : Nat) : List Nat :=
  (List.range (ttField s p i 0 1)).flatMap (fun q => (ttEnabled s p).filter (fun k => dueNow s p k && decide (ttField s p k 0 1 = q)))

/-- An entry's launch time is over. -/
def served (s : State) (p i : Nat) : State := modNet s p (fun x => { x with launched := storeSet (fun _ => none) x.launched i (some s.now) })

/-- A launch that is late under DROP, or that no module served: counted, flagged and posted (R368, R369). -/
def lateLaunch (s : State) (p i : Nat) : State := postLate (countUp s Reg.netSnapTtlate p) p i

/-- Serve an entry whose frame can start `delay` ns after its launch time: launched in time, or handled as late (R366, R368). -/
def serveEntry (s : State) (p i delay : Nat) (initial : List Byte) : State :=
  let source := launchSource s p i initial
  let s1 := served s p i
  if delay ≤ ttField s p i 28 2 then sendLaunch s1 p i source
  else if ttField s p i 1 1 / 2 % 2 = 1 then sendLaunch (lateLaunch s1 p i) p i source
  else lateLaunch s1 p i

/-- What state memory holds at an entry's payload source. -/
def sourceBytes (s : State) (p i : Nat) : List Byte := getStore s.exe.area (ttField s p i 20 4) (ttField s p i 24 2)

/-- TT_LAUNCH (R366 to R369): an entry's launch time has come, and its frame could start `delay` ns after it. Entries of lower queues that are
due with it go first, and a later frame's launch time counts as reached when the one before it ends (R367). `initial` is what state memory
holds at the entry's source before any task wrote it. -/
def execTtLaunch (port : Fin 4) (entry : Fin 256) (delay : Nat) (initial : List Byte) (s : State) : Host.Outcome State Fault Refusal :=
  let p := port.val
  let i := entry.val
  if !owner s || pastHandover s || !dueNow s p i then .next s
  else if s.now < s.net.launchFrom then .next (lateLaunch (served s p i) p i)
  else
    let first := dueBefore s p i
    let s1 := first.zipIdx.foldl (fun t k => serveEntry t p k.1 (if k.2 = 0 then delay else 0) (sourceBytes t p k.1)) s
    .next ((lansOf p).foldl flushPort (serveEntry s1 p i (if first = [] then delay else 0) initial))

/-! ## Commands (Table CMD-17) -/

/-- TIME_READ (0x0C01, R322): module time, the servo state, the offset and the master's identity; the widths of the last three are not
given (log 55). -/
def execTimeRead (c : Ctx) (s : State) : Host.Outcome State Fault Refusal :=
  .next (command s c 0x0C01 9 (.timeRead c) true (fun s =>
    ok s c 0x0C01 (leBytes 8 (sec s) ++ leBytes 4 (nsec s) ++ leBytes 4 s.net.servo.ctorIdx ++ leBytes 4 (wordOfInt s.net.offset).toNat
      ++ leBytes 8 (if s.net.slave < 4 then (netPort s s.net.slave).grandmaster else 0))))

/-- TIME_ACCEPT_JUMP (0x0C02, R363): only while a jump is refused; the reply follows the step. -/
def execTimeAcceptJump (c : Ctx) (s : State) : Host.Outcome State Fault Refusal :=
  .next (command s c 0x0C02 9 (.timeAcceptJump c) (owner s) (fun s =>
    if s.net.jumpRefused then await { s with net := { s.net with acceptJump := true } } c 0x0C02 9 0
    else refuse s c 0x0C02 .badParam 0xFFFFFFFF))

/-! ## Registers and the indirect window (R370) -/

/-- NET_STAT. -/
def netStat (s : State) : Word :=
  fieldWord 18 16 s.net.slave ||| fieldWord 10 8 s.net.servo.ctorIdx ||| fieldWord 7 7 (b2n s.net.lanB) ||| fieldWord 6 6 (b2n s.net.lanA)
    ||| word (((List.range 4).map (fun p => b2n (netPort s p).linked * 2 ^ p)).sum)

/-- NET_PORT_STAT of the selected port. -/
def netPortStat (s : State) (p : Nat) : Word :=
  fieldWord 11 8 (netPort s p).ptp ||| fieldWord 2 1 (netPort s p).speed ||| fieldWord 0 0 (b2n (netPort s p).linked)

/-- TIME_SERVO. -/
def timeServo (s : State) : Word :=
  fieldWord 31 24 (announcedClass s) ||| fieldWord 19 16 s.net.servoCause ||| fieldWord 12 12 (b2n s.net.initAcq)
    ||| fieldWord 2 0 s.net.servo.ctorIdx

/-- TIME_REFUSED, in µs. -/
def timeRefused (s : State) : Word := if s.net.jumpRefused then wordOfInt (sat32 (roundDiv s.net.refused 16000)) else 0

/-- The 30 bytes of a discovery record; 0 when it is absent (R353). -/
def discoveryRecord (s : State) (r : Option ModuleRecord) : List Byte :=
  match r with
  | some x => leBytes 8 x.beacon.serial ++ leBytes 8 x.beacon.carrier ++ leBytes 4 x.beacon.address.toNat ++ [x.beacon.moduleByte, x.beacon.timeByte]
      ++ leBytes 4 x.beacon.sentSec ++ leBytes 4 ((s.now - x.heard) / 1000000)
  | none => leBytes 30 0

/-- The 64 bytes of a station's discovery entry (R353). -/
def discoveryBytes (s : State) (i : Nat) : List Byte :=
  let e := stationEntry s i
  let owns (r : Option ModuleRecord) : Bool := (r.map (fun x => x.beacon.moduleByte.getLsbD 6)).getD false
  let who := if owns e.first then 1 else if owns e.second then 2 else 0
  leBytes 4 (b2n e.conflict + 2 * b2n e.first.isSome + 4 * b2n e.second.isSome + 8 * who)
    ++ discoveryRecord s e.first ++ discoveryRecord s e.second

/-- A word of the indirect window (Table NET-8) of port `p`. -/
def netWindowRead (s : State) (p a : Nat) : Word :=
  if a < 0x80 then (storeGet (fun _ => 0) (netPort s p).phy (a / 4)) &&& 0xFFFF#32
  else if a < 0x90 then word (ofLe (getStore (netPort s p).latency (a - 0x80) 4))
  else if 0x10000 ≤ a ∧ a < 0x30000 then wordAt (discoveryBytes s ((a - 0x10000) / 64)) (a % 64)
  else if 0x30000 ≤ a ∧ a < 0x32000 then word (ofLe (getStore (netPort s p).schedule (a - 0x30000) 4))
  else 0

/-- A write of the indirect window: PHY registers but 0 and 4 on the PRP pair, the schedule in STOP only (R366). -/
def netWindowWrite (s : State) (p a : Nat) (v : Word) : State :=
  let x := netPort s p
  if a < 0x80 then
    if p < 2 ∧ (a / 4 = 0 ∨ a / 4 = 4) then s
    else setNetPort s p { x with phy := storeSet (fun _ => 0) x.phy (a / 4) (v &&& 0xFFFF#32) }
  else if 0x30000 ≤ a ∧ a < 0x32000 then
    if s.exe.station = .stop then setNetPort s p { x with schedule := putStore x.schedule (a - 0x30000) (leBytes 4 v.toNat) } else netRaise s 10
  else s

end Sys2Proof.Machine
end

