-- ==== Sys2Proof/Machine/Ownership.lean ====
section
/-! DEFINITION. Machine/Ownership.lean: the owner lines as the output stages see them, Husks, module time, the acknowledges of commits,
and module faults (R13 to R19, R29, R265). -/
namespace Sys2Proof.Machine
open Sys2Proof

/-- OWN_LINE_STOPPED (R16): 1 µs without an edge on the own line: every output stage opens. -/
def execOwnLineStopped (s : State) : Host.Outcome State Fault Refusal :=
  .next { s with own := { s.own with ownSeen := false } }

/-- OWN_LINE_TOGGLING (R265): three edges of the own line: the stages take it as toggling, and the CAN ports offer what waits
(R389). A line that is not driven shows none. -/
def execOwnLineToggling (s : State) : Host.Outcome State Fault Refusal :=
  if s.own.ownDriven then .next (canFeedAll { s with own := { s.own with ownSeen := true } }) else .next s

/-- PARTNER_LINE_QUIET (R16): no edge on the partner's line for 2 µs. -/
def execPartnerLineQuiet (s : State) : Host.Outcome State Fault Refusal :=
  .next (canFeedAll { s with own := { s.own with partnerQuiet := true } })

/-- PARTNER_LINE_EDGE (R16): an edge on the partner's line: the stages open at once, and Peapod sees the line toggling. -/
def execPartnerLineEdge (s : State) : Host.Outcome State Fault Refusal :=
  .next { s with own := { s.own with partnerQuiet := false }, pair := { s.pair with partnerLine := true, partnerEdge := s.now } }

/-- HUSK_HOLD (R13): the island's Husk takes over; every request inside completes with HUSKED, Gourd's own requests among them, and what a
command that ends so had asked for is taken back (R310). -/
def execHuskHold (w : Fin 16) (s : State) : Host.Outcome State Fault Refusal :=
  .next (huskHold (undoWork (if w.val = 4 then huskRequests s else s) w.val) w.val)

/-- Windows that TRIM_FAULT leaves in reset: all but memory, Seedbank, the executive, the command processor and the panel (R451). -/
def trimHeld : List Nat := [2, 3, 4, 5, 6, 7, 9, 10, 13]

/-- An island's reset is complete and its configuration loaded: bring-up has come to the release of the islands (R448), it is not being
reset alone (R444), no core pair is being exchanged under it (R301), and neither a reset storm (R447), the end of a power-fail sequence
(R455) nor TRIM_FAULT (R451) keeps it in reset. -/
def releasable (s : State) (w : Nat) : Bool :=
  decide (7 ≤ s.sup.step) && !s.sup.islandReset.contains w && !(decide (w = 1) && s.spr.coreBusy) && !s.sup.storm && !s.sup.pfwDone
    && !(s.sup.trimFault && trimHeld.contains w)

/-- HUSK_RELEASE (R13): the Husk releases its island, only once its reset is complete and its configuration loaded. -/
def execHuskRelease (w : Fin 16) (s : State) : Host.Outcome State Fault Refusal :=
  .next (if releasable s w.val then huskRelease s w.val else s)

/-- TIMESTAMP_BROADCAST (R15): every island takes the time unit's module time, which runs forward but for accepted steps (R364). -/
def execTimestampBroadcast (time : Nat) (s : State) : Host.Outcome State Fault Refusal := .next { s with now := max s.now time }

/-- A commit number is covered by an ACK of sequence `seq`: it does not come after it, modulo 2^32. -/
def ackCovers (seq id : Nat) : Bool := !seqAfter id seq

/-- ACK (R18): the partner holds every commit up to `seq`; what they held back is driven, in their order. -/
def execAck (seq : Nat) (s : State) : Host.Outcome State Fault Refusal :=
  let done := s.own.outstanding.filter (fun c => ackCovers seq c.id)
  let s1 := { s with own := { s.own with outstanding := s.own.outstanding.filter (fun c => !ackCovers seq c.id) }
                     pair := { s.pair with ackedTags := (s.pair.ackedTags ++ done.map (fun c => commitTag c.kind)).dedup } }
  .next (done.foldl (fun t c => applyCommit (countMax t Reg.ppdSnapAckmax 0 (t.now - c.sent)) c) s1)

/-- ACK_LATE (R19): 4 µs without the acknowledge: the outputs are driven anyway, and the module leaves ACTIVE for ALONE. -/
def execAckLate (s : State) : Host.Outcome State Fault Refusal :=
  if decide (s.pair.role = .active) && !s.own.outstanding.isEmpty then
    .next (send (becomeAlone (ppdRaise s 3) 6) (.role { role := .alone }))
  else .next s

/-- The core pair of a lockstep mismatch. -/
def faultPair : FaultKind → Option CorePair
  | .lockstepX => some .x
  | .lockstepY => some .y
  | _ => none

/-- The region that a fault's ADDR lies in: [31:30] of it in SRAM (Table MEM-3), 4 for MRAM (log 147). -/
def faultRegion (kind : FaultKind) (addr : Nat) : Nat :=
  match kind with
  | .memory => addr / 1073741824 % 4
  | .mram => 4
  | _ => 0

/-- The syndrome of an uncorrectable read that the command does not spell out is a free value of five bytes (R285; log 147). -/
def faultSyndrome (kind : FaultKind) (s : State) : Nat :=
  if kind = .memory ∨ kind = .mram then (freeNow s).toNat + 4294967296 * ((freeNow (freeNext s)).toNat % 256) else 0

/-- MODULE_FAULT (R29, R285, R302): a module fault is detected. A lockstep mismatch also asks for pair Z at the next start, while Z is a
spare; with Z in use there is none left (R299). -/
def execModuleFault (kind : FaultKind) (addr : Nat) (s : State) : Host.Outcome State Fault Refusal :=
  let s1 := moduleFault (freeNext (freeNext s)) kind addr (faultRegion kind addr) (faultSyndrome kind s)
  match faultPair kind with
  | none => .next s1
  | some p =>
    if s1.spr.zRole = 0 then .next { s1 with spr := { s1.spr with mismatch := some p, mismatchAt := s.now } }
    else .next (exhausted s1 2)

end Sys2Proof.Machine
end

