-- ==== Sys2Proof/Machine/Panel.lean ====
section
/-! DEFINITION. Machine/Panel.lean: the front status panel: update requests, frames, the timestamp, temperature, the crack loop, and the
redraw at power-up (R408 to R423). -/
namespace Sys2Proof.Machine
open Sys2Proof

/-! ## Pixels (R408, R412) -/

/-- Frames of an update: 12 for a fast one and a timestamp, else 24 (R412). -/
def updateFrames (kind : Nat) : Nat := if kind = 1 ∨ kind = 2 then 12 else 24

/-- The level drawn: a fast update draws 0 and 1 white and 2 and 3 black (R408). -/
def drawnLevel (kind v : Nat) : Nat := if kind = 1 ∨ kind = 2 then (if v < 2 then 0 else 3) else v

/-- Level of pixel `i` of a request's rectangle: the leftmost of four in bits [7:6] (R408). -/
def requestLevel (r : PanelReq) (i : Nat) : Nat :=
  drawnLevel r.kind (((r.pixels.getD (i / 4) 0).toNat >>> (6 - 2 * (i % 4))) % 4)

/-- Pixel number on the panel of pixel `i` of a rectangle. -/
def panelIndex (r : PanelReq) (i : Nat) : Nat := (r.y + i / r.w) * 480 + r.x + i % r.w

/-- Change every pixel of a rectangle. -/
def mapPixels (m : Store Pixel) (r : PanelReq) (f : Nat → Pixel → Pixel) : Store Pixel :=
  (List.range (r.w * r.h)).foldl (fun m i => storeModify (fun _ => {}) m (panelIndex r i) (f i)) m

/-- The bytes of a completed rectangle go into the last completed image (R419). -/
def imageRect (m : Store Byte) (r : PanelReq) : Store Byte :=
  (List.range (r.w / 4 * r.h)).foldl (fun m j =>
    let row := j / (r.w / 4)
    let byte := ([0, 1, 2, 3].map (fun k => requestLevel r (4 * j + k) * 4 ^ (3 - k))).sum
    storeSet (fun _ => 0) m ((r.y + row) * 120 + r.x / 4 + j % (r.w / 4)) (BitVec.ofNat 8 byte)) m

/-! ## Starting updates (R411 to R415) -/

/-- The waveform band of a glass temperature (Table PNL-1). -/
def tempBand (t : Int) : Nat :=
  if t < 0 then 0 else if t < 8 then 1 else if t < 16 then 2 else if t < 24 then 3 else if t < 32 then 4
  else if t < 40 then 5 else if t < 50 then 6 else 7

/-- The panel may start an update: not too cold, not cracked, no warning, and no redraw before it (R411, R418, R420, R421). -/
def panelMayStart (s : State) : Bool :=
  !s.pnl.cold && !s.pnl.cracked && !s.sup.pfw && decide (s.pnl.redraw = 0) && s.pnl.released

/-- The requests queued before a given one. -/
def queuedBefore (rs : List PanelReq) (id : Nat) : List PanelReq := rs.takeWhile (fun r => decide (r.id ≠ id))

/-- A request overlaps no running update (one that stops at this boundary apart) and no request queued before it (R413, R414). -/
def clearToStart (p : Panel) (r : PanelReq) : Bool :=
  (p.running.all (fun x => decide (x.stopping ≠ 0) || !overlaps r x.req)) && (queuedBefore p.queue r.id).all (fun x => !overlaps r x)

/-- Ask Gourd for the claims of the requests that could start: 300 mW for the first, 40 mW for each further one (R415). -/
def askPanel (s : State) : State :=
  if !panelMayStart s then s
  else s.pnl.queue.foldl (fun s r =>
    if r.phase = 0 ∧ clearToStart s.pnl r ∧ s.pnl.running.length + (s.pnl.queue.filter (fun x => decide (x.phase ≠ 0))).length < 8 then
      let first := s.pnl.running.isEmpty && s.pnl.queue.all (fun x => decide (x.phase = 0))
      askLogic (modPanelReq s r.id (fun x => { x with phase := 1 })) .c3 0xC (if first then 300 else 40)
        (some (updateFrames r.kind * 10000)) (.panelUpdate r.id)
    else s) s

/-- A request that leaves takes its claim with it. -/
def cancelPanelClaim (s : State) (id : Nat) : State :=
  endClaim { s with grd := { s.grd with c3 := s.grd.c3.filter (fun r => decide (r.purpose ≠ .panelUpdate id)) } } (.panelUpdate id)

/-- Start one request that is recorded and clear, while fewer than 8 run (R413, R419). -/
def startOne (s : State) (r : PanelReq) : State :=
  if r.phase = 3 ∧ clearToStart s.pnl r ∧ s.pnl.running.length < 8 then
    let variant := cfgField s Reg.pnlCfg 0 1 0
    modPnl (dropPanelReq s r.id) (fun p => { p with
      running := p.running ++ [{ req := r, frames := 0, band := tempBand p.temp, variant := variant, stopping := 0 }]
      pixels := mapPixels p.pixels r (fun i x => { start := x.start, target := requestLevel r i, frames := 0 }), pumps := true })
  else s

/-- Start the requests that can, in queue order. The crack loop is measured before every update: a start uses the measurement up
(R413, R418). -/
def startReady (s : State) : State :=
  if !panelMayStart s || !s.pnl.measured then s
  else
    let s1 := s.pnl.queue.foldl startOne s
    if s.pnl.running.length < s1.pnl.running.length then modPnl s1 (fun p => { p with measured := false }) else s1

/-! ## Frames -/

/-- A running update has driven its last frame: its pixels are at their targets, the image takes it, its entry is cleared, and it
ends OK (R412, R419). -/
def completeUpdate (s : State) (r : PanelReq) : State :=
  let s1 := modPnl s (fun p =>
    let p1 := { p with pixels := mapPixels p.pixels r (fun _ x => { start := x.target, target := x.target, frames := 0 })
                       image := imageRect p.image r
                       completed := if r.kind = 2 then p.completed else some s.now
                       stamped := if r.kind = 2 then p.completed else p.stamped }
    let rec0 := panelRecord p1
    writePanelRecord p1 (rec0.count + 1) (p1.completed.getD s.now) (rec0.entries.filter (fun e => !entryIs r e)))
  endPanel (countUp (cancelPanelClaim s1 r.id) Reg.pnlSnapUpd 0) r .ok 0

/-- A running update stops at a frame boundary: superseded, at the warning, or by a crack (R414, R418, R420). -/
def stopUpdate (s : State) (x : PanelRun) (why : Nat) : State :=
  let r := x.req
  let state := if why = 1 then 0 else if why = 2 then 2 else 3
  let s1 := modPnl s (fun p => { setPanelEntry p r state x.frames with
    pixels := mapPixels p.pixels r (fun _ q => { q with frames := x.frames }) })
  let s2 := cancelPanelClaim s1 r.id
  match why with
  | 1 => endPanel (pnlRaise s2 2) r .busy 2
  | 2 => endPanel s2 r .busy 4
  | _ => endPanel s2 r .busy 3

/-- One running update at a frame boundary. -/
def frameOne (s : State) (x : PanelRun) : State :=
  let why := if s.pnl.cracked then 3 else if s.sup.pfw then 2 else x.stopping
  if why ≠ 0 then stopUpdate s x why
  else
    let n := x.frames + 1
    if updateFrames x.req.kind ≤ n then completeUpdate s x.req
    else modPnl s (fun p => { p with running := p.running ++ [{ x with frames := n }] })

/-- The time of the last complete update is drawn when nothing runs or waits (R417). -/
def queueTimestamp (s : State) : State :=
  let p := s.pnl
  if cfgField s Reg.pnlCfg 0 2 2 = 1 ∧ p.running = [] ∧ p.queue = [] ∧ p.completed ≠ none ∧ p.stamped ≠ p.completed then
    let t := (p.completed.getD 0) / 1000000000
    let r : PanelReq := { id := p.nextId, x := 384, y := 224, w := 96, h := 16, kind := 2
                          pixels := (List.range 384).map (Config.panelByte 0 t) }
    modPnl s (fun p => { p with queue := [r], nextId := p.nextId + 1 })
  else s

/-- A request enters the queue; with SUPERSEDE the updates it covers stop at the next boundary, and the queued ones it covers end. -/
def queuePanel (s : State) (r : PanelReq) : State :=
  let s1 := if r.supersede then
      let gone := s.pnl.queue.filter (covers r)
      let t := modPnl s (fun p => { p with
        running := p.running.map (fun x => if covers r x.req ∧ x.stopping = 0 then { x with stopping := 1 } else x)
        queue := p.queue.filter (fun x => !covers r x) })
      gone.foldl (fun t x => endPanel (pnlRaise (modPnl (cancelPanelClaim t x.id) (fun p => setPanelEntry p x 0 0)) 2) x .busy 2) t
    else s
  let s2 := modPnl s1 (fun p => { p with queue := p.queue ++ [{ r with id := p.nextId }], nextId := p.nextId + 1 })
  let s3 := if s2.pnl.cold then pnlRaise s2 6 else s2
  askPanel s3

/-- Screen 1 follows the redraw after a restart under R285 or TRIM_FAULT (R421, R422). Its picture is not given and is a free value. -/
def drawFaultScreen (s : State) : State :=
  if s.pnl.faultScreen && s.pnl.released && decide (s.pnl.redraw = 0) && !s.pnl.cracked && decide (s.pnl.queue.length < 16) then
    queuePanel (modPnl s (fun p => { p with faultScreen := false }))
      { w := 480, h := 224, pixels := (List.range 26880).map (Config.panelByte 2 (sec s)) }
  else s

/-- PANEL_FRAME (R412 to R420): a frame boundary: running updates go on, end or stop; then what is ready starts. The last update's end
stops the pumps, and the discharge follows. -/
def execPanelFrame (s : State) : Host.Outcome State Fault Refusal :=
  let runs := s.pnl.running
  let s1 := runs.foldl frameOne (modPnl s (fun p => { p with running := [] }))
  let s2 := if s1.pnl.running = [] ∧ s1.pnl.pumps ∧ s1.pnl.redraw = 0 then modPnl s1 (fun p => { p with pumps := false, discharging := true }) else s1
  .next (askPanel (startReady (queueTimestamp (drawFaultScreen s2))))

/-- PANEL_TEMP_MEASURE (R410, R411): the glass temperature in °C, every 1 s. -/
def execPanelTempMeasure (t : Int) (s : State) : Host.Outcome State Fault Refusal :=
  let cold := decide (t < -10) || (s.pnl.cold && decide (t < -8))
  let s1 := modPnl s (fun p => { p with temp := t, tempMeasured := true, cold := cold, hot := decide (60 < t) })
  .next (askPanel (if cold && !s.pnl.cold then pnlRaise s1 6 else s1))

/-- CRACK_MEASURE (R418): the loop's resistance; above 10 kΩ it is open, and the panel drives no more until the next reset. -/
def execCrackMeasure (ohm : Nat) (s : State) : Host.Outcome State Fault Refusal :=
  let isOpen := decide (10000 < ohm)
  let s1 := modPnl s (fun p => { p with crackOhm := min ohm 65535, crackOpen := isOpen, measured := true })
  if isOpen && !s.pnl.cracked then
    let queued := s1.pnl.queue
    let s2 := post (pnlRaise (modPnl s1 (fun p => { p with cracked := true, queue := [] })) 0) .panelCracked 0 (min ohm 65535) 0 0
    .next (queued.foldl (fun t r => endPanel (cancelPanelClaim t r.id) r .busy 3) s2)
  else .next s1

/-- PANEL_RECORD_WRITTEN (R419): the record shows the request's rectangle RUNNING; it starts at the next frame boundary. -/
def execPanelRecordWritten (id : Nat) (s : State) : Host.Outcome State Fault Refusal :=
  match s.pnl.queue.find? (fun r => decide (r.id = id) && decide (r.phase = 2)) with
  | none => .next s
  | some r => .next (modPnl (modPanelReq s id (fun x => { x with phase := 3 })) (fun p => setPanelEntry p r 1 0))

/-- PANEL_DISCHARGE_DONE (R420). -/
def execPanelDischargeDone (s : State) : Host.Outcome State Fault Refusal := .next (modPnl s (fun p => { p with discharging := false }))

/-- A rectangle of the redraw as a request (R421). -/
def redrawReq (x : Nat × Nat × Nat × Nat) : PanelReq := { x := x.1, y := x.2.1, w := x.2.2.1, h := x.2.2.2, kind := 3 }

/-- The level of pixel `i` of a rectangle in the last completed image. -/
def imageLevel (p : Panel) (r : PanelReq) (i : Nat) : Nat :=
  let n := panelIndex r i
  ((storeGet (fun _ => 0) p.image (n / 4)).toNat >>> (6 - 2 * (n % 4))) % 4

/-- The panel drives no more: it is cracked, or the power-fail warning stands (R418, R420). -/
def panelHalted (s : State) : Bool := s.pnl.cracked || s.sup.pfw

/-- The redraw is broken off: it starts again from its first step, and the discharge follows (R418, R420, R421). -/
def haltRedraw (s : State) : State :=
  endClaim (modPnl s (fun p => { p with redraw := 1, pumps := false, discharging := p.pumps })) .panelRedraw

/-- PANEL_REDRAW (R421): the power-up redraw takes its next step: it asks for its claim once the loop and the temperature are measured,
clears the rectangles to white under the grant (R415), then redraws them from the last completed image. -/
def execPanelRedraw (s : State) : Host.Outcome State Fault Refusal :=
  let p := s.pnl
  let rects := p.redrawRects.map redrawReq
  match p.redraw with
  | 1 =>
    if !p.measured || !p.tempMeasured || panelHalted s || p.cold then .next s
    else .next (askLogic (modPnl s (fun p => { p with redraw := 2 })) .c3 0xC 300 (some 480000) .panelRedraw)
  | 2 =>
    if panelHalted s then .next (haltRedraw s)
    else if !hasClaim s .panelRedraw then .next s
    else .next (modPnl s (fun p => { p with
      redraw := 3, pumps := true, pixels := rects.foldl (fun m r => mapPixels m r (fun _ _ => {})) p.pixels }))
  | 3 =>
    if panelHalted s then .next (haltRedraw s)
    else
      let s1 := modPnl s (fun p =>
        let q := { p with redraw := 0, redrawRects := [], pumps := false, discharging := true
                          pixels := rects.foldl (fun m r => mapPixels m r (fun i _ =>
                            { start := imageLevel p r i, target := imageLevel p r i, frames := 0 })) p.pixels }
        let rec0 := panelRecord q
        writePanelRecord q rec0.count rec0.time [])
      .next (pnlRaise (endClaim s1 .panelRedraw) 4)
  | _ => .next s

/-! ## Requests (R408, R413, R414, R416) -/

/-- A drawing command: BUSY while cracked or with the queue full, else ACCEPTED_PENDING (R413, R416, R418). -/
def drawCommand (s : State) (c : Ctx) (op : Nat) (r : PanelReq) : State :=
  if s.pnl.cracked then refuse (countUp s Reg.pnlSnapRef 0) c op .busy 3
  else if 16 ≤ s.pnl.queue.length then refuse (countUp (pnlRaise s 1) Reg.pnlSnapRef 0) c op .busy 1
  else
    let r' := { r with from_ := some (c.queue.val, c.session.val, c.tag.toNat), tag := c.tag.toNat, queue := c.queue.val }
    queuePanel (accept s c op .acceptedPending (updateFrames r.kind * 10) 0xC s.pnl.nextId) r'

/-- The timestamp rectangle of R417. -/
def stampRect : PanelReq := { x := 384, y := 224, w := 96, h := 16 }

/-- PANEL_UPDATE (0x0A01, R408). -/
def execPanelUpdate (c : Ctx) (x y w h : BitVec 16) (flags : BitVec 8) (pixels : List Byte) (s : State) :
    Host.Outcome State Fault Refusal :=
  .next (command s c 0x0A01 0xC (.panelUpdate c x y w h flags pixels) true (fun s =>
    let r : PanelReq := { x := x.toNat, y := y.toNat, w := w.toNat, h := h.toNat, kind := if flags.toNat.testBit 1 then 1 else 0
                          pixels := pixels, supersede := flags.toNat.testBit 0 }
    if r.x % 8 ≠ 0 then refuse s c 0x0A01 .badParam 0
    else if r.w % 8 ≠ 0 ∨ r.w = 0 ∨ 480 < r.x + r.w then refuse s c 0x0A01 .badParam 4
    else if r.h = 0 ∨ 240 < r.y + r.h then refuse s c 0x0A01 .badParam 6
    else if pixels.length ≠ r.w * r.h / 4 then refuse s c 0x0A01 .badLength (9 + r.w * r.h / 4)
    else if cfgField s Reg.pnlCfg 0 2 2 = 1 ∧ overlaps r stampRect then refuse s c 0x0A01 .badParam 0
    else drawCommand s c 0x0A01 r))

/-- PANEL_SCREEN (0x0A02, R416, R422): a module screen, whose picture the manual does not give, or one of the running image. -/
def execPanelScreen (c : Ctx) (screen : BitVec 16) (s : State) : Host.Outcome State Fault Refusal :=
  .next (command s c 0x0A02 0xC (.panelScreen c screen) true (fun s =>
    let n := screen.toNat
    if n < 2 then
      drawCommand s c 0x0A02 { w := 480, h := 224, pixels := (List.range 26880).map (Config.panelByte (1 + n) (sec s)) }
    else match ((s.exe.image.map (·.screens)).getD []).find? (fun d => decide (d.1 = n) && decide (256 ≤ n)) with
      | none => refuse s c 0x0A02 .badParam 0
      | some d => drawCommand s c 0x0A02 { x := d.2.x, y := d.2.y, w := d.2.w, h := d.2.h, kind := if d.2.fast then 1 else 0, pixels := d.2.pixels }))

/-- The items of screen 0 as they stand (R422): a station is shown forced while EXE_FORCE.COUNT is not 0 (R55). -/
def screenItems (s : State) : ScreenItems :=
  { station := s.sup.stationId, sideB := s.sup.sideB, role := s.pair.role, state := s.exe.station
    forced := decide (s.exe.forces ≠ []), fault := faultRecord s }

/-- SCREEN0_REDRAW (R422): an item of screen 0 has changed since it was last drawn; `pixels` is the picture of the items, which the manual
does not give, drawn above the timestamp rectangle (log 43). -/
def execScreen0Redraw (pixels : List Byte) (s : State) : Host.Outcome State Fault Refusal :=
  if s.pnl.cracked || !s.pnl.released || decide (16 ≤ s.pnl.queue.length) || decide (s.pnl.shown = some (screenItems s)) then .next s
  else .next (queuePanel (modPnl s (fun p => { p with shown := some (screenItems s) })) { w := 480, h := 224, pixels := pixels })

/-! ## Registers (R423) -/

/-- PNL_STAT. -/
def pnlStat (s : State) : Word :=
  let p := s.pnl
  fieldWord 31 24 (wordOfInt p.temp).toNat ||| fieldWord 20 16 p.queue.length ||| fieldWord 15 12 p.running.length
    ||| fieldWord 10 8 (if p.tempMeasured then tempBand p.temp else 0) ||| fieldWord 7 7 (b2n p.cold) ||| fieldWord 6 6 (b2n p.hot) ||| fieldWord 5 5 (b2n p.cracked)
    ||| fieldWord 4 4 (b2n (decide (p.redraw ≠ 0))) ||| fieldWord 3 3 (b2n p.pumps)

/-- VCOM_TRIM of a value of PNL_CFG, in 10 mV. -/
def vcomTrim (w : Word) : Int :=
  let v := field w 15 8
  if v < 128 then Int.ofNat v else Int.ofNat v - 256

/-- |VCOM| with a trim, in 10 mV: the trim is added to the negative factory value (R409, log 44). -/
def vcomWith (s : State) (w : Word) : Int := Int.ofNat s.pnl.factoryVcom - vcomTrim w

/-- A value of PNL_CFG keeps VCOM within −0.5 V to −3.0 V (R409). -/
def vcomOk (s : State) (w : Word) : Bool := decide (50 ≤ vcomWith s w) && decide (vcomWith s w ≤ 300)

/-- PNL_VCOM. -/
def pnlVcom (s : State) : Word := fieldWord 25 16 s.pnl.factoryVcom ||| fieldWord 9 0 (vcomWith s (cfg s Reg.pnlCfg 0)).toNat

/-- PNL_CRACK. -/
def pnlCrack (s : State) : Word := fieldWord 31 31 (b2n s.pnl.crackOpen) ||| fieldWord 15 0 s.pnl.crackOhm

/-- A record entry as its 16 bytes (Table PNL-3). -/
def panelEntryBytes (e : PanelEntry) : List Byte :=
  leBytes 2 e.x ++ leBytes 2 e.y ++ leBytes 2 e.w ++ leBytes 2 e.h ++ leBytes 1 e.state ++ leBytes 1 e.frame ++ leBytes 1 e.kind
    ++ leBytes 1 0 ++ leBytes 2 e.tag ++ leBytes 2 e.queue

/-- The record in force as its 144 bytes (Table PNL-3; the header's order is log 45's). -/
def panelRecordBytes (r : PanelRecord) : List Byte :=
  leBytes 4 r.seq ++ leBytes 4 r.count ++ leBytes 4 (r.time / 1000000000) ++ leBytes 4 (r.time % 1000000000)
    ++ (r.entries.take 8).flatMap panelEntryBytes

/-- A byte of the panel's window. -/
def panelWindowByte (s : State) (a : Nat) : Byte :=
  if a < 0x7080 then storeGet (fun _ => 0) s.pnl.image a
  else if 0x8000 ≤ a ∧ a < 0x8090 then (panelRecordBytes (panelRecord s.pnl)).getD (a - 0x8000) 0
  else if 0xA000 ≤ a ∧ a < 0xA100 then (s.pnl.queue.flatMap (fun r => panelEntryBytes (entryOf r 0 0))).getD (a - 0xA000) 0
  else 0

/-- PANEL_STATUS (0x0A03): PNL_STAT, PNL_FLAGS, PNL_APPLY, PNL_CFG, PNL_VCOM and PNL_CRACK (log 45). -/
def execPanelStatus (c : Ctx) (s : State) : Host.Outcome State Fault Refusal :=
  .next (command s c 0x0A03 0xC (.panelStatus c) true (fun s =>
    ok s c 0x0A03 (([pnlStat s, reg s Reg.pnlFlags 0, reg s Reg.pnlApply 0, cfg s Reg.pnlCfg 0, pnlVcom s, pnlCrack s].map
      (fun w => leBytes 4 w.toNat)).flatten)))

end Sys2Proof.Machine
end

