-- ==== Sys2Proof/Machine/Walnut.lean ====
section
/-! DEFINITION. Machine/Walnut.lean: the safety island's commands (Walnut Safety Island): safe inputs, the safety cycle, output
faults and tests, half failures, the reset edge, the safety message, and the parameter commands. -/
namespace Sys2Proof.Machine
open Sys2Proof

/-- Change Walnut's record. -/
def modWnt (s : State) (f : Walnut → Walnut) : State := { s with wnt := f s.wnt }

/-- Change Walnut's record by what may be a demand; light tests that the demand meets end (R229). -/
def demandWnt (s : State) (f : Walnut → Walnut) : State := modWnt s (fun w => endMetTests w (f w) s.now)

/-- The record that governs: the own one on the owner, else merged with the last accepted message (R246). -/
def walnutView (s : State) : Walnut := if owner s then s.wnt else mergedView s.wnt s.now

/-- An ACTIVE module whose island has just become DEGRADED yields to a STANDBY partner whose last message shows NORMAL (R242). -/
def degradedYield (before : Nat) (s : State) : State :=
  if before ≠ 1 ∧ islandState s.wnt = 1 ∧ hasStandby s ∧ s.wnt.lastMsg ≠ [] ∧ msgField s.wnt.lastMsg 12 1 % 8 = 0 then yieldField s
  else s

/-- SAFE_INPUT_CHANGE (R217): a safe input of a DUAL or RESET pair changes its filtered state; the even input of a RESET pair is unused. -/
def execSafeInputChange (ch : Fin 16) (on : Bool) (s : State) : Host.Outcome State Fault Refusal :=
  let m := pairMode s.wnt (ch.val / 2)
  if m = 1 ∨ (m = 3 ∧ ch.val % 2 = 1) then
    .next (modWnt s (fun w => { w with inputs := if on then w.inputs ||| 2 ^ ch.val
                                                 else if w.inputs.testBit ch.val then w.inputs - 2 ^ ch.val else w.inputs }))
  else .next s

/-! ## The safety cycle (R230, R231, R245) -/

/-- The cross-check of the last cycle's results and the drive of the elements: on only where both halves say on (R230). -/
def crossCheck (w : Walnut) (i : CycleInputs) : Walnut :=
  let both := w.halfA && w.halfB
  let differ := both && (decide (i.funcDiff ≠ 0) || decide (i.outDiff ≠ 0))
  let drive := if both then bitsWithout w.evaluated i.outDiff.toNat else w.evaluated
  let runs := if differ then w.mismatches + 1 else 0
  driveElements { w with readback := i.readback.toNat, mismatches := runs, crosscheck := w.crosscheck || decide (2 ≤ runs) } drive

/-- The partner's safety messages are lost: posted, and a SAFE_PARAM_LOAD that waits for the partner's CRC ends PARTNER_LOST, its set with it
(R245, R279; log 37). -/
def safePairLost (s : State) : State :=
  concludeAll (dropWaitingSet (post s .safePairLost 0 0 0 0)) (fun x => decide (x.opcode = 0x0801)) .partnerLost 0 (fun _ _ => [])

/-- A cycle without an accepted message: counted as missing while the link is READY, and the third in a row clears
PARTNER_SAFE_OK (R245). -/
def missingMessage (s : State) : State :=
  if s.wnt.arrived then modWnt s (fun w => { w with arrived := false })
  else
    let counts := decide (s.pair.link = .ready)
    let lost := min 3 (s.wnt.lost + 1)
    let s1 := modWnt s (fun w => { w with lost := lost, msgErr := if counts then min 65535 (w.msgErr + 1) else w.msgErr
                                          partnerOk := w.partnerOk && decide (lost < 3) })
    if s.wnt.partnerOk ∧ lost = 3 then safePairLost s1 else s1

/-- The parameter set that the safety messages carry to the partner: the pending one, which the partner returns, or on an ACTIVE module its
confirmed set to a partner whose confirmed CRC differs (R252; log 37). -/
def passedSet (s : State) : Option (List Byte) :=
  let w := s.wnt
  match w.pendingSet with
  | some p => some p.bytes
  | none =>
    if s.pair.role = .active ∧ w.lastMsg ≠ [] ∧ msgField w.lastMsg 100 4 ≠ confirmedCrc w ∧ confirmedSet w ≠ [] then some (confirmedSet w)
    else none

/-- The status block goes to state memory at the base that the image declares, where tasks read it as exchange variables (R214). -/
def publishSafety (s : State) : State :=
  match s.exe.image with
  | some im => areaPut s im.safetyBase (statusBlock s.wnt)
  | none => s

/-- A safe output that is driven on holds a standing C0 claim for its drive, from the cycle that drives it to the one that finds it off (Table
PWB-1; log 133). -/
def driveClaims (s : State) : State :=
  eight.foldl (fun s q =>
    let on := owner s && s.wnt.cmd.testBit q
    let has := claimAsked s (.safeDrive q)
    if on && !has then askC0 s 6 Config.safeDrivePower none (.safeDrive q)
    else if !on && has then dropAsked s (.safeDrive q)
    else s) s

/-- SAFETY_CYCLE (R230): cross-check and drive, latch and exchange, evaluate, publish, and send the safety message. -/
def execSafetyCycle (i : CycleInputs) (s : State) : Host.Outcome State Fault Refusal :=
  let up := bit (freeNow s) 0
  let s0 := freeNext s
  let w0 := crossCheck s0.wnt i
  let w1 := stepSpeeds { w0 with image := w0.inputs } s.now up
  let w2 := stepFuncs (stepPairs w1 s.now) s.now
  let s1 := modWnt s0 (fun _ => w2)
  let v := walnutView s1
  let on := outputsOn v (shownIsland v (if owner s then [] else w2.lastMsg))
  let w3 := endMetTests w1 { w2 with evaluated := on, cycle := (w2.cycle + 1) % 4294967296
                                     seqOut := (w2.seqOut + 1) % 4294967296 } s.now
  let s2 := missingMessage (modWnt s1 (fun _ => w3))
  let s3 := modWnt s2 (fun w => { w with shown := shownWords w { v with cmd := w.cmd } (if owner s then [] else w.lastMsg) s.now })
  .next (send (driveClaims (publishSafety s3)) (.safety (safetyMessage s3.wnt s.now) (passedSet s3)))

/-- A half fails (R232, R241): the first failure starts the DEGRADED count, the second leaves no half to stop the machine. -/
def failHalf (s : State) (halfB : Bool) : State :=
  let w := s.wnt
  let before := islandState w
  let w1 := if halfB then { w with halfB := false } else { w with halfA := false }
  if !w1.halfA && !w1.halfB then demandWnt s (fun _ => enterSafeStop w1 s.now 5)
  else
    let w2 := { w1 with failTime := some (w1.failTime.getD s.now), crosscheck := false, mismatches := 0, drivesTaken := false }
    if wparam w2 24 4 = 0 then demandWnt s (fun _ => enterSafeStop w2 s.now 6)
    else degradedYield before (modWnt s (fun _ => w2))

/-- HALF_SELFTEST_DONE (R231): after a CROSSCHECK, exactly one failed half is taken out; else the island is SAFE_STOPPED. -/
def execHalfSelftestDone (aOk bOk : Bool) (s : State) : Host.Outcome State Fault Refusal :=
  if !s.wnt.crosscheck then .next s
  else if aOk ≠ bOk then .next (failHalf s (!bOk))
  else .next (demandWnt s (fun w => enterSafeStop { w with halfA := w.halfA && aOk, halfB := w.halfB && bOk, crosscheck := false } s.now 5))

/-! ## Latches of the inputs (R219 to R222) -/

/-- The functions that demand through pair `k` stop with a fault of the given cause (Table WNT-5, Table WNT-8). -/
def stopByPair (w : Walnut) (k cause : Nat) : Walnut := stopFuncs w (fun f => (demandMask w f).testBit k) cause true

/-- DISCREPANCY (R219): the pair latches it and is held OFF until both channels have been off and come on within T_DISC. -/
def execDiscrepancy (p : Fin 8) (s : State) : Host.Outcome State Fault Refusal :=
  let w := s.wnt
  let (e, o) := pairBits w.inputs p.val
  let x := spair w p.val
  if pairMode w p.val = 1 ∧ e ≠ o ∧ (x.firstOn.isSome ∨ x.bothOff ∨ x.on) then
    let w1 := setSpair w p.val { x with on := false, bothOff := false, firstOn := none, discrepancy := true }
    .next (demandWnt s (fun _ => settle (stopByPair w1 p.val 2)))
  else .next s

/-- The pair latches CROSS_CIRCUIT, and its functions stop with that cause (R220). -/
def latchCross (s : State) (k : Nat) : State :=
  let w1 := setSpair s.wnt k { spair s.wnt k with on := false, bothOff := false, firstOn := none, cross := true }
  demandWnt s (fun _ => settle (stopByPair w1 k 3))

/-- CROSS_CIRCUIT (R220): only a module that owns the field evaluates this check, on a pair fed from the test sources. A RESET pair that
latches it is held OFF, so that no reset edge counts. -/
def execCrossCircuit (p : Fin 8) (s : State) : Host.Outcome State Fault Refusal :=
  let m := pairMode s.wnt p.val
  if owner s ∧ pairSrc s.wnt p.val ∧ (m = 1 ∨ m = 3) then .next (latchCross s p.val) else .next s

/-- TEST_SOURCE_DARK (R219, R220): TPA or TPB, which conduct under R16 only, goes dark; an input it feeds that reads on at two dark pulses in a row latches
CROSS_CIRCUIT on its pair. `reads` holds what SI00–SI15 read 250 µs into the pulse. -/
def execTestSourceDark (b : Bool) (reads : BitVec 16) (s : State) : Host.Outcome State Fault Refusal :=
  let s1 := modWnt s (fun w => if b then { w with darkB := some s.now } else { w with darkA := some s.now })
  if !conducting s then .next s
  else if !owner s then .next s1
  else .next (eight.foldl (fun s k =>
    let m := pairMode s.wnt k
    if pairSrc s.wnt k && (decide (m = 1) || (decide (m = 3) && b)) then
      let x := spair s.wnt k
      let on := reads.toNat.testBit (2 * k + b2n b)
      let run := if on then (if b then x.darkOdd else x.darkEven) + 1 else 0
      let s2 := modWnt s (fun w => setSpair w k (if b then { x with darkOdd := min run 2 } else { x with darkEven := min run 2 }))
      if 2 ≤ run then latchCross s2 k else s2
    else s) s1)

/-- SPEED_PULSE (R221): a pulse on a channel of a SPEED pair ends a period of that half's channel. -/
def execSpeedPulse (i : Fin 2) (halfB : Bool) (s : State) : Host.Outcome State Fault Refusal :=
  if pairMode s.wnt (6 + i.val) ≠ 2 then .next s
  else
    let x := speed s.wnt i.val
    .next (modWnt s (fun w => setSpeed w i.val
      (if halfB then { x with lastB := some s.now, periodB := x.lastB.map (fun t => s.now - t) }
       else { x with lastA := some s.now, periodA := x.lastA.map (fun t => s.now - t) })))

/-- SPEED_DISC (R222): the estimates have disagreed for 100 ms; every function on the input goes to STOPPED with a fault. -/
def execSpeedDisc (i : Fin 2) (s : State) : Host.Outcome State Fault Refusal :=
  if pairMode s.wnt (6 + i.val) ≠ 2 then .next s
  else .next (demandWnt s (fun w => settle (stopFuncs (setSpeed w i.val { speed w i.val with disc := true, agreed := none })
    (fun f => decide (speedOf w f = some i.val)) 6 true)))

/-! ## Output faults, supplies and tests (R225 to R229) -/

/-- The group series element of an output's group opens, and every function that names an output of the group stops with a
fault (R225). -/
def openGroup (w : Walnut) (now q : Nat) : Walnut :=
  let low := decide (q < 4)
  let w1 := if low then { w with groupOpen0 := true } else { w with groupOpen1 := true }
  let w2 := stopFuncs w1 (fun f => eight.any (fun r => names w f r && (decide (r < 4) == low))) 4 true
  openOutputs w2 now (if low then 0x0F else 0xF0)

/-- SAFE_OUTPUT_FAULT (R225): evaluated only by a module that owns the field (R249); an output in current limit is handled only as a
short. -/
def execSafeOutputFault (q : Fin 8) (k : SafeFault) (s : State) : Host.Outcome State Fault Refusal :=
  let w := s.wnt
  let on := w.cmd.testBit q.val
  let x := sout w q.val
  let supply := if q.val < 4 then w.supply0 else w.supply1
  if !owner s then .next s
  else match k with
    | .short => if on then .next (demandWnt s (fun w => settle (faultOutput w s.now q.val { x with short := true }))) else .next s
    | .mismatchLow =>
      if on && supply then .next (demandWnt s (fun w => settle (faultOutput w s.now q.val { x with mismatchLow := true }))) else .next s
    | .mismatchHigh =>
      if on then .next s
      else .next (demandWnt s (fun w => settle (openGroup (faultOutput w s.now q.val { x with mismatchHigh := true }) s.now q.val)))

/-- The outputs of a supply group. -/
def supplyMask (g : Nat) : Nat := if g = 0 then 0x0F else 0xF0

/-- QSUP_MISSING (R226): the functions that name the group's outputs go to STOPPED with cause SUPPLY and no fault. -/
def execQsupMissing (g : Fin 2) (s : State) : Host.Outcome State Fault Refusal :=
  .next (demandWnt s (fun w =>
    let w1 := if g.val = 0 then { w with supply0 := false } else { w with supply1 := false }
    settle (openOutputs (stopFuncs w1 (supplyGone w1) 8 false) s.now (supplyMask g.val))))

/-- QSUP_OK (R223): the group supply is OK again; its functions still need a reset edge (R226). -/
def execQsupOk (g : Fin 2) (s : State) : Host.Outcome State Fault Refusal :=
  .next (modWnt s (fun w => if g.val = 0 then { w with supply0 := true } else { w with supply1 := true }))

/-- No output of the same supply group has been tested within the last 20 ms, and none is under test (R227). -/
def groupQuiet (s : State) (q : Nat) : Bool :=
  eight.all (fun r => decide ((r < 4) ≠ (q < 4)) || (decide ((sout s.wnt r).test = 0)
    && (decide (r = q) || decide ((sout s.wnt r).tested = 0) || decide (20000000 ≤ s.now - (sout s.wnt r).tested))))

/-- DARK_TEST (R227): an output that is on has one of its elements opened, alternately the switch and the series element, when T_TEST has
elapsed since its last test or R229's delay has. The pulse asks Gourd for a C0 claim (Table PWB-1; log 133). -/
def execDarkTest (q : Fin 8) (s : State) : Host.Outcome State Fault Refusal :=
  let x := sout s.wnt q.val
  if owner s && safeOutputOn s q.val && decide (x.due ≤ s.now) && groupQuiet s q.val then
    .next (askC0 (modWnt s (fun w => setSout w q.val { x with test := if x.seriesNext then 2 else 1, seriesNext := !x.seriesNext
                                                              tested := s.now, due := s.now + testNs w q.val }))
      6 Config.testPulsePower (some 400) (.testPulse q.val))
  else .next s

/-- TEST_FAIL latches, the other element opens, and the functions that name the output stop with a fault (R227). -/
def testFailed (s : State) (q : Nat) : State :=
  demandWnt s (fun w => settle (faultOutput w s.now q { sout w q with testFail := true, test := 0 }))

/-- DARK_TEST_END (R227): the readback must have gone off; a test that a demand met is discarded (R229). -/
def execDarkTestEnd (q : Fin 8) (readback : Bool) (s : State) : Host.Outcome State Fault Refusal :=
  let x := sout s.wnt q.val
  if x.test ≠ 1 ∧ x.test ≠ 2 then .next s
  else if readback && s.wnt.cmd.testBit q.val then .next (testFailed s q.val)
  else .next (modWnt s (fun w => setSout w q.val { x with test := 0 }))

/-- LIGHT_TEST (R228): an output that is off and has the test enabled is energised briefly, never while its function is STOPPING. -/
def execLightTest (q : Fin 8) (s : State) : Host.Outcome State Fault Refusal :=
  let w := s.wnt
  let x := sout w q.val
  let stopping := eight.any (fun f => names w f q.val && decide ((sfunc w f).st = 1))
  if owner s && conducting s && decide (lightOf w q.val ≠ 0) && !w.cmd.testBit q.val && !stopping && !outFault w q.val
      && groupReady w q.val && decide (x.lightDue ≤ s.now) && groupQuiet s q.val then
    .next (askC0 (modWnt s (fun w => setSout w q.val { x with test := 3, tested := s.now, lightDue := s.now + lightOf w q.val * 1000000000 }))
      6 Config.testPulsePower (some 200) (.testPulse q.val))
  else .next s

/-- LIGHT_TEST_END (R228): the readback must have come on; if it did not, the output latches TEST_FAIL (log 38). -/
def execLightTestEnd (q : Fin 8) (readback : Bool) (s : State) : Host.Outcome State Fault Refusal :=
  let x := sout s.wnt q.val
  if x.test ≠ 3 then .next s
  else if readback then .next (modWnt s (fun w => setSout w q.val { x with test := 0 }))
  else .next (testFailed s q.val)

/-! ## Half failures and the degraded mode (R232, R241) -/

/-- HALF_FAIL (R232): a half is failed, and the island enters DEGRADED. -/
def execHalfFail (halfB : Bool) (s : State) : Host.Outcome State Fault Refusal :=
  if (if halfB then s.wnt.halfB else s.wnt.halfA) then .next (failHalf s halfB) else .next s

/-- HALF_DRIVE_TAKEOVER (R232): the healthy half drives both elements of every output from now on. An output that opened during the failure
stays off, and its functions go to STOPPED with cause HALF. -/
def execHalfDriveTakeover (opened : BitVec 8) (s : State) : Host.Outcome State Fault Refusal :=
  if s.wnt.halfA && s.wnt.halfB then .next s
  else .next (demandWnt s (fun w => settle (openOutputs
    (stopFuncs { w with drivesTaken := true } (fun f => eight.any (fun q => opened.toNat.testBit q && names w f q)) 10 false)
    s.now opened.toNat)))

/-- DEGRADED_EXPIRY (R241): DEGRADED_TIME has passed since the half failure, and the island enters SAFE_STOPPED. -/
def execDegradedExpiry (s : State) : Host.Outcome State Fault Refusal :=
  let past := (s.wnt.failTime.map (fun t => decide (t + wparam s.wnt 24 4 * 60000000000 ≤ s.now))).getD false
  if past && !s.wnt.stops.contains 6 then .next (demandWnt s (fun w => enterSafeStop w s.now 6)) else .next s

/-- SS1_TMAX (R235): T_MAX after t0 a STOPPING function enters STOPPED. -/
def execSs1Tmax (f : Fin 8) (s : State) : Host.Outcome State Fault Refusal :=
  if tmaxReached s.wnt f.val s.now then .next (modWnt s (fun w => settle (endByTmax w f.val))) else .next s

/-! ## The reset edge (R238 to R240) -/

/-- One STOPPED function at a reset edge: its fault is gone or stands, and it becomes ENABLED when its demand pairs are ON (R239). -/
def resetFunc (w : Walnut) (f : Nat) : Walnut :=
  let x := sfunc w f
  if !defined w f ∨ x.st ≠ 2 then w
  else
    let stands := faultStands w f
    if stands ∨ demandOff w f then setSfunc w f { x with fault := stands, ramp := false }
    else setSfunc w f { x with st := 0, fault := false, ramp := false }

/-- RESET_EDGE (R239): no effect in SAFE_STOPPED, while half B is failed, or without a RESET pair that is not held OFF. A function with a
demand pair OFF stays STOPPED and is posted. -/
def execResetEdge (s : State) : Host.Outcome State Fault Refusal :=
  let w := s.wnt
  if !w.halfB ∨ !hasReset w ∨ resetHeldOff w then .next s
  else
    let w0 := { w with resetJammed := false }
    if islandState w = 2 then .next (modWnt s (fun _ => w0))
    else
      let before := islandState w
      let w1 := if w0.locked then { w0 with locked := false, cause := 0, powerUp := false } else w0
      let w2 := clearOutputs w1
      let refused := eight.filter (fun f => defined w f && decide ((sfunc w f).st = 2) && demandOff w f)
      let w3 := eight.foldl resetFunc w2
      .next (degradedYield before (refused.foldl (fun s f => post s .safeResetRefused f f 0 0) (modWnt s (fun _ => w3))))

/-- RESET_JAMMED (R238): the reset input has been high for more than 3 s; its release does not count as a reset. -/
def execResetJammed (s : State) : Host.Outcome State Fault Refusal :=
  if hasReset s.wnt && s.wnt.halfB then .next (post (modWnt s (fun w => { w with resetJammed := true })) .resetJammed 0 0 0 0)
  else .next s

/-! ## The safety message (R245 to R252) -/

/-- The session mark of a pending set that this module holds for its partner (R252). -/
def mirrorSession : Nat := 1000

/-- A message passes the receiver's checks (R245): length and CRC, SEQ one above the last accepted while messages are accepted
(log 39), and a time no older than 1 ms. -/
def messageOk (s : State) (m : List Byte) : Bool :=
  decide (m.length = 128) && decide (msgField m 124 4 = safetyCrc (m.take 124))
    && (match s.wnt.seqIn with
        | some q => !s.wnt.partnerOk || decide (msgField m 0 4 = (q + 1) % 4294967296)
        | none => true)
    && decide (s.now ≤ msgTime m s.now + 1000000)

/-- A message is discarded: counted, and the third in a row clears PARTNER_SAFE_OK (R245). -/
def discardMessage (s : State) : State :=
  let lost := min 3 (s.wnt.lost + 1)
  let s1 := modWnt s (fun w => { w with arrived := true, lost := lost, msgErr := min 65535 (w.msgErr + 1)
                                        partnerOk := w.partnerOk && decide (lost < 3) })
  if s.wnt.partnerOk ∧ lost = 3 then safePairLost s1 else s1

/-- The set of the partner that this module holds beside it: taken while the partner shows PARAM_PENDING, stored when the partner's
confirmed CRC becomes its own, dropped when the partner holds none any more (R252). -/
def mirrorSet (s : State) (m : List Byte) (set : Option (List Byte)) : State :=
  let pendingThere := decide (msgField m 12 1 % 8 = 2) && decide (msgField m 12 1 / 8 = 3)
  match s.wnt.pendingSet, set with
  | some p, _ =>
    if p.session ≠ mirrorSession then s
    else if msgField m 100 4 = blockField p.bytes 252 4 then
      post (modWnt s (fun w => confirmSet w p.bytes)) .safeParamConfirmed 0 0 0 0
    else if pendingThere then s
    else modWnt s discardSet
  | none, some bs =>
    if pendingThere && setCrcOk bs then
      demandWnt s (fun w => enterSafeStop { w with pendingSet := some { bytes := bs, session := mirrorSession } } s.now 3)
    else s
  | none, none => s

/-- A module whose confirmed CRC differs from its ACTIVE partner's takes the partner's set, and is LOCKED until R248 applies (R252). -/
def adoptSet (s : State) (m : List Byte) (set : Option (List Byte)) : State :=
  match set with
  | none => s
  | some bs =>
    if s.pair.partnerRole = 1 ∧ s.wnt.pendingSet = none ∧ setCrcOk bs ∧ blockField bs 252 4 = msgField m 100 4 ∧ confirmedCrc s.wnt ≠ msgField m 100 4 then
      let w1 := storeSetCopies s.wnt bs
      let w2 := stopFuncs { w1 with stops := w1.stops.filter (fun c => decide (c ≠ 2)) } (fun _ => true) 9 false
      post (modWnt s (fun _ => { w2 with governing := bs, locked := true, cause := 1, powerUp := true })) .safeParamAdopted 0 0 0 0
    else s

/-- The owner sees its pending set held by the partner: the waiting SAFE_PARAM_LOAD is answered with the partner's CRC (R251). -/
def partnerHolds (s : State) (set : Option (List Byte)) : State :=
  match s.wnt.pendingSet, set with
  | some p, some bs =>
    if p.session ≠ mirrorSession ∧ loadWaits s ∧ setCrcOk bs then
      let crc := blockField bs 252 4
      concludeAll (modWnt s (fun w => { w with pendingSet := some { p with partnerCrc := crc, replied := s.now } }))
        (fun x => decide (x.opcode = 0x0801)) .ok 0 (fun _ _ => loadReply p.bytes crc)
    else s
  | _, _ => s

/-- SAFETY (R245): a partner safety message is discarded, or accepted and used: stops are taken over, a module that starts beside an
owner joins it, and parameter sets pass. `set` is a parameter set that the messages carry (R252). -/
def execSafety (msg : List Byte) (set : Option (List Byte)) (s : State) : Host.Outcome State Fault Refusal :=
  if !messageOk s msg then .next (discardMessage s)
  else
    let partnerOwns := decide (s.pair.partnerRole = 0) || decide (s.pair.partnerRole = 1)
    let took := modWnt s (fun w => { (if owner s then w else takeStops w msg s.now) with
      lastMsg := msg, seqIn := some (msgField msg 0 4), arrived := true, lost := 0, partnerOk := true })
    if owner s then .next (partnerHolds took set)
    else
      let s1 := mirrorSet took msg set
      let s2 := adoptSet s1 msg set
      if s2.wnt.powerUp && partnerOwns && decide (s2.wnt.stops = []) && decide (confirmedCrc s2.wnt = msgField msg 100 4) then
        .next (modWnt s2 (fun w => joinPair w msg s.now))
      else .next s2

/-! ## Safety parameters (R250, R251) -/

/-- A field of a set, and the range it must lie in. -/
def inRange (bs : List Byte) (a n lo hi : Nat) : Bool := decide (lo ≤ blockField bs a n) && decide (blockField bs a n ≤ hi)

/-- The checks of a set in the order of its bytes: offset of a field, and whether it is as R250 asks. -/
def setChecks (bs : List Byte) : List (Nat × Bool) :=
  let b (a : Nat) : Nat := blockField bs a 1
  let mode (k : Nat) : Nat := b (32 + 4 * k)
  let head : List (Nat × Bool) := [(0, decide (blockField bs 0 4 = 0x5A1B5750)), (4, decide (blockField bs 4 2 = 1)),
    (6, decide (blockField bs 6 2 = 256)), (24, inRange bs 24 4 0 1440)]
  let pair (k : Nat) : List (Nat × Bool) :=
    let m := mode k
    let used := decide (m = 1) || decide (m = 3)
    let firstReset := (List.range k).all (fun j => decide (mode j ≠ 3))
    [(32 + 4 * k, decide (m ≤ 3) && (decide (m ≠ 2) || decide (6 ≤ k)) && (decide (m ≠ 3) || (decide (k < 6) && firstReset))),
     (33 + 4 * k, !used || inRange bs (33 + 4 * k) 1 0 1),
     (34 + 4 * k, !used || inRange bs (34 + 4 * k) 1 4 100),
     (35 + 4 * k, decide (m ≠ 1) || inRange bs (35 + 4 * k) 1 1 255)]
  let out (q : Nat) : List (Nat × Bool) := [(64 + 4 * q, inRange bs (64 + 4 * q) 1 5 100), (65 + 4 * q, inRange bs (65 + 4 * q) 1 0 60)]
  let spd (i : Nat) : List (Nat × Bool) :=
    let used := decide (mode (6 + i) = 2)
    [(96 + 4 * i, !used || inRange bs (96 + 4 * i) 2 1 1024), (98 + 4 * i, !used || inRange bs (98 + 4 * i) 1 1 50)]
  let reset := eight.any (fun k => decide (mode k = 3))
  let func (f : Nat) : List (Nat × Bool) :=
    let a := funcBase f
    let kind := b a
    let def_ := decide (kind = 1) || decide (kind = 2)
    let ss1 := decide (kind = 2)
    let ramp := ss1 && decide (b (a + 4) ≠ 0)
    [(a, decide (kind ≤ 2) && (!def_ || reset)),
     (a + 1, !def_ || eight.all (fun k => !(b (a + 1)).testBit k || decide (mode k = 1))),
     (a + 2, !ss1 || decide ((b (a + 2)) &&& (b (a + 3)) = 0)),
     (a + 4, !ss1 || (decide (b (a + 4) ≤ 2) && (decide (b (a + 4) = 0) || decide (mode (5 + b (a + 4)) = 2)))),
     (a + 6, !ramp || inRange bs (a + 6) 2 0 2000),
     (a + 8, !ss1 || inRange bs (a + 8) 2 10 6000),
     (a + 10, !ramp || inRange bs (a + 10) 2 1 10000),
     (a + 12, !ramp || inRange bs (a + 12) 2 0 1000),
     (a + 14, !ramp || inRange bs (a + 14) 2 1 1000)]
  head ++ (eight.map pair).flatten ++ (eight.map out).flatten ++ ([0, 1].map spd).flatten ++ (eight.map func).flatten

/-- Offset of the first field of a set that offends, if one does (R250). -/
def setOffence (bs : List Byte) : Option Nat := ((setChecks bs).find? (fun p => !p.2)).map (·.1)

/-- A session with the SAFETY role on one of the queues CQ00 to CQ03 (R251). -/
def safetySender (s : State) (c : Ctx) : Bool :=
  decide (c.queue.val < 4) && ((sessionOf s.cmd c.session.val).map (fun x => x.roles.testBit 3)).getD false

/-- The parameter commands: sender, then a module that owns the field (R251). -/
def safetyCommand (s : State) (c : Ctx) (op : Nat) (i : Instr) (body : State → State) : State :=
  if !starts s c op i then s
  else if !safetySender s c then refuse s c op .authFailed 0x08
  else command s c op 6 i (owner s) body

/-- SAFE_PARAM_LOAD (0x0801, R251). In a pair that exchanges messages the reply waits for the partner's CRC (R252). -/
def execSafeParamLoad (c : Ctx) (set : List Byte) (s : State) : Host.Outcome State Fault Refusal :=
  .next (safetyCommand s c 0x0801 (.safeParamLoad c set) (fun s =>
    if set.length ≠ 256 then refuse s c 0x0801 .badLength 256
    else if s.wnt.pendingSet.isSome then refuse s c 0x0801 .busy 0
    else if !setCrcOk set then refuse s c 0x0801 .badCrc 0
    else match setOffence set with
      | some off => refuse s c 0x0801 .badParam off
      | none =>
        let held : PendingSet := { bytes := set, queue := c.queue.val, session := c.session.val, replied := s.now }
        let s1 := demandWnt s (fun w => enterSafeStop { w with pendingSet := some held } s.now 3)
        if s.pair.role = .active ∧ s.wnt.partnerOk ∧ s.pair.link = .ready then await s1 c 0x0801 6 0
        else ok s1 c 0x0801 (loadReply set 0)))

/-- SAFE_PARAM_CONFIRM (0x0802, R251): on the session that sent the LOAD, with its CRC and SET_ID. DESIGN CHOICE: one that comes while the
LOAD still waits for its reply, whose CRCs it cannot echo, is answered BUSY and the set stays (log 143). -/
def execSafeParamConfirm (c : Ctx) (crc : BitVec 32) (setId : List Byte) (s : State) : Host.Outcome State Fault Refusal :=
  .next (safetyCommand s c 0x0802 (.safeParamConfirm c crc setId) (fun s =>
    match s.wnt.pendingSet with
    | none => refuse s c 0x0802 .badParam 0xFFFFFFFF
    | some p =>
      if p.session ≠ c.session.val then refuse s c 0x0802 .authFailed 0x08
      else if loadWaits s then refuse s c 0x0802 .busy 0
      else if crc.toNat ≠ blockField p.bytes 252 4 ∨ (p.partnerCrc ≠ 0 ∧ p.partnerCrc ≠ crc.toNat)
          ∨ setId ≠ (p.bytes.drop 8).take 16 then
        refuse (discardPending s 1) c 0x0802 .badCrc 0
      else
        let s1 := modWnt s (fun w => confirmSet w p.bytes)
        ok (post s1 .safeParamConfirmed 0 0 0 0) c 0x0802 []))

/-- SAFE_PARAM_ABORT (0x0803, R251). -/
def execSafeParamAbort (c : Ctx) (s : State) : Host.Outcome State Fault Refusal :=
  .next (safetyCommand s c 0x0803 (.safeParamAbort c) (fun s =>
    match s.wnt.pendingSet with
    | none => ok s c 0x0803 []
    | some p => if p.session ≠ c.session.val then refuse s c 0x0803 .authFailed 0x08 else ok (discardPending s 3) c 0x0803 []))

/-- SAFE_PARAM_EXPIRY (R251): 120 s after the LOAD reply, which must have been sent, the pending set is discarded; the partner's copy goes with it (R252). -/
def execSafeParamExpiry (s : State) : Host.Outcome State Fault Refusal :=
  match s.wnt.pendingSet with
  | some p =>
    if p.session = mirrorSession ∨ loadWaits s ∨ s.now < p.replied + 120000000000 then .next s else .next (discardPending s 2)
  | none => .next s

/-- SAFE_READ (0x0804, R322): the status words, or an area of the exposed-state window. -/
def execSafeRead (c : Ctx) (area : BitVec 8) (s : State) : Host.Outcome State Fault Refusal :=
  let bytes (a n : Nat) : List Byte := (List.range n).map (fun i => exposedByte s.wnt (a + i))
  .next (command s c 0x0804 6 (.safeRead c area) true (fun s =>
    match area.toNat with
    | 0 => ok s c 0x0804 (s.wnt.shown.map (fun x => leBytes 4 x.toNat)).flatten
    | 1 => ok s c 0x0804 (bytes 0 256)
    | 2 => ok s c 0x0804 (bytes 0x100 256)
    | 3 => ok s c 0x0804 (bytes 0x200 128)
    | _ => refuse s c 0x0804 .badParam 0))

end Sys2Proof.Machine
end

