-- ==== Sys2Proof/Machine/Takeover.lean ====
section
/-! DEFINITION. Machine/Takeover.lean: the state copy as the following module applies it (R271, R272), and taking the field: what the new owner
continues from (R269, Table PPD-7), the swap restart (R58, R59, R267), and a restart from INIT (R267, R270). -/
namespace Sys2Proof.Machine
open Sys2Proof

/-- A role that follows the owner: STANDBY, SYNCING or PREPARING. -/
def follower (s : State) : Bool :=
  decide (s.pair.role = .standby) || decide (s.pair.role = .syncing) || decide (s.pair.role = .preparing)

/-! ## The state copy (R271, R272) -/

/-- A copied variable: its value, and its committed exchange value (R40). -/
def copyVar (s : State) (p : Nat × List Byte) : State :=
  let ex := match var? s p.1 with
    | some x => if x.exchange then storeSet (fun _ => []) s.exe.exchange p.1 p.2 else s.exe.exchange
    | none => s.exe.exchange
  { s with exe := { s.exe with
    vars := s.exe.vars.map (fun q => if q.1 = p.1 then (q.1, { q.2 with value := p.2 }) else q), exchange := ex } }

/-- A copied channel value with its status (R143). -/
def copyValue (s : State) (p : Nat × Word × Nat) : State :=
  modFe s p.1 (fun f => { f with partnerValue := p.2.1, partnerStatus := p.2.2 })

/-- The partner's pulse count at a commit: the offset of the own count is taken (R135). -/
def copyCount (s : State) (p : Nat × Word) : State := modFe s p.1 (fun f => { f with partnerOffset := p.2 - f.count })

/-- A channel's claims with the excesses that are active counted for their full durations from now (R179). -/
def wholeExcess (s : State) (c : Nat) (x : FieldClaim) : FieldClaim :=
  { x with excessEnd := if 0 < x.excess then s.now + (c1Claim s c 0).2.2 else 0, shortEnd := if 0 < x.shortExcess then s.now + 5000000 else 0 }

/-- The copied claims of a channel as they stood at the commit, with the grant they stand for (R179). -/
def copyClaim (s : State) (k : ClaimCopy) : State :=
  let c := k.channel
  let x : FieldClaim := { standing := k.standing, excess := k.excess, shortExcess := k.short }
  modFe (setClaim s c (wholeExcess s c x)) c (fun f => { f with
    granted := if isAo (modeOf s c) then (if loadI s c < k.standing then aoBase s c + (k.standing - loadI s c) * 2000 else 0)
               else b2n (decide (0 < k.standing))
    supplyClosed := decide (modeOf s c = 0x12) && decide (0 < k.standing) })

/-- A channel that the copied claim set does not name holds no claim. -/
def dropClaim (s : State) (c : Nat) : State := modFe (setClaim s c {}) c (fun f => { f with granted := 0, supplyClosed := false })

/-- The copied claim set takes the place of the one held (R179). -/
def copyClaimSet (s : State) (ks : List ClaimCopy) : State :=
  let gone := (s.grd.field.map (·.1)).filter (fun c => ks.all (fun k => decide (k.channel ≠ c)))
  ks.foldl copyClaim (gone.foldl dropClaim s)

/-- The copied state of the GMU: shed set, triggers and the synchroscope (R208). -/
def copyGmu (s : State) (x : CopyContent) : State :=
  match x.gmu with
  | none => s
  | some g =>
    let s1 := g.trigs.foldl (fun t p => setTrig t p.1 { trig t p.1 with st := p.2.1, firings := p.2.2 }) { s with gmu := { s.gmu with shed := g.shed } }
    let k := g.sync
    modSync s1 (fun y => { y with
      state := k.state, reason := k.reason, frame := k.frame, held := k.held, lockout := k.lockout, closeCh := k.closeCh, since := k.since })

/-- The executive's copied data: the force table, and the owner's station state. -/
def copyExec (s : State) (x : CopyContent) : State :=
  let s1 := match x.forces with
    | some fs => { s with exe := { s.exe with forces := fs.map (fun p => { key := p.1, value := p.2 : Force }) } }
    | none => s
  match x.station with
  | some st => { s1 with pair := { s1.pair with partnerStation := stationCode st } }
  | none => s1

/-- The operator's values of a loop, as the owner's Hazel holds them (R83, R100). -/
def copyOperator (s : State) (p : Nat × Nat × Bool × Int × Int) : State :=
  modLoop s p.1 (fun l => { l with opMode := p.2.1, spTrackPv := p.2.2.1, opSp := p.2.2.2.1, opMv := p.2.2.2.2 })

/-- The parameter words of a loop's descriptor, as the owner's Hazel holds them (R105). -/
def copyDescriptor (s : State) (p : Nat × List Word) : State := modLoop s p.1 (fun l => { l with desc := { l.desc with params := p.2 } })

/-- A copied entry takes effect: committed outputs become the preloads of the front-ends (R20, R272). -/
def applyContent (s : State) (x : CopyContent) : State :=
  let s1 := x.fbs.foldl (fun t p => setFb t p.1 p.2) (x.vars.foldl copyVar (copyExec s x))
  let s2 := x.counts.foldl copyCount (x.values.foldl copyValue (preload s1 x.outputs))
  let s3 := copyGmu (match x.claims with
    | some ks => copyClaimSet s2 ks
    | none => s2) x
  let s3a := x.area.foldl (fun t p => areaPut t p.1 [p.2]) s3
  let s4 := x.sources.foldl (fun t p => commitSource p.1 t p.2) (x.params.foldl copyDescriptor (x.operators.foldl copyOperator (x.canPayloads.foldl commitPayload s3a)))
  if x.gmuInput = [] then s4 else commitGmuInput s4 x.gmuInput

/-- A codeword of state memory: its bytes, and the program half of the loop's exchange entry that it holds (R81, R271). -/
def copyStateWord (s : State) (a : Nat) (bs : List Byte) : State :=
  let s1 := areaPut s a bs
  let base := exchangeAddr s 0
  if base ≤ a ∧ (a - base) % 32 = 0 then modLoop s1 ((a - base) / 32) (fun l => { l with written := some (programOf ((a - base) / 32) bs) }) else s1

/-- Parameter words of a loop's descriptor from index `i`. -/
def copyParams (l : Loop) (i : Nat) (bs : List Byte) : Loop :=
  { l with wrote := l.wrote.filter (fun p => decide (p.1 < i) || decide (i + 4 ≤ p.1))
           desc := { l.desc with params := (List.range (max l.desc.params.length (i + 4))).map (fun k =>
      if i ≤ k ∧ k < i + 4 then wordAt bs (4 * (k - i)) else l.desc.params.getD k 0) } }

/-- Bytes of a loop's block-state area from offset `o` (Table HZL-15). -/
def copyStates (l : Loop) (o : Nat) (bs : List Byte) : Loop :=
  { l with states := splitStates (loopBlocks l.desc) (stateValues (stateBytesOf l.desc / 8) (putBytes (blockStateBytes l) o bs)) }

/-- A codeword of loop memory: descriptor parameters and block states are copied (R105, Table HZL-12). -/
def copyLoopWord (s : State) (a : Nat) (bs : List Byte) : State :=
  if a < 0x200000 then (if 160 ≤ a % 512 then modLoop s (a / 512) (copyParams · ((a % 512 - 160) / 4) bs) else s)
  else if a < 0x300000 then modLoop s ((a - 0x200000) / 256) (copyStates · ((a - 0x200000) % 256) bs)
  else s

/-- The codewords of a LINE that its mask names (R271). The image travels as RESYNC_PHASE_DONE gives it (log 30). -/
def copyLine (s : State) (region index mask : Nat) (data : List Byte) : State :=
  [0, 1, 2, 3].foldl (fun t i =>
    let bs := (data.drop (16 * i)).take 16
    if mask.testBit i then
      (match region with
       | 0 => copyStateWord t (64 * index + 16 * i) bs
       | 1 => copyLoopWord t (64 * index + 16 * i) bs
       | _ => t)
    else t) s

/-- A copied Hazel record: the loop's state, its half of the exchange entry, and the preload of the channel it drives (R100, R271, R272). -/
def applyRecord (s : State) (n : Nat) (data : List Byte) : State :=
  let s1 := areaPut (modLoop s n (fun l => loadRecord l data)) (exchangeAddr s n + 16) (data.take 16)
  match loop? s1 n with
  | none => s1
  | some l => match loopOutChannel l.desc with
    | none => s1
    | some c => match (outputWord s1 l c l.mv).1 with
      | some w => preload s1 [(c, w)]
      | none => s1

/-- An entry of the pending log takes effect. -/
def applyEntry (s : State) : LogEntry → State
  | .line _ region index mask data x => applyContent (copyLine s region index mask data) x
  | .hrec _ n data => applyRecord s n data
  | .irec _ _ x => applyContent s x

/-- The writer tag of an entry. -/
def entryTag : LogEntry → Nat
  | .line tag _ _ _ _ _ => tag
  | .hrec tag _ _ => tag
  | .irec tag _ _ => tag

/-- The logged entries of a tag are applied in order; a task's retain variables reach the retain shadow (R47, R272). -/
def applyTag (s : State) (tag : Nat) : State :=
  let mine := s.pair.log.filter (fun e => decide (entryTag e = tag))
  let rest := s.pair.log.filter (fun e => decide (entryTag e ≠ tag))
  let s1 := mine.foldl applyEntry { s with pair := { s.pair with log := rest } }
  if tag < 16 then shadowTask s1 tag else s1

/-- An arriving entry is logged; bulk copy has no COMMIT and takes effect at once (R272, R276). -/
def logEntry (s : State) (e : LogEntry) : State :=
  if !follower s then s
  else if entryTag e = 0x3F then applyEntry s e
  else { s with pair := { s.pair with log := s.pair.log ++ [e] } }

/-- A commit is acknowledged once logged, with the lanes in service, and its tag's entries are applied (R272, Table PPD-3). -/
def takeCommit (s : State) (tag seq : Nat) : State :=
  if follower s then
    let at_ := storeSet (fun _ => 0) s.pair.commitAt tag s.now
    applyTag (send { s with pair := { s.pair with logged := seq, commitAt := at_ } } (.ack seq (lanesInService s))) tag
  else s

/-! ## Taking the field (R269, Table PPD-7) -/

/-- Every excess that was active at the commit is counted for its full duration again from the takeover (R179). -/
def restartExcess (s : State) (c : Nat) : State := setClaim s c (wholeExcess s c (claimOf s c))

/-- A close committed for a frame that has passed is on (R209). -/
def takeClose (s : State) : State := if closePassed s then closeNow s false else s

/-- A preloaded output conducts without a request: it holds the grant of what it drives (R20, R179). -/
def takePreload (s : State) (c : Nat) : State :=
  let f := fe s c
  let p := preloadDemand s c
  if !f.written || decide (p = 0) then s
  else
    let above := if isAo (modeOf s c) then aoAbove s c p else 0
    let s1 := setClaim s c { claimOf s c with standing := max (claimOf s c).standing (loadI s c + above) }
    modFe s1 c (fun f => { f with granted := max f.granted p, driven := BitVec.ofNat 16 p })

/-- A channel of the new owner: counts continue the partner's (R135); an AI shows the partner's value and STATUS until its own conversion,
and the confirmed conditions go on from their committed state (R161). -/
def takeChannel (s : State) (c : Nat) : State :=
  let m := modeOf s c
  let s1 := modFe s c (fun f =>
    let st (i : Nat) : Bool := f.partnerStatus.testBit i
    { f with
      countOffset := if isPulse m then f.partnerOffset else f.countOffset
      fromPartner := isAi m
      failLow := if isAi m then st 14 else f.failLow, failHigh := if isAi m then st 15 else f.failHigh
      supplyShort := if m = 0x12 then st 8 else f.supplyShort
      compliance := if isAo m then st 12 else f.compliance, alarmUnreach := if isAo m then st 13 else f.alarmUnreach
      openLoad := if isAo m then st 10 else f.openLoad
      misHigh := if isAo m then st 6 else f.misHigh, failed := if isAo m then st 6 || f.failed else f.failed })
  restartExcess (takePreload s1 c) c

/-- A task's instance was running on the partner: the station was in RUN, no handover had drained it, and no COMMIT of the task has come
since its last release (R269). -/
def ranAtLoss (s : State) (n : Nat) : Bool :=
  (task s n).defined && decide (0 < (task s n).period) && decide (s.pair.partnerStation = 2) && s.pair.prepared.isNone
    && decide (storeGet (fun _ => 0) s.pair.commitAt n < s.exe.lastBoundary / periodNs s n * periodNs s n)

/-- Entries after the last COMMIT of their tag are discarded; a release whose instance was running on the partner counts as skipped, with
cause FAILOVER (R269). -/
def dropLog (s : State) : State :=
  let ran := (List.range 16).filter (ranAtLoss s)
  let s1 := { s with pair := { s.pair with log := [], prepared := none, phase := 0, remain := 0, swapReady := false } }
  ran.foldl (fun t n => skipRelease t n 1 .failover) s1

/-- Walnut goes on from the merged state (R246); a set the lost owner's session had pending is discarded with that session (R251). -/
def takeWalnut (s : State) : State :=
  let w := if s.wnt.lastMsg = [] then s.wnt else mergeMessage s.wnt s.wnt.lastMsg s.now
  discardPending { s with wnt := settle w } 4

/-- Every channel that is in use takes its claims and its value. -/
def refreshField (s : State) : State :=
  let cs := latchChannels s
  refreshAll (cs.foldl armClaims s) cs

/-- The time from which nobody served the launches: the boundary of a handover, else the last edge of the former owner's line (R369). -/
def unservedFrom (s : State) (launch : Nat) : Nat :=
  if launch ≤ s.now then launch - 1 else if s.pair.partnerEdge = 0 then s.now else s.pair.partnerEdge

/-- The module has taken the field: every path continues from the last committed state, and launch times before `launch` are not
served; those that the gap has already passed count as late (R269, R369). -/
def takeField (s : State) (launch : Nat) : State :=
  let s1 := takeClose (lateJumped (dropLog s) (unservedFrom s launch))
  let s2 := (latchChannels s1).foldl takeChannel s1
  let s3 := { s2 with hz := { s2.hz with batches := [] }, net := { s2.net with launchFrom := launch } }
  let s4 := refreshField (takeWalnut s3)
  post (ppdRaise (canTakeover s4) 0) .pairTakeover 0 (roleCode s4.pair.role) s4.pair.cause 0

/-- The new owner's station goes on in the state the partner showed. -/
def takeStation (s : State) : State :=
  match s.pair.partnerStation with
  | 1 => { s with exe := { s.exe with station := .stop } }
  | 2 => { s with exe := { s.exe with station := .run, stopCause := .none } }
  | _ => s

/-- A matched variable that lies in state memory keeps its bytes there, at its place in the new image (Table EXE-3). -/
def carryPlace (old : State) (s : State) (q : Nat × VarEntry) : State :=
  match q.2.place, var? old q.1 with
  | some a, some x => if x.init.length = q.2.init.length then areaPut s a (ownValue old x) else s
  | _, _ => s

/-- Variables, function blocks and exchange values matched by identity keep their values across a swap (R58). -/
def carryState (s0 old : State) : State :=
  let s := s0.exe.vars.foldl (carryPlace old) s0
  let keep (i : Nat) : Bool := s.exe.vars.any (fun q => decide (q.1 = i))
  { s with exe := { s.exe with
    vars := s.exe.vars.map (fun q => match var? old q.1 with
      | some x => if x.init.length = q.2.init.length then (q.1, { q.2 with value := ownValue old x }) else q
      | none => q)
    fbs := old.exe.fbs.filter (fun p => keep p.1)
    exchange := (old.exe.exchange.filter (fun p => keep p.1)).foldl (fun m p => storeSet (fun _ => []) m p.1 p.2) s.exe.exchange } }

/-- The PREPARING module starts the new image as a swap: matched state and outputs kept, the force choice applied, the change report
made (R58 to R60, Table EXE-3). -/
def swapStart (s : State) : State :=
  match s.exe.slotA with
  | none => s
  | some im =>
    let old := s.exe.image
    let objs := objectChanges old (some im) (fb s) ++ retainChanges (savedRetain s) (some im)
    let (s1, fs) := changeForces (carryState (installImage s im true) s) s (some im) s.pair.swapChoice (decide (old ≠ some im))
    let s2 := clearTasks s1
    { s2 with exe := { s2.exe with report := objs ++ fs, restart := .swap } }

/-- STANDBY or PREPARING takes the field (Table PPD-5). -/
def takeover (s : State) (r : Role) (cause : Nat) (byHandover : Bool) (launch : Nat) : State :=
  let preparing := decide (s.pair.role = .preparing)
  let s1 := changeRole s r cause
  let s2 := if preparing then swapStart s1 else s1
  let s3 := takeField (takeStation s2) launch
  if preparing && !byHandover then post s3 .swapByFailover 0 0 cause 0 else s3

/-- The station restarts from INIT on a module that owns the field now, and the field follows its outputs (Table EXE-1). -/
def startStation (s : State) : State :=
  refreshField (leaveInit { s with exe := { s.exe with station := .init } })

/-- SYNCING takes the field as ALONE: the outputs start from the preloads, and the station restarts from INIT (R267). -/
def takeSyncing (s : State) (cause : Nat) : State :=
  startStation (takeField (changeRole s .alone cause) (s.now + 20000))

/-- A module becomes an owner without a copied state: at the role decision, or by CLAIM (R256, R270). -/
def startOwner (s : State) (r : Role) (cause : Nat) : State := canTakeover (startStation (changeRole s r cause))

/-- The first two rows of Table PPD-5 for a role that follows, and SYNCING under R267, whose cause Table PPD-2 gives as TAKEOVER_HB. A module
with its own power-fail warning never takes over (R456). -/
def takeByLoss (s : State) (cause : Nat) : State :=
  if s.sup.pfw then s
  else if s.pair.role = .syncing then takeSyncing s 3
  else takeover s .alone cause false (s.now + 20000)

end Sys2Proof.Machine
end

