-- ==== Sys2Proof/Machine/Peapod.lean ====
section
/-! DEFINITION. Machine/Peapod.lean: the redundancy link and pair logic: training, IDENT, heartbeats, the state copy, takeovers, handovers,
resynchronisation and pair time (R254 to R281, R60, R61). -/
namespace Sys2Proof.Machine
open Sys2Proof

/-- Change the pair logic. -/
def modPair (s : State) (f : Pair → Pair) : State := { s with pair := f s.pair }

/-! ## Lanes and training (R257 to R263) -/

/-- A physical lane. -/
def lane (s : State) (k : Nat) : Lane := s.pair.lanes.getD k {}

/-- Change a physical lane. -/
def modLane (s : State) (k : Nat) (f : Lane → Lane) : State := modPair s (fun p => { p with lanes := modAt p.lanes k f })

/-- The link goes back to DETECT: heartbeats and copy stop, and every lane that is not retired trains again (R260). -/
def linkDetect (s : State) : State :=
  modPair s (fun p => { p with
    link := .detect, speed := 0, hbOk := false
    lanes := p.lanes.map (fun l => if l.state = 4 then l else { l with state := 0, logical := 15 }) })

/-- The measurements of lanes that are not retired. -/
def liveLanes (s : State) (ms : List LaneMeasure) : List LaneMeasure := ms.filter (fun m => decide ((lane s m.lane.val).state ≠ 4))

/-- A lane passes EQ: eye height at least 60 mV and eye width at least 0.35 UI, 45 in 1/128 UI (Table PPD-4). -/
def eyeOk (m : LaneMeasure) : Bool := decide (60 ≤ m.eyeH) && decide (45 ≤ m.eyeW)

/-- Note what EQ measured on a lane (PPD_LANE_EQ). -/
def noteEye (s : State) (m : LaneMeasure) : State :=
  modLane s m.lane.val (fun l => { l with
    state := 1, txPreset := m.txPreset.toNat, rxPreset := m.rxPreset.toNat, eyeH := min 255 (m.eyeH / 4), eyeW := min 255 m.eyeW })

/-- The better lane: eye height, then eye width, then the lower number. -/
def betterLane (a b : LaneMeasure) : Bool :=
  decide (b.eyeH < a.eyeH) || (decide (a.eyeH = b.eyeH) && (decide (b.eyeW < a.eyeW) || (decide (a.eyeW = b.eyeW) && decide (a.lane.val ≤ b.lane.val))))

/-- The four best lanes that are aligned become logical lanes 0 to 3, and a fifth that passed EQ is the spare (Table PPD-4). -/
def assignLanes (s : State) (ms : List LaneMeasure) : State :=
  let best := ((ms.filter (fun m => eyeOk m && m.aligned)).mergeSort betterLane).take 4
  let order := (best.map (fun m => m.lane.val)).mergeSort (fun a b => decide (a ≤ b))
  let spare := (ms.filter (fun m => eyeOk m && !order.contains m.lane.val)).map (fun m => m.lane.val)
  let s1 := order.zipIdx.foldl (fun t p => modLane t p.1 (fun l => { l with state := 2, logical := p.2, nextCheck := 0, replays := [], sent := 0, checks := 0, aligns := 0 })) s
  spare.foldl (fun t k => modLane t k (fun l => { l with state := 3, logical := 15 })) s1

/-- At least three lanes satisfy a condition. -/
def three (ms : List LaneMeasure) (p : LaneMeasure → Bool) : Bool := decide (3 ≤ (ms.filter p).length)

/-- The SHA-384 of the running image, 0 without one (R261). -/
def ownHash (s : State) : Nat := (s.exe.image.map (·.hash)).getD 0

/-- A fresh challenge of 48 bytes goes to the partner (R261). What the trust element draws is free (log 120). -/
def sendChallenge (s : State) : State :=
  let b := (List.range 12).flatMap (fun k => leBytes 4 (Config.freeValue (s.free + k)).toNat)
  modPair { s with free := s.free + 12 } (fun p => { p with challenge := b, outbox := p.outbox ++ [.challenge b] })

/-- What the device key signs in IDENT: SHA-384 of the partner's challenge, the serial number of 8 bytes, most significant first, and the
PAIR_SIDE byte (Table TRU-1). -/
def identSigned (s : State) (challenge : List Byte) : List Byte :=
  sha384 (challenge ++ (leBytes 8 s.tru.device.serial).reverse ++ leBytes 1 (b2n s.sup.sideB))

/-- What this module sends in IDENT: its certificate, the carrier's serial number, its side, its station ID, its image's hash and its
signature over the partner's challenge, none while the key self-test has failed (R261, R426; log 120). -/
def sendIdent (s : State) (challenge : List Byte) : State :=
  let sig := if s.tru.keyOk then Config.deviceSign (identSigned s challenge) else []
  let s1 := modPair s (fun p => { p with outbox :=
    p.outbox ++ [.ident (deviceCert s.tru.device) s.sup.carrier s.sup.sideB s.sup.stationId (ownHash s) sig] })
  if s.tru.keyOk then countUp s1 Reg.truSnapSign 0 else s1

/-- One training phase passes (Table PPD-4). -/
def trainPhase (s : State) (ms : List LaneMeasure) : State :=
  match s.pair.link with
  | .detect =>
    if three ms (fun m => m.detected) then
      (ms.filter (fun m => m.detected)).foldl (fun t m => modLane t m.lane.val (fun l => { l with state := 1 })) (modPair s (fun p => { p with link := .speed }))
    else s
  | .speed =>
    if three ms (fun m => m.lock12) then modPair s (fun p => { p with link := .eq, speed := 2 })
    else if decide (regField s Reg.ppdCfg 0 1 1 = 1) && three ms (fun m => m.lock6) then modPair s (fun p => { p with link := .eq, speed := 1 })
    else s
  | .eq => if three ms eyeOk then (ms.foldl noteEye (modPair s (fun p => { p with link := .align }))) else s
  | .align =>
    if three ms (fun m => eyeOk m && m.aligned) then sendChallenge (assignLanes (modPair s (fun p => { p with link := .ident })) ms) else s
  | _ => s

/-- TRAIN_PHASE_DONE (R260): a training phase passes on at least three lanes. -/
def execTrainPhaseDone (lanes : List LaneMeasure) (s : State) : Host.Outcome State Fault Refusal :=
  .next (trainPhase s (liveLanes s lanes))

/-- TRAIN_FAIL (R260): a phase fails, and the link is back at DETECT. -/
def execTrainFail (s : State) : Host.Outcome State Fault Refusal :=
  match s.pair.link with
  | .down => .next s
  | .ready => .next s
  | .identFail => .next s
  | _ => .next (linkDetect s)

/-- The running image fits a link at 6.25 Gb/s (R275). -/
def fitsHalfSpeed (s : State) : Bool :=
  match s.exe.image with
  | some im =>
    let t := im.header.baseCycle
    decide (9 * im.copy.lines + worstCycle im.loops (t / 50) ≤ copyCapacity t / 2)
  | none => true

/-- The checks of IDENT in their order (R261); with its own key self-test failed the first one fails (R426). -/
def identOk (s : State) (d : IdentData) : Bool :=
  s.tru.keyOk && d.certOk && decide (d.carrier = s.sup.carrier) && (d.sideB != s.sup.sideB) && decide (d.stationId = s.sup.stationId)

/-- IDENT fails: the link stays at IDENT_FAIL; side B, and a module that sees the partner's line toggling, become OFFLINE (R261). -/
def identFailed (s : State) : State :=
  let s1 := ppdRaise (modPair s (fun p => { p with link := .identFail, hbOk := false })) 6
  if s.sup.sideB || s.pair.partnerLine then
    modPair (changeRole s1 .offline 8) (fun p => { p with decided := true, cause := 8 })
  else s1

/-- IDENT passes: the link is READY. An ORPHAN becomes SYNCING (R270); a link too slow for the image holds a newcomer (R275). -/
def identPassed (s : State) (d : IdentData) : State :=
  let slow := decide (s.pair.speed = 1) && !fitsHalfSpeed s
  let s1 := modPair s (fun p => { p with link := .ready, ident := some d, speedHeld := slow, newcomer := !owner s })
  let s2 := if s1.pair.role = .orphan then changeRole s1 .syncing 14 else s1
  let s3 := if slow && decide (s2.pair.role = .syncing) then modPair s2 (fun p => { p with cause := 9 }) else s2
  send (if s3.sup.step = 9 then { s3 with sup := { s3.sup with step := 10 } } else s3) (.role { role := s3.pair.role })

/-- IDENT (R261): the partner's challenge is answered, and its own IDENT checked. -/
def execIdent (d : IdentData) (s : State) : Host.Outcome State Fault Refusal :=
  if s.pair.link = .ident then
    let s1 := sendIdent s d.challenge
    .next (if identOk s d then identPassed s1 d else identFailed s1)
  else .next s

/-- CHECK (R258): a failing CRC or a lost block is answered with NAK, and the number is awaited again. -/
def execCheck (lane_ : Fin 5) (number : Byte) (crcOk : Bool) (s : State) : Host.Outcome State Fault Refusal :=
  let k := lane_.val
  let l := lane s k
  if l.state ≠ 2 then .next s
  else if crcOk && decide (number.toNat = l.nextCheck) then .next (modLane s k (fun l => { l with nextCheck := (l.nextCheck + 1) % 256 }))
  else .next (send (modLane s k (fun l => { l with checkErrors := l.checkErrors + 1 })) (.nak k l.nextCheck))

/-- NAK (R258): the 31 blocks before that check are replayed on the lane, and the replay is counted (R262). -/
def execNak (lane_ : Fin 5) (number : Byte) (s : State) : Host.Outcome State Fault Refusal :=
  let k := lane_.val
  if (lane s k).state ≠ 2 then .next s
  else
    let s1 := modLane s k (fun l => { l with replays := s.now :: l.replays.filter (fun t => decide (s.now < t + 1000000)) })
    .next (send (countUp s1 Reg.ppdSnapReplay 0) (.replay k number.toNat))

/-- ALIGN (R258): the receiver takes out up to 32 blocks of skew. -/
def execAlign (lane_ : Fin 5) (_logical : BitVec 2) (skew : Nat) (s : State) : Host.Outcome State Fault Refusal :=
  if skew ≤ 32 then .next (modLane s lane_.val (fun l => { l with skew := skew })) else .next s

/-- A lane of a state, the lowest first. -/
def laneIn (s : State) (st : Nat) : Option Nat := (List.range 5).find? (fun k => decide ((lane s k).state = st))

/-- Fewer than three lanes are in service: an ACTIVE module leaves at the next boundary, and a STANDBY module becomes SYNCING (R263). -/
def fewLanes (s : State) : State :=
  if 3 ≤ lanesInService s then s
  else if s.pair.role = .active then modPair s (fun p => { p with lanesShort := true })
  else if s.pair.role = .standby then changeRole s .syncing 7
  else s

/-- A lane is retired: flagged and posted, and in the sprout record (R262, R300). -/
def postRetired (s : State) (k : Nat) : State :=
  let g := (lane s k).logical
  post (ppdRaise (writeSproutRecord (modLane s k (fun l => { l with state := 4, logical := 15 }))) 4) .ppdLaneRetired k k g 0

/-- A spare lane is asked for with none left: EXHAUSTED (R299), and with three lanes in service LANE_NO_SPARE (R263). -/
def noSpareLane (s : State) : State :=
  if (laneIn s 3).isSome || (laneIn s 5).isSome then s
  else exhausted (if lanesInService s = 3 then post s .laneNoSpare 0 3 0 0 else s) 4

/-- A lane in service is retired: the spare trains as its logical lane, or none is left (R262, R263, R299). -/
def retireLinkLane (s : State) (k : Nat) : State :=
  let g := (lane s k).logical
  let s1 := postRetired s k
  match laneIn s1 3 with
  | some sp => if regField s1 Reg.ppdCfg 0 0 0 = 1 then modLane s1 sp (fun l => { l with state := 5, logical := g }) else s1
  | none => noSpareLane s1

/-- The first logical lane that no lane serves or trains for; 15 when all four are served. -/
def openLogical (s : State) : Nat :=
  ((List.range 4).find? (fun g => s.pair.lanes.all (fun l => !(decide (l.logical = g) && (decide (l.state = 2) || decide (l.state = 5)))))).getD 15

/-- The next of the retired lanes that RETRAIN_RETIRED named is retrained, while none trains (R262). -/
def retrainNext (s : State) : State :=
  if (laneIn s 5).isSome then s
  else match s.pair.retrain.filter (fun k => decide ((lane s k).state = 4)) with
    | [] => modPair s (fun p => { p with retrain := [] })
    | k :: rest =>
      let g := openLogical s
      modPair (modLane s k (fun l => { l with state := 5, logical := g })) (fun p => { p with retrain := rest })

/-- LANE_RETIRED (R262): a lane loses block lock or replays too often; one that was training leaves its logical lane unserved. -/
def execLaneRetired (lane_ : Fin 5) (s : State) : Host.Outcome State Fault Refusal :=
  let k := lane_.val
  match (lane s k).state with
  | 2 => .next (fewLanes (retireLinkLane s k))
  | 3 => .next (postRetired s k)
  | 5 => .next (noSpareLane (retrainNext (postRetired s k)))
  | _ => .next s

/-- LANE_SPROUTED (R262): a lane that trained alone joins as its logical lane at the next ALIGN, or is the spare again; the next retired lane
that was named is retrained. -/
def execLaneSprouted (lane_ : Fin 5) (s : State) : Host.Outcome State Fault Refusal :=
  let k := lane_.val
  let l := lane s k
  if l.state ≠ 5 then .next s
  else if l.logical < 4 then
    let s1 := sprouted (modLane s k (fun l => { l with state := 2, nextCheck := 0, replays := [], sent := 0, checks := 0, aligns := 0 }))
    .next (retrainNext (post (ppdRaise { s1 with spr := { s1.spr with ppdLane := true } } 5) .ppdLaneSprouted k k l.logical 0))
  else .next (retrainNext (modLane s k (fun l => { l with state := 3 })))

/-- Every retired lane is to be retrained, one at a time (R262). -/
def retrainRetired (s : State) : State :=
  retrainNext (modPair s (fun p => { p with retrain := (List.range 5).filter (fun k => decide ((lane s k).state = 4)) }))

/-- PPD_RETRAIN_RETIRED (R262): PPD_CTRL.RETRAIN_RETIRED. -/
def execPpdRetrainRetired (r : Requester) (s : State) : Host.Outcome State Fault Refusal :=
  .next (actionWrite s Reg.ppdCtrl r retrainRetired)

/-- LINK_SPEED_RETRY (R275): a link that holds a newcomer at 6.25 Gb/s trains again. -/
def execLinkSpeedRetry (s : State) : Host.Outcome State Fault Refusal :=
  if s.pair.speedHeld && decide (s.pair.link = .ready) then .next (linkDetect s) else .next s

/-! ## Roles (R255, R256, R270) -/

/-- Side A's image does not make the sides change places (R256). -/
def sideAFirst (aValid bValid : Bool) (a b : List Nat) : Bool :=
  (!aValid && !bValid) || (aValid && !(bValid && lexLess a b))

/-- This module becomes ACTIVE when both decide together (R256). -/
def goesFirst (s : State) : Bool :=
  let own := (s.exe.image.map (fun im => [im.header.securityVersion, im.header.releaseVersion, im.header.buildTime])).getD []
  let (pv, pk) := match s.pair.ident with
    | some d => (d.imageValid, [d.security, d.release, d.buildTime])
    | none => (false, [])
  if s.sup.sideB then !sideAFirst pv s.exe.image.isSome pk own else sideAFirst s.exe.image.isSome pv own pk

/-- Step 11 of bring-up with its time; an owner's station has left INIT, which is step 12 (R448). -/
def decisionMade (s : State) : State :=
  { s with sup := { s.sup with
    step := if owner s then 12 else 11
    bootMs := min 65535 ((s.now - s.sup.startedAt) / 1000000) } }

/-- SYNCING at the decision: a slow link shows its own cause (R275). -/
def startSyncing (s : State) : State :=
  let s1 := changeRole s .syncing 2
  if s1.pair.speedHeld then modPair s1 (fun p => { p with cause := 9 }) else s1

/-- The link has had PPD_CFG.ROLE_WAIT since the module's own bring-up to reach READY (R256). -/
def roleWaited (s : State) : Bool := decide (s.sup.upAt + regField s Reg.ppdCfg 0 31 16 * 1000000 ≤ s.now)

/-- The panel's power-up redraw has ended, or is held: no crack, no cold and no Husk stops it (R421, Table RST-3). -/
def panelSettled (s : State) : Bool := decide (s.pnl.redraw = 0) || s.pnl.cracked || s.pnl.cold || held s 0xC

/-- ROLE_DECISION (R256): `partnerAtIdent` says that both modules reached IDENT together. -/
def execRoleDecision (partnerAtIdent : Bool) (s : State) : Host.Outcome State Fault Refusal :=
  if decide (s.pair.role ≠ .offline) || s.pair.decided || decide (s.sup.step < 9) || !panelSettled s then .next s
  else if s.pair.link = .ready then
    if s.pair.partnerRole ≤ 1 then .next (decisionMade (startSyncing s))
    else if partnerAtIdent then .next (decisionMade (if goesFirst s then startOwner s .active 2 else startSyncing s))
    else .next s
  else if !roleWaited s then .next s
  else if s.pair.partnerLine then .next (decisionMade (changeRole s .orphan 2))
  else .next (decisionMade (startOwner s .alone 1))

/-- ORPHAN_RETRAIN (R270). -/
def execOrphanRetrain (s : State) : Host.Outcome State Fault Refusal :=
  if s.pair.role ≠ .orphan then .next s
  else if s.pair.link = .ready then .next (changeRole s .syncing 14)
  else .next (linkDetect s)

/-- A claim of the field is accepted only in ORPHAN and after 1 s without an edge on the partner's line (R270). -/
def claimField (s : State) : State :=
  if s.pair.role = .orphan ∧ s.pair.partnerEdge + 1000000000 ≤ s.now then startOwner s .alone 10 else ppdRaise s 11

/-- CLAIM (R270): a write of PPD_CTRL.CLAIM. -/
def execClaim (r : Requester) (s : State) : Host.Outcome State Fault Refusal :=
  .next (actionWrite s Reg.ppdCtrl r claimField)

/-- Enter OFFLINE by command; an ACTIVE module sends FAULT first (PPD_CTRL.GO_OFFLINE). -/
def goOffline (s : State) (cause : Nat) : State :=
  let s1 := if s.pair.role = .active then send s .fault else s
  modPair (partnerLost (changeRole s1 .offline cause)) (fun p => { p with decided := true })

/-- GO_OFFLINE (R255). -/
def execGoOffline (r : Requester) (s : State) : Host.Outcome State Fault Refusal :=
  .next (actionWrite s Reg.ppdCtrl r (fun s => goOffline s 10))

/-! ## Heartbeats and owner lines (R264 to R267) -/

/-- What BULK and CATCHUP send (R276): the force table, the island records of Table PPD-7 and Table ARC-2, the variables, and the bytes
`area` of the islands' state memory. -/
def bulkContent (s : State) (area : List (Nat × Byte)) : CopyContent :=
  { fieldContent s with
    outputs := ((latchChannels s).filter (fun c => (fe s c).written)).map (fun c => (c, (fe s c).writer))
    vars := s.exe.vars.map (fun p => (p.1, p.2.value)), fbs := s.exe.fbs
    forces := some (forceContent s), station := some s.exe.station
    claims := some (claimsNow s), gmu := some (gmuNow s)
    operators := s.hz.loops.map (fun p => (p.1, p.2.opMode, p.2.spTrackPv, p.2.opSp, p.2.opMv))
    params := s.hz.loops.map (fun p => (p.1, p.2.desc.params)), gmuInput := inputWords s, area := area }

/-- A pass sends its lines and every loop's state under the tag of bulk copy, and what is written from now on is marked (R276). -/
def sendBulk (s : State) (area : List (Nat × Byte)) : State :=
  let s1 := s.hz.loops.foldl (fun t p => send t (.hrec 0x3F p.1 false 0 (p.2.published ++ blockStateBytes p.2))) (send s (.copy 0x3F (bulkContent s area)))
  { s1 with exe := { s1.exe with dirty := [] } }

/-- The bytes of the lines marked since they were sent. -/
def dirtyBytes (s : State) : List (Nat × Byte) := s.exe.area.filter (fun p => s.exe.dirty.contains (p.1 / 64))

/-- Resynchronisation of the partner starts: IMAGE, with the running image sent, where the hashes differ, else BULK (R276). -/
def startResync (s : State) : State :=
  let differs := match s.pair.ident with
    | some d => decide (d.imageHash ≠ ownHash s)
    | none => false
  let s1 := modPair s (fun p => { p with streaming := false, streamNext := false, ackedTags := [], remain := 0, phase := if differs then 1 else 2 })
  if s.pair.role ≠ .active then s1
  else if differs then (match s.exe.image with
    | some im => send s1 (.image im)
    | none => s1)
  else sendBulk s1 s1.exe.area

/-- The copy can run: three lanes are in service, and the link's speed carries the image (R263, R275). -/
def canCopy (s : State) : Bool := decide (3 ≤ lanesInService s) && !s.pair.speedHeld

/-- A SYNCING partner at an owner: an ALONE module becomes ACTIVE, and an ACTIVE one copies its state (R263, R276, Table PPD-2). -/
def partnerSyncing (s : State) : State :=
  let s1 := if s.pair.role = .alone ∧ 3 ≤ lanesInService s then changeRole s .active 2 else s
  if decide (s1.pair.role = .active) && decide (s1.pair.phase = 0) && canCopy s1 then startResync (applyOutstanding s1) else s1

/-- What a heartbeat or ROLE message that shows the partner's role makes of this module (Table PPD-2). -/
def onPartnerRole (s : State) (r : Role) : State :=
  match r with
  | .syncing => partnerSyncing s
  | .offline => becomeAlone s 11
  | .orphan => becomeAlone s 11
  | .standby => concludeAll s (fun x => decide (x.opcode = 0x0206)) .ok 0 (fun _ _ => [])
  | .alone => s
  | .active =>
    if decide (s.pair.role = .syncing) && decide (s.pair.phase = 0) && canCopy s then startResync s else s
  | .preparing => s

/-- Own module time less a time that the partner sent as nanoseconds of its second, between −500 and +500 ms (R280). -/
def lagOf (s : State) (ns : Nat) : Int :=
  let d := (Int.ofNat (nsec s) - Int.ofNat ns) % 1000000000
  if 500000000 < d then d - 1000000000 else d

/-- HEARTBEAT (R264). -/
def execHeartbeat (h : HeartbeatBlock) (s : State) : Host.Outcome State Fault Refusal :=
  if s.pair.link ≠ .ready then .next s
  else
    let named := (s.exe.handover.bind (·.boundary)).isSome
    let s1 := modPair s (fun p => { p with
      hbOk := true, hbCount := h.count.toNat, hbNsec := h.nsec.toNat, partnerRole := roleCode h.role
      partnerStation := h.station.toNat, partnerWalnut := h.walnut.toNat, partnerFault := h.faultPending
      hbLag := lagOf s h.nsec.toNat, partnerPrepared := h.prepared, prepareAcked := p.prepareAcked || (named && h.prepared) })
    .next (onPartnerRole s1 h.role)

/-- The heartbeat that the module sends (Table PPD-3). -/
def ownHeartbeat (s : State) : HeartbeatBlock :=
  { role := s.pair.role, station := BitVec.ofNat 2 (stationCode s.exe.station), walnut := BitVec.ofNat 3 (shownIsland s.wnt [])
    ownDriven := s.own.ownDriven, ownSeen := s.own.ownSeen, partnerSeen := s.pair.partnerLine
    faultPending := decide (s.own.moduleFaults ≠ []) || s.sup.pfw, prepared := s.pair.prepared.isSome
    count := BitVec.ofNat 8 s.pair.hbSent, nsec := BitVec.ofNat 32 (nsec s) }

/-- HEARTBEAT_SEND (R264): one on every lane in service. -/
def execHeartbeatSend (s : State) : Host.Outcome State Fault Refusal :=
  let s1 := (List.range (lanesInService s)).foldl (fun t _ => send t (.heartbeat (ownHeartbeat s))) s
  .next (modPair s1 (fun p => { p with hbSent := (p.hbSent + 1) % 256 }))

/-- HEARTBEAT_LOST (R264, R266, R267): the partner is lost; by its owner line the module takes the field or becomes ORPHAN. -/
def execHeartbeatLost (s : State) : Host.Outcome State Fault Refusal :=
  if !s.pair.hbOk then .next s
  else
    let s1 := partnerLost (modPair (linkDetect s) (fun p => { p with partnerRole := 7 }))
    if s1.pair.role = .active then .next (becomeAlone s1 11)
    else if !follower s1 then .next s1
    else if s1.pair.partnerLine then .next (post (changeRole s1 .orphan 12) .pairOrphan 0 0 0 0)
    else .next (takeByLoss s1 3)

/-- PARTNER_LINE_RELEASED (R265): 3 µs without an edge on the partner's line; with the heartbeat lost too, the module takes the field. -/
def execPartnerLineReleased (s : State) : Host.Outcome State Fault Refusal :=
  let s1 := modPair s (fun p => { p with partnerLine := false })
  if follower s1 && !s1.pair.hbOk then .next (takeByLoss s1 3) else .next s1

/-- OWN_LINE_FAULT (R265): no edge on the own line for 1 µs while it is driven: a module fault. -/
def execOwnLineFault (s : State) : Host.Outcome State Fault Refusal :=
  if owner s && s.own.ownDriven then .next (moduleFault s .ownLine 0 0 0) else .next s

/-- OWNER_LINE_FAULT (Table PPD-5): the heartbeat is there, the partner's line released, and no message came within 10 µs. -/
def execOwnerLineFault (s : State) : Host.Outcome State Fault Refusal :=
  if decide (s.pair.role = .standby) && s.pair.hbOk && !s.pair.partnerLine then .next (post (ppdRaise s 7) .ownerLineFault 0 0 0 0)
  else .next s

/-! ## Messages (R258, R266, R364) -/

/-- FAULT_MESSAGE (R266, R267): the partner becomes OFFLINE; a STANDBY or PREPARING module takes the field as ALONE, while a SYNCING one
does so only on the second row of Table PPD-5. -/
def execFaultMessage (s : State) : Host.Outcome State Fault Refusal :=
  let s1 := modPair s (fun p => { p with partnerRole := 6, partnerFault := true })
  if s1.pair.role = .active then .next (becomeAlone s1 11)
  else if follower s1 then .next (partnerLost (if s1.pair.role = .syncing then s1 else takeByLoss s1 4))
  else .next s1

/-- HANDOVER_PREPARE (R277): the boundary is noted and acknowledged. -/
def execHandoverPrepare (boundary : Nat) (s : State) : Host.Outcome State Fault Refusal :=
  if s.pair.role = .standby ∨ s.pair.role = .preparing then
    .next (send (modPair s (fun p => { p with prepared := some boundary })) (.prepareAck boundary))
  else .next s

/-- The slot that began at the handover boundary, which this module did not run as a STANDBY, runs now (R277). -/
def runGivenSlot (s : State) (b : Nat) : State :=
  let n := s.now / 50000
  if decide (s.hz.slot = some n) && decide (b ≤ n * 50000) && !held s 2 then runLoops s n else s

/-- The tasks due at the handover boundary, which this module did not release as a STANDBY, are released now: their input images come
from the cycle latch of that boundary (R27, Tables EXE-5 and PPD-10). -/
def releaseGiven (s : State) (b : Nat) : State := if s.exe.lastBoundary = b then releaseDue s b else s

/-- HANDOVER_MESSAGE (R266, R277): the module becomes ACTIVE; a former active of a plain handover is STANDBY at once and commits stream
to it, one of a swap resynchronises (R278). -/
def execHandoverMessage (s : State) : Host.Outcome State Fault Refusal :=
  if s.pair.role = .standby ∨ s.pair.role = .preparing then
    let swap := decide (s.pair.role = .preparing)
    let b := s.pair.prepared.getD s.now
    let s1 := releaseGiven (runGivenSlot (takeover s .active 5 true b) b) b
    let s2 := { s1 with gmu := { s1.gmu with copied := none } }
    let s3 := modPair s2 (fun p => { p with partnerRole := if swap then 3 else 2, streaming := !swap, phase := if swap then 2 else 0 })
    .next (if swap then sendBulk s3 s3.exe.area else s3)
  else .next s

/-- YIELD (R266): the module takes the field as ACTIVE, and the yielding partner resynchronises. -/
def execYield (s : State) : Host.Outcome State Fault Refusal :=
  if s.pair.role = .standby ∨ s.pair.role = .preparing then
    let s1 := takeover s .active 17 false (s.now + 20000)
    .next (startResync (modPair s1 (fun p => { p with partnerRole := 3 })))
  else .next s

/-- A swap request of the owner reaches the standby (R60; log 31): it enters PREPARING when it holds the same new image, by its
SHA-384, else it declines. -/
def swapAsked (s : State) (a : SwapAsk) : State :=
  match a with
  | .none => s
  | .prepare choice hash =>
    if s.pair.role = .standby then
      if newImageCommitted s && decide (s.exe.slotA.map (·.hash) = some hash) then modPair (changeRole s .preparing 15) (fun p => { p with swapChoice := choice, swapReady := false })
      else send s (.role { role := .standby, swap := .cancel })
    else s
  | .cancel =>
    if s.pair.role = .preparing then
      let s1 := modPair (changeRole s .standby 16) (fun p => { p with swapReady := false, swapChoice := .none })
      send s1 (.role { role := .standby })
    else concludeAll s (fun x => decide (x.opcode = 0x0205)) .badParam 0xFFFFFFFF (fun _ _ => [])

/-- ROLE_MESSAGE (R263, R273, Table PPD-2): the partner's role; a STANDBY module whose owner is now ALONE becomes SYNCING. -/
def execRoleMessage (note : RoleNote) (s : State) : Host.Outcome State Fault Refusal :=
  let s1 := modPair s (fun p => { p with partnerRole := roleCode note.role, partnerNoSpare := note.noSpare })
  let s2 := if s1.pair.role = .standby ∧ note.role = .alone then changeRole s1 .syncing (if lanesInService s1 < 3 then 7 else 6) else s1
  .next (swapAsked (onPartnerRole s2 note.role) note.swap)

/-- TIME_MESSAGE (R364): a step of the owner's time, applied at the same instant. -/
def execTimeMessage (step : Int) (instant : Nat) (s : State) : Host.Outcome State Fault Refusal :=
  if owner s then .next s else .next { s with net := { s.net with step := some (step, instant) } }

/-! ## The state copy (R271 to R273) -/

/-- LINE (R271, R272): a line of memory is logged. -/
def execLine (tag : Byte) (mask region : BitVec 4) (index : BitVec 24) (data : List Byte) (content : CopyContent) (s : State) :
    Host.Outcome State Fault Refusal :=
  .next (logEntry s (.line tag.toNat region.toNat index.toNat mask.toNat data content))

/-- HREC (R271, R272): a Hazel record is logged; the last of a batch commits it. -/
def execHrec (tag : Byte) (loop : BitVec 12) (commit : Bool) (seq : Nat) (data : List Byte) (s : State) : Host.Outcome State Fault Refusal :=
  let s1 := logEntry s (.hrec tag.toNat loop.toNat data)
  if commit then .next (takeCommit s1 tag.toNat seq) else .next s1

/-- IREC (R272): an island record is logged. -/
def execIrec (tag : Byte) (data : List Byte) (content : CopyContent) (s : State) : Host.Outcome State Fault Refusal :=
  .next (logEntry s (.irec tag.toNat data content))

/-- COMMIT (R272): acknowledged, and the tag's entries applied. -/
def execCommit (tag : Byte) (seq : Nat) (s : State) : Host.Outcome State Fault Refusal := .next (takeCommit s tag.toNat seq)

/-- PENDING_LOG_FULL (R273): the pair ends with ACK_LATE. -/
def execPendingLogFull (s : State) : Host.Outcome State Fault Refusal :=
  if s.pair.role = .standby then .next (modPair (changeRole s .syncing 6) (fun p => { p with log := [] }))
  else if s.pair.role = .active then .next (send (becomeAlone (ppdRaise s 3) 6) (.role { role := .alone }))
  else .next s

/-! ## Resynchronisation (R276) -/

/-- The newcomer takes the owner's image: written to its slot and run, or refused as at load (R63, R276). -/
def adoptImage (s : State) (im : Image) : State :=
  let s1 := verifyImage s im
  if (imageRefusal s im none).isNone then
    modPair (installImage { s1 with exe := { s1.exe with slotA := some im } } im false) (fun p => { p with phase := 2 })
  else modPair (changeRole s1 .offline 8) (fun p => { p with phase := 0 })

/-- A phase ends on the newcomer. -/
def resyncFollower (s : State) (marked : Nat) (image : Option Image) : State :=
  match s.pair.phase, image with
  | 1, some im => adoptImage s im
  | 2, _ => modPair s (fun p => { p with phase := 3, remain := marked })
  | 3, _ => modPair s (fun p => { p with remain := marked })
  | _, _ => s

/-- A phase or pass ends on the owner: the next one sends what was marked; after a pass that ends with 1,024 marked lines or fewer, those are
sent and commits stream from the next base-cycle boundary (R276). -/
def resyncOwner (s : State) (marked : Nat) : State :=
  match s.pair.phase with
  | 1 => sendBulk (modPair s (fun p => { p with phase := 2, remain := marked })) s.exe.area
  | 2 => sendBulk (modPair s (fun p => { p with phase := 3, remain := marked })) (dirtyBytes s)
  | 3 =>
    let s1 := sendBulk s (dirtyBytes s)
    if marked ≤ 1024 then modPair s1 (fun p => { p with streamNext := true, remain := 0 }) else modPair s1 (fun p => { p with remain := marked })
  | _ => s

/-- RESYNC_PHASE_DONE (R276). -/
def execResyncPhaseDone (marked : Nat) (image : Option Image) (s : State) : Host.Outcome State Fault Refusal :=
  if s.pair.role = .syncing then .next (resyncFollower s marked image)
  else if s.pair.role = .active && !s.pair.streaming && !s.pair.streamNext then .next (resyncOwner s marked)
  else .next s

/-- The writer tags that commit while the station is in its state: the tasks' in RUN, the pods' that run loops, the executive's, the GMU's,
Gourd's and the field channel array's (Table PPD-3). -/
def writerTags (s : State) : List Nat :=
  let tasks := if s.exe.station = .run then (s.exe.tasks.filter (fun p => p.2.defined && decide (p.2.state ≠ .fault))).map (·.1) else []
  let pods := (s.hz.loops.map (fun p => podOf s p.2)).filter (fun p => decide (0 < p))
  tasks ++ (pods.map (fun p => 0x20 + p - 1)).dedup ++ [0x10, 0x30, 0x31, 0x32]

/-- PAIR_SYNCED (R276): the newcomer is STANDBY at the first acknowledged COMMIT of every writer tag. -/
def execPairSynced (s : State) : Host.Outcome State Fault Refusal :=
  if s.pair.role = .syncing then
    if s.pair.phase = 3 then
      let s1 := modPair (changeRole s .standby 13) (fun p => { p with phase := 0, remain := 0 })
      .next { s1 with sup := { s1.sup with step := 12 } }
    else .next s
  else if paired s && decide (s.pair.phase = 3) && (writerTags s).all (fun t => s.pair.ackedTags.contains t) then
    .next (post (ppdRaise (modPair s (fun p => { p with phase := 0, remain := 0 })) 8) .pairSynced 0 0 0 0)
  else .next s

/-! ## Handover and swap (R60, R61, R277 to R279) -/

/-- HANDOVER (0x0105, R61, R277). -/
def execHandover (c : Ctx) (swap : Bool) (s : State) : Host.Outcome State Fault Refusal :=
  .next (command s c 0x0105 1 (.handover c swap) (owner s) (fun s =>
    let partnerOk := if swap then decide (s.pair.partnerRole = 4) && s.pair.swapReady else decide (s.pair.partnerRole = 2)
    if decide (s.pair.role ≠ .active) || !partnerOk then refuse s c 0x0105 .wrongRole (roleCode s.pair.role)
    else if s.exe.handover.isSome then refuse s c 0x0105 .busy 0
    else accept (startHandover s swap false) c 0x0105 .acceptedPending 0 1 0))

/-- The handover boundary: the first base-cycle boundary at least 20 µs away (R277). -/
def handoverBoundary (s : State) : Nat := (s.now + 20000 + baseNs s - 1) / baseNs s * baseNs s

/-- HANDOVER_DRAINED (R61, R277): every instance has ended and every commit is acknowledged: the boundary is named to the partner. -/
def execHandoverDrained (s : State) : Host.Outcome State Fault Refusal :=
  match s.exe.handover with
  | none => .next s
  | some h =>
    if h.boundary.isSome || anyRunning s || decide (s.own.outstanding ≠ []) then .next s
    else
      let b := handoverBoundary s
      .next (send { s with exe := { s.exe with handover := some { h with boundary := some b } }, pair := { s.pair with prepareAcked := false } }
        (.handoverPrepare b))

/-- Withheld tasks are released again from the next boundary (R61). -/
def resumeReleases (s : State) : State :=
  { s with exe := { s.exe with
    handover := none, tasks := s.exe.tasks.map (fun p => (p.1, if p.2.state = .withheld then { p.2 with state := .idle } else p.2)) } }

/-- HANDOVER_DRAIN_EXPIRY (R61, R266): the handover is abandoned with BUSY; one of the module's own making yields instead. -/
def execHandoverDrainExpiry (s : State) : Host.Outcome State Fault Refusal :=
  match s.exe.handover with
  | none => .next s
  | some h =>
    if h.boundary.isSome then .next s
    else
      let s1 := concludeAll (resumeReleases s) (fun x => decide (x.opcode = 0x0105)) .busy 0 (fun _ _ => [])
      if h.internal then .next (startCoreSwap (yieldField s1)) else .next s1

/-- At the boundary the former active goes on as STANDBY, or after a swap as SYNCING with the new image (R277, R278). -/
def giveField (s : State) (swap : Bool) : State :=
  let s1 := modPair (changeRole s (if swap then .syncing else .standby) 5) (fun p => { p with partnerRole := 1 })
  if swap then
    match s1.exe.slotA with
    | some im => modPair (installImage s1 im false) (fun p => { p with phase := 2 })
    | none => s1
  else s1

/-- HANDOVER_BOUNDARY (R277, Table PPD-10): HANDOVER is sent, the owner line stops, and the command is answered with the boundary. -/
def execHandoverBoundary (s : State) : Host.Outcome State Fault Refusal :=
  match s.exe.handover with
  | none => .next s
  | some h => match h.boundary with
    | none => .next s
    | some b =>
      if s.now < b ∨ s.pair.prepareAcked = false then .next s
      else
        let s1 := ppdRaise (driveLine (send s .handover) false) 1
        let s2 := concludeAll s1 (fun x => decide (x.opcode = 0x0105)) .ok 0 (fun _ _ => leBytes 8 (b / 1000000000) ++ leBytes 4 (b % 1000000000))
        .next (startCoreSwap (giveField s2 h.swap))

/-- SWAP_PREPARE (0x0205, R60). -/
def execSwapPrepare (c : Ctx) (choice : ForceChoice) (s : State) : Host.Outcome State Fault Refusal :=
  .next (command s c 0x0205 1 (.swapPrepare c choice) (decide (s.pair.role ≠ .offline)) (fun s =>
    if !hasStandby s then refuse s c 0x0205 .wrongRole (roleCode s.pair.role)
    else if choice = .none then refuse s c 0x0205 .badParam 0
    else if !newImageCommitted s then refuse s c 0x0205 .badParam 0xFFFFFFFF
    else
      let s1 := send (modPair s (fun p => { p with swapReady := false }))
        (.role { role := .active, swap := .prepare choice ((s.exe.slotA.map (·.hash)).getD 0) })
      accept s1 c 0x0205 .acceptedPending 0 1 0))

/-- SWAP_CANCEL (0x0206, Table PPD-2): a SWAP_PREPARE that still waits ends with it. -/
def execSwapCancel (c : Ctx) (s : State) : Host.Outcome State Fault Refusal :=
  .next (command s c 0x0206 1 (.swapCancel c) (decide (s.pair.role ≠ .offline)) (fun s =>
    if decide (s.pair.role ≠ .active) || decide (s.pair.partnerRole ≠ 4) then refuse s c 0x0206 .wrongRole (roleCode s.pair.role)
    else
      let s1 := concludeAll s (fun x => decide (x.opcode = 0x0205)) .wrongRole 4 (fun _ _ => [])
      await (send (modPair s1 (fun p => { p with swapReady := false })) (.role { role := .active, swap := .cancel })) c 0x0206 1 0))

/-- SWAP_READY (R60): the PREPARING module's translated state is complete; at the active one the message answers SWAP_PREPARE. -/
def execSwapReady (s : State) : Host.Outcome State Fault Refusal :=
  if s.pair.role = .preparing then .next (send (modPair s (fun p => { p with swapReady := true })) .swapReady)
  else if s.pair.role = .active then
    .next (concludeAll (modPair s (fun p => { p with swapReady := true })) (fun x => decide (x.opcode = 0x0205)) .ok 0 (fun _ _ => []))
  else .next s

/-! ## Pair time (R280) -/

/-- The offset has been above 20 ns for 1 s: flagged and posted once (R280). -/
def noteDivergence (s : State) : State :=
  if s.pair.offset.natAbs ≤ 320 then modPair s (fun p => { p with divergedSince := none, diverged := false })
  else
    let since := s.pair.divergedSince.getD s.now
    let s1 := modPair s (fun p => { p with divergedSince := some since })
    if since + 1000000000 ≤ s.now && !s.pair.diverged then
      post (ppdRaise (modPair s1 (fun p => { p with diverged := true })) 9) .pairTimeDiverged 0 (wordOfInt s.pair.offset).toNat 0 0
    else s1

/-- PAIR_TIME_OFFSET (R280, R363): own time minus the partner's in 1/16 ns; what the last heartbeat lags beyond it is the link delay. A
newcomer steps to the owner's time once. -/
def execPairTimeOffset (offset : Int) (s : State) : Host.Outcome State Fault Refusal :=
  let s1 := noteDivergence (modPair s (fun p => { p with offset := offset, linkDelay := 16 * p.hbLag - offset }))
  let s2 := modPair s1 (fun p => { p with newcomer := p.newcomer && !follower s1 })
  if follower s1 && s1.pair.newcomer && decide (roundDiv offset 16 ≠ 0) then .next (stepTime s2 (- roundDiv offset 16)) else .next s2

/-! ## Registers (R281) -/

/-- PPD_LANE. -/
def ppdLane (s : State) : Word := word (((List.range 5).map (fun k => (lane s k).state * 16 ^ k)).sum)

/-- PPD_LANE_EQ of the lane PPD_LANESEL selects; 5 to 7 select nothing. -/
def ppdLaneEq (s : State) : Word :=
  let k := regField s Reg.ppdLanesel 0 2 0
  if 5 ≤ k then 0
  else
    let l := lane s k
    fieldWord 31 28 l.txPreset ||| fieldWord 27 24 l.rxPreset ||| fieldWord 19 16 l.logical ||| fieldWord 15 8 l.eyeH ||| fieldWord 7 0 l.eyeW

/-- PPD_SYNC. -/
def ppdSync (s : State) : Word := fieldWord 31 28 s.pair.phase ||| fieldWord 23 0 s.pair.remain

end Sys2Proof.Machine
end

