-- ==== Sys2Proof/Machine/Sprout.lean ====
section
/-! DEFINITION. Machine/Sprout.lean: the spare-resource manager: front-ends, core pair Z, oscillator 3 and holdup cell 6 (R114, R136 to
R140, R298 to R307). -/
namespace Sys2Proof.Machine
open Sys2Proof

/-! ## Spare front-ends (R136 to R140, R299) -/

/-- FE_FAILURE (R136, R139): the self-test of a front-end's isolated supply or input reference has failed, or Sprout judges it failed; what
its frames tell is judged in COUPLER_FRAME. -/
def execFeFailure (n : Fin 216) (s : State) : Host.Outcome State Fault Refusal := .next (feFailure s n.val)

/-- FE_WINDOW_TIMEOUT (R114): the access under way gets no ACYC_ST = 01 within 25 µs: a write is discarded, a read returns all ones, and so
does every further access until a good frame comes. -/
def execFeWindowTimeout (n : Fin 216) (s : State) : Host.Outcome State Fault Refusal :=
  let c := channelOf s n.val
  let s1 := modFe s c (fun f => { f with acyc := f.acyc.tail, acycDone := 0, silent := true })
  .next (raise (setReg s1 Reg.fchIdxData 0 0xFFFFFFFF#32) Reg.fchFlags c 1)

/-- The first channel that waits for a bring-in, that its policy lets start now, and whose group has a free spare (R137, R299). -/
def nextSprout (s : State) : Option Nat :=
  (s.spr.feQueue.find? (fun p => policyAllows s p.1 && (freeSpare s p.1).isSome)).map (·.1)

/-- SPROUT_START (R299, Table FCD-10): the crosspoint disconnects the front-end; its output no longer reaches the terminal. One bring-in
runs at a time in the array. -/
def execSproutStart (s : State) : Host.Outcome State Fault Refusal :=
  if s.spr.feBusy.isSome then .next s
  else match nextSprout s with
    | none => .next s
    | some c =>
      let s1 := { s with spr := { s.spr with feBusy := some c, feQueue := s.spr.feQueue.filter (fun p => p.1 ≠ c) } }
      .next (refresh (modFe s1 c (fun f => { f with sprouting := true, broken := true, lastGood := false, state := .unarmed, feDemand := 0 })) c)

/-- The waiting CH_SPROUT commands of a channel. -/
def sproutCommand (c : Nat) (x : Executing) : Bool := decide (x.opcode = 0x0503) && decide (x.subject = c)

/-- Channels that wait although their group has no spare left stay FAILED (R137, R299). -/
def dropUnserved (s : State) : State :=
  let gone := s.spr.feQueue.filter (fun p => (freeSpare s p.1).isNone)
  let s1 := { s with spr := { s.spr with feQueue := s.spr.feQueue.filter (fun p => (freeSpare s p.1).isSome) } }
  gone.foldl (fun t p => refresh (concludeAll (exhausted t 0) (sproutCommand p.1) .badParam 0 (fun _ _ => [])) p.1) s1

/-- The spare is configured as the channel, counts on from the last latched count (R135), and serves it with the grant the channel
holds (R138), preloaded with its last committed output value (R30). It brings its own calibration; the failed front-end's is not transferred
(R162). What latched the channel FAILED stays latched (R129). -/
def connectSpare (s : State) (c sp : Nat) : State :=
  let m := modeOf s c
  let st : FeState := if !factoryOk s sp then .failed else if m = 0 then .unarmed else .armed
  let s1 := modFe s c (fun f => { f with
    link := some sp, sprouting := false, broken := false, badRun := 0, goodRun := 0, silent := false, gap := false, flags := 0
    state := st, seenState := st
    lastGood := true, value := if m = 6 then 0 else f.value, edgeCount := 0
    count := if m = 6 then (latched s.fch.cycleLatch c).value - f.countOffset else f.count
    safeCounts := BitVec.ofNat 16 (safeSetting s c)
    isolated := (fe s sp).isolated, userValid := (fe s sp).userValid, factoryValid := factoryOk s sp
    temperature := (fe s sp).temperature
    useUserNow := (fe s sp).userValid && decide (cfgField s Reg.fchCal c 1 1 = 1)
    userInUse := (fe s sp).userStaged.getD (fe s sp).userInUse, userStaged := none, goodAt := s.now, gateEdges := 0 })
  let s2 := refresh (modFe s1 sp (fun f => { f with link := some c })) c
  modFe s2 c (fun f => { f with feDemand := if owner s2 then f.driven else BitVec.ofNat 16 (preloadDemand s2 c) })

/-- SPROUT_COMPLETE (R137, Table FCD-10 step 5): the spare is armed, connected and conducting. -/
def execSproutComplete (s : State) : Host.Outcome State Fault Refusal :=
  match s.spr.feBusy with
  | none => .next s
  | some c =>
    let s0 := { s with spr := { s.spr with feBusy := none } }
    match freeSpare s0 c with
    | none => .next (dropUnserved (refresh (exhausted (failChannel (modFe s0 c (fun f => { f with sprouting := false })) c) 0) c))
    | some sp =>
      let s1 := post (sprouted (connectSpare s0 c sp)) .chSprouted c c sp 0
      .next (dropUnserved (concludeAll s1 (sproutCommand c) .ok 0 (fun _ _ => [])))

/-- SPARE_SELFTEST (R140): the self-test of an idle spare; one that fails leaves service. Its claim ends (Table PWB-1). -/
def execSpareSelftest (n : Fin 24) (pass : Bool) (s : State) : Host.Outcome State Fault Refusal :=
  let k := 192 + n.val
  let s1 := endClaim s (.spareSelftest k)
  if pass || (fe s k).link.isSome || (fe s k).broken then .next s1
  else .next (writeSproutRecord (modFe s1 k (fun f => { f with broken := true })))

/-- Another channel of the same group is being brought in or waits (Table CMD-10). -/
def groupSprouting (s : State) (c : Nat) : Option Nat :=
  (s.spr.feBusy.toList ++ s.spr.feQueue.map (·.1)).find? (fun x => decide (groupOf x = groupOf c))

/-- CH_SPROUT (0x0503, R299, Table CMD-10): a bring-in is asked for. The spare asked for must be free and of the channel's group. -/
def execChSprout (c : Ctx) (ch spare : BitVec 8) (s : State) : Host.Outcome State Fault Refusal :=
  .next (command s c 0x0503 0x3 (.chSprout c ch spare) (ownerRole s.pair.role) (fun s =>
    let n := ch.toNat
    let k := spare.toNat
    if 192 ≤ n then refuse s c 0x0503 .badParam 0
    else match groupSprouting s n with
      | some x => refuse s c 0x0503 .busy x
      | none =>
        let m := modeOf s n
        let runOk := (fe s n).failed || (fe s n).broken || decide (s.exe.station ≠ .run) || isAi m
        let free := if k = 0xFF then (freeSpare s n).isSome
          else (groupSpares (groupOf n)).contains k && (fe s k).link.isNone && !(fe s k).broken
        if !free then refuse s c 0x0503 .badParam 1
        else if !policyAllows s n || !runOk then refuse s c 0x0503 .badParam 0
        else accept (queueSprout s n true) c 0x0503 .acceptedPending 0 0x3 n))

/-! ## Core pair Z (R301, R302) -/

/-- The event of a failed self-test (R301). -/
def coreFailed (s : State) (p : CorePair) : State :=
  post { s with spr := { s.spr with corePending := some p } } .coreSelftestFail (pairNumber p) (pairNumber p) (roleCode s.pair.role) 0

/-- A failed pair for which pair Z is no longer a spare: a module fault (R299, R302). -/
def noCoreSpare (s : State) (p : CorePair) : State :=
  moduleFault (exhausted s 2) (match p with
    | .x => .lockstepX
    | .y => .lockstepY) 0 0 0

/-- CORE_SELFTEST (R301): the self-test of pair X or Y. A failure is answered by role and state. With pair Z in use, or promised to the other
pair, it is a module fault (R302); while the other pair is being swapped it waits for the end of that (R299). -/
def execCoreSelftest (p : CorePair) (pass : Bool) (s : State) : Host.Outcome State Fault Refusal :=
  let gone := match p with
    | .x => s.spr.coreX
    | .y => s.spr.coreY
  if pass || gone || decide (s.spr.corePending = some p) || decide (s.spr.coreNext = some p) || decide (regField s Reg.sprCfg 0 1 1 = 0) then .next s
  else
    let s1 := coreFailed s p
    if s.spr.coreBusy then .next { s1 with spr := { s1.spr with corePending := s.spr.corePending, coreNext := some p } }
    else if s.spr.zRole ≠ 0 ∨ s.spr.corePending.isSome then .next (noCoreSpare s1 p)
    else if hasStandby s1 then .next (startHandover s1 false true)
    else if coreSwapAllowed s1 then .next (startCoreSwap s1)
    else .next (sprRaise s1 1)

/-- CORE_SWAP_DONE (R301): pair Z holds the failed pair's work; the Husk releases the executive. A failure of the other pair that waited finds
no spare. A STANDBY resynchronises. -/
def execCoreSwapDone (s : State) : Host.Outcome State Fault Refusal :=
  match s.spr.corePending with
  | none => .next s
  | some p =>
    if !s.spr.coreBusy then .next s
    else
      let s0 := huskRelease (mapCore s p) 1
      let s1 := match s.spr.coreNext with
        | some q => noCoreSpare { s0 with spr := { s0.spr with corePending := some q, coreNext := none } } q
        | none => s0
      if s1.pair.role = .standby then .next (send (changeRole s1 .syncing 0) (.role { role := .syncing })) else .next s1

/-! ## Reference oscillators (R303) -/

/-- OSC_COMPARE (R303): the two oscillators in use differ by `diff` tenths of a ppm. After 3 comparisons in a row above 20 ppm both are
measured against oscillator 3 (OSC_SPROUTED), once no cell is being brought in (R299). -/
def execOscCompare (diff : Int) (s : State) : Host.Outcome State Fault Refusal :=
  let run := if 200 < diff.natAbs then s.spr.oscRun + 1 else 0
  .next { s with spr := { s.spr with
    oscDiff := clampInt (-32768) 32767 diff, oscRun := run
    oscBusy := if 3 ≤ run ∧ s.spr.oscs.contains 3 = false ∧ s.spr.cellBusy = none then some 3 else none } }

/-- RIDE that the measured cells in service guarantee (R305): their energy at 38 W less the 15 ms after the warning, at most 10 ms.
DESIGN CHOICE: a cell that no test has measured yet counts with 5 ms (log 146). -/
def rideOf (s : State) : Nat :=
  min 10 ((s.spr.cells.map (fun k => storeGet (fun _ => 5000) s.spr.energy k)).sum / 1000 - 15)

/-- A cell fails with cell 6 in service: no spare is left, and the holdup is recomputed (R299, R305). -/
def holdupReduced (s : State) (k : Nat) : State :=
  let s1 := { s with spr := { s.spr with ride := rideOf s } }
  post (exhausted s1 7) .holdupReduced 0 k s1.spr.ride (storeGet (fun _ => 0) s.spr.esr k)

/-- The failed cells that wait: the first takes cell 6 once the supervisor brings nothing in, and those that find it in service reduce the
holdup (R299, R304, R305). -/
def serveCells (s : State) : State :=
  if s.spr.cells.contains 6 then s.spr.cellQueue.foldl holdupReduced { s with spr := { s.spr with cellQueue := [] } }
  else match s.spr.cellQueue with
    | [] => s
    | k :: rest => if s.spr.cellBusy.isSome || s.spr.oscBusy.isSome then s
                   else { s with spr := { s.spr with cellBusy := some k, cellQueue := rest } }

/-- Oscillator `out` leaves service and oscillator 3 takes its place beside `kept` (R303). -/
def swapOsc (s : State) (out kept : Nat) : State :=
  post (sprRaise (sprouted { s with spr := { s.spr with oscs := [kept, 3], oscOut := s.spr.oscOut ++ [out] } }) 4) .oscSprouted out out 3 0

/-- OSC_SPROUTED (R303): both oscillators have been measured against oscillator 3, in tenths of a ppm. The one more than 10 ppm away is
replaced by it; both away is the loss of both references, a module fault. With oscillator 3 in use there is no spare. -/
def execOscSprouted (errA errB : Int) (s : State) : Host.Outcome State Fault Refusal :=
  if s.spr.oscRun < 3 || (s.spr.oscBusy.isNone && !s.spr.oscs.contains 3) then .next s
  else
    let s1 := { s with spr := { s.spr with oscRun := 0, oscBusy := none } }
    let a := decide (100 < errA.natAbs)
    let b := decide (100 < errB.natAbs)
    if s1.spr.oscs.contains 3 then .next (exhausted s1 6)
    else if a && b then .next (moduleFault s1 .references 0 0 0)
    else if !a && !b then .next (serveCells s1)
    else .next (serveCells (swapOsc s1 (s1.spr.oscs.getD (if a then 0 else 1) 0) (s1.spr.oscs.getD (if a then 1 else 0) 0)))

/-! ## Holdup cells (R304, R305) -/

/-- CELL_TEST (R304, R305): a discharge pulse measures a cell's ESR and capacitance in percent of the factory values, and the energy it
holds in µs of 38 W. A failed cell waits for cell 6 to charge; with cell 6 in service the holdup is recomputed. -/
def execCellTest (cell : Fin 6) (esr capacitance : Nat) (energy : Nat) (s : State) : Host.Outcome State Fault Refusal :=
  let k := cell.val + 1
  if !s.spr.cells.contains k then .next s
  else
    let s1 := { s with spr := { s.spr with
      esr := storeSet (fun _ => 0) s.spr.esr k (min esr 255), energy := storeSet (fun _ => 5000) s.spr.energy k energy } }
    if (esr ≤ 150 ∧ 80 ≤ capacitance) ∨ s1.spr.cellBusy = some k ∨ k ∈ s1.spr.cellQueue then .next s1
    else .next (serveCells { s1 with spr := { s1.spr with cellQueue := s1.spr.cellQueue ++ [k] } })

/-- CELL_SPROUTED (R304): cell 6 has charged: it is switched in and the failed cell out; failed cells that waited find no spare (R299). -/
def execCellSprouted (s : State) : Host.Outcome State Fault Refusal :=
  match s.spr.cellBusy with
  | none => .next s
  | some k =>
    let s1 := { s with spr := { s.spr with cellBusy := none, cells := s.spr.cells.filter (fun x => x ≠ k) ++ [6], cellOut := s.spr.cellOut ++ [k] } }
    .next (serveCells (post (sprRaise (sprouted s1) 5) .cellSprouted k k 6 0))

/-! ## Registers (R307) -/

/-- A bring-in is running. -/
def sproutBusy (s : State) : Bool :=
  s.spr.feBusy.isSome || s.spr.coreBusy || s.spr.cellBusy.isSome || s.spr.oscBusy.isSome || (copyingRegion s).isSome
    || s.mem.remapping.isSome || s.pair.lanes.any (fun l => decide (l.state = 5) && decide (l.logical < 4))

/-- Peapod's spare lane is free: it has neither come into service nor failed. -/
def ppdLaneFree (s : State) : Bool :=
  !s.spr.ppdLane && (s.pair.lanes.any (fun l => decide (l.state = 3)) || s.pair.lanes.all (fun l => decide (l.state ≠ 4) && decide (l.state ≠ 5)))

/-- Pod 5 is free: it has neither come into service nor failed. -/
def podFree (s : State) : Bool := !s.spr.pod && !s.hz.failedPods.contains 5

/-- SPR_STAT (R307). -/
def sprStat (s : State) : Word :=
  let laneFree (r : Nat) : Nat := b2n (!(region s r).spareIn && (region s r).copying.isNone)
  fieldWord 28 24 (((List.range 12).map (sparesFree s)).sum)
    ||| fieldWord 19 16 (laneFree 0 + 2 * laneFree 1 + 4 * laneFree 2 + 8 * laneFree 3)
    ||| fieldWord 12 12 (b2n (!s.spr.cells.contains 6)) ||| fieldWord 11 11 (b2n (!s.spr.oscs.contains 3))
    ||| fieldWord 10 10 (b2n (ppdLaneFree s)) ||| fieldWord 9 9 (b2n (podFree s)) ||| fieldWord 8 8 (b2n (decide (s.spr.zRole = 0)))
    ||| fieldWord 2 2 (b2n s.spr.corePending.isSome) ||| fieldWord 1 1 (b2n (sproutBusy s))

/-- SPR_CORE (R307). -/
def sprCore (s : State) : Word :=
  fieldWord 5 4 s.spr.zRole ||| fieldWord 3 3 (b2n s.spr.coreY) ||| fieldWord 2 2 (b2n s.spr.coreX)

/-- SPR_OSC (R307). -/
def sprOsc (s : State) : Word :=
  fieldWord 31 16 (wordOfInt s.spr.oscDiff).toNat
    ||| fieldWord 2 0 ((s.spr.oscs.map (fun k => 2 ^ (k - 1))).sum)

/-- SPR_HOLDUP (R307). -/
def sprHoldup (s : State) : Word :=
  let worst := s.spr.cells.foldl (fun m k => max m (storeGet (fun _ => 0) s.spr.esr k)) 0
  fieldWord 31 24 s.spr.ride ||| fieldWord 23 16 worst ||| fieldWord 5 0 ((s.spr.cells.map (fun k => 2 ^ (k - 1))).sum)

/-- SPROUT_READ (0x0E05, R322). -/
def execSproutRead (c : Ctx) (s : State) : Host.Outcome State Fault Refusal :=
  .next (command s c 0x0E05 0xF (.sproutRead c) true (fun s =>
    meets s c 0x0E05 8 (fun s =>
      ok s c 0x0E05 ([sprStat s, sprCore s, sprOsc s, sprHoldup s, memLane s, memMram s].flatMap (fun w => leBytes 4 w.toNat)))))

end Sys2Proof.Machine
end

