-- ==== Sys2Proof/Machine/Trust.lean ====
section
/-! DEFINITION. Machine/Trust.lean: the trust element's commands: operator certificates, commissioning, service-port authentication,
certificate requests and the anti-rollback counter (R424 to R438). -/
namespace Sys2Proof.Machine
open Sys2Proof

/-- What a credential operation comes to: the state, the code with its WHERE, the result, and the slot whose sessions close after the
reply (R429). -/
structure OpOutcome where
  s : State
  code : Code
  whereField : Nat := 0
  result : List Byte := []
  closes : Option Nat := none

/-- Put a certificate into a slot, or empty it: TRU_FLAGS.CERT_CHANGED (R438). -/
def setSlot (s : State) (k : Nat) (c : Option Certificate) : State :=
  truRaise { s with tru := { s.tru with slots := storeSet (fun _ => none) s.tru.slots k c } } 3

/-- With `c` in slot `k`, no slot would hold a certificate with ENGINEER (R429). -/
def losesEngineer (s : State) (k : Nat) (c : Option Certificate) : Bool :=
  [1, 2, 3, 4, 5, 6, 7, 8].all (fun j =>
    match (if j = k then c else slotCert s j) with
    | some x => !isEngineer x
    | none => true)

/-- A certificate passes R428, but for its date. -/
def certAccepted (c : Certificate) : Bool :=
  decide (c.der.length ≤ 2048) && c.v3 && c.p384 && decide (c.roleOus = 1) && c.roles.isSome

/-- An install (R428 to R431). During commissioning the service port installs an ENGINEER certificate in slot 1, and its proof is
awaited; CERT_INSTALLED is posted when the proof comes. -/
def runInstall (s : State) (session slot : Nat) (c : Certificate) : OpOutcome :=
  let first := commissioning s && decide (session = 16)
  if slot = 0 ∨ 8 < slot ∨ (first ∧ slot ≠ 1) then { s := s, code := .badParam }
  else if !certAccepted c || !dateOk s c || (first && !isEngineer c) then { s := s, code := .badParam, whereField := c.failOffset }
  else if losesEngineer s slot (some c) then { s := s, code := .busy, whereField := 1 }
  else
    let s1 := setSlot (dateUnchecked s) slot (some c)
    if first then { s := { s1 with tru := { s1.tru with proof := some (session, s.now) } }, code := .ok, closes := some slot }
    else { s := post s1 .certInstalled slot slot 0 0, code := .ok, closes := some slot }

/-- A removal (R429). -/
def runRemove (s : State) (slot : Nat) : OpOutcome :=
  if slot = 0 ∨ 8 < slot ∨ slotCert s slot = none then { s := s, code := .badParam }
  else if losesEngineer s slot none then { s := s, code := .busy, whereField := 1 }
  else { s := post (setSlot s slot none) .certRemoved slot slot 0 0, code := .ok, closes := some slot }

/-- A response fails: its nonce is spent, and the third failure within 60 s starts the lockout (R315). -/
def failResponse (s : State) : OpOutcome :=
  let times := (s.cmd.failedAuth ++ [s.now]).filter (fun t => decide (s.now < t + 60000000000))
  let s1 := truRaise { s with cmd := { s.cmd with nonce := none, failedAuth := times, lockout := decide (3 ≤ times.length) } } 2
  { s := countUp s1 Reg.truSnapFail 0, code := .authFailed }

/-- The 60 s in which the proof of slot 1 must come are over (R431). -/
def proofLate (s : State) : Bool := (s.tru.proof.map (fun p => decide (p.2 + 60000000000 < s.now))).getD false

/-- A response of the service port: the key of the named slot signed the nonce, once and within 60 s (R315, R430, R431). -/
def runResponse (s : State) (session slot : Nat) (valid : Bool) : OpOutcome :=
  if session ≠ 16 ∨ s.cmd.lockout then { s := s, code := .authFailed }
  else if slot = 0 ∨ 8 < slot then { s := s, code := .badParam }
  else
    let fresh := match s.cmd.nonce with
      | some (_, t) => decide (s.now ≤ t + 60000000000)
      | none => false
    let s0 := countUp s Reg.truSnapVerify 0
    match slotCert s slot with
    | none => failResponse s0
    | some c =>
      if !fresh || !valid || !dateOk s c || (decide (slot = 1) && proofLate s) then failResponse s0
      else
        let s1 := dateUnchecked s0
        let s2 := { s1 with cmd := modSession { s1.cmd with nonce := none } 16 (fun x => { x with roles := rolesOf c, credential := slot }) }
        let proves := decide (slot = 1) && s2.tru.proof.isSome
        let s3 := if proves then post { s2 with tru := { s2.tru with proof := none } } .certInstalled slot slot 0 0 else s2
        { s := s3, code := .ok, result := leBytes 1 (rolesOf c) }

/-- A certificate request over the device key (R427); it fails while the key self-test has failed (R426). -/
def runCsr (s : State) (request : List Byte) : OpOutcome :=
  if !s.tru.keyOk then { s := s, code := .busy }
  else if 2048 < request.length then { s := s, code := .badParam, whereField := 0xFFFFFFFF }
  else { s := countUp s Reg.truSnapSign 0, code := .ok, result := request }

/-- The effect of a credential operation, by its opcode. -/
def runOp (s : State) (o : CredentialOp) : OpOutcome :=
  match o.opcode, o.cert with
  | 0x0B03, some c => runInstall s o.session o.slot c
  | 0x0B06, _ => runRemove s o.slot
  | 0x0B05, _ => runResponse s o.session o.slot o.valid
  | _, _ => runCsr s o.bytes

/-- Sessions opened with a certificate that has gone are closed (R429). -/
def closeReplaced (s : State) (slot : Option Nat) : State :=
  match slot with
  | some k => closeSessions s (fun x => decide (x.credential = k))
  | none => s

/-- A credential operation reaches the element: it runs, or waits while another runs (R429). -/
def credentialOp (s : State) (c : Ctx) (o : CredentialOp) : State :=
  match s.tru.busy with
  | some _ => await { s with tru := { s.tru with waitingOps := s.tru.waitingOps ++ [o] } } c o.opcode 0xD 0
  | none =>
    let r := runOp { s with tru := { s.tru with busy := some o } } o
    closeReplaced (answer r.s c o.opcode r.code r.whereField 0 r.result) r.closes

/-- The operation of a command. -/
def opOf (c : Ctx) (op slot : Nat) (cert : Option Certificate) (valid : Bool) (bytes : List Byte) : CredentialOp :=
  { queue := c.queue.val, session := c.session.val, tag := c.tag.toNat, opcode := op, slot := slot, cert := cert, valid := valid, bytes := bytes }

/-- CERT_READ (0x0B01, R425): the device certificate, or that of an operator slot. -/
def execCertRead (c : Ctx) (which : BitVec 8) (s : State) : Host.Outcome State Fault Refusal :=
  .next (command s c 0x0B01 0xD (.certRead c which) true (fun s =>
    if which.toNat = 0 then ok s c 0x0B01 (deviceCert s.tru.device)
    else if 8 < which.toNat then refuse s c 0x0B01 .badParam 0
    else match slotCert s which.toNat with
      | some x => ok s c 0x0B01 x.der
      | none => refuse s c 0x0B01 .badParam 0))

/-- CSR_MAKE (0x0B02, R427): `request` is the signed PKCS#10 request over the subject fields. -/
def execCsrMake (c : Ctx) (subject : SubjectFields) (request : List Byte) (s : State) : Host.Outcome State Fault Refusal :=
  .next (command s c 0x0B02 0xD (.csrMake c subject request) true (fun s =>
    if subject.any (fun f => decide (64 < f.length)) then refuse s c 0x0B02 .badParam 0xFFFFFFFF
    else credentialOp s c (opOf c 0x0B02 0 none false request)))

/-- CERT_INSTALL (0x0B03, R428 to R431). -/
def execCertInstall (c : Ctx) (slot : BitVec 8) (cert : Certificate) (s : State) : Host.Outcome State Fault Refusal :=
  .next (command s c 0x0B03 0xD (.certInstall c slot cert) true (fun s => credentialOp s c (opOf c 0x0B03 slot.toNat (some cert) false [])))

/-- AUTH_CHALLENGE (0x0B04, R315): a nonce of 48 bytes, for the service port (log 42). -/
def execAuthChallenge (c : Ctx) (nonce : BitVec 384) (s : State) : Host.Outcome State Fault Refusal :=
  .next (command s c 0x0B04 0xD (.authChallenge c nonce) true (fun s =>
    if c.session.val ≠ 16 then refuse s c 0x0B04 .authFailed 0
    else ok { s with cmd := { s.cmd with nonce := some (nonce.toNat, s.now) } } c 0x0B04 (leBytes 48 nonce.toNat)))

/-- AUTH_RESPONSE (0x0B05, R315): `valid` says whether the signature verifies with the key of the slot. -/
def execAuthResponse (c : Ctx) (slot : BitVec 8) (valid : Bool) (s : State) : Host.Outcome State Fault Refusal :=
  .next (command s c 0x0B05 0xD (.authResponse c slot valid) true (fun s => credentialOp s c (opOf c 0x0B05 slot.toNat none valid [])))

/-- CERT_REMOVE (0x0B06, R429). -/
def execCertRemove (c : Ctx) (slot : BitVec 8) (s : State) : Host.Outcome State Fault Refusal :=
  .next (command s c 0x0B06 0xD (.certRemove c slot) true (fun s => credentialOp s c (opOf c 0x0B06 slot.toNat none false [])))

/-- CREDENTIAL_OP_START (R429): the operation that runs has ended, and the first that waits starts. -/
def execCredentialOpStart (s : State) : Host.Outcome State Fault Refusal :=
  match s.tru.waitingOps with
  | [] => .next { s with tru := { s.tru with busy := none } }
  | o :: rest =>
    let r := runOp { s with tru := { s.tru with busy := some o, waitingOps := rest } } o
    let s1 := concludeAll r.s (fun x => decide (x.queue = o.queue) && decide (x.tag = o.tag) && decide (x.opcode = o.opcode))
      r.code r.whereField (fun _ _ => r.result)
    .next (closeReplaced s1 r.closes)

/-- COMMISSION_PROOF_EXPIRY (R431): 60 s pass without the proof, and slot 1 is emptied with cause NO_PROOF. -/
def execCommissionProofExpiry (s : State) : Host.Outcome State Fault Refusal :=
  match s.tru.proof with
  | none => .next s
  | some p => if s.now < p.2 + 60000000000 then .next s else .next (post (setSlot { s with tru := { s.tru with proof := none } } 1 none) .certRemoved 1 1 1 0)

/-- ARB_ADVANCE (R437): in RUN with an image whose SECURITY_VERSION is above the counter, one fuse is blown; the last one posts
ARB_ADVANCED. -/
def execArbAdvance (s : State) : Host.Outcome State Fault Refusal :=
  match s.exe.image with
  | none => .next s
  | some im =>
    let v := min 63 im.header.securityVersion
    if s.exe.station ≠ .run ∨ v ≤ s.tru.fuses then .next { s with tru := { s.tru with advancing := none } }
    else
      let s1 := { s with tru := { s.tru with fuses := s.tru.fuses + 1, advancing := if s.tru.fuses + 1 = v then none else some v } }
      if s.tru.fuses + 1 = v then .next (post (truRaise s1 4) .arbAdvanced 0 v 0 0) else .next s1

/-! ## Registers (R438) -/

/-- TRU_STAT. -/
def truStat (s : State) : Word :=
  let slots := ([1, 2, 3, 4, 5, 6, 7, 8].map (fun k => b2n (decide (slotCert s k ≠ none)) * 2 ^ (k - 1))).sum
  fieldWord 15 8 slots ||| fieldWord 3 3 (b2n (commissioning s)) ||| fieldWord 2 2 (b2n s.tru.proof.isSome)
    ||| fieldWord 1 1 (b2n s.tru.busy.isSome) ||| fieldWord 0 0 (b2n s.tru.keyOk)

/-- TRU_ARB. -/
def truArb (s : State) : Word := fieldWord 13 8 (63 - s.tru.fuses) ||| fieldWord 5 0 s.tru.fuses

/-- TRU_SIGNER (R435). -/
def truSigner (s : State) : Word := fieldWord 3 0 s.tru.signer

end Sys2Proof.Machine
end

