-- ==== Sys2Proof/Machine/Supervisor.lean ====
section
/-! DEFINITION. Machine/Supervisor.lean: resets, bring-up, straps, options, supplies and the power-fail sequence (R439 to R458). -/
namespace Sys2Proof.Machine
open Sys2Proof

/-- Raise a flag of SUP_PFLAGS. -/
def supRaise (s : State) (n : Nat) : State := raise s Reg.supPflags 0 n

/-- Change the supervisor's state. -/
def modSup (s : State) (f : Supervisor → Supervisor) : State := { s with sup := f s.sup }

/-- A supervisor event: posted, or kept by the always-on logic while Seedbank is not released (R440, Table RST-4). -/
def supPost (s : State) (e : Event) (subject value1 value2 : Nat) : State :=
  if held s 0xB then modSup s (fun u => { u with unposted := u.unposted ++ [(e, subject, value1, value2)] })
  else post s e 0 subject value1 value2

/-! ## What a reset keeps (R440, Table RST-2) -/

/-- The always-on logic's own count of time, ns. -/
def alwaysOnTime (s : State) : Nat := s.now + s.sup.lead

/-- The counted module resets of the last 60 s (R447). -/
def recentResets (s : State) : List Nat := s.sup.resets.filter (fun t => decide (alwaysOnTime s < t + 60000000000))

/-- What the supervisor keeps: the always-on logic's record, the option store and the fuse. Charge levels of the holdup bank are kept
where the supply stayed. -/
def supKeep (s : State) (cause : Nat) : Supervisor :=
  let u := s.sup
  let fresh := decide (cause = 1)
  { alwaysOn := true, cause := cause, step := 1, startedAt := s.net.saved
    lastIsland := if fresh then 0 else u.lastIsland
    resets := if fresh then [] else recentResets s
    lead := if fresh then 0 else alwaysOnTime s - s.net.saved
    resetCount := if fresh then 0 else u.resetCount, dipCount := if fresh then 0 else u.dipCount
    islandCount := if fresh then 0 else u.islandCount
    unposted := if fresh then [] else u.unposted
    resetN := !fresh && u.resetN, stormRetry := !fresh && u.stormRetry, stormFrom := if fresh then none else u.stormFrom
    holdupReady := decide (2 < cause) && u.holdupReady, holdupFull := decide (2 < cause) && u.holdupFull
    opt1 := u.opt1, opt2 := u.opt2, faultA := u.faultA, faultB := u.faultB, fieldBuild := u.fieldBuild }

/-- What Sprout keeps: its record, which it applies, and the lockstep mismatch that pair Z answers at the start (R300, R302). -/
def sproutKeep (x : Sprout) : Sprout :=
  let r := x.saved
  { saved := r, coreX := r.coreX, coreY := r.coreY, zRole := r.zRole, mismatch := x.mismatch, oscs := r.oscs, oscOut := r.oscOut
    cells := r.cells, cellOut := r.cellOut, ppdLane := r.ppdLane, pod := r.pod, sprouts := r.sprouts }

/-- What front-end `n` keeps: its part in the sprout record and its isolated-side store. -/
def feKeep (r : SproutRecord) (n : Nat) (f : FrontEnd) : FrontEnd :=
  let part := storeGet (fun _ => (false, none)) r.fes n
  { broken := part.1, link := part.2, isolated := f.isolated, userValid := f.userValid, factoryValid := f.factoryValid
    userInUse := f.userStaged.getD f.userInUse }

/-- Every front-end as a reset leaves it. -/
def fesKeep (r : SproutRecord) (m : Store FrontEnd) : Store FrontEnd :=
  (m.map (fun (p : Nat × FrontEnd) => (p.1, feKeep r p.1 p.2))).filter (fun (p : Nat × FrontEnd) => decide (p.2 ≠ {}))

/-- A region's lanes by the sprout record: with SRAM initialised, lane 21 serves for a retired lane from the start (R294, R300). -/
def regionKeep (p : Option Nat × Option Nat) : MemRegion := { retired := p.1, spareIn := p.1.isSome, erased := p.2 }

/-- What the memory island keeps: MRAM, its remaps and the lanes' record; SRAM is initialised (R300, R440). -/
def memKeep (r : SproutRecord) (m : Memory) (start : Nat) : Memory :=
  { regions := r.regions.map (fun (p : Nat × Option Nat × Option Nat) => (p.1, regionKeep p.2)), mram := m.mram, remap := m.remap, lapStart := start }

/-- What Seedbank keeps: the log, and the ring where SRAM stayed powered (R400). -/
def sbkKeep (b : Seedbank) (cause : Nat) : Seedbank :=
  { ring := if cause = 1 then [] else b.ring, newest := b.newest, logged := b.logged, log := b.log, logAt := b.logAt, headers := b.headers }

/-- What Walnut keeps: its parameter sets, the half failure's time, and the causes that only a passed self-test removes
(R237, R241, R250). -/
def wntKeep (w : Walnut) : Walnut :=
  let fresh : Walnut := {}
  { copyA1 := w.copyA1, copyA2 := w.copyA2, copyB1 := w.copyB1, copyB2 := w.copyB2, failTime := w.failTime
    stops := w.stops.filter (fun c => decide (c = 5) || decide (c = 6)), shown := fresh.shown.set 8 (word (confirmedCrc w)) }

/-- What the time unit keeps: the saved module time, which TIME_SEC_LO and TIME_SEC_HI show, and the PHYs' factory latencies (R361, R370). -/
def netKeep (n : Net) : Net :=
  { saved := n.saved
    secLatch := n.saved / 1000000000
    ports := (n.ports.map (fun (p : Nat × NetPort) => (p.1, ({ latency := p.2.latency } : NetPort)))).filter
      (fun (p : Nat × NetPort) => decide (p.2 ≠ {})) }

/-- What Hazel keeps: the pods' placement of the sprout record, and capture sets stored in MRAM (R98, R300). -/
def hazelKeep (r : SproutRecord) (h : Hazel) : Hazel :=
  { podMap := r.podMap, failedPods := r.failedPods, caps := h.caps.filter (fun (p : Nat × Capture) => decide (p.2.state = 3)) }

/-- What the executive keeps in MRAM: slots, retain copies and the force table. The retain shadow starts from the valid copy, so that a write
before the first restart saves it again (R47; log 128). -/
def exeKeep (s : State) : Exec :=
  let x := s.exe
  { slotA := x.slotA, slotB := x.slotB, copyA := x.copyA, copyB := x.copyB, forces := x.savedForces, savedForces := x.savedForces
    shadow := ((retainCopy s).map (·.data)).getD {}, shadowLive := (retainCopy s).isSome }

/-- A module fault of the memory has occurred since the last reset (R285, R297). -/
def memoryFaulted (s : State) : Bool :=
  s.own.moduleFaults.any (fun x => decide (x.1 = faultCode .memory) || decide (x.1 = faultCode .mram))

/-- SPR_SNAP_SPROUTS shows the sprout record's count from the start (R307). -/
def holdSprouts (s : State) : State := { s with snaps := storeSet (fun _ => []) s.snaps 0xF (windowCounters s 0xF) }

/-- The module right after a reset with a cause (R440): everything at its reset value but what MRAM, the fuses, the parts themselves and
the always-on logic keep. Module time resumes from its last save (R361). -/
def resetModule (s : State) (cause : Nat) : State :=
  let s1 : State := { State.reset with
    pending := s.pending, free := s.free, now := s.net.saved
    exe := exeKeep s, hz := hazelKeep s.spr.saved s.hz, fch := { fes := fesKeep s.spr.saved s.fch.fes }, wnt := wntKeep s.wnt
    pair := { lanes := s.pair.lanes.zipIdx.map (fun l => if s.spr.saved.lanes.contains l.2 then { state := 4 } else {}) }
    mem := memKeep s.spr.saved s.mem s.net.saved, spr := sproutKeep s.spr, net := netKeep s.net, sbk := sbkKeep s.sbk cause
    pnl := { panelKeep s.pnl with faultScreen := s.pnl.faultScreen || memoryFaulted s }, tru := { slots := s.tru.slots, device := s.tru.device, fuses := s.tru.fuses }
    sup := supKeep s cause }
  let put (t : State) (a v : Nat) : State := setCounter t a 0 (word v)
  holdSprouts <| put (put (put (put s1 Reg.supSnapResets s1.sup.resetCount) Reg.supSnapDips s1.sup.dipCount) Reg.supSnapIslrst s1.sup.islandCount)
    Reg.sprSnapSprouts s1.spr.sprouts

/-- The reset storm's rules hold a reset back: during the hold, and after a second storm until POWER_ON (R447); and the power-fail
sequence does not stop partway (R455). -/
def resetHeld (s : State) : Bool := s.sup.storm || s.sup.stormHold || s.sup.pfw

/-- A reset within 60 s of a storm's release holds the module until POWER_ON (R447). -/
def afterStorm (s : State) : Bool :=
  match s.sup.stormFrom with
  | some t => s.sup.stormRetry && decide (alwaysOnTime s < t + 60000000000)
  | none => false

/-- The pending supervisor events record STORM, once (R447; log 118). -/
def noteStorm (s : State) : State :=
  if s.sup.unposted.any (fun x => decide (x.1 = .storm)) then s
  else modSup s (fun u => { u with unposted := u.unposted ++ [(.storm, 0, 0, 0)] })

/-- A module reset other than POWER_ON: counted in the window of 60 s, or held back by the storm's rules (R447). -/
def doReset (s : State) (cause : Nat) : State :=
  if resetHeld s then (if s.sup.storm || s.sup.stormHold then noteStorm s else s)
  else if afterStorm s then noteStorm (modSup (resetModule s cause) (fun u => { u with stormHold := true }))
  else
    let s1 := modSup s (fun u => { u with resets := recentResets s ++ [alwaysOnTime s], resetCount := u.resetCount + 1 })
    resetModule s1 cause

/-! ## Reset sources (R439 to R443) -/

/-- POWER_ON (R439): supply good after the always-on logic was unpowered. -/
def execPowerOn (s : State) : Host.Outcome State Fault Refusal := .next (if s.sup.alwaysOn then s else resetModule s 1)

/-- POWER_FAIL (R457): supply good after a completed power-fail sequence, with the always-on logic still powered. -/
def execPowerFail (s : State) : Host.Outcome State Fault Refusal :=
  .next (if s.sup.alwaysOn && s.sup.pfwDone then doReset (modSup s (fun u => { u with pfw := false })) 2 else s)

/-- RESET_N (R441): low for 10 µs or longer: the module is reset and held until RESET_N goes high. -/
def execResetN (s : State) : Host.Outcome State Fault Refusal :=
  .next (modSup (doReset s 3) (fun u => { u with resetN := true }))

/-- RESET_N_RELEASE (R441): bring-up may start. -/
def execResetNRelease (s : State) : Host.Outcome State Fault Refusal := .next (modSup s (fun u => { u with resetN := false }))

/-- A reset falls due 10 ms from now (R442, R443). -/
def scheduleReset (s : State) (cause : Nat) : State :=
  modSup s (fun u => { u with dueReset := some { cause := cause, due := s.now + 10000000 } })

/-- SUP_WDOG.WDOG_T in ns. -/
def watchdogNs (s : State) : Nat := regField s Reg.supWdog 0 9 0 * 1000000

/-- WATCHDOG (R443): pair Y's firmware has not reached its idle point within WDOG_T: a module fault, and a reset 10 ms later. -/
def execWatchdog (s : State) : Host.Outcome State Fault Refusal :=
  .next (if held s 0xE || decide (s.now < s.sup.idleAt + watchdogNs s) then s
    else scheduleReset (moduleFault s .watchdog 0 0 0) 5)

/-- FIRMWARE_IDLE_POINT (R443): the count of WDOG_T restarts. -/
def execFirmwareIdlePoint (s : State) : Host.Outcome State Fault Refusal := .next (modSup s (fun u => { u with idleAt := s.now }))

/-- An accepted module reset request (R442): an ACTIVE module with a STANDBY partner goes OFFLINE first; the reset follows in 10 ms. -/
def askReset (s : State) : State := scheduleReset (if hasStandby s then goOffline s 10 else s) 4

/-- SUP_RESET_MODULE (R442): SUP_RESET written with its key and KIND 01. -/
def execSupResetModule (r : Requester) (s : State) : Host.Outcome State Fault Refusal :=
  .next (actionWrite s Reg.supReset r askReset)

/-- SOFT_RESET_TAKE (R442, R443): the reset that was scheduled falls due. -/
def execSoftResetTake (s : State) : Host.Outcome State Fault Refusal :=
  .next (match s.sup.dueReset with
    | some d => if d.due ≤ s.now then doReset (modSup s (fun u => { u with dueReset := none })) d.cause else s
    | none => s)

/-- CORE_SELF_RESET (R302): 10 ms after a lockstep mismatch made it OFFLINE, with CORE_AUTO and a partner that has taken the field. -/
def execCoreSelfReset (s : State) : Host.Outcome State Fault Refusal :=
  .next (if decide (s.pair.role = .offline) && s.spr.mismatch.isSome && decide (regField s Reg.sprCfg 0 0 0 = 1)
      && decide (s.spr.mismatchAt + 10000000 ≤ s.now) && decide (s.pair.partnerRole ≤ 1) then doReset s 6 else s)

/-! ## Reset storms (R447) -/

/-- Windows of the islands behind a Husk. -/
def allIslands : List Nat := [1, 2, 3, 4, 5, 6, 7, 8, 9, 10, 11, 12, 13, 14]

/-- Every island but the always-on logic is held in reset, the owner line quiet. -/
def holdAll (s : State) : State :=
  let s1 := driveLine s false
  { s1 with own := { s1.own with held := allIslands } }

/-- RESET_STORM (R447): the eighth reset within 60 s: the islands are held for 10 s. -/
def execResetStorm (s : State) : Host.Outcome State Fault Refusal :=
  .next (if decide (8 ≤ (recentResets s).length) && !s.sup.storm then
      let s1 := noteStorm (holdAll s)
      { s1 with sup := { s1.sup with storm := true }, pair := { s1.pair with cause := 19 } }
    else s)

/-- STORM_RETRY (R447): 10 s after the eighth reset the hold ends: bring-up runs once more, the count restarts at 0. -/
def execStormRetry (s : State) : Host.Outcome State Fault Refusal :=
  .next (if s.sup.storm && decide (s.sup.resets.getLastD 0 + 10000000000 ≤ alwaysOnTime s) then
      modSup (resetModule s 7) (fun u => { u with resets := [], stormRetry := true, stormFrom := some (alwaysOnTime s) })
    else s)

/-! ## Resetting one island (R444) -/

/-- The window of an island that can be reset alone. -/
def loneWindow : LoneIsland → Nat
  | .can => 0xA
  | .panel => 0xC

/-- The panel after its island reset: updates stopped and recorded STOPPED_PFW, the glass, record and image kept, registers reset. -/
def panelIslandReset (s : State) : State := modPnl (clearWindow (panelStopAll s) 0xC) panelKeep

/-- An island reset: its Husk takes over, the island is reset and reloaded, flagged, counted and posted (R444). -/
def resetIsland (s : State) (i : LoneIsland) : State :=
  let w := loneWindow i
  let s1 := huskHold s w
  let s2 := match i with
    | .can => canIslandReset s1
    | .panel => panelIslandReset s1
  let s3 := countUp (supRaise s2 4) Reg.supSnapIslrst 0
  let s4 := modSup s3 (fun u => { u with
    islandCount := u.islandCount + 1, lastIsland := w, islandReset := u.islandReset.filter (fun x => x ≠ w) ++ [w] })
  supPost s4 .islandReset w 0 0

/-- SUP_RESET_ISLAND (R444): SUP_RESET written with its key, KIND 10 and one of the two windows. -/
def execSupResetIsland (i : LoneIsland) (r : Requester) (s : State) : Host.Outcome State Fault Refusal :=
  .next (actionWrite s Reg.supReset r (fun t => resetIsland t i))

/-- HUSK_WATCHDOG (R444): a request has stayed 100 µs inside one of the two islands. -/
def execHuskWatchdog (i : LoneIsland) (s : State) : Host.Outcome State Fault Refusal :=
  .next (if held s (loneWindow i) then s else resetIsland s i)

/-- ISLAND_RESET_DONE (R444): the island is reloaded and its Husk releases it; the panel redraws as at start-up. -/
def execIslandResetDone (i : LoneIsland) (s : State) : Host.Outcome State Fault Refusal :=
  let w := loneWindow i
  if !s.sup.islandReset.contains w then .next s
  else
    let s1 := huskRelease (modSup s (fun u => { u with islandReset := u.islandReset.filter (fun x => x ≠ w) })) w
    .next (match i with
      | .can => s1
      | .panel => panelStart s1)

/-! ## Options and straps (R449 to R452) -/

/-- A number of `n` bytes of an option copy. -/
def optField (m : Store Byte) (a n : Nat) : Nat := ofLe (getStore m a n)

/-- A copy passes its check: MARK, VERSION, LENGTH and the CRC-32C (R450, Table RST-5). -/
def optionsOk (m : Store Byte) : Bool :=
  decide (optField m 0 4 = 0x5A1B4F50) && decide (optField m 4 2 = 1) && decide (optField m 6 2 = 1024)
    && decide (optField m 1020 4 = crc32c (getStore m 0 1020))

/-- The option values the reset gives the registers (Table RST-5). A PERM that is already set keeps DEV_LOCK set (R342). -/
def applyOptions (s : State) : State :=
  let m := s.sup.optUse
  let s1 := if permLocked s then s else setRegField s Reg.supLock 0 0 0 (optField m 512 1)
  setRegField (setRegField s1 Reg.cmdCfg 0 20 20 (optField m 513 1)) Reg.supWdog 0 9 0 (optField m 514 2)

/-- Step 2 of bring-up (R450): copy 1, or copy 2 when it fails; with neither, TRIM_FAULT on the defaults (R451). The fault record gets a
code of its own (log 8). -/
def loadOptions (s : State) : State :=
  let use (t : State) (m : Store Byte) (src : Nat) : State := modSup t (fun u => { u with optUse := m, optStage := m, trimSrc := src })
  if optionsOk s.sup.opt1 then applyOptions (use s s.sup.opt1 1)
  else if optionsOk s.sup.opt2 then applyOptions (supRaise (use s s.sup.opt2 2) 5)
  else
    let s1 := modSup (use s factoryOptions 3) (fun u => { u with trimFault := true })
    writeFaultRecord (applyOptions s1) (Config.faultKind 8) 0 0 0

/-- Steps 3 and 4: the straps are latched (R449). A test clock mode acts as 00 in a field build. -/
def takeStraps (s : State) (b : BootInputs) : State :=
  let m := b.clkMode.toNat
  let refused := s.sup.fieldBuild && decide (2 ≤ m)
  let s1 := raiseIf refused s Reg.supPflags 0 6
  modSup s1 (fun u => { u with
    bootSrc := b.bootSrc.toNat, clkMode := m, clkUse := if refused then 0 else m, sideB := b.sideB
    stationValid := b.station.isSome, stationId := (b.station.map (·.toNat)).getD 0, carrier := b.carrier })

/-- The image that BOOT_SRC selects (R449); TRIM_FAULT boots none (R451). -/
def bootSlot (s : State) : Option Image :=
  if s.sup.trimFault then none else if s.sup.bootSrc = 0 then s.exe.slotA else if s.sup.bootSrc = 1 then s.exe.slotB else none

/-- The boot image check (R435, R436): a valid signature, and a security version that the fuses allow. -/
def bootImageOk (s : State) (im : Image) : Bool :=
  imageSigned s im && decide (arbCounter s ≤ im.header.securityVersion)

/-- Without a valid image the station goes from INIT to STOP; one that a module fault has put in FAULT stays there (Table EXE-1). -/
def stopInit (s : State) : State := if s.exe.station = .init then stopWith s .image else s

/-- Steps 5 and 6: the trust element checks the image, which comes into image memory, or the station stays without one (R435). -/
def bootImage (s : State) : State :=
  match bootSlot s with
  | none => stopInit s
  | some im =>
    let s1 := verifyImage s im
    if bootImageOk s im then
      let s2 := installImage s1 im false
      { s2 with tru := { s2.tru with signer := signerOf s im } }
    else stopInit (if imageSigned s im then truRaise s1 1 else s1)

/-- Walnut's halves test themselves at the start: only a start at which both pass removes CROSSCHECK and DEGRADED_EXPIRED and ends the
DEGRADED count (R237, R241, R250). -/
def bootWalnut (s : State) (a b : Bool) : State :=
  let w := bootSet { s.wnt with halfA := a, halfB := b }
  let w1 :=
    if a && b then { w with stops := w.stops.filter (fun c => decide (c ≠ 5) && decide (c ≠ 6)), failTime := none }
    else if !a && !b then enterSafeStop w s.now 5
    else
      let w1 := { w with failTime := some (w.failTime.getD s.now), drivesTaken := true }
      if wparam w1 24 4 = 0 then enterSafeStop w1 s.now 6 else w1
  { s with wnt := { w1 with cause := w1.stops.getLastD w1.cause } }

/-- A module that boots without an image by its straps, or whose carrier coding fails its check, is OFFLINE with the station in STOP
(R449). -/
def bootOffline (s : State) : State :=
  if decide (2 ≤ s.sup.bootSrc) || !s.sup.stationValid || s.sup.trimFault then
    let s1 := stopInit s
    { s1 with pair := { s1.pair with decided := true } }
  else s

/-- Steps 2 to 6 of bring-up (R448): options, straps, the sprout record, the trust element, the ring's rescue, the image and Walnut's
self-tests. -/
def bringUp (s : State) (b : BootInputs) : State :=
  let s1 := takeStraps (loadOptions s) b
  let s2 := match s1.spr.mismatch with
    | some p => if s1.spr.zRole = 0 then mapCore s1 p else s1
    | none => s1
  let s3 := sbkStart { s2 with tru := { s2.tru with keyOk := b.keyOk } } b.ringOk s2.sup.cause
  let s4 := if b.keyOk then s3 else post s3 .trustKeyFault 0 0 0 0
  let s5 := bootOffline (bootWalnut (bootImage s4) b.halfAOk b.halfBOk)
  modSup s5 (fun u => { u with step := 6 })

/-- A front-end is armed without owner at step 8, its local safe setting stored; one whose factory area fails its CRC reports failed (R118,
R158, R164, R453). -/
def armFrontEnd (s : State) (c : Nat) : State :=
  let s1 := checkFactory s c
  if modeOf s c = 0 then modFe s1 c (fun f => { f with reconfiguring := false, state := armedState s1 c })
  else armClaims (modFe s1 c (fun f => { f with
    reconfiguring := false, state := armedState s1 c, safeCounts := BitVec.ofNat 16 (safeSetting s c) })) c

/-- Copy 1 is rewritten from copy 2 as a C2 commit after step 7 (R450). -/
def rewriteCopy1 (s : State) : State :=
  if s.sup.trimSrc = 2 then askWrite s 0 1000 .optionWrite else s

/-- Steps 7 to 9 (Table RST-4): the islands are released, the held supervisor events posted, the front-ends armed, the panel and Peapod
started. TRIM_FAULT releases less and arms nothing (R451). -/
def releaseIslands (s : State) : State :=
  let trim := s.sup.trimFault
  let s1 := modSup { s with own := { s.own with held := if trim then trimHeld else [] } } (fun u => { u with unposted := [], idleAt := s.now })
  let s2 := panelStart (s.sup.unposted.foldl (fun t x => post t x.1 0 x.2.1 x.2.2.1 x.2.2.2) s1)
  if trim then modSup s2 (fun u => { u with step := 9, upAt := s.now })
  else
    let s3 := (storeKeys s2.fch.fes []).foldl (fun t n => if n < 192 then armFrontEnd t n else t) s2
    let s4 := linkDetect ([0, 1, 2, 3].foldl canApply (rewriteCopy1 s3))
    modSup s4 (fun u => { u with step := 9, upAt := s.now })

/-- BRING_UP (R448): the steps of Table RST-3 from supply good up to the wait for the holdup bank, and on to step 9 where it is ready. -/
def execBringUp (b : BootInputs) (s : State) : Host.Outcome State Fault Refusal :=
  if decide (s.sup.step ≠ 1) || s.sup.resetN || s.sup.storm || s.sup.stormHold || decide (8 ≤ (recentResets s).length) then .next s
  else
    let s1 := bringUp s b
    .next (if s1.sup.holdupReady then releaseIslands s1 else s1)

/-- HOLDUP_READY (R454): the bank reaches its reserve; step 7 waits for it. -/
def execHoldupReady (s : State) : Host.Outcome State Fault Refusal :=
  let s1 := modSup s (fun u => { u with holdupReady := true })
  .next (if s1.sup.step = 6 then releaseIslands s1 else s1)

/-- HOLDUP_FULL (R454): the bank is fully charged. -/
def execHoldupFull (s : State) : Host.Outcome State Fault Refusal :=
  .next (modSup s (fun u => { u with holdupReady := true, holdupFull := true }))

/-- CLK_FALLBACK (R449): the carrier references are absent for 100 ms at step 4: the module's own references serve. -/
def execClkFallback (s : State) : Host.Outcome State Fault Refusal :=
  .next (if s.sup.clkUse = 1 then modSup (supRaise s 7) (fun u => { u with clkUse := 0 }) else s)

/-- Write bytes into an option copy. -/
def optPut (m : Store Byte) (a v n : Nat) : Store Byte := putStore m a (leBytes n v)

/-- COMMIT (R452): SEQ + 1 and the CRC go into the staging copy, which is written to copy 2 and then to copy 1 as its claim is granted
(R481). -/
def commitOptions (s : State) : State :=
  let seq := (optField s.sup.optStage 8 4 + 1) % 4294967296
  let m1 := optPut s.sup.optStage 8 seq 4
  let m2 := optPut m1 1020 (crc32c (getStore m1 0 1020)) 4
  askWrite (modSup s (fun u => { u with optStage := m2, optNext := some m2 })) 0 1000 .optionWrite

/-- OPT_COMMIT (R452). -/
def execOptCommit (r : Requester) (s : State) : Host.Outcome State Fault Refusal :=
  .next (actionWrite s Reg.supOptCtrl r commitOptions)

/-- DISCARD: the staging copy is reloaded from the copy in force (R458). -/
def discardOptions (s : State) : State := modSup s (fun u => { u with optStage := u.optUse })

/-- OPT_DISCARD (R452, R458). -/
def execOptDiscard (r : Requester) (s : State) : Host.Outcome State Fault Refusal :=
  .next (actionWrite s Reg.supOptCtrl r discardOptions)

/-! ## Supplies (R454) -/

/-- A run of samples that meet a condition, counted up to `n`. -/
def runUpTo (p : Bool) (old n : Nat) : Nat := if p then min n (old + 1) else 0

/-- The newest 20 samples (1 ms). -/
def keepSamples (xs : List Nat) (v : Nat) : List Nat := (v :: xs).take 20

/-- Input A after a sample: OK after 100 ms at 18.0 V, lost after 1 ms below 16.0 V, high after 1 ms above 32.0 V (Table RST-6). -/
def sampleA (s : State) (v : Nat) : State :=
  let u := s.sup
  let high := runUpTo (decide (360 ≤ v)) u.aHigh 2000
  let low := runUpTo (decide (v < 320)) u.aLow 20
  let ovr := runUpTo (decide (640 < v)) u.aOver 20
  let lost := u.aOk && decide (low = 20)
  let s1 := modSup s (fun u => { u with
    voltA := keepSamples u.voltA v, aHigh := high, aLow := low, aOver := ovr, aOk := (u.aOk || decide (high = 2000)) && !lost })
  let s2 := if lost then supPost (supRaise s1 0) .supaLost 0 v 0 else s1
  if u.aOver < 20 ∧ ovr = 20 then supPost s2 .supplyHigh 0 v 0 else s2

/-- Input B after a sample. -/
def sampleB (s : State) (v : Nat) : State :=
  let u := s.sup
  let high := runUpTo (decide (360 ≤ v)) u.bHigh 2000
  let low := runUpTo (decide (v < 320)) u.bLow 20
  let ovr := runUpTo (decide (640 < v)) u.bOver 20
  let lost := u.bOk && decide (low = 20)
  let s1 := modSup s (fun u => { u with
    voltB := keepSamples u.voltB v, bHigh := high, bLow := low, bOver := ovr, bOk := (u.bOk || decide (high = 2000)) && !lost })
  let s2 := if lost then supPost (supRaise s1 1) .supbLost 1 v 0 else s1
  if u.bOver < 20 ∧ ovr = 20 then supPost s2 .supplyHigh 1 v 0 else s2

/-- The rail after a sample: lost after 0.1 ms below 16.0 V; a dip is ridden when it is back at 18.0 V for 1 ms before the warning. -/
def sampleRail (s : State) (v : Nat) : State :=
  let low := runUpTo (decide (v < 320)) s.sup.railLow 2
  let high := runUpTo (decide (360 ≤ v)) s.sup.railHigh 20
  let s1 := modSup s (fun u => { u with railLow := low, railHigh := high })
  if s.sup.pfw then s1
  else match s.sup.lostAt with
    | none => if low = 2 then modSup s1 (fun u => { u with lostAt := some s.now, lossFull := u.holdupFull, holdupFull := false }) else s1
    | some t =>
      if high = 20 then
        let s2 := modSup s1 (fun u => { u with lostAt := none, dipCount := u.dipCount + 1 })
        supPost (countUp (supRaise s2 2) Reg.supSnapDips 0) .dipRidden 0 ((s.now - t) / 1000) 0
      else s1

/-- SUPPLY_SAMPLE (R454): the measurements of 50 µs. -/
def execSupplySample (m : SupplySample) (s : State) : Host.Outcome State Fault Refusal :=
  .next (sampleRail (sampleB (sampleA s m.a.toNat) m.b.toNat) m.rail.toNat)

/-! ## The power-fail sequence (R455 to R457) -/

/-- The pair at the warning (R456, Table PPD-2): ACTIVE with a STANDBY partner gives the field up at once; a module that does not own the
field is OFFLINE. -/
def pairWarning (s : State) : State :=
  if hasStandby s then partnerLost (changeRole (driveLine (send s .fault) false) .offline 18)
  else if !owner s then changeRole s .offline 18
  else s

/-- Instances not yet ended are abandoned without driving their outputs (Table RST-7 step 2). -/
def abandonInstances (s : State) : State :=
  { s with exe := { s.exe with tasks := s.exe.tasks.map (fun (p : Nat × Task) =>
    (p.1, if p.2.state = .running then { p.2 with state := .idle } else p.2)) } }

/-- The NV writes of the sequence: the ring's flush, the retain store, module time, the sprout record and the fault record (Table RST-7
steps 3, 4, 6). -/
def warningWrites (s : State) : State :=
  let s1 := writeRetain (startFlush s)
  askWrite (writeSproutRecord (askWrite s1 9 1000 .timeSave)) 0 1000 .faultRecord

/-- The warning is due: the supply has been lost for RIDE, or a bank that was not full may be down to its reserve (R305, R454; log 146). -/
def warningDue (s : State) : Bool :=
  match s.sup.lostAt with
  | none => false
  | some t => !s.sup.lossFull || decide (t + 1000000 * s.spr.ride ≤ s.now)

/-- POWER_FAIL_WARNING (R305, R454 to R456): supply lost for RIDE, or the bank down to its reserve. -/
def execPowerFailWarning (s : State) : Host.Outcome State Fault Refusal :=
  if s.sup.pfw || !warningDue s then .next s
  else
    let s1 := modSup { s with grd := { s.grd with pfw := true } } (fun u => { u with pfw := true })
    let s2 := supPost (supRaise s1 3) .pfw 0 0 0
    .next (warningWrites (waitingToC0 (abandonInstances (pairWarning s2))))

/-- POWER_FAIL_HOLD (Table RST-7 step 8): the owner line stops, and every island but the always-on logic is held in reset. -/
def execPowerFailHold (s : State) : Host.Outcome State Fault Refusal :=
  if s.sup.pfw then .next (modSup (holdAll (changeRole s .offline 18)) (fun u => { u with pfwDone := true })) else .next s

/-- RETENTION_END (Table RST-7 step 10): the always-on logic and SRAM lose power; the next start is a POWER_ON. -/
def execRetentionEnd (s : State) : Host.Outcome State Fault Refusal :=
  .next (if s.sup.pfwDone then modSup { s with sbk := { s.sbk with ring := [] } } (fun u => { u with alwaysOn := false }) else s)

/-! ## Registers (R345, R458) -/

/-- The 1 ms average of an input, in 0.05 V. -/
def voltAverage (xs : List Nat) : Nat := if xs = [] then 0 else xs.sum / xs.length

/-- SUP_SUPPLY. -/
def supSupply (s : State) : Word :=
  fieldWord 31 31 (b2n s.sup.bOk) ||| fieldWord 30 30 (b2n s.sup.aOk) ||| fieldWord 25 16 (voltAverage s.sup.voltB)
    ||| fieldWord 9 0 (voltAverage s.sup.voltA)

/-- SUP_RST. -/
def supRst (s : State) : Word :=
  fieldWord 23 16 (min 8 (recentResets s).length) ||| fieldWord 11 8 s.sup.lastIsland ||| fieldWord 7 0 s.sup.cause

/-- SUP_BOOT. -/
def supBoot (s : State) : Word :=
  let u := s.sup
  fieldWord 31 16 u.bootMs ||| fieldWord 14 14 (b2n u.stormHold) ||| fieldWord 13 13 (b2n (u.storm || decide (u.cause = 7)))
    ||| fieldWord 12 12 (b2n u.trimFault) ||| fieldWord 11 11 (b2n u.holdupFull) ||| fieldWord 10 10 (b2n u.holdupReady)
    ||| fieldWord 9 8 u.trimSrc ||| fieldWord 3 0 u.step

/-- SUP_STRAP. -/
def supStrap (s : State) : Word := fieldWord 4 4 (b2n s.sup.sideB) ||| fieldWord 3 2 s.sup.clkMode ||| fieldWord 1 0 s.sup.bootSrc

/-- SUP_STATION. -/
def supStation (s : State) : Word := fieldWord 31 31 (b2n s.sup.stationValid) ||| fieldWord 10 0 s.sup.stationId

/-- SUP_OPT_CTRL: SEQ of the copy in force. -/
def supOptCtrl (s : State) : Word := fieldWord 31 16 (optField s.sup.optUse 8 4)

/-- The fault record's 64 bytes: sequence number, kind, module time, address, region and syndrome, CRC-32C (R450; log 56). -/
def faultRecordBytes (r : FaultRecord) : List Byte :=
  let body := leBytes 4 r.seq ++ leBytes 4 r.kind ++ leBytes 8 (r.time / 1000000000) ++ leBytes 4 (r.time % 1000000000)
    ++ leBytes 4 r.addr ++ leBytes 4 r.region ++ leBytes 5 r.syndrome ++ List.replicate 27 0
  body ++ leBytes 4 (crc32c body)

/-- A byte of the option store window (R458): copy in force, staging copy, fault record, 0. -/
def supWindowByte (s : State) (a : Nat) : Byte :=
  if a < 0x400 then storeGet (fun _ => 0) s.sup.optUse a
  else if a < 0x800 then storeGet (fun _ => 0) s.sup.optStage (a - 0x400)
  else if a < 0x840 then ((faultRecord s).map (fun r => (faultRecordBytes r).getD (a - 0x800) 0)).getD 0
  else 0

/-- A window write at `a` (R452, R458): bytes 512 to 1,019 of the staging copy; the others are read-only. -/
def supWindowWrite (s : State) (a : Nat) (v : Word) : State :=
  if 0x600 ≤ a ∧ a < 0x7FC then modSup s (fun u => { u with optStage := optPut u.optStage (a - 0x400) v.toNat 4 }) else s

/-- The TRIMS bytes of the staging copy, whose write is a locked write (R343, R452). -/
def trimsAddress (a : Nat) : Bool := decide (0x410 ≤ a) && decide (a < 0x600)

end Sys2Proof.Machine
end

