-- ==== Sys2Proof/Machine/RegRead.lean ====
section
/-! DEFINITION. Machine/RegRead.lean: reading a register: its instance, the live value it shows, the holding registers, and the indirect
windows (R326 to R330, R336 to R338). -/
namespace Sys2Proof.Machine
open Sys2Proof

/-! ## Which instance a register shows -/

/-- The instance of a banked register that its select register shows; none where the select names nothing. A spare's select shows the
channel it serves (R140). -/
def instanceOf (s : State) : Bank → Option Nat
  | .none => some 0
  | .task => some (regField s Reg.exeTasksel 0 3 0)
  | .loop => if (loop? s (selectedLoop s)).isSome then some (selectedLoop s) else none
  | .frontEnd => if regField s Reg.fchSel 0 7 0 < 216 then some (channelOf s (regField s Reg.fchSel 0 7 0)) else none
  | .group => if regField s Reg.fgrpSel 0 3 0 < 12 then some (regField s Reg.fgrpSel 0 3 0) else none
  | .gmuInput => some (regField s Reg.gmuInsel 0 3 0)
  | .lane => if regField s Reg.ppdLanesel 0 2 0 < 5 then some (regField s Reg.ppdLanesel 0 2 0) else none
  | .queue => some (regField s Reg.cmdQsel 0 5 0)
  | .netPort => some (regField s Reg.netPortsel 0 1 0)
  | .canPort => some (regField s Reg.canPortsel 0 1 0)

/-! ## Registers that show live state -/

/-- EXE_TASK_CFG of task `n` (R65). -/
def exeTaskCfg (s : State) (n : Nat) : Word :=
  let t := task s n
  fieldWord 31 31 (b2n t.defined) ||| fieldWord 30 30 (b2n t.stopTask) ||| fieldWord 29 28 (tstateCode t.state)
    ||| fieldWord 19 18 t.consec ||| fieldWord 17 0 t.period

/-- A loop of Hazel, or an empty one. -/
def loopAt (s : State) (n : Nat) : Loop := (loop? s n).getD {}

/-- Two signals as the halves of a word. -/
def sigPair (hi lo : Int) : Word := fieldWord 31 16 (wordOfInt hi).toNat ||| fieldWord 15 0 (wordOfInt lo).toNat

/-- HZ_LOOP_MODE (R106): the mask reads 0. -/
def hzLoopMode (l : Loop) : Word := fieldWord 2 2 (b2n l.spTrackPv) ||| fieldWord 1 0 l.opMode

/-- FCH_CAL of the front-end that serves channel `c` (R166): its temperature in whole °C. DESIGN CHOICE: rounded down, toward minus infinity
(log 138). -/
def fchCal (s : State) (c : Nat) : Word :=
  let f := fe s c
  fieldWord 31 24 (wordOfInt (f.temperature / 100)).toNat ||| fieldWord 3 3 (b2n f.userValid) ||| fieldWord 2 2 (b2n f.factoryValid)
    ||| fieldWord 1 1 (regField s Reg.fchCal c 1 1)

/-- FCH_ADIAG of channel `c` (R166): the 1 ms averages its front-end measured. -/
def fchAdiag (s : State) (c : Nat) : Word := fieldWord 31 16 (fe s c).termV.toNat ||| fieldWord 15 0 (fe s c).headroom.toNat

/-- GRD_STAT (R180). -/
def grdStat (s : State) : Word :=
  fieldWord 16 16 (b2n s.grd.pfw) ||| fieldWord 15 8 (min 255 (s.grd.c1.filter (fun r => r.delayed.isSome)).length)
    ||| fieldWord 4 4 (b2n s.grd.c2Aged) ||| fieldWord 3 0 (min 15 s.grd.c3.length)

/-- GRD_LOGIC_MEAS (R180): active C2 and C3 claims, and P_MEAS. -/
def grdLogicMeas (s : State) : Word :=
  let claimed := ((s.grd.claims.filter (fun c => decide (c.cls = .c2) || decide (c.cls = .c3))).map (·.amount)).sum
  fieldWord 31 16 claimed ||| fieldWord 15 0 s.grd.pMeas

/-- Live registers of the supervisor and the executive. -/
def liveSup (s : State) (a i : Nat) : Option Word :=
  if a = Reg.supId then some (setField (reg s a 0) 15 12 s.tru.device.order)
  else if a = Reg.supSerialLo then some (word s.tru.device.serial) else if a = Reg.supSerialHi then some (word (s.tru.device.serial / 4294967296))
  else if a = Reg.supSupply then some (supSupply s) else if a = Reg.supRst then some (supRst s)
  else if a = Reg.supBoot then some (supBoot s) else if a = Reg.supStrap then some (supStrap s)
  else if a = Reg.supStation then some (supStation s) else if a = Reg.supOptCtrl then some (supOptCtrl s)
  else if a = Reg.exeState then some (exeState s) else if a = Reg.exeTaskCfg then some (exeTaskCfg s i)
  else if a = Reg.exeTaskTime then some (word (task s i).lastUs)
  else if a = Reg.exeForce then some (word s.exe.forces.length) else none

/-- Live registers of Hazel. -/
def liveHazel (s : State) (a i : Nat) : Option Word :=
  let l := loopAt s i
  if a = Reg.hzStat then some (hzStat s) else if a = Reg.hzLoopMode then some (hzLoopMode l)
  else if a = Reg.hzLoopStat then some (loopStat s i l)
  else if a = Reg.hzLoopSp then some (sigPair 0 l.opSp) else if a = Reg.hzLoopMv then some (sigPair 0 l.opMv)
  else if a = Reg.hzLoopVal then some (sigPair l.spWork (sigAt l.signals l.desc.pubSig))
  else if a = Reg.hzLoopOut then some (sigPair (sigAt l.signals 7) l.mv)
  else if a = Reg.hzInjStat then some (hzInjStat s) else if a = Reg.hzCapStat then some (hzCapStat s) else none

/-- Live registers of the field channels and of Gourd. FCH_SPARE shows the selected front-end itself. -/
def liveField (s : State) (a i : Nat) : Option Word :=
  if a = Reg.fchStat then some (fchStat s i) else if a = Reg.fchVal then some (fchVal s i)
  else if a = Reg.fchSpare then some (fchSpare s (regField s Reg.fchSel 0 7 0))
  else if a = Reg.fgrpStat then some (fgrpStat s i) else if a = Reg.fchAdiag then some (fchAdiag s i)
  else if a = Reg.fchCal then some (fchCal s i)
  else if a = Reg.grdStat then some (grdStat s) else if a = Reg.grdLogicMeas then some (grdLogicMeas s)
  else if a = Reg.grdGrp then some (grdGrp s i) else if a = Reg.grdGrpMeas then some (grdGrpMeas s i)
  else if a = Reg.grdIdxAddr then some (fieldWord 31 24 (grantHead s) ||| reg s Reg.grdIdxAddr 0) else none

/-- Live registers of the grid measurement unit, Walnut and Peapod. -/
def liveGmu (s : State) (a i : Nat) : Option Word :=
  if a = Reg.gmuStat then some (gmuStat s)
  else if Reg.gmuFreq0 ≤ a ∧ a ≤ Reg.gmuFreq3 then some (gmuFreq s ((a - Reg.gmuFreq0) / 4))
  else if a = Reg.gmuRocof then some (gmuRocof s) else if a = Reg.gmuSyncStat then some (gmuSyncStat s)
  else if a = Reg.gmuSyncVal then some (gmuSyncVal s) else if a = Reg.gmuInrms then some (gmuInrms s i)
  else if a = Reg.gmuShedLo then some (word s.gmu.shed) else if a = Reg.gmuShedHi then some (word (s.gmu.shed / 4294967296))
  else if Reg.wntState ≤ a ∧ a ≤ Reg.wntPair then some (s.wnt.shown.getD ((a - Reg.wntState) / 4) 0)
  else if a = Reg.ppdStat then some (ppdStat s) else if a = Reg.ppdLane then some (ppdLane s)
  else if a = Reg.ppdLaneEq then some (ppdLaneEq s) else if a = Reg.ppdSync then some (ppdSync s)
  else if a = Reg.ppdTofs then some (wordOfInt (sat32 s.pair.offset))
  else if a = Reg.ppdCap then some (if s.exe.image = none then 0 else word (copyCapacity (baseNs s / 1000))) else none

/-- Live registers of the memory island and of the network and time unit. -/
def liveNet (s : State) (a i : Nat) : Option Word :=
  if a = Reg.memStat then some (memStat s) else if a = Reg.memLap then some (word s.mem.lapMs)
  else if a = Reg.memLane then some (memLane s) else if a = Reg.memCopy then some (memCopy s)
  else if a = Reg.memMram then some (memMram s)
  else if a = Reg.netStat then some (netStat s) else if a = Reg.netPortStat then some (netPortStat s i)
  else if a = Reg.netPortCfg then some (if i < 2 then reg s a i &&& ~~~8#32 else reg s a i)
  else if a = Reg.timeNsec then some (word (nsec s)) else if a = Reg.timeSecLo then some (word s.net.secLatch)
  else if a = Reg.timeSecHi then some (word (s.net.secLatch / 4294967296))
  else if a = Reg.timeServo then some (timeServo s) else if a = Reg.timeOfs then some (wordOfInt (sat32 s.net.offset))
  else if a = Reg.timeFreq then some (wordOfInt s.net.freq) else if a = Reg.timeRefused then some (timeRefused s) else none

/-- Live registers of the CAN ports, Seedbank, the panel, the trust element, the command processor and Sprout. -/
def liveRest (s : State) (a i : Nat) : Option Word :=
  if a = Reg.canStat then some (canStat s i) else if a = Reg.canErr then some (canErr s i)
  else if a = Reg.canTxb then some (canTxb s i) else if a = Reg.canRxf then some (canRxf s i)
  else if a = Reg.canTimeStat then some (canTimeStat s i) else if a = Reg.canTofs then some (wordOfInt (canPort s i).offset)
  else if a = Reg.canTdc then some (reg s a i ||| fieldWord 23 16 (canPort s i).tdcv)
  else if a = Reg.sbkStat then some (sbkStat s) else if a = Reg.sbkFlags then some s.sbk.flags
  else if a = Reg.sbkSeqNew then some (word s.sbk.newest) else if a = Reg.sbkSeqLog then some (word s.sbk.logged)
  else if a = Reg.sbkSeqOld then some (word (sbkSeqOld s))
  else if a = Reg.sbkFrozenFirst then some (word (sbkFrozen s false)) else if a = Reg.sbkFrozenLast then some (word (sbkFrozen s true))
  else if a = Reg.pnlStat then some (pnlStat s) else if a = Reg.pnlVcom then some (pnlVcom s) else if a = Reg.pnlCrack then some (pnlCrack s)
  else if a = Reg.truStat then some (truStat s) else if a = Reg.truArb then some (truArb s) else if a = Reg.truSigner then some (truSigner s)
  else if a = Reg.cmdStat then some (cmdStat s) else if a = Reg.cmdQstat then some (cmdQstat s i)
  else if a = Reg.sprStat then some (sprStat s) else if a = Reg.sprCore then some (sprCore s)
  else if a = Reg.sprOsc then some (sprOsc s) else if a = Reg.sprHoldup then some (sprHoldup s) else none

/-- The live value of a register that shows state, by its window. -/
def live (s : State) (a i : Nat) : Option Word :=
  match a / 65536 with
  | 0 | 1 => liveSup s a i
  | 2 => liveHazel s a i
  | 3 | 4 => liveField s a i
  | 5 | 6 | 7 => liveGmu s a i
  | 8 | 9 => liveNet s a i
  | _ => liveRest s a i

/-! ## Holding registers (R336, R337) -/

/-- The holding registers of a flag register's occurrence counters: the first, and how many (the *_SNAP_FCNT addresses). -/
def fcntRanges : List (Nat × Nat) :=
  [(Fcnt.supFlags, 5), (Fcnt.supPflags, 8), (Fcnt.exeFlags, 5), (Fcnt.hzFlags, 7), (Fcnt.fchFlags, 6), (Fcnt.fgrpFlags, 4),
   (Fcnt.grdFlags, 5), (Fcnt.gmuFlags, 9), (Fcnt.ppdFlags, 12), (Fcnt.memFlags, 10), (Fcnt.sprFlags, 6), (Fcnt.cmdFlags, 6),
   (Fcnt.netFlags, 11), (Fcnt.canFlags, 11), (Fcnt.sbkFlags, 6), (Fcnt.pnlFlags, 7), (Fcnt.truFlags, 6)]

/-- The other holding registers. -/
def heldRegs : List Nat :=
  [Reg.exeSnapRel, Reg.exeSnapSkip, Reg.exeSnapMaxexec, Reg.hzSnapPod1, Reg.hzSnapPod2, Reg.hzSnapPod3, Reg.hzSnapPod4, Reg.hzSnapPod5,
   Reg.fchSnapFrameerr, Reg.fchSnapShorts, Reg.fchSnapCompl, Reg.grdSnapC1dly, Reg.grdSnapRef, Reg.grdSnapMaxwait, Reg.gmuSnapEvents,
   Reg.gmuSnapSheds, Reg.ppdSnapReplay, Reg.ppdSnapPeak, Reg.ppdSnapAckmax, Reg.memSnapCorr0, Reg.memSnapCorr1, Reg.memSnapCorr2,
   Reg.memSnapCorr3, Reg.sprSnapSprouts, Reg.cmdSnapRx, Reg.cmdSnapRefused, Reg.cmdSnapPromote, Reg.supSnapLockv, Reg.supSnapUnmapped,
   Reg.netSnapStorm, Reg.netSnapTtlate, Reg.netSnapPtpign, Reg.netSnapBeaconrej, Reg.canSnapTx, Reg.canSnapRx, Reg.canSnapErr,
   Reg.canSnapOvr, Reg.sbkSnapPosted, Reg.sbkSnapSupp, Reg.sbkSnapLost, Reg.pnlSnapUpd, Reg.pnlSnapRef, Reg.truSnapVerify,
   Reg.truSnapFail, Reg.truSnapSign, Reg.supSnapResets, Reg.supSnapDips, Reg.supSnapIslrst]

/-- The register at `a` is a holding register. -/
def isHolding (a : Nat) : Bool :=
  heldRegs.contains a || fcntRanges.any (fun r => decide (r.1 ≤ a) && decide (a < r.1 + 4 * r.2))

/-! ## Indirect windows (R338) -/

/-- An island's indirect pair: its address register, its data register, and how many addresses the address field holds. -/
def idxPair : Nat → Option (Nat × Nat × Nat)
  | 0x0 => some (Reg.supIdxAddr, Reg.supIdxData, 4096)
  | 0x2 => some (Reg.hzIdxAddr, Reg.hzIdxData, 4194304)
  | 0x3 => some (Reg.fchIdxAddr, Reg.fchIdxData, 4096)
  | 0x4 => some (Reg.grdIdxAddr, Reg.grdIdxData, 8192)
  | 0x5 => some (Reg.gmuIdxAddr, Reg.gmuIdxData, 16384)
  | 0x6 => some (Reg.wntIdxAddr, Reg.wntIdxData, 1024)
  | 0x8 => some (Reg.memIdxAddr, Reg.memIdxData, 16384)
  | 0x9 => some (Reg.netIdxAddr, Reg.netIdxData, 262144)
  | 0xA => some (Reg.canIdxAddr, Reg.canIdxData, 16384)
  | 0xB => some (Reg.sbkIdxAddr, Reg.sbkIdxData, 2097152)
  | 0xC => some (Reg.pnlIdxAddr, Reg.pnlIdxData, 65536)
  | _ => none

/-- `a` is the address register of its island's pair. -/
def isIdxAddr (a : Nat) : Bool := match idxPair (a / 65536) with
  | some p => decide (p.1 = a)
  | none => false

/-- `a` is the data register of its island's pair. -/
def isIdxData (a : Nat) : Bool := match idxPair (a / 65536) with
  | some p => decide (p.2.1 = a)
  | none => false

/-- The word at `a` of a store of bytes. -/
def byteWord (f : Nat → Byte) (a : Nat) : Word := word (ofLe [f a, f (a + 1), f (a + 2), f (a + 3)])

/-- A block slot as its 8 bytes (Table HZL-14). -/
def slotDescBytes (b : BlockSlot) : List Byte :=
  leBytes 1 b.type ++ leBytes 1 b.out ++ leBytes 1 b.inA ++ leBytes 1 b.inB ++ leBytes 1 b.inC ++ leBytes 1 b.flags ++ leBytes 2 b.param

/-- A descriptor's header and block slots, bytes 0 to 159 (Table HZL-13); an empty slot reads 0. -/
def descBytes (d : LoopDesc) : List Byte :=
  let binds := (List.range 4).flatMap (fun i => leBytes 2 (d.inBind.getD i 0xFFFF))
  let header := leBytes 8 d.loopId ++ leBytes 1 d.k ++ leBytes 1 d.pod ++ leBytes 2 d.phase ++ leBytes 1 d.rank ++ leBytes 1 d.nblk
    ++ leBytes 1 d.flags ++ leBytes 1 d.outSig ++ leBytes 2 d.out ++ leBytes 1 d.pidBlk ++ leBytes 1 d.rampBlk ++ binds
    ++ leBytes 1 d.pubSig ++ leBytes 1 d.initMode ++ leBytes 2 0
  let slots := (d.blocks.take 16).flatMap slotDescBytes
  header ++ slots ++ leBytes (128 - slots.length) 0

/-- A word of the descriptor of loop `n` at byte `o`: the parameter area shows the last value written, as a staged register does (R335). -/
def descWord (s : State) (n o : Nat) : Word :=
  match loop? s n with
  | none => 0
  | some l =>
    if o < 160 then wordAt (descBytes l.desc) o
    else match l.wrote.find? (fun p => decide (p.1 = (o - 160) / 4)) with
      | some p => p.2
      | none => l.desc.params.getD ((o - 160) / 4) 0

/-- A word of Hazel's loop memory (Table HZL-12). What lies where in the capture staging buffer is not stated, so its words are free. -/
def hazelWindowRead (s : State) (a : Nat) : Word :=
  if a < 0x200000 then descWord s (a / 512) (a % 512)
  else if a < 0x300000 then match loop? s ((a - 0x200000) / 256) with
    | some l => wordAt (blockStateBytes l) (a % 256)
    | none => 0
  else if a < 0x300080 then wordAt (gen s ((a - 0x300000) / 32)).icb (a % 32)
  else if 0x300100 ≤ a ∧ a < 0x3001C0 then wordAt (cap s ((a - 0x300100) / 48)).ccb ((a - 0x300100) % 48)
  else if 0x310000 ≤ a ∧ a < 0x320000 then freeNow s
  else 0

/-- A word of the isolated side of the front-end that serves channel `c` (Table FCA-8); all ones where it does not answer, and 0 above its
space (R114). -/
def fchWindowRead (s : State) (c a : Nat) : Word :=
  if 0x400 ≤ a then 0
  else if isoSilent s c then 0xFFFFFFFF#32
  else if a < 0x300 then byteWord (isoShown s c) a
  else if a = 0x300 then word (fe s c).safeCounts.toNat
  else if a = 0x304 then word ((wordOfInt (fe s c).temperature).toNat % 65536)
  else 0

/-- The descriptor of a transmit object as its 32 bytes (Table CAN-2). -/
def txObjectBytes (d : TxObject) : List Byte :=
  leBytes 4 (d.id + b2n d.ext * 2 ^ 29 + b2n d.enabled * 2 ^ 31) ++ leBytes 1 d.dlc
    ++ leBytes 1 (b2n d.fdf + 2 * b2n d.brs + 4 * b2n d.oneShot + 8 * b2n d.cyclic + 16 * b2n d.runOnly) ++ leBytes 1 d.writer ++ leBytes 1 0
    ++ leBytes 4 d.period ++ leBytes 4 d.srcOfs ++ leBytes 16 0

/-- A word of a port's window: filters, transmit objects, FIFO records by index. -/
def canWindowRead (s : State) (p a : Nat) : Word :=
  let x := canPort s p
  if a < 0x200 then byteWord (storeGet (fun _ => 0) x.filters) a
  else if 0x400 ≤ a ∧ a < 0x800 then match txObject x ((a - 0x400) / 32) with
    | some d => wordAt (txObjectBytes d) (a % 32)
    | none => 0
  else if 0x1000 ≤ a ∧ a < 0x2800 then wordAt (storeGet (fun _ => []) x.slots ((a - 0x1000) / 96)) ((a - 0x1000) % 96)
  else 0

/-- A word of the grant log: entry e at 32 × e (R178). -/
def grdWindowRead (s : State) (a : Nat) : Word := match grantAt s (a / 32) with
  | some e => wordAt (grantBytes e) (a % 32)
  | none => 0

/-- The word at `a` behind the indirect pair of window `w`. -/
def windowRead (s : State) (w a : Nat) : Word :=
  match w with
  | 0x0 => byteWord (supWindowByte s) a
  | 0x2 => hazelWindowRead s a
  | 0x3 => match instanceOf s .frontEnd with
    | some c => fchWindowRead s c a
    | none => 0
  | 0x4 => grdWindowRead s a
  | 0x5 => gmuWindowRead s a
  | 0x6 => byteWord (exposedByte s.wnt) a
  | 0x8 => byteWord (memWindowByte s) a
  | 0x9 => netWindowRead s (regField s Reg.netPortsel 0 1 0) a
  | 0xA => canWindowRead s (regField s Reg.canPortsel 0 1 0) a
  | 0xB => byteWord (sbkWindowByte s) a
  | 0xC => byteWord (panelWindowByte s) a
  | _ => 0

/-- The word that an access to the data register `a` reaches now. -/
def dataWord (s : State) (a : Nat) : Word :=
  match idxPair (a / 65536) with
  | some p => windowRead s (a / 65536) (reg s p.1 0).toNat
  | none => 0

/-- The address register behind the data register `a` advances by 4 (R338). -/
def advanceData (s : State) (a : Nat) : State :=
  match idxPair (a / 65536) with
  | some p => advanceIdx s p.1 p.2.2
  | none => s

/-! ## Reading (R327, R328, R330) -/

/-- What the defined register `sp` reads as for its instance `i`. -/
def showReg (s : State) (sp : RegSpec) (i : Nat) : Word :=
  if isIdxData sp.addr then dataWord s sp.addr
  else if isHolding sp.addr then heldCounter s sp.addr i
  else match live s sp.addr i with
    | some v => v
    | none => reg s sp.addr i &&& ~~~(word sp.wo)

/-- What the register at `a` reads as: 0 where no map defines it, and where its select names nothing. -/
def showWord (s : State) (a : Nat) : Word :=
  match regSpec? a with
  | none => 0
  | some sp => match instanceOf s sp.bank with
    | none => 0
    | some i => showReg s sp i

/-- A read through an isolated-side window goes to the front-end byte by byte, or is answered with FRAME_ERR where it does not answer
(R114). -/
def isoRead (s : State) : State :=
  match instanceOf s .frontEnd with
  | none => s
  | some c =>
    let a := (reg s Reg.fchIdxAddr 0).toNat
    if 0x400 ≤ a then s else if isoSilent s c then raise s Reg.fchFlags c 1 else pushAcyc s c false a 0

/-- A grant log entry counts as read once the last of its words has been (R178; log 114). -/
def grantRead (s : State) : State :=
  let a := (reg s Reg.grdIdxAddr 0).toNat
  if a % 32 = 28 then
    { s with grd := { s.grd with log := s.grd.log.map (fun e => if e.seq % 256 = a / 32 then { e with read := true } else e) } }
  else s

/-- What a read does besides: an access to a data register advances its address and the data register holds the word last accessed, and a
read of TIME_NSEC latches the seconds (R370). -/
def afterRead (s : State) (a : Nat) (v : Word) : State :=
  if isIdxData a then
    let s1 := if a = Reg.hzIdxData then freeNext s else if a = Reg.fchIdxData then isoRead s
      else if a = Reg.grdIdxData then grantRead s else s
    advanceData (setReg s1 a 0 v) a
  else if a = Reg.timeNsec then { s with net := { s.net with secLatch := sec s } }
  else s

/-- A read of one aligned word: it ends in HUSKED at a held island (R328). -/
def readWord (s : State) (a : Nat) : State × Word × Access :=
  if held s (a / 65536) then (s, 0, .husked)
  else (afterRead s a (showWord s a), showWord s a, .done)

end Sys2Proof.Machine
end

