-- ==== Sys2Proof/Machine/RegApply.lean ====
section
/-! DEFINITION. Machine/RegApply.lean: the islands apply staged values at their natural boundaries, or discard them (R118, R334, R335,
Table REG-4). -/
namespace Sys2Proof.Machine
open Sys2Proof

/-- The signed value of a byte. -/
def signed8 (n : Nat) : Int := (BitVec.ofNat 8 n).toInt

/-- A task of the running image reads or writes channel `c`, or a loop names it as an input or its output (R118). -/
def channelUsed (s : State) (c : Nat) : Bool :=
  s.exe.tasks.any (fun p => p.2.defined && (p.2.reads.contains c || p.2.writes.contains c))
    || s.hz.loops.any (fun p => (boundChannels p.2.desc).contains c || decide (p.2.desc.out = c))

/-- The test of R118: the station is in STOP, or nothing of the running image uses the channel. -/
def freeToChange (s : State) (c : Nat) : Bool := decide (s.exe.station = .stop) || !channelUsed s c

/-- The ON and OFF thresholds of a FCH_DICFG value lie at least 4 codes apart (Table FCD-8). -/
def thresholdsOk (v : Word) : Bool := decide (field v 7 0 + 4 ≤ field v 15 8)

/-- The checks of a staged value of channel `c` (R118, R122, R124, R158, R159, R164 and the fields' ranges). DESIGN CHOICE: an FCH_MODE code
that Table FCD-5 does not define, and FCH_PULSECFG.EDGE = 11, are discarded with CFG_REFUSED (log 68). -/
def fieldCheck (s : State) (c a : Nat) (v : Word) : Bool :=
  if a = Reg.fchMode then
    modeDefined (field v 7 0) && freeToChange s c && (!usesThresholds (field v 7 0) || thresholdsOk (cfg s Reg.fchDicfg c))
  else if a = Reg.fchDicfg then
    decide (1 ≤ field v 25 16) && decide (field v 25 16 ≤ 1000) && (!usesThresholds (modeOf s c) || thresholdsOk v)
  else if a = Reg.fchStopcfg then decide (field v 1 0 ≠ 3)
  else if a = Reg.fchPulsecfg then
    decide (field v 1 0 ≠ 3) && decide (1 ≤ field v 31 16) && decide (field v 31 16 ≤ 50000)
      && decide (1 ≤ field v 15 6) && decide (field v 15 6 ≤ 1000)
  else if a = Reg.fchAicfg then decide (field v 25 16 ≤ 1000) && decide (field v 15 8 ≠ 0)
  else if a = Reg.fchAocfg then decide (field v 5 4 ≠ 3) && decide (field v 1 0 ≠ 3)
  else if a = Reg.fchAosafe then decide (field v 31 16 ≤ 48000) && decide (field v 15 0 ≤ 48000)
  else if a = Reg.fchCal then decide (field v 1 1 = 0) || (fe s c).userValid
  else true

/-- The parts of a front-end as a mode change sets them (Table FCA-1), with the conditions of the old mode gone; what is latched stays
(R129). -/
def resetParts (f : FrontEnd) : FrontEnd :=
  { f with
    reconfiguring := true, supplyClosed := false, supplyOpen := false, supplyRetry := false, supplyShort := false
    burdenOpen := false, burdenRetry := false, openLoad := false, compliance := false, alarmUnreach := false
    failLow := false, failHigh := false, limit := false, short := f.latchedShort, reported := 0, fromPartner := false }

/-- An accepted mode change: the output is off, its request and its claims are given up, and the front-end is disarmed by the next frame and
reconfigured (R118, R142). -/
def changeMode (s : State) (c : Nat) (v : Word) : State :=
  refresh (modFe (setCfg (releaseDo s c) Reg.fchMode c v) c resetParts) c

/-- An accepted staged value of channel `c`. The logic side writes the local safe setting at each staged change (R158). -/
def fieldPut (s : State) (c a : Nat) (v : Word) : State :=
  if a = Reg.fchMode then
    if field v 7 0 = modeOf s c then setCfg s a c v else changeMode s c v
  else
    let s1 := setCfg s a c v
    let s2 := if a = Reg.fchAocfg ∨ a = Reg.fchAosafe then modFe s1 c (fun f => { f with safeCounts := BitVec.ofNat 16 (safeSetting s1 c) }) else s1
    refresh s2 c

/-- The checks of a staged Gourd value (R118, R175, R180). -/
def gourdCheck (s : State) (i a : Nat) (v : Word) : Bool :=
  if a = Reg.grdCfg then
    decide (1 ≤ field v 4 0) && decide (field v 4 0 ≤ 20) && decide (10 ≤ field v 25 16) && decide (field v 25 16 ≤ 1000)
  else if a = Reg.grdLogicCap then decide (3650 ≤ field v 11 0) && decide (field v 11 0 ≤ 3800)
  else if a = Reg.grdChload then
    freeToChange s i && decide (1 ≤ field v 24 16) && decide (field v 24 16 ≤ if isAo (modeOf s i) then 24 else 500) && decide (field v 5 0 ≤ 50)
  else true

/-- The checks of a staged GMU value (R183, R190, R204, R210, R212): FNOM and the wirings change in STOP only. -/
def gmuCheck (s : State) (i a : Nat) (v : Word) : Bool :=
  if a = Reg.gmuCfg then
    let fixedBits := maskOf 5 4 ||| maskOf 0 0
    (decide (v &&& fixedBits = cfg s Reg.gmuCfg i &&& fixedBits) || decide (s.exe.station = .stop))
      && decide (10 ≤ field v 17 8) && decide (field v 17 8 ≤ 1000)
  else if a = Reg.gmuRocofCfg then
    decide (20 ≤ field v 8 0) && decide (field v 8 0 ≤ 500) && decide (20 ≤ field v 24 16) && decide (field v 24 16 ≤ 500)
  else if a = Reg.gmuInscale then inscaleOk v
  else if a = Reg.gmuIndelay then decide (-500000 ≤ v.toInt) && decide (v.toInt ≤ 500000)
  else true

/-- The checks of a staged value of the network and time unit (R348, R354, R359, R360, R362). -/
def timeCheck (a : Nat) (v : Word) : Bool :=
  let slow (n : Nat) : Bool := decide (-7 ≤ signed8 n) && decide (signed8 n ≤ 0)
  if a = Reg.ptpIntv then
    slow (field v 7 0) && slow (field v 23 16) && decide (-3 ≤ signed8 (field v 15 8)) && decide (signed8 (field v 15 8) ≤ 3)
  else if a = Reg.timeJump then
    decide (1 ≤ field v 31 21) && decide (field v 31 21 ≤ 1440) && decide (1 ≤ field v 20 14) && decide (field v 20 14 ≤ 100)
      && decide (2 ≤ field v 13 4) && decide (field v 13 4 ≤ 100)
  else if a = Reg.timeJumpLim then decide (1 ≤ field v 19 0) && decide (field v 19 0 ≤ 1000000)
  else if a = Reg.netPortCfg then decide (100 ≤ field v 17 4) && decide (field v 17 4 ≤ 10000)
  else true

/-- An accepted staged value of the network and time unit: a port that is disabled loses its link. -/
def timePut (s : State) (i a : Nat) (v : Word) : State :=
  let s1 := setCfg s a i v
  if a = Reg.netPortCfg ∧ bit v 0 = false ∧ (netPort s i).linked then setPtpStates (netRaise (portDown s1 i) 0) else setPtpStates s1

/-- The staged values of a window, applied in the order in which they were written: each either takes effect or is discarded with its
island's flag, and the others still apply. APPLY.GEN counts a boundary at which any takes effect (R334, R335). -/
def applyWindow (s : State) (w : Nat) (check : State → Nat → Nat → Word → Bool) (put : State → Nat → Nat → Word → State)
    (refused : State → Nat → State) (gen : Nat) : State :=
  let ours (k : Nat × Word) : Bool := decide (k.1 % 1048576 / 65536 = w)
  let one (x : State × Bool) (k : Nat × Word) : State × Bool :=
    let a := k.1 % 1048576
    let i := k.1 / 1048576
    if check x.1 i a k.2 then (put x.1 i a k.2, true) else (refused x.1 i, x.2)
  let x := (s.staged.filter ours).foldl one ({ s with staged := s.staged.filter (fun k => !ours k) }, false)
  if x.2 then bumpApply x.1 gen 0 else x.1

/-- A value simply comes into force. -/
def putCfg (s : State) (i a : Nat) (v : Word) : State := setCfg s a i v

/-- The staged channel values at a base-cycle boundary. -/
def applyField (s : State) : State :=
  applyWindow s 0x3 fieldCheck (fun t c a v => fieldPut t c a v) (fun t c => raise t Reg.fchFlags c 5) Reg.fchApply

/-- Gourd's staged values at a base-cycle boundary. -/
def applyGourd (s : State) : State := applyWindow s 0x4 gourdCheck putCfg (fun t _ => raise t Reg.grdFlags 0 4) Reg.grdApply

/-- The GMU's staged values and set table at the end of a 1 ms report. -/
def applyGmu (s : State) : State :=
  let s1 := applyWindow s 0x5 gmuCheck putCfg (fun t _ => gmuRaise t 8) Reg.gmuApply
  let applied := decide (regField s1 Reg.gmuApply 0 15 0 ≠ regField s Reg.gmuApply 0 15 0)
  if s1.gmu.staged = [] then s1
  else if applied then applySetTable s1 else bumpApply (applySetTable s1) Reg.gmuApply 0

/-- The panel's staged values at a panel frame (R409). -/
def applyPanel (s : State) : State :=
  applyWindow s 0xC (fun t _ _ v => vcomOk t v) putCfg (fun t _ => pnlRaise t 5) Reg.pnlApply

/-- The network and time unit's staged values at a servo update. -/
def applyTime (s : State) : State :=
  applyWindow s 0x9 (fun _ _ a v => timeCheck a v) timePut (fun t _ => netRaise t 10) Reg.netApply

/-- STAGED_APPLY (R334, R335): an island's natural boundary. Hazel's staged values are taken up by each loop at its sample, in
HAZEL_SLOT, where HZ_APPLY.GEN counts; its boundary has nothing more to do. A held island keeps its staged values (R13). -/
def stagedApply (s : State) : StagedIsland → State
  | .field => if held s 0x3 then s else applyField s
  | .gourd => if held s 0x4 then s else applyGourd s
  | .hazel => s
  | .gmu => if held s 0x5 then s else applyGmu s
  | .can p => if held s 0xA then s else canApply s p.val
  | .panel => if held s 0xC then s else applyPanel s
  | .time => if held s 0x9 then s else applyTime s

/-- STAGED_APPLY (R334). -/
def execStagedApply (i : StagedIsland) (s : State) : Host.Outcome State Fault Refusal := .next (stagedApply s i)

end Sys2Proof.Machine
end

