-- ==== Sys2Proof/Machine/RegWrite.lean ====
section
/-! DEFINITION. Machine/RegWrite.lean: writing one register word: the locks, the flags, staging, the actions, and the indirect windows
(R330 to R344). -/
namespace Sys2Proof.Machine
open Sys2Proof

/-! ## Values and lists -/

/-- `v` under the mask `m`, over `old`. -/
def underMask (old v m : Word) : Word := (old &&& ~~~m) ||| (v &&& m)

/-- The select registers (Table REG-5). -/
def selectRegs : List Nat :=
  [Reg.exeTasksel, Reg.hzLoopsel, Reg.fchSel, Reg.fgrpSel, Reg.gmuInsel, Reg.ppdLanesel, Reg.cmdQsel, Reg.netPortsel, Reg.canPortsel]

/-- `a` is its window's snapshot register. -/
def isSnap (a : Nat) : Bool := decide (snapReg (a / 65536) = some a)

/-- `a` is a register of W1C flags. -/
def isFlags (a : Nat) : Bool := match regSpec? a with
  | some sp => decide (sp.w1c ≠ 0)
  | none => false

/-- The writes accepted while DEV_LOCK = 1 (Table REG-5): `v` holds the bits that are written 1. -/
def listedWrite (a : Nat) (v : Word) : Bool :=
  selectRegs.contains a || isSnap a || isFlags a || isIdxAddr a || decide (a = Reg.supLockKey)
    || (decide (a = Reg.supLock) && decide (field v 1 0 ≠ 0))

/-! ## The supervisor's lock and reset (R340 to R342, R442, R444) -/

/-- A write of SUP_LOCK: 1 in PERM sets both locks once, then is a locked write; 1 in DEV_LOCK sets DEV_LOCK; a 0 does nothing (R341, R342). -/
def writeLock (s : State) (v : Word) (r : Requester) : State × Access :=
  let s1 := if bit v 0 then setRegField s Reg.supLock 0 0 0 1 else s
  if bit v 1 then
    if permLocked s then (lockedWrite s1 Reg.supLock r 1, .locked) else (setRegField s1 Reg.supLock 0 1 0 3, .done)
  else (s1, .done)

/-- Two requesters are the same: the same session, or both station code (R341). -/
def sameRequester : Requester → Requester → Bool
  | .stationCode, .stationCode => true
  | .command _ a, .command _ b => decide (a = b)
  | _, _ => false

/-- A word of the key sequence (R341). -/
def writeKey (s : State) (v : Word) (r : Requester) : State :=
  if permLocked s then keyFail s r
  else if keyStep s = 0 then
    if v = 0xC1A5#32 then setKeyStep s 1 (some r) else keyFail s r
  else if v = 0x5A1C#32 && decide (s.now ≤ s.sup.keyAt + 10000000) && (s.sup.keyBy.map (sameRequester r)).getD false then
    post (raise (setRegField (setKeyStep s 0 none) Reg.supLock 0 0 0 0) Reg.supFlags 0 3) .devUnlocked 0 0 (sourceBits r) 0
  else keyFail s r

/-- A write of SUP_RESET: the module or one island is reset, or it is a locked write of kind OUT_OF_RANGE (R442, R444). -/
def writeReset (s : State) (v : Word) (r : Requester) : State × Access :=
  if field v 31 16 ≠ 0x5A1B then (lockedWrite s Reg.supReset r 3, .locked)
  else match field v 1 0, field v 11 8 with
    | 1, _ => (askReset s, .done)
    | 2, 0xA => (resetIsland s .can, .done)
    | 2, 0xC => (resetIsland s .panel, .done)
    | _, _ => (lockedWrite s Reg.supReset r 3, .locked)

/-! ## Flags (R333) -/

/-- W1C flags written 1 are cleared, and those that hardware sets in the same cycle stand (R333). Seedbank keeps its own flags. -/
def clearReg (s : State) (a i : Nat) (v : Word) (race : List Nat) : State :=
  if a = Reg.sbkFlags then { s with sbk := race.foldl sbkRaise { s.sbk with flags := s.sbk.flags &&& ~~~v } }
  else clearFlags s a i v race

/-! ## Staged registers (R334, R335) -/

/-- The registers that configure a front-end: a write with a spare selected is ignored (R140). -/
def configRegs : List Nat :=
  [Reg.fchMode, Reg.fchDicfg, Reg.fchDocfg, Reg.fchStopcfg, Reg.fchPulsecfg, Reg.fchAicfg, Reg.fchAocfg, Reg.fchAosafe, Reg.fchCal,
   Reg.grdChload]

/-- FCH_SEL selects a spare. -/
def spareSelected (s : State) : Bool := decide (192 ≤ regField s Reg.fchSel 0 7 0)

/-- The shadow takes a value, and it waits for its boundary (R334). -/
def stageWrite (s : State) (a i : Nat) (v : Word) : State :=
  let s1 := setReg s a i v
  { s1 with staged := s1.staged ++ [(rkey a i, v)] }

/-- A write of a staged register: the bit timings of a CAN port are accepted only while its EN is 0 (R373). -/
def writeStaged (s : State) (sp : RegSpec) (i : Nat) (v m : Word) : State :=
  let a := sp.addr
  if configRegs.contains a && spareSelected s then raise s Reg.fchFlags i 5
  else if (decide (a = Reg.canNbt) || decide (a = Reg.canDbt) || decide (a = Reg.canTdc)) && decide (canCfg s i 0 0 = 1) then canRaise s i 5
  else if m &&& word sp.rw = 0 then s
  else stageWrite s a i (underMask (reg s a i) v (m &&& word sp.rw))

/-! ## The indirect windows -/

/-- A write of the isolated side (R114, R164, R165): one of the user area goes to the front-end byte by byte; where it does not answer the
write is discarded with FRAME_ERR. -/
def fchWindowWrite (s : State) (c a : Nat) (v : Word) (r : Requester) : State × Access :=
  if 0x100 ≤ a ∧ a < 0x200 then (lockedWrite s Reg.fchIdxData r 2, .locked)
  else if 0x200 ≤ a ∧ a < 0x300 then
    if modeOf s c ≠ 0 ∧ s.exe.station ≠ .stop then (raise s Reg.fchFlags c 5, .done)
    else if isoSilent s c then (raise s Reg.fchFlags c 1, .done)
    else (pushAcyc s c true a v, .done)
  else (s, .done)

/-- A write of Hazel's loop memory (Table HZL-12): the parameter area is staged, an ICB takes it unless its generator runs, a CCB while its
set is idle or DONE; any other write is refused with WRITE_REFUSED. DESIGN CHOICE: a write to the parameter area of a loop that the image does
not define is dropped without WRITE_REFUSED, and its descriptor reads 0 (log 132). -/
def hazelWindowWrite (s : State) (a : Nat) (v : Word) : State :=
  if a < 0x200000 ∧ 160 ≤ a % 512 then
    if (loop? s (a / 512)).isSome then stageParams s (a / 512) ((a % 512 - 160) / 4) [v] else s
  else if 0x300000 ≤ a ∧ a < 0x300080 then
    let g := (a - 0x300000) / 32
    if (gen s g).state = 1 then hzRaise s 6
    else
      let x := gen s g
      setGen s g { x with icb := putBytes (x.icb ++ leBytes (32 - x.icb.length) 0) (a % 32) (leBytes 4 v.toNat) }
  else if 0x300100 ≤ a ∧ a < 0x3001C0 then
    let k := (a - 0x300100) / 48
    if capFree s k then
      let x := cap s k
      setCap s k { x with ccb := putBytes (x.ccb ++ leBytes (48 - x.ccb.length) 0) ((a - 0x300100) % 48) (leBytes 4 v.toNat) }
    else hzRaise s 6
  else hzRaise s 6

/-- A write of a port's window: filters, while the port is off or the station in STOP (R378). -/
def canWindowWrite (s : State) (p a : Nat) (v : Word) : State :=
  if a < 0x200 then
    if canCfg s p 0 0 = 0 ∨ s.exe.station = .stop then
      modPort s p (fun x => { x with filters := putStore x.filters a (leBytes 4 v.toNat) })
    else canRaise s p 5
  else s

/-- A write of the word at `a` behind the indirect pair of window `w`. The windows that are read-only discard it. -/
def windowWrite (s : State) (w a : Nat) (v : Word) (r : Requester) : State × Access :=
  match w with
  | 0x0 => if trimsAddress a then (lockedWrite s Reg.supIdxData r 2, .locked) else (supWindowWrite s a v, .done)
  | 0x2 => (hazelWindowWrite s a v, .done)
  | 0x3 => match instanceOf s .frontEnd with
    | some c => fchWindowWrite s c a v r
    | none => (s, .done)
  | 0x5 => (gmuWindowWrite s a v, .done)
  | 0x9 => (netWindowWrite s (regField s Reg.netPortsel 0 1 0) a v, .done)
  | 0xA => (canWindowWrite s (regField s Reg.canPortsel 0 1 0) a v, .done)
  | 0xB => (sbkWindowWrite s a v, .done)
  | _ => (s, .done)

/-- A write of the data register `a`: the word it reaches, under the mask; the data register then holds the word last accessed. -/
def writeData (s : State) (a : Nat) (v m : Word) (r : Requester) : State × Access :=
  let w := a / 65536
  match idxPair w with
  | none => (s, .done)
  | some p =>
    let at_ := (reg s p.1 0).toNat
    let x := windowWrite s w at_ (underMask (windowRead s w at_) v m) r
    (setReg x.1 a 0 (windowRead x.1 w at_), x.2)

/-! ## Actions of self-clearing bits -/

/-- Run an action when its bit is written 1. -/
def actIf (w : Word) (n : Nat) (f : State → State) (s : State) : State := if bit w n then f s else s

/-- The actions of a write: `w` holds the bits written 1, and they act in bit order, after the register's RW fields have been stored. -/
def writeActions (s : State) (a i : Nat) (w : Word) : State :=
  if a = Reg.supOptCtrl then actIf w 1 discardOptions (actIf w 0 commitOptions s)
  else if a = Reg.ppdCtrl then actIf w 9 claimField (actIf w 8 (fun t => goOffline t 10) (actIf w 0 retrainRetired s))
  else if a = Reg.gmuSyncCtrl then actIf w 1 disarmSync (actIf w 0 askSync s)
  else if a = Reg.gmuShedRello then writeRelease false w s
  else if a = Reg.gmuShedRelhi then writeRelease true w s
  else if a = Reg.gmuShedCtrl then
    let t := regField s Reg.gmuShedCtrl 0 4 0
    actIf w 9 (fun u => disarmTrigger u t) (actIf w 8 (fun u => armTrigger u t) s)
  else if a = Reg.hzInj then
    let g := regField s Reg.hzInj 0 1 0
    actIf w 9 (fun t => stopInjection t g) (actIf w 8 (fun t => startInjection t g) s)
  else if a = Reg.hzCap then
    let k := regField s Reg.hzCap 0 1 0
    actIf w 10 (fun t => disarmCapture t k) (actIf w 9 (fun t => fireCapture t k) (actIf w 8 (fun t => askArm t k) s))
  else if a = Reg.canCtrl then
    actIf w 2 (fun t => canFeed (abortBuffers t i) i) (actIf w 1 (fun t => fifoPop t i) (actIf w 0 (fun t => startRecovery t i) s))
  else if a = Reg.fchCtrl then actIf w 0 (fun t => clearFault t i) s
  else s

/-- A value that a map declares handled as a locked write (Table REG-6). -/
def outOfRange (a : Nat) (v : Word) : Bool :=
  if a = Reg.memScrubCfg then decide (field v 5 0 = 0) || decide (60 < field v 5 0)
  else if a = Reg.cmdAge then decide (field v 10 0 < 16) || decide (1024 < field v 10 0)
  else if a = Reg.supWdog then decide (field v 9 0 < 10) || decide (1000 < field v 9 0)
  else false

/-- A write of a register that is not staged: its RW fields under the mask, then its actions. -/
def writePlain (s : State) (sp : RegSpec) (i : Nat) (v m : Word) (r : Requester) : State × Access :=
  let a := sp.addr
  let new := underMask (reg s a i) v (m &&& word sp.rw)
  if outOfRange a new then (lockedWrite s a r 3, .locked)
  else if decide (a = Reg.fchCtrl) && spareSelected s && decide (m &&& word sp.rw ≠ 0) then (writeActions (raise s Reg.fchFlags i 5) a i (v &&& m &&& word sp.wo), .done)
  else
    let s1 := if m &&& word sp.rw = 0 then s else setReg s a i new
    (writeActions s1 a i (v &&& m &&& word sp.wo), .done)

/-- The masked write and the operator registers of the selected loop (R83, R91, R331). -/
def writeLoop (s : State) (a i : Nat) (v m : Word) : State :=
  if a = Reg.hzLoopMode then writeLoopMode s (v &&& m)
  else if m &&& 0xFFFF#32 = 0 then s
  else if a = Reg.hzLoopSp then writeLoopSp s (underMask (sigPair 0 (loopAt s i).opSp) v m)
  else writeLoopMv s (underMask (sigPair 0 (loopAt s i).opMv) v m)

/-! ## One word -/

/-- A write that the locks let through, of the defined register `sp`, instance `i`. -/
def writeInstance (s : State) (sp : RegSpec) (i : Nat) (v m : Word) (r : Requester) : State × Access :=
  let a := sp.addr
  if isIdxData a then writeData s a v m r
  else if a = Reg.supLock then writeLock s (v &&& m) r
  else if a = Reg.supLockKey then (if m = 0 then s else writeKey s (v &&& m) r, .done)
  else if a = Reg.supReset then writeReset s (v &&& m) r
  else if isFlags a then (clearReg s a i (v &&& m &&& word sp.w1c) [], .done)
  else if isSnap a then (if bit (v &&& m) 0 then takeSnapshot s (a / 65536) else s, .done)
  else if isIdxAddr a then (setReg s a i (underMask (reg s a i) v (m &&& word sp.rw) &&& ~~~3#32), .done)
  else if a = Reg.hzLoopMode ∨ a = Reg.hzLoopSp ∨ a = Reg.hzLoopMv then (writeLoop s a i v m, .done)
  else if sp.staged then (writeStaged s sp i v m, .done)
  else writePlain s sp i v m r

/-- A write that the device lock lets through: the Walnut window takes none but its address register's (R343), and a select that names
nothing leaves nothing to write. -/
def writeDefined (s : State) (sp : RegSpec) (v m : Word) (r : Requester) : State × Access :=
  if sp.addr / 65536 = 6 ∧ sp.addr ≠ Reg.wntIdxAddr then (lockedWrite s sp.addr r 2, .locked)
  else match instanceOf s sp.bank with
    | none => (s, .done)
    | some i => writeInstance s sp i v m r

/-- A write of the aligned word at `a`: bits under a 0 in `m` are not written (R331). Every access to a data register that completes
advances its address, a locked write among them (R338). -/
def writeWord (s : State) (a : Nat) (v m : Word) (r : Requester) : State × Access :=
  if held s (a / 65536) then (s, .husked)
  else match regSpec? a with
    | none => (unmappedWrite (breakKey s a r) a r, .done)
    | some sp =>
      let x := guardWrite s a r (listedWrite a (v &&& m)) (fun t => writeDefined t sp v m r)
      (if isIdxData a then advanceData x.1 a else x.1, x.2)

/-- The mask of a whole write. -/
def allOnes : Word := 0xFFFFFFFF#32

end Sys2Proof.Machine
end

