-- ==== Sys2Proof/Machine/Registers.lean ====
section
/-! DEFINITION. Machine/Registers.lean: the register commands (Table CMD-9) and the register path's own rows (R328 to R344). -/
namespace Sys2Proof.Machine
open Sys2Proof

/-- An address that names an aligned word of the register space (R327). -/
def addrOk (a : Nat) : Bool := decide (a % 4 = 0) && decide (a ≤ 0xFFFFF)

/-- The address of word `k` of a register command: the same for every word when FLAGS [0] = 1. -/
def wordAddrOf (addr : Nat) (same : Bool) (k : Nat) : Nat := if same then addr else addr + 4 * k

/-- The requester of a command. -/
def requesterOf (c : Ctx) : Requester := .command c.queue.val c.session.val

/-! ## REG_READ (0x0401) -/

/-- What a run of reads has come to: the words so far, newest first, and the window of a held island it met. -/
structure ReadRun where
  s : State
  words : List Word := []
  husk : Option Nat := none

/-- Read one word, unless a held island has been met (R328). -/
def readOne (r : ReadRun) (a : Nat) : ReadRun :=
  if r.husk.isSome then r
  else match readWord r.s a with
    | (t, v, .husked) => { s := t, words := v :: r.words, husk := some (a / 65536) }
    | (t, v, _) => { r with s := t, words := v :: r.words }

/-- The addresses of a register command. -/
def addresses (addr : Nat) (same : Bool) (n : Nat) : List Nat := (List.range n).map (wordAddrOf addr same)

/-- Every word of a register command lies in the register space. -/
def spanOk (addr : Nat) (same : Bool) (n : Nat) : Bool := addrOk addr && addrOk (wordAddrOf addr same (n - 1))

/-- REG_READ (0x0401, R327, R328, R339). -/
def execRegRead (c : Ctx) (addr : BitVec 32) (count : BitVec 16) (same : Bool) (s : State) : Host.Outcome State Fault Refusal :=
  .next (command s c 0x0401 0xE (.regRead c addr count same) true (fun s =>
    if count.toNat = 0 ∨ 256 < count.toNat then refuse s c 0x0401 .badParam 4
    else if !spanOk addr.toNat same count.toNat then refuse s c 0x0401 .badParam 0
    else
      let r := (addresses addr.toNat same count.toNat).foldl readOne { s := s }
      match r.husk with
      | some w => refuse r.s c 0x0401 .husked w
      | none => ok r.s c 0x0401 (r.words.reverse.flatMap (fun v => leBytes 4 v.toNat))))

/-! ## REG_WRITE (0x0402) -/

/-- What a run of writes has come to: the first locked word's address, and the window of a held island it met. -/
structure WriteRun where
  s : State
  locked : Option Nat := none
  husk : Option Nat := none

/-- Write one word, unless a held island has been met: locked words are passed over (R310, R328). -/
def writeOne (q : Requester) (r : WriteRun) (x : Nat × Word) : WriteRun :=
  if r.husk.isSome then r
  else match writeWord r.s x.1 x.2 allOnes q with
    | (t, .husked) => { r with s := t, husk := some (x.1 / 65536) }
    | (t, .locked) => { r with s := t, locked := some (r.locked.getD x.1) }
    | (t, .done) => { r with s := t }

/-- REG_WRITE (0x0402, R310, R327, R328, R343). -/
def execRegWrite (c : Ctx) (addr : BitVec 32) (same : Bool) (words : List Word) (s : State) : Host.Outcome State Fault Refusal :=
  .next (command s c 0x0402 0xE (.regWrite c addr same words) true (fun s =>
    if words.length = 0 ∨ 256 < words.length then refuse s c 0x0402 .badParam 4
    else if !spanOk addr.toNat same words.length then refuse s c 0x0402 .badParam 0
    else
      let r := ((addresses addr.toNat same words.length).zip words).foldl (writeOne (requesterOf c)) { s := s }
      match r.husk, r.locked with
      | some w, _ => refuse r.s c 0x0402 .husked w
      | none, some a => refuse r.s c 0x0402 .locked a
      | none, none => ok r.s c 0x0402 []))

/-! ## REG_MASKWRITE (0x0403) -/

/-- The word and the mask that REG_MASKWRITE gives the register: on an MW register the command processor forms the register's own mask
from MASK[15:0] (R331). -/
def maskedWord (a : Nat) (mask value : Word) : Word × Word :=
  match regSpec? a with
  | some sp => if sp.mw then (fieldWord 31 16 (field mask 15 0) ||| (value &&& mask &&& 0xFFFF#32), allOnes) else (value, mask)
  | none => (value, mask)

/-- REG_MASKWRITE (0x0403, R331): the reply is the register as read after the access; for a data register, the word written. -/
def execRegMaskwrite (c : Ctx) (addr mask value : Word) (s : State) : Host.Outcome State Fault Refusal :=
  .next (command s c 0x0403 0xE (.regMaskwrite c addr mask value) true (fun s =>
    let a := addr.toNat
    if !addrOk a then refuse s c 0x0403 .badParam 0
    else
      let x := maskedWord a mask value
      match writeWord s a x.1 x.2 (requesterOf c) with
      | (t, .husked) => refuse t c 0x0403 .husked (a / 65536)
      | (t, .locked) => refuse t c 0x0403 .locked a
      | (t, .done) => ok t c 0x0403 (leBytes 4 (if isIdxData a then reg t a 0 else showWord t a).toNat)))

/-! ## SNAPSHOT (0x0404) -/

/-- SNAPSHOT (0x0404, R336): SNAP.GEN after the snapshot; window 6 has none, and there is no window above 15. -/
def execSnapshot (c : Ctx) (window : BitVec 8) (s : State) : Host.Outcome State Fault Refusal :=
  .next (command s c 0x0404 0xE (.snapshot c window) true (fun s =>
    match snapReg window.toNat with
    | none => refuse s c 0x0404 .badParam 0
    | some a =>
      if held s window.toNat then refuse s c 0x0404 .husked window.toNat
      else ok (takeSnapshot s window.toNat) c 0x0404 (leBytes 2 (regField (takeSnapshot s window.toNat) a 0 31 16))))

/-! ## The register path's own rows -/

/-- REGISTER_WRITE (R330): a word written to a register; an access that is no aligned word of the register space is discarded (R327). -/
def execRegisterWrite (addr value : Word) (r : Requester) (s : State) : Host.Outcome State Fault Refusal :=
  .next (if addrOk addr.toNat then (writeWord s addr.toNat value allOnes r).1 else s)

/-- W1C_WRITE (R333): a clear of flags, with the flags that hardware sets in the same cycle: the set wins. -/
def execW1cWrite (addr value : Word) (race : List (Fin 32)) (r : Requester) (s : State) : Host.Outcome State Fault Refusal :=
  let a := addr.toNat
  match regSpec? a with
  | none => .next s
  | some sp => match instanceOf s sp.bank with
    | none => .next s
    | some i =>
      if sp.w1c = 0 then .next s
      else .next (guardWrite s a r true (fun t =>
        (clearReg t a i (value &&& word sp.w1c) ((race.map (·.val)).filter (fun n => (word sp.w1c).getLsbD n)), .done))).1

/-- SNAP_TAKE (R336): a written 1 in a window's SNAP.TAKE. -/
def execSnapTake (window : Fin 16) (r : Requester) (s : State) : Host.Outcome State Fault Refusal :=
  match snapReg window.val with
  | none => .next s
  | some a => .next (writeWord s a 1 allOnes r).1

/-- IDX_DATA_ACCESS (R338): one access to a window's IDX_DATA. -/
def execIdxDataAccess (window : Fin 16) (x : IdxAccess) (r : Requester) (s : State) : Host.Outcome State Fault Refusal :=
  match idxPair window.val with
  | none => .next s
  | some p => match x with
    | .read => .next (readWord s p.2.1).1
    | .write v => .next (writeWord s p.2.1 v allOnes r).1

/-- TIME_NSEC_READ (R370): a read of TIME_NSEC latches the seconds. -/
def execTimeNsecRead (s : State) : Host.Outcome State Fault Refusal := .next (readWord s Reg.timeNsec).1

/-- DEV_LOCK_SET (R341): a written 1 in SUP_LOCK.DEV_LOCK. -/
def execDevLockSet (r : Requester) (s : State) : Host.Outcome State Fault Refusal := .next (writeWord s Reg.supLock 1 allOnes r).1

/-- PERM_SET (R342): a written 1 in SUP_LOCK.PERM. -/
def execPermSet (r : Requester) (s : State) : Host.Outcome State Fault Refusal := .next (writeWord s Reg.supLock 2 allOnes r).1

/-- SUP_LOCK_KEY (R341): a word written to SUP_LOCK_KEY. -/
def execSupLockKey (v : Word) (r : Requester) (s : State) : Host.Outcome State Fault Refusal :=
  .next (writeWord s Reg.supLockKey v allOnes r).1

/-- LOCK_KEY_TIMEOUT (R341): the 10 ms of a key sequence in progress have expired. -/
def execLockKeyTimeout (s : State) : Host.Outcome State Fault Refusal :=
  .next (if keyStep s = 1 ∧ s.sup.keyAt + 10000000 < s.now then keyFail s (s.sup.keyBy.getD .stationCode) else s)

/-- FCH_CLEAR_FAULT (R129): a written 1 in FCH_CTRL.CLEAR_FAULT of the selected front-end, its policy written back as it stands. -/
def execFchClearFault (r : Requester) (s : State) : Host.Outcome State Fault Refusal := .next (writeWord s Reg.fchCtrl 1 1 r).1

end Sys2Proof.Machine
end

