-- ==== Sys2Proof/Machine/Dispatch.lean ====
section
/-! DEFINITION. Machine/Dispatch.lean: one arm per command, each a direct call of its meaning. -/
namespace Sys2Proof.Machine
open Sys2Proof

def exec (i : Instr) (s : State) : Host.Outcome State Fault Refusal :=
  match i with
  | .ownLineStopped => Sys2Proof.Machine.execOwnLineStopped s
  | .partnerLineQuiet => Sys2Proof.Machine.execPartnerLineQuiet s
  | .huskHold w => Sys2Proof.Machine.execHuskHold w s
  | .huskRelease w => Sys2Proof.Machine.execHuskRelease w s
  | .timestampBroadcast time => Sys2Proof.Machine.execTimestampBroadcast time s
  | .ack seq => Sys2Proof.Machine.execAck seq s
  | .ackLate => Sys2Proof.Machine.execAckLate s
  | .couplerFrame ms => Sys2Proof.Machine.execCouplerFrame ms s
  | .baseCycleBoundary => Sys2Proof.Machine.execBaseCycleBoundary s
  | .taskEnd r => Sys2Proof.Machine.execTaskEnd r s
  | .moduleFault kind addr => Sys2Proof.Machine.execModuleFault kind addr s
  | .retainStoreWrite => Sys2Proof.Machine.execRetainStoreWrite s
  | .stopEnter => Sys2Proof.Machine.execStopEnter s
  | .stopGraceExpiry => Sys2Proof.Machine.execStopGraceExpiry s
  | .restartBoundary => Sys2Proof.Machine.execRestartBoundary s
  | .swapReady => Sys2Proof.Machine.execSwapReady s
  | .handoverDrained => Sys2Proof.Machine.execHandoverDrained s
  | .handoverDrainExpiry => Sys2Proof.Machine.execHandoverDrainExpiry s
  | .handoverBoundary => Sys2Proof.Machine.execHandoverBoundary s
  | .imageCheckDone im => Sys2Proof.Machine.execImageCheckDone im s
  | .hazelSlot => Sys2Proof.Machine.execHazelSlot s
  | .hazelBatchClose pod => Sys2Proof.Machine.execHazelBatchClose pod s
  | .podFail pod => Sys2Proof.Machine.execPodFail pod s
  | .hzPcommit r => Sys2Proof.Machine.execHzPcommit r s
  | .hzLoopModeWrite v r => Sys2Proof.Machine.execHzLoopModeWrite v r s
  | .hzLoopSpWrite v r => Sys2Proof.Machine.execHzLoopSpWrite v r s
  | .hzLoopMvWrite v r => Sys2Proof.Machine.execHzLoopMvWrite v r s
  | .hzInjStart gen r => Sys2Proof.Machine.execHzInjStart gen r s
  | .hzInjStop gen r => Sys2Proof.Machine.execHzInjStop gen r s
  | .hzCapArm set r => Sys2Proof.Machine.execHzCapArm set r s
  | .hzCapTrigger set r => Sys2Proof.Machine.execHzCapTrigger set r s
  | .hzCapDisarm set r => Sys2Proof.Machine.execHzCapDisarm set r s
  | .feFrameTimeout n => Sys2Proof.Machine.execFeFrameTimeout n s
  | .feWindowTimeout n => Sys2Proof.Machine.execFeWindowTimeout n s
  | .groupSupplySample g v => Sys2Proof.Machine.execGroupSupplySample g v s
  | .fsupReturn g => Sys2Proof.Machine.execFsupReturn g s
  | .feReconfigDone n => Sys2Proof.Machine.execFeReconfigDone n s
  | .diFilterChange n on => Sys2Proof.Machine.execDiFilterChange n on s
  | .doOverload c => Sys2Proof.Machine.execDoOverload c s
  | .doLatchoff c => Sys2Proof.Machine.execDoLatchoff c s
  | .doRetry c => Sys2Proof.Machine.execDoRetry c s
  | .doMismatch c high => Sys2Proof.Machine.execDoMismatch c high s
  | .doOpenLoad c on => Sys2Proof.Machine.execDoOpenLoad c on s
  | .fchClearFault r => Sys2Proof.Machine.execFchClearFault r s
  | .pulseEdge n => Sys2Proof.Machine.execPulseEdge n s
  | .freqGateEnd n edges span => Sys2Proof.Machine.execFreqGateEnd n edges span s
  | .feFailure n => Sys2Proof.Machine.execFeFailure n s
  | .sproutStart => Sys2Proof.Machine.execSproutStart s
  | .sproutComplete => Sys2Proof.Machine.execSproutComplete s
  | .spareSelftest n pass => Sys2Proof.Machine.execSpareSelftest n pass s
  | .aiConversion n raw => Sys2Proof.Machine.execAiConversion n raw s
  | .burdenOpen c => Sys2Proof.Machine.execBurdenOpen c s
  | .burdenRetry c => Sys2Proof.Machine.execBurdenRetry c s
  | .burdenRetryEnd c => Sys2Proof.Machine.execBurdenRetryEnd c s
  | .readbackDisagree n => Sys2Proof.Machine.execReadbackDisagree n s
  | .ne43Confirm n k => Sys2Proof.Machine.execNe43Confirm n k s
  | .loopSupplyShort c => Sys2Proof.Machine.execLoopSupplyShort c s
  | .loopSupplyRetry c => Sys2Proof.Machine.execLoopSupplyRetry c s
  | .loopSupplyRecover c => Sys2Proof.Machine.execLoopSupplyRecover c s
  | .aoCompliance c => Sys2Proof.Machine.execAoCompliance c s
  | .aoComplianceEnd c => Sys2Proof.Machine.execAoComplianceEnd c s
  | .aoOpenLoad c => Sys2Proof.Machine.execAoOpenLoad c s
  | .aoBackfeed c forced => Sys2Proof.Machine.execAoBackfeed c forced s
  | .feTempMeasure n t => Sys2Proof.Machine.execFeTempMeasure n t s
  | .gourdRequest r => Sys2Proof.Machine.execGourdRequest r s
  | .gourdDecision => Sys2Proof.Machine.execGourdDecision s
  | .groupCurrentMeasure g => Sys2Proof.Machine.execGroupCurrentMeasure g s
  | .logicPowerMeasure mw => Sys2Proof.Machine.execLogicPowerMeasure mw s
  | .c2AgeExpiry => Sys2Proof.Machine.execC2AgeExpiry s
  | .gmuReport m => Sys2Proof.Machine.execGmuReport m s
  | .pqAggregate v => Sys2Proof.Machine.execPqAggregate v s
  | .gridEvent set phases => Sys2Proof.Machine.execGridEvent set phases s
  | .syncClose => Sys2Proof.Machine.execSyncClose s
  | .syncTimeout => Sys2Proof.Machine.execSyncTimeout s
  | .triggerFire t => Sys2Proof.Machine.execTriggerFire t s
  | .triggerReset t => Sys2Proof.Machine.execTriggerReset t s
  | .staleInput => Sys2Proof.Machine.execStaleInput s
  | .shedReleaseApply => Sys2Proof.Machine.execShedReleaseApply s
  | .gmuSyncArm r => Sys2Proof.Machine.execGmuSyncArm r s
  | .gmuSyncDisarm r => Sys2Proof.Machine.execGmuSyncDisarm r s
  | .gmuTrigArm t r => Sys2Proof.Machine.execGmuTrigArm t r s
  | .gmuTrigDisarm t r => Sys2Proof.Machine.execGmuTrigDisarm t r s
  | .gmuShedRel high v r => Sys2Proof.Machine.execGmuShedRel high v r s
  | .safeInputChange ch on => Sys2Proof.Machine.execSafeInputChange ch on s
  | .safetyCycle x => Sys2Proof.Machine.execSafetyCycle x s
  | .halfSelftestDone aOk bOk => Sys2Proof.Machine.execHalfSelftestDone aOk bOk s
  | .discrepancy p => Sys2Proof.Machine.execDiscrepancy p s
  | .crossCircuit p => Sys2Proof.Machine.execCrossCircuit p s
  | .testSourceDark b reads => Sys2Proof.Machine.execTestSourceDark b reads s
  | .speedPulse i1 halfB => Sys2Proof.Machine.execSpeedPulse i1 halfB s
  | .speedDisc i1 => Sys2Proof.Machine.execSpeedDisc i1 s
  | .safeOutputFault q k => Sys2Proof.Machine.execSafeOutputFault q k s
  | .qsupMissing g => Sys2Proof.Machine.execQsupMissing g s
  | .qsupOk g => Sys2Proof.Machine.execQsupOk g s
  | .darkTest q => Sys2Proof.Machine.execDarkTest q s
  | .darkTestEnd q readback => Sys2Proof.Machine.execDarkTestEnd q readback s
  | .lightTest q => Sys2Proof.Machine.execLightTest q s
  | .lightTestEnd q readback => Sys2Proof.Machine.execLightTestEnd q readback s
  | .halfFail halfB => Sys2Proof.Machine.execHalfFail halfB s
  | .halfDriveTakeover opened => Sys2Proof.Machine.execHalfDriveTakeover opened s
  | .ss1Tmax f => Sys2Proof.Machine.execSs1Tmax f s
  | .resetEdge => Sys2Proof.Machine.execResetEdge s
  | .resetJammed => Sys2Proof.Machine.execResetJammed s
  | .degradedExpiry => Sys2Proof.Machine.execDegradedExpiry s
  | .safety msg set => Sys2Proof.Machine.execSafety msg set s
  | .safeParamExpiry => Sys2Proof.Machine.execSafeParamExpiry s
  | .roleDecision partnerAtIdent => Sys2Proof.Machine.execRoleDecision partnerAtIdent s
  | .trainPhaseDone lanes => Sys2Proof.Machine.execTrainPhaseDone lanes s
  | .trainFail => Sys2Proof.Machine.execTrainFail s
  | .ident d => Sys2Proof.Machine.execIdent d s
  | .heartbeat h => Sys2Proof.Machine.execHeartbeat h s
  | .heartbeatSend => Sys2Proof.Machine.execHeartbeatSend s
  | .heartbeatLost => Sys2Proof.Machine.execHeartbeatLost s
  | .partnerLineReleased => Sys2Proof.Machine.execPartnerLineReleased s
  | .ownLineFault => Sys2Proof.Machine.execOwnLineFault s
  | .ownerLineFault => Sys2Proof.Machine.execOwnerLineFault s
  | .line tag mask region index data content => Sys2Proof.Machine.execLine tag mask region index data content s
  | .hrec tag loop commit seq data => Sys2Proof.Machine.execHrec tag loop commit seq data s
  | .irec tag data content => Sys2Proof.Machine.execIrec tag data content s
  | .commit tag seq => Sys2Proof.Machine.execCommit tag seq s
  | .check lane number crcOk => Sys2Proof.Machine.execCheck lane number crcOk s
  | .nak lane number => Sys2Proof.Machine.execNak lane number s
  | .align lane logical skew => Sys2Proof.Machine.execAlign lane logical skew s
  | .faultMessage => Sys2Proof.Machine.execFaultMessage s
  | .handoverPrepare boundary => Sys2Proof.Machine.execHandoverPrepare boundary s
  | .handoverMessage => Sys2Proof.Machine.execHandoverMessage s
  | .yield => Sys2Proof.Machine.execYield s
  | .roleMessage note => Sys2Proof.Machine.execRoleMessage note s
  | .timeMessage step instant => Sys2Proof.Machine.execTimeMessage step instant s
  | .laneRetired lane => Sys2Proof.Machine.execLaneRetired lane s
  | .laneSprouted lane => Sys2Proof.Machine.execLaneSprouted lane s
  | .ppdRetrainRetired r => Sys2Proof.Machine.execPpdRetrainRetired r s
  | .orphanRetrain => Sys2Proof.Machine.execOrphanRetrain s
  | .claim r => Sys2Proof.Machine.execClaim r s
  | .goOffline r => Sys2Proof.Machine.execGoOffline r s
  | .pendingLogFull => Sys2Proof.Machine.execPendingLogFull s
  | .linkSpeedRetry => Sys2Proof.Machine.execLinkSpeedRetry s
  | .resyncPhaseDone marked image => Sys2Proof.Machine.execResyncPhaseDone marked image s
  | .pairSynced => Sys2Proof.Machine.execPairSynced s
  | .pairTimeOffset offset => Sys2Proof.Machine.execPairTimeOffset offset s
  | .memoryRead word u => Sys2Proof.Machine.execMemoryRead word u s
  | .memoryWrite addr data u => Sys2Proof.Machine.execMemoryWrite addr data u s
  | .scrubStep region u => Sys2Proof.Machine.execScrubStep region u s
  | .imageScrubLap => Sys2Proof.Machine.execImageScrubLap s
  | .scrubLapAlarm => Sys2Proof.Machine.execScrubLapAlarm s
  | .accelPassDone region => Sys2Proof.Machine.execAccelPassDone region s
  | .laneCopyStep region u => Sys2Proof.Machine.execLaneCopyStep region u s
  | .laneCopyDone region => Sys2Proof.Machine.execLaneCopyDone region s
  | .hourCountTick => Sys2Proof.Machine.execHourCountTick s
  | .mramWrite use addr data verifies => Sys2Proof.Machine.execMramWrite use addr data verifies s
  | .mramRemap => Sys2Proof.Machine.execMramRemap s
  | .coreSelftest pair pass => Sys2Proof.Machine.execCoreSelftest pair pass s
  | .coreSwapDone => Sys2Proof.Machine.execCoreSwapDone s
  | .coreSelfReset => Sys2Proof.Machine.execCoreSelfReset s
  | .oscCompare diff => Sys2Proof.Machine.execOscCompare diff s
  | .oscSprouted errA errB => Sys2Proof.Machine.execOscSprouted errA errB s
  | .cellTest cell esr capacitance ride => Sys2Proof.Machine.execCellTest cell esr capacitance ride s
  | .cellSprouted => Sys2Proof.Machine.execCellSprouted s
  | .packetArrival session packet => Sys2Proof.Machine.execPacketArrival session packet s
  | .commandDispatch => Sys2Proof.Machine.execCommandDispatch s
  | .sessionOpen net der => Sys2Proof.Machine.execSessionOpen net der s
  | .sessionIdleTimeout session => Sys2Proof.Machine.execSessionIdleTimeout session s
  | .serviceBreak => Sys2Proof.Machine.execServiceBreak s
  | .sessionClose session => Sys2Proof.Machine.execSessionClose session s
  | .authLockoutEnd => Sys2Proof.Machine.execAuthLockoutEnd s
  | .notifyLost queue => Sys2Proof.Machine.execNotifyLost queue s
  | .start c => Sys2Proof.Machine.execStart c s
  | .stop c => Sys2Proof.Machine.execStop c s
  | .warm c choice => Sys2Proof.Machine.execWarm c choice s
  | .cold c choice => Sys2Proof.Machine.execCold c choice s
  | .handover c swap => Sys2Proof.Machine.execHandover c swap s
  | .stateRead c => Sys2Proof.Machine.execStateRead c s
  | .loadBegin c slot len => Sys2Proof.Machine.execLoadBegin c slot len s
  | .loadChunk c offset data => Sys2Proof.Machine.execLoadChunk c offset data s
  | .loadCommit c => Sys2Proof.Machine.execLoadCommit c s
  | .verify c slot => Sys2Proof.Machine.execVerify c slot s
  | .swapPrepare c choice => Sys2Proof.Machine.execSwapPrepare c choice s
  | .swapCancel c => Sys2Proof.Machine.execSwapCancel c s
  | .changeReport c first count => Sys2Proof.Machine.execChangeReport c first count s
  | .loadAbort c => Sys2Proof.Machine.execLoadAbort c s
  | .varRead c items => Sys2Proof.Machine.execVarRead c items s
  | .varWrite c identity offset data => Sys2Proof.Machine.execVarWrite c identity offset data s
  | .forceSet c k v => Sys2Proof.Machine.execForceSet c k v s
  | .forceClear c k => Sys2Proof.Machine.execForceClear c k s
  | .forceClearAll c => Sys2Proof.Machine.execForceClearAll c s
  | .forceList c first count => Sys2Proof.Machine.execForceList c first count s
  | .regRead c addr count same => Sys2Proof.Machine.execRegRead c addr count same s
  | .regWrite c addr same words => Sys2Proof.Machine.execRegWrite c addr same words s
  | .regMaskwrite c addr mask value => Sys2Proof.Machine.execRegMaskwrite c addr mask value s
  | .snapshot c window => Sys2Proof.Machine.execSnapshot c window s
  | .chRead c first count => Sys2Proof.Machine.execChRead c first count s
  | .chClearFault c ch => Sys2Proof.Machine.execChClearFault c ch s
  | .chSprout c ch spare => Sys2Proof.Machine.execChSprout c ch spare s
  | .chFailsig c ch on => Sys2Proof.Machine.execChFailsig c ch on s
  | .grpRead c g => Sys2Proof.Machine.execGrpRead c g s
  | .loopRead c first count => Sys2Proof.Machine.execLoopRead c first count s
  | .loopMode c loop mode track => Sys2Proof.Machine.execLoopMode c loop mode track s
  | .loopSp c loop v => Sys2Proof.Machine.execLoopSp c loop v s
  | .loopMv c loop v => Sys2Proof.Machine.execLoopMv c loop v s
  | .loopParam c loop word words commit => Sys2Proof.Machine.execLoopParam c loop word words commit s
  | .injectStart c gen icb => Sys2Proof.Machine.execInjectStart c gen icb s
  | .injectStop c gen => Sys2Proof.Machine.execInjectStop c gen s
  | .capArm c set ccb => Sys2Proof.Machine.execCapArm c set ccb s
  | .capTrigger c set => Sys2Proof.Machine.execCapTrigger c set s
  | .capDisarm c set => Sys2Proof.Machine.execCapDisarm c set s
  | .capRead c set first count => Sys2Proof.Machine.execCapRead c set first count s
  | .gmuSubscribe c every => Sys2Proof.Machine.execGmuSubscribe c every s
  | .syncArm c block => Sys2Proof.Machine.execSyncArm c block s
  | .syncDisarm c => Sys2Proof.Machine.execSyncDisarm c s
  | .shedRelease c mask => Sys2Proof.Machine.execShedRelease c mask s
  | .trigArm c t arm => Sys2Proof.Machine.execTrigArm c t arm s
  | .harmRead c input => Sys2Proof.Machine.execHarmRead c input s
  | .gridEvents c => Sys2Proof.Machine.execGridEvents c s
  | .safeParamLoad c set => Sys2Proof.Machine.execSafeParamLoad c set s
  | .safeParamConfirm c crc setId => Sys2Proof.Machine.execSafeParamConfirm c crc setId s
  | .safeParamAbort c => Sys2Proof.Machine.execSafeParamAbort c s
  | .safeRead c area => Sys2Proof.Machine.execSafeRead c area s
  | .sbkRead c first count => Sys2Proof.Machine.execSbkRead c first count s
  | .sbkSnapshot c => Sys2Proof.Machine.execSbkSnapshot c s
  | .sbkRelease c => Sys2Proof.Machine.execSbkRelease c s
  | .sbkSubscribe c minSev => Sys2Proof.Machine.execSbkSubscribe c minSev s
  | .panelUpdate c x y w h flags pixels => Sys2Proof.Machine.execPanelUpdate c x y w h flags pixels s
  | .panelScreen c screen => Sys2Proof.Machine.execPanelScreen c screen s
  | .panelStatus c => Sys2Proof.Machine.execPanelStatus c s
  | .certRead c which => Sys2Proof.Machine.execCertRead c which s
  | .csrMake c subject request => Sys2Proof.Machine.execCsrMake c subject request s
  | .certInstall c slot cert => Sys2Proof.Machine.execCertInstall c slot cert s
  | .authChallenge c nonce => Sys2Proof.Machine.execAuthChallenge c nonce s
  | .authResponse c slot valid => Sys2Proof.Machine.execAuthResponse c slot valid s
  | .certRemove c slot => Sys2Proof.Machine.execCertRemove c slot s
  | .credentialOpStart => Sys2Proof.Machine.execCredentialOpStart s
  | .commissionProofExpiry => Sys2Proof.Machine.execCommissionProofExpiry s
  | .timeRead c => Sys2Proof.Machine.execTimeRead c s
  | .timeAcceptJump c => Sys2Proof.Machine.execTimeAcceptJump c s
  | .canStatus c port => Sys2Proof.Machine.execCanStatus c port s
  | .canRecover c port => Sys2Proof.Machine.execCanRecover c port s
  | .canSend c port frame => Sys2Proof.Machine.execCanSend c port frame s
  | .echo c data => Sys2Proof.Machine.execEcho c data s
  | .grantlogRead c first count => Sys2Proof.Machine.execGrantlogRead c first count s
  | .memlogRead c => Sys2Proof.Machine.execMemlogRead c s
  | .memlogClear c => Sys2Proof.Machine.execMemlogClear c s
  | .sproutRead c => Sys2Proof.Machine.execSproutRead c s
  | .sessions c => Sys2Proof.Machine.execSessions c s
  | .registerWrite addr value r => Sys2Proof.Machine.execRegisterWrite addr value r s
  | .w1cWrite addr value race r => Sys2Proof.Machine.execW1cWrite addr value race r s
  | .snapTake window r => Sys2Proof.Machine.execSnapTake window r s
  | .stagedApply i1 => Sys2Proof.Machine.execStagedApply i1 s
  | .idxDataAccess window a r => Sys2Proof.Machine.execIdxDataAccess window a r s
  | .timeNsecRead => Sys2Proof.Machine.execTimeNsecRead s
  | .devLockSet r => Sys2Proof.Machine.execDevLockSet r s
  | .permSet r => Sys2Proof.Machine.execPermSet r s
  | .supLockKey v r => Sys2Proof.Machine.execSupLockKey v r s
  | .lockKeyTimeout => Sys2Proof.Machine.execLockKeyTimeout s
  | .supResetModule r => Sys2Proof.Machine.execSupResetModule r s
  | .supResetIsland i1 r => Sys2Proof.Machine.execSupResetIsland i1 r s
  | .softResetTake => Sys2Proof.Machine.execSoftResetTake s
  | .optCommit r => Sys2Proof.Machine.execOptCommit r s
  | .optDiscard r => Sys2Proof.Machine.execOptDiscard r s
  | .linkChange port l => Sys2Proof.Machine.execLinkChange port l s
  | .frameReceive port f => Sys2Proof.Machine.execFrameReceive port f s
  | .prpSupervisionSend => Sys2Proof.Machine.execPrpSupervisionSend s
  | .prpLanFail lanB => Sys2Proof.Machine.execPrpLanFail lanB s
  | .prpLanOk lanB => Sys2Proof.Machine.execPrpLanOk lanB s
  | .beaconSend signature => Sys2Proof.Machine.execBeaconSend signature s
  | .beaconReceive b => Sys2Proof.Machine.execBeaconReceive b s
  | .beaconHoldExpiry serial => Sys2Proof.Machine.execBeaconHoldExpiry serial s
  | .discoveryRecordExpiry serial => Sys2Proof.Machine.execDiscoveryRecordExpiry serial s
  | .ptpMessage port m => Sys2Proof.Machine.execPtpMessage port m s
  | .ptpMessageSend port k sent => Sys2Proof.Machine.execPtpMessageSend port k sent s
  | .announceTimeout port => Sys2Proof.Machine.execAnnounceTimeout port s
  | .servoUpdate => Sys2Proof.Machine.execServoUpdate s
  | .timeStepApply => Sys2Proof.Machine.execTimeStepApply s
  | .holdoverExpiry => Sys2Proof.Machine.execHoldoverExpiry s
  | .timeSave => Sys2Proof.Machine.execTimeSave s
  | .ttLaunch port entry delay source => Sys2Proof.Machine.execTtLaunch port entry delay source s
  | .canFrameRx port frame sof => Sys2Proof.Machine.execCanFrameRx port frame sof s
  | .canFrameTxEnd port outcome sof loopDelay => Sys2Proof.Machine.execCanFrameTxEnd port outcome sof loopDelay s
  | .canCyclicQueue port obj => Sys2Proof.Machine.execCanCyclicQueue port obj s
  | .canRecovered port => Sys2Proof.Machine.execCanRecovered port s
  | .canTxAbort port r => Sys2Proof.Machine.execCanTxAbort port r s
  | .canRxfPop port r => Sys2Proof.Machine.execCanRxfPop port r s
  | .canCtrlRecover port r => Sys2Proof.Machine.execCanCtrlRecover port r s
  | .canRefDue port => Sys2Proof.Machine.execCanRefDue port s
  | .canTimeMaster port => Sys2Proof.Machine.execCanTimeMaster port s
  | .canTimeLost port => Sys2Proof.Machine.execCanTimeLost port s
  | .eventPost e inst ended full subject value1 value2 extra => Sys2Proof.Machine.execEventPost e inst ended full subject value1 value2 extra s
  | .sbkFlush => Sys2Proof.Machine.execSbkFlush s
  | .sbkFlushDone failed => Sys2Proof.Machine.execSbkFlushDone failed s
  | .sbkRateSummary e => Sys2Proof.Machine.execSbkRateSummary e s
  | .sbkSnapshotExpired => Sys2Proof.Machine.execSbkSnapshotExpired s
  | .panelFrame => Sys2Proof.Machine.execPanelFrame s
  | .panelTempMeasure t => Sys2Proof.Machine.execPanelTempMeasure t s
  | .crackMeasure ohm => Sys2Proof.Machine.execCrackMeasure ohm s
  | .panelRecordWritten id => Sys2Proof.Machine.execPanelRecordWritten id s
  | .panelDischargeDone => Sys2Proof.Machine.execPanelDischargeDone s
  | .panelRedraw => Sys2Proof.Machine.execPanelRedraw s
  | .screen0Redraw pixels => Sys2Proof.Machine.execScreen0Redraw pixels s
  | .arbAdvance => Sys2Proof.Machine.execArbAdvance s
  | .powerOn => Sys2Proof.Machine.execPowerOn s
  | .resetN => Sys2Proof.Machine.execResetN s
  | .watchdog => Sys2Proof.Machine.execWatchdog s
  | .bringUp b => Sys2Proof.Machine.execBringUp b s
  | .holdupReady => Sys2Proof.Machine.execHoldupReady s
  | .resetStorm => Sys2Proof.Machine.execResetStorm s
  | .stormRetry => Sys2Proof.Machine.execStormRetry s
  | .clkFallback => Sys2Proof.Machine.execClkFallback s
  | .huskWatchdog i1 => Sys2Proof.Machine.execHuskWatchdog i1 s
  | .islandResetDone i1 => Sys2Proof.Machine.execIslandResetDone i1 s
  | .supplySample m => Sys2Proof.Machine.execSupplySample m s
  | .powerFailWarning => Sys2Proof.Machine.execPowerFailWarning s
  | .powerFailHold => Sys2Proof.Machine.execPowerFailHold s
  | .powerFail => Sys2Proof.Machine.execPowerFail s
  | .ownLineToggling => Sys2Proof.Machine.execOwnLineToggling s
  | .partnerLineEdge => Sys2Proof.Machine.execPartnerLineEdge s
  | .resetNRelease => Sys2Proof.Machine.execResetNRelease s
  | .firmwareIdlePoint => Sys2Proof.Machine.execFirmwareIdlePoint s
  | .holdupFull => Sys2Proof.Machine.execHoldupFull s
  | .retentionEnd => Sys2Proof.Machine.execRetentionEnd s
  | .canErrorFrame port k => Sys2Proof.Machine.execCanErrorFrame port k s

end Sys2Proof.Machine
end

