-- ==== Sys2Proof/Safety.lean ====
section
/-! DEFINITION. Safety.lean: what a safe run is: every step answers a next state, and never do the output stages conduct while the
partner's owner line shows edges (R16); and the vocabulary in which statements say what a command leaves unchanged. -/
namespace Sys2Proof
open Sys2Proof.Machine

/-- A step that stops the machine. -/
def stops (s : State) : Bool :=
  match step s with
  | .next _ => false
  | .fault _ => true
  | .refused _ => true

/-- `n` steps from `s` all answer next states. -/
def runs : Nat → State → Bool
  | 0, _ => true
  | n + 1, s => match step s with
    | .next t => runs n t
    | .fault _ => false
    | .refused _ => false

/-- An output of the module reaches its terminal only while the module's own line toggles and the partner's is quiet (R16). -/
def ownershipSafe (s : State) : Prop :=
  ∀ n, terminalDrive s n ≠ 0 → s.own.ownSeen = true ∧ s.own.partnerQuiet = true

/-! ## Frames -/

/-- The fields of State that a frame names, the register file and the counters apart. -/
inductive Piece where
  | pending | staged | snaps | free | now | own | exe | hz | fch | grd | gmu | wnt | pair | mem | spr | cmd | net | can | sbk | pnl
  | tru | sup
deriving DecidableEq, Repr

/-- A part of the machine: a unit's own state, a bit of the register at `a` in every instance, the value in force of a staged
register, or a live counter by its holding register. -/
inductive Part where
  | unit (u : Piece)
  | regBit (a n : Nat)
  | inForce (a : Nat)
  | ctr (a : Nat)
deriving DecidableEq, Repr

/-- Part `p` is the same in two states. -/
def Part.same (s t : State) : Part → Prop
  | .unit .pending => t.pending = s.pending
  | .unit .staged => t.staged = s.staged
  | .unit .snaps => t.snaps = s.snaps
  | .unit .free => t.free = s.free
  | .unit .now => t.now = s.now
  | .unit .own => t.own = s.own
  | .unit .exe => t.exe = s.exe
  | .unit .hz => t.hz = s.hz
  | .unit .fch => t.fch = s.fch
  | .unit .grd => t.grd = s.grd
  | .unit .gmu => t.gmu = s.gmu
  | .unit .wnt => t.wnt = s.wnt
  | .unit .pair => t.pair = s.pair
  | .unit .mem => t.mem = s.mem
  | .unit .spr => t.spr = s.spr
  | .unit .cmd => t.cmd = s.cmd
  | .unit .net => t.net = s.net
  | .unit .can => t.can = s.can
  | .unit .sbk => t.sbk = s.sbk
  | .unit .pnl => t.pnl = s.pnl
  | .unit .tru => t.tru = s.tru
  | .unit .sup => t.sup = s.sup
  | .regBit a n => ∀ i, (reg t a i).getLsbD n = (reg s a i).getLsbD n
  | .inForce a => ∀ i, cfg t a i = cfg s a i
  | .ctr a => ∀ i, counter t a i = counter s a i

/-- What a frame lets change: a unit, a whole register, one flag of a flag register with its occurrence counter (R333), a value in
force, a counter, what answering with a code flags (R325), or all of these of one register window. -/
inductive Area where
  | unit (u : Piece)
  | reg (a : Nat)
  | flag (a n : Nat)
  | inForce (a : Nat)
  | ctr (a : Nat)
  | codeFlag (c : Code)
  | regsOf (w : Nat)
  | inForceOf (w : Nat)
  | ctrsOf (w : Nat)
  | anyReg
  | anyInForce
  | anyCtr
deriving DecidableEq, Repr

/-- The window of a register address. -/
def windowOf (a : Nat) : Nat := a % 1048576 / 65536

/-- The flag of CMD_FLAGS that answering with a code sets (R325). -/
def codeFlagBit : Code → Option Nat
  | .badCrc => some 1
  | .authFailed => some 2
  | _ => none

/-- An area takes in a part. -/
def Area.has : Area → Part → Bool
  | .unit u, .unit v => u == v
  | .reg a, .regBit b _ => a % 1048576 == b % 1048576
  | .flag a n, .regBit b m => a % 1048576 == b % 1048576 && n == m
  | .flag a n, .ctr b => (fcntOf a + 4 * n) % 1048576 == b % 1048576
  | .inForce a, .inForce b => a % 1048576 == b % 1048576
  | .ctr a, .ctr b => a % 1048576 == b % 1048576
  | .codeFlag c, .regBit b m => Reg.cmdFlags == b % 1048576 && codeFlagBit c == some m
  | .codeFlag c, .ctr b => (codeFlagBit c).any (fun n => (Fcnt.cmdFlags + 4 * n) % 1048576 == b % 1048576)
  | .regsOf w, .regBit b _ => windowOf b == w
  | .inForceOf w, .inForce b => windowOf b == w
  | .ctrsOf w, .ctr b => windowOf b == w
  | .anyReg, .regBit _ _ => true
  | .anyInForce, .inForce _ => true
  | .anyCtr, .ctr _ => true
  | _, _ => false

/-- Between `s` and `t` nothing changed outside the areas listed. -/
def changesOnly (w : List Area) (s t : State) : Prop := ∀ p, w.any (fun A => A.has p) = false → p.same s t

/-! ## Answers -/

/-- A command's session is open and has not closed since it was sent, so that its answers are queued (R316). -/
abbrev answers (s : State) (c : Ctx) : Prop :=
  (sessionOf s.cmd c.session.val).isSome = true ∧ ((execOf s c).map (·.closed)).getD false = false

/-- A command starts, and its answers are queued (R316, R319). -/
abbrev running (s : State) (c : Ctx) (op : Nat) (i : Instr) : Prop := starts s c op i = true ∧ answers s c

/-- It is running, and the Husk of the island that does its work does not hold that island (R13). -/
abbrev readyFor (s : State) (c : Ctx) (op island : Nat) (i : Instr) : Prop := held s island = false ∧ running s c op i

/-- The packets of Table CMD-5: the command's session and tag, its opcode, and the window of the island that does its work. The safety
parameter commands, whose session is checked first (R251), have statements of their own. -/
def packetRow : Instr → Option (Ctx × Nat × Nat)
  | .start c => some (c, 0x0101, 1)
  | .stop c => some (c, 0x0102, 1)
  | .warm c .. => some (c, 0x0103, 1)
  | .cold c .. => some (c, 0x0104, 1)
  | .handover c .. => some (c, 0x0105, 1)
  | .stateRead c => some (c, 0x0106, 1)
  | .loadBegin c .. => some (c, 0x0201, 1)
  | .loadChunk c .. => some (c, 0x0202, 1)
  | .loadCommit c => some (c, 0x0203, 1)
  | .verify c .. => some (c, 0x0204, 1)
  | .swapPrepare c .. => some (c, 0x0205, 1)
  | .swapCancel c => some (c, 0x0206, 1)
  | .changeReport c .. => some (c, 0x0207, 1)
  | .loadAbort c => some (c, 0x0208, 1)
  | .varRead c .. => some (c, 0x0301, 1)
  | .varWrite c .. => some (c, 0x0302, 1)
  | .forceSet c .. => some (c, 0x0303, 1)
  | .forceClear c .. => some (c, 0x0304, 1)
  | .forceClearAll c => some (c, 0x0305, 1)
  | .forceList c .. => some (c, 0x0306, 1)
  | .regRead c .. => some (c, 0x0401, 0xE)
  | .regWrite c .. => some (c, 0x0402, 0xE)
  | .regMaskwrite c .. => some (c, 0x0403, 0xE)
  | .snapshot c .. => some (c, 0x0404, 0xE)
  | .chRead c .. => some (c, 0x0501, 3)
  | .chClearFault c .. => some (c, 0x0502, 3)
  | .chSprout c .. => some (c, 0x0503, 0x3)
  | .chFailsig c .. => some (c, 0x0504, 3)
  | .grpRead c .. => some (c, 0x0505, 3)
  | .loopRead c .. => some (c, 0x0601, 2)
  | .loopMode c .. => some (c, 0x0602, 2)
  | .loopSp c .. => some (c, 0x0603, 2)
  | .loopMv c .. => some (c, 0x0604, 2)
  | .loopParam c .. => some (c, 0x0605, 2)
  | .injectStart c .. => some (c, 0x0606, 2)
  | .injectStop c .. => some (c, 0x0607, 2)
  | .capArm c .. => some (c, 0x0608, 2)
  | .capTrigger c .. => some (c, 0x0609, 2)
  | .capDisarm c .. => some (c, 0x060A, 2)
  | .capRead c .. => some (c, 0x060B, 2)
  | .gmuSubscribe c .. => some (c, 0x0701, 5)
  | .syncArm c .. => some (c, 0x0702, 5)
  | .syncDisarm c => some (c, 0x0703, 5)
  | .shedRelease c .. => some (c, 0x0704, 5)
  | .trigArm c .. => some (c, 0x0705, 5)
  | .harmRead c .. => some (c, 0x0706, 5)
  | .gridEvents c => some (c, 0x0707, 5)
  | .safeRead c .. => some (c, 0x0804, 6)
  | .sbkRead c .. => some (c, 0x0901, 0xB)
  | .sbkSnapshot c => some (c, 0x0902, 0xB)
  | .sbkRelease c => some (c, 0x0903, 0xB)
  | .sbkSubscribe c .. => some (c, 0x0904, 0xB)
  | .panelUpdate c .. => some (c, 0x0A01, 0xC)
  | .panelScreen c .. => some (c, 0x0A02, 0xC)
  | .panelStatus c => some (c, 0x0A03, 0xC)
  | .certRead c .. => some (c, 0x0B01, 0xD)
  | .csrMake c .. => some (c, 0x0B02, 0xD)
  | .certInstall c .. => some (c, 0x0B03, 0xD)
  | .authChallenge c .. => some (c, 0x0B04, 0xD)
  | .authResponse c .. => some (c, 0x0B05, 0xD)
  | .certRemove c .. => some (c, 0x0B06, 0xD)
  | .timeRead c => some (c, 0x0C01, 9)
  | .timeAcceptJump c => some (c, 0x0C02, 9)
  | .canStatus c .. => some (c, 0x0D01, 0xA)
  | .canRecover c .. => some (c, 0x0D02, 0xA)
  | .canSend c .. => some (c, 0x0D03, 0xA)
  | .echo c .. => some (c, 0x0E01, 0xE)
  | .grantlogRead c .. => some (c, 0x0E02, 0x4)
  | .memlogRead c => some (c, 0x0E03, 0x8)
  | .memlogClear c => some (c, 0x0E04, 0x8)
  | .sproutRead c => some (c, 0x0E05, 0xF)
  | .sessions c => some (c, 0x0E06, 0xE)
  | _ => none

/-- A packet command can be executed now: it is running and finds its island released (R13, R319). -/
def ready (s : State) (i : Instr) : Prop := (packetRow i).any (fun p => decide (readyFor s p.1 p.2.1 p.2.2 i)) = true

/-- Between `s` and `t` exactly one packet was queued on the notification queue of the command `c`: its reply, with this opcode,
code, WHERE and result, final or not (R309). -/
def replied (s t : State) (c : Ctx) (op : Nat) (code : Code) (wh : Nat) (result : List Byte) (final : Bool) : Prop :=
  ∃ r : Reply, repliesOf t.cmd c.queue.val = repliesOf s.cmd c.queue.val ++ [r] ∧ r.session = c.session.val ∧ r.tag = c.tag.toNat
    ∧ r.opcode = op ∧ r.code = code ∧ r.whereField = wh ∧ r.result = result ∧ r.final = final

/-- The newest packet on the notification queue of the command `c` is its reply, with this opcode, code, WHERE and result, final or
not (R309); posting events may have queued notifications before it. -/
def lastReplied (t : State) (c : Ctx) (op : Nat) (code : Code) (wh : Nat) (result : List Byte) (final : Bool) : Prop :=
  ∃ r : Reply, (repliesOf t.cmd c.queue.val).getLast? = some r ∧ r.session = c.session.val ∧ r.tag = c.tag.toNat
    ∧ r.opcode = op ∧ r.code = code ∧ r.whereField = wh ∧ r.result = result ∧ r.final = final

/-- The command `c` waits for an event, and its queue with it (R319). -/
def waits (t : State) (c : Ctx) : Prop :=
  ∃ x ∈ t.cmd.executing, x.queue = c.queue.val ∧ x.session = c.session.val ∧ x.tag = c.tag.toNat ∧ x.blocked = true

/-- A write of the register at `a` takes effect: no Husk holds its island, the device is not locked, and it breaks no key sequence
(R328, R340, R341). -/
def writable (s : State) (a : Nat) : Prop :=
  held s (a / 65536) = false ∧ devLocked s = false ∧ ¬(a / 65536 = 0 ∧ keyStep s = 1)

/-- Between `s` and `t` one event set bit `n` of the flag register at `a`, instance `i`: the flag is 1 and its occurrence counter one
higher, modulo 2^32 (R333). -/
def flaggedAt (s t : State) (a i n : Nat) : Prop :=
  (reg t a i).getLsbD n = true ∧ counter t (fcntOf a + 4 * n) i = counter s (fcntOf a + 4 * n) i + 1

/-- The same for the one instance of an island's flag register. -/
def flagged (s t : State) (a n : Nat) : Prop := flaggedAt s t a 0 n

/-- No command of an opcode waits. -/
def settled (t : State) (op : Nat) : Prop := ∀ x ∈ t.cmd.executing, x.opcode ≠ op

end Sys2Proof
end

