-- ==== Sys2Proof/Frames.lean ====
section
/-! DEFINITION. Frames.lean: for each command the parts of the machine it may change: everything else is the same after it.
A flag stands with its occurrence counter (R333); a unit's name stands for all of its own state. The commands that write any register
of the map (REG_WRITE, REG_MASKWRITE, REGISTER_WRITE, IDX_DATA_ACCESS and the single-register writes) have statements of their own. -/
namespace Sys2Proof
open Sys2Proof.Machine

/-- What the commands of the station at work and the executive (R11 to R65) may change. -/
def stationFrame : Instr → Option (List Area)
  | .ownLineStopped => some [.unit .own]
  | .partnerLineQuiet => some [.unit .own, .unit .can]
  | .huskHold .. => some [.unit .own, .unit .exe, .unit .hz, .unit .fch, .unit .grd, .unit .gmu, .unit .wnt, .unit .spr,
      .unit .cmd, .unit .net, .unit .can, .unit .sbk, .unit .pnl, .unit .sup, .ctr Reg.grdSnapRef, .ctr Reg.pnlSnapRef,
      .flag Reg.grdFlags 1, .flag Reg.grdFlags 3, .flag Reg.memFlags 6]
  | .huskRelease .. => some [.unit .own]
  | .timestampBroadcast .. => some [.unit .now]
  | .ack .. => some [.unit .own, .unit .fch, .unit .grd, .unit .gmu, .unit .pair, .unit .cmd, .unit .net, .unit .can, .unit .sbk,
      .ctr Reg.gmuSnapSheds, .ctr Reg.grdSnapRef, .ctr Reg.ppdSnapAckmax, .flag Reg.cmdFlags 4, .flag Reg.gmuFlags 4,
      .flag Reg.grdFlags 1, .flag Reg.grdFlags 3]
  | .ackLate => some [.unit .own, .unit .exe, .unit .hz, .unit .fch, .unit .grd, .unit .gmu, .unit .wnt, .unit .pair, .unit .cmd,
      .unit .net, .unit .can, .unit .sbk, .ctr Reg.gmuSnapSheds, .ctr Reg.grdSnapRef, .flag Reg.cmdFlags 4, .flag Reg.gmuFlags 4,
      .flag Reg.grdFlags 1, .flag Reg.grdFlags 3, .flag Reg.hzFlags 3, .flag Reg.hzFlags 4, .flag Reg.hzFlags 5,
      .flag Reg.ppdFlags 10, .flag Reg.ppdFlags 2, .flag Reg.ppdFlags 3]
  | .baseCycleBoundary => some [.unit .own, .unit .exe, .unit .hz, .unit .fch, .unit .grd, .unit .gmu, .unit .wnt, .unit .pair,
      .unit .spr, .unit .cmd, .unit .net, .unit .can, .unit .sbk, .unit .sup, .ctr Reg.exeSnapRel, .ctr Reg.exeSnapSkip,
      .ctr Reg.gmuSnapSheds, .ctr Reg.grdSnapRef, .ctr Reg.ppdSnapPeak, .flag Reg.cmdFlags 4, .flag Reg.exeFlags 0,
      .flag Reg.exeFlags 1, .flag Reg.gmuFlags 4, .flag Reg.grdFlags 1, .flag Reg.grdFlags 3, .flag Reg.hzFlags 3,
      .flag Reg.hzFlags 4, .flag Reg.hzFlags 5, .flag Reg.ppdFlags 10, .flag Reg.ppdFlags 2]
  | .taskEnd .. => some [.unit .own, .unit .exe, .unit .hz, .unit .fch, .unit .grd, .unit .gmu, .unit .pair, .unit .cmd,
      .unit .net, .unit .can, .unit .sbk, .ctr Reg.exeSnapMaxexec, .ctr Reg.gmuSnapSheds, .ctr Reg.grdSnapRef,
      .flag Reg.cmdFlags 4, .flag Reg.gmuFlags 4, .flag Reg.grdFlags 1, .flag Reg.grdFlags 3]
  | .moduleFault .. => some [.unit .free, .unit .own, .unit .exe, .unit .hz, .unit .fch, .unit .grd, .unit .wnt, .unit .pair,
      .unit .spr, .unit .cmd, .unit .net, .unit .sbk, .unit .sup, .ctr Reg.grdSnapRef, .flag Reg.cmdFlags 4, .flag Reg.grdFlags 1,
      .flag Reg.grdFlags 3, .flag Reg.hzFlags 3, .flag Reg.hzFlags 4, .flag Reg.hzFlags 5, .flag Reg.ppdFlags 10,
      .flag Reg.ppdFlags 2, .flag Reg.sprFlags 2]
  | .retainStoreWrite => some [.unit .exe, .unit .grd, .unit .spr, .unit .net, .unit .sup]
  | .stopEnter => some [.unit .own, .unit .exe, .unit .hz, .unit .fch, .unit .grd, .unit .gmu, .unit .wnt, .unit .spr, .unit .cmd,
      .unit .net, .unit .sbk, .unit .sup, .ctr Reg.grdSnapRef, .flag Reg.cmdFlags 4, .flag Reg.grdFlags 1, .flag Reg.grdFlags 3]
  | .stopGraceExpiry => some [.unit .own, .unit .exe, .unit .hz, .unit .fch, .unit .grd, .unit .gmu, .unit .wnt, .unit .spr,
      .unit .cmd, .unit .net, .unit .sbk, .unit .sup, .ctr Reg.grdSnapRef, .flag Reg.cmdFlags 4, .flag Reg.grdFlags 1,
      .flag Reg.grdFlags 3]
  | .restartBoundary => some [.unit .exe]
  | .swapReady => some [.unit .pair, .unit .cmd]
  | .handoverDrained => some [.unit .exe, .unit .pair]
  | .handoverDrainExpiry => some [.unit .own, .unit .exe, .unit .hz, .unit .fch, .unit .grd, .unit .gmu, .unit .wnt, .unit .pair,
      .unit .spr, .unit .cmd, .unit .net, .unit .sbk, .ctr Reg.grdSnapRef, .flag Reg.cmdFlags 4, .flag Reg.grdFlags 1,
      .flag Reg.grdFlags 3, .flag Reg.hzFlags 3, .flag Reg.hzFlags 4, .flag Reg.hzFlags 5, .flag Reg.ppdFlags 1,
      .flag Reg.ppdFlags 2]
  | .imageCheckDone .. => some [.unit .exe, .unit .cmd, .unit .sbk, .ctr Reg.truSnapFail, .ctr Reg.truSnapVerify,
      .flag Reg.cmdFlags 1, .flag Reg.cmdFlags 2, .flag Reg.cmdFlags 4, .flag Reg.truFlags 0, .flag Reg.truFlags 1]
  | .start .. => some [.unit .exe, .unit .fch, .unit .cmd, .ctr Reg.exeSnapMaxexec, .ctrsOf 2]
  | .stop .. => some [.unit .exe, .unit .cmd]
  | .warm .. => some [.unit .staged, .unit .own, .unit .exe, .unit .hz, .unit .fch, .unit .grd, .unit .gmu, .unit .pair,
      .unit .spr, .unit .cmd, .unit .net, .unit .can, .unit .sbk, .unit .sup, .ctr Reg.exeSnapMaxexec, .ctr Reg.gmuSnapSheds,
      .ctr Reg.grdSnapRef, .inForce Reg.fchAicfg, .inForce Reg.fchAocfg, .inForce Reg.fchAosafe, .inForce Reg.fchDicfg,
      .inForce Reg.fchDocfg, .inForce Reg.fchMode, .inForce Reg.fchPulsecfg, .inForce Reg.fchStopcfg, .inForce Reg.grdChload,
      .reg Reg.fchAicfg, .reg Reg.fchAocfg, .reg Reg.fchAosafe, .reg Reg.fchCtrl, .reg Reg.fchDicfg, .reg Reg.fchDocfg,
      .reg Reg.fchMode, .reg Reg.fchPulsecfg, .reg Reg.fchStopcfg, .reg Reg.grdChload, .flag Reg.canFlags 5, .flag Reg.cmdFlags 4,
      .flag Reg.exeFlags 2, .flag Reg.gmuFlags 4, .flag Reg.grdFlags 1, .flag Reg.grdFlags 3, .flag Reg.hzFlags 1, .ctrsOf 2,
      .inForceOf 0xA, .inForceOf 5, .regsOf 0xA, .regsOf 5]
  | .cold .. => some [.unit .staged, .unit .own, .unit .exe, .unit .hz, .unit .fch, .unit .grd, .unit .gmu, .unit .pair,
      .unit .spr, .unit .cmd, .unit .net, .unit .can, .unit .sbk, .unit .sup, .ctr Reg.exeSnapMaxexec, .ctr Reg.gmuSnapSheds,
      .ctr Reg.grdSnapRef, .inForce Reg.fchAicfg, .inForce Reg.fchAocfg, .inForce Reg.fchAosafe, .inForce Reg.fchDicfg,
      .inForce Reg.fchDocfg, .inForce Reg.fchMode, .inForce Reg.fchPulsecfg, .inForce Reg.fchStopcfg, .inForce Reg.grdChload,
      .reg Reg.fchAicfg, .reg Reg.fchAocfg, .reg Reg.fchAosafe, .reg Reg.fchCtrl, .reg Reg.fchDicfg, .reg Reg.fchDocfg,
      .reg Reg.fchMode, .reg Reg.fchPulsecfg, .reg Reg.fchStopcfg, .reg Reg.grdChload, .flag Reg.canFlags 5, .flag Reg.cmdFlags 4,
      .flag Reg.gmuFlags 4, .flag Reg.grdFlags 1, .flag Reg.grdFlags 3, .flag Reg.hzFlags 1, .ctrsOf 2, .inForceOf 0xA,
      .inForceOf 5, .regsOf 0xA, .regsOf 5]
  | .swapPrepare .. => some [.unit .pair, .unit .cmd]
  | .changeReport .. => some [.unit .cmd]
  | .forceSet .. => some [.unit .own, .unit .exe, .unit .fch, .unit .grd, .unit .pair, .unit .spr, .unit .cmd, .unit .net,
      .unit .sup, .ctr Reg.grdSnapRef, .flag Reg.exeFlags 4, .flag Reg.grdFlags 1, .flag Reg.grdFlags 3]
  | .forceClear .. => some [.unit .own, .unit .exe, .unit .fch, .unit .grd, .unit .pair, .unit .spr, .unit .cmd, .unit .net,
      .unit .sup, .ctr Reg.grdSnapRef, .flag Reg.grdFlags 1, .flag Reg.grdFlags 3]
  | .forceClearAll .. => some [.unit .own, .unit .exe, .unit .fch, .unit .grd, .unit .pair, .unit .spr, .unit .cmd, .unit .net,
      .unit .sup, .ctr Reg.grdSnapRef, .flag Reg.grdFlags 1, .flag Reg.grdFlags 3]
  | .partnerLineEdge => some [.unit .own, .unit .pair]
  | _ => none

/-- What the commands of Hazel (R66 to R106) may change. -/
def hazelFrame : Instr → Option (List Area)
  | .hazelSlot => some [.unit .own, .unit .exe, .unit .hz, .unit .fch, .unit .grd, .unit .gmu, .unit .pair, .unit .spr,
      .unit .cmd, .unit .net, .unit .can, .unit .sbk, .unit .sup, .ctr Reg.gmuSnapSheds, .ctr Reg.grdSnapRef, .reg Reg.hzApply,
      .flag Reg.cmdFlags 4, .flag Reg.gmuFlags 4, .flag Reg.grdFlags 1, .flag Reg.grdFlags 3, .flag Reg.hzFlags 2,
      .flag Reg.hzFlags 3, .flag Reg.hzFlags 4, .flag Reg.hzFlags 5, .flag Reg.hzFlags 6, .ctrsOf 2]
  | .hazelBatchClose .. => some [.unit .own, .unit .exe, .unit .hz, .unit .fch, .unit .grd, .unit .gmu, .unit .pair, .unit .cmd,
      .unit .net, .unit .can, .unit .sbk, .ctr Reg.gmuSnapSheds, .ctr Reg.grdSnapRef, .flag Reg.cmdFlags 4, .flag Reg.gmuFlags 4,
      .flag Reg.grdFlags 1, .flag Reg.grdFlags 3]
  | .podFail .. => some [.unit .own, .unit .exe, .unit .hz, .unit .fch, .unit .grd, .unit .gmu, .unit .wnt, .unit .pair,
      .unit .spr, .unit .cmd, .unit .net, .unit .can, .unit .sbk, .unit .sup, .ctr Reg.gmuSnapSheds, .ctr Reg.grdSnapRef,
      .ctr Reg.sprSnapSprouts, .flag Reg.cmdFlags 4, .flag Reg.gmuFlags 4, .flag Reg.grdFlags 1, .flag Reg.grdFlags 3,
      .flag Reg.hzFlags 0, .flag Reg.hzFlags 1, .flag Reg.hzFlags 3, .flag Reg.hzFlags 4, .flag Reg.hzFlags 5,
      .flag Reg.ppdFlags 10, .flag Reg.ppdFlags 2, .flag Reg.sprFlags 0, .flag Reg.sprFlags 2, .ctrsOf 2]
  | .hzPcommit .. => some [.unit .hz, .unit .cmd, .unit .sbk, .unit .sup, .ctr Reg.supSnapLockv, .reg Reg.supFaultAddr,
      .reg Reg.supFaultSrc, .reg Reg.supLock, .flag Reg.cmdFlags 4, .flag Reg.supFlags 0, .flag Reg.supFlags 2]
  | .hzLoopModeWrite .. => some [.unit .hz, .unit .cmd, .unit .sbk, .unit .sup, .ctr Reg.supSnapLockv, .reg Reg.supFaultAddr,
      .reg Reg.supFaultSrc, .reg Reg.supLock, .flag Reg.cmdFlags 4, .flag Reg.hzFlags 6, .flag Reg.supFlags 0,
      .flag Reg.supFlags 2]
  | .hzLoopSpWrite .. => some [.unit .hz, .unit .cmd, .unit .sbk, .unit .sup, .ctr Reg.supSnapLockv, .reg Reg.supFaultAddr,
      .reg Reg.supFaultSrc, .reg Reg.supLock, .flag Reg.cmdFlags 4, .flag Reg.hzFlags 6, .flag Reg.supFlags 0,
      .flag Reg.supFlags 2]
  | .hzLoopMvWrite .. => some [.unit .hz, .unit .cmd, .unit .sbk, .unit .sup, .ctr Reg.supSnapLockv, .reg Reg.supFaultAddr,
      .reg Reg.supFaultSrc, .reg Reg.supLock, .flag Reg.cmdFlags 4, .flag Reg.hzFlags 6, .flag Reg.supFlags 0,
      .flag Reg.supFlags 2]
  | .hzInjStart .. => some [.unit .exe, .unit .hz, .unit .fch, .unit .grd, .unit .spr, .unit .cmd, .unit .net, .unit .can,
      .unit .sbk, .unit .pnl, .unit .sup, .ctr Reg.grdSnapRef, .ctr Reg.pnlSnapRef, .ctr Reg.supSnapLockv, .reg Reg.hzInj,
      .reg Reg.supFaultAddr, .reg Reg.supFaultSrc, .reg Reg.supLock, .flag Reg.cmdFlags 4, .flag Reg.grdFlags 1,
      .flag Reg.grdFlags 3, .flag Reg.hzFlags 3, .flag Reg.hzFlags 4, .flag Reg.memFlags 6, .flag Reg.pnlFlags 3,
      .flag Reg.supFlags 0, .flag Reg.supFlags 2]
  | .hzInjStop .. => some [.unit .hz, .unit .cmd, .unit .sbk, .unit .sup, .ctr Reg.supSnapLockv, .reg Reg.hzInj,
      .reg Reg.supFaultAddr, .reg Reg.supFaultSrc, .reg Reg.supLock, .flag Reg.cmdFlags 4, .flag Reg.hzFlags 3,
      .flag Reg.hzFlags 4, .flag Reg.supFlags 0, .flag Reg.supFlags 2]
  | .hzCapArm .. => some [.unit .hz, .unit .cmd, .unit .sbk, .unit .sup, .ctr Reg.supSnapLockv, .reg Reg.hzCap,
      .reg Reg.supFaultAddr, .reg Reg.supFaultSrc, .reg Reg.supLock, .flag Reg.cmdFlags 4, .flag Reg.hzFlags 6,
      .flag Reg.supFlags 0, .flag Reg.supFlags 2]
  | .hzCapTrigger .. => some [.unit .hz, .unit .cmd, .unit .sbk, .unit .sup, .ctr Reg.supSnapLockv, .reg Reg.hzCap,
      .reg Reg.supFaultAddr, .reg Reg.supFaultSrc, .reg Reg.supLock, .flag Reg.cmdFlags 4, .flag Reg.supFlags 0,
      .flag Reg.supFlags 2]
  | .hzCapDisarm .. => some [.unit .hz, .unit .cmd, .unit .sbk, .unit .sup, .ctr Reg.supSnapLockv, .reg Reg.hzCap,
      .reg Reg.supFaultAddr, .reg Reg.supFaultSrc, .reg Reg.supLock, .flag Reg.cmdFlags 4, .flag Reg.supFlags 0,
      .flag Reg.supFlags 2]
  | .loopMode .. => some [.unit .hz, .unit .cmd]
  | .loopSp .. => some [.unit .hz, .unit .cmd]
  | .loopMv .. => some [.unit .hz, .unit .cmd]
  | .loopParam .. => some [.unit .hz, .unit .cmd]
  | .injectStart .. => some [.unit .exe, .unit .hz, .unit .fch, .unit .grd, .unit .spr, .unit .cmd, .unit .net, .unit .can,
      .unit .sbk, .unit .pnl, .unit .sup, .ctr Reg.grdSnapRef, .ctr Reg.pnlSnapRef, .flag Reg.cmdFlags 4, .flag Reg.grdFlags 1,
      .flag Reg.grdFlags 3, .flag Reg.hzFlags 3, .flag Reg.hzFlags 4, .flag Reg.hzFlags 6, .flag Reg.memFlags 6,
      .flag Reg.pnlFlags 3]
  | .injectStop .. => some [.unit .hz, .unit .cmd, .unit .sbk, .flag Reg.cmdFlags 4, .flag Reg.hzFlags 3, .flag Reg.hzFlags 4]
  | .capArm .. => some [.unit .hz, .unit .cmd]
  | .capTrigger .. => some [.unit .hz, .unit .cmd]
  | .capDisarm .. => some [.unit .hz, .unit .cmd]
  | .capRead .. => some [.unit .cmd]
  | _ => none

/-- What the commands of the field channels (R107 to R166) may change. -/
def channelFrame : Instr → Option (List Area)
  | .couplerFrame .. => some [.unit .free, .unit .own, .unit .exe, .unit .hz, .unit .fch, .unit .grd, .unit .gmu, .unit .wnt,
      .unit .pair, .unit .spr, .unit .cmd, .unit .net, .unit .can, .unit .sbk, .unit .pnl, .unit .sup, .ctr Reg.fchSnapFrameerr,
      .ctr Reg.grdSnapRef, .flag Reg.cmdFlags 4, .flag Reg.fchFlags 0, .flag Reg.fchFlags 1, .flag Reg.fchFlags 4,
      .flag Reg.gmuFlags 2, .flag Reg.gmuFlags 3, .flag Reg.grdFlags 1, .flag Reg.grdFlags 3, .flag Reg.hzFlags 3,
      .flag Reg.hzFlags 4, .flag Reg.hzFlags 5, .flag Reg.ppdFlags 1, .flag Reg.ppdFlags 2, .flag Reg.sprFlags 1,
      .flag Reg.sprFlags 2]
  | .feFrameTimeout .. => some [.unit .fch, .flag Reg.fchFlags 3]
  | .feWindowTimeout .. => some [.unit .fch, .reg Reg.fchIdxData, .flag Reg.fchFlags 1]
  | .groupSupplySample .. => some [.unit .fch, .unit .grd, .unit .cmd, .unit .sbk, .ctr Reg.grdSnapRef, .flag Reg.cmdFlags 4,
      .flag Reg.fgrpFlags 0, .flag Reg.fgrpFlags 1, .flag Reg.fgrpFlags 3, .flag Reg.grdFlags 1, .flag Reg.grdFlags 3]
  | .fsupReturn .. => some [.unit .fch, .unit .grd, .unit .cmd, .unit .sbk, .ctr Reg.grdSnapRef, .flag Reg.cmdFlags 4,
      .flag Reg.fgrpFlags 0, .flag Reg.fgrpFlags 1, .flag Reg.fgrpFlags 2, .flag Reg.fgrpFlags 3, .flag Reg.grdFlags 1,
      .flag Reg.grdFlags 3]
  | .feReconfigDone .. => some [.unit .fch, .unit .grd, .unit .cmd, .ctr Reg.grdSnapRef, .flag Reg.grdFlags 1,
      .flag Reg.grdFlags 3]
  | .diFilterChange .. => some [.unit .fch]
  | .doOverload .. => some [.unit .fch, .unit .grd, .unit .cmd, .unit .sbk, .flag Reg.cmdFlags 4, .flag Reg.grdFlags 2]
  | .doLatchoff .. => some [.unit .fch, .unit .grd, .unit .cmd, .unit .sbk, .ctr Reg.fchSnapShorts, .flag Reg.cmdFlags 4,
      .flag Reg.fchFlags 0]
  | .doRetry .. => some [.unit .fch, .unit .grd, .unit .cmd, .ctr Reg.grdSnapRef, .flag Reg.fchFlags 2, .flag Reg.grdFlags 1,
      .flag Reg.grdFlags 3]
  | .doMismatch .. => some [.unit .own, .unit .exe, .unit .hz, .unit .fch, .unit .grd, .unit .wnt, .unit .pair, .unit .spr,
      .unit .cmd, .unit .net, .unit .sbk, .unit .sup, .ctr Reg.grdSnapRef, .flag Reg.cmdFlags 4, .flag Reg.fchFlags 0,
      .flag Reg.grdFlags 1, .flag Reg.grdFlags 3, .flag Reg.hzFlags 3, .flag Reg.hzFlags 4, .flag Reg.hzFlags 5,
      .flag Reg.ppdFlags 1, .flag Reg.ppdFlags 2, .flag Reg.sprFlags 1, .flag Reg.sprFlags 2]
  | .doOpenLoad .. => some [.unit .fch, .unit .cmd, .unit .sbk, .flag Reg.cmdFlags 4]
  | .pulseEdge .. => some [.unit .free, .unit .fch]
  | .freqGateEnd .. => some [.unit .free, .unit .fch]
  | .feFailure .. => some [.unit .own, .unit .exe, .unit .hz, .unit .fch, .unit .grd, .unit .wnt, .unit .pair, .unit .spr,
      .unit .cmd, .unit .net, .unit .sbk, .unit .sup, .ctr Reg.grdSnapRef, .flag Reg.cmdFlags 4, .flag Reg.fchFlags 0,
      .flag Reg.grdFlags 1, .flag Reg.grdFlags 3, .flag Reg.hzFlags 3, .flag Reg.hzFlags 4, .flag Reg.hzFlags 5,
      .flag Reg.ppdFlags 1, .flag Reg.ppdFlags 2, .flag Reg.sprFlags 1, .flag Reg.sprFlags 2]
  | .sproutComplete => some [.unit .exe, .unit .fch, .unit .grd, .unit .spr, .unit .cmd, .unit .net, .unit .sbk, .unit .sup,
      .ctr Reg.grdSnapRef, .ctr Reg.sprSnapSprouts, .flag Reg.cmdFlags 4, .flag Reg.fchFlags 0, .flag Reg.grdFlags 1,
      .flag Reg.grdFlags 3, .flag Reg.sprFlags 0, .flag Reg.sprFlags 2]
  | .spareSelftest .. => some [.unit .exe, .unit .fch, .unit .grd, .unit .spr, .unit .net, .unit .sup]
  | .aiConversion .. => some [.unit .free, .unit .fch]
  | .burdenOpen .. => some [.unit .fch, .unit .cmd, .unit .sbk, .flag Reg.cmdFlags 4]
  | .burdenRetry .. => some [.unit .fch]
  | .burdenRetryEnd .. => some [.unit .fch]
  | .readbackDisagree .. => some [.unit .fch]
  | .ne43Confirm .. => some [.unit .fch, .unit .cmd, .unit .sbk, .flag Reg.cmdFlags 4]
  | .loopSupplyShort .. => some [.unit .fch, .unit .grd, .unit .cmd, .unit .sbk, .flag Reg.cmdFlags 4]
  | .loopSupplyRetry .. => some [.unit .grd]
  | .loopSupplyRecover .. => some [.unit .fch]
  | .aoCompliance .. => some [.unit .fch, .unit .cmd, .unit .sbk, .ctr Reg.fchSnapCompl, .flag Reg.cmdFlags 4]
  | .aoComplianceEnd .. => some [.unit .fch, .unit .cmd, .unit .sbk, .flag Reg.cmdFlags 4]
  | .aoOpenLoad .. => some [.unit .fch, .unit .cmd, .unit .sbk, .flag Reg.cmdFlags 4]
  | .aoBackfeed .. => some [.unit .fch, .unit .grd, .unit .cmd, .unit .sbk, .ctr Reg.grdSnapRef, .flag Reg.cmdFlags 4,
      .flag Reg.fchFlags 0, .flag Reg.grdFlags 1, .flag Reg.grdFlags 3]
  | .feTempMeasure .. => some [.unit .fch]
  | .chClearFault .. => some [.unit .own, .unit .fch, .unit .grd, .unit .cmd, .ctr Reg.grdSnapRef, .flag Reg.grdFlags 1,
      .flag Reg.grdFlags 3]
  | .chFailsig .. => some [.unit .own, .unit .exe, .unit .fch, .unit .grd, .unit .pair, .unit .spr, .unit .cmd, .unit .net,
      .unit .sup, .ctr Reg.grdSnapRef, .flag Reg.exeFlags 4, .flag Reg.grdFlags 1, .flag Reg.grdFlags 3]
  | _ => none

/-- What the commands of Gourd and the grid measurement unit (R167 to R212) may change. -/
def gridPowerFrame : Instr → Option (List Area)
  | .gourdRequest .. => some [.unit .exe, .unit .fch, .unit .grd, .unit .spr, .unit .cmd, .unit .net, .unit .can, .unit .sbk,
      .unit .pnl, .unit .sup, .ctr Reg.grdSnapRef, .ctr Reg.pnlSnapRef, .flag Reg.grdFlags 1, .flag Reg.grdFlags 3,
      .flag Reg.memFlags 6, .flag Reg.pnlFlags 3]
  | .gourdDecision => some [.unit .own, .unit .fch, .unit .grd, .unit .pair, .unit .cmd, .unit .pnl, .ctr Reg.grdSnapC1dly,
      .ctr Reg.grdSnapMaxwait, .ctr Reg.grdSnapRef, .ctr Reg.pnlSnapRef, .flag Reg.grdFlags 0, .flag Reg.grdFlags 1,
      .flag Reg.grdFlags 3, .flag Reg.memFlags 6, .flag Reg.pnlFlags 3]
  | .groupCurrentMeasure .. => some [.unit .grd]
  | .logicPowerMeasure .. => some [.unit .grd]
  | .c2AgeExpiry => some [.unit .fch, .unit .grd, .unit .cmd, .unit .pnl, .ctr Reg.grdSnapRef, .ctr Reg.pnlSnapRef,
      .flag Reg.grdFlags 1, .flag Reg.grdFlags 3, .flag Reg.memFlags 6, .flag Reg.pnlFlags 3]
  | .gmuReport .. => some [.unit .own, .unit .exe, .unit .fch, .unit .grd, .unit .gmu, .unit .pair, .unit .cmd, .unit .net,
      .unit .can, .unit .sbk, .ctr Reg.gmuSnapSheds, .ctr Reg.grdSnapRef, .flag Reg.cmdFlags 4, .flag Reg.gmuFlags 0,
      .flag Reg.gmuFlags 3, .flag Reg.gmuFlags 4, .flag Reg.grdFlags 1, .flag Reg.grdFlags 3]
  | .pqAggregate .. => some [.unit .free, .unit .gmu]
  | .gridEvent .. => some [.unit .gmu, .unit .cmd, .unit .sbk, .ctr Reg.gmuSnapEvents, .flag Reg.cmdFlags 4, .flag Reg.gmuFlags 1]
  | .syncClose => some [.unit .fch, .unit .grd, .unit .gmu, .unit .cmd, .unit .sbk, .ctr Reg.grdSnapRef, .flag Reg.cmdFlags 4,
      .flag Reg.gmuFlags 2, .flag Reg.grdFlags 1, .flag Reg.grdFlags 3]
  | .syncTimeout => some [.unit .fch, .unit .grd, .unit .gmu, .unit .cmd, .unit .sbk, .ctr Reg.grdSnapRef, .flag Reg.cmdFlags 4,
      .flag Reg.gmuFlags 3, .flag Reg.grdFlags 1, .flag Reg.grdFlags 3]
  | .triggerFire .. => some [.unit .free, .unit .own, .unit .fch, .unit .grd, .unit .gmu, .unit .pair, .unit .cmd, .unit .net,
      .unit .can, .unit .sbk, .ctr Reg.gmuSnapSheds, .ctr Reg.grdSnapRef, .flag Reg.cmdFlags 4, .flag Reg.gmuFlags 4,
      .flag Reg.gmuFlags 5, .flag Reg.gmuFlags 6, .flag Reg.grdFlags 1, .flag Reg.grdFlags 3]
  | .triggerReset .. => some [.unit .gmu]
  | .staleInput => some [.unit .gmu, .unit .cmd, .unit .sbk, .flag Reg.cmdFlags 4, .flag Reg.gmuFlags 5]
  | .shedReleaseApply => some [.unit .own, .unit .fch, .unit .grd, .unit .gmu, .unit .pair, .unit .cmd, .unit .net, .unit .can,
      .unit .sbk, .ctr Reg.gmuSnapSheds, .ctr Reg.grdSnapRef, .flag Reg.cmdFlags 4, .flag Reg.gmuFlags 4, .flag Reg.grdFlags 1,
      .flag Reg.grdFlags 3]
  | .gmuSyncArm .. => some [.unit .gmu, .unit .cmd, .unit .sbk, .unit .sup, .ctr Reg.supSnapLockv, .reg Reg.supFaultAddr,
      .reg Reg.supFaultSrc, .reg Reg.supLock, .flag Reg.cmdFlags 4, .flag Reg.gmuFlags 8, .flag Reg.supFlags 0,
      .flag Reg.supFlags 2]
  | .gmuSyncDisarm .. => some [.unit .fch, .unit .grd, .unit .gmu, .unit .cmd, .unit .sbk, .unit .sup, .ctr Reg.grdSnapRef,
      .ctr Reg.supSnapLockv, .reg Reg.supFaultAddr, .reg Reg.supFaultSrc, .reg Reg.supLock, .flag Reg.cmdFlags 4,
      .flag Reg.grdFlags 1, .flag Reg.grdFlags 3, .flag Reg.supFlags 0, .flag Reg.supFlags 2]
  | .gmuTrigArm .. => some [.unit .gmu, .unit .cmd, .unit .sbk, .unit .sup, .ctr Reg.supSnapLockv, .reg Reg.gmuShedCtrl,
      .reg Reg.supFaultAddr, .reg Reg.supFaultSrc, .reg Reg.supLock, .flag Reg.cmdFlags 4, .flag Reg.supFlags 0,
      .flag Reg.supFlags 2]
  | .gmuTrigDisarm .. => some [.unit .gmu, .unit .cmd, .unit .sbk, .unit .sup, .ctr Reg.supSnapLockv, .reg Reg.gmuShedCtrl,
      .reg Reg.supFaultAddr, .reg Reg.supFaultSrc, .reg Reg.supLock, .flag Reg.cmdFlags 4, .flag Reg.supFlags 0,
      .flag Reg.supFlags 2]
  | .gmuShedRel .. => some [.unit .gmu, .unit .cmd, .unit .sbk, .unit .sup, .ctr Reg.supSnapLockv, .reg Reg.supFaultAddr,
      .reg Reg.supFaultSrc, .reg Reg.supLock, .flag Reg.cmdFlags 4, .flag Reg.gmuFlags 8, .flag Reg.supFlags 0,
      .flag Reg.supFlags 2]
  | .syncArm .. => some [.unit .gmu, .unit .cmd, .flag Reg.gmuFlags 8]
  | .syncDisarm .. => some [.unit .fch, .unit .grd, .unit .gmu, .unit .cmd, .ctr Reg.grdSnapRef, .flag Reg.grdFlags 1,
      .flag Reg.grdFlags 3]
  | .shedRelease .. => some [.unit .gmu, .unit .cmd]
  | .trigArm .. => some [.unit .gmu, .unit .cmd]
  | .grantlogRead .. => some [.unit .grd, .unit .cmd]
  | _ => none

/-- What the commands of Walnut (R213 to R253) may change. -/
def walnutFrame : Instr → Option (List Area)
  | .safeInputChange .. => some [.unit .wnt]
  | .safetyCycle .. => some [.unit .free, .unit .exe, .unit .grd, .unit .wnt, .unit .pair, .unit .cmd, .unit .sbk,
      .flag Reg.cmdFlags 4]
  | .halfSelftestDone .. => some [.unit .own, .unit .exe, .unit .hz, .unit .fch, .unit .grd, .unit .wnt, .unit .pair, .unit .cmd,
      .unit .sbk, .ctr Reg.grdSnapRef, .flag Reg.cmdFlags 4, .flag Reg.grdFlags 1, .flag Reg.grdFlags 3, .flag Reg.hzFlags 3,
      .flag Reg.hzFlags 4, .flag Reg.hzFlags 5, .flag Reg.ppdFlags 1, .flag Reg.ppdFlags 2]
  | .discrepancy .. => some [.unit .wnt]
  | .crossCircuit .. => some [.unit .wnt]
  | .testSourceDark .. => some [.unit .wnt]
  | .speedPulse .. => some [.unit .wnt]
  | .speedDisc .. => some [.unit .wnt]
  | .safeOutputFault .. => some [.unit .wnt]
  | .qsupMissing .. => some [.unit .wnt]
  | .qsupOk .. => some [.unit .wnt]
  | .darkTest .. => some [.unit .grd, .unit .wnt]
  | .darkTestEnd .. => some [.unit .wnt]
  | .lightTest .. => some [.unit .grd, .unit .wnt]
  | .lightTestEnd .. => some [.unit .wnt]
  | .halfFail .. => some [.unit .own, .unit .exe, .unit .hz, .unit .fch, .unit .grd, .unit .wnt, .unit .pair, .unit .cmd,
      .unit .sbk, .ctr Reg.grdSnapRef, .flag Reg.cmdFlags 4, .flag Reg.grdFlags 1, .flag Reg.grdFlags 3, .flag Reg.hzFlags 3,
      .flag Reg.hzFlags 4, .flag Reg.hzFlags 5, .flag Reg.ppdFlags 1, .flag Reg.ppdFlags 2]
  | .halfDriveTakeover .. => some [.unit .wnt]
  | .ss1Tmax .. => some [.unit .wnt]
  | .resetEdge => some [.unit .own, .unit .exe, .unit .hz, .unit .fch, .unit .grd, .unit .wnt, .unit .pair, .unit .cmd,
      .unit .sbk, .ctr Reg.grdSnapRef, .flag Reg.cmdFlags 4, .flag Reg.grdFlags 1, .flag Reg.grdFlags 3, .flag Reg.hzFlags 3,
      .flag Reg.hzFlags 4, .flag Reg.hzFlags 5, .flag Reg.ppdFlags 1, .flag Reg.ppdFlags 2]
  | .resetJammed => some [.unit .wnt, .unit .cmd, .unit .sbk, .flag Reg.cmdFlags 4]
  | .degradedExpiry => some [.unit .wnt]
  | .safety .. => some [.unit .wnt, .unit .cmd, .unit .sbk, .flag Reg.cmdFlags 4]
  | .safeParamExpiry => some [.unit .wnt, .unit .cmd, .unit .sbk, .flag Reg.cmdFlags 4]
  | .safeParamLoad .. => some [.unit .wnt, .unit .cmd, .flag Reg.cmdFlags 1, .flag Reg.cmdFlags 2]
  | .safeParamConfirm .. => some [.unit .wnt, .unit .cmd, .unit .sbk, .flag Reg.cmdFlags 1, .flag Reg.cmdFlags 2,
      .flag Reg.cmdFlags 4]
  | .safeParamAbort .. => some [.unit .wnt, .unit .cmd, .unit .sbk, .flag Reg.cmdFlags 2, .flag Reg.cmdFlags 4]
  | _ => none

/-- What the commands of the redundancy pair (R254 to R281) may change. -/
def peapodFrame : Instr → Option (List Area)
  | .handoverBoundary => some [.unit .staged, .unit .own, .unit .exe, .unit .hz, .unit .fch, .unit .grd, .unit .gmu, .unit .wnt,
      .unit .pair, .unit .spr, .unit .cmd, .unit .net, .unit .can, .unit .sbk, .ctr Reg.gmuSnapSheds, .ctr Reg.grdSnapRef,
      .inForce Reg.fchAicfg, .inForce Reg.fchAocfg, .inForce Reg.fchAosafe, .inForce Reg.fchDicfg, .inForce Reg.fchDocfg,
      .inForce Reg.fchMode, .inForce Reg.fchPulsecfg, .inForce Reg.fchStopcfg, .inForce Reg.grdChload, .reg Reg.fchAicfg,
      .reg Reg.fchAocfg, .reg Reg.fchAosafe, .reg Reg.fchCtrl, .reg Reg.fchDicfg, .reg Reg.fchDocfg, .reg Reg.fchMode,
      .reg Reg.fchPulsecfg, .reg Reg.fchStopcfg, .reg Reg.grdChload, .flag Reg.canFlags 5, .flag Reg.cmdFlags 4,
      .flag Reg.gmuFlags 4, .flag Reg.grdFlags 1, .flag Reg.grdFlags 3, .flag Reg.hzFlags 1, .flag Reg.hzFlags 3,
      .flag Reg.hzFlags 4, .flag Reg.hzFlags 5, .flag Reg.ppdFlags 1, .flag Reg.ppdFlags 2, .inForceOf 0xA, .inForceOf 5,
      .regsOf 0xA, .regsOf 5]
  | .roleDecision .. => some [.unit .staged, .unit .own, .unit .exe, .unit .hz, .unit .fch, .unit .grd, .unit .gmu, .unit .wnt,
      .unit .pair, .unit .spr, .unit .cmd, .unit .net, .unit .can, .unit .sbk, .unit .sup, .ctr Reg.exeSnapMaxexec,
      .ctr Reg.gmuSnapSheds, .ctr Reg.grdSnapRef, .inForce Reg.fchAicfg, .inForce Reg.fchAocfg, .inForce Reg.fchAosafe,
      .inForce Reg.fchDicfg, .inForce Reg.fchDocfg, .inForce Reg.fchMode, .inForce Reg.fchPulsecfg, .inForce Reg.fchStopcfg,
      .inForce Reg.grdChload, .reg Reg.fchAicfg, .reg Reg.fchAocfg, .reg Reg.fchAosafe, .reg Reg.fchCtrl, .reg Reg.fchDicfg,
      .reg Reg.fchDocfg, .reg Reg.fchMode, .reg Reg.fchPulsecfg, .reg Reg.fchStopcfg, .reg Reg.grdChload, .flag Reg.canFlags 5,
      .flag Reg.canFlags 6, .flag Reg.cmdFlags 4, .flag Reg.exeFlags 2, .flag Reg.gmuFlags 4, .flag Reg.grdFlags 1,
      .flag Reg.grdFlags 3, .flag Reg.hzFlags 1, .flag Reg.hzFlags 3, .flag Reg.hzFlags 4, .flag Reg.hzFlags 5,
      .flag Reg.ppdFlags 2, .ctrsOf 2, .inForceOf 0xA, .inForceOf 5, .regsOf 0xA, .regsOf 5]
  | .trainPhaseDone .. => some [.unit .free, .unit .pair]
  | .trainFail => some [.unit .pair]
  | .ident .. => some [.unit .own, .unit .exe, .unit .hz, .unit .fch, .unit .grd, .unit .wnt, .unit .pair, .unit .cmd, .unit .sbk,
      .unit .sup, .ctr Reg.grdSnapRef, .ctr Reg.truSnapSign, .flag Reg.cmdFlags 4, .flag Reg.grdFlags 1, .flag Reg.grdFlags 3,
      .flag Reg.hzFlags 3, .flag Reg.hzFlags 4, .flag Reg.hzFlags 5, .flag Reg.ppdFlags 2, .flag Reg.ppdFlags 6]
  | .heartbeat .. => some [.unit .own, .unit .exe, .unit .hz, .unit .fch, .unit .grd, .unit .gmu, .unit .wnt, .unit .pair,
      .unit .cmd, .unit .net, .unit .can, .unit .sbk, .ctr Reg.gmuSnapSheds, .ctr Reg.grdSnapRef, .flag Reg.cmdFlags 4,
      .flag Reg.gmuFlags 4, .flag Reg.grdFlags 1, .flag Reg.grdFlags 3, .flag Reg.hzFlags 3, .flag Reg.hzFlags 4,
      .flag Reg.hzFlags 5, .flag Reg.ppdFlags 10, .flag Reg.ppdFlags 2]
  | .heartbeatSend => some [.unit .pair]
  | .heartbeatLost => some [.unit .staged, .unit .own, .unit .exe, .unit .hz, .unit .fch, .unit .grd, .unit .gmu, .unit .wnt,
      .unit .pair, .unit .spr, .unit .cmd, .unit .net, .unit .can, .unit .sbk, .unit .sup, .ctr Reg.exeSnapMaxexec,
      .ctr Reg.exeSnapSkip, .ctr Reg.gmuSnapSheds, .ctr Reg.grdSnapRef, .ctr Reg.netSnapTtlate, .inForce Reg.fchAicfg,
      .inForce Reg.fchAocfg, .inForce Reg.fchAosafe, .inForce Reg.fchDicfg, .inForce Reg.fchDocfg, .inForce Reg.fchMode,
      .inForce Reg.fchPulsecfg, .inForce Reg.fchStopcfg, .inForce Reg.grdChload, .reg Reg.fchAicfg, .reg Reg.fchAocfg,
      .reg Reg.fchAosafe, .reg Reg.fchCtrl, .reg Reg.fchDicfg, .reg Reg.fchDocfg, .reg Reg.fchMode, .reg Reg.fchPulsecfg,
      .reg Reg.fchStopcfg, .reg Reg.grdChload, .flag Reg.canFlags 5, .flag Reg.canFlags 6, .flag Reg.cmdFlags 4,
      .flag Reg.exeFlags 2, .flag Reg.gmuFlags 2, .flag Reg.gmuFlags 4, .flag Reg.grdFlags 1, .flag Reg.grdFlags 3,
      .flag Reg.hzFlags 1, .flag Reg.hzFlags 3, .flag Reg.hzFlags 4, .flag Reg.hzFlags 5, .flag Reg.netFlags 8,
      .flag Reg.ppdFlags 0, .flag Reg.ppdFlags 10, .flag Reg.ppdFlags 2, .ctrsOf 2, .inForceOf 0xA, .inForceOf 5, .regsOf 0xA,
      .regsOf 5]
  | .partnerLineReleased => some [.unit .staged, .unit .own, .unit .exe, .unit .hz, .unit .fch, .unit .grd, .unit .gmu,
      .unit .wnt, .unit .pair, .unit .spr, .unit .cmd, .unit .net, .unit .can, .unit .sbk, .unit .sup, .ctr Reg.exeSnapMaxexec,
      .ctr Reg.exeSnapSkip, .ctr Reg.gmuSnapSheds, .ctr Reg.grdSnapRef, .ctr Reg.netSnapTtlate, .inForce Reg.fchAicfg,
      .inForce Reg.fchAocfg, .inForce Reg.fchAosafe, .inForce Reg.fchDicfg, .inForce Reg.fchDocfg, .inForce Reg.fchMode,
      .inForce Reg.fchPulsecfg, .inForce Reg.fchStopcfg, .inForce Reg.grdChload, .reg Reg.fchAicfg, .reg Reg.fchAocfg,
      .reg Reg.fchAosafe, .reg Reg.fchCtrl, .reg Reg.fchDicfg, .reg Reg.fchDocfg, .reg Reg.fchMode, .reg Reg.fchPulsecfg,
      .reg Reg.fchStopcfg, .reg Reg.grdChload, .flag Reg.canFlags 5, .flag Reg.canFlags 6, .flag Reg.cmdFlags 4,
      .flag Reg.exeFlags 2, .flag Reg.gmuFlags 2, .flag Reg.gmuFlags 4, .flag Reg.grdFlags 1, .flag Reg.grdFlags 3,
      .flag Reg.hzFlags 1, .flag Reg.hzFlags 3, .flag Reg.hzFlags 4, .flag Reg.hzFlags 5, .flag Reg.netFlags 8,
      .flag Reg.ppdFlags 0, .flag Reg.ppdFlags 2, .ctrsOf 2, .inForceOf 0xA, .inForceOf 5, .regsOf 0xA, .regsOf 5]
  | .ownLineFault => some [.unit .own, .unit .exe, .unit .hz, .unit .fch, .unit .grd, .unit .wnt, .unit .pair, .unit .spr,
      .unit .cmd, .unit .net, .unit .sbk, .unit .sup, .ctr Reg.grdSnapRef, .flag Reg.cmdFlags 4, .flag Reg.grdFlags 1,
      .flag Reg.grdFlags 3, .flag Reg.hzFlags 3, .flag Reg.hzFlags 4, .flag Reg.hzFlags 5, .flag Reg.ppdFlags 10,
      .flag Reg.ppdFlags 2]
  | .ownerLineFault => some [.unit .cmd, .unit .sbk, .flag Reg.cmdFlags 4, .flag Reg.ppdFlags 7]
  | .line .. => some [.unit .exe, .unit .hz, .unit .fch, .unit .grd, .unit .gmu, .unit .pair, .unit .net, .unit .can]
  | .hrec .. => some [.unit .exe, .unit .hz, .unit .fch, .unit .grd, .unit .gmu, .unit .pair, .unit .net, .unit .can]
  | .irec .. => some [.unit .exe, .unit .hz, .unit .fch, .unit .grd, .unit .gmu, .unit .pair, .unit .net, .unit .can]
  | .commit .. => some [.unit .exe, .unit .hz, .unit .fch, .unit .grd, .unit .gmu, .unit .pair, .unit .net, .unit .can]
  | .check .. => some [.unit .pair]
  | .nak .. => some [.unit .pair, .ctr Reg.ppdSnapReplay]
  | .align .. => some [.unit .pair]
  | .faultMessage => some [.unit .staged, .unit .own, .unit .exe, .unit .hz, .unit .fch, .unit .grd, .unit .gmu, .unit .wnt,
      .unit .pair, .unit .spr, .unit .cmd, .unit .net, .unit .can, .unit .sbk, .unit .sup, .ctr Reg.exeSnapMaxexec,
      .ctr Reg.exeSnapSkip, .ctr Reg.gmuSnapSheds, .ctr Reg.grdSnapRef, .ctr Reg.netSnapTtlate, .inForce Reg.fchAicfg,
      .inForce Reg.fchAocfg, .inForce Reg.fchAosafe, .inForce Reg.fchDicfg, .inForce Reg.fchDocfg, .inForce Reg.fchMode,
      .inForce Reg.fchPulsecfg, .inForce Reg.fchStopcfg, .inForce Reg.grdChload, .reg Reg.fchAicfg, .reg Reg.fchAocfg,
      .reg Reg.fchAosafe, .reg Reg.fchCtrl, .reg Reg.fchDicfg, .reg Reg.fchDocfg, .reg Reg.fchMode, .reg Reg.fchPulsecfg,
      .reg Reg.fchStopcfg, .reg Reg.grdChload, .flag Reg.canFlags 5, .flag Reg.canFlags 6, .flag Reg.cmdFlags 4,
      .flag Reg.exeFlags 2, .flag Reg.gmuFlags 2, .flag Reg.gmuFlags 4, .flag Reg.grdFlags 1, .flag Reg.grdFlags 3,
      .flag Reg.hzFlags 1, .flag Reg.hzFlags 3, .flag Reg.hzFlags 4, .flag Reg.hzFlags 5, .flag Reg.netFlags 8,
      .flag Reg.ppdFlags 0, .flag Reg.ppdFlags 10, .flag Reg.ppdFlags 2, .ctrsOf 2, .inForceOf 0xA, .inForceOf 5, .regsOf 0xA,
      .regsOf 5]
  | .handoverPrepare .. => some [.unit .pair]
  | .handoverMessage => some [.unit .staged, .unit .own, .unit .exe, .unit .hz, .unit .fch, .unit .grd, .unit .gmu, .unit .wnt,
      .unit .pair, .unit .spr, .unit .cmd, .unit .net, .unit .can, .unit .sbk, .unit .sup, .ctr Reg.exeSnapMaxexec,
      .ctr Reg.exeSnapRel, .ctr Reg.exeSnapSkip, .ctr Reg.gmuSnapSheds, .ctr Reg.grdSnapRef, .ctr Reg.netSnapTtlate,
      .inForce Reg.fchAicfg, .inForce Reg.fchAocfg, .inForce Reg.fchAosafe, .inForce Reg.fchDicfg, .inForce Reg.fchDocfg,
      .inForce Reg.fchMode, .inForce Reg.fchPulsecfg, .inForce Reg.fchStopcfg, .inForce Reg.grdChload, .reg Reg.fchAicfg,
      .reg Reg.fchAocfg, .reg Reg.fchAosafe, .reg Reg.fchCtrl, .reg Reg.fchDicfg, .reg Reg.fchDocfg, .reg Reg.fchMode,
      .reg Reg.fchPulsecfg, .reg Reg.fchStopcfg, .reg Reg.grdChload, .reg Reg.hzApply, .flag Reg.canFlags 5, .flag Reg.canFlags 6,
      .flag Reg.cmdFlags 4, .flag Reg.exeFlags 0, .flag Reg.exeFlags 1, .flag Reg.gmuFlags 2, .flag Reg.gmuFlags 4,
      .flag Reg.grdFlags 1, .flag Reg.grdFlags 3, .flag Reg.hzFlags 1, .flag Reg.hzFlags 2, .flag Reg.hzFlags 3,
      .flag Reg.hzFlags 4, .flag Reg.hzFlags 5, .flag Reg.hzFlags 6, .flag Reg.netFlags 8, .flag Reg.ppdFlags 0,
      .flag Reg.ppdFlags 2, .ctrsOf 2, .inForceOf 0xA, .inForceOf 5, .regsOf 0xA, .regsOf 5]
  | .yield => some [.unit .staged, .unit .own, .unit .exe, .unit .hz, .unit .fch, .unit .grd, .unit .gmu, .unit .wnt, .unit .pair,
      .unit .spr, .unit .cmd, .unit .net, .unit .can, .unit .sbk, .unit .sup, .ctr Reg.exeSnapMaxexec, .ctr Reg.exeSnapSkip,
      .ctr Reg.gmuSnapSheds, .ctr Reg.grdSnapRef, .ctr Reg.netSnapTtlate, .inForce Reg.fchAicfg, .inForce Reg.fchAocfg,
      .inForce Reg.fchAosafe, .inForce Reg.fchDicfg, .inForce Reg.fchDocfg, .inForce Reg.fchMode, .inForce Reg.fchPulsecfg,
      .inForce Reg.fchStopcfg, .inForce Reg.grdChload, .reg Reg.fchAicfg, .reg Reg.fchAocfg, .reg Reg.fchAosafe, .reg Reg.fchCtrl,
      .reg Reg.fchDicfg, .reg Reg.fchDocfg, .reg Reg.fchMode, .reg Reg.fchPulsecfg, .reg Reg.fchStopcfg, .reg Reg.grdChload,
      .flag Reg.canFlags 5, .flag Reg.canFlags 6, .flag Reg.cmdFlags 4, .flag Reg.gmuFlags 2, .flag Reg.gmuFlags 4,
      .flag Reg.grdFlags 1, .flag Reg.grdFlags 3, .flag Reg.hzFlags 1, .flag Reg.hzFlags 3, .flag Reg.hzFlags 4,
      .flag Reg.hzFlags 5, .flag Reg.netFlags 8, .flag Reg.ppdFlags 0, .flag Reg.ppdFlags 2, .ctrsOf 2, .inForceOf 0xA,
      .inForceOf 5, .regsOf 0xA, .regsOf 5]
  | .roleMessage .. => some [.unit .own, .unit .exe, .unit .hz, .unit .fch, .unit .grd, .unit .gmu, .unit .wnt, .unit .pair,
      .unit .cmd, .unit .net, .unit .can, .unit .sbk, .ctr Reg.gmuSnapSheds, .ctr Reg.grdSnapRef, .flag Reg.cmdFlags 4,
      .flag Reg.gmuFlags 4, .flag Reg.grdFlags 1, .flag Reg.grdFlags 3, .flag Reg.hzFlags 3, .flag Reg.hzFlags 4,
      .flag Reg.hzFlags 5, .flag Reg.ppdFlags 10, .flag Reg.ppdFlags 2]
  | .laneRetired .. => some [.unit .own, .unit .exe, .unit .hz, .unit .fch, .unit .grd, .unit .wnt, .unit .pair, .unit .spr,
      .unit .cmd, .unit .net, .unit .sbk, .unit .sup, .ctr Reg.grdSnapRef, .flag Reg.cmdFlags 4, .flag Reg.grdFlags 1,
      .flag Reg.grdFlags 3, .flag Reg.hzFlags 3, .flag Reg.hzFlags 4, .flag Reg.hzFlags 5, .flag Reg.ppdFlags 2,
      .flag Reg.ppdFlags 4, .flag Reg.sprFlags 2]
  | .laneSprouted .. => some [.unit .exe, .unit .grd, .unit .pair, .unit .spr, .unit .cmd, .unit .net, .unit .sbk, .unit .sup,
      .ctr Reg.sprSnapSprouts, .flag Reg.cmdFlags 4, .flag Reg.ppdFlags 5, .flag Reg.sprFlags 0]
  | .ppdRetrainRetired .. => some [.unit .pair, .unit .cmd, .unit .sbk, .unit .sup, .ctr Reg.supSnapLockv, .reg Reg.supFaultAddr,
      .reg Reg.supFaultSrc, .reg Reg.supLock, .flag Reg.cmdFlags 4, .flag Reg.supFlags 0, .flag Reg.supFlags 2]
  | .orphanRetrain => some [.unit .own, .unit .exe, .unit .hz, .unit .fch, .unit .grd, .unit .wnt, .unit .pair, .unit .cmd,
      .unit .sbk, .ctr Reg.grdSnapRef, .flag Reg.cmdFlags 4, .flag Reg.grdFlags 1, .flag Reg.grdFlags 3, .flag Reg.hzFlags 3,
      .flag Reg.hzFlags 4, .flag Reg.hzFlags 5, .flag Reg.ppdFlags 2]
  | .claim .. => some [.unit .staged, .unit .own, .unit .exe, .unit .hz, .unit .fch, .unit .grd, .unit .gmu, .unit .wnt,
      .unit .pair, .unit .spr, .unit .cmd, .unit .net, .unit .can, .unit .sbk, .unit .sup, .ctr Reg.exeSnapMaxexec,
      .ctr Reg.gmuSnapSheds, .ctr Reg.grdSnapRef, .ctr Reg.supSnapLockv, .inForce Reg.fchAicfg, .inForce Reg.fchAocfg,
      .inForce Reg.fchAosafe, .inForce Reg.fchDicfg, .inForce Reg.fchDocfg, .inForce Reg.fchMode, .inForce Reg.fchPulsecfg,
      .inForce Reg.fchStopcfg, .inForce Reg.grdChload, .reg Reg.fchAicfg, .reg Reg.fchAocfg, .reg Reg.fchAosafe, .reg Reg.fchCtrl,
      .reg Reg.fchDicfg, .reg Reg.fchDocfg, .reg Reg.fchMode, .reg Reg.fchPulsecfg, .reg Reg.fchStopcfg, .reg Reg.grdChload,
      .reg Reg.supFaultAddr, .reg Reg.supFaultSrc, .reg Reg.supLock, .flag Reg.canFlags 5, .flag Reg.canFlags 6,
      .flag Reg.cmdFlags 4, .flag Reg.exeFlags 2, .flag Reg.gmuFlags 4, .flag Reg.grdFlags 1, .flag Reg.grdFlags 3,
      .flag Reg.hzFlags 1, .flag Reg.hzFlags 3, .flag Reg.hzFlags 4, .flag Reg.hzFlags 5, .flag Reg.ppdFlags 11,
      .flag Reg.ppdFlags 2, .flag Reg.supFlags 0, .flag Reg.supFlags 2, .ctrsOf 2, .inForceOf 0xA, .inForceOf 5, .regsOf 0xA,
      .regsOf 5]
  | .goOffline .. => some [.unit .own, .unit .exe, .unit .hz, .unit .fch, .unit .grd, .unit .wnt, .unit .pair, .unit .cmd,
      .unit .sbk, .unit .sup, .ctr Reg.grdSnapRef, .ctr Reg.supSnapLockv, .reg Reg.supFaultAddr, .reg Reg.supFaultSrc,
      .reg Reg.supLock, .flag Reg.cmdFlags 4, .flag Reg.grdFlags 1, .flag Reg.grdFlags 3, .flag Reg.hzFlags 3,
      .flag Reg.hzFlags 4, .flag Reg.hzFlags 5, .flag Reg.ppdFlags 10, .flag Reg.ppdFlags 2, .flag Reg.supFlags 0,
      .flag Reg.supFlags 2]
  | .pendingLogFull => some [.unit .own, .unit .exe, .unit .hz, .unit .fch, .unit .grd, .unit .gmu, .unit .wnt, .unit .pair,
      .unit .cmd, .unit .net, .unit .can, .unit .sbk, .ctr Reg.gmuSnapSheds, .ctr Reg.grdSnapRef, .flag Reg.cmdFlags 4,
      .flag Reg.gmuFlags 4, .flag Reg.grdFlags 1, .flag Reg.grdFlags 3, .flag Reg.hzFlags 3, .flag Reg.hzFlags 4,
      .flag Reg.hzFlags 5, .flag Reg.ppdFlags 10, .flag Reg.ppdFlags 2, .flag Reg.ppdFlags 3]
  | .linkSpeedRetry => some [.unit .pair]
  | .resyncPhaseDone .. => some [.unit .staged, .unit .own, .unit .exe, .unit .hz, .unit .fch, .unit .grd, .unit .gmu, .unit .wnt,
      .unit .pair, .unit .cmd, .unit .net, .unit .can, .unit .sbk, .ctr Reg.gmuSnapSheds, .ctr Reg.grdSnapRef,
      .ctr Reg.truSnapFail, .ctr Reg.truSnapVerify, .inForce Reg.fchAicfg, .inForce Reg.fchAocfg, .inForce Reg.fchAosafe,
      .inForce Reg.fchDicfg, .inForce Reg.fchDocfg, .inForce Reg.fchMode, .inForce Reg.fchPulsecfg, .inForce Reg.fchStopcfg,
      .inForce Reg.grdChload, .reg Reg.fchAicfg, .reg Reg.fchAocfg, .reg Reg.fchAosafe, .reg Reg.fchCtrl, .reg Reg.fchDicfg,
      .reg Reg.fchDocfg, .reg Reg.fchMode, .reg Reg.fchPulsecfg, .reg Reg.fchStopcfg, .reg Reg.grdChload, .flag Reg.canFlags 5,
      .flag Reg.cmdFlags 4, .flag Reg.gmuFlags 4, .flag Reg.grdFlags 1, .flag Reg.grdFlags 3, .flag Reg.hzFlags 1,
      .flag Reg.hzFlags 3, .flag Reg.hzFlags 4, .flag Reg.hzFlags 5, .flag Reg.ppdFlags 2, .flag Reg.truFlags 0, .inForceOf 0xA,
      .inForceOf 5, .regsOf 0xA, .regsOf 5]
  | .pairSynced => some [.unit .own, .unit .exe, .unit .hz, .unit .fch, .unit .grd, .unit .wnt, .unit .pair, .unit .cmd,
      .unit .sbk, .unit .sup, .ctr Reg.grdSnapRef, .flag Reg.cmdFlags 4, .flag Reg.grdFlags 1, .flag Reg.grdFlags 3,
      .flag Reg.hzFlags 3, .flag Reg.hzFlags 4, .flag Reg.hzFlags 5, .flag Reg.ppdFlags 2, .flag Reg.ppdFlags 8]
  | .pairTimeOffset .. => some [.unit .now, .unit .exe, .unit .hz, .unit .fch, .unit .grd, .unit .gmu, .unit .pair, .unit .cmd,
      .unit .net, .unit .can, .unit .sbk, .ctr Reg.exeSnapSkip, .ctr Reg.grdSnapRef, .ctr Reg.netSnapTtlate, .flag Reg.cmdFlags 4,
      .flag Reg.exeFlags 3, .flag Reg.gmuFlags 3, .flag Reg.gmuFlags 7, .flag Reg.grdFlags 1, .flag Reg.grdFlags 3,
      .flag Reg.netFlags 7, .flag Reg.netFlags 8, .flag Reg.ppdFlags 9]
  | .handover .. => some [.unit .exe, .unit .cmd]
  | .swapCancel .. => some [.unit .pair, .unit .cmd]
  | .ownLineToggling => some [.unit .own, .unit .can]
  | _ => none

/-- What the commands of the memories, Sprout and the bring-ins (R282 to R307) may change. -/
def memoryFrame : Instr → Option (List Area)
  | .sproutStart => some [.unit .fch, .unit .grd, .unit .spr, .unit .cmd, .ctr Reg.grdSnapRef, .flag Reg.grdFlags 1,
      .flag Reg.grdFlags 3]
  | .memoryRead .. => some [.unit .own, .unit .exe, .unit .hz, .unit .fch, .unit .grd, .unit .wnt, .unit .pair, .unit .mem,
      .unit .spr, .unit .cmd, .unit .net, .unit .can, .unit .sbk, .unit .pnl, .unit .sup, .ctr Reg.grdSnapRef,
      .ctr Reg.pnlSnapRef, .flag Reg.cmdFlags 4, .flag Reg.grdFlags 1, .flag Reg.grdFlags 3, .flag Reg.hzFlags 3,
      .flag Reg.hzFlags 4, .flag Reg.hzFlags 5, .flag Reg.memFlags 0, .flag Reg.memFlags 1, .flag Reg.memFlags 3,
      .flag Reg.memFlags 5, .flag Reg.memFlags 6, .flag Reg.pnlFlags 3, .flag Reg.ppdFlags 10, .flag Reg.ppdFlags 2,
      .flag Reg.sprFlags 2, .ctrsOf 8]
  | .memoryWrite .. => some [.unit .own, .unit .exe, .unit .hz, .unit .fch, .unit .grd, .unit .wnt, .unit .pair, .unit .mem,
      .unit .spr, .unit .cmd, .unit .net, .unit .can, .unit .sbk, .unit .pnl, .unit .sup, .ctr Reg.grdSnapRef,
      .ctr Reg.pnlSnapRef, .flag Reg.cmdFlags 4, .flag Reg.grdFlags 1, .flag Reg.grdFlags 3, .flag Reg.hzFlags 3,
      .flag Reg.hzFlags 4, .flag Reg.hzFlags 5, .flag Reg.memFlags 0, .flag Reg.memFlags 1, .flag Reg.memFlags 3,
      .flag Reg.memFlags 5, .flag Reg.memFlags 6, .flag Reg.pnlFlags 3, .flag Reg.ppdFlags 10, .flag Reg.ppdFlags 2,
      .flag Reg.sprFlags 2, .ctrsOf 8]
  | .scrubStep .. => some [.unit .own, .unit .exe, .unit .hz, .unit .fch, .unit .grd, .unit .wnt, .unit .pair, .unit .mem,
      .unit .spr, .unit .cmd, .unit .net, .unit .can, .unit .sbk, .unit .pnl, .unit .sup, .ctr Reg.grdSnapRef,
      .ctr Reg.pnlSnapRef, .flag Reg.cmdFlags 4, .flag Reg.grdFlags 1, .flag Reg.grdFlags 3, .flag Reg.hzFlags 3,
      .flag Reg.hzFlags 4, .flag Reg.hzFlags 5, .flag Reg.memFlags 0, .flag Reg.memFlags 1, .flag Reg.memFlags 3,
      .flag Reg.memFlags 5, .flag Reg.memFlags 6, .flag Reg.pnlFlags 3, .flag Reg.ppdFlags 10, .flag Reg.ppdFlags 2,
      .flag Reg.sprFlags 2, .ctrsOf 8]
  | .imageScrubLap => some [.unit .mem, .unit .cmd, .unit .sbk, .flag Reg.cmdFlags 4, .flag Reg.memFlags 4]
  | .scrubLapAlarm => some [.unit .mem, .unit .cmd, .unit .sbk, .flag Reg.cmdFlags 4, .flag Reg.memFlags 4]
  | .accelPassDone .. => some [.unit .grd, .unit .mem]
  | .laneCopyStep .. => some [.unit .own, .unit .exe, .unit .hz, .unit .fch, .unit .grd, .unit .wnt, .unit .pair, .unit .mem,
      .unit .spr, .unit .cmd, .unit .net, .unit .can, .unit .sbk, .unit .pnl, .unit .sup, .ctr Reg.grdSnapRef,
      .ctr Reg.pnlSnapRef, .flag Reg.cmdFlags 4, .flag Reg.grdFlags 1, .flag Reg.grdFlags 3, .flag Reg.hzFlags 3,
      .flag Reg.hzFlags 4, .flag Reg.hzFlags 5, .flag Reg.memFlags 0, .flag Reg.memFlags 1, .flag Reg.memFlags 3,
      .flag Reg.memFlags 5, .flag Reg.memFlags 6, .flag Reg.pnlFlags 3, .flag Reg.ppdFlags 10, .flag Reg.ppdFlags 2,
      .flag Reg.sprFlags 2, .ctrsOf 8]
  | .laneCopyDone .. => some [.unit .own, .unit .exe, .unit .hz, .unit .fch, .unit .grd, .unit .wnt, .unit .pair, .unit .mem,
      .unit .spr, .unit .cmd, .unit .net, .unit .can, .unit .sbk, .unit .pnl, .unit .sup, .ctr Reg.grdSnapRef,
      .ctr Reg.pnlSnapRef, .ctr Reg.sprSnapSprouts, .flag Reg.cmdFlags 4, .flag Reg.grdFlags 1, .flag Reg.grdFlags 3,
      .flag Reg.hzFlags 3, .flag Reg.hzFlags 4, .flag Reg.hzFlags 5, .flag Reg.memFlags 2, .flag Reg.memFlags 6,
      .flag Reg.memFlags 9, .flag Reg.pnlFlags 3, .flag Reg.ppdFlags 10, .flag Reg.ppdFlags 2, .flag Reg.sprFlags 0,
      .flag Reg.sprFlags 2]
  | .hourCountTick => some [.unit .mem]
  | .mramWrite .. => some [.unit .own, .unit .exe, .unit .hz, .unit .fch, .unit .grd, .unit .wnt, .unit .pair, .unit .mem,
      .unit .spr, .unit .cmd, .unit .net, .unit .sbk, .unit .sup, .ctr Reg.grdSnapRef, .flag Reg.cmdFlags 4, .flag Reg.grdFlags 1,
      .flag Reg.grdFlags 3, .flag Reg.hzFlags 3, .flag Reg.hzFlags 4, .flag Reg.hzFlags 5, .flag Reg.memFlags 9,
      .flag Reg.ppdFlags 10, .flag Reg.ppdFlags 2, .flag Reg.sprFlags 2]
  | .mramRemap => some [.unit .own, .unit .exe, .unit .hz, .unit .fch, .unit .grd, .unit .wnt, .unit .pair, .unit .mem,
      .unit .spr, .unit .cmd, .unit .net, .unit .sbk, .unit .sup, .ctr Reg.grdSnapRef, .ctr Reg.sprSnapSprouts,
      .flag Reg.cmdFlags 4, .flag Reg.grdFlags 1, .flag Reg.grdFlags 3, .flag Reg.hzFlags 3, .flag Reg.hzFlags 4,
      .flag Reg.hzFlags 5, .flag Reg.memFlags 7, .flag Reg.memFlags 8, .flag Reg.memFlags 9, .flag Reg.ppdFlags 10,
      .flag Reg.ppdFlags 2, .flag Reg.sprFlags 0, .flag Reg.sprFlags 2]
  | .coreSelftest .. => some [.unit .own, .unit .exe, .unit .hz, .unit .fch, .unit .grd, .unit .gmu, .unit .wnt, .unit .pair,
      .unit .spr, .unit .cmd, .unit .net, .unit .sbk, .unit .sup, .ctr Reg.grdSnapRef, .flag Reg.cmdFlags 4, .flag Reg.grdFlags 1,
      .flag Reg.grdFlags 3, .flag Reg.hzFlags 3, .flag Reg.hzFlags 4, .flag Reg.hzFlags 5, .flag Reg.ppdFlags 10,
      .flag Reg.ppdFlags 2, .flag Reg.sprFlags 1, .flag Reg.sprFlags 2]
  | .coreSwapDone => some [.unit .own, .unit .exe, .unit .hz, .unit .fch, .unit .grd, .unit .wnt, .unit .pair, .unit .spr,
      .unit .cmd, .unit .net, .unit .sbk, .unit .sup, .ctr Reg.grdSnapRef, .ctr Reg.sprSnapSprouts, .flag Reg.cmdFlags 4,
      .flag Reg.grdFlags 1, .flag Reg.grdFlags 3, .flag Reg.hzFlags 3, .flag Reg.hzFlags 4, .flag Reg.hzFlags 5,
      .flag Reg.ppdFlags 10, .flag Reg.ppdFlags 2, .flag Reg.sprFlags 0, .flag Reg.sprFlags 2, .flag Reg.sprFlags 3]
  | .coreSelfReset => some [.unit .staged, .unit .snaps, .unit .now, .unit .own, .unit .exe, .unit .hz, .unit .fch, .unit .grd,
      .unit .gmu, .unit .wnt, .unit .pair, .unit .mem, .unit .spr, .unit .cmd, .unit .net, .unit .can, .unit .sbk, .unit .pnl,
      .unit .tru, .unit .sup, .anyCtr, .anyInForce, .anyReg]
  | .oscCompare .. => some [.unit .spr]
  | .oscSprouted .. => some [.unit .own, .unit .exe, .unit .hz, .unit .fch, .unit .grd, .unit .wnt, .unit .pair, .unit .spr,
      .unit .cmd, .unit .net, .unit .sbk, .unit .sup, .ctr Reg.grdSnapRef, .ctr Reg.sprSnapSprouts, .flag Reg.cmdFlags 4,
      .flag Reg.grdFlags 1, .flag Reg.grdFlags 3, .flag Reg.hzFlags 3, .flag Reg.hzFlags 4, .flag Reg.hzFlags 5,
      .flag Reg.ppdFlags 10, .flag Reg.ppdFlags 2, .flag Reg.sprFlags 0, .flag Reg.sprFlags 2, .flag Reg.sprFlags 4]
  | .cellTest .. => some [.unit .spr, .unit .cmd, .unit .sbk, .flag Reg.cmdFlags 4, .flag Reg.sprFlags 2]
  | .cellSprouted => some [.unit .exe, .unit .grd, .unit .spr, .unit .cmd, .unit .net, .unit .sbk, .unit .sup,
      .ctr Reg.sprSnapSprouts, .flag Reg.cmdFlags 4, .flag Reg.sprFlags 0, .flag Reg.sprFlags 2, .flag Reg.sprFlags 5]
  | .chSprout .. => some [.unit .spr, .unit .cmd]
  | .memlogRead .. => some [.unit .cmd]
  | .memlogClear .. => some [.unit .mem, .unit .cmd]
  | _ => none

/-- What the commands of command packets and register reads (R308 to R345) may change. -/
def packetFrame : Instr → Option (List Area)
  | .packetArrival .. => some [.unit .exe, .unit .wnt, .unit .cmd, .unit .sbk, .ctr Reg.cmdSnapRefused, .ctr Reg.cmdSnapRx,
      .flag Reg.cmdFlags 0, .flag Reg.cmdFlags 1, .flag Reg.cmdFlags 2, .flag Reg.cmdFlags 3, .flag Reg.cmdFlags 4]
  | .commandDispatch => some [.unit .cmd, .ctr Reg.cmdSnapPromote]
  | .sessionOpen .. => some [.unit .cmd, .unit .sbk, .ctr Reg.truSnapSign, .flag Reg.cmdFlags 4, .flag Reg.cmdFlags 5,
      .flag Reg.truFlags 2, .flag Reg.truFlags 5]
  | .sessionIdleTimeout .. => some [.unit .exe, .unit .wnt, .unit .cmd, .unit .sbk, .flag Reg.cmdFlags 4]
  | .serviceBreak => some [.unit .exe, .unit .wnt, .unit .cmd, .unit .sbk, .flag Reg.cmdFlags 4]
  | .sessionClose .. => some [.unit .exe, .unit .wnt, .unit .cmd, .unit .sbk, .flag Reg.cmdFlags 4]
  | .authLockoutEnd => some [.unit .cmd]
  | .notifyLost .. => some [.unit .cmd, .flag Reg.cmdFlags 4]
  | .stateRead .. => some [.unit .cmd]
  | .loadBegin .. => some [.unit .exe, .unit .cmd]
  | .loadChunk .. => some [.unit .exe, .unit .cmd]
  | .loadCommit .. => some [.unit .exe, .unit .cmd]
  | .verify .. => some [.unit .cmd]
  | .loadAbort .. => some [.unit .exe, .unit .cmd]
  | .varRead .. => some [.unit .cmd]
  | .varWrite .. => some [.unit .exe, .unit .cmd]
  | .forceList .. => some [.unit .cmd]
  | .regRead .. => some [.unit .free, .unit .fch, .unit .grd, .unit .cmd, .unit .net, .flag Reg.fchFlags 1, .anyReg]
  | .snapshot _ window => some [.unit .snaps, .unit .cmd, .regsOf window.toNat]
  | .chRead .. => some [.unit .cmd]
  | .grpRead .. => some [.unit .cmd]
  | .loopRead .. => some [.unit .cmd]
  | .gmuSubscribe .. => some [.unit .cmd]
  | .harmRead .. => some [.unit .cmd]
  | .gridEvents .. => some [.unit .cmd]
  | .safeRead .. => some [.unit .cmd]
  | .panelStatus .. => some [.unit .cmd]
  | .authChallenge .. => some [.unit .cmd, .flag Reg.cmdFlags 2]
  | .authResponse .. => some [.unit .exe, .unit .wnt, .unit .cmd, .unit .sbk, .unit .tru, .ctr Reg.truSnapFail,
      .ctr Reg.truSnapSign, .ctr Reg.truSnapVerify, .flag Reg.cmdFlags 1, .flag Reg.cmdFlags 2, .flag Reg.cmdFlags 4,
      .flag Reg.truFlags 2, .flag Reg.truFlags 3, .flag Reg.truFlags 5]
  | .timeRead .. => some [.unit .cmd]
  | .canStatus .. => some [.unit .cmd]
  | .echo .. => some [.unit .cmd]
  | .sproutRead .. => some [.unit .cmd]
  | .sessions .. => some [.unit .cmd]
  | .stagedApply .. => some [.unit .staged, .unit .exe, .unit .fch, .unit .grd, .unit .gmu, .unit .spr, .unit .cmd, .unit .net,
      .unit .can, .unit .sbk, .unit .pnl, .unit .sup, .ctr Reg.grdSnapRef, .ctr Reg.pnlSnapRef, .reg Reg.canApply,
      .reg Reg.fchApply, .reg Reg.gmuApply, .reg Reg.grdApply, .reg Reg.netApply, .reg Reg.pnlApply, .flag Reg.canFlags 5,
      .flag Reg.cmdFlags 4, .flag Reg.fchFlags 5, .flag Reg.gmuFlags 8, .flag Reg.grdFlags 1, .flag Reg.grdFlags 3,
      .flag Reg.grdFlags 4, .flag Reg.memFlags 6, .flag Reg.netFlags 0, .flag Reg.netFlags 1, .flag Reg.netFlags 10,
      .flag Reg.netFlags 5, .flag Reg.pnlFlags 3, .flag Reg.pnlFlags 5, .inForceOf 0xA, .inForceOf 0xC, .inForceOf 3,
      .inForceOf 4, .inForceOf 5, .inForceOf 9]
  | .lockKeyTimeout => some [.unit .cmd, .unit .sbk, .unit .sup, .reg Reg.supLock, .flag Reg.cmdFlags 4, .flag Reg.supFlags 2]
  | _ => none

/-- What the commands of the plant network and time (R346 to R370) may change. -/
def networkFrame : Instr → Option (List Area)
  | .timeMessage .. => some [.unit .net]
  | .timeAcceptJump .. => some [.unit .cmd, .unit .net]
  | .timeNsecRead => some [.unit .free, .unit .fch, .unit .grd, .unit .net, .flag Reg.fchFlags 1, .anyReg]
  | .linkChange .. => some [.unit .cmd, .unit .net, .unit .sbk, .flag Reg.cmdFlags 4, .flag Reg.netFlags 0, .flag Reg.netFlags 1,
      .flag Reg.netFlags 5]
  | .frameReceive .. => some [.unit .net, .ctr Reg.netSnapStorm, .flag Reg.netFlags 9]
  | .prpSupervisionSend => some [.unit .net]
  | .prpLanFail .. => some [.unit .cmd, .unit .net, .unit .sbk, .flag Reg.cmdFlags 4, .flag Reg.netFlags 1, .flag Reg.netFlags 5]
  | .prpLanOk .. => some [.unit .cmd, .unit .net, .unit .sbk, .flag Reg.cmdFlags 4]
  | .beaconSend .. => some [.unit .net, .ctr Reg.truSnapSign]
  | .beaconReceive .. => some [.unit .cmd, .unit .net, .unit .sbk, .ctr Reg.netSnapBeaconrej, .ctr Reg.truSnapFail,
      .ctr Reg.truSnapVerify, .flag Reg.cmdFlags 4, .flag Reg.netFlags 2, .flag Reg.netFlags 3]
  | .beaconHoldExpiry .. => some [.unit .net, .ctr Reg.netSnapBeaconrej, .flag Reg.netFlags 2]
  | .discoveryRecordExpiry .. => some [.unit .net]
  | .ptpMessage .. => some [.unit .free, .unit .net, .ctr Reg.netSnapPtpign]
  | .ptpMessageSend .. => some [.unit .net]
  | .announceTimeout .. => some [.unit .net, .flag Reg.netFlags 5]
  | .servoUpdate => some [.unit .free, .unit .now, .unit .exe, .unit .hz, .unit .fch, .unit .grd, .unit .gmu, .unit .pair,
      .unit .cmd, .unit .net, .unit .can, .unit .sbk, .ctr Reg.exeSnapSkip, .ctr Reg.grdSnapRef, .ctr Reg.netSnapTtlate,
      .flag Reg.cmdFlags 4, .flag Reg.exeFlags 3, .flag Reg.gmuFlags 3, .flag Reg.gmuFlags 7, .flag Reg.grdFlags 1,
      .flag Reg.grdFlags 3, .flag Reg.netFlags 4, .flag Reg.netFlags 5, .flag Reg.netFlags 6, .flag Reg.netFlags 7,
      .flag Reg.netFlags 8]
  | .timeStepApply => some [.unit .now, .unit .exe, .unit .hz, .unit .fch, .unit .grd, .unit .gmu, .unit .cmd, .unit .net,
      .unit .can, .unit .sbk, .ctr Reg.exeSnapSkip, .ctr Reg.grdSnapRef, .ctr Reg.netSnapTtlate, .flag Reg.cmdFlags 4,
      .flag Reg.exeFlags 3, .flag Reg.gmuFlags 3, .flag Reg.gmuFlags 7, .flag Reg.grdFlags 1, .flag Reg.grdFlags 3,
      .flag Reg.netFlags 7, .flag Reg.netFlags 8]
  | .holdoverExpiry => some [.unit .net]
  | .timeSave => some [.unit .exe, .unit .grd, .unit .spr, .unit .net, .unit .sup]
  | .ttLaunch .. => some [.unit .cmd, .unit .net, .unit .sbk, .ctr Reg.netSnapTtlate, .flag Reg.cmdFlags 4, .flag Reg.netFlags 8]
  | _ => none

/-- What the commands of the CAN ports, Seedbank, the panel and the trust element (R371 to R438) may change. -/
def portFrame : Instr → Option (List Area)
  | .sbkRead .. => some [.unit .cmd]
  | .sbkSnapshot .. => some [.unit .exe, .unit .grd, .unit .spr, .unit .cmd, .unit .net, .unit .sbk, .unit .sup,
      .flag Reg.cmdFlags 4]
  | .sbkRelease .. => some [.unit .cmd, .unit .sbk]
  | .sbkSubscribe .. => some [.unit .cmd]
  | .panelUpdate .. => some [.unit .exe, .unit .fch, .unit .grd, .unit .spr, .unit .cmd, .unit .net, .unit .can, .unit .sbk,
      .unit .pnl, .unit .sup, .ctr Reg.grdSnapRef, .ctr Reg.pnlSnapRef, .flag Reg.grdFlags 1, .flag Reg.grdFlags 3,
      .flag Reg.memFlags 6, .flag Reg.pnlFlags 1, .flag Reg.pnlFlags 2, .flag Reg.pnlFlags 3, .flag Reg.pnlFlags 6]
  | .panelScreen .. => some [.unit .exe, .unit .fch, .unit .grd, .unit .spr, .unit .cmd, .unit .net, .unit .can, .unit .sbk,
      .unit .pnl, .unit .sup, .ctr Reg.grdSnapRef, .ctr Reg.pnlSnapRef, .flag Reg.grdFlags 1, .flag Reg.grdFlags 3,
      .flag Reg.memFlags 6, .flag Reg.pnlFlags 1, .flag Reg.pnlFlags 2, .flag Reg.pnlFlags 3, .flag Reg.pnlFlags 6]
  | .certRead .. => some [.unit .cmd]
  | .csrMake .. => some [.unit .exe, .unit .wnt, .unit .cmd, .unit .sbk, .unit .tru, .ctr Reg.truSnapFail, .ctr Reg.truSnapSign,
      .ctr Reg.truSnapVerify, .flag Reg.cmdFlags 1, .flag Reg.cmdFlags 2, .flag Reg.cmdFlags 4, .flag Reg.truFlags 2,
      .flag Reg.truFlags 3, .flag Reg.truFlags 5]
  | .certInstall .. => some [.unit .exe, .unit .wnt, .unit .cmd, .unit .sbk, .unit .tru, .ctr Reg.truSnapFail,
      .ctr Reg.truSnapSign, .ctr Reg.truSnapVerify, .flag Reg.cmdFlags 1, .flag Reg.cmdFlags 2, .flag Reg.cmdFlags 4,
      .flag Reg.truFlags 2, .flag Reg.truFlags 3, .flag Reg.truFlags 5]
  | .certRemove .. => some [.unit .exe, .unit .wnt, .unit .cmd, .unit .sbk, .unit .tru, .ctr Reg.truSnapFail,
      .ctr Reg.truSnapSign, .ctr Reg.truSnapVerify, .flag Reg.cmdFlags 1, .flag Reg.cmdFlags 2, .flag Reg.cmdFlags 4,
      .flag Reg.truFlags 2, .flag Reg.truFlags 3, .flag Reg.truFlags 5]
  | .credentialOpStart => some [.unit .exe, .unit .wnt, .unit .cmd, .unit .sbk, .unit .tru, .ctr Reg.truSnapFail,
      .ctr Reg.truSnapSign, .ctr Reg.truSnapVerify, .flag Reg.cmdFlags 1, .flag Reg.cmdFlags 2, .flag Reg.cmdFlags 4,
      .flag Reg.truFlags 2, .flag Reg.truFlags 3, .flag Reg.truFlags 5]
  | .commissionProofExpiry => some [.unit .cmd, .unit .sbk, .unit .tru, .flag Reg.cmdFlags 4, .flag Reg.truFlags 3]
  | .canRecover .. => some [.unit .cmd, .unit .can]
  | .canSend .. => some [.unit .cmd, .unit .can]
  | .canFrameRx .. => some [.unit .free, .unit .exe, .unit .cmd, .unit .can, .unit .sbk, .ctr Reg.canSnapErr, .ctr Reg.canSnapOvr,
      .ctr Reg.canSnapRx, .flag Reg.canFlags 0, .flag Reg.canFlags 1, .flag Reg.canFlags 4, .flag Reg.canFlags 7,
      .flag Reg.canFlags 9, .flag Reg.cmdFlags 4]
  | .canFrameTxEnd .. => some [.unit .cmd, .unit .can, .unit .sbk, .ctr Reg.canSnapErr, .ctr Reg.canSnapTx, .flag Reg.canFlags 0,
      .flag Reg.canFlags 1, .flag Reg.canFlags 3, .flag Reg.canFlags 9, .flag Reg.cmdFlags 4]
  | .canCyclicQueue .. => some [.unit .can]
  | .canRecovered .. => some [.unit .cmd, .unit .can, .unit .sbk, .flag Reg.canFlags 2, .flag Reg.cmdFlags 4]
  | .canTxAbort .. => some [.unit .cmd, .unit .can, .unit .sbk, .unit .sup, .ctr Reg.supSnapLockv, .reg Reg.supFaultAddr,
      .reg Reg.supFaultSrc, .reg Reg.supLock, .flag Reg.cmdFlags 4, .flag Reg.supFlags 0, .flag Reg.supFlags 2]
  | .canRxfPop .. => some [.unit .cmd, .unit .can, .unit .sbk, .unit .sup, .ctr Reg.supSnapLockv, .reg Reg.supFaultAddr,
      .reg Reg.supFaultSrc, .reg Reg.supLock, .flag Reg.cmdFlags 4, .flag Reg.supFlags 0, .flag Reg.supFlags 2]
  | .canCtrlRecover .. => some [.unit .cmd, .unit .can, .unit .sbk, .unit .sup, .ctr Reg.supSnapLockv, .reg Reg.supFaultAddr,
      .reg Reg.supFaultSrc, .reg Reg.supLock, .flag Reg.cmdFlags 4, .flag Reg.supFlags 0, .flag Reg.supFlags 2]
  | .canRefDue .. => some [.unit .can]
  | .canTimeMaster .. => some [.unit .cmd, .unit .can, .unit .sbk, .flag Reg.canFlags 6, .flag Reg.cmdFlags 4]
  | .canTimeLost .. => some [.unit .cmd, .unit .net, .unit .can, .unit .sbk, .flag Reg.canFlags 8, .flag Reg.cmdFlags 4,
      .flag Reg.netFlags 5]
  | .eventPost .. => some [.unit .cmd, .unit .sbk, .flag Reg.cmdFlags 4]
  | .sbkFlush => some [.unit .exe, .unit .grd, .unit .spr, .unit .cmd, .unit .net, .unit .sbk, .unit .sup, .flag Reg.cmdFlags 4]
  | .sbkFlushDone .. => some [.unit .grd, .unit .cmd, .unit .sbk, .flag Reg.cmdFlags 4]
  | .sbkRateSummary .. => some [.unit .cmd, .unit .sbk, .flag Reg.cmdFlags 4]
  | .sbkSnapshotExpired => some [.unit .cmd, .unit .sbk, .flag Reg.cmdFlags 4]
  | .panelFrame => some [.unit .exe, .unit .fch, .unit .grd, .unit .spr, .unit .cmd, .unit .net, .unit .can, .unit .sbk,
      .unit .pnl, .unit .sup, .ctr Reg.grdSnapRef, .ctr Reg.pnlSnapRef, .ctr Reg.pnlSnapUpd, .flag Reg.grdFlags 1,
      .flag Reg.grdFlags 3, .flag Reg.memFlags 6, .flag Reg.pnlFlags 2, .flag Reg.pnlFlags 3, .flag Reg.pnlFlags 6]
  | .panelTempMeasure .. => some [.unit .exe, .unit .fch, .unit .grd, .unit .spr, .unit .cmd, .unit .net, .unit .can, .unit .sbk,
      .unit .pnl, .unit .sup, .ctr Reg.grdSnapRef, .ctr Reg.pnlSnapRef, .flag Reg.grdFlags 1, .flag Reg.grdFlags 3,
      .flag Reg.memFlags 6, .flag Reg.pnlFlags 3, .flag Reg.pnlFlags 6]
  | .crackMeasure .. => some [.unit .grd, .unit .cmd, .unit .sbk, .unit .pnl, .ctr Reg.pnlSnapRef, .flag Reg.cmdFlags 4,
      .flag Reg.pnlFlags 0]
  | .panelRecordWritten .. => some [.unit .pnl]
  | .panelDischargeDone => some [.unit .pnl]
  | .panelRedraw => some [.unit .exe, .unit .fch, .unit .grd, .unit .spr, .unit .cmd, .unit .net, .unit .can, .unit .sbk,
      .unit .pnl, .unit .sup, .ctr Reg.grdSnapRef, .ctr Reg.pnlSnapRef, .flag Reg.grdFlags 1, .flag Reg.grdFlags 3,
      .flag Reg.memFlags 6, .flag Reg.pnlFlags 3, .flag Reg.pnlFlags 4]
  | .screen0Redraw .. => some [.unit .exe, .unit .fch, .unit .grd, .unit .spr, .unit .cmd, .unit .net, .unit .can, .unit .sbk,
      .unit .pnl, .unit .sup, .ctr Reg.grdSnapRef, .ctr Reg.pnlSnapRef, .flag Reg.grdFlags 1, .flag Reg.grdFlags 3,
      .flag Reg.memFlags 6, .flag Reg.pnlFlags 2, .flag Reg.pnlFlags 3, .flag Reg.pnlFlags 6]
  | .arbAdvance => some [.unit .cmd, .unit .sbk, .unit .tru, .flag Reg.cmdFlags 4, .flag Reg.truFlags 4]
  | .canErrorFrame .. => some [.unit .cmd, .unit .can, .unit .sbk, .ctr Reg.canSnapErr, .flag Reg.canFlags 0,
      .flag Reg.canFlags 1, .flag Reg.canFlags 10, .flag Reg.canFlags 9, .flag Reg.cmdFlags 4]
  | _ => none

/-- What the commands of reset, boot and supervision (R439 to R458) may change. -/
def supervisionFrame : Instr → Option (List Area)
  | .supResetModule .. => some [.unit .own, .unit .exe, .unit .hz, .unit .fch, .unit .grd, .unit .wnt, .unit .pair, .unit .cmd,
      .unit .sbk, .unit .sup, .ctr Reg.grdSnapRef, .ctr Reg.supSnapLockv, .reg Reg.supFaultAddr, .reg Reg.supFaultSrc,
      .reg Reg.supLock, .flag Reg.cmdFlags 4, .flag Reg.grdFlags 1, .flag Reg.grdFlags 3, .flag Reg.hzFlags 3,
      .flag Reg.hzFlags 4, .flag Reg.hzFlags 5, .flag Reg.ppdFlags 10, .flag Reg.ppdFlags 2, .flag Reg.supFlags 0,
      .flag Reg.supFlags 2]
  | .supResetIsland .. => some [.unit .staged, .unit .snaps, .unit .own, .unit .exe, .unit .fch, .unit .grd, .unit .spr,
      .unit .cmd, .unit .net, .unit .can, .unit .sbk, .unit .pnl, .unit .sup, .ctr Reg.grdSnapRef, .ctr Reg.supSnapIslrst,
      .ctr Reg.supSnapLockv, .reg Reg.supFaultAddr, .reg Reg.supFaultSrc, .reg Reg.supLock, .flag Reg.canFlags 5,
      .flag Reg.cmdFlags 4, .flag Reg.grdFlags 1, .flag Reg.grdFlags 3, .flag Reg.memFlags 6, .flag Reg.pnlFlags 3,
      .flag Reg.supFlags 0, .flag Reg.supFlags 2, .flag Reg.supPflags 4, .ctrsOf 0xA, .ctrsOf 0xC, .inForceOf 0xA, .inForceOf 0xC,
      .regsOf 0xA, .regsOf 0xC]
  | .softResetTake => some [.unit .staged, .unit .snaps, .unit .now, .unit .own, .unit .exe, .unit .hz, .unit .fch, .unit .grd,
      .unit .gmu, .unit .wnt, .unit .pair, .unit .mem, .unit .spr, .unit .cmd, .unit .net, .unit .can, .unit .sbk, .unit .pnl,
      .unit .tru, .unit .sup, .anyCtr, .anyInForce, .anyReg]
  | .optCommit .. => some [.unit .exe, .unit .grd, .unit .spr, .unit .cmd, .unit .net, .unit .sbk, .unit .sup,
      .ctr Reg.supSnapLockv, .reg Reg.supFaultAddr, .reg Reg.supFaultSrc, .reg Reg.supLock, .flag Reg.cmdFlags 4,
      .flag Reg.supFlags 0, .flag Reg.supFlags 2]
  | .optDiscard .. => some [.unit .cmd, .unit .sbk, .unit .sup, .ctr Reg.supSnapLockv, .reg Reg.supFaultAddr,
      .reg Reg.supFaultSrc, .reg Reg.supLock, .flag Reg.cmdFlags 4, .flag Reg.supFlags 0, .flag Reg.supFlags 2]
  | .powerOn => some [.unit .staged, .unit .snaps, .unit .now, .unit .own, .unit .exe, .unit .hz, .unit .fch, .unit .grd,
      .unit .gmu, .unit .wnt, .unit .pair, .unit .mem, .unit .spr, .unit .cmd, .unit .net, .unit .can, .unit .sbk, .unit .pnl,
      .unit .tru, .unit .sup, .anyCtr, .anyInForce, .anyReg]
  | .resetN => some [.unit .staged, .unit .snaps, .unit .now, .unit .own, .unit .exe, .unit .hz, .unit .fch, .unit .grd,
      .unit .gmu, .unit .wnt, .unit .pair, .unit .mem, .unit .spr, .unit .cmd, .unit .net, .unit .can, .unit .sbk, .unit .pnl,
      .unit .tru, .unit .sup, .anyCtr, .anyInForce, .anyReg]
  | .watchdog => some [.unit .own, .unit .exe, .unit .hz, .unit .fch, .unit .grd, .unit .wnt, .unit .pair, .unit .spr, .unit .cmd,
      .unit .net, .unit .sbk, .unit .sup, .ctr Reg.grdSnapRef, .flag Reg.cmdFlags 4, .flag Reg.grdFlags 1, .flag Reg.grdFlags 3,
      .flag Reg.hzFlags 3, .flag Reg.hzFlags 4, .flag Reg.hzFlags 5, .flag Reg.ppdFlags 10, .flag Reg.ppdFlags 2]
  | .bringUp .. => some [.unit .staged, .unit .own, .unit .exe, .unit .hz, .unit .fch, .unit .grd, .unit .gmu, .unit .wnt,
      .unit .pair, .unit .spr, .unit .cmd, .unit .net, .unit .can, .unit .sbk, .unit .pnl, .unit .tru, .unit .sup,
      .ctr Reg.gmuSnapSheds, .ctr Reg.grdSnapRef, .ctr Reg.pnlSnapRef, .ctr Reg.sprSnapSprouts, .ctr Reg.truSnapFail,
      .ctr Reg.truSnapVerify, .inForce Reg.fchAicfg, .inForce Reg.fchAocfg, .inForce Reg.fchAosafe, .inForce Reg.fchDicfg,
      .inForce Reg.fchDocfg, .inForce Reg.fchMode, .inForce Reg.fchPulsecfg, .inForce Reg.fchStopcfg, .inForce Reg.grdChload,
      .reg Reg.cmdCfg, .reg Reg.fchAicfg, .reg Reg.fchAocfg, .reg Reg.fchAosafe, .reg Reg.fchCtrl, .reg Reg.fchDicfg,
      .reg Reg.fchDocfg, .reg Reg.fchMode, .reg Reg.fchPulsecfg, .reg Reg.fchStopcfg, .reg Reg.grdChload, .reg Reg.supLock,
      .reg Reg.supWdog, .flag Reg.canFlags 5, .flag Reg.cmdFlags 4, .flag Reg.gmuFlags 4, .flag Reg.grdFlags 1,
      .flag Reg.grdFlags 3, .flag Reg.hzFlags 1, .flag Reg.memFlags 6, .flag Reg.pnlFlags 3, .flag Reg.sprFlags 0,
      .flag Reg.sprFlags 3, .flag Reg.supPflags 5, .flag Reg.supPflags 6, .flag Reg.truFlags 0, .flag Reg.truFlags 1,
      .inForceOf 0xA, .inForceOf 5, .regsOf 0xA, .regsOf 5]
  | .holdupReady => some [.unit .staged, .unit .own, .unit .exe, .unit .fch, .unit .grd, .unit .pair, .unit .spr, .unit .cmd,
      .unit .net, .unit .can, .unit .sbk, .unit .pnl, .unit .sup, .ctr Reg.grdSnapRef, .ctr Reg.pnlSnapRef, .reg Reg.canApply,
      .flag Reg.canFlags 5, .flag Reg.cmdFlags 4, .flag Reg.grdFlags 1, .flag Reg.grdFlags 3, .flag Reg.memFlags 6,
      .flag Reg.pnlFlags 3, .inForceOf 0xA]
  | .resetStorm => some [.unit .own, .unit .pair, .unit .sup]
  | .stormRetry => some [.unit .staged, .unit .snaps, .unit .now, .unit .own, .unit .exe, .unit .hz, .unit .fch, .unit .grd,
      .unit .gmu, .unit .wnt, .unit .pair, .unit .mem, .unit .spr, .unit .cmd, .unit .net, .unit .can, .unit .sbk, .unit .pnl,
      .unit .tru, .unit .sup, .anyCtr, .anyInForce, .anyReg]
  | .clkFallback => some [.unit .sup, .flag Reg.supPflags 7]
  | .huskWatchdog .. => some [.unit .staged, .unit .snaps, .unit .own, .unit .exe, .unit .fch, .unit .grd, .unit .spr, .unit .cmd,
      .unit .net, .unit .can, .unit .sbk, .unit .pnl, .unit .sup, .ctr Reg.grdSnapRef, .ctr Reg.supSnapIslrst,
      .flag Reg.canFlags 5, .flag Reg.cmdFlags 4, .flag Reg.grdFlags 1, .flag Reg.grdFlags 3, .flag Reg.memFlags 6,
      .flag Reg.pnlFlags 3, .flag Reg.supPflags 4, .ctrsOf 0xA, .ctrsOf 0xC, .inForceOf 0xA, .inForceOf 0xC, .regsOf 0xA,
      .regsOf 0xC]
  | .islandResetDone .. => some [.unit .own, .unit .pnl, .unit .sup]
  | .supplySample .. => some [.unit .cmd, .unit .sbk, .unit .sup, .ctr Reg.supSnapDips, .flag Reg.cmdFlags 4,
      .flag Reg.supPflags 0, .flag Reg.supPflags 1, .flag Reg.supPflags 2]
  | .powerFailWarning => some [.unit .own, .unit .exe, .unit .hz, .unit .fch, .unit .grd, .unit .wnt, .unit .pair, .unit .spr,
      .unit .cmd, .unit .net, .unit .sbk, .unit .sup, .ctr Reg.grdSnapRef, .flag Reg.cmdFlags 4, .flag Reg.grdFlags 1,
      .flag Reg.grdFlags 3, .flag Reg.hzFlags 3, .flag Reg.hzFlags 4, .flag Reg.hzFlags 5, .flag Reg.ppdFlags 10,
      .flag Reg.ppdFlags 2, .flag Reg.supPflags 3]
  | .powerFailHold => some [.unit .own, .unit .exe, .unit .hz, .unit .fch, .unit .grd, .unit .wnt, .unit .pair, .unit .cmd,
      .unit .sbk, .unit .sup, .ctr Reg.grdSnapRef, .flag Reg.cmdFlags 4, .flag Reg.grdFlags 1, .flag Reg.grdFlags 3,
      .flag Reg.hzFlags 3, .flag Reg.hzFlags 4, .flag Reg.hzFlags 5, .flag Reg.ppdFlags 2]
  | .powerFail => some [.unit .staged, .unit .snaps, .unit .now, .unit .own, .unit .exe, .unit .hz, .unit .fch, .unit .grd,
      .unit .gmu, .unit .wnt, .unit .pair, .unit .mem, .unit .spr, .unit .cmd, .unit .net, .unit .can, .unit .sbk, .unit .pnl,
      .unit .tru, .unit .sup, .anyCtr, .anyInForce, .anyReg]
  | .resetNRelease => some [.unit .sup]
  | .firmwareIdlePoint => some [.unit .sup]
  | .holdupFull => some [.unit .sup]
  | .retentionEnd => some [.unit .sbk, .unit .sup]
  | _ => none

/-- Every command that the table names changes only what it says. -/
def keepsFrame (frame : Instr → Option (List Area)) : Prop :=
  ∀ i w, frame i = some w → ∀ s t, exec i s = .next t → changesOnly w s t

end Sys2Proof
end

