-- ==== Sys2Proof/Certificates/Slice0/Obligations.lean ====
section
/-! DEFINITION. Certificates/Slice0/Obligations.lean: the statements for the provers, family by family. Each says what a command does
to a state that meets its premises, and that the command then answers a next state. -/
namespace Sys2Proof
open Sys2Proof.Machine

/-- The packets that only a module in ACTIVE or ALONE executes (R311, Table CMD-5). -/
def ownerRow : Instr → Bool
  | .start .. => true
  | .stop .. => true
  | .warm .. => true
  | .cold .. => true
  | .handover .. => true
  | .varWrite .. => true
  | .forceSet .. => true
  | .forceClear .. => true
  | .forceClearAll .. => true
  | .chClearFault .. => true
  | .chSprout .. => true
  | .chFailsig .. => true
  | .loopMode .. => true
  | .loopSp .. => true
  | .loopMv .. => true
  | .loopParam .. => true
  | .injectStart .. => true
  | .injectStop .. => true
  | .capArm .. => true
  | .capTrigger .. => true
  | .capDisarm .. => true
  | .gmuSubscribe .. => true
  | .syncArm .. => true
  | .syncDisarm .. => true
  | .shedRelease .. => true
  | .trigArm .. => true
  | .timeAcceptJump .. => true
  | .canRecover .. => true
  | .canSend .. => true
  | _ => false

/-- A read finds nothing to correct: the cells have not changed, the address lines are good, and the codeword decodes clean. -/
def readsClean (s : State) (u : MemUpset) (idx : Nat) : Prop :=
  u.flips = [] ∧ u.wrong = none ∧ decodeWord s idx (memWord s idx) = .clean

/-- The bytes of a write that fall into codeword `idx` in place of its old ones (R287). -/
def mergedBytes (addr : Nat) (data : List Byte) (idx : Nat) (old : List Nat) : List Nat :=
  old.zipIdx.map (fun p => if addr ≤ 16 * idx + p.2 ∧ 16 * idx + p.2 < addr + data.length then (data.getD (16 * idx + p.2 - addr) 0).toNat
    else p.1)

/-- Codeword `i` of the mapped areas of MRAM is one that a write at `addr` reaches (Table MEM-6). -/
def mramReached (addr : Nat) (data : List Byte) (i : Nat) : Prop :=
  data ≠ [] ∧ addr / 16 ≤ i ∧ i ≤ (addr + data.length - 1) / 16 ∧ i < mramMapped / 16
/-- A packet whose mark, version and LENGTH let its extent be known. -/
def framed (p : List Byte) : Prop :=
  (headerOf p).mark = 0x5A1B ∧ (headerOf p).version = 1 ∧ (headerOf p).length ≤ 65520

/-- Between `s` and `t` one packet was queued: the refusal of a packet with this header on a session, with code and WHERE (R311). -/
def refusedPacket (s t : State) (slot : Nat) (h : Header) (code : Code) (wh : Nat) : Prop :=
  ∃ r : Reply, repliesOf t.cmd (refusalQueue h) = repliesOf s.cmd (refusalQueue h) ++ [r] ∧ r.session = slot ∧ r.tag = h.tag
    ∧ r.opcode = h.opcode ∧ r.code = code ∧ r.whereField = wh ∧ r.final = true

/-- The session of a slot is closed: of its packets only those that have started are left, marked so that they answer nothing, none waits in a
notification queue, and nothing it began is held for it. -/
def sessionGone (t : State) (slot : Nat) : Prop :=
  sessionOf t.cmd slot = none ∧ (∀ x ∈ t.cmd.executing, x.session = slot → x.closed = true)
    ∧ (∀ q, ∀ p ∈ queueOf t.cmd q, p.session = slot → ∃ x ∈ t.cmd.executing, x.queue = q ∧ x.session = slot ∧ x.tag = p.tag) ∧ (∀ q, ∀ r ∈ repliesOf t.cmd q, r.session ≠ slot)
    ∧ (∀ x ∈ t.cmd.subs, x.session ≠ slot) ∧ (∀ p, t.wnt.pendingSet = some p → p.session ≠ slot)
    ∧ (∀ l, t.exe.load = some l → l.session = slot → l.checking = true)
/-- A register with RW and RO fields only, whose write stores its RW fields and does nothing else (Table REG-2). -/
def ordinary (sp : RegSpec) : Prop :=
  sp.staged = false ∧ sp.w1c = 0 ∧ sp.wo = 0 ∧ sp.addr / 65536 ≠ 6 ∧ sp.addr ≠ Reg.supLock ∧ sp.addr ≠ Reg.supLockKey
    ∧ sp.addr ≠ Reg.supReset ∧ isIdxAddr sp.addr = false ∧ isIdxData sp.addr = false ∧ isSnap sp.addr = false

/-- The register at `a`, instance `i`, after an ordinary write of `v`. -/
def storedWord (s : State) (sp : RegSpec) (i : Nat) (v : Word) : Word := underMask (reg s sp.addr i) v (word sp.rw)

/-- What a locked write may change (R343, R344). -/
def lockedAreas : List Area :=
  [.flag Reg.supFlags 0, .ctr Reg.supSnapLockv, .reg Reg.supFaultAddr, .reg Reg.supFaultSrc, .unit .sbk, .unit .cmd, .flag Reg.cmdFlags 4]

/-- A reading of a register that does nothing besides (R338, R370). -/
def plainRead (a : Nat) : Prop := isIdxData a = false ∧ a ≠ Reg.timeNsec

/-- A row that resets the module (R439 to R443, R447). -/
def resetRow : Instr → Bool
  | .powerOn => true | .powerFail => true | .resetN => true | .softResetTake => true | .coreSelfReset => true | .stormRetry => true
  | _ => false

/-- The holding registers of window `w` show the counters as they stand, SNAP.GEN is one higher modulo 65,536, and no count and no
other window's holding register changed between `s` and `t`. -/
def snapped (s t : State) (w a : Nat) : Prop :=
  (∀ b i, b / 65536 = w → heldCounter t b i = if w = 0xB then storeGet (fun _ => 0) t.sbk.ctrs (rkey b i) else counter t b i)
    ∧ regField t a 0 31 16 = (regField s a 0 31 16 + 1) % 65536 ∧ t.ctrs = s.ctrs ∧ t.sbk.ctrs = s.sbk.ctrs
    ∧ ∀ b i, b / 65536 ≠ w → heldCounter t b i = heldCounter s b i
/-- A frame that was handed to a port is out, or waits there to keep clear of a launch (R367). -/
def handed (t : State) (q : Nat) (f : NetSent) : Prop := f ∈ t.net.out ∨ f ∈ (netPort t q).waiting

/-- Nothing waits on a port, and it has no launch to keep clear. -/
def portFree (s : State) (q : Nat) : Prop := (netPort s q).waiting = [] ∧ nextLaunch s q = none

/-- The frames of a scheduled launch: on the PRP pair one on each LAN, with one trailer (R367). -/
def launchFrames (s : State) (p i : Nat) (initial : List Byte) (trailer : Option Nat) : List NetSent :=
  (lansOf p).map (fun q => .launch q i trailer (launchFrame s p i (launchSource s p i initial)))
/-- A frame waits on a port, on the list or in a buffer; its error-state indicator is set as it goes out (R371). -/
def canWaits (t : State) (p : Nat) (src : TxSource) (f : CanFrame) : Prop :=
  ∃ e : TxEntry, e.src = src ∧ { e.frame with esi := f.esi } = f ∧ (e ∈ (canPort t p).list ∨ ∃ b < 3, (txb (canPort t p) b).entry = some e)

/-- A port receives: it is enabled with its claim granted, integrated, and not off the bus while it drives it (R371, R379, R388, R391). -/
def canReceives (s : State) (p : Nat) : Prop :=
  canOpmode s p ≠ 0 ∧ canOpmode s p ≠ 3 ∧ (canOpmode s p = 2 → (canPort s p).errState < 2) ∧ (canPort s p).integrating ≤ s.now
/-- Between `s` and `t` the first packet queued on the notification queue of the command `c` was its reply with this opcode, code and
WHERE, final or not; outcomes of other commands may follow it (R309, R416). -/
def firstReplied (s t : State) (c : Ctx) (op : Nat) (code : Code) (wh : Nat) (final : Bool) : Prop :=
  ∃ (r : Reply) (rest : List Reply), repliesOf t.cmd c.queue.val = repliesOf s.cmd c.queue.val ++ r :: rest ∧ r.session = c.session.val
    ∧ r.tag = c.tag.toNat ∧ r.opcode = op ∧ r.code = code ∧ r.whereField = wh ∧ r.final = final

/-- Gourd takes every C3 claim that the panel may ask for now: no Husk holds it, its queue has room, and nothing holds C3 back (R13, R176, R177). -/
def panelClaimsFit (s : State) : Prop :=
  held s 4 = false ∧ s.grd.c3.length + s.pnl.queue.length < 16 ∧ s.grd.pfw = false ∧ s.grd.c2Aged = false

/-- What a drawing command of rectangle `r` comes to (R413, R416, R418): BUSY on a cracked panel or a full queue, counted, else the
request is answered ACCEPTED_PENDING with its time in ms and stands in the queue under the next number. -/
def drawn (s t : State) (c : Ctx) (op : Nat) (r : PanelReq) : Prop :=
  if s.pnl.cracked = true then replied s t c op .busy 3 [] true ∧ t.pnl = s.pnl ∧ counter t Reg.pnlSnapRef 0 = counter s Reg.pnlSnapRef 0 + 1
  else if 16 ≤ s.pnl.queue.length then replied s t c op .busy 1 [] true ∧ t.pnl = s.pnl ∧ flagged s t Reg.pnlFlags 1
  else firstReplied s t c op .acceptedPending (updateFrames r.kind * 10) false ∧
    (panelClaimsFit s → ∃ x ∈ t.pnl.queue, x.id = s.pnl.nextId ∧ x.x = r.x ∧ x.y = r.y ∧ x.w = r.w ∧ x.h = r.h ∧ x.kind = r.kind
      ∧ x.pixels = r.pixels ∧ x.tag = c.tag.toNat ∧ x.from_ = some (c.queue.val, c.session.val, c.tag.toNat))
/-- A certificate that R428 accepts in slot `k` now, apart from commissioning: its form, its date, and an ENGINEER left (R429, R430). -/
def installable (s : State) (k : Nat) (cert : Certificate) : Bool :=
  decide (1 ≤ k) && decide (k ≤ 8) && certAccepted cert && dateOk s cert && !losesEngineer s k (some cert)

/-- A response of slot `k` that proves its key now (R315, R430, R431): the slot is filled, the nonce fresh, the signature valid, the date good,
and a proof that slot 1 awaits not late. -/
def responseGood (s : State) (k : Nat) (valid : Bool) (cert : Certificate) : Prop :=
  slotCert s k = some cert ∧ (∃ n t, s.cmd.nonce = some (n, t) ∧ s.now ≤ t + 60000000000) ∧ valid = true ∧ dateOk s cert = true
    ∧ ¬(k = 1 ∧ proofLate s = true)
/-- The module as a reset with a cause leaves it (R439, R440): OFFLINE, every island held, the own line quiet, no register written and no
session open; with what MRAM, the fuses and the log keep. -/
def afterReset (s t : State) (cause : Nat) : Prop :=
  t.sup.cause = cause ∧ t.sup.step = 1 ∧ t.own = State.reset.own ∧ t.pair.role = .offline ∧ t.exe.station = .init ∧ t.regs = [] ∧ t.active = []
    ∧ t.staged = [] ∧ t.cmd = {} ∧ t.pending = s.pending ∧ t.exe.slotA = s.exe.slotA ∧ t.exe.slotB = s.exe.slotB ∧ t.exe.copyA = s.exe.copyA
    ∧ t.exe.copyB = s.exe.copyB ∧ t.exe.forces = s.exe.savedForces ∧ t.mem.mram = s.mem.mram ∧ t.mem.remap = s.mem.remap ∧ t.tru.slots = s.tru.slots
    ∧ t.tru.fuses = s.tru.fuses ∧ t.sbk.log = s.sbk.log ∧ t.sup.opt1 = s.sup.opt1 ∧ t.sup.opt2 = s.sup.opt2 ∧ t.now = s.net.saved

/-- What an island reset leaves (R444): the Husk holds the island until it is done, flagged and counted. -/
def islandResetTaken (s t : State) (i : LoneIsland) : Prop :=
  held t (loneWindow i) = true ∧ loneWindow i ∈ t.sup.islandReset ∧ t.sup.lastIsland = loneWindow i ∧ t.sup.islandCount = s.sup.islandCount + 1
    ∧ flagged s t Reg.supPflags 4 ∧ (i = .panel → t.pnl.running = [] ∧ t.pnl.pumps = false)

/-- The core self-reset of R302 is due: a mismatch left the module OFFLINE 10 ms ago, CORE_AUTO is set, and the partner has the field. -/
def selfResetDue (s : State) : Bool :=
  decide (s.pair.role = .offline) && s.spr.mismatch.isSome && decide (regField s Reg.sprCfg 0 0 0 = 1)
    && decide (s.spr.mismatchAt + 10000000 ≤ s.now) && decide (s.pair.partnerRole ≤ 1)

/-- A reset that the rules of R447 or the power-fail sequence hold back: during a storm's hold the storm is noted for the record. -/
def heldBack (s : State) : State := if s.sup.storm || s.sup.stormHold then noteStorm s else s
end Sys2Proof

open Sys2Proof Sys2Proof.Machine

/-- A step takes the command at the front of the queue and runs it with the rest of the queue. The queue is the model's own (log 5). -/
def Obligations.StepRunsFront : Prop :=
  ∀ (c : Instr) (rest : List Instr) (s : State), step { s with pending := c :: rest } = exec c { s with pending := rest }

/-- Every command of the table answers a next state in every state: nothing the outside world can do stops the machine. -/
def Obligations.EveryCommandCompletes : Prop :=
  ∀ (i : Instr) (s : State), ∃ t, exec i s = .next t

/-- No command, not even a reset of the module, touches the queue of waiting commands: a step takes the front command and leaves the rest in order; with none waiting it idles. The queue and the idle step are the model's own (log 5). -/
def Obligations.QueueFirstInFirstOut : Prop :=
  (∀ (c : Instr) (rest : List Instr) (s t : State), step { s with pending := c :: rest } = .next t → t.pending = rest) ∧
  (∀ s : State, s.pending = [] → ∃ t, step s = .next t ∧ t.pending = [] ∧ t.now = s.now ∧ t.regs = s.regs ∧ t.active = s.active
    ∧ t.ctrs = s.ctrs ∧ t.fch = s.fch ∧ t.mem = s.mem ∧ t.wnt = s.wnt ∧ t.exe = s.exe)

/-- The frames of the station at work and the executive and of Hazel: every part of the machine that stationFrame and hazelFrame does not list for a command is as before. -/
def Obligations.StationAndHazelFrame : Prop :=
  keepsFrame stationFrame ∧ keepsFrame hazelFrame

/-- The frames of the field channels and of Gourd and the grid measurement unit: every part of the machine that channelFrame and gridPowerFrame does not list for a command is as before. -/
def Obligations.ChannelAndGridFrame : Prop :=
  keepsFrame channelFrame ∧ keepsFrame gridPowerFrame

/-- The frames of Walnut and of the redundancy pair: every part of the machine that walnutFrame and peapodFrame does not list for a command is as before. -/
def Obligations.WalnutAndPairFrame : Prop :=
  keepsFrame walnutFrame ∧ keepsFrame peapodFrame

/-- The frames of the memories, Sprout and the bring-ins and of command packets and register reads: every part of the machine that memoryFrame and packetFrame does not list for a command is as before. -/
def Obligations.MemoryAndPacketFrame : Prop :=
  keepsFrame memoryFrame ∧ keepsFrame packetFrame

/-- The frames of the plant network and time and of the CAN ports, Seedbank, the panel and the trust element: every part of the machine that networkFrame and portFrame does not list for a command is as before. -/
def Obligations.NetworkAndPortFrame : Prop :=
  keepsFrame networkFrame ∧ keepsFrame portFrame

/-- The frames of reset, boot and supervision: every part of the machine that supervisionFrame does not list for a command is as before. -/
def Obligations.SupervisionFrame : Prop :=
  keepsFrame supervisionFrame

/-- While the Husk of its island holds, a packet completes with HUSKED and the window of the island (R13, R310). -/
def Obligations.HeldIslandAnswersHusked : Prop :=
  ∀ (i : Instr) (c : Ctx) (op island : Nat), packetRow i = some (c, op, island) → ∀ s : State, held s island = true → running s c op i →
    ∃ t, exec i s = .next t ∧ replied s t c op .husked island [] true

/-- In a role that is neither ACTIVE nor ALONE, the packets that only an owner executes are refused with WRONG_ROLE and the role (R311). -/
def Obligations.NonOwnerAnswersWrongRole : Prop :=
  ∀ (i : Instr) (c : Ctx) (op island : Nat), packetRow i = some (c, op, island) → ownerRow i = true → ∀ s : State,
    owner s = false → readyFor s c op island i →
    ∃ t, exec i s = .next t ∧ replied s t c op .wrongRole (roleCode s.pair.role) [] true

/-- The ownership gate (R16, R265): OWN_LINE_STOPPED and PARTNER_LINE_EDGE open every output stage, PARTNER_LINE_QUIET lets the stages conduct while the own line toggles, OWN_LINE_TOGGLING takes a driven line as toggling. -/
def Obligations.OwnerLines : Prop :=
  (∀ s : State, ∃ t, exec .ownLineStopped s = .next t ∧ t.own.ownSeen = false ∧ ∀ n, terminalDrive t n = 0) ∧
  (∀ s : State, ∃ t, exec .partnerLineEdge s = .next t ∧ t.own.partnerQuiet = false ∧ (∀ n, terminalDrive t n = 0)
    ∧ t.pair.partnerLine = true ∧ t.pair.partnerEdge = s.now) ∧
  (∀ s : State, ∃ t, exec .partnerLineQuiet s = .next t ∧ t.own.partnerQuiet = true ∧ conducting t = s.own.ownSeen) ∧
  (∀ s : State, ∃ t, exec .ownLineToggling s = .next t ∧
    (s.own.ownDriven = true → t.own.ownSeen = true ∧ conducting t = s.own.partnerQuiet) ∧ (s.own.ownDriven = false → t = s))

/-- Husks (R13), module time (R15), the acknowledges of commits (R18), the late acknowledge (R19) and module faults (R29). -/
def Obligations.HusksTimeAndAcknowledges : Prop :=
  (∀ (w : Fin 16) (s : State), ∃ t, exec (.huskHold w) s = .next t ∧ held t w.val = true ∧ ∀ v, v ≠ w.val → held t v = held s v) ∧
  (∀ (w : Fin 16) (s : State), releasable s w.val = true → ∃ t, exec (.huskRelease w) s = .next t ∧ held t w.val = false
    ∧ ∀ v, v ≠ w.val → held t v = held s v) ∧
  (∀ (w : Fin 16) (s : State), releasable s w.val = false → exec (.huskRelease w) s = .next s) ∧
  (∀ (time : Nat) (s : State), ∃ t, exec (.timestampBroadcast time) s = .next t ∧ t.now = max s.now time) ∧
  (∀ (seq : Nat) (s : State), ∃ t, exec (.ack seq) s = .next t
    ∧ t.own.outstanding = s.own.outstanding.filter (fun c => !ackCovers seq c.id)) ∧
  (∀ s : State, s.pair.role = .active → s.own.outstanding ≠ [] → ∃ t, exec .ackLate s = .next t ∧ t.pair.role = .alone
    ∧ t.pair.cause = 6 ∧ t.own.outstanding = []) ∧
  (∀ s : State, (s.pair.role ≠ .active ∨ s.own.outstanding = []) → exec .ackLate s = .next s) ∧
  (∀ (kind : FaultKind) (addr : Nat) (s : State), ∃ t, exec (.moduleFault kind addr) s = .next t ∧ t.pair.role = .offline
    ∧ t.exe.station = .fault ∧ t.own.ownDriven = false ∧ t.own.moduleFaults = (faultCode kind, addr) :: s.own.moduleFaults)

/-- Boundaries and releases (R26, R27, R35, R39), task ends (R42), the retain store (R47, R48, R481), STOP (R51) and restarts (R53). -/
def Obligations.StationBoundaries : Prop :=
  (∀ s : State, ∃ t, exec .baseCycleBoundary s = .next t ∧ t.fch.cycleStamp = boundaryOf s ∧ t.exe.lastBoundary = boundaryOf s
    ∧ t.exe.latchSeq = (s.exe.latchSeq + 1) % 256 ∧
    (owner s = true → s.exe.station = .run → s.exe.stopPending = none → s.exe.handover = none → s.sup.pfw = false →
      s.pair.lanesShort = false → anyRunning s = false → s.exe.releaseFrom ≤ boundaryOf s → ∀ n < 16, (task s n).state = .idle →
      if taskDue s (boundaryOf s) n then (task t n).state = .running ∧ (task t n).start = boundaryOf s
        ∧ (task t n).releases = ((task s n).releases + 1) % 4294967296
      else task t n = task s n)) ∧
  (∀ (r : TaskResult) (s : State), onPairX s r.task.val = true → ∃ t, exec (.taskEnd r) s = .next t
    ∧ (task t r.task.val).state = .idle ∧ (task t r.task.val).lastUs = r.execUs) ∧
  (∀ (r : TaskResult) (s : State), onPairX s r.task.val = false → exec (.taskEnd r) s = .next s) ∧
  (∀ s : State, held s 4 = false → s.grd.pfw = false → ∃ r : Request, r.cls = .c2 ∧ r.source = 1 ∧ r.amount = 450
    ∧ r.duration = some 6000 ∧ r.purpose = .retainWrite ∧ r.made = s.now
    ∧ exec .retainStoreWrite s = .next { s with grd := { s.grd with c2 := s.grd.c2 ++ [r] } }) ∧
  (∀ s : State, (held s 4 = true ∨ s.grd.pfw = true) → s.exe.shadowLive = true → ∃ t, exec .retainStoreWrite s = .next t
    ∧ (∃ k, retainCopy t = some k ∧ k.data = s.exe.shadow) ∧ (t.exe.copyA = s.exe.copyA ∨ t.exe.copyB = s.exe.copyB)) ∧
  (∀ (s : State) (cause : StopCause), s.exe.stopPending = some cause → anyRunning s = false → ∃ t, exec .stopEnter s = .next t
    ∧ t.exe.station = .stop ∧ t.exe.stopCause = cause ∧ t.exe.stopPending = none ∧ t.exe.abandoned = false ∧ settled t 0x0102) ∧
  (∀ (s : State) (cause : StopCause), s.exe.stopPending = some cause → ∃ t, exec .stopGraceExpiry s = .next t
    ∧ t.exe.station = .stop ∧ t.exe.stopCause = cause ∧ t.exe.abandoned = anyRunning s ∧ anyRunning t = false ∧ settled t 0x0102) ∧
  (∀ (s : State) (p : RestartPending), s.exe.startPending = some p → s.exe.station = .stop → ∃ t, exec .restartBoundary s = .next t
    ∧ t.exe.station = .run ∧ t.exe.stopCause = .none ∧ t.exe.startPending = none)

/-- START, STOP, WARM and COLD (R48 to R53, R58), STATE_READ (R322) and CHANGE_REPORT (R59). -/
def Obligations.StationCommands : Prop :=
  (∀ (c : Ctx) (s : State), ready s (.start c) → owner s = true → s.exe.station = .stop → ∃ t, exec (.start c) s = .next t
    ∧ replied s t c 0x0101 .ok 0 (leBytes 4 (exeState s).toNat) true ∧ t.exe.startPending = some { kind := .none, choice := .none }
    ∧ (∀ n, (task t n).state = .idle) ∧ ∀ n, (fe t n).written = false) ∧
  (∀ (c : Ctx) (s : State), ready s (.stop c) → owner s = true → s.exe.station = .run → ∃ t, exec (.stop c) s = .next t
    ∧ t.exe.stopPending = some .command ∧ waits t c) ∧
  (∀ (c : Ctx) (s : State), ready s (.stop c) → owner s = true → s.exe.station = .stop → ∃ t, exec (.stop c) s = .next t
    ∧ replied s t c 0x0102 .ok 0 (leBytes 4 (exeState s).toNat) true) ∧
  (∀ (c : Ctx) (choice : ForceChoice) (s : State) (im : Image) (k : RetainCopy), ready s (.warm c choice) → owner s = true →
    s.exe.station = .stop → restartImage s = some im → (newImageCommitted s = false ∨ choice ≠ .none) → retainCopy s = some k →
    ∃ t, exec (.warm c choice) s = .next t ∧ t.exe.image = some im ∧ t.exe.restart = .warm ∧ t.exe.shadow = k.data
    ∧ t.exe.startPending = some { kind := .warm, choice := choice } ∧ (∀ n, (task t n).state = .idle)
    ∧ lastReplied t c 0x0103 .ok 0 (restartResult t) true) ∧
  (∀ (c : Ctx) (choice : ForceChoice) (s : State) (im : Image), ready s (.cold c choice) → owner s = true →
    s.exe.station = .stop → restartImage s = some im → (newImageCommitted s = false ∨ choice ≠ .none) →
    ∃ t, exec (.cold c choice) s = .next t ∧ t.exe.image = some im ∧ t.exe.restart = .cold ∧ retainCopy t = none
    ∧ t.exe.startPending = some { kind := .cold, choice := choice } ∧ (∀ n, (task t n).state = .idle)
    ∧ lastReplied t c 0x0104 .ok 0 (restartResult t) true) ∧
  (∀ (c : Ctx) (s : State), ready s (.stateRead c) → held s 7 = false → held s 6 = false → ∃ t, exec (.stateRead c) s = .next t
    ∧ replied s t c 0x0106 .ok 0 (leBytes 4 (exeState s).toNat ++ leBytes 4 (ppdStat s).toNat ++ leBytes 4 (wntState s).toNat
        ++ leBytes 8 (sec s) ++ leBytes 4 (nsec s)) true) ∧
  (∀ (c : Ctx) (s : State), ready s (.stateRead c) → (held s 7 = true ∨ held s 6 = true) → ∃ t, exec (.stateRead c) s = .next t
    ∧ replied s t c 0x0106 .husked (if held s 7 then 7 else 6) [] true) ∧
  (∀ (c : Ctx) (first : BitVec 32) (count : BitVec 16) (s : State), ready s (.changeReport c first count) → 0 < count.toNat → count.toNat ≤ 4000 →
    ∃ t, exec (.changeReport c first count) s = .next t
    ∧ replied s t c 0x0207 .ok 0 (leBytes 4 s.exe.report.length
        ++ ((s.exe.report.drop first.toNat).take count.toNat).flatMap changeBytes) true)

/-- Handovers (R61, R277, R278) and program swaps (R60, Table PPD-2). -/
def Obligations.HandoverAndSwap : Prop :=
  (∀ (c : Ctx) (swap : Bool) (s : State), ready s (.handover c swap) → s.pair.role = .active → s.exe.handover = none →
    s.pair.partnerRole = (if swap then 4 else 2) → s.pair.swapReady = swap → ∃ t, exec (.handover c swap) s = .next t
    ∧ replied s t c 0x0105 .acceptedPending 0 [] false ∧ waits t c
    ∧ t.exe.handover = some { swap := swap, boundary := none, internal := false }) ∧
  (∀ (s : State) (h : HandoverPending), s.exe.handover = some h → h.boundary = none → anyRunning s = false →
    s.own.outstanding = [] → s.pair.link = .ready → held s 7 = false → ∃ t, exec .handoverDrained s = .next t
    ∧ t.exe.handover = some { h with boundary := some (handoverBoundary s) } ∧ t.pair.prepareAcked = false
    ∧ t.pair.outbox = s.pair.outbox ++ [.handoverPrepare (handoverBoundary s)]
    ∧ (0 < baseNs s → s.now + 20000 ≤ handoverBoundary s)) ∧
  (∀ (s : State) (h : HandoverPending), s.exe.handover = some h → h.boundary = none → h.internal = false →
    ∃ t, exec .handoverDrainExpiry s = .next t ∧ t.exe.handover = none ∧ settled t 0x0105
    ∧ ∀ n, (task t n).state ≠ .withheld) ∧
  (∀ (s : State) (h : HandoverPending) (b : Nat), s.exe.handover = some h → h.boundary = some b → b ≤ s.now →
    s.pair.prepareAcked = true → ∃ t, exec .handoverBoundary s = .next t ∧ t.own.ownDriven = false ∧ settled t 0x0105
    ∧ t.pair.role = (if h.swap then .syncing else .standby)) ∧
  (∀ s : State, s.pair.role = .preparing → s.pair.link = .ready → held s 7 = false → ∃ t, exec .swapReady s = .next t ∧ t.pair.swapReady = true
    ∧ t.pair.outbox = s.pair.outbox ++ [.swapReady]) ∧
  (∀ s : State, s.pair.role = .active → ∃ t, exec .swapReady s = .next t ∧ t.pair.swapReady = true ∧ settled t 0x0205) ∧
  (∀ (c : Ctx) (choice : ForceChoice) (s : State), ready s (.swapPrepare c choice) → hasStandby s = true → choice ≠ .none →
    newImageCommitted s = true → s.pair.link = .ready → held s 7 = false → ∃ t, exec (.swapPrepare c choice) s = .next t
    ∧ replied s t c 0x0205 .acceptedPending 0 [] false ∧ waits t c ∧ t.pair.swapReady = false
    ∧ t.pair.outbox = s.pair.outbox ++ [roleStamp s (.role { role := .active, swap := .prepare choice ((s.exe.slotA.map (·.hash)).getD 0) })]) ∧
  (∀ (c : Ctx) (s : State), ready s (.swapCancel c) → s.pair.role = .active → s.pair.partnerRole = 4 → s.pair.link = .ready → held s 7 = false →
    ∃ t, exec (.swapCancel c) s = .next t ∧ waits t c ∧ t.pair.swapReady = false
    ∧ t.pair.outbox = s.pair.outbox ++ [roleStamp s (.role { role := .active, swap := .cancel })])

/-- Image loads (R62 to R64, R324), variables (R54, R321, R323) and forces (R54, R55, R178, R481, R13). -/
def Obligations.LoadsVariablesAndForces : Prop :=
  (∀ (c : Ctx) (slot : BitVec 8) (len : BitVec 32) (s : State), ready s (.loadBegin c slot len) → s.pair.role ≠ .offline → slot.toNat ≤ 1 →
    0 < len.toNat → len.toNat ≤ 33554432 → s.exe.load = none → (slot.toNat = 0 ∨ s.exe.station = .stop) →
    ∃ t, exec (.loadBegin c slot len) s = .next t ∧ replied s t c 0x0201 .ok 0 [] true
    ∧ t.exe.load = some { slot := slot.toNat, queue := c.queue.val, session := c.session.val, length := len.toNat }) ∧
  (∀ (c : Ctx) (offset : BitVec 32) (data : List Byte) (s : State) (l : Load), ready s (.loadChunk c offset data) → s.pair.role ≠ .offline →
    openLoad s c = some l → offset.toNat = l.bytes.length → l.bytes.length + data.length ≤ l.length →
    ∃ t, exec (.loadChunk c offset data) s = .next t ∧ t.exe.load = some { l with bytes := l.bytes ++ data }
    ∧ replied s t c 0x0202 .ok 0 (leBytes 4 (l.bytes.length + data.length)) true) ∧
  (∀ (c : Ctx) (s : State) (l : Load), ready s (.loadCommit c) → s.pair.role ≠ .offline → openLoad s c = some l → l.bytes.length = l.length →
    ∃ t, exec (.loadCommit c) s = .next t ∧ replied s t c 0x0203 .acceptedPending 0 [] false ∧ waits t c
    ∧ t.exe.load = some { l with checking := true }) ∧
  (∀ (im : Image) (s : State) (l : Load), s.exe.load = some l → l.checking = true → loadRefusal s l.bytes im = none →
    ∃ t, exec (.imageCheckDone im) s = .next t ∧ t.exe.load = none ∧ settled t 0x0203
    ∧ t.exe.slotA = (if l.slot = 0 then some (imageOf l.bytes im) else s.exe.slotA)
    ∧ t.exe.slotB = (if l.slot = 0 then s.exe.slotB else some (imageOf l.bytes im))) ∧
  (∀ (c : Ctx) (s : State) (l : Load), ready s (.loadAbort c) → s.pair.role ≠ .offline → openLoad s c = some l →
    ∃ t, exec (.loadAbort c) s = .next t ∧ replied s t c 0x0208 .ok 0 [] true ∧ t.exe.load = none
    ∧ t.exe.slotA = s.exe.slotA ∧ t.exe.slotB = s.exe.slotB) ∧
  (∀ (c : Ctx) (slot : BitVec 8) (s : State) (im : Image), ready s (.verify c slot) → slot.toNat ≤ 1 → slotImage s slot.toNat = some im →
    ∃ t, exec (.verify c slot) s = .next t ∧ replied s t c 0x0204 .ok 0 (leBytes 1 1 ++ leBytes 16 im.header.programId
      ++ leBytes 4 im.header.releaseVersion ++ leBytes 4 im.header.securityVersion ++ leBytes 48 im.hash) true) ∧
  (∀ (c : Ctx) (identity : BitVec 64) (offset : BitVec 32) (size : BitVec 16) (s : State), ready s (.varRead c [(identity, offset, size)]) → 0 < size.toNat →
    size.toNat ≤ 256 → offset.toNat + size.toNat ≤ (readVar s identity.toNat).length →
    ∃ t, exec (.varRead c [(identity, offset, size)]) s = .next t
    ∧ replied s t c 0x0301 .ok 0 (((readVar s identity.toNat).drop offset.toNat).take size.toNat) true) ∧
  (∀ (c : Ctx) (identity : BitVec 64) (offset : BitVec 32) (data : List Byte) (s : State) (x : VarEntry), ready s (.varWrite c identity offset data) →
    owner s = true → var? s identity.toNat = some x → offset.toNat + data.length ≤ x.value.length →
    ∃ t, exec (.varWrite c identity offset data) s = .next t ∧ replied s t c 0x0302 .ok 0 [] true ∧ t.exe.vars = s.exe.vars
    ∧ t.exe.varWrites = s.exe.varWrites ++ [{ identity := identity.toNat, offset := offset.toNat, data := data }]) ∧
  (∀ (c : Ctx) (k : ForceKey) (v : BitVec 64) (s : State), ready s (.forceSet c k v) → owner s = true → forceTargetOk s k = true →
    s.exe.forces.length < 512 → held s 4 = false → ∃ t, exec (.forceSet c k v) s = .next t ∧ forceOf t k = some v.toNat ∧ waits t c ∧ ∀ j, j ≠ k → forceOf t j = forceOf s j) ∧
  (∀ (c : Ctx) (k : ForceKey) (s : State), ready s (.forceClear c k) → owner s = true → (forceOf s k).isSome = true → held s 4 = false →
    ∃ t, exec (.forceClear c k) s = .next t ∧ forceOf t k = none ∧ waits t c ∧ ∀ j, j ≠ k → forceOf t j = forceOf s j) ∧
  (∀ (c : Ctx) (s : State), ready s (.forceClearAll c) → owner s = true → held s 4 = false →
    ∃ t, exec (.forceClearAll c) s = .next t ∧ t.exe.forces = [] ∧ waits t c) ∧
  (∀ (c : Ctx) (k : ForceKey) (v : BitVec 64) (s : State), ready s (.forceSet c k v) → owner s = true → forceTargetOk s k = true →
    held s 4 = true → ∃ t, exec (.forceSet c k v) s = .next t ∧ t.exe.forces = s.exe.forces
    ∧ replied s t c 0x0303 .husked 4 [] true) ∧
  (∀ (c : Ctx) (first count : BitVec 16) (s : State), ready s (.forceList c first count) → 0 < count.toNat → count.toNat ≤ 512 →
    ∃ t, exec (.forceList c first count) s = .next t ∧ replied s t c 0x0306 .ok 0
      (((s.exe.forces.drop first.toNat).take count.toNat).flatMap (fun f =>
        leBytes 1 (forceKind f.key) ++ leBytes 7 0 ++ leBytes 8 (forceKeyNumber f.key) ++ leBytes 8 f.value)) true)

/-- Sample slots (R26, R74, R79, R81), batches (R77, R18) and pod failures (R103, R104). -/
def Obligations.HazelSlotsAndPods : Prop :=
  (∀ s : State, s.hz.slot ≠ some (s.now / 50000) → ∃ t, exec .hazelSlot s = .next t ∧ t.hz.slot = some (s.now / 50000)
    ∧ t.fch.sampleStamp = s.now / 50000 * 50000 ∧
    (owner s = true → held s 2 = false → slotGiven s (s.now / 50000) = false → ∀ n l, loop? s n = some l → loopDue l.desc (s.now / 50000) = true → l.unplaced = false →
      podOf s l ≠ 0 → ∃ m, loop? t n = some m ∧ m.written = none ∧ m.opStaged = false) ∧
    (owner s = false → t.hz.loops = s.hz.loops)) ∧
  (∀ s : State, s.hz.slot = some (s.now / 50000) → exec .hazelSlot s = .next s) ∧
  (∀ (pod : Fin 6) (s : State), ∃ t, exec (.hazelBatchClose pod) s = .next t ∧ batch t pod.val = [] ∧
    (paired s = true → batch s pod.val ≠ [] → t.own.outstanding = s.own.outstanding ++ [{ id := s.own.nextCommit
                                                                                          kind := .hazel pod.val
                                                                                          drives := (batch s pod.val).filterMap (·.drive)
                                                                                          sent := s.now }])) ∧
  (∀ (pod : Fin 6) (s : State), pod.val ∈ s.hz.podMap → pod.val ≠ 0 → pod.val ∉ s.hz.failedPods → 5 ∉ s.hz.failedPods →
    5 ∉ s.hz.podMap → ∃ t, exec (.podFail pod) s = .next t ∧ t.hz.podMap = s.hz.podMap.map (fun x => if x = pod.val then 5 else x)
    ∧ t.hz.failedPods = s.hz.failedPods ++ [pod.val] ∧ flagged s t Reg.hzFlags 0 ∧ t.pair.role = s.pair.role) ∧
  (∀ (pod : Fin 6) (s : State), pod.val ∈ s.hz.podMap → pod.val ≠ 0 → pod.val ∉ s.hz.failedPods →
    (5 ∈ s.hz.failedPods ∨ 5 ∈ s.hz.podMap) → s.pair.role ≠ .alone → ∃ t, exec (.podFail pod) s = .next t
    ∧ t.pair.role = .offline ∧ t.exe.station = .fault) ∧
  (∀ (pod : Fin 6) (s : State), pod.val = 0 ∨ pod.val ∈ s.hz.failedPods → exec (.podFail pod) s = .next s)

/-- HZ_LOOP_MODE, HZ_LOOP_SP and HZ_LOOP_MV (R83, R91), HZ_INJ (R96) and HZ_CAP (R97). -/
def Obligations.LoopAndInjectionRegisters : Prop :=
  (∀ (r : Requester) (s : State), writable s Reg.hzLoopMode → ∃ t, exec (.hzPcommit r) s = .next t
    ∧ loop? t (selectedLoop s) = (loop? s (selectedLoop s)).map (fun l => { l with pcommit := true })) ∧
  (∀ (v : Word) (r : Requester) (s : State) (l : Loop), writable s Reg.hzLoopMode → loop? s (selectedLoop s) = some l →
    field v 17 16 = 3 → bit v 24 = false → ∃ t, exec (.hzLoopModeWrite v r) s = .next t ∧
    if operatorOwns l.desc 0 then
      loop? t (selectedLoop s) = some { l with opMode := field v 1 0, opStaged := true,
                                               spTrackPv := if bit v 18 then bit v 2 else l.spTrackPv }
    else flagged s t Reg.hzFlags 6 ∧ ∃ m, loop? t (selectedLoop s) = some m ∧ m.opMode = l.opMode) ∧
  (∀ (v : Word) (r : Requester) (s : State) (l : Loop), writable s Reg.hzLoopSp → loop? s (selectedLoop s) = some l →
    ∃ t, exec (.hzLoopSpWrite v r) s = .next t ∧
    if operatorOwns l.desc 1 then loop? t (selectedLoop s) = some { l with opSp := s16 (field v 15 0), opStaged := true }
    else flagged s t Reg.hzFlags 6 ∧ t.hz.loops = s.hz.loops) ∧
  (∀ (v : Word) (r : Requester) (s : State) (l : Loop), writable s Reg.hzLoopMv → loop? s (selectedLoop s) = some l →
    ∃ t, exec (.hzLoopMvWrite v r) s = .next t ∧
    if operatorOwns l.desc 2 then
      loop? t (selectedLoop s) = some { l with opMv := s16 (field v 15 0), mvWritten := true, opStaged := true }
    else flagged s t Reg.hzFlags 6 ∧ t.hz.loops = s.hz.loops) ∧
  (∀ (g : Fin 4) (r : Requester) (s : State), writable s Reg.hzInj → (gen s g.val).state ≠ 1 →
    ∃ t, exec (.hzInjStart g r) s = .next t ∧ (gen t g.val).icb = (gen s g.val).icb ∧
    if canInject s g.val then (gen t g.val).state = 1 ∧ (gen t g.val).count = 0
    else (gen t g.val).state = 3 ∧ (gen t g.val).reason = 7 ∧ flagged s t Reg.hzFlags 3) ∧
  (∀ (g : Fin 4) (r : Requester) (s : State), writable s Reg.hzInj → (gen s g.val).state = 1 →
    ∃ t, exec (.hzInjStop g r) s = .next t ∧ (gen t g.val).state = 3 ∧ (gen t g.val).reason = 6 ∧ flagged s t Reg.hzFlags 3) ∧
  (∀ (k : Fin 4) (r : Requester) (s : State), writable s Reg.hzCap → ∃ t, exec (.hzCapArm k r) s = .next t ∧
    if capFree s k.val && ccbOk (cap s k.val).ccb then cap t k.val = { ccb := (cap s k.val).ccb, state := 1 }
    else flagged s t Reg.hzFlags 6 ∧ t.hz.caps = s.hz.caps) ∧
  (∀ (k : Fin 4) (r : Requester) (s : State), writable s Reg.hzCap → ∃ t, exec (.hzCapTrigger k r) s = .next t ∧
    cap t k.val = if (cap s k.val).state = 1 then { cap s k.val with fire := true } else cap s k.val) ∧
  (∀ (k : Fin 4) (r : Requester) (s : State), writable s Reg.hzCap → ∃ t, exec (.hzCapDisarm k r) s = .next t ∧
    cap t k.val = { ccb := (cap s k.val).ccb })

/-- The commands 0x0601 to 0x060B (R83, R91, R96 to R98, Table CMD-11). -/
def Obligations.LoopCommands : Prop :=
  (∀ (c : Ctx) (first count : BitVec 16) (s : State), ready s (.loopRead c first count) → 0 < count.toNat → count.toNat ≤ 2048 →
    first.toNat + count.toNat ≤ 4096 → ∃ t, exec (.loopRead c first count) s = .next t
    ∧ replied s t c 0x0601 .ok 0 ((List.range count.toNat).flatMap (fun i => loopReadBytes s (first.toNat + i))) true) ∧
  (∀ (c : Ctx) (loop : BitVec 16) (mode track : BitVec 8) (s : State) (l : Loop), ready s (.loopMode c loop mode track) → owner s = true →
    mode.toNat ≤ 3 → track.toNat ≤ 1 → loop? s loop.toNat = some l → operatorOwns l.desc 0 = true →
    ∃ t, exec (.loopMode c loop mode track) s = .next t ∧ replied s t c 0x0602 .ok 0 [] true
    ∧ loop? t loop.toNat = some { l with opMode := mode.toNat, spTrackPv := decide (track.toNat = 1), opStaged := true }) ∧
  (∀ (c : Ctx) (loop v : BitVec 16) (s : State) (l : Loop), ready s (.loopSp c loop v) → owner s = true → loop? s loop.toNat = some l →
    operatorOwns l.desc 1 = true → ∃ t, exec (.loopSp c loop v) s = .next t ∧ replied s t c 0x0603 .ok 0 [] true
    ∧ loop? t loop.toNat = some { l with opSp := s16 v.toNat, opStaged := true }) ∧
  (∀ (c : Ctx) (loop v : BitVec 16) (s : State) (l : Loop), ready s (.loopMv c loop v) → owner s = true → loop? s loop.toNat = some l →
    operatorOwns l.desc 2 = true → ∃ t, exec (.loopMv c loop v) s = .next t ∧ replied s t c 0x0604 .ok 0 [] true
    ∧ loop? t loop.toNat = some { l with opMv := s16 v.toNat, mvWritten := true, opStaged := true }) ∧
  (∀ (c : Ctx) (loop : BitVec 16) (w : BitVec 8) (words : List Word) (s : State) (l : Loop), ready s (.loopParam c loop w words false) → owner s = true →
    loop? s loop.toNat = some l → 0 < w.toNat → w.toNat ≤ 87 → w.toNat + words.length ≤ 88 →
    (∃ t, exec (.loopParam c loop w words false) s = .next t
      ∧ replied s t c 0x0605 .ok 0 (leBytes 2 (regField s Reg.hzApply 0 15 0)) true
      ∧ loop? t loop.toNat = some { l with
          staged := l.staged ++ words.zipIdx.map (fun p => (w.toNat + p.2, p.1))
          wrote := l.wrote.filter (fun p => decide (p.1 < w.toNat) || decide (w.toNat + words.length ≤ p.1))
            ++ words.zipIdx.map (fun p => (w.toNat + p.2, p.1)) }) ∧
    (ready s (.loopParam c loop w words true) → ∃ t, exec (.loopParam c loop w words true) s = .next t ∧ waits t c
      ∧ loop? t loop.toNat = some { l with
          staged := l.staged ++ words.zipIdx.map (fun p => (w.toNat + p.2, p.1))
          wrote := l.wrote.filter (fun p => decide (p.1 < w.toNat) || decide (w.toNat + words.length ≤ p.1))
            ++ words.zipIdx.map (fun p => (w.toNat + p.2, p.1))
          pcommit := true })) ∧
  (∀ (c : Ctx) (g : BitVec 8) (icb : List Byte) (s : State), ready s (.injectStart c g icb) → owner s = true → g.toNat ≤ 3 →
    (gen s g.toNat).state ≠ 1 → canInject (setGen s g.toNat { gen s g.toNat with icb := icb }) g.toNat = true →
    ∃ t, exec (.injectStart c g icb) s = .next t ∧ replied s t c 0x0606 .ok 0 [] true ∧ (gen t g.toNat).state = 1
    ∧ (gen t g.toNat).icb = icb) ∧
  (∀ (c : Ctx) (g : BitVec 8) (s : State), ready s (.injectStop c g) → owner s = true → g.toNat ≤ 3 → (gen s g.toNat).state = 1 →
    ∃ t, exec (.injectStop c g) s = .next t ∧ lastReplied t c 0x0607 .ok 0 [6] true ∧ (gen t g.toNat).state = 3) ∧
  (∀ (c : Ctx) (k : BitVec 8) (ccb : List Byte) (s : State), ready s (.capArm c k ccb) → owner s = true → k.toNat ≤ 3 →
    capFree s k.toNat = true → ccbOk ccb = true → ∃ t, exec (.capArm c k ccb) s = .next t
    ∧ replied s t c 0x0608 .ok 0 [] true ∧ cap t k.toNat = { ccb := ccb, state := 1 }) ∧
  (∀ (c : Ctx) (k : BitVec 8) (s : State), ready s (.capTrigger c k) → owner s = true → k.toNat ≤ 3 → (cap s k.toNat).state = 1 →
    ∃ t, exec (.capTrigger c k) s = .next t ∧ replied s t c 0x0609 .ok 0 [] true ∧ cap t k.toNat = { cap s k.toNat with fire := true }) ∧
  (∀ (c : Ctx) (k : BitVec 8) (s : State), ready s (.capDisarm c k) → owner s = true → k.toNat ≤ 3 →
    ∃ t, exec (.capDisarm c k) s = .next t ∧ replied s t c 0x060A .ok 0 [] true ∧ cap t k.toNat = { ccb := (cap s k.toNat).ccb }) ∧
  (∀ (c : Ctx) (k : BitVec 8) (first : BitVec 32) (count : BitVec 16) (s : State), ready s (.capRead c k first count) → k.toNat ≤ 3 → 0 < count.toNat →
    count.toNat ≤ 4092 → ∃ t, exec (.capRead c k first count) s = .next t ∧ replied s t c 0x060B .ok 0
      (capHeader (cap s k.toNat) ++ (((cap s k.toNat).rows.drop first.toNat).take count.toNat).flatMap (fun v => v.flatMap sigBytes)) true)

/-- Coupler frames (R110, R112), the local safe state (R113), window timeouts (R114, R338), group supplies (R115, R116), reconfiguration (R118, R158) and temperatures (R164). -/
def Obligations.FramesAndFieldSupplies : Prop :=
  (∀ (ms : List FeMeasure) (s : State), ∃ t, exec (.couplerFrame ms) s = .next t ∧ t.fch.frame = s.fch.frame + 1) ∧
  (∀ (s : State) (n arm demand : Nat), arm < 4 → demand < 65536 → frameGood (downstreamWord s n arm demand) (s.fch.frame % 16) = true) ∧
  (∀ (n : Fin 216) (s : State), (fe s (channelOf s n.val)).state = .armed → ∃ t, exec (.feFrameTimeout n) s = .next t
    ∧ (fe t (channelOf s n.val)).state = .localSafe ∧ flaggedAt s t Reg.fchFlags (channelOf s n.val) 3) ∧
  (∀ (n : Fin 216) (s : State), ∃ t, exec (.feWindowTimeout n) s = .next t ∧ reg t Reg.fchIdxData 0 = 0xFFFFFFFF#32
    ∧ (fe t (channelOf s n.val)).silent = true
    ∧ flaggedAt s t Reg.fchFlags (channelOf s n.val) 1) ∧
  (∀ (g : Fin 12) (v : BitVec 10) (s : State), ∃ t, exec (.groupSupplySample g v) s = .next t
    ∧ (group t g.val).samples = (v.toNat :: (group s g.val).samples).take 20
    ∧ ((group s g.val).supply = .missing → (group t g.val).supply = .missing) ∧
    ((group s g.val).supply ≠ .missing → v.toNat < 320 → 39 ≤ (group s g.val).lowRun → (group t g.val).supply = .missing
      ∧ flaggedAt s t Reg.fgrpFlags g.val 1 ∧ ∀ n ∈ groupChannels g.val, (fe t n).driven = 0)) ∧
  (∀ (g : Fin 12) (s : State), (group s g.val).supply = .missing → 2000 ≤ (group s g.val).highRun →
    ∃ t, exec (.fsupReturn g) s = .next t ∧ (group t g.val).supply ≠ .missing ∧ flaggedAt s t Reg.fgrpFlags g.val 2) ∧
  (∀ (g : Fin 12) (s : State), (group s g.val).supply ≠ .missing ∨ (group s g.val).highRun < 2000 →
    exec (.fsupReturn g) s = .next s) ∧
  (∀ (n : Fin 216) (s : State), (fe s (channelOf s n.val)).reconfiguring = true → ∃ t, exec (.feReconfigDone n) s = .next t
    ∧ (fe t (channelOf s n.val)).reconfiguring = false
    ∧ (fe t (channelOf s n.val)).state =
      (if (fe s (channelOf s n.val)).state = .failed then .failed
       else armedState (checkFactory s (channelOf s n.val)) (channelOf s n.val))
    ∧ (fe t (channelOf s n.val)).safeCounts = BitVec.ofNat 16 (safeSetting s (channelOf s n.val))) ∧
  (∀ (n : Fin 216) (x : BitVec 16) (s : State), ∃ t, exec (.feTempMeasure n x) s = .next t
    ∧ (fe t (channelOf s n.val)).temperature = x.toInt)

/-- Digital inputs (R124), outputs (R126 to R130) and pulse channels (R133, R134). Where the frequency is no whole count its rounding is a free value (log 22). -/
def Obligations.DigitalChannels : Prop :=
  (∀ (n : Fin 216) (on : Bool) (s : State), isDi (modeOf s (channelOf s n.val)) = true →
    (fe s (channelOf s n.val)).comp = on → ∃ t, exec (.diFilterChange n on) s = .next t
    ∧ (fe t (channelOf s n.val)).diState = on) ∧
  (∀ (c : Fin 192) (s : State), evaluatesDo s c.val = true → (fe s c.val).driven = 1 → ∃ t, exec (.doOverload c) s = .next t
    ∧ (fe t c.val).limit = true ∧ (fe t c.val).short = true ∧ (fe t c.val).driven = 1) ∧
  (∀ (c : Fin 192) (s : State), evaluatesDo s c.val = true → (fe s c.val).limit = true → ∃ t, exec (.doLatchoff c) s = .next t
    ∧ (fe t c.val).limit = false ∧ (fe t c.val).latchedOff = true ∧ (fe t c.val).driven = 0 ∧ (fe t c.val).granted = 0
    ∧ claimOf t c.val = {} ∧ (fe t c.val).failed =
      ((fe s c.val).failed || decide (cfgField s Reg.fchDocfg c.val 3 0 ≤ (fe s c.val).retries))) ∧
  (∀ (c : Fin 192) (s : State), evaluatesDo s c.val = true → (fe s c.val).latchedOff = true → (fe s c.val).failed = false →
    (fe s c.val).broken = false → commanded s c.val = 1 → ∃ t, exec (.doRetry c) s = .next t ∧ (fe t c.val).latchedOff = false
    ∧ (fe t c.val).retries = (fe s c.val).retries + 1 ∧ flaggedAt s t Reg.fchFlags c.val 2) ∧
  (∀ (c : Fin 192) (s : State), owner s = true → modeOf s c.val = 5 → (fe s c.val).driven = 0 → (fe s c.val).comp = true →
    ∃ t, exec (.doMismatch c true) s = .next t ∧ (fe t c.val).misHigh = true ∧ (fe t c.val).failed = true) ∧
  (∀ (c : Fin 192) (s : State), owner s = true → modeOf s c.val = 5 → (fe s c.val).driven = 1 → (fe s c.val).short = false →
    (fe s c.val).comp = false → (group s (groupOf c.val)).supply ≠ .missing → ∃ t, exec (.doMismatch c false) s = .next t ∧ (fe t c.val).misLow = true
    ∧ (fe t c.val).failed = true ∧ flaggedAt s t Reg.fchFlags c.val 0) ∧
  (∀ (c : Fin 192) (s : State), evaluatesDo s c.val = true → bit (cfg s Reg.fchDocfg c.val) 7 = true →
    (5 ≤ (fe s c.val).aux.toNat → ∃ t, exec (.doOpenLoad c false) s = .next t ∧ (fe t c.val).openLoad = false) ∧
    ((fe s c.val).driven = 1 → (fe s c.val).aux.toNat < 5 → ∃ t, exec (.doOpenLoad c true) s = .next t ∧ (fe t c.val).openLoad = true)) ∧
  (∀ (n : EdgeSample) (s : State), isPulse (modeOf s (channelOf s n.sel.val)) = true → ∃ t, exec (.pulseEdge n) s = .next t ∧
    (∀ now, now = compare (thresholds s (channelOf s n.sel.val)) (fe s (channelOf s n.sel.val)).comp
        (calibrated s (channelOf s n.sel.val) 3 n.volt) →
      (fe t (channelOf s n.sel.val)).comp = now ∧ (fe t (channelOf s n.sel.val)).edgeCount =
        if now ≠ (fe s (channelOf s n.sel.val)).comp ∧ edgeCounts s (channelOf s n.sel.val) now = true
        then ((fe s (channelOf s n.sel.val)).edgeCount + 1) % 4294967296 else (fe s (channelOf s n.sel.val)).edgeCount)) ∧
  (∀ (n : Fin 216) (edges span : Nat) (s : State), isPulse (modeOf s (channelOf s n.val)) = true →
    edges = (fe s (channelOf s n.val)).gateEdges → ∃ t, exec (.freqGateEnd n edges span) s = .next t ∧
    (2 ≤ edges → 0 < span → spanAgrees (fe s (channelOf s n.val)) span = true → (edges - 1) * 100000000000 % span = 0 →
      (fe t (channelOf s n.val)).freqNow = (edges - 1) * 100000000000 / span % 4294967296) ∧
    (edges < 2 → 9 ≤ (fe s (channelOf s n.val)).emptyGates → (fe t (channelOf s n.val)).freqNow = 0) ∧
    (edges < 2 → (fe s (channelOf s n.val)).emptyGates < 9 →
      (fe t (channelOf s n.val)).freqNow = (fe s (channelOf s n.val)).freqNow))

/-- Failures (R136, R137, R139), bring-ins (R137, R138, R299) and spare self-tests (R140). -/
def Obligations.FrontEndFailuresAndBringIns : Prop :=
  (∀ (n : Fin 216) (s : State), 192 ≤ n.val → (fe s n.val).link = none → ∃ t, exec (.feFailure n) s = .next t
    ∧ (fe t n.val).broken = true) ∧
  (∀ (n : Fin 216) (s : State), n.val < 192 → (fe s n.val).broken = false → ∃ t, exec (.feFailure n) s = .next t
    ∧ (fe t n.val).broken = true ∧ ((fe s n.val).sprouting = false → showsPartner t n.val = false → bit (fchStat t n.val) 11 = true) ∧ (fe t n.val).state = .failed
    ∧ (fe t n.val).link = none
    ∧ (hasStandby s = true → t.pair.role = .syncing)) ∧
  (∀ (s : State) (c : Nat), s.spr.feBusy = none → nextSprout s = some c → ∃ t, exec .sproutStart s = .next t
    ∧ t.spr.feBusy = some c ∧ (fe t c).sprouting = true ∧ (fe t c).state = .unarmed ∧ ∀ p ∈ t.spr.feQueue, p.1 ≠ c) ∧
  (∀ (s : State) (c sp : Nat), s.spr.feBusy = some c → freeSpare s c = some sp → c < 192 → ∃ t, exec .sproutComplete s = .next t
    ∧ t.spr.feBusy = none ∧ (fe t c).link = some sp ∧ (fe t sp).link = some c ∧ (fe t c).failed = (fe s c).failed
    ∧ (fe t c).broken = false ∧ (fe t c).sprouting = false ∧ flagged s t Reg.sprFlags 0) ∧
  (∀ (s : State) (c : Nat), s.spr.feBusy = some c → freeSpare s c = none → ∃ t, exec .sproutComplete s = .next t
    ∧ t.spr.feBusy = none ∧ (fe t c).broken = true ∧ (fe t c).state = .failed ∧ (fe t c).sprouting = false) ∧
  (∀ (n : Fin 24) (pass : Bool) (s : State), ∃ t, exec (.spareSelftest n pass) s = .next t
    ∧ (∀ x ∈ t.grd.claims, x.purpose ≠ .spareSelftest (192 + n.val))
    ∧ (fe t (192 + n.val)).broken = ((fe s (192 + n.val)).broken || (!pass && (fe s (192 + n.val)).link.isNone)))

/-- Conversions (R147), burden protection (R148), readback (R149), NAMUR NE 43 limits (R150), loop supplies (R151) and AO conditions (R154 to R156). What a filtered conversion rounds to within its bounds is a free value (log 22). -/
def Obligations.AnalogueChannels : Prop :=
  (∀ (n : Fin 216) (raw : Int) (s : State), isAi (modeOf s (channelOf s n.val)) = true → conducting s = true →
    ∃ t, exec (.aiConversion n raw) s = .next t ∧
    ((fe s (channelOf s n.val)).burdenOpen = true → (fe t (channelOf s n.val)).reported = 0) ∧
    ((fe s (channelOf s n.val)).burdenOpen = false → (fe s (channelOf s n.val)).burdenRetry = false →
      (modeOf s (channelOf s n.val) ≠ 0x12 ∨ (fe s (channelOf s n.val)).supplyClosed = true) → cfgField s Reg.fchAicfg (channelOf s n.val) 25 16 = 0 →
      (fe t (channelOf s n.val)).reported = calibrated s (channelOf s n.val) 0 raw) ∧
    ((fe s (channelOf s n.val)).burdenOpen = false → (fe s (channelOf s n.val)).burdenRetry = false →
      (modeOf s (channelOf s n.val) ≠ 0x12 ∨ (fe s (channelOf s n.val)).supplyClosed = true) →
      cfgField s Reg.fchAicfg (channelOf s n.val) 25 16 ≠ 0 → ∀ ms old new d,
      ms = cfgField s Reg.fchAicfg (channelOf s n.val) 25 16 → old = (fe s (channelOf s n.val)).filtered →
      new = calibrated s (channelOf s n.val) 0 raw * 65536 → d = max old new - min old new → ∃ k, d / (40 * ms + 1) ≤ k ∧ k ≤ d
      ∧ k ≤ d / (40 * ms) + 1 ∧ (fe t (channelOf s n.val)).filtered = (if old ≤ new then old + k else old - k)
      ∧ (fe t (channelOf s n.val)).filtered / 65536 ≤ (fe t (channelOf s n.val)).reported
      ∧ (fe t (channelOf s n.val)).reported ≤ (fe t (channelOf s n.val)).filtered / 65536 + 1)) ∧
  (∀ (c : Fin 192) (s : State), owner s = true → (modeOf s c.val = 0x10 ∨ modeOf s c.val = 0x11) →
    ∃ t, exec (.burdenOpen c) s = .next t ∧ (fe t c.val).burdenOpen = true ∧ (fe t c.val).reported = 0) ∧
  (∀ (c : Fin 192) (s : State), evaluatesLoop s c.val isAi = true → (fe s c.val).burdenOpen = true →
    ∃ t, exec (.burdenRetry c) s = .next t ∧ (fe t c.val).burdenOpen = false ∧ (fe t c.val).burdenRetry = true
    ∧ (fe t c.val).reported = 0) ∧
  (∀ (c : Fin 192) (s : State), evaluatesLoop s c.val isAi = true → (fe s c.val).burdenRetry = true →
    ∃ t, exec (.burdenRetryEnd c) s = .next t ∧ (fe t c.val).burdenRetry = false) ∧
  (∀ (n : Fin 216) (s : State), evaluatesLoop s (channelOf s n.val) isAi = true → (fe s (channelOf s n.val)).burdenOpen = false →
    (fe s (channelOf s n.val)).burdenRetry = false → ∃ t, exec (.readbackDisagree n) s = .next t
    ∧ (fe t (channelOf s n.val)).state = .failed) ∧
  (∀ (n : Fin 216) (s : State), (modeOf s (channelOf s n.val) = 0x10 ∨ modeOf s (channelOf s n.val) = 0x12) →
    bit (cfg s Reg.fchAicfg (channelOf s n.val)) 0 = true → owner s = true → conducting s = true →
    (∃ t, exec (.ne43Confirm n .lowSet) s = .next t ∧ (fe t (channelOf s n.val)).failLow =
      ((fe s (channelOf s n.val)).failLow || decide ((fe s (channelOf s n.val)).reported < 7600))) ∧
    (∃ t, exec (.ne43Confirm n .lowClear) s = .next t ∧ (fe t (channelOf s n.val)).failLow =
      ((fe s (channelOf s n.val)).failLow && decide ((fe s (channelOf s n.val)).reported < 7700))) ∧
    (∃ t, exec (.ne43Confirm n .highSet) s = .next t ∧ (fe t (channelOf s n.val)).failHigh =
      ((fe s (channelOf s n.val)).failHigh || decide (41000 < (fe s (channelOf s n.val)).reported))) ∧
    (∃ t, exec (.ne43Confirm n .highClear) s = .next t ∧ (fe t (channelOf s n.val)).failHigh =
      ((fe s (channelOf s n.val)).failHigh && decide (40900 < (fe s (channelOf s n.val)).reported)))) ∧
  (∀ (c : Fin 192) (s : State), owner s = true → modeOf s c.val = 0x12 → (fe s c.val).supplyClosed = true →
    (∃ t, exec (.loopSupplyShort c) s = .next t ∧ (fe t c.val).supplyClosed = false ∧ (fe t c.val).supplyOpen = true
      ∧ (fe t c.val).supplyShort = true ∧ claimOf t c.val = {}) ∧
    (∃ t, exec (.loopSupplyRecover c) s = .next t ∧ (fe t c.val).supplyShort = false ∧ (fe t c.val).supplyClosed = true)) ∧
  (∀ (c : Fin 192) (s : State), owner s = true → modeOf s c.val = 0x12 → (fe s c.val).supplyOpen = true → held s 4 = false →
    ∃ t, exec (.loopSupplyRetry c) s = .next t ∧ ∃ q, waitingC1 t c.val = some q ∧ q.amount = 22) ∧
  (∀ (c : Fin 192) (s : State), comparesAo s c.val = true → atVoltLimit s c.val = true → aoReadback s c.val + 400 < aoCommand s c.val →
    ∃ t, exec (.aoCompliance c) s = .next t ∧ (fe t c.val).compliance = true
    ∧ (fe t c.val).alarmUnreach = ((fe s c.val).alarmUnreach
      || decide (42000 ≤ aoCommand s c.val) || decide (aoCommand s c.val ≤ 7200))) ∧
  (∀ (c : Fin 192) (s : State), comparesAo s c.val = true → (fe s c.val).compliance = true →
    aoCommand s c.val ≤ aoReadback s c.val + 200 → aoReadback s c.val ≤ aoCommand s c.val + 200 → ∃ t, exec (.aoComplianceEnd c) s = .next t
    ∧ (fe t c.val).compliance = false ∧ (fe t c.val).alarmUnreach = false ∧ (fe t c.val).openLoad = false) ∧
  (∀ (c : Fin 192) (s : State), evaluatesLoop s c.val isAo = true → (fe s c.val).compliance = true → aoReadback s c.val < 1000 →
    ∃ t, exec (.aoOpenLoad c) s = .next t ∧ (fe t c.val).openLoad = true) ∧
  (∀ (c : Fin 192) (s : State), evaluatesLoop s c.val isAo = true →
    (aoCommand s c.val + 400 < aoReadback s c.val → ∃ t, exec (.aoBackfeed c true) s = .next t ∧ (fe t c.val).misHigh = true
      ∧ (fe t c.val).failed = true) ∧
    ((aoCommand s c.val + 400 < aoReadback s c.val ∨ aoReadback s c.val + 400 < aoCommand s c.val) → atVoltLimit s c.val = false →
      ∃ t, exec (.aoBackfeed c false) s = .next t ∧ (fe t c.val).state = .failed))

/-- The commands 0x0501 to 0x0505 (R129, R157, R299, R322, Table CMD-10). -/
def Obligations.ChannelCommands : Prop :=
  (∀ (c : Ctx) (first count : BitVec 8) (s : State), ready s (.chRead c first count) → 0 < count.toNat → first.toNat + count.toNat ≤ 216 →
    ∃ t, exec (.chRead c first count) s = .next t ∧ replied s t c 0x0501 .ok 0 ((List.range count.toNat).flatMap (fun i =>
      leBytes 4 (fchVal s (first.toNat + i)).toNat ++ leBytes 4 (fchStat s (first.toNat + i)).toNat
        ++ leBytes 1 (modeOf s (first.toNat + i)) ++ leBytes 1 (((fe s (first.toNat + i)).link).getD 0) ++ leBytes 6 0)) true) ∧
  (∀ (c : Ctx) (g : BitVec 8) (s : State), ready s (.grpRead c g) → g.toNat ≤ 11 → held s 4 = false → ∃ t, exec (.grpRead c g) s = .next t
    ∧ replied s t c 0x0505 .ok 0 (leBytes 4 (fgrpStat s g.toNat).toNat ++ leBytes 4 (grdGrp s g.toNat).toNat
      ++ leBytes 4 (grdGrpMeas s g.toNat).toNat) true) ∧
  (∀ (c : Ctx) (g : BitVec 8) (s : State), ready s (.grpRead c g) → g.toNat ≤ 11 → held s 4 = true → ∃ t, exec (.grpRead c g) s = .next t
    ∧ replied s t c 0x0505 .husked 4 [] true) ∧
  (∀ (c : Ctx) (ch : BitVec 8) (s : State), ready s (.chClearFault c ch) → owner s = true → ch.toNat ≤ 191 →
    ¬(held s 4 = true ∧ clearAsks s ch.toNat = true) → ∃ t, exec (.chClearFault c ch) s = .next t ∧ (fe t ch.toNat).failed = false ∧ (fe t ch.toNat).broken = (fe s ch.toNat).broken ∧ (fe t ch.toNat).misHigh = false
    ∧ (fe t ch.toNat).misLow = false ∧ (fe t ch.toNat).short = (fe s ch.toNat).limit ∧ (fe t ch.toNat).latchedOff = false
    ∧ (fe t ch.toNat).retries = 0 ∧ (lastReplied t c 0x0502 .ok 0 [] true ∨ waits t c)) ∧
  (∀ (c : Ctx) (ch spare : BitVec 8) (s : State), ready s (.chSprout c ch spare) → owner s = true → ch.toNat < 192 → groupSprouting s ch.toNat = none →
    (spare.toNat = 0xFF ∧ (freeSpare s ch.toNat).isSome = true ∨ spare.toNat ≠ 0xFF ∧ spare.toNat ∈ groupSpares (groupOf ch.toNat)
      ∧ (fe s spare.toNat).link = none ∧ (fe s spare.toNat).broken = false) →
    policyAllows s ch.toNat = true → ((fe s ch.toNat).failed = true ∨ (fe s ch.toNat).broken = true ∨ s.exe.station ≠ .run ∨ isAi (modeOf s ch.toNat) = true) →
    ∃ t, exec (.chSprout c ch spare) s = .next t ∧ replied s t c 0x0503 .acceptedPending 0 [] false ∧ waits t c
    ∧ ∃ p ∈ t.spr.feQueue, p.1 = ch.toNat) ∧
  (∀ (c : Ctx) (ch : BitVec 8) (s : State), ready s (.chFailsig c ch false) → owner s = true → ch.toNat ≤ 191 → modeOf s ch.toNat = 0x13 →
    held s 4 = false → ∃ t, exec (.chFailsig c ch false) s = .next t ∧ forceOf t (.output ch.toNat) = none ∧ waits t c) ∧
  (∀ (c : Ctx) (ch : BitVec 8) (s : State), ready s (.chFailsig c ch true) → owner s = true → ch.toNat ≤ 191 → modeOf s ch.toNat = 0x13 →
    held s 4 = false → s.exe.forces.length < 512 → ∃ t, exec (.chFailsig c ch true) s = .next t
    ∧ forceOf t (.output ch.toNat) = some 65536 ∧ waits t c) ∧
  (∀ (c : Ctx) (ch : BitVec 8) (on : Bool) (s : State), ready s (.chFailsig c ch on) → owner s = true → ch.toNat ≤ 191 →
    modeOf s ch.toNat = 0x13 → held s 4 = true → ∃ t, exec (.chFailsig c ch on) s = .next t ∧ t.exe.forces = s.exe.forces
    ∧ replied s t c 0x0504 .husked 4 [] true)

/-- Requests (R167, R176, R177), measured currents (R172), logic power (R175), the requests of a module that does not own the field (R179), C2 aging (R176) and the grant log (R178, R180). A C3 request that names no duration is taken for 250 ms (log 113). -/
def Obligations.PowerBudget : Prop :=
  (∀ (c : Fin 192) (amount : Nat) (s : State), held s 4 = false → owner s = true → ∃ t, exec (.gourdRequest (.channel c amount)) s = .next t
    ∧ ∃ q, waitingC1 t c.val = some q ∧ q.amount = amount) ∧
  (∀ (c : Fin 192) (amount : Nat) (s : State), owner s = false → exec (.gourdRequest (.channel c amount)) s = .next s) ∧
  (∀ (w : Island) (amount : Nat) (dur : Option Nat) (p : Purpose) (s : State), held s 4 = false → s.grd.pfw = false →
    ∃ t, exec (.gourdRequest (.island .c2 w amount dur p)) s = .next t ∧ ∃ q, t.grd.c2 = s.grd.c2 ++ [q]
    ∧ q.amount = amount ∧ q.duration = dur ∧ q.purpose = p ∧ q.made = s.now) ∧
  (∀ (w : Island) (amount : Nat) (dur : Option Nat) (p : Purpose) (s : State), held s 4 = false → s.grd.pfw = false →
    s.grd.c3.length < 16 → s.grd.c2Aged = false → ∃ t, exec (.gourdRequest (.island .c3 w amount dur p)) s = .next t ∧ ∃ q, t.grd.c3 = s.grd.c3 ++ [q]
    ∧ q.amount = amount ∧ q.duration = some (min (dur.getD 250000) 250000) ∧ q.purpose = p ∧ q.made = s.now) ∧
  (∀ (w : Island) (amount : Nat) (dur : Option Nat) (p : Purpose) (s : State), held s 4 = false →
    (16 ≤ s.grd.c3.length ∨ s.grd.pfw = true ∨ s.grd.c2Aged = true) →
    ∃ t, exec (.gourdRequest (.island .c3 w amount dur p)) s = .next t ∧ t.grd.c3 = s.grd.c3) ∧
  (∀ (g : Fin 12) (s : State), ∃ t, exec (.groupCurrentMeasure g) s = .next t ∧ (groupBudget t g.val).above = (groupBudget s g.val).above
    ∧ (groupBudget t g.val).measured = ((groupChannels g.val).map (fun c => if isDo (modeOf s c) then (fe s c).aux.toNat * 2000
        else if isCurrent (modeOf s c) then (fe s c).value.toNat else 0)).sum / 2000 % 65536) ∧
  (∀ (mw : BitVec 16) (s : State), ∃ t, exec (.logicPowerMeasure mw) s = .next t ∧ t.grd.pMeas = mw.toNat) ∧
  (∀ s : State, c2AgeReached s = true → ∃ t, exec .c2AgeExpiry s = .next t ∧ t.grd.c2Aged = true ∧ t.grd.c3 = [] ∧ t.grd.c2 = s.grd.c2) ∧
  (∀ s : State, c2AgeReached s = false → exec .c2AgeExpiry s = .next s) ∧
  (∀ (c : Ctx) (first : BitVec 8) (count : BitVec 16) (s : State), ready s (.grantlogRead c first count) → 0 < count.toNat → count.toNat ≤ 256 →
    ∃ t, exec (.grantlogRead c first count) s = .next t ∧ replied s t c 0x0E02 .ok 0
      (((List.range count.toNat).filterMap (fun i => grantAt s ((first.toNat + i) % 256))).flatMap grantBytes) true)

/-- Whatever requests wait, of whatever classes and in whatever order, one decision of Gourd (R168) lifts no group's standing claims above 8,000 mA and no group's model above 12,000 mA (R170). -/
def Obligations.DecisionsKeepGroupLimits : Prop :=
  ∀ s : State, ∃ t, exec .gourdDecision s = .next t ∧ ∀ g < 12,
    (groupStanding s g ≤ 8000 → groupStanding t g ≤ 8000) ∧ (groupModel s g ≤ 12000 → groupModel t g ≤ 12000)

/-- Reports (R183, R186, R187, R191, Table GMU-5), aggregation (R188), grid events (R189; the entry's layout is the model's, log 53), stale input (R204) and the reads of Table CMD-12. -/
def Obligations.GridMeasurements : Prop :=
  (∀ (m : GmuMeasure) (s : State), ∃ t ps qs, exec (.gmuReport m) s = .next t ∧ ps = phasorsOf s m ∧ qs = allSequences ps
    ∧ t.gmu.phasors = ps ∧ t.gmu.sequences = qs ∧ (∀ k < 4, (setOf t k).freq = m.freqs.getD k 0)
    ∧ (∀ k < 2, (setOf t k).mag = (qs.getD k {}).positive.mag ∧ (setOf t k).angle = (qs.getD k {}).positive.angle)
    ∧ (∀ k, k = 2 ∨ k = 3 → (setOf t k).mag = (ps.getD (k + 4) {}).mag ∧ (setOf t k).angle = (ps.getD (k + 4) {}).angle)
    ∧ t.gmu.power = (List.range 4).map (fundamentalPower s ps qs) ∧ t.gmu.reportSeq = (s.gmu.reportSeq + 1) % 4294967296
    ∧ t.gmu.block = reportBlock t m.centre) ∧
  (∀ (v : PqValues) (s : State) (rms : List Nat), v.window = .cycles10 → rms = (List.range 16).map (fun i => scaleInput s i (v.rms.getD i 0)) →
    ∃ t, exec (.pqAggregate v) s = .next t ∧ t.gmu.pq10 =
      { time := s.now, flagged := s.gmu.refLost.testBit 0, valid := pqValid s .cycles10, rms := rms, power := (List.range 4).map (powerOf s rms v)
        unbalance := [unbalanceOf s 0, unbalanceOf s 1] }
    ∧ t.gmu.refLost.testBit 0 = false ∧ t.gmu.sumMinutes = s.gmu.sumMinutes.add rms (pqValid s .cycles10)
    ∧ (s.gmu.sum150.count < 15 → t.gmu.sum150 = s.gmu.sum150.add rms (pqValid s .cycles10))) ∧
  (∀ (v : PqValues) (s : State), v.window = .cycles150 →
    if s.gmu.sum150.count = 15 then ∃ t, exec (.pqAggregate v) s = .next t ∧ t.gmu.pq150 =
      { time := s.now, flagged := s.gmu.refLost.testBit 1, valid := pqValid s .cycles150 &&& s.gmu.sum150.valid, rms := s.gmu.sum150.rms }
      ∧ t.gmu.sum150.count = 0 ∧ t.gmu.refLost.testBit 1 = false
    else exec (.pqAggregate v) s = .next s) ∧
  (∀ (v : PqValues) (s : State), v.window = .minutes10 →
    if s.gmu.pqMinutes.time < minutesEnd s then ∃ t, exec (.pqAggregate v) s = .next t ∧ t.gmu.pqMinutes =
      { time := minutesEnd s, flagged := s.gmu.refLost.testBit 2, valid := pqValid s .minutes10 &&& s.gmu.sumMinutes.valid
        rms := s.gmu.sumMinutes.rms }
      ∧ t.gmu.sumMinutes.count = 0 ∧ t.gmu.refLost.testBit 2 = false
    else exec (.pqAggregate v) s = .next s) ∧
  (∀ (v : PqValues) (s : State), v.window = .frequency10s → ∃ t, exec (.pqAggregate v) s = .next t ∧ t.gmu.pqFreq =
      { time := s.now, flagged := s.gmu.refLost.testBit 3, valid := pqValid s .frequency10s
        frequency := s.gmu.freqSum / max 1 s.gmu.freqCount }
    ∧ t.gmu.freqSum = 0 ∧ t.gmu.freqCount = 0 ∧ t.gmu.refLost.testBit 3 = false) ∧
  (∀ (set : Fin 4) (phases : List Nat) (s : State), (setInputs set.val).all (phasorOk s) = true →
    storeGet (fun _ => none) s.gmu.dips set.val = none →
    phaseMask phases (fun v => decide (v < pqThreshold s set.val 4)) ≠ 0 → ∃ t, exec (.gridEvent set phases) s = .next t
    ∧ ∃ e, storeGet (fun _ => none) t.gmu.dips set.val = some e ∧ e.start = s.now
    ∧ e.mask = phaseMask phases (fun v => decide (v < pqThreshold s set.val 4)) ∧ e.closed = false) ∧
  (∀ (set : Fin 4) (phases : List Nat) (s : State) (e : GridEvent), (setInputs set.val).all (phasorOk s) = true → storeGet (fun _ => none) s.gmu.dips set.val = some e →
    storeGet (fun _ => none) s.gmu.swells set.val = none → e.closed = false → e.interruption = false → phases ≠ [] →
    (∀ v ∈ phases, pqThreshold s set.val 4 + 200 < v ∧ pqThreshold s set.val 6 ≤ v) → ∃ t, exec (.gridEvent set phases) s = .next t
    ∧ storeGet (fun _ => none) t.gmu.dips set.val = none ∧ t.gmu.eventNext = (s.gmu.eventNext + 1) % 32
    ∧ storeGet (fun _ => []) t.gmu.events s.gmu.eventNext =
        gridEntry 0 set.val e.mask e.start ((s.now - e.start) / 1000) (min e.extreme (phases.foldl min 65535))
    ∧ flagged s t Reg.gmuFlags 1) ∧
  (∀ s : State, inputStale s = true → s.gmu.staleSeen = false → ∃ t, exec .staleInput s = .next t ∧ t.gmu.staleSeen = true
    ∧ flagged s t Reg.gmuFlags 5) ∧
  (∀ s : State, inputStale s = false ∨ s.gmu.staleSeen = true → exec .staleInput s = .next s) ∧
  (∀ (c : Ctx) (every : BitVec 16) (s : State), ready s (.gmuSubscribe c every) → owner s = true → 0 < every.toNat → every.toNat ≤ 1000 →
    ∃ t, exec (.gmuSubscribe c every) s = .next t ∧ replied s t c 0x0701 .ok 0 [] false
    ∧ ∃ x ∈ t.cmd.subs, x.session = c.session.val ∧ x.opcode = 0x0701 ∧ x.param = every.toNat ∧ x.tag = c.tag.toNat) ∧
  (∀ (c : Ctx) (s : State), ready s (.gmuSubscribe c 0) → owner s = true → ∃ t, exec (.gmuSubscribe c 0) s = .next t
    ∧ replied s t c 0x0701 .ok 0 [] true
    ∧ ∀ x ∈ t.cmd.subs, ¬(x.session = c.session.val ∧ x.queue = c.queue.val ∧ x.opcode = 0x0701)) ∧
  (∀ (c : Ctx) (input : BitVec 8) (s : State), ready s (.harmRead c input) → input.toNat ≤ 15 → ∃ t, exec (.harmRead c input) s = .next t
    ∧ replied s t c 0x0706 .ok 0 (harmonicBytes s input.toNat) true) ∧
  (∀ (c : Ctx) (s : State), ready s (.gridEvents c) → ∃ t, exec (.gridEvents c) s = .next t
    ∧ replied s t c 0x0707 .ok 0 ((List.range 32).flatMap (gridEventBytes s)) true)

/-- The synchroscope (R193, R196, R197, Table GMU-8). -/
def Obligations.Synchroscope : Prop :=
  (∀ (r : Requester) (s : State), writable s Reg.gmuSyncCtrl → syncFree s = true → armRefusal s = none →
    ∃ t, exec (.gmuSyncArm r) s = .next t ∧ t.gmu.sync.state = 1 ∧ t.gmu.sync.closeCh = syncField s 6 2) ∧
  (∀ (r : Requester) (s : State) (o : Nat), writable s Reg.gmuSyncCtrl → syncFree s = true → armRefusal s = some o →
    ∃ t, exec (.gmuSyncArm r) s = .next t ∧ t.gmu.sync = s.gmu.sync ∧ flagged s t Reg.gmuFlags 8) ∧
  (∀ (r : Requester) (s : State), writable s Reg.gmuSyncCtrl → syncFree s = false → exec (.gmuSyncArm r) s = .next s) ∧
  (∀ (r : Requester) (s : State), writable s Reg.gmuSyncCtrl → ∃ t, exec (.gmuSyncDisarm r) s = .next t ∧ t.gmu.sync.state = 0
    ∧ t.gmu.sync.held = false ∧ t.gmu.sync.lockout = (s.gmu.sync.held || s.gmu.sync.lockout)) ∧
  (∀ (c : Ctx) (block : List Byte) (s : State), ready s (.syncArm c block) → owner s = true → syncFree s = true →
    armRefusal (setGmuBytes s 0x800 (block.take 24)) = none → ∃ t, exec (.syncArm c block) s = .next t
    ∧ replied s t c 0x0702 .ok 0 [] true ∧ t.gmu.sync.state = 1 ∧ t.gmu.sync.closeCh = syncField t 6 2) ∧
  (∀ (c : Ctx) (s : State), ready s (.syncDisarm c) → owner s = true → ∃ t, exec (.syncDisarm c) s = .next t
    ∧ lastReplied t c 0x0703 .ok 0 [] true ∧ t.gmu.sync.state = 0 ∧ t.gmu.sync.held = false) ∧
  (∀ s : State, s.gmu.sync.state = 3 → s.gmu.sync.frame ≤ s.now → owner s = true → ∃ t, exec .syncClose s = .next t
    ∧ t.gmu.sync.state = 4 ∧ t.gmu.sync.held = false ∧ t.gmu.sync.measuring = some s.gmu.sync.frame ∧ flagged s t Reg.gmuFlags 2) ∧
  (∀ s : State, s.gmu.sync.state = 2 → s.gmu.sync.held = true → owner s = true →
    s.gmu.sync.since + syncField s 22 2 * 1000000000 ≤ s.now → ∃ t, exec .syncTimeout s = .next t ∧ t.gmu.sync.state = 5
    ∧ t.gmu.sync.reason = 1 ∧ t.gmu.sync.held = false ∧ flagged s t Reg.gmuFlags 3)

/-- Triggers (R202 to R205) and releases (R207). -/
def Obligations.LoadShedding : Prop :=
  (∀ (n : Fin 32) (r : Requester) (s : State), writable s Reg.gmuShedCtrl → (trig s n.val).st = 0 → ∃ t, exec (.gmuTrigArm n r) s = .next t
    ∧ (trig t n.val).st = 1 ∧ (trig t n.val).timing = 0 ∧ regField t Reg.gmuShedCtrl 0 4 0 = n.val) ∧
  (∀ (n : Fin 32) (r : Requester) (s : State), writable s Reg.gmuShedCtrl → ∃ t, exec (.gmuTrigDisarm n r) s = .next t
    ∧ (trig t n.val).st = 0 ∧ regField t Reg.gmuShedCtrl 0 4 0 = n.val) ∧
  (∀ (c : Ctx) (n : BitVec 8) (s : State), ready s (.trigArm c n 0) → owner s = true → n.toNat ≤ 31 →
    (∃ t, exec (.trigArm c n 0) s = .next t ∧ (trig t n.toNat).st = 0
      ∧ replied s t c 0x0705 .ok 0 (leBytes 4 (trigState t n.toNat).toNat) true) ∧
    (ready s (.trigArm c n 1) → (trig s n.toNat).st = 0 → ∃ t, exec (.trigArm c n 1) s = .next t ∧ (trig t n.toNat).st = 1
      ∧ replied s t c 0x0705 .ok 0 (leBytes 4 (trigState t n.toNat).toNat) true)) ∧
  (∀ (n : Fin 32) (s : State), (trig s n.val).st = 2 → (trig s n.val).counting = true → trigValid s n.val = true →
    trigField s n.val 8 2 * 1000 ≤ (trig s n.val).timing → owner s = true → ∃ t, exec (.triggerFire n) s = .next t
    ∧ (trig t n.val).st = 3 ∧ (trig t n.val).firings = ((trig s n.val).firings + 1) % 65536 ∧
    ∀ m short, selectGroups s n.val = some (m, short) → paired s = true →
      ∃ x, t.own.outstanding = s.own.outstanding ++ [x] ∧ x.kind = .shed n.val m) ∧
  (∀ (n : Fin 32) (s : State) (m : Nat) (short : Bool), (trig s n.val).st = 2 → (trig s n.val).counting = true → trigValid s n.val = true →
    trigField s n.val 8 2 * 1000 ≤ (trig s n.val).timing → owner s = true → paired s = false →
    selectGroups s n.val = some (m, short) → ∃ t, exec (.triggerFire n) s = .next t ∧ t.gmu.shed = s.gmu.shed ||| m) ∧
  (∀ (n : Fin 32) (s : State), (trig s n.val).st = 3 → (trig s n.val).counting = true → trigValid s n.val = true →
    trigField s n.val 10 2 * 1000 ≤ (trig s n.val).timing → owner s = true → ∃ t, exec (.triggerReset n) s = .next t
    ∧ (trig t n.val).st = 1 ∧ (trig t n.val).counting = false) ∧
  (∀ (high : Bool) (v : Word) (r : Requester) (s : State), writable s (if high then Reg.gmuShedRelhi else Reg.gmuShedRello) →
    ∃ t, exec (.gmuShedRel high v r) s = .next t ∧
    if owner s then t.gmu.release = s.gmu.release ||| ((if high then v.toNat * 4294967296 else v.toNat) &&& s.gmu.shed)
    else flagged s t Reg.gmuFlags 8 ∧ t.gmu.release = s.gmu.release) ∧
  (∀ (c : Ctx) (mask : BitVec 64) (s : State), ready s (.shedRelease c mask) → owner s = true → ∃ t, exec (.shedRelease c mask) s = .next t
    ∧ waits t c ∧ t.gmu.release = s.gmu.release ||| (mask.toNat &&& s.gmu.shed)) ∧
  (∀ s : State, paired s = true → ∃ t, exec .shedReleaseApply s = .next t ∧ t.gmu.release = 0
    ∧ ∃ x, t.own.outstanding = s.own.outstanding ++ [x] ∧ x.kind = .release s.gmu.release s.gmu.releaseGen) ∧
  (∀ s : State, owner s = true → paired s = false → ∃ t, exec .shedReleaseApply s = .next t ∧ t.gmu.release = 0
    ∧ (∀ x ∈ t.cmd.executing, x.opcode = 0x0704 → s.gmu.releaseGen < x.subject) ∧ t.gmu.shed = s.gmu.shed &&& (18446744073709551615 - s.gmu.release % 18446744073709551616)) ∧
  (∀ s : State, owner s = false → ∃ t, exec .shedReleaseApply s = .next t ∧ t.gmu.release = 0 ∧ settled t 0x0704
    ∧ t.gmu.shed = s.gmu.shed)

/-- The safety cycle (R224, R230, R233): what is evaluated on, and that only what was evaluated on, and cross-checked, is commanded on. -/
def Obligations.SafeOutputsNeedEveryFunction : Prop :=
  ∀ (i : CycleInputs) (s : State), ∃ t, exec (.safetyCycle i) s = .next t ∧ t.wnt.image = s.wnt.inputs
    ∧ t.wnt.cycle = (s.wnt.cycle + 1) % 4294967296 ∧
    (∀ q < 8, t.wnt.cmd.testBit q = true → s.wnt.evaluated.testBit q = true
      ∧ (s.wnt.halfA = true → s.wnt.halfB = true → i.outDiff.getLsbD q = false)) ∧
    (owner s = true → ∀ q < 8, t.wnt.evaluated.testBit q = true → islandState t.wnt < 2 ∧ outFault t.wnt q = false
      ∧ ∀ f < 8, names t.wnt f q = true → allows t.wnt f q = true)

/-- Safe inputs (R217), latches (R219, R220), speeds (R221, R222) and the reset edge (R238, R239). -/
def Obligations.SafetyInputsAndReset : Prop :=
  (∀ (ch : Fin 16) (on : Bool) (s : State), (pairMode s.wnt (ch.val / 2) = 1 ∨ pairMode s.wnt (ch.val / 2) = 3 ∧ ch.val % 2 = 1) →
    ∃ t, exec (.safeInputChange ch on) s = .next t ∧ t.wnt.inputs.testBit ch.val = on
    ∧ ∀ k, k ≠ ch.val → t.wnt.inputs.testBit k = s.wnt.inputs.testBit k) ∧
  (∀ (p : Fin 8) (s : State), pairMode s.wnt p.val = 1 → (pairBits s.wnt.inputs p.val).1 ≠ (pairBits s.wnt.inputs p.val).2 →
    (spair s.wnt p.val).on = true → ∃ t, exec (.discrepancy p) s = .next t ∧ (spair t.wnt p.val).discrepancy = true
    ∧ (spair t.wnt p.val).on = false ∧ ∀ f < 8, defined s.wnt f = true → (demandMask s.wnt f).testBit p.val = true →
      (sfunc t.wnt f).st = 2 ∧ (sfunc t.wnt f).fault = true) ∧
  (∀ (p : Fin 8) (s : State), owner s = true → pairSrc s.wnt p.val = true → (pairMode s.wnt p.val = 1 ∨ pairMode s.wnt p.val = 3) →
    ∃ t, exec (.crossCircuit p) s = .next t ∧ (spair t.wnt p.val).cross = true ∧ (spair t.wnt p.val).on = false
    ∧ ∀ f < 8, defined s.wnt f = true → (demandMask s.wnt f).testBit p.val = true →
      (sfunc t.wnt f).st = 2 ∧ (sfunc t.wnt f).fault = true) ∧
  (∀ (b : Bool) (reads : BitVec 16) (s : State), conducting s = false → exec (.testSourceDark b reads) s = .next s) ∧
  (∀ (b : Bool) (reads : BitVec 16) (s : State), conducting s = true → ∃ t, exec (.testSourceDark b reads) s = .next t
    ∧ (if b then t.wnt.darkB else t.wnt.darkA) = some s.now ∧
    (owner s = true → 20 ∉ s.wnt.stops → ∀ k < 8, pairSrc s.wnt k = true → (pairMode s.wnt k = 1 ∨ pairMode s.wnt k = 3 ∧ b = true) →
      reads.getLsbD (2 * k + b2n b) = true → 1 ≤ (if b then (spair s.wnt k).darkOdd else (spair s.wnt k).darkEven) →
      (spair t.wnt k).cross = true)) ∧
  (∀ (i : Fin 2) (halfB : Bool) (s : State), pairMode s.wnt (6 + i.val) = 2 → ∃ t, exec (.speedPulse i halfB) s = .next t ∧
    if halfB then (speed t.wnt i.val).lastB = some s.now ∧ (speed t.wnt i.val).periodB = (speed s.wnt i.val).lastB.map (fun x => s.now - x)
    else (speed t.wnt i.val).lastA = some s.now ∧ (speed t.wnt i.val).periodA = (speed s.wnt i.val).lastA.map (fun x => s.now - x)) ∧
  (∀ (i : Fin 2) (s : State), pairMode s.wnt (6 + i.val) = 2 → ∃ t, exec (.speedDisc i) s = .next t
    ∧ (speed t.wnt i.val).disc = true ∧ ∀ f < 8, speedOf s.wnt f = some i.val →
      (sfunc t.wnt f).st = 2 ∧ (sfunc t.wnt f).fault = true) ∧
  (∀ s : State, s.wnt.halfB = true → hasReset s.wnt = true → resetHeldOff s.wnt = false → islandState s.wnt ≠ 2 →
    ∃ t, exec .resetEdge s = .next t ∧ t.wnt.locked = false ∧ ∀ f < 8, defined s.wnt f = true → (sfunc s.wnt f).st = 2 →
      (sfunc t.wnt f).st = (if faultStands (clearOutputs s.wnt) f || demandOff s.wnt f then 2 else 0)) ∧
  (∀ s : State, s.wnt.halfB = false ∨ hasReset s.wnt = false ∨ resetHeldOff s.wnt = true → exec .resetEdge s = .next s) ∧
  (∀ s : State, hasReset s.wnt = true → s.wnt.halfB = true → ∃ t, exec .resetJammed s = .next t ∧ t.wnt.resetJammed = true)

/-- Output faults (R225), supplies (R223, R226), dark and light tests (R227, R228) and the drive takeover of R232. -/
def Obligations.SafetyOutputsAndTests : Prop :=
  (∀ (q : Fin 8) (s : State), owner s = true → s.wnt.cmd.testBit q.val = true →
    (∃ t, exec (.safeOutputFault q .short) s = .next t ∧ (sout t.wnt q.val).short = true ∧ t.wnt.cmd.testBit q.val = false
      ∧ ∀ f < 8, names s.wnt f q.val = true → (sfunc t.wnt f).st = 2 ∧ (sfunc t.wnt f).fault = true) ∧
    ((if q.val < 4 then s.wnt.supply0 else s.wnt.supply1) = true → ∃ t, exec (.safeOutputFault q .mismatchLow) s = .next t
      ∧ (sout t.wnt q.val).mismatchLow = true ∧ t.wnt.cmd.testBit q.val = false
      ∧ ∀ f < 8, names s.wnt f q.val = true → (sfunc t.wnt f).st = 2 ∧ (sfunc t.wnt f).fault = true)) ∧
  (∀ (q : Fin 8) (s : State), owner s = true → s.wnt.cmd.testBit q.val = false →
    ∃ t, exec (.safeOutputFault q .mismatchHigh) s = .next t ∧ (sout t.wnt q.val).mismatchHigh = true
    ∧ (if q.val < 4 then t.wnt.groupOpen0 else t.wnt.groupOpen1) = true
    ∧ ∀ r < 8, (r < 4 ↔ q.val < 4) → t.wnt.cmd.testBit r = false
      ∧ ∀ f < 8, names s.wnt f r = true → (sfunc t.wnt f).st = 2 ∧ (sfunc t.wnt f).fault = true) ∧
  (∀ (g : Fin 2) (s : State), ∃ t, exec (.qsupMissing g) s = .next t ∧ (if g.val = 0 then t.wnt.supply0 else t.wnt.supply1) = false
    ∧ ∀ q < 8, (supplyMask g.val).testBit q = true → t.wnt.cmd.testBit q = false
      ∧ ∀ f < 8, names s.wnt f q = true → (sfunc t.wnt f).st = 2) ∧
  (∀ (g : Fin 2) (s : State), ∃ t, exec (.qsupOk g) s = .next t ∧ (if g.val = 0 then t.wnt.supply0 else t.wnt.supply1) = true
    ∧ t.wnt.cmd = s.wnt.cmd ∧ t.wnt.funcs = s.wnt.funcs) ∧
  (∀ (q : Fin 8) (s : State), owner s = true → safeOutputOn s q.val = true → (sout s.wnt q.val).due ≤ s.now → groupQuiet s q.val = true →
    ∃ t, exec (.darkTest q) s = .next t ∧ (sout t.wnt q.val).test = (if (sout s.wnt q.val).seriesNext then 2 else 1)
    ∧ (sout t.wnt q.val).seriesNext = !(sout s.wnt q.val).seriesNext ∧ (sout t.wnt q.val).tested = s.now) ∧
  (∀ (q : Fin 8) (readback : Bool) (s : State), ((sout s.wnt q.val).test = 1 ∨ (sout s.wnt q.val).test = 2) →
    ∃ t, exec (.darkTestEnd q readback) s = .next t ∧ (sout t.wnt q.val).test = 0 ∧ (sout t.wnt q.val).testFail =
      ((sout s.wnt q.val).testFail || (readback && s.wnt.cmd.testBit q.val))
    ∧ (readback = true → t.wnt.cmd.testBit q.val = false)) ∧
  (∀ (q : Fin 8) (s : State), owner s = true → conducting s = true → (sout s.wnt q.val).lightDue ≤ s.now → lightOf s.wnt q.val ≠ 0 → s.wnt.cmd.testBit q.val = false →
    (∀ f < 8, names s.wnt f q.val = true → (sfunc s.wnt f).st ≠ 1) → outFault s.wnt q.val = false → groupReady s.wnt q.val = true →
    groupQuiet s q.val = true → ∃ t, exec (.lightTest q) s = .next t ∧ (sout t.wnt q.val).test = 3) ∧
  (∀ (q : Fin 8) (readback : Bool) (s : State), (sout s.wnt q.val).test = 3 → ∃ t, exec (.lightTestEnd q readback) s = .next t
    ∧ (sout t.wnt q.val).test = 0 ∧ (sout t.wnt q.val).testFail = ((sout s.wnt q.val).testFail || !readback)) ∧
  (∀ (opened : BitVec 8) (s : State), (s.wnt.halfA && s.wnt.halfB) = false → ∃ t, exec (.halfDriveTakeover opened) s = .next t
    ∧ ∀ q < 8, opened.getLsbD q = true → t.wnt.cmd.testBit q = false ∧ ∀ f < 8, names s.wnt f q = true → (sfunc t.wnt f).st = 2)

/-- Half failures (R231, R232, R241), T_MAX (R235), messages (R245) and parameters (R250, R251, R322). -/
def Obligations.SafetyHalvesMessagesAndParameters : Prop :=
  (∀ (aOk bOk : Bool) (s : State), s.wnt.crosscheck = true → ∃ t, exec (.halfSelftestDone aOk bOk) s = .next t
    ∧ t.wnt.halfA = (s.wnt.halfA && aOk) ∧ t.wnt.halfB = (s.wnt.halfB && bOk) ∧ (aOk = bOk → 5 ∈ t.wnt.stops)) ∧
  (∀ s : State, (s.wnt.halfA = true → ∃ t, exec (.halfFail false) s = .next t ∧ t.wnt.halfA = false ∧
      if s.wnt.halfB then t.wnt.failTime = some (s.wnt.failTime.getD s.now) else 5 ∈ t.wnt.stops) ∧
    (s.wnt.halfB = true → ∃ t, exec (.halfFail true) s = .next t ∧ t.wnt.halfB = false ∧
      if s.wnt.halfA then t.wnt.failTime = some (s.wnt.failTime.getD s.now) else 5 ∈ t.wnt.stops)) ∧
  (∀ (s : State) (f : Nat), s.wnt.failTime = some f → f + wparam s.wnt 24 4 * 60000000000 ≤ s.now → 6 ∉ s.wnt.stops → ∃ t, exec .degradedExpiry s = .next t ∧ 6 ∈ t.wnt.stops
    ∧ islandState t.wnt = 2) ∧
  (∀ (f : Fin 8) (s : State), tmaxReached s.wnt f.val s.now = true → ∃ t, exec (.ss1Tmax f) s = .next t ∧ (sfunc t.wnt f.val).st = 2) ∧
  (∀ (msg : List Byte) (set : Option (List Byte)) (s : State), ∃ t, exec (.safety msg set) s = .next t ∧
    if messageOk s msg then t.wnt.lastMsg = msg ∧ t.wnt.seqIn = some (msgField msg 0 4) ∧ t.wnt.partnerOk = true ∧ t.wnt.lost = 0
    else t.wnt.lastMsg = s.wnt.lastMsg ∧ t.wnt.msgErr = min 65535 (s.wnt.msgErr + 1) ∧ t.wnt.funcs = s.wnt.funcs) ∧
  (∀ (c : Ctx) (set : List Byte) (s : State), readyFor s c 0x0801 6 (.safeParamLoad c set) → owner s = true → safetySender s c = true → s.wnt.pendingSet = none →
    setCrcOk set = true → setOffence set = none → ∃ t, exec (.safeParamLoad c set) s = .next t ∧ 3 ∈ t.wnt.stops
    ∧ t.wnt.pendingSet = some { bytes := set, queue := c.queue.val, session := c.session.val, replied := s.now } ∧
    if s.pair.role = .active ∧ s.wnt.partnerOk = true ∧ s.pair.link = .ready then waits t c
    else replied s t c 0x0801 .ok 0 (loadReply set 0) true) ∧
  (∀ (c : Ctx) (crc : BitVec 32) (setId : List Byte) (s : State) (p : PendingSet), readyFor s c 0x0802 6 (.safeParamConfirm c crc setId) → owner s = true →
    safetySender s c = true → s.wnt.pendingSet = some p → loadWaits s = false → p.session = c.session.val → crc.toNat = blockField p.bytes 252 4 →
    (p.partnerCrc = 0 ∨ p.partnerCrc = crc.toNat) → setId = (p.bytes.drop 8).take 16 → ∃ t, exec (.safeParamConfirm c crc setId) s = .next t
    ∧ t.wnt.pendingSet = none ∧ t.wnt.copyA1 = p.bytes ∧ t.wnt.copyA2 = p.bytes ∧ t.wnt.copyB1 = p.bytes ∧ t.wnt.copyB2 = p.bytes
    ∧ lastReplied t c 0x0802 .ok 0 [] true) ∧
  (∀ (c : Ctx) (s : State) (p : PendingSet), readyFor s c 0x0803 6 (.safeParamAbort c) → owner s = true → safetySender s c = true → s.wnt.pendingSet = some p →
    p.session = c.session.val → ∃ t, exec (.safeParamAbort c) s = .next t ∧ t.wnt.pendingSet = none
    ∧ t.wnt.copyA1 = s.wnt.copyA1 ∧ lastReplied t c 0x0803 .ok 0 [] true) ∧
  (∀ (s : State) (p : PendingSet), s.wnt.pendingSet = some p → p.session ≠ mirrorSession → loadWaits s = false → p.replied + 120000000000 ≤ s.now → ∃ t, exec .safeParamExpiry s = .next t
    ∧ t.wnt.pendingSet = none ∧ t.wnt.copyA1 = s.wnt.copyA1) ∧
  (∀ (c : Ctx) (s : State), ready s (.safeRead c 0) → ∃ t, exec (.safeRead c 0) s = .next t
    ∧ replied s t c 0x0804 .ok 0 (s.wnt.shown.map (fun x => leBytes 4 x.toNat)).flatten true)

/-- Training, IDENT, CHECK, NAK, ALIGN and lane retirement (R258 to R263, R275). -/
def Obligations.LinkTrainingAndLanes : Prop :=
  (∀ (ms : List LaneMeasure) (s : State), ∃ t, exec (.trainPhaseDone ms) s = .next t ∧
    (s.pair.link = .detect → three (liveLanes s ms) (fun m => m.detected) = true → t.pair.link = .speed) ∧
    (s.pair.link = .speed → three (liveLanes s ms) (fun m => m.lock12) = true → t.pair.link = .eq ∧ t.pair.speed = 2) ∧
    (s.pair.link = .speed → three (liveLanes s ms) (fun m => m.lock12) = false → regField s Reg.ppdCfg 0 1 1 = 1 →
      three (liveLanes s ms) (fun m => m.lock6) = true → t.pair.link = .eq ∧ t.pair.speed = 1) ∧
    (s.pair.link = .eq → three (liveLanes s ms) eyeOk = true → t.pair.link = .align) ∧
    (s.pair.link = .align → three (liveLanes s ms) (fun m => eyeOk m && m.aligned) = true → t.pair.link = .ident)) ∧
  (∀ s : State, ∃ t, exec .trainFail s = .next t ∧
    if s.pair.link = .down ∨ s.pair.link = .ready ∨ s.pair.link = .identFail then t = s
    else t.pair.link = .detect ∧ t.pair.speed = 0 ∧ t.pair.hbOk = false) ∧
  (∀ (d : IdentData) (s : State), ∃ t, exec (.ident d) s = .next t ∧
    (s.pair.link ≠ .ident → t = s) ∧
    (s.pair.link = .ident → identOk s d = true → t.pair.link = .ready ∧ t.pair.ident = some d
      ∧ (s.pair.role = .orphan → t.pair.role = .syncing) ∧ (s.pair.role ≠ .orphan → t.pair.role = s.pair.role)) ∧
    (s.pair.link = .ident → identOk s d = false → t.pair.link = .identFail ∧ flagged s t Reg.ppdFlags 6
      ∧ (s.sup.sideB = true ∨ s.pair.partnerLine = true → t.pair.role = .offline))) ∧
  (∀ (k : Fin 5) (number : Byte) (crcOk : Bool) (s : State), (lane s k.val).state = 2 → ∃ t, exec (.check k number crcOk) s = .next t ∧
    if crcOk = true ∧ number.toNat = (lane s k.val).nextCheck
    then (lane t k.val).nextCheck = ((lane s k.val).nextCheck + 1) % 256 ∧ t.pair.outbox = s.pair.outbox
    else (lane t k.val).checkErrors = (lane s k.val).checkErrors + 1 ∧ (lane t k.val).nextCheck = (lane s k.val).nextCheck
      ∧ (s.pair.link = .ready → held s 7 = false → t.pair.outbox = s.pair.outbox ++ [.nak k.val (lane s k.val).nextCheck])) ∧
  (∀ (k : Fin 5) (number : Byte) (s : State), (lane s k.val).state = 2 → ∃ t, exec (.nak k number) s = .next t
    ∧ counter t Reg.ppdSnapReplay 0 = counter s Reg.ppdSnapReplay 0 + 1
    ∧ (s.pair.link = .ready → held s 7 = false → t.pair.outbox = s.pair.outbox ++ [.replay k.val number.toNat])) ∧
  (∀ (k : Fin 5) (logical : BitVec 2) (skew : Nat) (s : State), k.val < s.pair.lanes.length →
    ∃ t, exec (.align k logical skew) s = .next t ∧ (lane t k.val).skew = if skew ≤ 32 then skew else (lane s k.val).skew) ∧
  (∀ (k : Fin 5) (s : State), ((lane s k.val).state = 2 ∨ (lane s k.val).state = 3 ∨ (lane s k.val).state = 5 ∧ k.val ∉ s.pair.retrain) →
    ∃ t, exec (.laneRetired k) s = .next t ∧ (lane t k.val).state = 4 ∧ flagged s t Reg.ppdFlags 4 ∧ ((lane s k.val).state = 2 →
      ∀ sp, laneIn s 3 = some sp → regField s Reg.ppdCfg 0 0 0 = 1 →
        (lane t sp).state = 5 ∧ (lane t sp).logical = (lane s k.val).logical)) ∧
  (∀ (k : Fin 5) (s : State), (lane s k.val).state = 5 → ∃ t, exec (.laneSprouted k) s = .next t ∧
    if (lane s k.val).logical < 4 then (lane t k.val).state = 2 ∧ flagged s t Reg.ppdFlags 5 else (lane t k.val).state = 3) ∧
  (∀ (r : Requester) (s : State), writable s Reg.ppdCtrl → ∃ t, exec (.ppdRetrainRetired r) s = .next t ∧
    (∀ k, laneIn s 5 = none → laneIn s 4 = some k → (lane t k).state = 5 ∧ (lane t k).logical = openLogical s ∧ k ∉ t.pair.retrain)
    ∧ (∀ j, laneIn s 5 ≠ none → (j ∈ t.pair.retrain ↔ j < 5 ∧ (lane s j).state = 4))
    ∧ (laneIn s 5 ≠ none ∨ laneIn s 4 = none → t.pair.lanes = s.pair.lanes)) ∧
  (∀ s : State, ∃ t, exec .linkSpeedRetry s = .next t ∧
    if s.pair.speedHeld = true ∧ s.pair.link = .ready then t.pair.link = .detect ∧ t.pair.hbOk = false else t = s)

/-- The role decision (R256), heartbeats and owner lines (R264 to R267) and ORPHAN (R270). -/
def Obligations.RolesAndOwnerLineFaults : Prop :=
  (∀ (together : Bool) (s : State), s.pair.role = .offline → s.pair.decided = false → 9 ≤ s.sup.step → panelSettled s = true →
    ∃ t, exec (.roleDecision together) s = .next t ∧
    (s.pair.link = .ready → s.pair.partnerRole ≤ 1 → t.pair.role = .syncing ∧ t.sup.step = 11) ∧
    (s.pair.link = .ready → 1 < s.pair.partnerRole → together = true →
      t.pair.role = if goesFirst s then .active else .syncing) ∧
    (s.pair.link ≠ .ready → roleWaited s = false → t = s) ∧
    (s.pair.link ≠ .ready → roleWaited s = true → s.pair.partnerLine = true → t.pair.role = .orphan) ∧
    (s.pair.link ≠ .ready → roleWaited s = true → s.pair.partnerLine = false → t.pair.role = .alone ∧ t.sup.step = 12 ∧ t.own.ownDriven = true)) ∧
  (∀ s : State, ∃ t, exec .orphanRetrain s = .next t ∧ (s.pair.role ≠ .orphan → t = s)
    ∧ (s.pair.role = .orphan → s.pair.link = .ready → t.pair.role = .syncing)
    ∧ (s.pair.role = .orphan → s.pair.link ≠ .ready → t.pair.role = .orphan ∧ t.pair.link = .detect)) ∧
  (∀ (r : Requester) (s : State), writable s Reg.ppdCtrl → ∃ t, exec (.claim r) s = .next t ∧
    if s.pair.role = .orphan ∧ s.pair.partnerEdge + 1000000000 ≤ s.now then t.pair.role = .alone ∧ t.pair.cause = 10
    else t.pair.role = s.pair.role ∧ flagged s t Reg.ppdFlags 11) ∧
  (∀ (r : Requester) (s : State), writable s Reg.ppdCtrl → ∃ t, exec (.goOffline r) s = .next t ∧ t.pair.role = .offline
    ∧ t.pair.decided = true ∧ (s.pair.role ≠ .offline ∨ s.pair.decided = false → t.pair.cause = 10)
    ∧ (s.pair.role ≠ .offline → t.own.ownDriven = false)) ∧
  (∀ (h : HeartbeatBlock) (s : State), ∃ t, exec (.heartbeat h) s = .next t ∧ (s.pair.link ≠ .ready → t = s) ∧
    (s.pair.link = .ready → t.pair.hbOk = true ∧ t.pair.hbCount = h.count.toNat ∧ t.pair.hbNsec = h.nsec.toNat
      ∧ t.pair.partnerRole = roleCode h.role ∧ t.pair.partnerStation = h.station.toNat ∧ t.pair.partnerFault = h.faultPending
      ∧ (s.pair.role = .active → (h.role = .offline ∨ h.role = .orphan) → t.pair.role = .alone)
      ∧ t.pair.hbLag = lagOf s h.nsec.toNat
      ∧ (s.pair.role = .alone → h.role = .syncing → t.pair.role = if 3 ≤ lanesInService s then .active else .alone))) ∧
  (∀ s : State, s.pair.link = .ready → held s 7 = false → ∃ t, exec .heartbeatSend s = .next t
    ∧ t.pair.outbox = s.pair.outbox ++ List.replicate (lanesInService s) (.heartbeat (ownHeartbeat s)) ∧ t.pair.hbSent = (s.pair.hbSent + 1) % 256) ∧
  (∀ s : State, ∃ t, exec .heartbeatLost s = .next t ∧ (s.pair.hbOk = false → t = s) ∧
    (s.pair.hbOk = true → t.pair.link = .detect ∧ t.pair.hbOk = false ∧ t.pair.partnerRole = 7
      ∧ (s.pair.role = .active → t.pair.role = .alone ∧ t.pair.cause = 11)
      ∧ (follower s = true → s.pair.partnerLine = true → t.pair.role = .orphan ∧ t.pair.cause = 12)
      ∧ (follower s = true → s.pair.partnerLine = false → s.sup.pfw = false → t.pair.role = .alone ∧ t.pair.cause = 3)
      ∧ (follower s = true → s.pair.partnerLine = false → s.sup.pfw = true → t.pair.role = s.pair.role))) ∧
  (∀ s : State, ∃ t, exec .partnerLineReleased s = .next t ∧ t.pair.partnerLine = false ∧
    if follower s = true ∧ s.pair.hbOk = false ∧ s.sup.pfw = false then t.pair.role = .alone else t.pair.role = s.pair.role) ∧
  (∀ s : State, ∃ t, exec .ownLineFault s = .next t ∧
    if owner s = true ∧ s.own.ownDriven = true then t.pair.role = .offline ∧ t.exe.station = .fault ∧ t.own.ownDriven = false
    else t = s) ∧
  (∀ s : State, ∃ t, exec .ownerLineFault s = .next t ∧
    if s.pair.role = .standby ∧ s.pair.hbOk = true ∧ s.pair.partnerLine = false
    then t.pair.role = .standby ∧ flagged s t Reg.ppdFlags 7 else t = s)

/-- FAULT, HANDOVER, YIELD, ROLE and TIME (R258, R263, R266, R277, R364, Table PPD-2). -/
def Obligations.PairMessages : Prop :=
  (∀ s : State, ∃ t, exec .faultMessage s = .next t ∧ t.pair.partnerRole = 6 ∧ t.pair.partnerFault = true
    ∧ (s.pair.role = .active → t.pair.role = .alone ∧ t.pair.cause = 11)
    ∧ ((s.pair.role = .standby ∨ s.pair.role = .preparing) → s.sup.pfw = false → t.pair.role = .alone ∧ t.pair.cause = 4)
    ∧ ((s.pair.role = .standby ∨ s.pair.role = .preparing) → s.sup.pfw = true → t.pair.role = s.pair.role)
    ∧ (s.pair.role = .syncing → t.pair.role = .syncing)) ∧
  (∀ (b : Nat) (s : State), ∃ t, exec (.handoverPrepare b) s = .next t ∧
    if s.pair.role = .standby ∨ s.pair.role = .preparing then t.pair.prepared = some b
      ∧ (s.pair.link = .ready → held s 7 = false → t.pair.outbox = s.pair.outbox ++ [.prepareAck b])
    else t = s) ∧
  (∀ s : State, ∃ t, exec .handoverMessage s = .next t ∧
    (s.pair.role = .standby → t.pair.role = .active ∧ t.pair.cause = 5 ∧ t.pair.partnerRole = 2 ∧ t.pair.streaming = true) ∧
    (s.pair.role = .preparing → t.pair.role = .active ∧ t.pair.cause = 5 ∧ t.pair.partnerRole = 3 ∧ t.pair.streaming = false
      ∧ t.pair.phase = 2) ∧
    (s.pair.role ≠ .standby → s.pair.role ≠ .preparing → t = s)) ∧
  (∀ s : State, ∃ t, exec .yield s = .next t ∧
    (s.pair.role = .standby ∨ s.pair.role = .preparing → t.pair.role = .active ∧ t.pair.cause = 17 ∧ t.pair.partnerRole = 3
      ∧ t.pair.streaming = false ∧ (t.pair.phase = 1 ∨ t.pair.phase = 2)) ∧
    (s.pair.role ≠ .standby → s.pair.role ≠ .preparing → t = s)) ∧
  (∀ (note : RoleNote) (s : State), note.swap = .none → ∃ t, exec (.roleMessage note) s = .next t
    ∧ t.pair.partnerRole = roleCode note.role ∧ t.pair.partnerNoSpare = note.noSpare
    ∧ (s.pair.role = .standby → t.pair.role = if note.role = .alone then .syncing else .standby)) ∧
  (∀ (choice : ForceChoice) (hash : Nat) (noSpare : Bool) (s : State), s.pair.role = .standby →
    ∃ t, exec (.roleMessage { role := .active, noSpare := noSpare, swap := .prepare choice hash }) s = .next t ∧
    if newImageCommitted s = true ∧ s.exe.slotA.map (·.hash) = some hash
    then t.pair.role = .preparing ∧ t.pair.cause = 15 ∧ t.pair.swapChoice = choice ∧ t.pair.swapReady = false
    else t.pair.role = .standby ∧ (s.pair.link = .ready → held s 7 = false →
      t.pair.outbox = s.pair.outbox ++ [roleStamp s (.role { role := .standby, swap := .cancel })])) ∧
  (∀ (step : Int) (instant : Nat) (s : State), ∃ t, exec (.timeMessage step instant) s = .next t
    ∧ t.net.step = (if owner s then s.net.step else some (step, instant)) ∧ t.now = s.now)

/-- The state copy (R271 to R273), resynchronisation (R276) and pair time (R280). -/
def Obligations.StateCopyAndResynchronisation : Prop :=
  (∀ (tag : Byte) (mask region : BitVec 4) (index : BitVec 24) (data : List Byte) (content : CopyContent) (s : State),
    ∃ t, exec (.line tag mask region index data content) s = .next t ∧ (follower s = false → t = s) ∧
    (follower s = true → tag.toNat ≠ 0x3F → t = { s with
      pair := { s.pair with log := s.pair.log ++ [.line tag.toNat region.toNat index.toNat mask.toNat data content] } })) ∧
  (∀ (tag : Byte) (loop : BitVec 12) (seq : Nat) (data : List Byte) (s : State), tag.toNat ≠ 0x3F →
    ∃ t, exec (.hrec tag loop false seq data) s = .next t ∧ t = if follower s then
      { s with pair := { s.pair with log := s.pair.log ++ [.hrec tag.toNat loop.toNat data] } } else s) ∧
  (∀ (tag : Byte) (loop : BitVec 12) (seq : Nat) (data : List Byte) (s : State), follower s = true →
    ∃ t, exec (.hrec tag loop true seq data) s = .next t ∧ t.pair.logged = seq
    ∧ (s.pair.link = .ready → held s 7 = false → t.pair.outbox = s.pair.outbox ++ [.ack seq (lanesInService s)]) ∧ ∀ e ∈ t.pair.log, entryTag e ≠ tag.toNat) ∧
  (∀ (tag : Byte) (data : List Byte) (content : CopyContent) (s : State), tag.toNat ≠ 0x3F →
    ∃ t, exec (.irec tag data content) s = .next t ∧ t = if follower s then
      { s with pair := { s.pair with log := s.pair.log ++ [.irec tag.toNat data content] } } else s) ∧
  (∀ (tag : Byte) (seq : Nat) (s : State), ∃ t, exec (.commit tag seq) s = .next t ∧ (follower s = false → t = s) ∧
    (follower s = true → t.pair.logged = seq ∧ (s.pair.link = .ready → held s 7 = false → t.pair.outbox = s.pair.outbox ++ [.ack seq (lanesInService s)])
      ∧ t.pair.log = s.pair.log.filter (fun e => decide (entryTag e ≠ tag.toNat)))) ∧
  (∀ s : State, ∃ t, exec .pendingLogFull s = .next t ∧
    (s.pair.role = .standby → t.pair.role = .syncing ∧ t.pair.cause = 6 ∧ t.pair.log = []) ∧
    (s.pair.role = .active → t.pair.role = .alone ∧ t.pair.cause = 6 ∧ flagged s t Reg.ppdFlags 3)) ∧
  (∀ (marked : Nat) (s : State), s.pair.role = .syncing → ∃ t, exec (.resyncPhaseDone marked none) s = .next t
    ∧ (s.pair.phase = 2 ∨ s.pair.phase = 3 → t.pair.phase = 3 ∧ t.pair.remain = marked)) ∧
  (∀ (marked : Nat) (im : Image) (s : State), s.pair.role = .syncing → s.pair.phase = 1 →
    ∃ t, exec (.resyncPhaseDone marked (some im)) s = .next t ∧
    if imageRefusal s im none = none then t.pair.phase = 2 ∧ t.pair.role = .syncing ∧ t.exe.image = some im ∧ t.exe.slotA = some im
    else t.pair.role = .offline ∧ t.pair.phase = 0) ∧
  (∀ (marked : Nat) (image : Option Image) (s : State), s.pair.role = .active → s.pair.streaming = false → s.pair.streamNext = false →
    ∃ t, exec (.resyncPhaseDone marked image) s = .next t ∧
    (s.pair.phase = 1 → t.pair.phase = 2 ∧ t.pair.remain = marked) ∧ (s.pair.phase = 2 → t.pair.phase = 3 ∧ t.pair.remain = marked) ∧
    (s.pair.phase = 3 → t.pair.phase = 3 ∧ t.pair.streaming = false ∧ t.pair.streamNext = decide (marked ≤ 1024)
      ∧ t.pair.remain = if marked ≤ 1024 then 0 else marked)) ∧
  (∀ s : State, ∃ t, exec .pairSynced s = .next t ∧
    (s.pair.role = .syncing → s.pair.phase = 3 → t.pair.role = .standby ∧ t.pair.cause = 13 ∧ t.pair.phase = 0) ∧
    (paired s = true → s.pair.phase = 3 → (writerTags s).all (fun n => s.pair.ackedTags.contains n) = true →
      t.pair.phase = 0 ∧ flagged s t Reg.ppdFlags 8)) ∧
  (∀ (offset : Int) (s : State), ∃ t, exec (.pairTimeOffset offset) s = .next t ∧ t.pair.offset = offset ∧
    t.pair.linkDelay = 16 * s.pair.hbLag - offset ∧ (follower s = true → t.pair.newcomer = false) ∧
    (offset.natAbs ≤ 320 → t.pair.diverged = false ∧ t.pair.divergedSince = none) ∧
    (∀ d, 320 < offset.natAbs → s.pair.divergedSince = some d → d + 1000000000 ≤ s.now → s.pair.diverged = false →
      t.pair.diverged = true ∧ flagged s t Reg.ppdFlags 9) ∧
    (follower s = true → s.pair.newcomer = true → roundDiv offset 16 ≠ 0 →
      t.net.initStepped = true ∧ t.now = shiftTime (- roundDiv offset 16) s.now) ∧
    ((follower s = false ∨ s.pair.newcomer = false ∨ roundDiv offset 16 = 0) → t.now = s.now))

/-- The canonical form of the two memories of the memory island (R282, R283, R296) is kept by every command, resets included. -/
def Obligations.EveryStepKeepsMemoryCanonical : Prop :=
  ∀ s t : State, s.mem.wf = true → step s = .next t → t.mem.wf = true

/-- Reads (R284 to R286, R292) and writes (R287) of the SRAM. -/
def Obligations.ReadsCorrectAndWritesMerge : Prop :=
  (∀ (w : Fin 3670016) (u : MemUpset) (s : State), ∃ t, exec (.memoryRead w u) s = .next t
    ∧ (∀ k, k ≠ w.val → memWord t k = memWord s k)
    ∧ (readsClean s u w.val → memWord t w.val = memWord s w.val ∧ t.pair = s.pair
      ∧ t.mem.answer = some (bytes (correctedData s w.val (memWord s w.val) .clean)))
    ∧ (u.wrong = none → decodeWord s w.val (flipWord (memWord s w.val) u.flips) = .failed → t.pair.role = .offline
      ∧ t.exe.station = .fault ∧ t.own.ownDriven = false ∧ t.mem.answer = none)
    ∧ (∀ es, u.wrong = none → u.stuck = [] → decodeWord s w.val (flipWord (memWord s w.val) u.flips) = .errors es →
      memWord t w.val = laneSymbols w.val (correctedData s w.val (flipWord (memWord s w.val) u.flips) (.errors es))
        (region s (regionOf w.val)).retired
      ∧ (correctedLanes s w.val (.errors es) ≠ [] → flagged s t Reg.memFlags 0
        ∧ counter t (corrCounter (regionOf w.val)) 0 = counter s (corrCounter (regionOf w.val)) 0 + 1))) ∧
  (∀ (addr : Nat) (data : List Byte) (u : MemUpset) (s : State), ∃ t, exec (.memoryWrite addr data u) s = .next t
    ∧ (data = [] → t = s)
    ∧ (∀ k, k < addr / 16 ∨ (addr + data.length - 1) / 16 < k → memWord t k = memWord s k)
    ∧ (∀ k, k < 3670016 → addr = 16 * k → data.length = 16 →
      memWord t k = laneSymbols k (nats data) (region s (regionOf k)).retired ∧ t.pair = s.pair)
    ∧ (∀ k, k < 3670016 → data ≠ [] → data.length < 16 → addr / 16 = k → (addr + data.length - 1) / 16 = k → readsClean s u k →
      memWord t k = laneSymbols k (mergedBytes addr data k (correctedData s k (memWord s k) .clean)) (region s (regionOf k)).retired)
    ∧ (∀ k, k < 3670016 → data ≠ [] → data.length < 16 → addr / 16 = k → (addr + data.length - 1) / 16 = k → u.wrong = none →
      decodeWord s k (flipWord (memWord s k) u.flips) = .failed →
      memWord t k = flipWord (memWord s k) u.flips ∧ t.mem.answer = none ∧ t.exe.station = .fault))

/-- Scrubbers (R289 to R291), lane copies (R294) and hour counts (R292). -/
def Obligations.ScrubbersAndLaneCopies : Prop :=
  (∀ (r : Fin 4) (u : MemUpset) (s : State), ∃ t, exec (.scrubStep r u) s = .next t
    ∧ storeGet (fun _ => 0) t.mem.scrubAt r.val = (storeGet (fun _ => 0) s.mem.scrubAt r.val + 1) % regionSize r.val
    ∧ ∀ k, k ≠ regionBase r.val + storeGet (fun _ => 0) s.mem.scrubAt r.val → memWord t k = memWord s k) ∧
  (∀ s : State, ∃ t, exec .imageScrubLap s = .next t ∧ t.mem.lapMs = min ((s.now - s.mem.lapStart) / 1000000) 4294967295
    ∧ t.mem.lapStart = s.now ∧ t.mem.lapRaised = false ∧ t.mem.lapCfg = reg s Reg.memScrubCfg 0
    ∧ storeGet (fun _ => 0) t.mem.scrubAt 0 = 0 ∧
    if field s.mem.lapCfg 31 16 * 1000000 < s.now - s.mem.lapStart
    then (s.mem.lapRaised = false → t.mem.lapAlarm = true ∧ flagged s t Reg.memFlags 4)
    else t.mem.lapAlarm = false) ∧
  (∀ s : State, ∃ t, exec .scrubLapAlarm s = .next t ∧ (s.mem.lapRaised = true → t = s)
    ∧ (s.mem.lapRaised = false → t.mem.lapAlarm = true ∧ t.mem.lapRaised = true ∧ flagged s t Reg.memFlags 4)) ∧
  (∀ (r : Fin 4) (s : State), ∃ t, exec (.accelPassDone r) s = .next t ∧ (region t r.val).accel = none ∧ ((region s r.val).accel = none → t = s)
    ∧ ((region s r.val).accel ≠ none → (region t r.val).recent = [])
    ∧ (region t r.val).retired = (region s r.val).retired ∧ ∀ q, q ≠ r.val → region t q = region s q) ∧
  (∀ (r : Fin 4) (u : MemUpset) (s : State) (p : Nat), (region s r.val).copying = some p → p < regionSize r.val →
    readsClean s u (regionBase r.val + p) → ∃ t, exec (.laneCopyStep r u) s = .next t ∧ (region t r.val).copying = some (p + 1)
    ∧ memWord t (regionBase r.val + p) = (memWord s (regionBase r.val + p)).set 21
      ((laneSymbols (regionBase r.val + p) (correctedData s (regionBase r.val + p) (memWord s (regionBase r.val + p)) .clean)
        (region s r.val).retired).getD 21 0)
    ∧ ∀ k, k ≠ regionBase r.val + p → memWord t k = memWord s k) ∧
  (∀ (r : Fin 4) (s : State), ∃ t, exec (.laneCopyDone r) s = .next t ∧
    if (region s r.val).copying = some (regionSize r.val)
    then (region t r.val).spareIn = true ∧ (region t r.val).copying = none ∧ flagged s t Reg.memFlags 2 ∧ t.mem.words = s.mem.words
    else t = s) ∧
  (∀ s : State, ∃ t, exec .hourCountTick s = .next t
    ∧ (∀ p ∈ t.mem.hours, p.2 ≠ [] ∧ ∀ b ∈ p.2, minuteOf s < b.1 + 60)
    ∧ (∀ p ∈ s.mem.hours, ∀ b ∈ p.2, minuteOf s < b.1 + 60 → ∃ q ∈ t.mem.hours, q.1 = p.1 ∧ b ∈ q.2)
    ∧ t.mem.words = s.mem.words ∧ t.mem.log = s.mem.log)

/-- MRAM (R296, R297) and the commands MEMLOG_READ, MEMLOG_CLEAR and SPROUT_READ (R292, R322). -/
def Obligations.MramAndMemoryCommands : Prop :=
  (∀ (use : MramUse) (addr : Nat) (data : List Byte) (s : State), mramWaits s { use := use, addr := addr, data := data, verifies := true } = false →
    ∃ t, exec (.mramWrite use addr data true) s = .next t
    ∧ (∀ k, (∀ i, mramReached addr data i → k ≠ mramIndex s i) → mramSymbols t k = mramSymbols s k)
    ∧ (∀ i, mramReached addr data i → addr = 16 * i → data.length = 16 →
      mramSymbols t (mramIndex s i) = bytes (rsEncode (mramIndex s i) (nats data)) ∧ t.pair = s.pair)
    ∧ (∀ i d, mramReached addr data i → ¬(addr = 16 * i ∧ data.length = 16) → (∀ j, mramReached addr data j → mramIndex s j = mramIndex s i → j = i) →
      mramDecode (mramIndex s i) (mramSymbols s (mramIndex s i)) = some d →
      mramSymbols t (mramIndex s i) = bytes (rsEncode (mramIndex s i) (mergedBytes addr data i d)))
    ∧ (∀ i, mramReached addr data i → ¬(addr = 16 * i ∧ data.length = 16) → mramReached addr data (i + 1) = False →
      addr / 16 = i → mramDecode (mramIndex s i) (mramSymbols s (mramIndex s i)) = none →
      t.mem.mram = s.mem.mram ∧ t.pair.role = .offline ∧ t.exe.station = .fault)) ∧
  (∀ (use : MramUse) (addr : Nat) (data : List Byte) (verifies : Bool) (s : State),
    mramWaits s { use := use, addr := addr, data := data, verifies := verifies } = true → exec (.mramWrite use addr data verifies) s
      = .next { s with mem := { s.mem with waiting := s.mem.waiting ++ [{ use := use, addr := addr, data := data, verifies := verifies }] } }) ∧
  (∀ (use : MramUse) (addr : Nat) (data : List Byte) (s : State), mramWaits s { use := use, addr := addr, data := data, verifies := false } = false →
    ∃ t, exec (.mramWrite use addr data false) s = .next t
    ∧ t.mem.mram = s.mem.mram ∧ (mramFree s ≠ 0 → t.mem.remapping = some (addr / 4096, addr, data)) ∧
    (mramFree s = 0 → flagged s t Reg.memFlags 9 ∧ ∀ c, use = .capture c → (cap t c.val).truncated = true)) ∧
  (∀ s : State, remapWaits s = true → exec .mramRemap s = .next s) ∧
  (∀ (block addr : Nat) (data : List Byte) (s : State), s.mem.remapping = some (block, addr, data) → remapWaits s = false → mramFree s ≠ 0 →
    ∃ t, exec .mramRemap s = .next t ∧ t.mem.remap = s.mem.remap ++ [(62912 + s.mem.remap.length, block)] ∧ flagged s t Reg.memFlags 7 ∧
    (s.mem.waiting = [] → t.mem.remapping = none
      ∧ (∀ i, mramReached addr data i → addr = 16 * i → data.length = 16 →
        mramSymbols t (mramIndex t i) = bytes (rsEncode (mramIndex t i) (nats data)))
      ∧ (∀ k w d, s.mem.wf = true → (k, w) ∈ s.mem.mram → k / 256 = mramBlock s block → mramBlock s block < 62912 + s.mem.remap.length →
        mramDecode k w = some d → (∀ i, mramReached addr data i → mramIndex t i ≠ 256 * (62912 + s.mem.remap.length) + k % 256) →
        mramSymbols t (256 * (62912 + s.mem.remap.length) + k % 256)
          = bytes (rsEncode (256 * (62912 + s.mem.remap.length) + k % 256) d)))) ∧
  (∀ (c : Ctx) (s : State), ready s (.memlogRead c) → ∃ t, exec (.memlogRead c) s = .next t ∧ replied s t c 0x0E03 .ok 0 (memLogAll s) true
    ∧ t.mem = s.mem) ∧
  (∀ (c : Ctx) (s : State), ready s (.memlogClear c) → ∃ t, exec (.memlogClear c) s = .next t ∧ replied s t c 0x0E04 .ok 0 [] true
    ∧ t.mem = { s.mem with log := [] }) ∧
  (∀ (c : Ctx) (s : State), ready s (.sproutRead c) → held s 8 = true → ∃ t, exec (.sproutRead c) s = .next t
    ∧ replied s t c 0x0E05 .husked 8 [] true) ∧
  (∀ (c : Ctx) (s : State), ready s (.sproutRead c) → held s 8 = false → ∃ t, exec (.sproutRead c) s = .next t ∧ replied s t c 0x0E05 .ok 0
    ([sprStat s, sprCore s, sprOsc s, sprHoldup s, memLane s, memMram s].flatMap (fun w => leBytes 4 w.toNat)) true ∧ t.spr = s.spr)

/-- Core pair Z (R301, R302), the oscillators (R303) and the holdup cells (R304, R305). -/
def Obligations.CorePairsOscillatorsAndCells : Prop :=
  (∀ (p : CorePair) (s : State), exec (.coreSelftest p true) s = .next s) ∧
  (∀ (p : CorePair) (s : State), (p = .x → s.spr.coreX = false) → (p = .y → s.spr.coreY = false) → s.spr.corePending = none →
    s.spr.coreNext ≠ some p → s.spr.coreBusy = false → regField s Reg.sprCfg 0 1 1 = 1 → ∃ t, exec (.coreSelftest p false) s = .next t ∧
    (s.spr.zRole ≠ 0 → t.pair.role = .offline ∧ t.exe.station = .fault ∧ flagged s t Reg.sprFlags 2) ∧
    (s.spr.zRole = 0 → t.spr.corePending = some p ∧
      (hasStandby s = true → t.exe.handover.isSome = true) ∧
      (hasStandby s = false → coreSwapAllowed s = true → t.spr.coreBusy = true ∧ held t 1 = true) ∧
      (hasStandby s = false → coreSwapAllowed s = false → t.spr.coreBusy = false ∧ flagged s t Reg.sprFlags 1))) ∧
  (∀ (p : CorePair) (s : State), s.spr.corePending = some p → s.spr.coreBusy = true → ∃ t, exec .coreSwapDone s = .next t
    ∧ t.spr.zRole = pairNumber p ∧ t.spr.coreBusy = false ∧ held t 1 = false ∧ flagged s t Reg.sprFlags 3
    ∧ (s.spr.coreNext = none → t.spr.corePending = none ∧ t.pair.role = if s.pair.role = .standby then .syncing else s.pair.role)
    ∧ (∀ q, s.spr.coreNext = some q → t.pair.role = .offline ∧ t.exe.station = .fault ∧ flagged s t Reg.sprFlags 2)) ∧
  (∀ (p q : CorePair) (s : State), p ≠ q → (p = .x → s.spr.coreX = false) → (p = .y → s.spr.coreY = false) → s.spr.corePending = some q →
    s.spr.coreNext ≠ some p → regField s Reg.sprCfg 0 1 1 = 1 → ∃ t, exec (.coreSelftest p false) s = .next t ∧
    if s.spr.coreBusy = true then t.spr.coreNext = some p ∧ t.spr.corePending = some q ∧ t.pair = s.pair
    else t.pair.role = .offline ∧ t.exe.station = .fault ∧ flagged s t Reg.sprFlags 2) ∧
  (∀ (diff : Int) (s : State), ∃ t, exec (.oscCompare diff) s = .next t ∧ t = { s with spr := { s.spr with
    oscDiff := clampInt (-32768) 32767 diff, oscRun := if 200 < diff.natAbs then s.spr.oscRun + 1 else 0
    oscBusy := if 3 ≤ (if 200 < diff.natAbs then s.spr.oscRun + 1 else 0) ∧ s.spr.oscs.contains 3 = false ∧ s.spr.cellBusy = none then some 3 else none } }) ∧
  (∀ (a b : Int) (s : State), ∃ t, exec (.oscSprouted a b) s = .next t ∧ (s.spr.oscRun < 3 ∨ s.spr.oscBusy = none ∧ 3 ∉ s.spr.oscs → t = s) ∧
    (3 ≤ s.spr.oscRun → 3 ∈ s.spr.oscs → flagged s t Reg.sprFlags 2 ∧ t.spr.oscs = s.spr.oscs) ∧
    (3 ≤ s.spr.oscRun → s.spr.oscBusy ≠ none → 3 ∉ s.spr.oscs → 100 < a.natAbs → 100 < b.natAbs → t.pair.role = .offline ∧ t.exe.station = .fault) ∧
    (3 ≤ s.spr.oscRun → s.spr.oscBusy ≠ none → s.spr.oscs = [1, 2] → 100 < a.natAbs → b.natAbs ≤ 100 → t.spr.oscs = [2, 3] ∧ flagged s t Reg.sprFlags 4) ∧
    (3 ≤ s.spr.oscRun → s.spr.oscBusy ≠ none → s.spr.oscs = [1, 2] → a.natAbs ≤ 100 → 100 < b.natAbs → t.spr.oscs = [1, 3] ∧ flagged s t Reg.sprFlags 4) ∧
    (3 ≤ s.spr.oscRun → a.natAbs ≤ 100 → b.natAbs ≤ 100 → t.spr.oscs = s.spr.oscs)) ∧
  (∀ (cell : Fin 6) (esr capacitance energy : Nat) (s : State), cell.val + 1 ∈ s.spr.cells →
    ∃ t, exec (.cellTest cell esr capacitance energy) s = .next t ∧ storeGet (fun _ => 0) t.spr.esr (cell.val + 1) = min esr 255
    ∧ storeGet (fun _ => 5000) t.spr.energy (cell.val + 1) = energy ∧ t.spr.cells = s.spr.cells ∧
    if esr ≤ 150 ∧ 80 ≤ capacitance ∨ s.spr.cellBusy = some (cell.val + 1) ∨ cell.val + 1 ∈ s.spr.cellQueue
    then t.spr.cellBusy = s.spr.cellBusy ∧ t.spr.cellQueue = s.spr.cellQueue ∧ t.spr.ride = s.spr.ride
    else if 6 ∈ s.spr.cells then t.spr.cellQueue = [] ∧ t.spr.ride = rideOf t ∧ flagged s t Reg.sprFlags 2
    else t.spr.ride = s.spr.ride ∧ (s.spr.cellBusy = none → s.spr.oscBusy = none → s.spr.cellQueue = [] → t.spr.cellBusy = some (cell.val + 1))
      ∧ (s.spr.cellBusy ≠ none ∨ s.spr.oscBusy ≠ none →
        t.spr.cellBusy = s.spr.cellBusy ∧ t.spr.cellQueue = s.spr.cellQueue ++ [cell.val + 1])) ∧
  (∀ (k : Nat) (s : State), s.spr.cellBusy = some k → ∃ t, exec .cellSprouted s = .next t ∧ t.spr.cellBusy = none
    ∧ t.spr.cellQueue = [] ∧ t.spr.cells = s.spr.cells.filter (fun x => x ≠ k) ++ [6] ∧ t.spr.cellOut = s.spr.cellOut ++ [k] ∧ flagged s t Reg.sprFlags 5)

/-- The arrival checks (R311, Table CMD-3). -/
def Obligations.NothingIsQueuedUnchecked : Prop :=
  (∀ (k : Fin 17) (p : List Byte) (s t : State) (q : Nat), k.val < 16 → framed p → exec (.packetArrival k p) s = .next t →
    (queueOf s.cmd q).length < (queueOf t.cmd q).length → held s 0xE = false ∧ packetCrcOk p = true ∧ q = (headerOf p).queue ∧ q ≤ 31
    ∧ hasRoom s.cmd q (16 + (headerOf p).length) = true ∧ ∃ x r, sessionOf s.cmd k.val = some x
      ∧ (headerOf p).seq = (x.seqIn + 1) % 4294967296 ∧ opcodeRow (headerOf p).opcode = some r
      ∧ (roleExempt s k.val (headerOf p) = false → x.roles &&& classRoles q ≠ 0 ∧ (r.roles ≠ 0 → x.roles &&& r.roles ≠ 0))
      ∧ (lengthRange r (payloadOf p)).1 ≤ (headerOf p).length ∧ (headerOf p).length ≤ (lengthRange r (payloadOf p)).2) ∧
  (∀ (k : Fin 17) (p : List Byte) (s : State) (x : Session), k.val < 16 → framed p → held s 0xE = false →
    sessionOf s.cmd k.val = some x → ∃ t, exec (.packetArrival k p) s = .next t ∧
    (packetCrcOk p = false → refusedPacket s t k.val (headerOf p) .badCrc 0 ∧ t.cmd.queues = s.cmd.queues ∧ flagged s t Reg.cmdFlags 1) ∧
    (packetCrcOk p = true → ∀ code wh, arrivalFault s x (headerOf p) (payloadOf p) = some (code, wh) →
      refusedPacket s t k.val (headerOf p) code wh ∧ t.cmd.queues = s.cmd.queues
      ∧ (sessionOf t.cmd k.val).map (·.seqIn) = some x.seqIn ∧ (code = .queueFull → flagged s t Reg.cmdFlags 3)) ∧
    (packetCrcOk p = true → arrivalFault s x (headerOf p) (payloadOf p) = none → t.cmd.replies = s.cmd.replies
      ∧ (sessionOf t.cmd k.val).map (·.seqIn) = some (headerOf p).seq
      ∧ counter t Reg.cmdSnapRx (headerOf p).queue = counter s Reg.cmdSnapRx (headerOf p).queue + 1
      ∧ queueOf t.cmd (headerOf p).queue = queueOf s.cmd (headerOf p).queue ++ [{ session := k.val, opcode := (headerOf p).opcode
                                                                                  tag := (headerOf p).tag, payload := payloadOf p
                                                                                  arrived := s.now }])) ∧
  (∀ (k : Fin 17) (p : List Byte) (s : State), k.val < 16 → ¬framed p → held s 0xE = false → (sessionOf s.cmd k.val).isSome = true →
    ∃ t, exec (.packetArrival k p) s = .next t ∧ sessionGone t k.val) ∧
  (∀ (line : List Byte) (s : State), bit (reg s Reg.cmdCfg 0) 20 = true → held s 0xE = false → (∀ p, unframe line = some p → p.length < 12) →
    ∃ t, exec (.packetArrival 16 line) s = .next t ∧ flagged s t Reg.cmdFlags 0 ∧ t.cmd = s.cmd) ∧
  (∀ (line p : List Byte) (s : State), bit (reg s Reg.cmdCfg 0) 20 = true → held s 0xE = false → unframe line = some p → framed p →
    p.length = (headerOf p).length + 20 → packetCrcOk p = true → sessionOf s.cmd 16 = none →
    ∃ t, exec (.packetArrival 16 line) s = .next t ∧ (sessionOf t.cmd 16).map (·.roles) = some 1) ∧
  (∀ p : List Byte, unframe (frameOf p) = some p)

/-- Sessions (R314 to R316, R429, R430). -/
def Obligations.SessionsOpenAndClose : Prop :=
  (∀ (net : Fin 4) (der : List Byte) (s : State), bit (reg s Reg.cmdCfg 0) (16 + net.val) = true → s.sup.trimFault = false →
    held s 0xE = false → held s 9 = false → s.tru.keyOk = true → ∃ t, exec (.sessionOpen net der) s = .next t ∧
    (16 ≤ netSessions s.cmd → t.cmd = s.cmd ∧ flagged s t Reg.cmdFlags 5) ∧
    (netSessions s.cmd < 16 → credentialSlot s der = none → t.cmd = s.cmd ∧ flagged s t Reg.truFlags 2) ∧
    (∀ k cert, netSessions s.cmd < 16 → credentialSlot s der = some (k, cert) → dateOk s cert = false →
      t.cmd = s.cmd ∧ flagged s t Reg.truFlags 2) ∧
    (∀ k cert, netSessions s.cmd < 16 → credentialSlot s der = some (k, cert) → dateOk s cert = true →
      ∃ slot x, slot < 16 ∧ sessionOf s.cmd slot = none ∧ sessionOf t.cmd slot = some x ∧ x.roles = rolesOf cert ∧ x.credential = k
      ∧ x.opened = s.now ∧ x.seqIn = 0)) ∧
  (∀ (k : Fin 17) (s : State), sessionIdle s k.val = true → ∃ t, exec (.sessionIdleTimeout k) s = .next t ∧ sessionGone t k.val) ∧
  (∀ (k : Fin 17) (s : State), sessionIdle s k.val = false → exec (.sessionIdleTimeout k) s = .next s) ∧
  (∀ (k : Fin 17) (s : State), ∃ t, exec (.sessionClose k) s = .next t ∧ sessionGone t k.val) ∧
  (∀ s : State, ∃ t, exec .serviceBreak s = .next t ∧ sessionGone t 16) ∧
  (∀ s : State, ∃ t, exec .authLockoutEnd s = .next t ∧ t = if s.cmd.failedAuth.all (fun x => decide (x + 60000000000 ≤ s.now))
    then { s with cmd := { s.cmd with lockout := false, failedAuth := [] } } else s)

/-- Dispatch (R319), lost notifications (R318) and the commands ECHO and SESSIONS. -/
def Obligations.DispatchAndNotificationQueues : Prop :=
  (∀ s : State, (8 ≤ executingCount s.cmd ∨ held s 0xE = true ∨ ∀ k, nextOf s.cmd k = none) → exec .commandDispatch s = .next s) ∧
  (∀ (k q : Nat) (s : State), executingCount s.cmd < 8 → held s 0xE = false → k ≤ 4 → nextOf s.cmd k = some q →
    (∀ j, j < k → nextOf s.cmd j = none) → (∀ j, k < j → nextOf s.cmd j ≠ none → s.cmd.starts < regField s Reg.cmdAge 0 10 0) →
    ∃ t p, exec .commandDispatch s = .next t ∧ (queueOf s.cmd q).head? = some p ∧ queueClass q = k
    ∧ (∀ x ∈ s.cmd.executing, x.queue ≠ q) ∧ replyRoom s.cmd p.opcode = true
    ∧ t.cmd.executing = s.cmd.executing ++ [{ queue := q, session := p.session, tag := p.tag, opcode := p.opcode }]
    ∧ t.cmd.queues = s.cmd.queues ∧ ((∀ j, k < j → j ≤ 4 → nextOf s.cmd j = none) → t.cmd.starts = 0)
    ∧ ((∃ j, k < j ∧ j ≤ 4 ∧ nextOf s.cmd j ≠ none) → t.cmd.starts = s.cmd.starts + 1)) ∧
  (∀ (k j : Nat) (s : State), executingCount s.cmd < 8 → held s 0xE = false → k < j → j ≤ 4 → nextOf s.cmd k ≠ none →
    nextOf s.cmd j ≠ none → (∀ i, i < k → nextOf s.cmd i = none) → regField s Reg.cmdAge 0 10 0 ≤ s.cmd.starts →
    ∃ t q p, exec .commandDispatch s = .next t ∧ longestWaiting s.cmd = some q ∧ (queueOf s.cmd q).head? = some p
    ∧ (∀ r p', canStart s.cmd r = true → r < 32 → (queueOf s.cmd r).head? = some p' → p.arrived ≤ p'.arrived)
    ∧ t.cmd.executing = s.cmd.executing ++ [{ queue := q, session := p.session, tag := p.tag, opcode := p.opcode }]
    ∧ t.cmd.starts = 0 ∧ counter t Reg.cmdSnapPromote 0 = counter s Reg.cmdSnapPromote 0 + 1) ∧
  (∀ (queue : Fin 32) (s : State), (∀ x ∈ s.cmd.subs, x.queue ≠ queue.val) ∨ notifyFull s.cmd queue.val = false → exec (.notifyLost queue) s = .next s) ∧
  (∀ (queue : Fin 32) (x : Subscription) (s : State), notifyFull s.cmd queue.val = true → s.cmd.subs.find? (fun x => decide (x.queue = queue.val)) = some x →
    ∃ t, exec (.notifyLost queue) s = .next t ∧ flagged s t Reg.cmdFlags 4 ∧ { x with lost := true } ∈ t.cmd.subs
    ∧ repliesOf t.cmd queue.val = dropOldest (repliesOf s.cmd queue.val) x) ∧
  (∀ (c : Ctx) (data : List Byte) (s : State), ready s (.echo c data) → data.length ≤ 256 → ∃ t, exec (.echo c data) s = .next t
    ∧ replied s t c 0x0E01 .ok 0 data true) ∧
  (∀ (c : Ctx) (s : State), ready s (.sessions c) → ∃ t, exec (.sessions c) s = .next t
    ∧ replied s t c 0x0E06 .ok 0 (s.cmd.sessions.map sessionBytes).flatten true)

/-- R336: SNAP.TAKE and SNAPSHOT. A write to the supervisor window that breaks a key sequence first counts KEY_ERR (R341), so that case stands apart. -/
def Obligations.SnapshotsCopyEveryCounter : Prop :=
  (∀ (w : Fin 16) (a : Nat) (r : Requester) (s : State), snapReg w.val = some a → held s w.val = false → ¬(w.val = 0 ∧ keyStep s = 1) →
    ∃ t, exec (.snapTake w r) s = .next t ∧ snapped s t w.val a) ∧
  (∀ (r : Requester) (s : State), held s 0 = false → keyStep s = 1 → ∃ t, exec (.snapTake 0 r) s = .next t
    ∧ ∀ b i, b / 65536 = 0 → heldCounter t b i = counter t b i) ∧
  (∀ (c : Ctx) (window : BitVec 8) (a : Nat) (s : State), ready s (.snapshot c window) → snapReg window.toNat = some a → held s window.toNat = false →
    ∃ t, exec (.snapshot c window) s = .next t ∧ snapped s t window.toNat a
    ∧ replied s t c 0x0404 .ok 0 (leBytes 2 ((regField s a 0 31 16 + 1) % 65536)) true) ∧
  (∀ (c : Ctx) (s : State), ready s (.snapshot c 6) → ∃ t, exec (.snapshot c 6) s = .next t ∧ replied s t c 0x0404 .badParam 0 [] true
    ∧ changesOnly [.unit .cmd] s t) ∧
  (∀ (r : Requester) (s : State), exec (.snapTake 6 r) s = .next s) ∧
  (∀ (sp : RegSpec) (a : Nat) (s : State), regSpec? a = some sp → Reg.wntState ≤ a → a ≤ Reg.wntPair →
    showWord s a = s.wnt.shown.getD ((a - Reg.wntState) / 4) 0)

/-- R342: PERM is write-once until reset, over every command of the table. -/
def Obligations.PermanentLockHoldsUntilReset : Prop :=
  (∀ (v : Word) (r : Requester) (s : State), held s 0 = false → ∃ t, exec (.registerWrite (word Reg.supLock) v r) s = .next t
    ∧ devLocked t = (devLocked s || bit v 0 || (bit v 1 && !permLocked s)) ∧ permLocked t = (permLocked s || bit v 1)
    ∧ (bit v 1 = false → (bit v 0 = true ∨ devLocked s = false) → counter t Reg.supSnapLockv 0 = counter s Reg.supSnapLockv 0)
    ∧ (permLocked s = true → bit v 1 = true → flagged s t Reg.supFlags 0
      ∧ counter t Reg.supSnapLockv 0 = counter s Reg.supSnapLockv 0 + 1
      ∧ (field (reg s Reg.supFlags 0) 1 0 = 0 → regField t Reg.supFaultSrc 0 26 24 = 1 ∧ reg t Reg.supFaultAddr 0 = word Reg.supLock))) ∧
  (∀ (r : Requester) (s : State), held s 0 = false → permLocked s = false → ∃ t, exec (.permSet r) s = .next t ∧ permLocked t = true
    ∧ devLocked t = true) ∧
  (∀ (c : Instr) (s t : State), resetRow c = false → permLocked s = true → devLocked s = true → exec c s = .next t →
    permLocked t = true ∧ devLocked t = true) ∧
  (∀ s : State, s.sup.alwaysOn = false → ∃ t, exec .powerOn s = .next t ∧ permLocked t = false ∧ t.sup.step = 1) ∧
  (∀ (b : BootInputs) (s : State), s.sup.step = 1 → s.sup.resetN = false → s.sup.storm = false → s.sup.stormHold = false →
    (recentResets s).length < 8 → permLocked s = false → ∃ t, exec (.bringUp b) s = .next t
    ∧ permLocked t = false ∧ devLocked t = (optField t.sup.optUse 512 1).testBit 0)

/-- Register accesses (R327, R328, R330, R338, R343, R370) and the commands 0x0401 to 0x0403. -/
def Obligations.RegisterAccesses : Prop :=
  (∀ (addr v : Word) (r : Requester) (s : State) (sp : RegSpec) (i : Nat), regSpec? addr.toNat = some sp → ordinary sp →
    instanceOf s sp.bank = some i → writable s addr.toNat → ∃ t, exec (.registerWrite addr v r) s = .next t ∧
    if outOfRange addr.toNat (storedWord s sp i v) then flagged s t Reg.supFlags 0 ∧ changesOnly lockedAreas s t
    else t = if word sp.rw = 0 then s else setReg s sp.addr i (storedWord s sp i v)) ∧
  (∀ (addr v : Word) (r : Requester) (s : State), addrOk addr.toNat = true → regSpec? addr.toNat = none → held s (addr.toNat / 65536) = false →
    keyStep s ≠ 1 → ∃ t, exec (.registerWrite addr v r) s = .next t ∧ flagged s t Reg.supFlags 1
    ∧ changesOnly [.flag Reg.supFlags 1, .ctr Reg.supSnapUnmapped, .reg Reg.supFaultAddr, .reg Reg.supFaultSrc] s t) ∧
  (∀ (addr v : Word) (r : Requester) (s : State), (regSpec? addr.toNat).isSome = true → held s (addr.toNat / 65536) = false → keyStep s ≠ 1 →
    devLocked s = true → listedWrite addr.toNat v = false → isIdxData addr.toNat = false → ∃ t, exec (.registerWrite addr v r) s = .next t
    ∧ flagged s t Reg.supFlags 0 ∧ changesOnly lockedAreas s t) ∧
  (∀ (addr v : Word) (r : Requester) (s : State), held s (addr.toNat / 65536) = true ∨ addrOk addr.toNat = false →
    exec (.registerWrite addr v r) s = .next s) ∧
  (∀ (c : Ctx) (addr : BitVec 32) (count : BitVec 16) (same : Bool) (s : State), ready s (.regRead c addr count same) → 1 ≤ count.toNat → count.toNat ≤ 256 →
    spanOk addr.toNat same count.toNat = true →
    (∀ a ∈ addresses addr.toNat same count.toNat, held s (a / 65536) = false ∧ plainRead a) →
    ∃ t, exec (.regRead c addr count same) s = .next t ∧ changesOnly [.unit .cmd] s t
    ∧ replied s t c 0x0401 .ok 0 ((addresses addr.toNat same count.toNat).flatMap (fun a => leBytes 4 (showWord s a).toNat)) true) ∧
  (∀ (c : Ctx) (addr : BitVec 32) (v : Word) (same : Bool) (s : State) (sp : RegSpec) (i : Nat), ready s (.regWrite c addr same [v]) → regSpec? addr.toNat = some sp →
    ordinary sp → instanceOf s sp.bank = some i → writable s addr.toNat → outOfRange addr.toNat (storedWord s sp i v) = false →
    word sp.rw ≠ 0 → ∃ t, exec (.regWrite c addr same [v]) s = .next t ∧ replied s t c 0x0402 .ok 0 [] true
    ∧ t.regs = (setReg s sp.addr i (storedWord s sp i v)).regs ∧ changesOnly [.unit .cmd, .reg sp.addr] s t) ∧
  (∀ (c : Ctx) (addr : BitVec 32) (same : Bool) (words : List Word) (s : State), ready s (.regWrite c addr same words) → words ≠ [] → words.length ≤ 256 →
    spanOk addr.toNat same words.length = true → devLocked s = true → keyStep s ≠ 1 →
    (∀ p ∈ (addresses addr.toNat same words.length).zip words, held s (p.1 / 65536) = false ∧ (regSpec? p.1).isSome = true
      ∧ listedWrite p.1 p.2 = false ∧ isIdxData p.1 = false) →
    ∃ t, exec (.regWrite c addr same words) s = .next t ∧ lastReplied t c 0x0402 .locked addr.toNat [] true
    ∧ changesOnly lockedAreas s t) ∧
  (∀ (c : Ctx) (addr mask value : Word) (s : State) (sp : RegSpec) (i : Nat), ready s (.regMaskwrite c addr mask value) → regSpec? addr.toNat = some sp → ordinary sp →
    sp.mw = false → instanceOf s sp.bank = some i → writable s addr.toNat →
    outOfRange addr.toNat (underMask (reg s sp.addr i) value (mask &&& word sp.rw)) = false → mask &&& word sp.rw ≠ 0 →
    ∃ t, exec (.regMaskwrite c addr mask value) s = .next t
    ∧ t.regs = (setReg s sp.addr i (underMask (reg s sp.addr i) value (mask &&& word sp.rw))).regs
    ∧ changesOnly [.unit .cmd, .reg sp.addr] s t
    ∧ replied s t c 0x0403 .ok 0 (leBytes 4 (showWord (setReg s sp.addr i (underMask (reg s sp.addr i) value (mask &&& word sp.rw))) addr.toNat).toNat)
      true) ∧
  (∀ s : State, held s 9 = false → exec .timeNsecRead s = .next { s with net := { s.net with secLatch := sec s } }) ∧
  (∀ (w : Fin 16) (r : Requester) (s : State) (p : Nat × Nat × Nat), idxPair w.val = some p → held s w.val = false →
    ∃ t, exec (.idxDataAccess w .read r) s = .next t ∧ reg t p.1 0 = word (((reg s p.1 0).toNat + 4) % p.2.2)
    ∧ reg t p.2.1 0 = windowRead s w.val (reg s p.1 0).toNat) ∧
  (∀ (w : Fin 16) (v : Word) (r : Requester) (s : State) (p : Nat × Nat × Nat), idxPair w.val = some p → held s w.val = false →
    ∃ t, exec (.idxDataAccess w (.write v) r) s = .next t ∧ reg t p.1 0 = word (((reg s p.1 0).toNat + 4) % p.2.2)) ∧
  (∀ (w : Fin 16) (x : IdxAccess) (r : Requester) (s : State), held s w.val = true ∨ idxPair w.val = none →
    exec (.idxDataAccess w x r) s = .next s) ∧
  (∀ (addr v : Word) (r : Requester) (s : State) (sp : RegSpec), regSpec? addr.toNat = some sp → isIdxAddr addr.toNat = true →
    instanceOf s sp.bank = some 0 → held s (addr.toNat / 65536) = false → ∃ t, exec (.registerWrite addr v r) s = .next t
    ∧ field (reg t addr.toNat 0) 1 0 = 0)

/-- Flags (R333), the device lock and its key (R341), staged values (R334, R335) and FCH_CTRL.CLEAR_FAULT (R129). -/
def Obligations.FlagsKeysAndStagedValues : Prop :=
  (∀ (addr v : Word) (race : List (Fin 32)) (r : Requester) (s : State) (sp : RegSpec) (i : Nat), regSpec? addr.toNat = some sp →
    sp.w1c ≠ 0 → addr.toNat ≠ Reg.sbkFlags → instanceOf s sp.bank = some i → held s (addr.toNat / 65536) = false → keyStep s ≠ 1 →
    ∃ t, exec (.w1cWrite addr v race r) s = .next t ∧ changesOnly [.reg addr.toNat, .ctrsOf (addr.toNat / 65536)] s t
    ∧ ∀ n : Fin 32, (word sp.w1c).getLsbD n.val = true →
      (reg t addr.toNat i).getLsbD n.val = (race.contains n || ((reg s addr.toNat i).getLsbD n.val && !v.getLsbD n.val))
      ∧ counter t (fcntOf addr.toNat + 4 * n.val) i = counter s (fcntOf addr.toNat + 4 * n.val) i + word (race.count n)) ∧
  (∀ (r : Requester) (s : State), held s 0 = false → ∃ t, exec (.devLockSet r) s = .next t ∧ devLocked t = true
    ∧ permLocked t = permLocked s) ∧
  (∀ (v : Word) (r : Requester) (s : State), held s 0 = false → ∃ t, exec (.supLockKey v r) s = .next t ∧ permLocked t = permLocked s ∧
    (permLocked s = true → devLocked t = devLocked s ∧ keyStep t = 0 ∧ flagged s t Reg.supFlags 2) ∧
    (permLocked s = false → keyStep s = 0 → devLocked t = devLocked s ∧
      if v = 0xC1A5#32 then keyStep t = 1 ∧ t.sup.keyBy = some r ∧ t.sup.keyAt = s.now else keyStep t = 0 ∧ flagged s t Reg.supFlags 2) ∧
    (permLocked s = false → keyStep s = 1 → keyStep t = 0 ∧
      if v = 0x5A1C#32 ∧ s.now ≤ s.sup.keyAt + 10000000 ∧ (∃ q, s.sup.keyBy = some q ∧ sameRequester r q = true)
      then devLocked t = false ∧ flagged s t Reg.supFlags 3 else devLocked t = devLocked s ∧ flagged s t Reg.supFlags 2)) ∧
  (∀ s : State, ∃ t, exec .lockKeyTimeout s = .next t ∧ (keyStep s ≠ 1 ∨ s.now ≤ s.sup.keyAt + 10000000 → t = s)
    ∧ (keyStep s = 1 → s.sup.keyAt + 10000000 < s.now → keyStep t = 0 ∧ devLocked t = devLocked s ∧ flagged s t Reg.supFlags 2)) ∧
  (∀ (a i : Nat) (v : Word) (s : State), s.staged = [(rkey a i, v)] → a / 65536 = 4 → held s 4 = false →
    ∃ t, exec (.stagedApply .gourd) s = .next t ∧ t.staged = [] ∧ if gourdCheck s i a v
    then cfg t a i = v ∧ regField t Reg.grdApply 0 15 0 = (regField s Reg.grdApply 0 15 0 + 1) % 65536
    else cfg t a i = cfg s a i ∧ flagged s t Reg.grdFlags 4) ∧
  (∀ (a i : Nat) (v : Word) (s : State), s.staged = [(rkey a i, v)] → a / 65536 = 3 → held s 3 = false →
    ∃ t, exec (.stagedApply .field) s = .next t ∧ t.staged = [] ∧
    if fieldCheck s i a v then cfg t a i = v else cfg t a i = cfg s a i ∧ flaggedAt s t Reg.fchFlags i 5) ∧
  (∀ (a i : Nat) (v : Word) (s : State), s.staged = [(rkey a i, v)] → a / 65536 = 0xC → held s 0xC = false →
    ∃ t, exec (.stagedApply .panel) s = .next t ∧ t.staged = [] ∧
    if vcomOk s v then cfg t a i = v else cfg t a i = cfg s a i ∧ flagged s t Reg.pnlFlags 5) ∧
  (∀ (a i : Nat) (v : Word) (s : State), s.staged = [(rkey a i, v)] → a / 65536 = 9 → held s 9 = false →
    ∃ t, exec (.stagedApply .time) s = .next t ∧ t.staged = [] ∧
    if timeCheck a v then cfg t a i = v else cfg t a i = cfg s a i ∧ flagged s t Reg.netFlags 10) ∧
  (∀ (a i : Nat) (v : Word) (s : State), s.staged = [(rkey a i, v)] → s.gmu.staged = [] → a / 65536 = 5 → held s 5 = false →
    ∃ t, exec (.stagedApply .gmu) s = .next t ∧ t.staged = [] ∧
    if gmuCheck s i a v then cfg t a i = v else cfg t a i = cfg s a i ∧ flagged s t Reg.gmuFlags 8) ∧
  (∀ (a : Nat) (p : Fin 4) (v : Word) (s : State), s.staged = [(rkey a p.val, v)] → a / 65536 = 0xA → held s 0xA = false →
    ∃ t, exec (.stagedApply (.can p)) s = .next t ∧ t.staged = [] ∧
    if canCheck a v (if a = Reg.canNbt then nextNbt s p.val (some v) none else none)
      (if a = Reg.canDbt then nextDbt s p.val none (some v) else none) then cfg t a p.val = v else cfg t a p.val = cfg s a p.val ∧ flaggedAt s t Reg.canFlags p.val 5) ∧
  (∀ s : State, exec (.stagedApply .hazel) s = .next s ∧ (held s 4 = true → exec (.stagedApply .gourd) s = .next s)
    ∧ (held s 3 = true → exec (.stagedApply .field) s = .next s) ∧ (held s 5 = true → exec (.stagedApply .gmu) s = .next s)
    ∧ (held s 0xC = true → exec (.stagedApply .panel) s = .next s) ∧ (held s 9 = true → exec (.stagedApply .time) s = .next s)
    ∧ (held s 0xA = true → ∀ p : Fin 4, exec (.stagedApply (.can p)) s = .next s)) ∧
  (∀ (r : Requester) (c : Nat) (s : State), writable s Reg.fchCtrl → instanceOf s .frontEnd = some c → c ≤ 191 →
    ∃ t, exec (.fchClearFault r) s = .next t ∧ (fe t c).failed = false ∧ (fe t c).misHigh = false ∧ (fe t c).misLow = false
    ∧ (fe t c).short = (fe s c).limit ∧ (fe t c).latchedShort = false ∧ (fe t c).latchedOff = false ∧ (fe t c).retries = 0)

/-- Links (R346), frames (R348, R349), LANs (R350), beacons (R351, R352) and discovery records (R353). -/
def Obligations.LinksFramesAndDiscovery : Prop :=
  (∀ (port : Fin 4) (l : LinkReport) (s : State), ∃ t, exec (.linkChange port l) s = .next t ∧
    (cfgField s Reg.netPortCfg port.val 0 0 = 0 → t = s) ∧
    (cfgField s Reg.netPortCfg port.val 0 0 ≠ 0 → l.up = true → flagged s t Reg.netFlags 0
      ∧ (netPort t port.val).linked = linkAllowed port.val l ∧ (linkAllowed port.val l = true → (netPort t port.val).speed = l.speed.toNat)) ∧
    (cfgField s Reg.netPortCfg port.val 0 0 ≠ 0 → l.up = false → (netPort t port.val).linked = false
      ∧ ((netPort s port.val).linked = true → flagged s t Reg.netFlags 0) ∧ ((netPort s port.val).linked = false → t = s))) ∧
  (∀ (port : Fin 4) (f : EthFrame) (s : State), (netPort s port.val).linked = false → exec (.frameReceive port f) s = .next s) ∧
  (∀ (port : Fin 4) (f : EthFrame) (s : State) (n : Nat), (netPort s port.val).linked = true →
    n = (if (netPort s port.val).stormSecond = s.now / 1000000000 then (netPort s port.val).stormCount else 0) →
    ∃ t, exec (.frameReceive port f) s = .next t ∧ (netPort t port.val).lastFrame = some s.now ∧
    if stormCounts f = true ∧ cfgField s Reg.netPortCfg port.val 17 4 ≤ n
    then t.net.delivered = s.net.delivered ∧ flagged s t Reg.netFlags 9
      ∧ counter t Reg.netSnapStorm port.val = counter s Reg.netSnapStorm port.val + 1
    else t.net.delivered = (if port.val < 2 ∧ f.kind ≠ .ptp ∧ isDuplicate s f = true then s.net.delivered else s.net.delivered + 1)) ∧
  (∀ s : State, ∃ t, exec .prpSupervisionSend s = .next t ∧ t.net.prpSeq = (s.net.prpSeq + 1) % 65536
    ∧ handed t 0 (.supervision 0 (some s.net.prpSeq)) ∧ handed t 1 (.supervision 1 (some s.net.prpSeq))
    ∧ (portFree s 0 → portFree s 1 →
      t.net.out = s.net.out ++ [.supervision 0 (some s.net.prpSeq), .supervision 1 (some s.net.prpSeq)])) ∧
  (∀ (b : Bool) (s : State), ((netPort s (b2n b)).linked = false ∨ lanSilent s (b2n b) = true) → lanOk s b = true →
    ∃ t, exec (.prpLanFail b) s = .next t ∧ lanOk t b = false ∧ flagged s t Reg.netFlags 1) ∧
  (∀ (b : Bool) (s : State), (netPort s (b2n b)).linked = true → lanSilent s (b2n b) = false → exec (.prpLanFail b) s = .next s) ∧
  (∀ (b : Bool) (since : Nat) (s : State), (if b then s.net.backB else s.net.backA) = some since → lanOk s b = false →
    (netPort s (b2n b)).linked = true → ∃ t, exec (.prpLanOk b) s = .next t ∧ lanOk t b = (decide (since + 1000000000 ≤ s.now) && carriesFrames s (b2n b))) ∧
  (∀ (port : Fin 4) (f : EthFrame) (s : State), port.val < 2 → (netPort s port.val).linked = true → lanOk s (decide (port.val = 1)) = false →
    carriesFrames s port.val = false → ∃ t, exec (.frameReceive port f) s = .next t
    ∧ (if port.val = 1 then t.net.backB else t.net.backA) = some s.now) ∧
  (∀ (signature : List Byte) (s : State), ∃ t, exec (.beaconSend signature) s = .next t ∧ (s.pair.role = .offline ∨ s.tru.keyOk = false → t = s) ∧
    (s.pair.role ≠ .offline → s.tru.keyOk = true → t.net.beacons = s.net.beacons + 1 ∧ ∀ cert bytes,
      cert = decide ((s.net.beacons + 1) % 60 = 0) → bytes = beaconPayload s cert ++ signature →
      handed t 0 (.beacon 0 (some s.net.prpSeq) cert bytes) ∧ handed t 1 (.beacon 1 (some s.net.prpSeq) cert bytes)
      ∧ (portFree s 0 → portFree s 1 →
        t.net.out = s.net.out ++ [.beacon 0 (some s.net.prpSeq) cert bytes, .beacon 1 (some s.net.prpSeq) cert bytes]))) ∧
  (∀ (b : Beacon) (s : State), ∃ t, exec (.beaconReceive b) s = .next t ∧
    (b.hasCert = false → s.net.cache.contains b.fingerprint = false → (b, s.now) ∈ t.net.heldBeacons ∧ t.net.stations = s.net.stations) ∧
    (b.hasCert = true ∨ s.net.cache.contains b.fingerprint = true → b.certOk = false → t.net.stations = s.net.stations
      ∧ flagged s t Reg.netFlags 2 ∧ counter t Reg.netSnapBeaconrej 0 = counter s Reg.netSnapBeaconrej 0 + 1) ∧
    (b.hasCert = true ∨ s.net.cache.contains b.fingerprint = true → b.certOk = true →
      (∀ h ∈ s.net.heldBeacons, h.1.fingerprint ≠ b.fingerprint) →
      if b.signatureOk = true ∧ sentLater s b = true
      then (stationEntry s b.stationId.toNat).first = none ∨ (stationEntry s b.stationId.toNat).second = none →
        ∃ r, ((stationEntry t b.stationId.toNat).first = some r ∨ (stationEntry t b.stationId.toNat).second = some r)
          ∧ r.beacon = b ∧ r.heard = s.now
      else t.net.stations = s.net.stations ∧ flagged s t Reg.netFlags 2
        ∧ counter t Reg.netSnapBeaconrej 0 = counter s Reg.netSnapBeaconrej 0 + 1)) ∧
  (∀ (serial : Nat) (s : State), ∃ t, exec (.beaconHoldExpiry serial) s = .next t
    ∧ (∀ h ∈ t.net.heldBeacons, h.1.serial = serial → s.now < h.2 + 60000000000)
    ∧ ((∃ h ∈ s.net.heldBeacons, h.1.serial = serial ∧ h.2 + 60000000000 ≤ s.now) → flagged s t Reg.netFlags 2)
    ∧ counter t Reg.netSnapBeaconrej 0 = counter s Reg.netSnapBeaconrej 0
      + word (s.net.heldBeacons.filter (fun h => decide (h.1.serial = serial) && decide (h.2 + 60000000000 ≤ s.now))).length) ∧
  (∀ (serial : Nat) (s : State), ∃ t, exec (.discoveryRecordExpiry serial) s = .next t ∧ ∀ i r,
    ((stationEntry t i).first = some r ∨ (stationEntry t i).second = some r) → r.beacon.serial = serial → s.now < r.heard + 5000000000)

/-- PTP (R354, R358), the servo (R359 to R363), steps (R364), launches (R366 to R369) and the commands 0x0C01 and 0x0C02. -/
def Obligations.ClocksServoAndLaunches : Prop :=
  (∀ (port : Fin 4) (m : PtpMessage) (s : State), ∃ t, exec (.ptpMessage port m) s = .next t ∧
    (ptpOn s port.val = false ∨ m.domain ≠ cfgField s Reg.ptpCfg 0 6 0 → t = s) ∧
    (ptpOn s port.val = true → m.domain = cfgField s Reg.ptpCfg 0 6 0 →
      (m.body = .unsupported → counter t Reg.netSnapPtpign port.val = counter s Reg.netSnapPtpign port.val + 1) ∧
      (∀ a, m.body = .announce a → masterOnly s port.val = false →
        ∃ x ∈ (netPort t port.val).masters, x.data = a ∧ x.seen.head? = some s.now) ∧
      (∀ source sequence origin correction d, m.body = .sync source sequence false origin correction →
        (netPort s port.val).master = some source → (netPort s port.val).delay = some d →
        (netPort t port.val).offset = some (d + asymmetry s port.val - (m.received - origin - correction))
        ∧ (netPort t port.val).measured = (netPort s port.val).measured + 1) ∧
      (∀ source received correction f q, m.body = .delayResp source received correction → (netPort s port.val).master = some source →
        requestResponse s port.val = true → (netPort s port.val).forward = some f → (netPort s port.val).reqSent = some q →
        (netPort t port.val).delay = some ((f - asymmetry s port.val + (received - q - correction)) / 2)) ∧
      (∀ source correction, m.body = .delayReq source correction → (netPort s port.val).ptp = 2 → requestResponse s port.val = true →
        handed t port.val (.delayResponse port.val (clockIdentity s) source m.received correction)))) ∧
  (∀ (port : Fin 4) (k : PtpSend) (sent : Int) (s : State), ∃ t, exec (.ptpMessageSend port k sent) s = .next t ∧
    (ptpOn s port.val = false → t = s) ∧
    (ptpOn s port.val = true → k ≠ .delayReq → if (netPort s port.val).ptp = 2
      then handed t port.val (.ptp port.val (clockIdentity s) k (announcedClass s) 0)
        ∧ (k = .sync → handed t port.val (.followUp port.val (clockIdentity s) sent))
      else t = s) ∧
    (ptpOn s port.val = true → k = .delayReq → (requestResponse s port.val = false ∨ (netPort s port.val).master.isSome = true) →
      (netPort t port.val).reqSent = some sent
      ∧ handed t port.val (.ptp port.val (clockIdentity s) .delayReq (announcedClass s) (- asymmetry s port.val)))) ∧
  (∀ (port : Fin 4) (i : Nat) (s : State), (netPort s port.val).master = some i →
    (∃ m ∈ (netPort s port.val).masters, m.data.source = i ∧ m.seen.headD 0 + 3 * announceNs s ≤ s.now) →
    ∃ t, exec (.announceTimeout port) s = .next t ∧ (netPort t port.val).master = none ∧ (netPort t port.val).offset = none
    ∧ (s.net.slave = port.val → t.net.slave = 7 ∧ (s.net.servo = .acquiring ∨ s.net.servo = .locked →
      t.net.servo = .holdover ∧ t.net.servoCause = 1 ∧ t.net.holdSince = s.now ∧ flagged s t Reg.netFlags 5))) ∧
  (∀ s : State, ∃ t, exec .servoUpdate s = .next t
    ∧ (s.net.initAcq = false → (s.net.acceptJump = false ∨ s.net.jumpRefused = false) → t.now = s.now)
    ∧ (∀ off, steersItself s = true → (selectSlave s).net.slave < 4 →
      (netPort (selectSlave s) (selectSlave s).net.slave).offset = some off → s.net.step = none → s.net.initAcq = false →
      s.net.jumpRefused = false → jumpLimit s < off.natAbs →
      if 4 ≤ (selectSlave s).net.aboveRun + 1 then t.net.jumpRefused = true ∧ t.net.refused = off ∧ flagged s t Reg.netFlags 6
        ∧ t.net.servo = .holdover
        ∧ t.net.freq = if (selectSlave s).net.servo = .holdover then (selectSlave s).net.freq else heldFreq (selectSlave s).net
      else t.net.jumpRefused = false ∧ t.net.aboveRun = (selectSlave s).net.aboveRun + 1 ∧ t.net.freq = (selectSlave s).net.freq)
    ∧ (∀ off, steersItself s = true → (selectSlave s).net.slave < 4 →
      (netPort (selectSlave s) (selectSlave s).net.slave).offset = some off → s.net.step = none → s.net.initAcq = false →
      s.net.jumpRefused = false → off.natAbs ≤ jumpLimit s → (selectSlave s).net.servo = .acquiring →
      t.net.servo = (if off.natAbs ≤ lockThr s ∧ 15 ≤ (selectSlave s).net.lockRun then .locked else .acquiring)
      ∧ (t.net.freq - t.net.base).natAbs ≤ 65536 * slewMax s ∧ t.net.freq.natAbs ≤ 13107200)
    ∧ (steersItself s = false → s.pair.link = .ready → (selectSlave s).net.freq.natAbs ≤ 13107200 →
      (t.net.freq - (selectSlave s).net.freq).natAbs ≤ 65536 ∧ t.net.freq.natAbs ≤ 13107200)) ∧
  (∀ s : State, s.net.step = none → exec .timeStepApply s = .next s) ∧
  (∀ (d : Int) (at_ : Nat) (s : State), s.net.step = some (d, at_) → ∃ t, exec .timeStepApply s = .next t ∧
    if at_ ≤ s.now then t.now = shiftTime d s.now ∧ t.net.step = none ∧ t.net.servo = .acquiring ∧ flagged s t Reg.netFlags 7
      ∧ flagged s t Reg.exeFlags 3 else t = s) ∧
  (∀ s : State, ∃ t, exec .holdoverExpiry s = .next t ∧
    if s.net.servo = .holdover ∧ s.net.holdSince + cfgField s Reg.timeJump 0 31 21 * 60000000000 ≤ s.now
    then t = { s with net := { s.net with servo := .degraded } } else t = s) ∧
  (∀ s : State, ∃ t, exec .timeSave s = .next t ∧ t.now = s.now
    ∧ (held s 4 = true ∨ s.grd.pfw = true → t.net.saved = s.now)
    ∧ (held s 4 = false → s.grd.pfw = false → t.net = s.net
      ∧ ∃ r, t.grd.c2 = s.grd.c2 ++ [r] ∧ r.amount = 450 ∧ r.duration = some 1000 ∧ r.purpose = .timeSave)) ∧
  (∀ (port : Fin 4) (entry : Fin 256) (delay : Nat) (initial : List Byte) (s : State),
    owner s = false ∨ pastHandover s = true ∨ dueNow s port.val entry.val = false → exec (.ttLaunch port entry delay initial) s = .next s) ∧
  (∀ (port : Fin 4) (entry : Fin 256) (delay : Nat) (initial : List Byte) (s : State), owner s = true → pastHandover s = false →
    ttField s port.val entry.val 1 1 % 2 = 1 → ttField s port.val entry.val 8 8 ≠ 0 → ttField s port.val entry.val 16 4 ≤ s.now →
    (s.now - ttField s port.val entry.val 16 4) % ttField s port.val entry.val 8 8 = 0 →
    storeGet (fun _ => none) (netPort s port.val).launched entry.val ≠ some s.now →
    ∃ t, exec (.ttLaunch port entry delay initial) s = .next t ∧ dueNow t port.val entry.val = false ∧
    (s.now < s.net.launchFrom → counter t Reg.netSnapTtlate port.val = counter s Reg.netSnapTtlate port.val + 1
      ∧ t.net.out = s.net.out ∧ flagged s t Reg.netFlags 8) ∧
    (s.net.launchFrom ≤ s.now → (dueBefore s port.val entry.val ≠ [] ∨ delay ≤ ttField s port.val entry.val 28 2
        ∨ ttField s port.val entry.val 1 1 / 2 % 2 = 1) →
      ∃ trailer before after, t.net.out = s.net.out ++ before ++ launchFrames s port.val entry.val initial trailer ++ after
        ∧ (dueBefore s port.val entry.val = [] → before = [] ∧ trailer = trailerOf s port.val)) ∧
    (s.net.launchFrom ≤ s.now → dueBefore s port.val entry.val = [] → ttField s port.val entry.val 28 2 < delay →
      counter t Reg.netSnapTtlate port.val = counter s Reg.netSnapTtlate port.val + 1 ∧ flagged s t Reg.netFlags 8
      ∧ (ttField s port.val entry.val 1 1 / 2 % 2 = 0 → (∀ q ∈ lansOf port.val, (netPort s q).waiting = []) → t.net.out = s.net.out))) ∧
  (∀ (c : Ctx) (s : State), ready s (.timeRead c) → ∃ t, exec (.timeRead c) s = .next t ∧ replied s t c 0x0C01 .ok 0
    (leBytes 8 (sec s) ++ leBytes 4 (nsec s) ++ leBytes 4 s.net.servo.ctorIdx ++ leBytes 4 (wordOfInt s.net.offset).toNat
      ++ leBytes 8 (if s.net.slave < 4 then (netPort s s.net.slave).grandmaster else 0)) true) ∧
  (∀ (c : Ctx) (s : State), ready s (.timeAcceptJump c) → owner s = true → ∃ t, exec (.timeAcceptJump c) s = .next t ∧
    if s.net.jumpRefused then waits t c ∧ t.net.acceptJump = true else replied s t c 0x0C02 .badParam 0xFFFFFFFF [] true)

/-- Transmission (R374 to R377, R380), CAN_SEND (R375), TX_ABORT (R381) and reference messages (R384, R385). -/
def Obligations.CanTransmission : Prop :=
  (∀ (port : Fin 4) (outcome : CanEnd) (sof loopDelay : Nat) (s : State), transmitting (canPort s port.val) = none →
    exec (.canFrameTxEnd port outcome sof loopDelay) s = .next s) ∧
  (∀ (port : Fin 4) (outcome : CanEnd) (sof loopDelay b : Nat) (e : TxEntry) (s : State),
    transmitting (canPort s port.val) = some (b, e) → ∃ t, exec (.canFrameTxEnd port outcome sof loopDelay) s = .next t ∧
    (outcome = .sent → (canPort t port.val).tec = (canPort s port.val).tec - 1 ∧ (txb (canPort t port.val) b).outcome = 1
      ∧ counter t Reg.canSnapTx port.val = counter s Reg.canSnapTx port.val + 1
      ∧ (e.src = .send → ∀ x ∈ t.cmd.executing, ¬(x.opcode = 0x0D03 ∧ x.subject = 4 * e.order + port.val))) ∧
    (∀ dominant, outcome = .noAck dominant →
      (canPort t port.val).tec = (if (canPort s port.val).errState = 0 ∨ dominant = true then (canPort s port.val).tec + 8
        else (canPort s port.val).tec)
      ∧ (txb (canPort t port.val) b).outcome = 2 ∧ (canPort t port.val).ackErrors = (canPort s port.val).ackErrors + 1
      ∧ (15 ≤ (canPort s port.val).ackErrors → (canPort t port.val).noPartner = true)
      ∧ counter t Reg.canSnapErr port.val = counter s Reg.canSnapErr port.val + 1) ∧
    (∀ k tec, outcome = .error k → tec = (canPort s port.val).tec + (if k.uncounted then 0 else 8) + 8 * k.dominant →
      (canPort t port.val).tec = tec ∧ (canPort t port.val).lec = lecOf k.kind ∧ (canPort t port.val).ackErrors = 0
      ∧ (txb (canPort t port.val) b).outcome = 3 ∧ counter t Reg.canSnapErr port.val = counter s Reg.canSnapErr port.val + 1
      ∧ ((canPort s port.val).errState < 2 → 255 < tec → flaggedAt s t Reg.canFlags port.val 1
        ∧ (canPort t port.val).errState = if canCfg s port.val 4 4 = 1 then 2 else 3)) ∧
    (outcome = .lostArb → (canPort t port.val).tec = (canPort s port.val).tec ∧ (txb (canPort t port.val) b).outcome = 4)) ∧
  (∀ (port : Fin 4) (obj : Fin 32) (d : TxObject) (s : State), txObject (canPort s port.val) obj.val = some d →
    (canPort s port.val).buffers.length = 3 → owner s = true → d.enabled = true → d.cyclic = true →
    s.now % (d.period * 1000000) = 0 →
    (txState (canPort s port.val) obj.val).committed = true → (d.runOnly = true → s.exe.station = .run) →
    ∃ t, exec (.canCyclicQueue port obj) s = .next t
    ∧ canWaits t port.val (.object obj.val) (objectFrame d (txState (canPort s port.val) obj.val).data)) ∧
  (∀ (port : Fin 4) (obj : Fin 32) (s : State), (owner s = false ∨ txObject (canPort s port.val) obj.val = none
      ∨ ∃ d, txObject (canPort s port.val) obj.val = some d ∧ s.now % (d.period * 1000000) ≠ 0) →
    exec (.canCyclicQueue port obj) s = .next s) ∧
  (∀ (port : Fin 4) (r : Requester) (s : State), writable s Reg.canCtrl → ∃ t, exec (.canTxAbort port r) s = .next t
    ∧ ∀ b < 3, (txb (canPort s port.val) b).entry.isSome = true → (txb (canPort s port.val) b).state ≠ 2 →
      (txb (canPort t port.val) b).outcome = 5) ∧
  (∀ (c : Ctx) (port : BitVec 8) (frame : CanFrame) (s : State), ready s (.canSend c port frame) → owner s = true →
    ∃ t, exec (.canSend c port frame) s = .next t ∧
    (3 < port.toNat → replied s t c 0x0D03 .badParam 0 [] true) ∧
    (port.toNat ≤ 3 → sendable s port.toNat frame = false → replied s t c 0x0D03 .badParam 1 [] true) ∧
    (port.toNat ≤ 3 → sendable s port.toNat frame = true → s.exe.station ≠ .stop →
      replied s t c 0x0D03 .notInStop (stationCode s.exe.station) [] true) ∧
    (port.toNat ≤ 3 → sendable s port.toNat frame = true → s.exe.station = .stop →
      (∃ e ∈ (canPort s port.toNat).list, e.src = .send) → replied s t c 0x0D03 .busy 0 [] true) ∧
    (port.toNat ≤ 3 → sendable s port.toNat frame = true → s.exe.station = .stop → (canPort s port.toNat).buffers.length = 3 →
      (∀ e ∈ (canPort s port.toNat).list, e.src ≠ .send) → waits t c ∧ canWaits t port.toNat .send frame)) ∧
  (∀ (port : Fin 4) (s : State), (canPort s port.val).tstate = 3 → canCounts s port.val = true → (canPort s port.val).buffers.length = 3 →
    (txb (canPort s port.val) 0).state ≠ 2 → s.now % refPeriodNs s port.val = 0 → pastHandover s = false → (canPort s port.val).integrating ≤ s.now →
    ∃ t, exec (.canRefDue port) s = .next t
    ∧ (canPort t port.val).seq = ((canPort s port.val).seq + 1) % 256
    ∧ (txb (canPort t port.val) 0).entry.map (fun e => (e.src, { e.frame with esi := false }, e.oneShot))
      = some (.reference, referenceFrame s port.val (((canPort s port.val).seq + 1) % 256), true)) ∧
  (∀ (port : Fin 4) (s : State), (canPort s port.val).tstate ≠ 3 ∨ s.now % refPeriodNs s port.val ≠ 0 ∨ pastHandover s = true
    ∨ s.now < (canPort s port.val).integrating → exec (.canRefDue port) s = .next s) ∧
  (∀ (port : Fin 4) (s : State), ∃ t, exec (.canTimeMaster port) s = .next t ∧
    if (canPort s port.val).tstate = 2 ∧ canNormal s port.val = true
      ∧ (canPort s port.val).quietFrom + (3 + canTimeCfg s port.val 10 8) * refPeriodNs s port.val / 2 ≤ s.now
    then (canPort t port.val).tstate = 3 ∧ flaggedAt s t Reg.canFlags port.val 6 else t = s)

/-- Reception (R378, R379), errors (R371, R380), recovery (R381), the loss of the time master (R387) and the commands 0x0D01 and 0x0D02. -/
def Obligations.CanReceptionAndRecovery : Prop :=
  (∀ (port : Fin 4) (f : CanFrame) (sof : Nat) (s : State), ¬canReceives s port.val → exec (.canFrameRx port f sof) s = .next s) ∧
  (∀ (port : Fin 4) (f : CanFrame) (sof : Nat) (s : State), canReceives s port.val → f.fdf = true → canCfg s port.val 1 1 = 0 →
    ∃ t, exec (.canFrameRx port f sof) s = .next t ∧ (canPort t port.val).lec = 2
    ∧ counter t Reg.canSnapErr port.val = counter s Reg.canSnapErr port.val + 1
    ∧ (canPort t port.val).count = (canPort s port.val).count) ∧
  (∀ (port : Fin 4) (f : CanFrame) (sof : Nat) (s : State), canReceives s port.val → (f.fdf = true → canCfg s port.val 1 1 = 1) →
    ∃ t, exec (.canFrameRx port f sof) s = .next t ∧ counter t Reg.canSnapRx port.val = counter s Reg.canSnapRx port.val + 1 ∧
    (∀ k, (List.range 32).find? (filterMatches (canPort s port.val) f) = some k → filterField (canPort s port.val) (16 * k + 8) 1 = 1 →
      if (canPort s port.val).count < 64 then (canPort t port.val).count = (canPort s port.val).count + 1
        ∧ storeGet (fun _ => []) (canPort t port.val).slots (((canPort s port.val).head + (canPort s port.val).count) % 64)
          = canRecord f k sof 0
      else (canPort t port.val).count = (canPort s port.val).count ∧ flaggedAt s t Reg.canFlags port.val 4
        ∧ counter t Reg.canSnapOvr port.val = counter s Reg.canSnapOvr port.val + 1) ∧
    (∀ k, (List.range 32).find? (filterMatches (canPort s port.val) f) = some k → filterField (canPort s port.val) (16 * k + 8) 1 = 2 →
      storeGet (fun _ => []) (canPort t port.val).rxObjects (filterField (canPort s port.val) (16 * k + 9) 1 % 32)
        = canRecord f k sof ((objectCount (canPort s port.val) (filterField (canPort s port.val) (16 * k + 9) 1 % 32) + 1) % 4294967296)
      ∧ (canPort t port.val).count = (canPort s port.val).count) ∧
    ((List.range 32).find? (filterMatches (canPort s port.val) f) = none → canCfg s port.val 5 5 = 0 →
      (canPort t port.val).count = (canPort s port.val).count ∧ (canPort t port.val).rxObjects = (canPort s port.val).rxObjects)) ∧
  (∀ (port : Fin 4) (k : BusError) (s : State), ∃ t, exec (.canErrorFrame port k) s = .next t ∧ (¬canReceives s port.val → t = s) ∧
    (canReceives s port.val → if k.kind = .resRecessive ∧ canCfg s port.val 6 6 = 1 then ¬canReceives t port.val ∧ flaggedAt s t Reg.canFlags port.val 10
      ∧ counter t Reg.canSnapErr port.val = counter s Reg.canSnapErr port.val
    else (canPort t port.val).lec = lecOf k.kind ∧ counter t Reg.canSnapErr port.val = counter s Reg.canSnapErr port.val + 1
      ∧ (canCounts s port.val = true → (canPort t port.val).recCount = min ((canPort s port.val).recCount + 1 + 8 * k.dominant) 128))) ∧
  (∀ (port : Fin 4) (r : Requester) (s : State), writable s Reg.canCtrl → ∃ t, exec (.canRxfPop port r) s = .next t ∧
    if (canPort s port.val).count = 0 then (canPort t port.val).head = (canPort s port.val).head ∧ (canPort t port.val).count = 0
    else (canPort t port.val).head = ((canPort s port.val).head + 1) % 64 ∧ (canPort t port.val).count = (canPort s port.val).count - 1) ∧
  (∀ (port : Fin 4) (r : Requester) (s : State), writable s Reg.canCtrl → ∃ t, exec (.canCtrlRecover port r) s = .next t ∧
    if (canPort s port.val).recoveryWait then (canPort t port.val).errState = 3 ∧ (canPort t port.val).recoveryWait = false else t = s) ∧
  (∀ (c : Ctx) (port : BitVec 8) (s : State), ready s (.canRecover c port) → owner s = true → ∃ t, exec (.canRecover c port) s = .next t ∧
    if port.toNat ≤ 3 ∧ 2 ≤ (canPort s port.toNat).errState ∧ canCfg s port.toNat 4 4 ≠ 0
    then replied s t c 0x0D02 .ok 0 [] true ∧ ((canPort s port.toNat).recoveryWait = true → (canPort t port.toNat).errState = 3)
    else replied s t c 0x0D02 .badParam 0 [] true ∧ t.can = s.can) ∧
  (∀ (port : Fin 4) (s : State), ∃ t, exec (.canRecovered port) s = .next t ∧
    if (canPort s port.val).errState = 3 then (canPort t port.val).errState = 0 ∧ (canPort t port.val).tec = 0
      ∧ (canPort t port.val).recCount = 0 ∧ (canPort t port.val).warning = false ∧ flaggedAt s t Reg.canFlags port.val 2
    else t = s) ∧
  (∀ (port : Fin 4) (s : State), ∃ t, exec (.canTimeLost port) s = .next t ∧
    if ((canPort s port.val).tstate = 1 ∨ (canPort s port.val).tstate = 2)
      ∧ ((canPort s port.val).refSince.map (fun x => decide (x + 3 * refPeriodNs s port.val ≤ s.now))).getD false = true
    then (canPort t port.val).masterSeen = false ∧ flaggedAt s t Reg.canFlags port.val 8 else t = s) ∧
  (∀ (c : Ctx) (port : BitVec 8) (s : State), ready s (.canStatus c port) → ∃ t, exec (.canStatus c port) s = .next t ∧
    if port.toNat ≤ 3 then replied s t c 0x0D01 .ok 0 ([canStat s port.toNat, canErr s port.toNat, canTxb s port.toNat,
      canTimeStat s port.toNat].flatMap (fun w => leBytes 4 w.toNat)) true
    else replied s t c 0x0D01 .badParam 0 [] true)

/-- Posting (R394, R397, R401), flushes (R398), rate summaries (R402), reading (R403), the frozen window (R405) and subscriptions (R406). -/
def Obligations.EventsFlushesAndReading : Prop :=
  (∀ (e : Event) (inst : BitVec 12) (ended : Bool) (subject value1 value2 : Word) (extra : BitVec 64) (s : State),
    ∃ t, exec (.eventPost e inst ended true subject value1 value2 extra) s = .next t ∧ t.sbk.newest = s.sbk.newest ∧ t.sbk.ring = s.sbk.ring
    ∧ t.sbk.postLost.contains (eventWindow e) = true ∧ t.sbk.flags.getLsbD 2 = true) ∧
  (∀ (e : Event) (inst : BitVec 12) (ended : Bool) (subject value1 value2 : Word) (extra : BitVec 64) (s : State),
    ∃ t, exec (.eventPost e inst ended false subject value1 value2 extra) s = .next t ∧
    if admits s.sbk { event := e, time := s.now } = true then t.sbk.newest = (s.sbk.newest + 1) % 4294967296
      ∧ (4 ≤ severity e → t.sbk.flushDue = true) ∧ (bucketOf t.sbk e).pending = 0
      ∧ (∀ k, k ≠ ringSlot t.sbk.newest → storeGet (fun _ => none) t.sbk.ring k = storeGet (fun _ => none) s.sbk.ring k)
      ∧ ∃ r, storeGet (fun _ => none) t.sbk.ring (ringSlot t.sbk.newest) = some r ∧ r.seq = t.sbk.newest ∧ r.event = e ∧ r.ended = ended
        ∧ r.time = s.now ∧ r.pfw = s.sup.pfw ∧ r.subject = subject.toNat ∧ r.value1 = value1.toNat ∧ r.value2 = value2.toNat
        ∧ r.suppressed = min (bucketOf s.sbk e).pending 65535 ∧ r.postLost = s.sbk.postLost.contains (eventWindow e)
    else t.sbk.newest = s.sbk.newest ∧ t.sbk.ring = s.sbk.ring ∧ t.sbk.flags.getLsbD 1 = true
      ∧ (bucketOf t.sbk e).pending = (bucketOf s.sbk e).pending + 1) ∧
  (∀ s : State, flushStarts s = false → exec .sbkFlush s = .next s) ∧
  (∀ s : State, flushStarts s = true → (held s 4 = false ∨ s.sbk.flushing = true) → ∃ t, exec .sbkFlush s = .next t ∧ t.sbk.flushing = true
    ∧ t.sbk.flushTo = t.sbk.newest ∧ t.sbk.flushDue = false ∧ (s.sbk.overrun = none → t.sbk.newest = s.sbk.newest)
    ∧ (s.sbk.flushing = false → ∃ r ∈ t.grd.c2 ++ t.grd.c0, r.purpose = .seedbankFlush)) ∧
  (∀ s : State, flushStarts s = true → held s 4 = true → s.sbk.flushing = false → ∃ t, exec .sbkFlush s = .next t
    ∧ t.sbk.flushing = false ∧ t.sbk.flushDue = true) ∧
  (∀ (failed : List Nat) (s : State), s.sbk.flushing = false → exec (.sbkFlushDone failed) s = .next s) ∧
  (∀ (failed : List Nat) (s : State), s.sbk.flushing = true → hasClaim s .seedbankFlush = true ∨ s.sup.pfw = true →
    ∃ t, exec (.sbkFlushDone failed) s = .next t ∧ t.sbk.flushing = false ∧ hasClaim t .seedbankFlush = false ∧ settled t 0x0902 ∧
    (failed = [] → s.sbk.frozen = none → (toFlush s.sbk).length ≤ 21845 → ∀ r ∈ toFlush s.sbk, ∃ p, (p, r) ∈ t.sbk.log) ∧
    (∀ x, s.sbk.frozen = none → s.cmd.executing.find? (fun x => decide (x.opcode = 0x0902)) = some x →
      ∃ f, t.sbk.frozen = some f ∧ f.session = x.session ∧ f.expires = s.now + 60000000000)) ∧
  (∀ (failed : List Nat) (r : Record) (s : State), s.sbk.flushing = true → hasClaim s .seedbankFlush = true → toFlush s.sbk = [r] →
    s.sbk.frozen = none → failed.contains (logBlock s.sbk.logAt) = true →
    ∃ t, exec (.sbkFlushDone failed) s = .next t ∧ t.sbk.logAt = (s.sbk.logAt / 85 + 1) * 85 ∧ t.sbk.flags.getLsbD 3 = true) ∧
  (∀ (e : Event) (s : State), ∃ t, exec (.sbkRateSummary e) s = .next t ∧
    ((bucketOf s.sbk e).pending = 0 ∨ s.now < (bucketOf s.sbk e).suppressedAt + 60000000000 → t = s) ∧
    ((bucketOf s.sbk e).pending ≠ 0 → (bucketOf s.sbk e).suppressedAt + 60000000000 ≤ s.now → e ≠ .sbkRateSummary → t.sbk.newest = (s.sbk.newest + 1) % 4294967296 ∧ (bucketOf t.sbk e).pending = 0
      ∧ ∃ r, storeGet (fun _ => none) t.sbk.ring (ringSlot t.sbk.newest) = some r ∧ r.event = .sbkRateSummary)) ∧
  (∀ s : State, (∀ f, s.sbk.frozen = some f → s.now < f.expires) → exec .sbkSnapshotExpired s = .next s) ∧
  (∀ (f : Frozen) (s : State), s.sbk.frozen = some f → f.expires ≤ s.now → ∃ t, exec .sbkSnapshotExpired s = .next t ∧ t.sbk.frozen = none
    ∧ t.sbk.flags.getLsbD 4 = true) ∧
  (∀ (c : Ctx) (first : BitVec 32) (count : BitVec 16) (s : State), ready s (.sbkRead c first count) → ∃ t, exec (.sbkRead c first count) s = .next t ∧ t.sbk = s.sbk ∧
    if 1 ≤ count.toNat ∧ count.toNat ≤ 1360
    then replied s t c 0x0901 .ok 0 ((recordsFrom s.sbk first.toNat count.toNat).flatMap recordBytes) true
    else replied s t c 0x0901 .badParam 4 [] true) ∧
  (∀ (c : Ctx) (s : State), ready s (.sbkSnapshot c) → ∃ t, exec (.sbkSnapshot c) s = .next t ∧
    if frozenByOther s c.session.val = true then replied s t c 0x0902 .busy (frozenLeft s) [] true ∧ t.sbk = s.sbk
    else waits t c ∧ (held s 4 = false ∨ s.sbk.flushing = true → t.sbk.flushing = true)) ∧
  (∀ (c : Ctx) (s : State), ready s (.sbkRelease c) → ∃ t, exec (.sbkRelease c) s = .next t ∧
    if frozenByOther s c.session.val = true then replied s t c 0x0903 .busy (frozenLeft s) [] true ∧ t.sbk = s.sbk
    else replied s t c 0x0903 .ok 0 [] true ∧ t.sbk.frozen = none) ∧
  (∀ (c : Ctx) (minSev : BitVec 8) (s : State), ready s (.sbkSubscribe c minSev) → ∃ t, exec (.sbkSubscribe c minSev) s = .next t ∧ t.sbk = s.sbk ∧
    if minSev.toNat = 0xFF then replied s t c 0x0904 .ok 0 [] true
      ∧ ∀ x ∈ t.cmd.subs, ¬(x.session = c.session.val ∧ x.queue = c.queue.val ∧ x.opcode = 0x0904)
    else if 5 < minSev.toNat then replied s t c 0x0904 .badParam 0 [] true ∧ t.cmd.subs = s.cmd.subs
    else replied s t c 0x0904 .ok 0 [] false ∧ ∃ x ∈ t.cmd.subs, x.session = c.session.val ∧ x.queue = c.queue.val ∧ x.opcode = 0x0904
      ∧ x.tag = c.tag.toNat ∧ x.param = minSev.toNat)

/-- Requests (R408, R413, R416, R422), frames (R412, R414, R418 to R420), temperature (R410, R411), the loop (R418), the record (R419) and the redraw (R421). -/
def Obligations.PanelRequestsFramesAndCondition : Prop :=
  (∀ (c : Ctx) (x y w h : BitVec 16) (flags : BitVec 8) (pixels : List Byte) (s : State) (r : PanelReq), ready s (.panelUpdate c x y w h flags pixels) →
    r = { x := x.toNat, y := y.toNat, w := w.toNat, h := h.toNat, kind := if flags.toNat.testBit 1 then 1 else 0, pixels := pixels } →
    ∃ t, exec (.panelUpdate c x y w h flags pixels) s = .next t ∧
    if x.toNat % 8 ≠ 0 then replied s t c 0x0A01 .badParam 0 [] true ∧ t.pnl = s.pnl
    else if w.toNat % 8 ≠ 0 ∨ w.toNat = 0 ∨ 480 < x.toNat + w.toNat then replied s t c 0x0A01 .badParam 4 [] true ∧ t.pnl = s.pnl
    else if h.toNat = 0 ∨ 240 < y.toNat + h.toNat then replied s t c 0x0A01 .badParam 6 [] true ∧ t.pnl = s.pnl
    else if pixels.length ≠ w.toNat * h.toNat / 4
    then replied s t c 0x0A01 .badLength (9 + w.toNat * h.toNat / 4) [] true ∧ t.pnl = s.pnl
    else if cfgField s Reg.pnlCfg 0 2 2 = 1 ∧ overlaps r stampRect = true then replied s t c 0x0A01 .badParam 0 [] true ∧ t.pnl = s.pnl
    else drawn s t c 0x0A01 r) ∧
  (∀ (c : Ctx) (screen : BitVec 16) (s : State), ready s (.panelScreen c screen) → ∃ t, exec (.panelScreen c screen) s = .next t ∧
    if screen.toNat < 2 then ∃ ps, drawn s t c 0x0A02 { w := 480, h := 224, pixels := ps } ∧ ps.length = 26880
    else match ((s.exe.image.map (·.screens)).getD []).find? (fun d => decide (d.1 = screen.toNat) && decide (256 ≤ screen.toNat)) with
      | none => replied s t c 0x0A02 .badParam 0 [] true ∧ t.pnl = s.pnl
      | some d => drawn s t c 0x0A02 { x := d.2.x, y := d.2.y, w := d.2.w, h := d.2.h, kind := if d.2.fast then 1 else 0, pixels := d.2.pixels }) ∧
  (∀ (c : Ctx) (s : State), ready s (.panelStatus c) → ∃ t, exec (.panelStatus c) s = .next t ∧ t.pnl = s.pnl ∧ replied s t c 0x0A03 .ok 0
    ([pnlStat s, reg s Reg.pnlFlags 0, reg s Reg.pnlApply 0, cfg s Reg.pnlCfg 0, pnlVcom s, pnlCrack s].flatMap (fun w => leBytes 4 w.toNat)) true) ∧
  (∀ s : State, ∃ t, exec .panelFrame s = .next t ∧
    (∀ x ∈ s.pnl.running, s.pnl.cracked = false → s.sup.pfw = false → x.stopping = 0 → x.frames + 1 < updateFrames x.req.kind →
      { x with frames := x.frames + 1 } ∈ t.pnl.running) ∧
    (∀ y ∈ t.pnl.running, (∃ x ∈ s.pnl.running, y = { x with frames := x.frames + 1 } ∧ x.frames + 1 < updateFrames x.req.kind
        ∧ x.stopping = 0 ∧ s.pnl.cracked = false ∧ s.sup.pfw = false)
      ∨ (y.req ∈ s.pnl.queue ∧ y.req.phase = 3 ∧ y.frames = 0 ∧ panelMayStart s = true)) ∧
    (t.pnl.running = [] → s.pnl.redraw = 0 → t.pnl.pumps = false ∧ (s.pnl.pumps = true → t.pnl.discharging = true)) ∧
    (∀ x, s.pnl.running = [x] → s.pnl.queue = [] → s.pnl.cracked = false → s.sup.pfw = false → x.stopping = 0 →
      updateFrames x.req.kind ≤ x.frames + 1 → x.req.kind ≠ 2 → t.pnl.completed = some s.now ∧ t.pnl.running = []
        ∧ counter t Reg.pnlSnapUpd 0 = counter s Reg.pnlSnapUpd 0 + 1)) ∧
  (∀ (v : Int) (s : State), ∃ t, exec (.panelTempMeasure v) s = .next t ∧ t.pnl.temp = v ∧ (t.pnl.hot = true ↔ 60 < v) ∧
    (t.pnl.cold = true ↔ v < -10 ∨ (s.pnl.cold = true ∧ v < -8)) ∧ (v < -10 → s.pnl.cold = false → flagged s t Reg.pnlFlags 6)) ∧
  (∀ (ohm : Nat) (s : State), ∃ t, exec (.crackMeasure ohm) s = .next t ∧ t.pnl.measured = true ∧ (t.pnl.crackOpen = true ↔ 10000 < ohm) ∧
    (10000 < ohm → t.pnl.cracked = true) ∧ (10000 < ohm → s.pnl.cracked = false → t.pnl.queue = [] ∧ flagged s t Reg.pnlFlags 0) ∧
    (ohm ≤ 10000 → t.pnl.cracked = s.pnl.cracked ∧ t.pnl.queue = s.pnl.queue)) ∧
  (∀ (id : Nat) (s : State), ∃ t, exec (.panelRecordWritten id) s = .next t ∧
    ((∀ r ∈ s.pnl.queue, ¬(r.id = id ∧ r.phase = 2)) → t = s) ∧
    (∀ r ∈ s.pnl.queue, r.id = id → r.phase = 2 → { r with phase := 3 } ∈ t.pnl.queue
      ∧ ∃ e ∈ (panelRecord t.pnl).entries, e.state = 1)) ∧
  (∀ s : State, ∃ t, exec .panelDischargeDone s = .next t ∧ t.pnl = { s.pnl with discharging := false }) ∧
  (∀ s : State, ∃ t, exec .panelRedraw s = .next t ∧
    (s.pnl.redraw = 1 → (s.pnl.measured = false ∨ s.pnl.tempMeasured = false ∨ panelHalted s = true ∨ s.pnl.cold = true → t = s)
      ∧ (s.pnl.measured = true → s.pnl.tempMeasured = true → panelHalted s = false → s.pnl.cold = false → panelClaimsFit s →
        t.pnl.redraw = 2 ∧ ∃ r ∈ t.grd.c3, r.purpose = .panelRedraw)) ∧
    (s.pnl.redraw = 2 → panelHalted s = false → (hasClaim s .panelRedraw = false → t = s)
      ∧ (hasClaim s .panelRedraw = true → t.pnl.redraw = 3 ∧ t.pnl.pumps = true)) ∧
    (s.pnl.redraw = 3 → panelHalted s = false → t.pnl.redraw = 0 ∧ t.pnl.redrawRects = [] ∧ (panelRecord t.pnl).entries = []
      ∧ t.pnl.discharging = true ∧ flagged s t Reg.pnlFlags 4) ∧
    (s.pnl.redraw = 2 ∨ s.pnl.redraw = 3 → panelHalted s = true → t.pnl.redraw = 1 ∧ t.pnl.pumps = false) ∧ (s.pnl.redraw = 0 → t = s)) ∧
  (∀ (pixels : List Byte) (s : State), ∃ t, exec (.screen0Redraw pixels) s = .next t ∧
    if s.pnl.cracked = true ∨ s.pnl.released = false ∨ 16 ≤ s.pnl.queue.length ∨ s.pnl.shown = some (screenItems s) then t = s
    else t.pnl.shown = some (screenItems s) ∧ ( panelClaimsFit s → ∃ x ∈ t.pnl.queue, x.id = s.pnl.nextId ∧ x.w = 480 ∧ x.h = 224 ∧ x.pixels = pixels))

/-- Certificates (R425, R427 to R430), commissioning (R431), service-port authentication (R315) and the anti-rollback counter (R436, R437). -/
def Obligations.CredentialsCommissioningAndCounter : Prop :=
  (∀ (c : Ctx) (which : BitVec 8) (s : State), ready s (.certRead c which) → ∃ t, exec (.certRead c which) s = .next t ∧ t.tru = s.tru ∧
    if which.toNat = 0 then replied s t c 0x0B01 .ok 0 (deviceCert s.tru.device) true
    else if 8 < which.toNat then replied s t c 0x0B01 .badParam 0 [] true
    else match slotCert s which.toNat with
      | some x => replied s t c 0x0B01 .ok 0 x.der true
      | none => replied s t c 0x0B01 .badParam 0 [] true) ∧
  (∀ (c : Ctx) (subject : SubjectFields) (request : List Byte) (s : State), ready s (.csrMake c subject request) → ∃ t, exec (.csrMake c subject request) s = .next t ∧
    if ∃ f ∈ subject, 64 < f.length then replied s t c 0x0B02 .badParam 0xFFFFFFFF [] true ∧ t.tru = s.tru
    else if s.tru.busy.isSome = true then waits t c ∧ t.tru.waitingOps = s.tru.waitingOps ++ [opOf c 0x0B02 0 none false request]
    else if s.tru.keyOk = false then replied s t c 0x0B02 .busy 0 [] true
    else if 2048 < request.length then replied s t c 0x0B02 .badParam 0xFFFFFFFF [] true
    else replied s t c 0x0B02 .ok 0 request true ∧ counter t Reg.truSnapSign 0 = counter s Reg.truSnapSign 0 + 1) ∧
  (∀ (c : Ctx) (slot : BitVec 8) (cert : Certificate) (s : State), ready s (.certInstall c slot cert) → s.tru.busy.isSome = true →
    ∃ t, exec (.certInstall c slot cert) s = .next t ∧ waits t c
      ∧ t.tru.waitingOps = s.tru.waitingOps ++ [opOf c 0x0B03 slot.toNat (some cert) false []] ∧ t.tru.slots = s.tru.slots) ∧
  (∀ (c : Ctx) (slot : BitVec 8) (cert : Certificate) (s : State), ready s (.certInstall c slot cert) → s.tru.busy = none →
    ¬(commissioning s = true ∧ c.session.val = 16) → ∃ t, exec (.certInstall c slot cert) s = .next t ∧
    (installable s slot.toNat cert = true → slotCert t slot.toNat = some cert ∧ flagged s t Reg.truFlags 3
      ∧ (∀ k, k ≠ slot.toNat → slotCert t k = slotCert s k)
      ∧ ((∀ x ∈ s.cmd.sessions, x.credential ≠ slot.toNat) → lastReplied t c 0x0B03 .ok 0 [] true)) ∧
    (installable s slot.toNat cert = false → t.tru.slots = s.tru.slots ∧
      if slot.toNat = 0 ∨ 8 < slot.toNat then replied s t c 0x0B03 .badParam 0 [] true
      else if certAccepted cert = false ∨ dateOk s cert = false then replied s t c 0x0B03 .badParam cert.failOffset [] true
      else replied s t c 0x0B03 .busy 1 [] true)) ∧
  (∀ (c : Ctx) (slot : BitVec 8) (cert : Certificate) (s : State), ready s (.certInstall c slot cert) → s.tru.busy = none → commissioning s = true →
    c.session.val = 16 → ∃ t, exec (.certInstall c slot cert) s = .next t ∧
    if slot.toNat = 1 ∧ installable s 1 cert = true ∧ isEngineer cert = true then t.tru.proof = some (16, s.now) ∧ slotCert t 1 = some cert
    else t.tru.slots = s.tru.slots ∧ t.tru.proof = s.tru.proof) ∧
  (∀ (c : Ctx) (slot : BitVec 8) (s : State), ready s (.certRemove c slot) → s.tru.busy = none → ∃ t, exec (.certRemove c slot) s = .next t ∧
    if slot.toNat = 0 ∨ 8 < slot.toNat ∨ slotCert s slot.toNat = none then replied s t c 0x0B06 .badParam 0 [] true ∧ t.tru.slots = s.tru.slots
    else if losesEngineer s slot.toNat none = true then replied s t c 0x0B06 .busy 1 [] true ∧ t.tru.slots = s.tru.slots
    else slotCert t slot.toNat = none ∧ flagged s t Reg.truFlags 3 ∧ (∀ k, k ≠ slot.toNat → slotCert t k = slotCert s k)
      ∧ ∀ x ∈ t.cmd.sessions, x.credential ≠ slot.toNat) ∧
  (∀ (c : Ctx) (nonce : BitVec 384) (s : State), ready s (.authChallenge c nonce) → ∃ t, exec (.authChallenge c nonce) s = .next t ∧
    if c.session.val = 16 then replied s t c 0x0B04 .ok 0 (leBytes 48 nonce.toNat) true ∧ t.cmd.nonce = some (nonce.toNat, s.now)
    else replied s t c 0x0B04 .authFailed 0 [] true ∧ t.cmd.nonce = s.cmd.nonce) ∧
  (∀ (c : Ctx) (slot : BitVec 8) (valid : Bool) (s : State), ready s (.authResponse c slot valid) → s.tru.busy = none →
    ∃ t, exec (.authResponse c slot valid) s = .next t ∧
    if c.session.val ≠ 16 ∨ s.cmd.lockout = true then replied s t c 0x0B05 .authFailed 0 [] true ∧ t.cmd.nonce = s.cmd.nonce
    else if slot.toNat = 0 ∨ 8 < slot.toNat then replied s t c 0x0B05 .badParam 0 [] true ∧ t.cmd.nonce = s.cmd.nonce
    else t.cmd.nonce = none ∧
      ((∃ cert, responseGood s slot.toNat valid cert ∧ lastReplied t c 0x0B05 .ok 0 (leBytes 1 (rolesOf cert)) true
          ∧ (∃ x, sessionOf t.cmd 16 = some x ∧ x.roles = rolesOf cert ∧ x.credential = slot.toNat)
          ∧ (slot.toNat = 1 → t.tru.proof = none))
        ∨ ((∀ cert, ¬responseGood s slot.toNat valid cert)
          ∧ replied s t c 0x0B05 .authFailed 0 [] true ∧ flagged s t Reg.truFlags 2
          ∧ t.cmd.failedAuth = (s.cmd.failedAuth ++ [s.now]).filter (fun x => decide (s.now < x + 60000000000))
          ∧ (t.cmd.lockout = true ↔ 3 ≤ t.cmd.failedAuth.length)))) ∧
  (∀ s : State, s.tru.waitingOps = [] → ∃ t, exec .credentialOpStart s = .next t ∧ t.tru = { s.tru with busy := none } ∧ t.cmd = s.cmd) ∧
  (∀ (o : CredentialOp) (rest : List CredentialOp) (s : State), s.tru.waitingOps = o :: rest → ∃ t, exec .credentialOpStart s = .next t ∧
    t.tru.busy = some o ∧ t.tru.waitingOps = rest ∧ ∀ x ∈ t.cmd.executing, ¬(x.queue = o.queue ∧ x.tag = o.tag ∧ x.opcode = o.opcode)) ∧
  (∀ s : State, ∃ t, exec .commissionProofExpiry s = .next t ∧
    if (∀ q, s.tru.proof = some q → s.now < q.2 + 60000000000) then t = s
    else t.tru.proof = none ∧ slotCert t 1 = none ∧ flagged s t Reg.truFlags 3 ∧ ∀ k, k ≠ 1 → slotCert t k = slotCert s k) ∧
  (∀ s : State, s.exe.image = none → exec .arbAdvance s = .next s) ∧
  (∀ (im : Image) (s : State), s.exe.image = some im → ∃ t, exec .arbAdvance s = .next t ∧
    if s.exe.station = .run ∧ s.tru.fuses < min 63 im.header.securityVersion then t.tru.fuses = s.tru.fuses + 1
      ∧ (s.tru.fuses + 1 = min 63 im.header.securityVersion → flagged s t Reg.truFlags 4)
    else t.tru.fuses = s.tru.fuses ∧ t.tru.advancing = none)

/-- The fuses are blown one per step and never unblown (R436, R437), and a reset keeps them (R440). -/
def Obligations.AntiRollbackCounterNeverFalls : Prop :=
  ∀ s t : State, step s = .next t → (t.tru.fuses = s.tru.fuses ∨ (s.pending.head? = some .arbAdvance ∧ t.tru.fuses = s.tru.fuses + 1
      ∧ s.exe.station = .run ∧ ∃ im, s.exe.image = some im ∧ t.tru.fuses ≤ im.header.securityVersion))
    ∧ (s.tru.fuses ≤ 63 → t.tru.fuses ≤ 63)

/-- What reset leaves (R17, R254, R326, R440, R448). Values the manual does not give are the choice of log 2; the empty memories and the factory counter of 0 fuses are of log 7 and log 2. -/
def Obligations.ResetState : Prop :=
  State.reset.pair.role = .offline ∧ State.reset.own.ownDriven = false ∧ State.reset.exe.station = .init ∧ State.reset.mem.wf = true
    ∧ State.reset.tru.fuses ≤ 63 ∧ State.reset.pending = [] ∧ (∀ n, terminalDrive State.reset n = 0)
    ∧ (∀ w, 1 ≤ w → w ≤ 14 → held State.reset w = true) ∧ (∀ a i, counter State.reset a i = 0)
    ∧ (∀ a i sp, regSpec? a = some sp → (a = Reg.netPortCfg → i < 2) → reg State.reset a i = word sp.reset)

/-- Resets (R439 to R443, R302), storms (R447), island resets (R444), options (R450, R452), holdup and supplies (R454), the power-fail sequence (R455 to R457). -/
def Obligations.ResetsOptionsSuppliesAndPowerFail : Prop :=
  (∀ s : State, ∃ t, exec .resetN s = .next t ∧ (resetHeld s = true → t = modSup (heldBack s) (fun u => { u with resetN := true }))
      ∧ (resetHeld s = false → afterReset s t 3 ∧ t.sup.resetN = true
      ∧ t.sup.stormHold = afterStorm s)) ∧
  (∀ s : State, ∃ t, exec .resetNRelease s = .next t ∧ t = modSup s (fun u => { u with resetN := false })) ∧
  (∀ s : State, ∃ t, exec .powerFail s = .next t ∧ if s.sup.alwaysOn = true ∧ s.sup.pfwDone = true
    then s.sup.storm = false → s.sup.stormHold = false → afterReset s t 2 else t = s) ∧
  (∀ s : State, ∃ t, exec .watchdog s = .next t ∧ if held s 0xE = true ∨ s.now < s.sup.idleAt + watchdogNs s then t = s
    else t.exe.station = .fault ∧ t.pair.role = .offline ∧ t.own.ownDriven = false
      ∧ t.sup.dueReset = some { cause := 5, due := s.now + 10000000 }) ∧
  (∀ s : State, ∃ t, exec .firmwareIdlePoint s = .next t ∧ t.sup.idleAt = s.now) ∧
  (∀ (r : Requester) (s : State), writable s Reg.supReset → ∃ t, exec (.supResetModule r) s = .next t
    ∧ t.sup.dueReset = some { cause := 4, due := s.now + 10000000 } ∧ (hasStandby s = true → t.pair.role = .offline)
    ∧ (hasStandby s = false → t.pair = s.pair)) ∧
  (∀ s : State, s.sup.dueReset = none → exec .softResetTake s = .next s) ∧
  (∀ (d : DueReset) (s : State), s.sup.dueReset = some d → ∃ t, exec .softResetTake s = .next t ∧ (s.now < d.due → t = s) ∧
    (d.due ≤ s.now → resetHeld s = false → afterReset s t d.cause) ∧
    (d.due ≤ s.now → resetHeld s = true → t = heldBack (modSup s (fun u => { u with dueReset := none })))) ∧
  (∀ s : State, ∃ t, exec .coreSelfReset s = .next t ∧ (selfResetDue s = false → t = s) ∧
    (selfResetDue s = true → resetHeld s = true → t = heldBack s) ∧
    (selfResetDue s = true → resetHeld s = false → afterReset s t 6)) ∧
  (∀ s : State, ∃ t, exec .resetStorm s = .next t ∧ if 8 ≤ (recentResets s).length ∧ s.sup.storm = false
    then t.sup.storm = true ∧ t.own.held = allIslands ∧ t.own.ownDriven = false ∧ t.pair.cause = 19 else t = s) ∧
  (∀ s : State, ∃ t, exec .stormRetry s = .next t ∧ if s.sup.storm = true
      ∧ s.sup.resets.getLastD 0 + 10000000000 ≤ alwaysOnTime s
    then afterReset s t 7 ∧ t.sup.storm = false ∧ t.sup.resets = [] ∧ t.sup.stormRetry = true else t = s) ∧
  (∀ (i : LoneIsland) (r : Requester) (s : State), writable s Reg.supReset → ∃ t, exec (.supResetIsland i r) s = .next t ∧ islandResetTaken s t i) ∧
  (∀ (i : LoneIsland) (s : State), ∃ t, exec (.huskWatchdog i) s = .next t ∧ (held s (loneWindow i) = true → t = s) ∧
    (held s (loneWindow i) = false → islandResetTaken s t i)) ∧
  (∀ (i : LoneIsland) (s : State), ∃ t, exec (.islandResetDone i) s = .next t ∧ (loneWindow i ∉ s.sup.islandReset → t = s) ∧
    (loneWindow i ∈ s.sup.islandReset → held t (loneWindow i) = false ∧ loneWindow i ∉ t.sup.islandReset
      ∧ (i = .panel → t.pnl.released = true) ∧ ∀ w, w ≠ loneWindow i → held t w = held s w)) ∧
  (∀ (r : Requester) (s : State), writable s Reg.supOptCtrl → ∃ t, exec (.optCommit r) s = .next t
    ∧ (held s 4 = true → t.sup.opt1 = t.sup.optStage ∧ t.sup.opt2 = t.sup.optStage)
    ∧ (held s 4 = false → t.sup.optNext = some t.sup.optStage ∧ t.sup.opt1 = s.sup.opt1 ∧ t.sup.opt2 = s.sup.opt2
      ∧ ∃ q ∈ t.grd.c2, q.purpose = .optionWrite) ∧ optField t.sup.optStage 8 4 = (optField s.sup.optStage 8 4 + 1) % 4294967296
    ∧ optField t.sup.optStage 1020 4 = crc32c (getStore t.sup.optStage 0 1020)
    ∧ (∀ a, ¬(8 ≤ a ∧ a < 12) → ¬(1020 ≤ a ∧ a < 1024) → storeGet (fun _ => 0) t.sup.optStage a = storeGet (fun _ => 0) s.sup.optStage a)) ∧
  (∀ (r : Requester) (s : State), writable s Reg.supOptCtrl → ∃ t, exec (.optDiscard r) s = .next t ∧ t.sup.optStage = s.sup.optUse
    ∧ t.sup.opt1 = s.sup.opt1 ∧ t.sup.opt2 = s.sup.opt2) ∧
  (∀ s : State, ∃ t, exec .holdupReady s = .next t ∧ t.sup.holdupReady = true ∧ (s.sup.step ≠ 6 → t.sup.step = s.sup.step ∧ t.own = s.own) ∧
    (s.sup.step = 6 → t.sup.step = 9 ∧ t.own.held = if s.sup.trimFault then trimHeld else [])) ∧
  (∀ s : State, ∃ t, exec .holdupFull s = .next t ∧ t = modSup s (fun u => { u with holdupReady := true, holdupFull := true })) ∧
  (∀ s : State, ∃ t, exec .clkFallback s = .next t ∧ if s.sup.clkUse = 1 then t.sup.clkUse = 0 ∧ flagged s t Reg.supPflags 7 else t = s) ∧
  (∀ (m : SupplySample) (s : State), ∃ t, exec (.supplySample m) s = .next t ∧
    (s.sup.aOk = true → 19 ≤ s.sup.aLow → m.a.toNat < 320 → t.sup.aOk = false ∧ flagged s t Reg.supPflags 0) ∧
    (s.sup.bOk = true → 19 ≤ s.sup.bLow → m.b.toNat < 320 → t.sup.bOk = false ∧ flagged s t Reg.supPflags 1) ∧
    (1999 ≤ s.sup.aHigh → 360 ≤ m.a.toNat → t.sup.aOk = true) ∧ (1999 ≤ s.sup.bHigh → 360 ≤ m.b.toNat → t.sup.bOk = true) ∧
    (320 ≤ m.a.toNat → m.a.toNat < 360 → t.sup.aOk = s.sup.aOk) ∧
    (s.sup.pfw = false → s.sup.lostAt = none → t.sup.lostAt = if 1 ≤ s.sup.railLow ∧ m.rail.toNat < 320 then some s.now else none) ∧
    (∀ x, s.sup.pfw = false → s.sup.lostAt = some x → if 19 ≤ s.sup.railHigh ∧ 360 ≤ m.rail.toNat
      then t.sup.lostAt = none ∧ t.sup.dipCount = s.sup.dipCount + 1 ∧ flagged s t Reg.supPflags 2 else t.sup.lostAt = some x)) ∧
  (∀ s : State, ∃ t, exec .powerFailWarning s = .next t ∧ (s.sup.pfw = true ∨ warningDue s = false → t = s) ∧
    (s.sup.pfw = false → warningDue s = true → t.sup.pfw = true ∧ t.grd.pfw = true ∧ flagged s t Reg.supPflags 3
      ∧ (held s 4 = false ∨ s.sbk.flushing = true → t.sbk.flushing = true)
      ∧ t.net.saved = s.now ∧ (∀ k, (task t k).state ≠ .running)
      ∧ (hasStandby s = true ∨ owner s = false → t.pair.role = .offline)
      ∧ (hasStandby s = true ∨ owner s = false ∧ s.pair.role ≠ .offline → t.own.ownDriven = false)
      ∧ (hasStandby s = false → owner s = true → t.pair.role = s.pair.role))) ∧
  (∀ s : State, ∃ t, exec .powerFailHold s = .next t ∧ if s.sup.pfw = true
    then t.own.ownDriven = false ∧ t.own.held = allIslands ∧ t.pair.role = .offline ∧ t.sup.pfwDone = true else t = s) ∧
  (∀ s : State, ∃ t, exec .retentionEnd s = .next t ∧ if s.sup.pfwDone = true then t.sup.alwaysOn = false ∧ t.sbk.ring = [] else t = s)
end

