-- ==== Sys2Proof/Laws/Store.lean ====
section
/-! SUPPORT. Laws/Store.lean: reading after writing a sparse store, and its canonical form. -/
namespace Sys2Proof.Machine
open Sys2Proof

variable {α : Type}

theorem storeGet_filter_ne (d : Nat → α) (m : Store α) {k j : Nat} (h : j ≠ k) :
    storeGet d (m.filter (fun p => decide (p.1 ≠ k))) j = storeGet d m j := by
  induction m with
  | nil => rfl
  | cons p m ih =>
    obtain ⟨a, v⟩ := p
    by_cases ha : a = k
    · have : j ≠ a := by omega
      simpa [ha, storeGet, h] using ih
    · by_cases hj : j = a <;> simp_all [storeGet]

theorem storeGet_filter_self (d : Nat → α) (m : Store α) (k : Nat) :
    storeGet d (m.filter (fun p => decide (p.1 ≠ k))) k = d k := by
  induction m with
  | nil => rfl
  | cons p m ih =>
    obtain ⟨a, v⟩ := p
    by_cases ha : a = k
    · simpa [ha] using ih
    · have : k ≠ a := by omega
      simp_all [storeGet]

theorem storeGet_insert_self (d : Nat → α) (m : Store α) (k : Nat) (v : α) (h : ∀ p ∈ m, p.1 ≠ k) :
    storeGet d (storeInsert k v m) k = v := by
  induction m with
  | nil => simp [storeInsert, storeGet]
  | cons p m ih =>
    obtain ⟨a, w⟩ := p
    have ha : k ≠ a := fun e => h (a, w) (by simp) e.symm
    simp only [storeInsert]
    split
    · simp [storeGet]
    · simp [storeGet, ha, ih (fun q hq => h q (by simp [hq]))]

theorem storeGet_insert_ne (d : Nat → α) (m : Store α) {k j : Nat} (v : α) (h : j ≠ k) :
    storeGet d (storeInsert k v m) j = storeGet d m j := by
  induction m with
  | nil => simp [storeInsert, storeGet, h]
  | cons p m ih =>
    obtain ⟨a, w⟩ := p
    simp only [storeInsert]
    split
    · simp [storeGet, h]
    · simp [storeGet, ih]

/-- Reading the key just written gives the value written. -/
@[simp] theorem storeGet_storeSet [DecidableEq α] (d : Nat → α) (m : Store α) (k : Nat) (v : α) :
    storeGet d (storeSet d m k v) k = v := by
  unfold storeSet
  split
  · next h => rw [storeGet_filter_self, h]
  · exact storeGet_insert_self d _ k v (by simp)

/-- A write leaves every other key alone. -/
theorem storeGet_storeSet_ne [DecidableEq α] (d : Nat → α) (m : Store α) {k j : Nat} (v : α) (h : j ≠ k) :
    storeGet d (storeSet d m k v) j = storeGet d m j := by
  unfold storeSet
  split
  · exact storeGet_filter_ne d m h
  · rw [storeGet_insert_ne d _ v h, storeGet_filter_ne d m h]

theorem storeAbove_filter (m : Store α) (k : Nat) (p : Nat × α → Bool) (h : storeAbove k m = true) :
    storeAbove k (m.filter p) = true := by
  simp only [storeAbove, List.all_eq_true] at *
  exact fun q hq => h q (List.mem_of_mem_filter hq)

theorem storeWf_filter [DecidableEq α] (d : Nat → α) (m : Store α) (p : Nat × α → Bool) (h : storeWf d m = true) :
    storeWf d (m.filter p) = true := by
  induction m with
  | nil => rfl
  | cons q m ih =>
    obtain ⟨a, v⟩ := q
    simp only [storeWf, Bool.and_eq_true] at h
    simp only [List.filter]
    split
    · simp only [storeWf, Bool.and_eq_true]
      exact ⟨⟨h.1.1, storeAbove_filter m a p h.1.2⟩, ih h.2⟩
    · exact ih h.2

theorem storeAbove_insert {j k : Nat} (m : Store α) (v : α) (hj : j < k) (h : storeAbove j m = true) :
    storeAbove j (storeInsert k v m) = true := by
  induction m with
  | nil => simpa [storeInsert, storeAbove] using hj
  | cons q m ih =>
    obtain ⟨a, w⟩ := q
    have h2 : storeAbove j m = true := by simp [storeAbove] at h ⊢; exact h.2
    simp only [storeInsert]
    split
    · simp [storeAbove] at h ⊢; exact ⟨hj, h⟩
    · have := ih h2
      simp [storeAbove] at h this ⊢; exact ⟨h.1, this⟩

theorem storeAbove_mono {j k : Nat} (m : Store α) (hj : j < k) (h : storeAbove k m = true) : storeAbove j m = true := by
  simp only [storeAbove, List.all_eq_true, decide_eq_true_eq] at *
  exact fun q hq => lt_trans hj (h q hq)

theorem storeWf_insert [DecidableEq α] (d : Nat → α) (m : Store α) (k : Nat) (v : α) (hv : v ≠ d k)
    (hk : ∀ p ∈ m, p.1 ≠ k) (h : storeWf d m = true) : storeWf d (storeInsert k v m) = true := by
  induction m with
  | nil => simp [storeInsert, storeWf, storeAbove, hv]
  | cons q m ih =>
    obtain ⟨a, w⟩ := q
    have ha : a ≠ k := hk (a, w) (by simp)
    simp only [storeWf, Bool.and_eq_true] at h
    simp only [storeInsert]
    split
    · next hlt =>
      simp only [storeWf, Bool.and_eq_true, decide_eq_true_eq]
      refine ⟨⟨hv, ?_⟩, ⟨by simpa using h.1.1, h.1.2⟩, h.2⟩
      have := storeAbove_mono m hlt h.1.2
      simp [storeAbove] at this ⊢; exact ⟨hlt, this⟩
    · next hlt =>
      have hlt' : a < k := by omega
      simp only [storeWf, Bool.and_eq_true]
      exact ⟨⟨h.1.1, storeAbove_insert m v hlt' h.1.2⟩, ih (fun p hp => hk p (by simp [hp])) h.2⟩

/-- A write keeps the canonical form. -/
theorem storeWf_storeSet [DecidableEq α] (d : Nat → α) (m : Store α) (k : Nat) (v : α) (h : storeWf d m = true) :
    storeWf d (storeSet d m k v) = true := by
  unfold storeSet
  split
  · exact storeWf_filter d m _ h
  · next hv => exact storeWf_insert d _ k v hv (by simp) (storeWf_filter d m _ h)

theorem storeWf_storeModify [DecidableEq α] (d : Nat → α) (m : Store α) (k : Nat) (f : α → α) (h : storeWf d m = true) :
    storeWf d (storeModify d m k f) = true := storeWf_storeSet d m k _ h

@[simp] theorem storeGet_storeModify [DecidableEq α] (d : Nat → α) (m : Store α) (k : Nat) (f : α → α) :
    storeGet d (storeModify d m k f) k = f (storeGet d m k) := storeGet_storeSet d m k _

theorem storeGet_storeModify_ne [DecidableEq α] (d : Nat → α) (m : Store α) {k j : Nat} (f : α → α) (h : j ≠ k) :
    storeGet d (storeModify d m k f) j = storeGet d m j := storeGet_storeSet_ne d m _ h

end Sys2Proof.Machine
end

