-- ==== Sys2Proof/Laws/Frame.lean ====
section
/-! SUPPORT. Laws/Frame.lean: how frames compose, and the frames of the operations on the register file, the counters and single
units of State. -/
namespace Sys2Proof
open Sys2Proof.Machine

/-- An area takes in all of another. -/
def Area.covers : Area → Area → Bool
  | .unit u, .unit v => u == v
  | .reg a, .reg b => a % 1048576 == b % 1048576
  | .flag a n, .flag b m => a == b && n == m
  | .inForce a, .inForce b => a % 1048576 == b % 1048576
  | .ctr a, .ctr b => a % 1048576 == b % 1048576
  | .codeFlag c, .codeFlag d => c == d
  | .codeFlag c, .flag a n => a == Reg.cmdFlags && codeFlagBit c == some n
  | .regsOf w, .regsOf v => w == v
  | .regsOf w, .reg a => windowOf a == w
  | .inForceOf w, .inForceOf v => w == v
  | .inForceOf w, .inForce a => windowOf a == w
  | .ctrsOf w, .ctrsOf v => w == v
  | .ctrsOf w, .ctr a => windowOf a == w
  | .anyReg, .anyReg => true
  | .anyReg, .reg _ => true
  | .anyReg, .regsOf _ => true
  | .anyInForce, .anyInForce => true
  | .anyInForce, .inForce _ => true
  | .anyInForce, .inForceOf _ => true
  | .anyCtr, .anyCtr => true
  | .anyCtr, .ctr _ => true
  | .anyCtr, .ctrsOf _ => true
  | _, _ => false

/-- A list of areas takes in an area: one of them does, or a flag's register and its counter both lie in it. -/
def takesIn (w : List Area) : Area → Bool
  | .flag a n => w.any (fun A => A.covers (.flag a n))
      || (w.any (fun A => A.covers (.reg a)) && w.any (fun A => A.covers (.ctr (fcntOf a + 4 * n))))
  | .codeFlag c => (w.any (fun A => A.covers (.flag Reg.cmdFlags 1)) && w.any (fun A => A.covers (.flag Reg.cmdFlags 2)))
      || w.any (fun A => A.covers (.codeFlag c)) || (match codeFlagBit c with
      | some n => w.any (fun A => A.covers (.flag Reg.cmdFlags n))
      | none => true)
  | q => w.any (fun A => A.covers q)

/-- One list of areas lies within another. -/
def within (v w : List Area) : Bool := v.all (takesIn w)

theorem Area.covers_has {A B : Area} (h : A.covers B = true) {p : Part} (hp : B.has p = true) : A.has p = true := by
  cases A <;> cases B <;> simp [Area.covers] at h <;> cases p <;> simp_all [Area.has, windowOf] <;>
    first | exact hp | exact hp.1 | (simpa [fcntOf] using hp)

theorem takesIn_has {w : List Area} {B : Area} (h : takesIn w B = true) {p : Part} (hp : B.has p = true) :
    w.any (fun A => A.has p) = true := by
  have key : ∀ {C : Area}, w.any (fun A => A.covers C) = true → C.has p = true → w.any (fun A => A.has p) = true := by
    intro C h1 h2
    rw [List.any_eq_true] at h1 ⊢
    obtain ⟨A, hA, hc⟩ := h1
    exact ⟨A, hA, Area.covers_has hc h2⟩
  cases B with
  | flag a n =>
    simp only [takesIn, Bool.or_eq_true, Bool.and_eq_true] at h
    rcases h with h | ⟨h1, h2⟩
    · exact key h hp
    · cases p with
      | regBit b m => exact key h1 (by simp [Area.has] at hp ⊢; exact hp.1)
      | ctr b => exact key h2 (by simpa [Area.has] using hp)
      | unit u => simp [Area.has] at hp
      | inForce b => simp [Area.has] at hp
  | codeFlag c =>
    simp only [takesIn, Bool.or_eq_true, Bool.and_eq_true] at h
    have flagHas : ∀ n, codeFlagBit c = some n → (Area.flag Reg.cmdFlags n).has p = true := by
      intro n hc
      cases p with
      | regBit b m => simp [Area.has, hc] at hp ⊢; exact hp
      | ctr b => simp [Area.has, hc, fcntOf] at hp ⊢; exact hp
      | unit u => simp [Area.has] at hp
      | inForce b => simp [Area.has] at hp
    rcases h with (⟨h1, h2⟩ | h) | h
    · cases c with
      | badCrc => exact key h1 (flagHas 1 rfl)
      | authFailed => exact key h2 (flagHas 2 rfl)
      | _ => cases p <;> simp [Area.has, codeFlagBit] at hp
    · exact key h hp
    · cases hc : codeFlagBit c with
      | none => cases p <;> simp [Area.has, hc] at hp
      | some n =>
        rw [hc] at h
        exact key h (flagHas n hc)
  | _ => exact key h hp

theorem changesOnly.refl (w : List Area) (s : State) : changesOnly w s s := by
  intro p _
  cases p with
  | unit u => cases u <;> rfl
  | _ => intro; rfl

theorem changesOnly.trans {w : List Area} {s t u : State} (h : changesOnly w s t) (k : changesOnly w t u) :
    changesOnly w s u := by
  intro p hp
  have a := h p hp
  have b := k p hp
  cases p with
  | unit v => cases v <;> exact Eq.trans b a
  | _ => intro i; exact Eq.trans (b i) (a i)

theorem changesOnly.mono {v w : List Area} {s t : State} (h : changesOnly v s t) (hw : within v w = true) :
    changesOnly w s t := by
  intro p hp
  refine h p ?_
  by_contra hv
  rw [Bool.not_eq_false, List.any_eq_true] at hv
  obtain ⟨B, hB, hBp⟩ := hv
  have := takesIn_has (List.all_eq_true.mp hw B hB) hBp
  simp [this] at hp

/-- A frame grows by one more operation. -/
theorem changesOnly.step {v w : List Area} {s t u : State} (h : changesOnly w s t) (k : changesOnly v t u)
    (hw : within v w = true) : changesOnly w s u := h.trans (k.mono hw)

theorem within_refl (w : List Area) : within w w = true := by
  rw [within, List.all_eq_true]
  intro B hB
  have hc : B.covers B = true := by cases B <;> simp [Area.covers]
  have : w.any (fun A => A.covers B) = true := List.any_eq_true.mpr ⟨B, hB, hc⟩
  cases B <;> simp only [takesIn, this, Bool.true_or, Bool.or_true]

/-- A frame holds through a fold whose every step keeps it. -/
theorem changesOnly.foldl {β : Type} {w : List Area} {f : State → β → State} (hf : ∀ t x, changesOnly w t (f t x))
    (l : List β) {s t : State} (h : changesOnly w s t) : changesOnly w s (l.foldl f t) := by
  induction l generalizing t with
  | nil => exact h
  | cons x l ih => exact ih (h.trans (hf t x))

/-- A frame holds through a fold over a state and a value beside it. -/
theorem changesOnly.foldl_fst {β γ : Type} {w : List Area} {f : State × γ → β → State × γ}
    (hf : ∀ t x, changesOnly w t.1 (f t x).1) (l : List β) {s : State} {t : State × γ} (h : changesOnly w s t.1) :
    changesOnly w s (l.foldl f t).1 := by
  induction l generalizing t with
  | nil => exact h
  | cons x l ih => exact ih (h.trans (hf t x))

/-- The same, where the step keeps the frame on the list's members. -/
theorem changesOnly.foldl_fst_mem {β γ : Type} {w : List Area} {f : State × γ → β → State × γ} {l : List β}
    (hf : ∀ t x, x ∈ l → changesOnly w t.1 (f t x).1) {s : State} (t : State × γ) (h : changesOnly w s t.1) :
    changesOnly w s (l.foldl f t).1 := by
  induction l generalizing t with
  | nil => exact h
  | cons x l ih =>
    exact ih (fun t y hy => hf t y (List.mem_cons_of_mem x hy)) (f t x) (h.trans (hf t x List.mem_cons_self))

/-- A frame holds through a fold over a record that carries the state. -/
theorem changesOnly.foldl_by {β γ : Type} {w : List Area} {g : γ → State} {f : γ → β → γ}
    (hf : ∀ t x, changesOnly w (g t) (g (f t x))) (l : List β) {s : State} {t : γ} (h : changesOnly w s (g t)) :
    changesOnly w s (g (l.foldl f t)) := by
  induction l generalizing t with
  | nil => exact h
  | cons x l ih => exact ih (h.trans (hf t x))

/-- Every next state of an outcome keeps a frame. -/
def nextOnly (w : List Area) (s : State) (o : Host.Outcome State Fault Refusal) : Prop := ∀ t, o = .next t → changesOnly w s t

theorem nextOnly.next {w : List Area} {s t : State} (h : changesOnly w s t) : nextOnly w s (.next t) := by
  intro u hu
  cases hu
  exact h

theorem rkey_mod (a i : Nat) : rkey a i % 1048576 = a % 1048576 := by simp [rkey]

/-! ## The register file -/

theorem getLsbD_setField_ne (v : Word) {n m x : Nat} (h : n ≠ m) : (setField v n n x).getLsbD m = v.getLsbD m := by
  have hn : n + 1 - n = 1 := by omega
  simp only [setField, maskOf, hn, BitVec.getLsbD_or, BitVec.getLsbD_and, BitVec.getLsbD_not, BitVec.getLsbD_ofNat]
  by_cases hm : m < 32
  · rcases Nat.lt_or_gt_of_ne h with h1 | h1
    · have h2 : ∀ y, y < 2 → y.testBit (m - n) = false := by
        intro y hy
        exact Nat.testBit_lt_two_pow (by have : 2 ^ 1 ≤ 2 ^ (m - n) := Nat.pow_le_pow_right (by omega) (by omega)
                                         omega)
      simp [hm, Nat.testBit_shiftLeft, h2 1 (by omega), h2 (x % 2) (by omega)]
    · have : ¬ m ≥ n := by omega
      simp [hm, Nat.testBit_shiftLeft, this]
  · have : v.getLsbD m = false := BitVec.getLsbD_of_ge v m (by omega)
    simp [hm, this]

/-- A frame of a change of the register file alone: every register but those with the address `a` is the same. -/
theorem setReg_changes (s : State) (a i : Nat) (v : Word) : changesOnly [.reg a] s (setReg s a i v) := by
  intro p hp
  cases p with
  | unit u => cases u <;> rfl
  | regBit b m =>
    intro j
    have hk : rkey b j ≠ rkey a i := by
      intro e
      have := congrArg (· % 1048576) e
      simp only [rkey_mod] at this
      simp [Area.has, this] at hp
    simp [reg, setReg, storeGet_storeSet_ne _ _ _ hk]
  | inForce b => intro j; rfl
  | ctr b => intro j; rfl

theorem setRegBit_changes (s : State) (a i n x : Nat) :
    changesOnly [.flag a n] s (setReg s a i (setField (reg s a i) n n x)) := by
  intro p hp
  cases p with
  | unit u => cases u <;> rfl
  | regBit b m =>
    intro j
    by_cases hk : rkey b j = rkey a i
    · have hb : a % 1048576 = b % 1048576 := by rw [← rkey_mod a i, ← rkey_mod b j, hk]
      have hm : n ≠ m := by simpa [Area.has, hb] using hp
      have e : reg s b j = reg s a i := by simp [reg, hk]
      have : reg (setReg s a i (setField (reg s a i) n n x)) b j = setField (reg s a i) n n x := by
        simp [reg, setReg, hk]
      rw [this, e, getLsbD_setField_ne _ hm]
    · simp [reg, setReg, storeGet_storeSet_ne _ _ _ hk]
  | inForce b => intro j; rfl
  | ctr b => intro j; rfl

theorem setCfg_changes (s : State) (a i : Nat) (v : Word) : changesOnly [.inForce a] s (setCfg s a i v) := by
  intro p hp
  cases p with
  | unit u => cases u <;> rfl
  | regBit b m => intro j; rfl
  | inForce b =>
    intro j
    have hk : rkey b j ≠ rkey a i := by
      intro e
      have := congrArg (· % 1048576) e
      simp only [rkey_mod] at this
      simp [Area.has, this] at hp
    simp [cfg, setCfg, storeGet_storeSet_ne _ _ _ hk]
  | ctr b => intro j; rfl

theorem setCounter_changes (s : State) (a i : Nat) (v : Word) : changesOnly [.ctr a] s (setCounter s a i v) := by
  intro p hp
  cases p with
  | unit u => cases u <;> rfl
  | regBit b m => intro j; rfl
  | inForce b => intro j; rfl
  | ctr b =>
    intro j
    have hk : rkey b j ≠ rkey a i := by
      intro e
      have := congrArg (· % 1048576) e
      simp only [rkey_mod] at this
      simp [Area.has, this] at hp
    simp [counter, setCounter, storeGet_storeSet_ne _ _ _ hk]

theorem setRegField_changes (s : State) (a i hi lo v : Nat) : changesOnly [.reg a] s (setRegField s a i hi lo v) :=
  setReg_changes s a i _

theorem advanceIdx_changes (s : State) (a size : Nat) : changesOnly [.reg a] s (advanceIdx s a size) := setReg_changes s a 0 _

theorem bumpApply_changes (s : State) (a i : Nat) : changesOnly [.reg a] s (bumpApply s a i) := setReg_changes s a i _

theorem countUp_changes (s : State) (a i : Nat) : changesOnly [.ctr a] s (countUp s a i) := setCounter_changes s a i _

theorem countMax_changes (s : State) (a i v : Nat) : changesOnly [.ctr a] s (countMax s a i v) := by
  unfold countMax
  split
  · exact setCounter_changes s a i _
  · exact changesOnly.refl _ _

/-- An event changes one flag of its register and that flag's occurrence counter (R333). -/
theorem raise_changes (s : State) (a i n : Nat) : changesOnly [.flag a n] s (raise s a i n) := by
  refine (setRegBit_changes s a i n 1).trans ?_
  intro p hp
  refine countUp_changes _ (fcntOf a + 4 * n) i p ?_
  cases p <;> simp_all [Area.has]

theorem raiseIf_changes (c : Bool) (s : State) (a i n : Nat) : changesOnly [.flag a n] s (raiseIf c s a i n) := by
  unfold raiseIf
  split
  · exact raise_changes s a i n
  · exact changesOnly.refl _ _

end Sys2Proof
end

