-- ==== Sys2Proof/Laws/FrameUnits.lean ====
section
/-! SUPPORT. Laws/FrameUnits.lean: the frame of an update of State's own fields: a field that is not the old one must be listed. -/
namespace Sys2Proof
open Sys2Proof.Machine

/-- An update of State's fields changes only the units listed, when each field is the old one or listed. -/
theorem update_changes {w : List Area} {s0 s t : State} (h : changesOnly w s0 s)
    (h_pending : t.pending = s.pending ∨ w.any (fun A => A.has (.unit .pending)) = true)
    (h_regs : t.regs = s.regs)
    (h_active : t.active = s.active)
    (h_staged : t.staged = s.staged ∨ w.any (fun A => A.has (.unit .staged)) = true)
    (h_ctrs : t.ctrs = s.ctrs)
    (h_snaps : t.snaps = s.snaps ∨ w.any (fun A => A.has (.unit .snaps)) = true)
    (h_free : t.free = s.free ∨ w.any (fun A => A.has (.unit .free)) = true)
    (h_now : t.now = s.now ∨ w.any (fun A => A.has (.unit .now)) = true)
    (h_own : t.own = s.own ∨ w.any (fun A => A.has (.unit .own)) = true)
    (h_exe : t.exe = s.exe ∨ w.any (fun A => A.has (.unit .exe)) = true)
    (h_hz : t.hz = s.hz ∨ w.any (fun A => A.has (.unit .hz)) = true)
    (h_fch : t.fch = s.fch ∨ w.any (fun A => A.has (.unit .fch)) = true)
    (h_grd : t.grd = s.grd ∨ w.any (fun A => A.has (.unit .grd)) = true)
    (h_gmu : t.gmu = s.gmu ∨ w.any (fun A => A.has (.unit .gmu)) = true)
    (h_wnt : t.wnt = s.wnt ∨ w.any (fun A => A.has (.unit .wnt)) = true)
    (h_pair : t.pair = s.pair ∨ w.any (fun A => A.has (.unit .pair)) = true)
    (h_mem : t.mem = s.mem ∨ w.any (fun A => A.has (.unit .mem)) = true)
    (h_spr : t.spr = s.spr ∨ w.any (fun A => A.has (.unit .spr)) = true)
    (h_cmd : t.cmd = s.cmd ∨ w.any (fun A => A.has (.unit .cmd)) = true)
    (h_net : t.net = s.net ∨ w.any (fun A => A.has (.unit .net)) = true)
    (h_can : t.can = s.can ∨ w.any (fun A => A.has (.unit .can)) = true)
    (h_sbk : t.sbk = s.sbk ∨ w.any (fun A => A.has (.unit .sbk)) = true)
    (h_pnl : t.pnl = s.pnl ∨ w.any (fun A => A.has (.unit .pnl)) = true)
    (h_tru : t.tru = s.tru ∨ w.any (fun A => A.has (.unit .tru)) = true)
    (h_sup : t.sup = s.sup ∨ w.any (fun A => A.has (.unit .sup)) = true) : changesOnly w s0 t := by
  refine h.trans ?_
  intro p hp
  cases p with
  | unit u =>
    cases u
    · exact h_pending.resolve_right (by simp [hp])
    · exact h_staged.resolve_right (by simp [hp])
    · exact h_snaps.resolve_right (by simp [hp])
    · exact h_free.resolve_right (by simp [hp])
    · exact h_now.resolve_right (by simp [hp])
    · exact h_own.resolve_right (by simp [hp])
    · exact h_exe.resolve_right (by simp [hp])
    · exact h_hz.resolve_right (by simp [hp])
    · exact h_fch.resolve_right (by simp [hp])
    · exact h_grd.resolve_right (by simp [hp])
    · exact h_gmu.resolve_right (by simp [hp])
    · exact h_wnt.resolve_right (by simp [hp])
    · exact h_pair.resolve_right (by simp [hp])
    · exact h_mem.resolve_right (by simp [hp])
    · exact h_spr.resolve_right (by simp [hp])
    · exact h_cmd.resolve_right (by simp [hp])
    · exact h_net.resolve_right (by simp [hp])
    · exact h_can.resolve_right (by simp [hp])
    · exact h_sbk.resolve_right (by simp [hp])
    · exact h_pnl.resolve_right (by simp [hp])
    · exact h_tru.resolve_right (by simp [hp])
    · exact h_sup.resolve_right (by simp [hp])
  | regBit a n => intro i; simp [reg, h_regs]
  | inForce a => intro i; simp [cfg, h_active]
  | ctr a => intro i; simp [counter, h_ctrs]

theorem pending_changes (s : State) (x) : changesOnly [.unit .pending] s { s with pending := x } := by
  intro p hp
  cases p with
  | unit u => cases u <;> first | rfl | (simp [Area.has] at hp)
  | _ => intro i; rfl

theorem staged_changes (s : State) (x) : changesOnly [.unit .staged] s { s with staged := x } := by
  intro p hp
  cases p with
  | unit u => cases u <;> first | rfl | (simp [Area.has] at hp)
  | _ => intro i; rfl

theorem snaps_changes (s : State) (x) : changesOnly [.unit .snaps] s { s with snaps := x } := by
  intro p hp
  cases p with
  | unit u => cases u <;> first | rfl | (simp [Area.has] at hp)
  | _ => intro i; rfl

theorem free_changes (s : State) (x) : changesOnly [.unit .free] s { s with free := x } := by
  intro p hp
  cases p with
  | unit u => cases u <;> first | rfl | (simp [Area.has] at hp)
  | _ => intro i; rfl

theorem now_changes (s : State) (x) : changesOnly [.unit .now] s { s with now := x } := by
  intro p hp
  cases p with
  | unit u => cases u <;> first | rfl | (simp [Area.has] at hp)
  | _ => intro i; rfl

theorem own_changes (s : State) (x) : changesOnly [.unit .own] s { s with own := x } := by
  intro p hp
  cases p with
  | unit u => cases u <;> first | rfl | (simp [Area.has] at hp)
  | _ => intro i; rfl

theorem exe_changes (s : State) (x) : changesOnly [.unit .exe] s { s with exe := x } := by
  intro p hp
  cases p with
  | unit u => cases u <;> first | rfl | (simp [Area.has] at hp)
  | _ => intro i; rfl

theorem hz_changes (s : State) (x) : changesOnly [.unit .hz] s { s with hz := x } := by
  intro p hp
  cases p with
  | unit u => cases u <;> first | rfl | (simp [Area.has] at hp)
  | _ => intro i; rfl

theorem fch_changes (s : State) (x) : changesOnly [.unit .fch] s { s with fch := x } := by
  intro p hp
  cases p with
  | unit u => cases u <;> first | rfl | (simp [Area.has] at hp)
  | _ => intro i; rfl

theorem grd_changes (s : State) (x) : changesOnly [.unit .grd] s { s with grd := x } := by
  intro p hp
  cases p with
  | unit u => cases u <;> first | rfl | (simp [Area.has] at hp)
  | _ => intro i; rfl

theorem gmu_changes (s : State) (x) : changesOnly [.unit .gmu] s { s with gmu := x } := by
  intro p hp
  cases p with
  | unit u => cases u <;> first | rfl | (simp [Area.has] at hp)
  | _ => intro i; rfl

theorem wnt_changes (s : State) (x) : changesOnly [.unit .wnt] s { s with wnt := x } := by
  intro p hp
  cases p with
  | unit u => cases u <;> first | rfl | (simp [Area.has] at hp)
  | _ => intro i; rfl

theorem pair_changes (s : State) (x) : changesOnly [.unit .pair] s { s with pair := x } := by
  intro p hp
  cases p with
  | unit u => cases u <;> first | rfl | (simp [Area.has] at hp)
  | _ => intro i; rfl

theorem mem_changes (s : State) (x) : changesOnly [.unit .mem] s { s with mem := x } := by
  intro p hp
  cases p with
  | unit u => cases u <;> first | rfl | (simp [Area.has] at hp)
  | _ => intro i; rfl

theorem spr_changes (s : State) (x) : changesOnly [.unit .spr] s { s with spr := x } := by
  intro p hp
  cases p with
  | unit u => cases u <;> first | rfl | (simp [Area.has] at hp)
  | _ => intro i; rfl

theorem cmd_changes (s : State) (x) : changesOnly [.unit .cmd] s { s with cmd := x } := by
  intro p hp
  cases p with
  | unit u => cases u <;> first | rfl | (simp [Area.has] at hp)
  | _ => intro i; rfl

theorem net_changes (s : State) (x) : changesOnly [.unit .net] s { s with net := x } := by
  intro p hp
  cases p with
  | unit u => cases u <;> first | rfl | (simp [Area.has] at hp)
  | _ => intro i; rfl

theorem can_changes (s : State) (x) : changesOnly [.unit .can] s { s with can := x } := by
  intro p hp
  cases p with
  | unit u => cases u <;> first | rfl | (simp [Area.has] at hp)
  | _ => intro i; rfl

theorem sbk_changes (s : State) (x) : changesOnly [.unit .sbk] s { s with sbk := x } := by
  intro p hp
  cases p with
  | unit u => cases u <;> first | rfl | (simp [Area.has] at hp)
  | _ => intro i; rfl

theorem pnl_changes (s : State) (x) : changesOnly [.unit .pnl] s { s with pnl := x } := by
  intro p hp
  cases p with
  | unit u => cases u <;> first | rfl | (simp [Area.has] at hp)
  | _ => intro i; rfl

theorem tru_changes (s : State) (x) : changesOnly [.unit .tru] s { s with tru := x } := by
  intro p hp
  cases p with
  | unit u => cases u <;> first | rfl | (simp [Area.has] at hp)
  | _ => intro i; rfl

theorem sup_changes (s : State) (x) : changesOnly [.unit .sup] s { s with sup := x } := by
  intro p hp
  cases p with
  | unit u => cases u <;> first | rfl | (simp [Area.has] at hp)
  | _ => intro i; rfl

theorem cmd_net_tru_changes (s : State) (x) (y) (z) :
    changesOnly [.unit .cmd, .unit .net, .unit .tru] s { s with cmd := x, net := y, tru := z } :=
  (((changesOnly.refl _ s).step (cmd_changes _ x) (by decide)).step (net_changes _ y) (by decide)).step (tru_changes _ z) (by decide)

theorem cmd_sbk_changes (s : State) (x) (y) :
    changesOnly [.unit .cmd, .unit .sbk] s { s with cmd := x, sbk := y } :=
  ((changesOnly.refl _ s).step (cmd_changes _ x) (by decide)).step (sbk_changes _ y) (by decide)

theorem cmd_tru_changes (s : State) (x) (y) :
    changesOnly [.unit .cmd, .unit .tru] s { s with cmd := x, tru := y } :=
  ((changesOnly.refl _ s).step (cmd_changes _ x) (by decide)).step (tru_changes _ y) (by decide)

theorem exe_cmd_changes (s : State) (x) (y) :
    changesOnly [.unit .exe, .unit .cmd] s { s with exe := x, cmd := y } :=
  ((changesOnly.refl _ s).step (exe_changes _ x) (by decide)).step (cmd_changes _ y) (by decide)

theorem exe_fch_changes (s : State) (x) (y) :
    changesOnly [.unit .exe, .unit .fch] s { s with exe := x, fch := y } :=
  ((changesOnly.refl _ s).step (exe_changes _ x) (by decide)).step (fch_changes _ y) (by decide)

theorem exe_hz_changes (s : State) (x) (y) :
    changesOnly [.unit .exe, .unit .hz] s { s with exe := x, hz := y } :=
  ((changesOnly.refl _ s).step (exe_changes _ x) (by decide)).step (hz_changes _ y) (by decide)

theorem exe_pair_changes (s : State) (x) (y) :
    changesOnly [.unit .exe, .unit .pair] s { s with exe := x, pair := y } :=
  ((changesOnly.refl _ s).step (exe_changes _ x) (by decide)).step (pair_changes _ y) (by decide)

theorem free_gmu_changes (s : State) (x) (y) :
    changesOnly [.unit .free, .unit .gmu] s { s with free := x, gmu := y } :=
  ((changesOnly.refl _ s).step (free_changes _ x) (by decide)).step (gmu_changes _ y) (by decide)

theorem grd_can_changes (s : State) (x) (y) :
    changesOnly [.unit .grd, .unit .can] s { s with grd := x, can := y } :=
  ((changesOnly.refl _ s).step (grd_changes _ x) (by decide)).step (can_changes _ y) (by decide)

theorem hz_fch_changes (s : State) (x) (y) :
    changesOnly [.unit .hz, .unit .fch] s { s with hz := x, fch := y } :=
  ((changesOnly.refl _ s).step (hz_changes _ x) (by decide)).step (fch_changes _ y) (by decide)

theorem hz_net_changes (s : State) (x) (y) :
    changesOnly [.unit .hz, .unit .net] s { s with hz := x, net := y } :=
  ((changesOnly.refl _ s).step (hz_changes _ x) (by decide)).step (net_changes _ y) (by decide)

theorem hz_spr_changes (s : State) (x) (y) :
    changesOnly [.unit .hz, .unit .spr] s { s with hz := x, spr := y } :=
  ((changesOnly.refl _ s).step (hz_changes _ x) (by decide)).step (spr_changes _ y) (by decide)

theorem own_exe_changes (s : State) (x) (y) :
    changesOnly [.unit .own, .unit .exe] s { s with own := x, exe := y } :=
  ((changesOnly.refl _ s).step (own_changes _ x) (by decide)).step (exe_changes _ y) (by decide)

theorem own_exe_grd_changes (s : State) (x) (y) (z) :
    changesOnly [.unit .own, .unit .exe, .unit .grd] s { s with own := x, exe := y, grd := z } :=
  (((changesOnly.refl _ s).step (own_changes _ x) (by decide)).step (exe_changes _ y) (by decide)).step (grd_changes _ z) (by decide)

theorem own_pair_changes (s : State) (x) (y) :
    changesOnly [.unit .own, .unit .pair] s { s with own := x, pair := y } :=
  ((changesOnly.refl _ s).step (own_changes _ x) (by decide)).step (pair_changes _ y) (by decide)

theorem pair_cmd_net_tru_changes (s : State) (x) (y) (z) (v) :
    changesOnly [.unit .pair, .unit .cmd, .unit .net, .unit .tru] s { s with pair := x, cmd := y, net := z, tru := v } :=
  ((((changesOnly.refl _ s).step (pair_changes _ x) (by decide)).step (cmd_changes _ y) (by decide)).step (net_changes _ z) (by decide)).step (tru_changes _ v) (by decide)

theorem pair_sup_changes (s : State) (x) (y) :
    changesOnly [.unit .pair, .unit .sup] s { s with pair := x, sup := y } :=
  ((changesOnly.refl _ s).step (pair_changes _ x) (by decide)).step (sup_changes _ y) (by decide)

end Sys2Proof
end

