-- ==== Sys2Proof/Laws/FrameShared.lean ====
section
/-! SUPPORT. Laws/FrameShared.lean: for each shared operation everything it may change: the operations every unit uses, channels, power claims, commits, Seedbank and the grid report. -/
namespace Sys2Proof
open Sys2Proof.Machine

theorem clearFlags_changes (s : State) (a i : Nat) (v : Word) (race : List Nat) :
    changesOnly [.reg a, .anyCtr] s (clearFlags s a i v race) := by
  unfold clearFlags
  refine changesOnly.foldl (fun t n => (raise_changes t a i n).mono ?_) _ ((setReg_changes s a i _).mono ?_) <;>
    simp [within, takesIn, Area.covers]

theorem snapReg_window {w a : Nat} (h : snapReg w = some a) : windowOf a = w := by
  unfold snapReg at h
  split at h <;> first | (cases h; rfl) | cases h

theorem takeSnapshot_changes (s : State) (w : Nat) : changesOnly [.unit .snaps, .regsOf w] s (takeSnapshot s w) := by
  unfold takeSnapshot
  split
  · exact changesOnly.refl _ _
  · next a h =>
    refine changesOnly.step ((snaps_changes s _).mono (by simp [within, takesIn, Area.covers])) (setReg_changes _ a 0 _) ?_
    simp [within, takesIn, Area.covers, snapReg_window h]

theorem freeNext_changes (s : State) :
    changesOnly [.unit .free] s (freeNext s) := by
  unfold freeNext
  repeat' first
    | with_reducible exact changesOnly.refl _ _
    | decide
    | (fail_if_no_progress (with_reducible apply changesOnly.step (k := free_changes _ _)) <;> try first | decide)

theorem flagNotifyLost_changes (s : State) (lost : Bool) :
    changesOnly [.flag Reg.cmdFlags 4] s (flagNotifyLost s lost) := by
  unfold flagNotifyLost
  repeat' first
    | with_reducible exact changesOnly.refl _ _
    | decide
    | with_reducible apply changesOnly.step (k := raiseIf_changes _ _ _ _ _)

theorem postFull_changes (s : State) (e : Event) (inst : Nat) (ended : Bool) (subject : Nat) (value1 : Nat) (value2 : Nat) (extra : Nat) (time : Nat) :
    changesOnly [.unit .cmd, .unit .sbk, .flag Reg.cmdFlags 4] s (postFull s e inst ended subject value1 value2 extra time) := by
  unfold postFull
  repeat' first
    | with_reducible exact changesOnly.refl _ _
    | decide
    | (fail_if_no_progress (with_reducible apply changesOnly.step (k := sbk_changes _ _)) <;> try first | decide)
    | (fail_if_no_progress (with_reducible apply changesOnly.step (k := cmd_sbk_changes _ _ _)) <;> try first | decide)
    | with_reducible apply changesOnly.step (k := flagNotifyLost_changes _ _)
    | dsimp only
    | split

theorem post_changes (s : State) (e : Event) (inst : Nat) (subject : Nat) (value1 : Nat) (value2 : Nat) :
    changesOnly [.unit .cmd, .unit .sbk, .flag Reg.cmdFlags 4] s (post s e inst subject value1 value2) := by
  unfold post
  repeat' first
    | with_reducible exact changesOnly.refl _ _
    | decide
    | with_reducible apply changesOnly.step (k := postFull_changes _ _ _ _ _ _ _ _ _)

theorem postEnd_changes (s : State) (e : Event) (inst : Nat) (subject : Nat) (value1 : Nat) (value2 : Nat) :
    changesOnly [.unit .cmd, .unit .sbk, .flag Reg.cmdFlags 4] s (postEnd s e inst subject value1 value2) := by
  unfold postEnd
  repeat' first
    | with_reducible exact changesOnly.refl _ _
    | decide
    | with_reducible apply changesOnly.step (k := postFull_changes _ _ _ _ _ _ _ _ _)

theorem postDropped_changes (s : State) (w : Nat) :
    changesOnly [.unit .sbk] s (postDropped s w) := by
  unfold postDropped
  repeat' first
    | with_reducible exact changesOnly.refl _ _
    | decide
    | (fail_if_no_progress (with_reducible apply changesOnly.step (k := sbk_changes _ _)) <;> try first | decide)

theorem flagCode_changes (s : State) (code : Code) : changesOnly [.codeFlag code] s (flagCode s code) := by
  unfold flagCode
  split
  · exact (raise_changes s _ 0 1).mono (by decide)
  · exact (raise_changes s _ 0 2).mono (by decide)
  · exact changesOnly.refl _ _

theorem answer_changes (s : State) (c : Ctx) (op : Nat) (code : Code) (wh : Nat) (ident : Nat) (result : List Byte) :
    changesOnly [.unit .cmd, .codeFlag code] s (answer s c op code wh ident result) := by
  unfold answer
  repeat' first
    | with_reducible exact changesOnly.refl _ _
    | decide
    | with_reducible exact within_refl _
    | (simp [within, takesIn, Area.covers]; done)
    | (fail_if_no_progress (with_reducible apply changesOnly.step (k := cmd_changes _ _)) <;> try first | decide | simp [within, takesIn, Area.covers])
    | with_reducible apply changesOnly.step (k := flagCode_changes _ _)

theorem ok_changes (s : State) (c : Ctx) (op : Nat) (result : List Byte) :
    changesOnly [.unit .cmd] s (ok s c op result) := by
  unfold ok
  repeat' first
    | with_reducible exact changesOnly.refl _ _
    | decide
    | with_reducible apply changesOnly.step (k := answer_changes _ _ _ _ _ _ _)

theorem refuse_changes (s : State) (c : Ctx) (op : Nat) (code : Code) (wh : Nat) :
    changesOnly [.unit .cmd, .codeFlag code] s (refuse s c op code wh) := by
  unfold refuse
  repeat' first
    | with_reducible exact changesOnly.refl _ _
    | decide
    | with_reducible exact within_refl _
    | (simp [within, takesIn, Area.covers]; done)
    | with_reducible apply changesOnly.step (k := answer_changes _ _ _ _ _ _ _)

theorem await_changes (s : State) (c : Ctx) (op : Nat) (island : Nat) (subject : Nat) :
    changesOnly [.unit .cmd] s (await s c op island subject) := by
  unfold await
  repeat' first
    | with_reducible exact changesOnly.refl _ _
    | decide
    | (fail_if_no_progress (with_reducible apply changesOnly.step (k := cmd_changes _ _)) <;> try first | decide)

theorem accept_changes (s : State) (c : Ctx) (op : Nat) (code : Code) (estimate : Nat) (island : Nat) (subject : Nat) :
    changesOnly [.unit .cmd] s (accept s c op code estimate island subject) := by
  unfold accept
  repeat' first
    | with_reducible exact changesOnly.refl _ _
    | decide
    | (fail_if_no_progress (with_reducible apply changesOnly.step (k := cmd_changes _ _)) <;> try first | decide)

theorem conclude_changes (s : State) (x : Executing) (code : Code) (wh : Nat) (ident : Nat) (result : List Byte) :
    changesOnly [.unit .cmd, .codeFlag code] s (conclude s x code wh ident result) := by
  unfold conclude
  repeat' first
    | with_reducible exact changesOnly.refl _ _
    | decide
    | with_reducible exact within_refl _
    | (simp [within, takesIn, Area.covers]; done)
    | (fail_if_no_progress (with_reducible apply changesOnly.step (k := cmd_changes _ _)) <;> try first | decide | simp [within, takesIn, Area.covers])
    | with_reducible apply changesOnly.step (k := flagCode_changes _ _)

theorem concludeAll_changes (s : State) (p : Executing → Bool) (code : Code) (wh : Nat) (result : State → Executing → List Byte) :
    changesOnly [.unit .cmd, .codeFlag code] s (concludeAll s p code wh result) := by
  unfold concludeAll
  repeat' first
    | with_reducible exact changesOnly.refl _ _
    | decide
    | with_reducible exact within_refl _
    | (simp [within, takesIn, Area.covers]; done)
    | with_reducible apply changesOnly.step (k := conclude_changes _ _ _ _ _ _)
    | (with_reducible apply changesOnly.foldl; intro _ _)

theorem huskHold_changes (s : State) (w : Nat) :
    changesOnly [.unit .own, .unit .cmd] s (huskHold s w) := by
  unfold huskHold
  repeat' first
    | with_reducible exact changesOnly.refl _ _
    | decide
    | (fail_if_no_progress (with_reducible apply changesOnly.step (k := own_changes _ _)) <;> try first | decide)
    | with_reducible apply changesOnly.step (k := concludeAll_changes _ _ _ _ _)

theorem huskRelease_changes (s : State) (w : Nat) :
    changesOnly [.unit .own] s (huskRelease s w) := by
  unfold huskRelease
  repeat' first
    | with_reducible exact changesOnly.refl _ _
    | decide
    | (fail_if_no_progress (with_reducible apply changesOnly.step (k := own_changes _ _)) <;> try first | decide)

theorem send_changes (s : State) (m : PairMsg) :
    changesOnly [.unit .pair] s (send s m) := by
  unfold send
  repeat' first
    | with_reducible exact changesOnly.refl _ _
    | decide
    | (fail_if_no_progress (with_reducible apply changesOnly.step (k := pair_changes _ _)) <;> try first | decide)
    | dsimp only
    | split

theorem sendEntries_changes (s : State) (tag : Nat) (seq : Nat) (x : CopyContent) :
    changesOnly [.unit .pair] s (sendEntries s tag seq x) := by
  unfold sendEntries
  repeat' first
    | with_reducible exact changesOnly.refl _ _
    | decide
    | with_reducible apply changesOnly.step (k := send_changes _ _)

theorem copyChange_changes (s : State) (tag : Nat) (x : CopyContent) :
    changesOnly [.unit .own, .unit .pair] s (copyChange s tag x) := by
  unfold copyChange
  repeat' first
    | with_reducible exact changesOnly.refl _ _
    | decide
    | (fail_if_no_progress (with_reducible apply changesOnly.step (k := own_changes _ _)) <;> try first | decide)
    | with_reducible apply changesOnly.step (k := sendEntries_changes _ _ _ _)
    | dsimp only
    | split

theorem areaPut_changes (s : State) (a : Nat) (bs : List Byte) :
    changesOnly [.unit .exe] s (areaPut s a bs) := by
  unfold areaPut
  repeat' first
    | with_reducible exact changesOnly.refl _ _
    | decide
    | (fail_if_no_progress (with_reducible apply changesOnly.step (k := exe_changes _ _)) <;> try first | decide)

theorem command_changes {w : List Area} (s : State) (c : Ctx) (op : Nat) (island : Nat) (i : Instr) (roleOk : Bool) (body : State → State)
    (hb : changesOnly w s (body s)) (hw : within [.unit .cmd] w = true) :
    changesOnly w s (command s c op island i roleOk body) := by
  unfold command
  split
  · exact changesOnly.refl _ _
  · split
    · exact ((refuse_changes s c op .husked island).mono (by decide)).mono hw
    · split
      · exact hb
      · exact ((refuse_changes s c op .wrongRole _).mono (by decide)).mono hw

theorem meets_changes {W : List Area} (s : State) (c : Ctx) (op : Nat) (w : Nat) (body : State → State) (hbody : ∀ t, changesOnly W t (body t))
    (hw : within [.unit .cmd] W = true) :
    changesOnly W s (meets s c op w body) := by
  unfold meets
  repeat' first
    | with_reducible exact changesOnly.refl _ _
    | assumption
    | decide
    | with_reducible apply changesOnly.trans (k := hbody _)
    | with_reducible apply changesOnly.trans (k := ((refuse_changes _ _ _ _ _).mono (show within _ [.unit .cmd] = true by decide)).mono hw)
    | dsimp only
    | split

theorem dealBlocks_changes (s : State) (n : Nat) :
    changesOnly [.unit .pair] s (dealBlocks s n) := by
  unfold dealBlocks
  repeat' first
    | with_reducible exact changesOnly.refl _ _
    | decide
    | (fail_if_no_progress (with_reducible apply changesOnly.step (k := pair_changes _ _)) <;> try first | decide)
    | dsimp only
    | split

theorem sendOutbox_changes (s : State) :
    changesOnly [.unit .pair] s (sendOutbox s) := by
  unfold sendOutbox
  repeat' first
    | with_reducible exact changesOnly.refl _ _
    | decide
    | (fail_if_no_progress (with_reducible apply changesOnly.step (k := pair_changes _ _)) <;> try first | decide)
    | with_reducible apply changesOnly.step (k := dealBlocks_changes _ _)

theorem idleTick_changes (s : State) :
    changesOnly [.unit .pair, .unit .cmd, .unit .net, .unit .tru] s (idleTick s) := pair_cmd_net_tru_changes s _ _ _ _

theorem storeRetain_changes (s : State) :
    changesOnly [.unit .exe] s (storeRetain s) := by
  unfold storeRetain
  repeat' first
    | with_reducible exact changesOnly.refl _ _
    | decide
    | (fail_if_no_progress (with_reducible apply changesOnly.step (k := exe_changes _ _)) <;> try first | decide)
    | dsimp only
    | split

theorem storeFault_changes (s : State) :
    changesOnly [.unit .sup] s (storeFault s) := by
  unfold storeFault
  repeat' first
    | with_reducible exact changesOnly.refl _ _
    | decide
    | (fail_if_no_progress (with_reducible apply changesOnly.step (k := sup_changes _ _)) <;> try first | decide)
    | dsimp only
    | split

theorem storeOptions_changes (s : State) :
    changesOnly [.unit .sup] s (storeOptions s) := by
  unfold storeOptions
  repeat' first
    | with_reducible exact changesOnly.refl _ _
    | decide
    | (fail_if_no_progress (with_reducible apply changesOnly.step (k := sup_changes _ _)) <;> try first | decide)
    | dsimp only
    | split

theorem nvWrite_changes (s : State) (x1 : Purpose) :
    changesOnly [.unit .exe, .unit .spr, .unit .net, .unit .sup] s (nvWrite s x1) := by
  unfold nvWrite
  repeat' first
    | with_reducible exact changesOnly.refl _ _
    | decide
    | (fail_if_no_progress (with_reducible apply changesOnly.step (k := exe_changes _ _)) <;> try first | decide)
    | (fail_if_no_progress (with_reducible apply changesOnly.step (k := spr_changes _ _)) <;> try first | decide)
    | (fail_if_no_progress (with_reducible apply changesOnly.step (k := net_changes _ _)) <;> try first | decide)
    | with_reducible apply changesOnly.step (k := storeRetain_changes _)
    | with_reducible apply changesOnly.step (k := storeFault_changes _)
    | with_reducible apply changesOnly.step (k := storeOptions_changes _)
    | dsimp only
    | split

theorem requestC2_changes (s : State) (r : Request) :
    changesOnly [.unit .exe, .unit .grd, .unit .spr, .unit .net, .unit .sup] s (requestC2 s r) := by
  unfold requestC2
  repeat' first
    | with_reducible exact changesOnly.refl _ _
    | decide
    | (fail_if_no_progress (with_reducible apply changesOnly.step (k := grd_changes _ _)) <;> try first | decide)
    | with_reducible apply changesOnly.step (k := nvWrite_changes _ _)
    | dsimp only
    | split

theorem askWrite_changes (s : State) (window : Nat) (durUs : Nat) (p : Purpose) :
    changesOnly [.unit .exe, .unit .grd, .unit .spr, .unit .net, .unit .sup] s (askWrite s window durUs p) := by
  unfold askWrite
  repeat' first
    | with_reducible exact changesOnly.refl _ _
    | decide
    | with_reducible apply changesOnly.step (k := requestC2_changes _ _)
    | with_reducible apply changesOnly.step (k := nvWrite_changes _ _)
    | dsimp only
    | split

theorem waitingToC0_changes (s : State) :
    changesOnly [.unit .exe, .unit .grd, .unit .spr, .unit .net, .unit .sup] s (waitingToC0 s) := by
  unfold waitingToC0
  repeat' first
    | with_reducible exact changesOnly.refl _ _
    | decide
    | (fail_if_no_progress (with_reducible apply changesOnly.step (k := grd_changes _ _)) <;> try first | decide)
    | with_reducible apply changesOnly.step (k := nvWrite_changes _ _)
    | (with_reducible apply changesOnly.foldl; intro _ _)

theorem setGmuBytes_changes (s : State) (a : Nat) (bs : List Byte) :
    changesOnly [.unit .gmu] s (setGmuBytes s a bs) := by
  unfold setGmuBytes
  repeat' first
    | with_reducible exact changesOnly.refl _ _
    | decide
    | (fail_if_no_progress (with_reducible apply changesOnly.step (k := gmu_changes _ _)) <;> try first | decide)

theorem setTrig_changes (s : State) (t : Nat) (x : Trig) :
    changesOnly [.unit .gmu] s (setTrig s t x) := by
  unfold setTrig
  repeat' first
    | with_reducible exact changesOnly.refl _ _
    | decide
    | (fail_if_no_progress (with_reducible apply changesOnly.step (k := gmu_changes _ _)) <;> try first | decide)

theorem modSync_changes (s : State) (f : Sync → Sync) :
    changesOnly [.unit .gmu] s (modSync s f) := by
  unfold modSync
  repeat' first
    | with_reducible exact changesOnly.refl _ _
    | decide
    | (fail_if_no_progress (with_reducible apply changesOnly.step (k := gmu_changes _ _)) <;> try first | decide)

theorem syncWriter_changes (s : State) (c : Nat) (was : Bool) (now : Bool) :
    changesOnly [.unit .gmu] s (syncWriter s c was now) := by
  unfold syncWriter
  repeat' first
    | with_reducible exact changesOnly.refl _ _
    | decide
    | with_reducible apply changesOnly.step (k := modSync_changes _ _)
    | dsimp only
    | split

theorem setFe_changes (s : State) (n : Nat) (f : FrontEnd) :
    changesOnly [.unit .fch] s (setFe s n f) := by
  unfold setFe
  repeat' first
    | with_reducible exact changesOnly.refl _ _
    | decide
    | (fail_if_no_progress (with_reducible apply changesOnly.step (k := fch_changes _ _)) <;> try first | decide)

theorem modFe_changes (s : State) (n : Nat) (g : FrontEnd → FrontEnd) :
    changesOnly [.unit .fch] s (modFe s n g) := by
  unfold modFe
  repeat' first
    | with_reducible exact changesOnly.refl _ _
    | decide
    | with_reducible apply changesOnly.step (k := setFe_changes _ _ _)

theorem setGroup_changes (s : State) (g : Nat) (x : Group) :
    changesOnly [.unit .fch] s (setGroup s g x) := by
  unfold setGroup
  repeat' first
    | with_reducible exact changesOnly.refl _ _
    | decide
    | (fail_if_no_progress (with_reducible apply changesOnly.step (k := fch_changes _ _)) <;> try first | decide)

theorem logGrant_changes (s : State) (cls : GrantClass) (o : GrantOutcome) (why : Reason) (island : Bool) (source : Nat) (grp : Option Nat) (amount : Nat) (duration : Option Nat) (wait : Nat) :
    changesOnly [.unit .grd, .flag Reg.grdFlags 3] s (logGrant s cls o why island source grp amount duration wait) := by
  unfold logGrant
  repeat' first
    | with_reducible exact changesOnly.refl _ _
    | decide
    | (fail_if_no_progress (with_reducible apply changesOnly.step (k := grd_changes _ _)) <;> try first | decide)
    | with_reducible apply changesOnly.step (k := raiseIf_changes _ _ _ _ _)

theorem logRequest_changes (s : State) (r : Request) (o : GrantOutcome) (why : Reason) (wait : Nat) :
    changesOnly [.unit .grd, .flag Reg.grdFlags 3] s (logRequest s r o why wait) := by
  unfold logRequest
  repeat' first
    | with_reducible exact changesOnly.refl _ _
    | decide
    | with_reducible apply changesOnly.step (k := logGrant_changes _ _ _ _ _ _ _ _ _ _)

theorem awaitGrants_changes (s : State) (c : Ctx) (op : Nat) (island : Nat) (qs : List Nat) (undo : List (ForceKey × Option Nat)) :
    changesOnly [.unit .cmd] s (awaitGrants s c op island qs undo) := by
  unfold awaitGrants
  repeat' first
    | with_reducible exact changesOnly.refl _ _
    | decide
    | (fail_if_no_progress (with_reducible apply changesOnly.step (k := cmd_changes _ _)) <;> try first | decide)

theorem grantOne_changes (q : Nat) (s : State) (x : Executing) :
    changesOnly [.unit .cmd] s (grantOne q s x) := by
  unfold grantOne
  repeat' first
    | with_reducible exact changesOnly.refl _ _
    | decide
    | (fail_if_no_progress (with_reducible apply changesOnly.step (k := cmd_changes _ _)) <;> try first | decide)
    | with_reducible apply changesOnly.step (k := conclude_changes _ _ _ _ _ _)
    | dsimp only
    | split

theorem concludeGrant_changes (s : State) (q : Nat) :
    changesOnly [.unit .cmd] s (concludeGrant s q) := by
  unfold concludeGrant
  repeat' first
    | with_reducible exact changesOnly.refl _ _
    | decide
    | with_reducible apply changesOnly.step (k := grantOne_changes _ _ _)
    | (with_reducible apply changesOnly.foldl; intro _ _)

theorem concludeOther_changes (s : State) (q : Nat) (code : Code) (wh : Nat) :
    changesOnly [.unit .cmd, .codeFlag code] s (concludeOther s q code wh) := by
  unfold concludeOther
  repeat' first
    | with_reducible exact changesOnly.refl _ _
    | decide
    | with_reducible exact within_refl _
    | (simp [within, takesIn, Area.covers]; done)
    | with_reducible apply changesOnly.step (k := concludeAll_changes _ _ _ _ _)

theorem replyDelayed_changes (s : State) (p : Executing → Bool) (est : Option Nat) :
    changesOnly [.unit .cmd] s (replyDelayed s p est) := by
  unfold replyDelayed
  repeat' first
    | with_reducible exact changesOnly.refl _ _
    | decide
    | with_reducible apply changesOnly.step (k := accept_changes _ _ _ _ _ _ _)
    | (with_reducible apply changesOnly.foldl; intro _ _)

theorem refuseRequest_changes (s : State) (r : Request) (why : Reason) :
    changesOnly [.unit .fch, .unit .grd, .unit .cmd, .ctr Reg.grdSnapRef, .flag Reg.grdFlags 1, .flag Reg.grdFlags 3] s (refuseRequest s r why) := by
  unfold refuseRequest
  repeat' first
    | with_reducible exact changesOnly.refl _ _
    | decide
    | with_reducible apply changesOnly.step (k := logRequest_changes _ _ _ _ _)
    | with_reducible apply changesOnly.step (k := countUp_changes _ _ _)
    | with_reducible apply changesOnly.step (k := raise_changes _ _ _ _)
    | with_reducible apply changesOnly.step (k := concludeOther_changes _ _ _ _)
    | with_reducible apply changesOnly.step (k := modFe_changes _ _ _)
    | dsimp only
    | split

theorem setClaim_changes (s : State) (c : Nat) (x : FieldClaim) :
    changesOnly [.unit .grd] s (setClaim s c x) := by
  unfold setClaim
  repeat' first
    | with_reducible exact changesOnly.refl _ _
    | decide
    | (fail_if_no_progress (with_reducible apply changesOnly.step (k := grd_changes _ _)) <;> try first | decide)

theorem noteCopied_changes (s : State) :
    changesOnly [.unit .grd] s (noteCopied s) := by
  unfold noteCopied
  repeat' first
    | with_reducible exact changesOnly.refl _ _
    | decide
    | (fail_if_no_progress (with_reducible apply changesOnly.step (k := grd_changes _ _)) <;> try first | decide)

theorem requestC1_changes (s : State) (c : Nat) (amount : Nat) :
    changesOnly [.unit .grd] s (requestC1 s c amount) := by
  unfold requestC1
  repeat' first
    | with_reducible exact changesOnly.refl _ _
    | decide
    | (fail_if_no_progress (with_reducible apply changesOnly.step (k := grd_changes _ _)) <;> try first | decide)
    | dsimp only
    | split

theorem withdrawC1_changes (s : State) (c : Nat) (why : Reason) :
    changesOnly [.unit .fch, .unit .grd, .unit .cmd, .ctr Reg.grdSnapRef, .flag Reg.grdFlags 1, .flag Reg.grdFlags 3] s (withdrawC1 s c why) := by
  unfold withdrawC1
  repeat' first
    | with_reducible exact changesOnly.refl _ _
    | decide
    | (fail_if_no_progress (with_reducible apply changesOnly.step (k := grd_changes _ _)) <;> try first | decide)
    | with_reducible apply changesOnly.step (k := refuseRequest_changes _ _ _)
    | dsimp only
    | split

theorem releaseDo_changes (s : State) (c : Nat) :
    changesOnly [.unit .fch, .unit .grd, .unit .cmd, .ctr Reg.grdSnapRef, .flag Reg.grdFlags 1, .flag Reg.grdFlags 3] s (releaseDo s c) := by
  unfold releaseDo
  repeat' first
    | with_reducible exact changesOnly.refl _ _
    | decide
    | with_reducible apply changesOnly.step (k := withdrawC1_changes _ _ _)
    | with_reducible apply changesOnly.step (k := setClaim_changes _ _ _)
    | with_reducible apply changesOnly.step (k := modFe_changes _ _ _)

theorem refreshDo_changes (s : State) (c : Nat) :
    changesOnly [.unit .fch, .unit .grd, .unit .cmd, .ctr Reg.grdSnapRef, .flag Reg.grdFlags 1, .flag Reg.grdFlags 3] s (refreshDo s c) := by
  unfold refreshDo
  repeat' first
    | with_reducible exact changesOnly.refl _ _
    | decide
    | with_reducible apply changesOnly.step (k := modFe_changes _ _ _)
    | with_reducible apply changesOnly.step (k := requestC1_changes _ _ _)
    | with_reducible apply changesOnly.step (k := releaseDo_changes _ _)
    | dsimp only
    | split

theorem refreshAo_changes (s : State) (c : Nat) :
    changesOnly [.unit .fch, .unit .grd, .unit .cmd, .ctr Reg.grdSnapRef, .flag Reg.grdFlags 1, .flag Reg.grdFlags 3] s (refreshAo s c) := by
  unfold refreshAo
  repeat' first
    | with_reducible exact changesOnly.refl _ _
    | decide
    | with_reducible apply changesOnly.step (k := withdrawC1_changes _ _ _)
    | with_reducible apply changesOnly.step (k := modFe_changes _ _ _)
    | with_reducible apply changesOnly.step (k := setClaim_changes _ _ _)
    | with_reducible apply changesOnly.step (k := requestC1_changes _ _ _)
    | dsimp only
    | split

theorem refresh_changes (s : State) (c : Nat) :
    changesOnly [.unit .fch, .unit .grd, .unit .cmd, .ctr Reg.grdSnapRef, .flag Reg.grdFlags 1, .flag Reg.grdFlags 3] s (refresh s c) := by
  unfold refresh
  repeat' first
    | with_reducible exact changesOnly.refl _ _
    | decide
    | with_reducible apply changesOnly.step (k := refreshDo_changes _ _)
    | with_reducible apply changesOnly.step (k := refreshAo_changes _ _)
    | dsimp only
    | split

theorem refreshAll_changes (s : State) (cs : List Nat) :
    changesOnly [.unit .fch, .unit .grd, .unit .cmd, .ctr Reg.grdSnapRef, .flag Reg.grdFlags 1, .flag Reg.grdFlags 3] s (refreshAll s cs) := by
  unfold refreshAll
  repeat' first
    | with_reducible exact changesOnly.refl _ _
    | decide
    | with_reducible apply changesOnly.step (k := refresh_changes _ _)
    | (with_reducible apply changesOnly.foldl; intro _ _)

theorem driveOne_changes (s : State) (d : Nat × Word) :
    changesOnly [.unit .fch, .unit .grd, .unit .gmu, .unit .cmd, .ctr Reg.grdSnapRef, .flag Reg.grdFlags 1, .flag Reg.grdFlags 3] s (driveOne s d) := by
  unfold driveOne
  repeat' first
    | with_reducible exact changesOnly.refl _ _
    | decide
    | with_reducible apply changesOnly.step (k := modFe_changes _ _ _)
    | with_reducible apply changesOnly.step (k := refresh_changes _ _)
    | with_reducible apply changesOnly.step (k := syncWriter_changes _ _ _ _)

theorem drive_changes (s : State) (ds : List (Nat × Word)) :
    changesOnly [.unit .fch, .unit .grd, .unit .gmu, .unit .cmd, .ctr Reg.grdSnapRef, .flag Reg.grdFlags 1, .flag Reg.grdFlags 3] s (drive s ds) := by
  unfold drive
  repeat' first
    | with_reducible exact changesOnly.refl _ _
    | decide
    | with_reducible apply changesOnly.step (k := driveOne_changes _ _)
    | (with_reducible apply changesOnly.foldl; intro _ _)

theorem preload_changes (s : State) (ds : List (Nat × Word)) :
    changesOnly [.unit .fch] s (preload s ds) := by
  unfold preload
  repeat' first
    | with_reducible exact changesOnly.refl _ _
    | decide
    | with_reducible apply changesOnly.step (k := modFe_changes _ _ _)
    | (with_reducible apply changesOnly.foldl; intro _ _)

theorem armClaims_changes (s : State) (c : Nat) :
    changesOnly [.unit .grd] s (armClaims s c) := by
  unfold armClaims
  repeat' first
    | with_reducible exact changesOnly.refl _ _
    | decide
    | with_reducible apply changesOnly.step (k := setClaim_changes _ _ _)
    | with_reducible apply changesOnly.step (k := requestC1_changes _ _ _)
    | dsimp only
    | split

theorem feFault_changes (s : State) (c : Nat) :
    changesOnly [.flag Reg.fchFlags 0] s (feFault s c) := by
  unfold feFault
  repeat' first
    | with_reducible exact changesOnly.refl _ _
    | decide
    | with_reducible apply changesOnly.step (k := raise_changes _ _ _ _)

theorem gmuRaise_changes (s : State) (n : Nat) :
    changesOnly [.flag Reg.gmuFlags n] s (gmuRaise s n) := by
  unfold gmuRaise
  repeat' first
    | with_reducible exact changesOnly.refl _ _
    | decide
    | with_reducible exact within_refl _
    | (simp [within, takesIn, Area.covers]; done)
    | with_reducible apply changesOnly.step (k := raise_changes _ _ _ _)

theorem shedApply_changes (s : State) (t : Nat) (mask : Nat) :
    changesOnly [.unit .fch, .unit .grd, .unit .gmu, .unit .cmd, .unit .sbk, .ctr Reg.gmuSnapSheds, .ctr Reg.grdSnapRef, .flag Reg.cmdFlags 4, .flag Reg.gmuFlags 4, .flag Reg.grdFlags 1, .flag Reg.grdFlags 3] s (shedApply s t mask) := by
  unfold shedApply
  repeat' first
    | with_reducible exact changesOnly.refl _ _
    | decide
    | (fail_if_no_progress (with_reducible apply changesOnly.step (k := gmu_changes _ _)) <;> try first | decide)
    | with_reducible apply changesOnly.step (k := refreshAll_changes _ _)
    | with_reducible apply changesOnly.step (k := post_changes _ _ _ _ _ _)
    | with_reducible apply changesOnly.step (k := gmuRaise_changes _ _)
    | with_reducible apply changesOnly.step (k := countUp_changes _ _ _)

theorem releaseApply_changes (s : State) (mask : Nat) (gen : Nat) :
    changesOnly [.unit .fch, .unit .grd, .unit .gmu, .unit .cmd, .ctr Reg.grdSnapRef, .flag Reg.grdFlags 1, .flag Reg.grdFlags 3] s (releaseApply s mask gen) := by
  unfold releaseApply
  repeat' first
    | with_reducible exact changesOnly.refl _ _
    | decide
    | (fail_if_no_progress (with_reducible apply changesOnly.step (k := gmu_changes _ _)) <;> try first | decide)
    | with_reducible apply changesOnly.step (k := refreshAll_changes _ _)
    | with_reducible apply changesOnly.step (k := concludeAll_changes _ _ _ _ _)

theorem closeCommitted_changes (s : State) :
    changesOnly [.unit .gmu] s (closeCommitted s) := by
  unfold closeCommitted
  repeat' first
    | with_reducible exact changesOnly.refl _ _
    | decide
    | with_reducible apply changesOnly.step (k := modSync_changes _ _)

theorem closeNow_changes (s : State) (dead : Bool) :
    changesOnly [.unit .fch, .unit .grd, .unit .gmu, .unit .cmd, .unit .sbk, .ctr Reg.grdSnapRef, .flag Reg.cmdFlags 4, .flag Reg.gmuFlags 2, .flag Reg.grdFlags 1, .flag Reg.grdFlags 3] s (closeNow s dead) := by
  unfold closeNow
  repeat' first
    | with_reducible exact changesOnly.refl _ _
    | decide
    | with_reducible apply changesOnly.step (k := modSync_changes _ _)
    | with_reducible apply changesOnly.step (k := post_changes _ _ _ _ _ _)
    | with_reducible apply changesOnly.step (k := gmuRaise_changes _ _)
    | with_reducible apply changesOnly.step (k := refresh_changes _ _)

theorem syncAbort_changes (s : State) (reason : Nat) :
    changesOnly [.unit .fch, .unit .grd, .unit .gmu, .unit .cmd, .unit .sbk, .ctr Reg.grdSnapRef, .flag Reg.cmdFlags 4, .flag Reg.gmuFlags 3, .flag Reg.grdFlags 1, .flag Reg.grdFlags 3] s (syncAbort s reason) := by
  unfold syncAbort
  repeat' first
    | with_reducible exact changesOnly.refl _ _
    | decide
    | with_reducible apply changesOnly.step (k := modSync_changes _ _)
    | with_reducible apply changesOnly.step (k := post_changes _ _ _ _ _ _)
    | with_reducible apply changesOnly.step (k := gmuRaise_changes _ _)
    | with_reducible apply changesOnly.step (k := refresh_changes _ _)

theorem deadBusFrame_changes (s : State) :
    changesOnly [.unit .fch, .unit .grd, .unit .gmu, .unit .cmd, .unit .sbk, .ctr Reg.grdSnapRef, .flag Reg.cmdFlags 4, .flag Reg.gmuFlags 2, .flag Reg.gmuFlags 3, .flag Reg.grdFlags 1, .flag Reg.grdFlags 3] s (deadBusFrame s) := by
  unfold deadBusFrame
  repeat' first
    | with_reducible exact changesOnly.refl _ _
    | decide
    | with_reducible apply changesOnly.step (k := syncAbort_changes _ _)
    | with_reducible apply changesOnly.step (k := closeNow_changes _ _)
    | dsimp only
    | split

theorem commitGmuInput_changes (s : State) (ws : List (Nat × Word)) :
    changesOnly [.unit .exe, .unit .gmu] s (commitGmuInput s ws) := by
  unfold commitGmuInput
  repeat' first
    | with_reducible exact changesOnly.refl _ _
    | decide
    | (fail_if_no_progress (with_reducible apply changesOnly.step (k := gmu_changes _ _)) <;> try first | decide)
    | with_reducible apply changesOnly.step (k := areaPut_changes _ _ _)
    | (with_reducible apply changesOnly.foldl; intro _ _)

theorem genTripFrame_changes (s : State) :
    changesOnly [.unit .gmu] s (genTripFrame s) := by
  unfold genTripFrame
  repeat' first
    | with_reducible exact changesOnly.refl _ _
    | decide
    | (fail_if_no_progress (with_reducible apply changesOnly.step (k := gmu_changes _ _)) <;> try first | decide)
    | with_reducible apply changesOnly.step (k := setTrig_changes _ _ _)
    | (with_reducible apply changesOnly.foldl; intro _ _)
    | dsimp only
    | split

theorem armTrigger_changes (s : State) (t : Nat) :
    changesOnly [.unit .gmu] s (armTrigger s t) := by
  unfold armTrigger
  repeat' first
    | with_reducible exact changesOnly.refl _ _
    | decide
    | with_reducible apply changesOnly.step (k := setTrig_changes _ _ _)
    | dsimp only
    | split

theorem disarmTrigger_changes (s : State) (t : Nat) :
    changesOnly [.unit .gmu] s (disarmTrigger s t) := by
  unfold disarmTrigger
  repeat' first
    | with_reducible exact changesOnly.refl _ _
    | decide
    | with_reducible apply changesOnly.step (k := setTrig_changes _ _ _)

theorem installGmu_changes (s : State) (g : GmuTables) :
    changesOnly [.unit .gmu, .inForceOf 5, .regsOf 5] s (installGmu s g) := by
  unfold installGmu
  repeat' first
    | with_reducible exact changesOnly.refl _ _
    | decide
    | (fail_if_no_progress (with_reducible apply changesOnly.step (k := gmu_changes _ _)) <;> try first | decide)
    | with_reducible apply changesOnly.step (k := setCfg_changes _ _ _ _)
    | with_reducible apply changesOnly.step (k := setReg_changes _ _ _ _)
    | with_reducible apply changesOnly.step (k := setGmuBytes_changes _ _ _)
    | with_reducible apply changesOnly.step (k := armTrigger_changes _ _)
    | (with_reducible apply changesOnly.foldl; intro _ _)
    | dsimp only
    | split

theorem setPort_changes (s : State) (p : Nat) (x : CanPort) :
    changesOnly [.unit .can] s (setPort s p x) := by
  unfold setPort
  repeat' first
    | with_reducible exact changesOnly.refl _ _
    | decide
    | (fail_if_no_progress (with_reducible apply changesOnly.step (k := can_changes _ _)) <;> try first | decide)

theorem modPort_changes (s : State) (p : Nat) (f : CanPort → CanPort) :
    changesOnly [.unit .can] s (modPort s p f) := by
  unfold modPort
  repeat' first
    | with_reducible exact changesOnly.refl _ _
    | decide
    | with_reducible apply changesOnly.step (k := setPort_changes _ _ _)

theorem canRaise_changes (s : State) (p : Nat) (n : Nat) :
    changesOnly [.flag Reg.canFlags n] s (canRaise s p n) := by
  unfold canRaise
  repeat' first
    | with_reducible exact changesOnly.refl _ _
    | decide
    | with_reducible exact within_refl _
    | (simp [within, takesIn, Area.covers]; done)
    | with_reducible apply changesOnly.step (k := raise_changes _ _ _ _)

theorem canFeed_changes (s : State) (p : Nat) :
    changesOnly [.unit .can] s (canFeed s p) := by
  unfold canFeed
  repeat' first
    | with_reducible exact changesOnly.refl _ _
    | decide
    | with_reducible apply changesOnly.step (k := setPort_changes _ _ _)
    | dsimp only
    | split

theorem canFeedAll_changes (s : State) :
    changesOnly [.unit .can] s (canFeedAll s) := by
  unfold canFeedAll
  repeat' first
    | with_reducible exact changesOnly.refl _ _
    | decide
    | with_reducible apply changesOnly.step (k := canFeed_changes _ _)
    | (with_reducible apply changesOnly.foldl; intro _ _)

theorem queueEntry_changes (s : State) (p : Nat) (src : TxSource) (f : CanFrame) (oneShot : Bool) :
    changesOnly [.unit .can] s (queueEntry s p src f oneShot) := by
  unfold queueEntry
  repeat' first
    | with_reducible exact changesOnly.refl _ _
    | decide
    | with_reducible apply changesOnly.step (k := canFeed_changes _ _)
    | with_reducible apply changesOnly.step (k := setPort_changes _ _ _)

theorem queueObject_changes (s : State) (p : Nat) (d : TxObject) :
    changesOnly [.unit .can] s (queueObject s p d) := by
  unfold queueObject
  repeat' first
    | with_reducible exact changesOnly.refl _ _
    | decide
    | with_reducible apply changesOnly.step (k := queueEntry_changes _ _ _ _ _)

theorem commitPayload_changes (s : State) (c : Nat × Nat × List Byte) :
    changesOnly [.unit .can] s (commitPayload s c) := by
  unfold commitPayload
  repeat' first
    | with_reducible exact changesOnly.refl _ _
    | decide
    | with_reducible apply changesOnly.step (k := modPort_changes _ _ _)
    | with_reducible apply changesOnly.step (k := queueObject_changes _ _ _)
    | dsimp only
    | split

theorem installTiming_changes (s : State) (d : CanPortImage) :
    changesOnly [.inForce Reg.canDbt, .inForce Reg.canNbt, .inForce Reg.canTdc, .reg Reg.canDbt, .reg Reg.canNbt, .reg Reg.canTdc, .flag Reg.canFlags 5] s (installTiming s d) := by
  unfold installTiming
  repeat' first
    | with_reducible exact changesOnly.refl _ _
    | decide
    | with_reducible apply changesOnly.step (k := setReg_changes _ _ _ _)
    | with_reducible apply changesOnly.step (k := setCfg_changes _ _ _ _)
    | with_reducible apply changesOnly.step (k := canRaise_changes _ _ _)
    | dsimp only
    | split

theorem installCan_changes (s : State) (ps : List CanPortImage) :
    changesOnly [.unit .staged, .unit .can, .flag Reg.canFlags 5, .inForceOf 0xA, .regsOf 0xA] s (installCan s ps) := by
  unfold installCan
  repeat' first
    | with_reducible exact changesOnly.refl _ _
    | decide
    | (fail_if_no_progress (with_reducible apply changesOnly.step (k := staged_changes _ _)) <;> try first | decide)
    | with_reducible apply changesOnly.step (k := setReg_changes _ _ _ _)
    | with_reducible apply changesOnly.step (k := installTiming_changes _ _)
    | with_reducible apply changesOnly.step (k := modPort_changes _ _ _)
    | (with_reducible apply changesOnly.foldl; intro _ _)

theorem modLoop_changes (s : State) (n : Nat) (f : Loop → Loop) :
    changesOnly [.unit .hz] s (modLoop s n f) := by
  unfold modLoop
  repeat' first
    | with_reducible exact changesOnly.refl _ _
    | decide
    | (fail_if_no_progress (with_reducible apply changesOnly.step (k := hz_changes _ _)) <;> try first | decide)

theorem hzRaise_changes (s : State) (n : Nat) :
    changesOnly [.flag Reg.hzFlags n] s (hzRaise s n) := by
  unfold hzRaise
  repeat' first
    | with_reducible exact changesOnly.refl _ _
    | decide
    | with_reducible exact within_refl _
    | (simp [within, takesIn, Area.covers]; done)
    | with_reducible apply changesOnly.step (k := raise_changes _ _ _ _)

theorem setGen_changes (s : State) (g : Nat) (x : Generator) :
    changesOnly [.unit .hz] s (setGen s g x) := by
  unfold setGen
  repeat' first
    | with_reducible exact changesOnly.refl _ _
    | decide
    | (fail_if_no_progress (with_reducible apply changesOnly.step (k := hz_changes _ _)) <;> try first | decide)

theorem setCap_changes (s : State) (c : Nat) (x : Capture) :
    changesOnly [.unit .hz] s (setCap s c x) := by
  unfold setCap
  repeat' first
    | with_reducible exact changesOnly.refl _ _
    | decide
    | (fail_if_no_progress (with_reducible apply changesOnly.step (k := hz_changes _ _)) <;> try first | decide)

theorem endInjection_changes (s : State) (g : Nat) (reason : Nat) :
    changesOnly [.unit .hz, .unit .cmd, .unit .sbk, .flag Reg.cmdFlags 4, .flag Reg.hzFlags 3, .flag Reg.hzFlags 4] s (endInjection s g reason) := by
  unfold endInjection
  repeat' first
    | with_reducible exact changesOnly.refl _ _
    | decide
    | with_reducible apply changesOnly.step (k := setGen_changes _ _ _)
    | with_reducible apply changesOnly.step (k := post_changes _ _ _ _ _ _)
    | with_reducible apply changesOnly.step (k := hzRaise_changes _ _)
    | dsimp only
    | split

theorem endInjections_changes (s : State) (reason : Nat) :
    changesOnly [.unit .hz, .unit .cmd, .unit .sbk, .flag Reg.cmdFlags 4, .flag Reg.hzFlags 3, .flag Reg.hzFlags 4] s (endInjections s reason) := by
  unfold endInjections
  repeat' first
    | with_reducible exact changesOnly.refl _ _
    | decide
    | with_reducible apply changesOnly.step (k := endInjection_changes _ _ _)
    | (with_reducible apply changesOnly.foldl; intro _ _)
    | dsimp only
    | split

theorem finishCapture_changes (s : State) (c : Nat) (truncated : Bool) :
    changesOnly [.unit .hz, .flag Reg.hzFlags 5] s (finishCapture s c truncated) := by
  unfold finishCapture
  repeat' first
    | with_reducible exact changesOnly.refl _ _
    | decide
    | with_reducible apply changesOnly.step (k := hzRaise_changes _ _)
    | with_reducible apply changesOnly.step (k := setCap_changes _ _ _)

theorem truncateCaptures_changes (s : State) :
    changesOnly [.unit .hz, .flag Reg.hzFlags 5] s (truncateCaptures s) := by
  unfold truncateCaptures
  repeat' first
    | with_reducible exact changesOnly.refl _ _
    | decide
    | with_reducible apply changesOnly.step (k := finishCapture_changes _ _ _)
    | (with_reducible apply changesOnly.foldl; intro _ _)
    | dsimp only
    | split

theorem publish_changes (s : State) (n : Nat) (slot : Nat) :
    changesOnly [.unit .exe, .unit .hz] s (publish s n slot) := by
  unfold publish
  repeat' first
    | with_reducible exact changesOnly.refl _ _
    | decide
    | with_reducible apply changesOnly.step (k := areaPut_changes _ _ _)
    | with_reducible apply changesOnly.step (k := modLoop_changes _ _ _)
    | dsimp only
    | split

theorem applyLoopWrites_changes (s : State) (ws : List LoopWrite) :
    changesOnly [.unit .exe, .unit .hz] s (applyLoopWrites s ws) := by
  unfold applyLoopWrites
  repeat' first
    | with_reducible exact changesOnly.refl _ _
    | decide
    | with_reducible apply changesOnly.step (k := areaPut_changes _ _ _)
    | with_reducible apply changesOnly.step (k := modLoop_changes _ _ _)
    | (with_reducible apply changesOnly.foldl; intro _ _)

theorem podCounter_window (pod : Nat) : windowOf (podCounter pod) = 2 := by
  have : (pod - 1) % 5 < 5 := Nat.mod_lt _ (by decide)
  simp only [windowOf, podCounter, Reg.hzSnapPod1]
  omega

theorem podPeak_changes (s : State) (pod : Nat) (cycles : Nat) :
    changesOnly [.ctrsOf 2] s (podPeak s pod cycles) := by
  unfold podPeak
  repeat' first
    | with_reducible exact changesOnly.refl _ _
    | decide
    | with_reducible exact within_refl _
    | (simp [within, takesIn, Area.covers, podCounter_window]; done)
    | with_reducible apply changesOnly.step (k := setCounter_changes _ _ _ _)
    | dsimp only
    | split

theorem podMissed_changes (s : State) (pod : Nat) :
    changesOnly [.ctrsOf 2] s (podMissed s pod) := by
  unfold podMissed
  repeat' first
    | with_reducible exact changesOnly.refl _ _
    | decide
    | with_reducible exact within_refl _
    | (simp [within, takesIn, Area.covers, podCounter_window]; done)
    | with_reducible apply changesOnly.step (k := setCounter_changes _ _ _ _)

theorem clearPeaks_changes (s : State) :
    changesOnly [.ctrsOf 2] s (clearPeaks s) := by
  unfold clearPeaks
  repeat' first
    | with_reducible exact changesOnly.refl _ _
    | decide
    | with_reducible exact within_refl _
    | (simp [within, takesIn, Area.covers, podCounter_window]; done)
    | with_reducible apply changesOnly.step (k := setCounter_changes _ _ _ _)
    | (with_reducible apply changesOnly.foldl; intro _ _)

theorem installLoops_changes (s : State) (im : Image) (keep : Bool) :
    changesOnly [.unit .hz] s (installLoops s im keep) := by
  unfold installLoops
  repeat' first
    | with_reducible exact changesOnly.refl _ _
    | decide
    | (fail_if_no_progress (with_reducible apply changesOnly.step (k := hz_changes _ _)) <;> try first | decide)

theorem placeUnit_changes (pods : List Nat) (s : State) (u : List (Nat × Loop)) :
    changesOnly [.unit .hz] s (placeUnit pods s u) := by
  unfold placeUnit
  repeat' first
    | with_reducible exact changesOnly.refl _ _
    | decide
    | with_reducible apply changesOnly.step (k := modLoop_changes _ _ _)
    | (with_reducible apply changesOnly.foldl; intro _ _)
    | dsimp only
    | split

theorem pnlRaise_changes (s : State) (n : Nat) :
    changesOnly [.flag Reg.pnlFlags n] s (pnlRaise s n) := by
  unfold pnlRaise
  repeat' first
    | with_reducible exact changesOnly.refl _ _
    | decide
    | with_reducible exact within_refl _
    | (simp [within, takesIn, Area.covers]; done)
    | with_reducible apply changesOnly.step (k := raise_changes _ _ _ _)

theorem modPnl_changes (s : State) (f : Panel → Panel) :
    changesOnly [.unit .pnl] s (modPnl s f) := by
  unfold modPnl
  repeat' first
    | with_reducible exact changesOnly.refl _ _
    | decide
    | (fail_if_no_progress (with_reducible apply changesOnly.step (k := pnl_changes _ _)) <;> try first | decide)

theorem endPanel_changes (s : State) (r : PanelReq) (code : Code) (wh : Nat) :
    changesOnly [.unit .cmd, .ctr Reg.pnlSnapRef, .codeFlag code] s (endPanel s r code wh) := by
  unfold endPanel
  repeat' first
    | with_reducible exact changesOnly.refl _ _
    | decide
    | with_reducible exact within_refl _
    | (simp [within, takesIn, Area.covers]; done)
    | with_reducible apply changesOnly.step (k := countUp_changes _ _ _)
    | with_reducible apply changesOnly.step (k := conclude_changes _ _ _ _ _ _)
    | dsimp only
    | split

theorem modPanelReq_changes (s : State) (id : Nat) (f : PanelReq → PanelReq) :
    changesOnly [.unit .pnl] s (modPanelReq s id f) := by
  unfold modPanelReq
  repeat' first
    | with_reducible exact changesOnly.refl _ _
    | decide
    | with_reducible apply changesOnly.step (k := modPnl_changes _ _)

theorem dropPanelReq_changes (s : State) (id : Nat) :
    changesOnly [.unit .pnl] s (dropPanelReq s id) := by
  unfold dropPanelReq
  repeat' first
    | with_reducible exact changesOnly.refl _ _
    | decide
    | with_reducible apply changesOnly.step (k := modPnl_changes _ _)

theorem panelBudgetRefused_changes (s : State) (id : Nat) (why : Nat) :
    changesOnly [.unit .cmd, .unit .pnl, .ctr Reg.pnlSnapRef, .flag Reg.pnlFlags 3] s (panelBudgetRefused s id why) := by
  unfold panelBudgetRefused
  repeat' first
    | with_reducible exact changesOnly.refl _ _
    | decide
    | with_reducible apply changesOnly.step (k := endPanel_changes _ _ _ _)
    | with_reducible apply changesOnly.step (k := pnlRaise_changes _ _)
    | with_reducible apply changesOnly.step (k := dropPanelReq_changes _ _)
    | dsimp only
    | split

theorem panelHusked_changes (s : State) (id : Nat) :
    changesOnly [.unit .cmd, .unit .pnl, .ctr Reg.pnlSnapRef] s (panelHusked s id) := by
  unfold panelHusked
  repeat' first
    | with_reducible exact changesOnly.refl _ _
    | decide
    | with_reducible apply changesOnly.step (k := endPanel_changes _ _ _ _)
    | with_reducible apply changesOnly.step (k := dropPanelReq_changes _ _)
    | dsimp only
    | split

theorem panelGranted_changes (s : State) (id : Nat) :
    changesOnly [.unit .exe, .unit .grd, .unit .spr, .unit .net, .unit .pnl, .unit .sup] s (panelGranted s id) := by
  unfold panelGranted
  repeat' first
    | with_reducible exact changesOnly.refl _ _
    | decide
    | with_reducible apply changesOnly.step (k := modPanelReq_changes _ _ _)
    | with_reducible apply changesOnly.step (k := askWrite_changes _ _ _ _)

theorem panelStart_changes (s : State) :
    changesOnly [.unit .pnl] s (panelStart s) := by
  unfold panelStart
  repeat' first
    | with_reducible exact changesOnly.refl _ _
    | decide
    | with_reducible apply changesOnly.step (k := modPnl_changes _ _)

theorem panelStopAll_changes (s : State) :
    changesOnly [.unit .cmd, .unit .pnl, .ctr Reg.pnlSnapRef] s (panelStopAll s) := by
  unfold panelStopAll
  repeat' first
    | with_reducible exact changesOnly.refl _ _
    | decide
    | with_reducible apply changesOnly.step (k := modPnl_changes _ _)
    | with_reducible apply changesOnly.step (k := endPanel_changes _ _ _ _)
    | (with_reducible apply changesOnly.foldl; intro _ _)

theorem onLogicGrant_changes (s : State) (r : Request) :
    changesOnly [.unit .exe, .unit .hz, .unit .grd, .unit .spr, .unit .cmd, .unit .net, .unit .can, .unit .pnl, .unit .sup] s (onLogicGrant s r) := by
  unfold onLogicGrant
  repeat' first
    | with_reducible exact changesOnly.refl _ _
    | decide
    | with_reducible apply changesOnly.step (k := nvWrite_changes _ _)
    | with_reducible apply changesOnly.step (k := concludeGrant_changes _ _)
    | with_reducible apply changesOnly.step (k := canFeed_changes _ _)
    | with_reducible apply changesOnly.step (k := modPort_changes _ _ _)
    | with_reducible apply changesOnly.step (k := panelGranted_changes _ _)
    | with_reducible apply changesOnly.step (k := setCap_changes _ _ _)
    | dsimp only
    | split

theorem onLogicDelay_changes (s : State) (r : Request) (est : Option Nat) :
    changesOnly [.unit .cmd, .flag Reg.memFlags 6] s (onLogicDelay s r est) := by
  unfold onLogicDelay
  repeat' first
    | with_reducible exact changesOnly.refl _ _
    | decide
    | with_reducible apply changesOnly.step (k := replyDelayed_changes _ _ _)
    | with_reducible apply changesOnly.step (k := raise_changes _ _ _ _)
    | dsimp only
    | split

theorem onLogicRefuse_changes (s : State) (r : Request) (why : Reason) :
    changesOnly [.unit .cmd, .unit .pnl, .ctr Reg.pnlSnapRef, .flag Reg.memFlags 6, .flag Reg.pnlFlags 3] s (onLogicRefuse s r why) := by
  unfold onLogicRefuse
  repeat' first
    | with_reducible exact changesOnly.refl _ _
    | decide
    | with_reducible apply changesOnly.step (k := raise_changes _ _ _ _)
    | with_reducible apply changesOnly.step (k := panelBudgetRefused_changes _ _ _)
    | with_reducible apply changesOnly.step (k := pnlRaise_changes _ _)
    | with_reducible apply changesOnly.step (k := modPnl_changes _ _)
    | dsimp only
    | split

theorem undoForce_changes (s : State) (u : ForceKey × Option Nat) :
    changesOnly [.unit .exe] s (undoForce s u) := by
  unfold undoForce
  repeat' first
    | with_reducible exact changesOnly.refl _ _
    | decide
    | (fail_if_no_progress (with_reducible apply changesOnly.step (k := exe_changes _ _)) <;> try first | decide)

theorem huskForces_changes (s : State) :
    changesOnly [.unit .exe, .unit .fch, .unit .grd, .unit .spr, .unit .cmd, .unit .net, .unit .sup, .ctr Reg.grdSnapRef, .flag Reg.grdFlags 1, .flag Reg.grdFlags 3] s (huskForces s) := by
  unfold huskForces
  repeat' first
    | with_reducible exact changesOnly.refl _ _
    | decide
    | with_reducible apply changesOnly.step (k := undoForce_changes _ _)
    | with_reducible apply changesOnly.step (k := concludeOther_changes _ _ _ _)
    | with_reducible apply changesOnly.step (k := refreshAll_changes _ _)
    | with_reducible apply changesOnly.step (k := nvWrite_changes _ _)
    | (with_reducible apply changesOnly.foldl; intro _ _)

theorem onLogicHusked_changes (s : State) (r : Request) :
    changesOnly [.unit .exe, .unit .fch, .unit .grd, .unit .spr, .unit .cmd, .unit .net, .unit .can, .unit .sbk, .unit .pnl, .unit .sup, .ctr Reg.grdSnapRef, .ctr Reg.pnlSnapRef, .flag Reg.grdFlags 1, .flag Reg.grdFlags 3, .flag Reg.memFlags 6] s (onLogicHusked s r) := by
  unfold onLogicHusked
  repeat' first
    | with_reducible exact changesOnly.refl _ _
    | decide
    | (fail_if_no_progress (with_reducible apply changesOnly.step (k := sbk_changes _ _)) <;> try first | decide)
    | with_reducible apply changesOnly.step (k := modPort_changes _ _ _)
    | with_reducible apply changesOnly.step (k := panelHusked_changes _ _)
    | with_reducible apply changesOnly.step (k := modPnl_changes _ _)
    | with_reducible apply changesOnly.step (k := raise_changes _ _ _ _)
    | with_reducible apply changesOnly.step (k := huskForces_changes _)
    | with_reducible apply changesOnly.step (k := nvWrite_changes _ _)
    | dsimp only
    | split

theorem huskRequests_changes (s : State) :
    changesOnly [.unit .exe, .unit .fch, .unit .grd, .unit .spr, .unit .cmd, .unit .net, .unit .can, .unit .sbk, .unit .pnl, .unit .sup, .ctr Reg.grdSnapRef, .ctr Reg.pnlSnapRef, .flag Reg.grdFlags 1, .flag Reg.grdFlags 3, .flag Reg.memFlags 6] s (huskRequests s) := by
  unfold huskRequests
  repeat' first
    | with_reducible exact changesOnly.refl _ _
    | decide
    | (fail_if_no_progress (with_reducible apply changesOnly.step (k := grd_changes _ _)) <;> try first | decide)
    | with_reducible apply changesOnly.step (k := concludeOther_changes _ _ _ _)
    | with_reducible apply changesOnly.step (k := modFe_changes _ _ _)
    | with_reducible apply changesOnly.step (k := onLogicHusked_changes _ _)
    | (with_reducible apply changesOnly.foldl; intro _ _)

theorem setGroupBudget_changes (s : State) (g : Nat) (x : GroupBudget) :
    changesOnly [.unit .grd] s (setGroupBudget s g x) := by
  unfold setGroupBudget
  repeat' first
    | with_reducible exact changesOnly.refl _ _
    | decide
    | (fail_if_no_progress (with_reducible apply changesOnly.step (k := grd_changes _ _)) <;> try first | decide)

theorem markAbove_changes (s : State) (g : Nat) :
    changesOnly [.unit .grd] s (markAbove s g) := by
  unfold markAbove
  repeat' first
    | with_reducible exact changesOnly.refl _ _
    | decide
    | with_reducible apply changesOnly.step (k := setGroupBudget_changes _ _ _)
    | dsimp only
    | split

theorem grantC1_changes (s : State) (r : Request) :
    changesOnly [.unit .fch, .unit .grd, .unit .cmd, .ctr Reg.grdSnapMaxwait, .flag Reg.grdFlags 3] s (grantC1 s r) := by
  unfold grantC1
  repeat' first
    | with_reducible exact changesOnly.refl _ _
    | decide
    | with_reducible apply changesOnly.step (k := setClaim_changes _ _ _)
    | with_reducible apply changesOnly.step (k := modFe_changes _ _ _)
    | with_reducible apply changesOnly.step (k := countMax_changes _ _ _ _)
    | with_reducible apply changesOnly.step (k := logRequest_changes _ _ _ _ _)
    | with_reducible apply changesOnly.step (k := concludeGrant_changes _ _)
    | with_reducible apply changesOnly.step (k := markAbove_changes _ _)
    | dsimp only
    | split

theorem delayC1_changes (s : State) (r : Request) (why : Reason) (est : Option Nat) :
    changesOnly [.unit .fch, .unit .grd, .unit .cmd, .ctr Reg.grdSnapC1dly, .flag Reg.grdFlags 0, .flag Reg.grdFlags 3] s (delayC1 s r why est) := by
  unfold delayC1
  repeat' first
    | with_reducible exact changesOnly.refl _ _
    | decide
    | (fail_if_no_progress (with_reducible apply changesOnly.step (k := grd_changes _ _)) <;> try first | decide)
    | with_reducible apply changesOnly.step (k := modFe_changes _ _ _)
    | with_reducible apply changesOnly.step (k := logRequest_changes _ _ _ _ _)
    | with_reducible apply changesOnly.step (k := countUp_changes _ _ _)
    | with_reducible apply changesOnly.step (k := raise_changes _ _ _ _)
    | with_reducible apply changesOnly.step (k := replyDelayed_changes _ _ _)
    | dsimp only
    | split

theorem decideC1_changes (g : Nat) (p : State × Option (Option Nat)) (r : Request) :
    changesOnly [.unit .fch, .unit .grd, .unit .cmd, .ctr Reg.grdSnapC1dly, .ctr Reg.grdSnapMaxwait, .flag Reg.grdFlags 0, .flag Reg.grdFlags 3] p.1 (decideC1 g p r).1 := by
  unfold decideC1
  repeat' first
    | with_reducible exact changesOnly.refl _ _
    | decide
    | (fail_if_no_progress (with_reducible apply changesOnly.step (k := grd_changes _ _)) <;> try first | decide)
    | with_reducible apply changesOnly.step (k := grantC1_changes _ _)
    | with_reducible apply changesOnly.step (k := delayC1_changes _ _ _ _)
    | dsimp only
    | split

theorem decideGroup_changes (s : State) (g : Nat) :
    changesOnly [.unit .fch, .unit .grd, .unit .cmd, .ctr Reg.grdSnapC1dly, .ctr Reg.grdSnapMaxwait, .flag Reg.grdFlags 0, .flag Reg.grdFlags 3] s (decideGroup s g) := by
  unfold decideGroup
  repeat' first
    | with_reducible exact changesOnly.refl _ _
    | decide
    | with_reducible apply changesOnly.step (k := decideC1_changes _ _ _)
    | (with_reducible apply changesOnly.foldl_fst; intro _ _)

theorem grantLogic_changes (s : State) (r : Request) :
    changesOnly [.unit .grd, .flag Reg.grdFlags 3] s (grantLogic s r) := by
  unfold grantLogic
  repeat' first
    | with_reducible exact changesOnly.refl _ _
    | decide
    | (fail_if_no_progress (with_reducible apply changesOnly.step (k := grd_changes _ _)) <;> try first | decide)
    | with_reducible apply changesOnly.step (k := logRequest_changes _ _ _ _ _)

theorem grantsTakeEffect_changes (s : State) :
    changesOnly [.unit .exe, .unit .hz, .unit .grd, .unit .spr, .unit .cmd, .unit .net, .unit .can, .unit .pnl, .unit .sup] s (grantsTakeEffect s) := by
  unfold grantsTakeEffect
  repeat' first
    | with_reducible exact changesOnly.refl _ _
    | decide
    | (fail_if_no_progress (with_reducible apply changesOnly.step (k := grd_changes _ _)) <;> try first | decide)
    | with_reducible apply changesOnly.step (k := onLogicGrant_changes _ _)
    | (with_reducible apply changesOnly.foldl; intro _ _)

theorem delayLogic_changes (s : State) (r : Request) (why : Reason) :
    changesOnly [.unit .grd, .unit .cmd, .flag Reg.grdFlags 0, .flag Reg.grdFlags 3, .flag Reg.memFlags 6] s (delayLogic s r why).1 := by
  unfold delayLogic
  repeat' first
    | with_reducible exact changesOnly.refl _ _
    | decide
    | with_reducible apply changesOnly.step (k := onLogicDelay_changes _ _ _)
    | with_reducible apply changesOnly.step (k := logRequest_changes _ _ _ _ _)
    | with_reducible apply changesOnly.step (k := raise_changes _ _ _ _)
    | dsimp only
    | split

theorem refuseLogic_changes (s : State) (r : Request) (why : Reason) :
    changesOnly [.unit .fch, .unit .grd, .unit .cmd, .unit .pnl, .ctr Reg.grdSnapRef, .ctr Reg.pnlSnapRef, .flag Reg.grdFlags 1, .flag Reg.grdFlags 3, .flag Reg.memFlags 6, .flag Reg.pnlFlags 3] s (refuseLogic s r why) := by
  unfold refuseLogic
  repeat' first
    | with_reducible exact changesOnly.refl _ _
    | decide
    | with_reducible apply changesOnly.step (k := onLogicRefuse_changes _ _ _)
    | with_reducible apply changesOnly.step (k := refuseRequest_changes _ _ _)

theorem decideC2_changes (l : List Request) (s : State) :
    changesOnly [.unit .grd, .unit .cmd, .flag Reg.grdFlags 0, .flag Reg.grdFlags 3, .flag Reg.memFlags 6] s (decideC2 l s).1 := by
  induction l generalizing s with
  | nil => exact changesOnly.refl _ _
  | cons r rs ih =>
    unfold decideC2
    repeat' first
      | with_reducible exact changesOnly.refl _ _
      | decide
      | with_reducible apply changesOnly.step (k := ih _)
      | with_reducible apply changesOnly.step (k := delayLogic_changes _ _ _)
      | with_reducible apply changesOnly.step (k := grantLogic_changes _ _)
      | (with_reducible apply changesOnly.foldl_fst; intro _ _)
      | dsimp only
      | split

theorem decideC3_changes (l : List Request) (s : State) :
    changesOnly [.unit .fch, .unit .grd, .unit .cmd, .unit .pnl, .ctr Reg.grdSnapRef, .ctr Reg.pnlSnapRef, .flag Reg.grdFlags 0, .flag Reg.grdFlags 1, .flag Reg.grdFlags 3, .flag Reg.memFlags 6, .flag Reg.pnlFlags 3] s (decideC3 l s).1 := by
  induction l generalizing s with
  | nil => exact changesOnly.refl _ _
  | cons r rs ih =>
    unfold decideC3
    repeat' first
      | with_reducible exact changesOnly.refl _ _
      | decide
      | with_reducible apply changesOnly.step (k := ih _)
      | with_reducible apply changesOnly.step (k := delayLogic_changes _ _ _)
      | with_reducible apply changesOnly.step (k := grantLogic_changes _ _)
      | with_reducible apply changesOnly.step (k := refuseLogic_changes _ _ _)
      | dsimp only
      | split

theorem requestLogic_changes (s : State) (r : Request) :
    changesOnly [.unit .exe, .unit .fch, .unit .grd, .unit .spr, .unit .cmd, .unit .net, .unit .can, .unit .sbk, .unit .pnl, .unit .sup, .ctr Reg.grdSnapRef, .ctr Reg.pnlSnapRef, .flag Reg.grdFlags 1, .flag Reg.grdFlags 3, .flag Reg.memFlags 6, .flag Reg.pnlFlags 3] s (requestLogic s r) := by
  unfold requestLogic
  repeat' first
    | with_reducible exact changesOnly.refl _ _
    | decide
    | (fail_if_no_progress (with_reducible apply changesOnly.step (k := grd_changes _ _)) <;> try first | decide)
    | with_reducible apply changesOnly.step (k := onLogicHusked_changes _ _)
    | with_reducible apply changesOnly.step (k := requestC2_changes _ _)
    | with_reducible apply changesOnly.step (k := refuseLogic_changes _ _ _)
    | dsimp only
    | split

theorem askLogic_changes (s : State) (cls : GrantClass) (window : Nat) (amount : Nat) (durationUs : Option Nat) (p : Purpose) :
    changesOnly [.unit .exe, .unit .fch, .unit .grd, .unit .spr, .unit .cmd, .unit .net, .unit .can, .unit .sbk, .unit .pnl, .unit .sup, .ctr Reg.grdSnapRef, .ctr Reg.pnlSnapRef, .flag Reg.grdFlags 1, .flag Reg.grdFlags 3, .flag Reg.memFlags 6, .flag Reg.pnlFlags 3] s (askLogic s cls window amount durationUs p) := by
  unfold askLogic
  repeat' first
    | with_reducible exact changesOnly.refl _ _
    | decide
    | with_reducible apply changesOnly.step (k := requestLogic_changes _ _)

theorem endClaim_changes (s : State) (p : Purpose) :
    changesOnly [.unit .grd] s (endClaim s p) := by
  unfold endClaim
  repeat' first
    | with_reducible exact changesOnly.refl _ _
    | decide
    | (fail_if_no_progress (with_reducible apply changesOnly.step (k := grd_changes _ _)) <;> try first | decide)

theorem releaseExpired_changes (s : State) :
    changesOnly [.unit .grd] s (releaseExpired s) := by
  unfold releaseExpired
  repeat' first
    | with_reducible exact changesOnly.refl _ _
    | decide
    | (fail_if_no_progress (with_reducible apply changesOnly.step (k := grd_changes _ _)) <;> try first | decide)
    | with_reducible apply changesOnly.step (k := markAbove_changes _ _)
    | (with_reducible apply changesOnly.foldl; intro _ _)

theorem copyClaims_changes (s : State) :
    changesOnly [.unit .own, .unit .grd, .unit .pair] s (copyClaims s) := by
  unfold copyClaims
  repeat' first
    | with_reducible exact changesOnly.refl _ _
    | decide
    | with_reducible apply changesOnly.step (k := copyChange_changes _ _ _)
    | with_reducible apply changesOnly.step (k := noteCopied_changes _)
    | dsimp only
    | split

theorem gourdDecide_changes (s : State) :
    changesOnly [.unit .own, .unit .fch, .unit .grd, .unit .pair, .unit .cmd, .unit .pnl, .ctr Reg.grdSnapC1dly, .ctr Reg.grdSnapMaxwait, .ctr Reg.grdSnapRef, .ctr Reg.pnlSnapRef, .flag Reg.grdFlags 0, .flag Reg.grdFlags 1, .flag Reg.grdFlags 3, .flag Reg.memFlags 6, .flag Reg.pnlFlags 3] s (gourdDecide s) := by
  unfold gourdDecide
  repeat' first
    | with_reducible exact changesOnly.refl _ _
    | decide
    | (fail_if_no_progress (with_reducible apply changesOnly.step (k := grd_changes _ _)) <;> try first | decide)
    | with_reducible apply changesOnly.step (k := releaseExpired_changes _)
    | with_reducible apply changesOnly.step (k := grantLogic_changes _ _)
    | with_reducible apply changesOnly.step (k := decideGroup_changes _ _)
    | with_reducible apply changesOnly.step (k := decideC2_changes _ _)
    | with_reducible apply changesOnly.step (k := decideC3_changes _ _)
    | with_reducible apply changesOnly.step (k := copyClaims_changes _)
    | (with_reducible apply changesOnly.foldl; intro _ _)

theorem captureWrite_changes (s : State) (addr : Nat) (r : Requester) (kind : Nat) :
    changesOnly [.reg Reg.supFaultAddr, .reg Reg.supFaultSrc] s (captureWrite s addr r kind) := by
  unfold captureWrite
  repeat' first
    | with_reducible exact changesOnly.refl _ _
    | decide
    | with_reducible apply changesOnly.step (k := setReg_changes _ _ _ _)
    | dsimp only
    | split

theorem lockedWrite_changes (s : State) (addr : Nat) (r : Requester) (kind : Nat) :
    changesOnly [.unit .cmd, .unit .sbk, .ctr Reg.supSnapLockv, .reg Reg.supFaultAddr, .reg Reg.supFaultSrc, .flag Reg.cmdFlags 4, .flag Reg.supFlags 0] s (lockedWrite s addr r kind) := by
  unfold lockedWrite
  repeat' first
    | with_reducible exact changesOnly.refl _ _
    | decide
    | with_reducible apply changesOnly.step (k := post_changes _ _ _ _ _ _)
    | with_reducible apply changesOnly.step (k := countUp_changes _ _ _)
    | with_reducible apply changesOnly.step (k := raise_changes _ _ _ _)
    | with_reducible apply changesOnly.step (k := captureWrite_changes _ _ _ _)

theorem unmappedWrite_changes (s : State) (addr : Nat) (r : Requester) :
    changesOnly [.ctr Reg.supSnapUnmapped, .reg Reg.supFaultAddr, .reg Reg.supFaultSrc, .flag Reg.supFlags 1] s (unmappedWrite s addr r) := by
  unfold unmappedWrite
  repeat' first
    | with_reducible exact changesOnly.refl _ _
    | decide
    | with_reducible apply changesOnly.step (k := countUp_changes _ _ _)
    | with_reducible apply changesOnly.step (k := raise_changes _ _ _ _)
    | with_reducible apply changesOnly.step (k := captureWrite_changes _ _ _ _)

theorem setKeyStep_changes (s : State) (n : Nat) (by_ : Option Requester) :
    changesOnly [.unit .sup, .reg Reg.supLock] s (setKeyStep s n by_) := by
  unfold setKeyStep
  repeat' first
    | with_reducible exact changesOnly.refl _ _
    | decide
    | (fail_if_no_progress (with_reducible apply changesOnly.step (k := sup_changes _ _)) <;> try first | decide)
    | with_reducible apply changesOnly.step (k := setRegField_changes _ _ _ _ _ _)

theorem keyFail_changes (s : State) (r : Requester) :
    changesOnly [.unit .cmd, .unit .sbk, .unit .sup, .reg Reg.supLock, .flag Reg.cmdFlags 4, .flag Reg.supFlags 2] s (keyFail s r) := by
  unfold keyFail
  repeat' first
    | with_reducible exact changesOnly.refl _ _
    | decide
    | with_reducible apply changesOnly.step (k := post_changes _ _ _ _ _ _)
    | with_reducible apply changesOnly.step (k := raise_changes _ _ _ _)
    | with_reducible apply changesOnly.step (k := setKeyStep_changes _ _ _)

theorem breakKey_changes (s : State) (addr : Nat) (r : Requester) :
    changesOnly [.unit .cmd, .unit .sbk, .unit .sup, .reg Reg.supLock, .flag Reg.cmdFlags 4, .flag Reg.supFlags 2] s (breakKey s addr r) := by
  unfold breakKey
  repeat' first
    | with_reducible exact changesOnly.refl _ _
    | decide
    | with_reducible apply changesOnly.step (k := keyFail_changes _ _)
    | dsimp only
    | split

theorem guardWrite_changes {W : List Area} (s : State) (addr : Nat) (r : Requester) (listed : Bool) (body : State → State × Access) (hbody : ∀ t, changesOnly W t (body t).1)
    (hw : within [.unit .cmd, .unit .sbk, .unit .sup, .ctr Reg.supSnapLockv, .reg Reg.supFaultAddr, .reg Reg.supFaultSrc, .reg Reg.supLock, .flag Reg.cmdFlags 4, .flag Reg.supFlags 0, .flag Reg.supFlags 2] W = true) :
    changesOnly W s (guardWrite s addr r listed body).1 := by
  unfold guardWrite
  repeat' first
    | with_reducible exact changesOnly.refl _ _
    | assumption
    | decide
    | with_reducible apply changesOnly.trans (k := hbody _)
    | with_reducible apply changesOnly.trans (k := ((breakKey_changes _ _ _).mono (show within _ [.unit .cmd, .unit .sbk, .unit .sup, .ctr Reg.supSnapLockv, .reg Reg.supFaultAddr, .reg Reg.supFaultSrc, .reg Reg.supLock, .flag Reg.cmdFlags 4, .flag Reg.supFlags 0, .flag Reg.supFlags 2] = true by decide)).mono hw)
    | with_reducible apply changesOnly.trans (k := ((lockedWrite_changes _ _ _ _).mono (show within _ [.unit .cmd, .unit .sbk, .unit .sup, .ctr Reg.supSnapLockv, .reg Reg.supFaultAddr, .reg Reg.supFaultSrc, .reg Reg.supLock, .flag Reg.cmdFlags 4, .flag Reg.supFlags 0, .flag Reg.supFlags 2] = true by decide)).mono hw)
    | dsimp only
    | split

theorem actionWrite_changes {W : List Area} (s : State) (addr : Nat) (r : Requester) (body : State → State) (hbody : ∀ t, changesOnly W t (body t))
    (hw : within [.unit .cmd, .unit .sbk, .unit .sup, .ctr Reg.supSnapLockv, .reg Reg.supFaultAddr, .reg Reg.supFaultSrc, .reg Reg.supLock, .flag Reg.cmdFlags 4, .flag Reg.supFlags 0, .flag Reg.supFlags 2] W = true) :
    changesOnly W s (actionWrite s addr r body) := by
  unfold actionWrite
  repeat' first
    | with_reducible exact changesOnly.refl _ _
    | assumption
    | decide
    | with_reducible apply changesOnly.trans (k := hbody _)
    | with_reducible apply changesOnly.trans (k := guardWrite_changes _ _ _ _ _ ?_ ?_)

theorem startModes_changes (s : State) :
    changesOnly [.unit .hz] s (startModes s) := by
  unfold startModes
  repeat' first
    | with_reducible exact changesOnly.refl _ _
    | decide
    | (fail_if_no_progress (with_reducible apply changesOnly.step (k := hz_changes _ _)) <;> try first | decide)

theorem commitSource_changes (t : Nat) (s : State) (x : Nat × List Byte) :
    changesOnly [.unit .net] s (commitSource t s x) := by
  unfold commitSource
  repeat' first
    | with_reducible exact changesOnly.refl _ _
    | decide
    | (fail_if_no_progress (with_reducible apply changesOnly.step (k := net_changes _ _)) <;> try first | decide)

theorem applyCommit_changes (s : State) (c : Commit) :
    changesOnly [.unit .fch, .unit .grd, .unit .gmu, .unit .cmd, .unit .net, .unit .can, .unit .sbk, .ctr Reg.gmuSnapSheds, .ctr Reg.grdSnapRef, .flag Reg.cmdFlags 4, .flag Reg.gmuFlags 4, .flag Reg.grdFlags 1, .flag Reg.grdFlags 3] s (applyCommit s c) := by
  unfold applyCommit
  repeat' first
    | with_reducible exact changesOnly.refl _ _
    | decide
    | with_reducible apply changesOnly.step (k := commitSource_changes _ _ _)
    | with_reducible apply changesOnly.step (k := commitPayload_changes _ _)
    | with_reducible apply changesOnly.step (k := drive_changes _ _)
    | with_reducible apply changesOnly.step (k := shedApply_changes _ _ _)
    | with_reducible apply changesOnly.step (k := releaseApply_changes _ _ _)
    | with_reducible apply changesOnly.step (k := closeCommitted_changes _)
    | (with_reducible apply changesOnly.foldl; intro _ _)
    | dsimp only
    | split

theorem noteGmu_changes (s : State) :
    changesOnly [.unit .gmu] s (noteGmu s) := by
  unfold noteGmu
  repeat' first
    | with_reducible exact changesOnly.refl _ _
    | decide
    | (fail_if_no_progress (with_reducible apply changesOnly.step (k := gmu_changes _ _)) <;> try first | decide)

theorem copyGmuState_changes (s : State) :
    changesOnly [.unit .own, .unit .gmu, .unit .pair] s (copyGmuState s) := by
  unfold copyGmuState
  repeat' first
    | with_reducible exact changesOnly.refl _ _
    | decide
    | with_reducible apply changesOnly.step (k := copyChange_changes _ _ _)
    | with_reducible apply changesOnly.step (k := noteGmu_changes _)
    | dsimp only
    | split

theorem noteKind_changes (s : State) (k : CommitKind) :
    changesOnly [.unit .gmu] s (noteKind s k) := by
  unfold noteKind
  repeat' first
    | with_reducible exact changesOnly.refl _ _
    | decide
    | with_reducible apply changesOnly.step (k := noteGmu_changes _)
    | dsimp only
    | split

theorem sendCommit_changes (s : State) (c : Commit) :
    changesOnly [.unit .grd, .unit .gmu, .unit .pair] s (sendCommit s c) := by
  unfold sendCommit
  repeat' first
    | with_reducible exact changesOnly.refl _ _
    | decide
    | with_reducible apply changesOnly.step (k := sendEntries_changes _ _ _ _)
    | with_reducible apply changesOnly.step (k := noteKind_changes _ _)
    | with_reducible apply changesOnly.step (k := noteCopied_changes _)
    | dsimp only
    | split

theorem commit_changes (s : State) (kind : CommitKind) (drives : List (Nat × Word)) (canPayloads : List (Nat × Nat × List Byte)) (sources : List (Nat × List Byte)) :
    changesOnly [.unit .own, .unit .fch, .unit .grd, .unit .gmu, .unit .pair, .unit .cmd, .unit .net, .unit .can, .unit .sbk, .ctr Reg.gmuSnapSheds, .ctr Reg.grdSnapRef, .flag Reg.cmdFlags 4, .flag Reg.gmuFlags 4, .flag Reg.grdFlags 1, .flag Reg.grdFlags 3] s (commit s kind drives canPayloads sources) := by
  unfold commit
  repeat' first
    | with_reducible exact changesOnly.refl _ _
    | decide
    | (fail_if_no_progress (with_reducible apply changesOnly.step (k := own_changes _ _)) <;> try first | decide)
    | with_reducible apply changesOnly.step (k := sendCommit_changes _ _)
    | with_reducible apply changesOnly.step (k := applyCommit_changes _ _)
    | dsimp only
    | split

theorem applyOutstanding_changes (s : State) :
    changesOnly [.unit .own, .unit .fch, .unit .grd, .unit .gmu, .unit .cmd, .unit .net, .unit .can, .unit .sbk, .ctr Reg.gmuSnapSheds, .ctr Reg.grdSnapRef, .flag Reg.cmdFlags 4, .flag Reg.gmuFlags 4, .flag Reg.grdFlags 1, .flag Reg.grdFlags 3] s (applyOutstanding s) := by
  unfold applyOutstanding
  repeat' first
    | with_reducible exact changesOnly.refl _ _
    | decide
    | (fail_if_no_progress (with_reducible apply changesOnly.step (k := own_changes _ _)) <;> try first | decide)
    | with_reducible apply changesOnly.step (k := applyCommit_changes _ _)
    | (with_reducible apply changesOnly.foldl; intro _ _)

theorem replaceLoops_changes (s : State) (pod : Nat) (moving : List (Nat × Loop)) :
    changesOnly [.unit .own, .unit .hz, .unit .fch, .unit .grd, .unit .gmu, .unit .pair, .unit .cmd, .unit .net, .unit .can, .unit .sbk, .ctr Reg.gmuSnapSheds, .ctr Reg.grdSnapRef, .flag Reg.cmdFlags 4, .flag Reg.gmuFlags 4, .flag Reg.grdFlags 1, .flag Reg.grdFlags 3, .flag Reg.hzFlags 1] s (replaceLoops s pod moving) := by
  unfold replaceLoops
  repeat' first
    | with_reducible exact changesOnly.refl _ _
    | decide
    | with_reducible apply changesOnly.step (k := modLoop_changes _ _ _)
    | with_reducible apply changesOnly.step (k := placeUnit_changes _ _ _)
    | with_reducible apply changesOnly.step (k := hzRaise_changes _ _)
    | with_reducible apply changesOnly.step (k := commit_changes _ _ _ _ _)
    | (with_reducible apply changesOnly.foldl; intro _ _)
    | dsimp only
    | split

theorem placeOrphans_changes (s : State) :
    changesOnly [.unit .own, .unit .hz, .unit .fch, .unit .grd, .unit .gmu, .unit .pair, .unit .cmd, .unit .net, .unit .can, .unit .sbk, .ctr Reg.gmuSnapSheds, .ctr Reg.grdSnapRef, .flag Reg.cmdFlags 4, .flag Reg.gmuFlags 4, .flag Reg.grdFlags 1, .flag Reg.grdFlags 3, .flag Reg.hzFlags 1] s (placeOrphans s) := by
  unfold placeOrphans
  repeat' first
    | with_reducible exact changesOnly.refl _ _
    | decide
    | with_reducible apply changesOnly.step (k := replaceLoops_changes _ _ _)
    | dsimp only
    | split

theorem setNetPort_changes (s : State) (p : Nat) (x : NetPort) :
    changesOnly [.unit .net] s (setNetPort s p x) := by
  unfold setNetPort
  repeat' first
    | with_reducible exact changesOnly.refl _ _
    | decide
    | (fail_if_no_progress (with_reducible apply changesOnly.step (k := net_changes _ _)) <;> try first | decide)

theorem installNet_changes (s : State) (d : NetImage) :
    changesOnly [.unit .net] s (installNet s d) := by
  unfold installNet
  repeat' first
    | with_reducible exact changesOnly.refl _ _
    | decide
    | (fail_if_no_progress (with_reducible apply changesOnly.step (k := net_changes _ _)) <;> try first | decide)
    | with_reducible apply changesOnly.step (k := setNetPort_changes _ _ _)
    | (with_reducible apply changesOnly.foldl; intro _ _)

theorem installSections_changes (s : State) (im : Image) (changed : Bool) (keepLoops : Bool) :
    changesOnly [.unit .staged, .unit .own, .unit .hz, .unit .fch, .unit .grd, .unit .gmu, .unit .pair, .unit .cmd, .unit .net, .unit .can, .unit .sbk, .ctr Reg.gmuSnapSheds, .ctr Reg.grdSnapRef, .flag Reg.canFlags 5, .flag Reg.cmdFlags 4, .flag Reg.gmuFlags 4, .flag Reg.grdFlags 1, .flag Reg.grdFlags 3, .flag Reg.hzFlags 1, .inForceOf 0xA, .inForceOf 5, .regsOf 0xA, .regsOf 5] s (installSections s im changed keepLoops) := by
  unfold installSections
  repeat' first
    | with_reducible exact changesOnly.refl _ _
    | decide
    | with_reducible apply changesOnly.step (k := installNet_changes _ _)
    | with_reducible apply changesOnly.step (k := installCan_changes _ _)
    | with_reducible apply changesOnly.step (k := installGmu_changes _ _)
    | with_reducible apply changesOnly.step (k := placeOrphans_changes _)
    | with_reducible apply changesOnly.step (k := startModes_changes _)
    | with_reducible apply changesOnly.step (k := installLoops_changes _ _ _)
    | dsimp only
    | split

theorem startFlush_changes (s : State) :
    changesOnly [.unit .exe, .unit .grd, .unit .spr, .unit .cmd, .unit .net, .unit .sbk, .unit .sup, .flag Reg.cmdFlags 4] s (startFlush s) := by
  unfold startFlush
  repeat' first
    | with_reducible exact changesOnly.refl _ _
    | decide
    | (fail_if_no_progress (with_reducible apply changesOnly.step (k := sbk_changes _ _)) <;> try first | decide)
    | with_reducible apply changesOnly.step (k := post_changes _ _ _ _ _ _)
    | with_reducible apply changesOnly.step (k := askWrite_changes _ _ _ _)
    | dsimp only
    | split

theorem postLogFailure_changes (s : State) (x : Nat × Nat × Nat) :
    changesOnly [.unit .cmd, .unit .sbk, .flag Reg.cmdFlags 4] s (postLogFailure s x) := by
  unfold postLogFailure
  repeat' first
    | with_reducible exact changesOnly.refl _ _
    | decide
    | (fail_if_no_progress (with_reducible apply changesOnly.step (k := sbk_changes _ _)) <;> try first | decide)
    | with_reducible apply changesOnly.step (k := post_changes _ _ _ _ _ _)

theorem freezeFor_changes (s : State) (x : Executing) :
    changesOnly [.unit .cmd, .unit .sbk] s (freezeFor s x) := by
  unfold freezeFor
  repeat' first
    | with_reducible exact changesOnly.refl _ _
    | decide
    | (fail_if_no_progress (with_reducible apply changesOnly.step (k := sbk_changes _ _)) <;> try first | decide)
    | with_reducible apply changesOnly.step (k := conclude_changes _ _ _ _ _ _)
    | dsimp only
    | split

theorem finishFlush_changes (s : State) (bad : List Nat) :
    changesOnly [.unit .grd, .unit .cmd, .unit .sbk, .flag Reg.cmdFlags 4] s (finishFlush s bad) := by
  unfold finishFlush
  repeat' first
    | with_reducible exact changesOnly.refl _ _
    | decide
    | (fail_if_no_progress (with_reducible apply changesOnly.step (k := sbk_changes _ _)) <;> try first | decide)
    | with_reducible apply changesOnly.step (k := endClaim_changes _ _)
    | with_reducible apply changesOnly.step (k := postLogFailure_changes _ _)
    | with_reducible apply changesOnly.step (k := freezeFor_changes _ _)
    | (with_reducible apply changesOnly.foldl; intro _ _)

theorem sbkStart_changes (s : State) (ringOk : Bool) (cause : Nat) :
    changesOnly [.unit .cmd, .unit .sbk, .flag Reg.cmdFlags 4] s (sbkStart s ringOk cause) := by
  unfold sbkStart
  repeat' first
    | with_reducible exact changesOnly.refl _ _
    | decide
    | (fail_if_no_progress (with_reducible apply changesOnly.step (k := sbk_changes _ _)) <;> try first | decide)
    | with_reducible apply changesOnly.step (k := post_changes _ _ _ _ _ _)

theorem endSubs_changes (s : State) (p : Subscription → Bool) :
    changesOnly [.unit .cmd] s (endSubs s p) := by
  unfold endSubs
  repeat' first
    | with_reducible exact changesOnly.refl _ _
    | decide
    | (fail_if_no_progress (with_reducible apply changesOnly.step (k := cmd_changes _ _)) <;> try first | decide)

theorem subscribe_changes (s : State) (c : Ctx) (op : Nat) (param : Nat) :
    changesOnly [.unit .cmd] s (subscribe s c op param) := by
  unfold subscribe
  repeat' first
    | with_reducible exact changesOnly.refl _ _
    | decide
    | (fail_if_no_progress (with_reducible apply changesOnly.step (k := cmd_changes _ _)) <;> try first | decide)
    | with_reducible apply changesOnly.step (k := endSubs_changes _ _)

theorem sbkWindowWrite_changes (s : State) (a : Nat) (v : Word) :
    changesOnly [.unit .sbk] s (sbkWindowWrite s a v) := by
  unfold sbkWindowWrite
  repeat' first
    | with_reducible exact changesOnly.refl _ _
    | decide
    | (fail_if_no_progress (with_reducible apply changesOnly.step (k := sbk_changes _ _)) <;> try first | decide)
    | dsimp only
    | split

theorem takeOverrange_changes (s : State) (m : BitVec 16) :
    changesOnly [.unit .gmu, .flag Reg.gmuFlags 0] s (takeOverrange s m) := by
  unfold takeOverrange
  repeat' first
    | with_reducible exact changesOnly.refl _ _
    | decide
    | (fail_if_no_progress (with_reducible apply changesOnly.step (k := gmu_changes _ _)) <;> try first | decide)
    | with_reducible apply changesOnly.step (k := raiseIf_changes _ _ _ _ _)

theorem syncMeasure_changes (s : State) :
    changesOnly [.unit .gmu] s (syncMeasure s) := by
  unfold syncMeasure
  repeat' first
    | with_reducible exact changesOnly.refl _ _
    | decide
    | with_reducible apply changesOnly.step (k := modSync_changes _ _)

theorem syncHeld_changes (s : State) (centre : Nat) (refWas : Bool) (incWas : Bool) :
    changesOnly [.unit .own, .unit .fch, .unit .grd, .unit .gmu, .unit .pair, .unit .cmd, .unit .net, .unit .can, .unit .sbk, .ctr Reg.gmuSnapSheds, .ctr Reg.grdSnapRef, .flag Reg.cmdFlags 4, .flag Reg.gmuFlags 3, .flag Reg.gmuFlags 4, .flag Reg.grdFlags 1, .flag Reg.grdFlags 3] s (syncHeld s centre refWas incWas) := by
  unfold syncHeld
  repeat' first
    | with_reducible exact changesOnly.refl _ _
    | decide
    | with_reducible apply changesOnly.step (k := syncAbort_changes _ _)
    | with_reducible apply changesOnly.step (k := commit_changes _ _ _ _ _)
    | with_reducible apply changesOnly.step (k := modSync_changes _ _)
    | dsimp only
    | split

theorem setMeasClose_changes (s : State) (us : Nat) :
    changesOnly [.unit .gmu] s (setMeasClose s us) := by
  unfold setMeasClose
  repeat' first
    | with_reducible exact changesOnly.refl _ _
    | decide
    | with_reducible apply changesOnly.step (k := modSync_changes _ _)
    | with_reducible apply changesOnly.step (k := setGmuBytes_changes _ _ _)

theorem measureClose_changes (s : State) (centre : Nat) :
    changesOnly [.unit .gmu] s (measureClose s centre) := by
  unfold measureClose
  repeat' first
    | with_reducible exact changesOnly.refl _ _
    | decide
    | with_reducible apply changesOnly.step (k := setMeasClose_changes _ _)
    | with_reducible apply changesOnly.step (k := modSync_changes _ _)
    | dsimp only
    | split

theorem syncReport_changes (s : State) (centre : Nat) :
    changesOnly [.unit .own, .unit .fch, .unit .grd, .unit .gmu, .unit .pair, .unit .cmd, .unit .net, .unit .can, .unit .sbk, .ctr Reg.gmuSnapSheds, .ctr Reg.grdSnapRef, .flag Reg.cmdFlags 4, .flag Reg.gmuFlags 3, .flag Reg.gmuFlags 4, .flag Reg.grdFlags 1, .flag Reg.grdFlags 3] s (syncReport s centre) := by
  unfold syncReport
  repeat' first
    | with_reducible exact changesOnly.refl _ _
    | decide
    | with_reducible apply changesOnly.step (k := syncMeasure_changes _)
    | with_reducible apply changesOnly.step (k := modSync_changes _ _)
    | with_reducible apply changesOnly.step (k := measureClose_changes _ _)
    | with_reducible apply changesOnly.step (k := syncHeld_changes _ _ _ _)

theorem trigReport_changes (s : State) :
    changesOnly [.unit .gmu] s (trigReport s) := by
  unfold trigReport
  repeat' first
    | with_reducible exact changesOnly.refl _ _
    | decide
    | (fail_if_no_progress (with_reducible apply changesOnly.step (k := gmu_changes _ _)) <;> try first | decide)
    | with_reducible apply changesOnly.step (k := setTrig_changes _ _ _)
    | (with_reducible apply changesOnly.foldl; intro _ _)
    | dsimp only
    | split

theorem notifyReports_changes (s : State) :
    changesOnly [.unit .cmd, .flag Reg.cmdFlags 4] s (notifyReports s) := by
  unfold notifyReports
  repeat' first
    | with_reducible exact changesOnly.refl _ _
    | decide
    | (fail_if_no_progress (with_reducible apply changesOnly.step (k := cmd_changes _ _)) <;> try first | decide)
    | with_reducible apply changesOnly.step (k := flagNotifyLost_changes _ _)

theorem addToWindows_changes (s : State) (f : Option (Nat × Nat)) :
    changesOnly [.unit .gmu] s (addToWindows s f) := by
  unfold addToWindows
  repeat' first
    | with_reducible exact changesOnly.refl _ _
    | decide
    | (fail_if_no_progress (with_reducible apply changesOnly.step (k := gmu_changes _ _)) <;> try first | decide)

theorem takeMeasure_changes (s : State) (m : GmuMeasure) :
    changesOnly [.unit .gmu, .flag Reg.gmuFlags 0] s (takeMeasure s m) := by
  unfold takeMeasure
  repeat' first
    | with_reducible exact changesOnly.refl _ _
    | decide
    | (fail_if_no_progress (with_reducible apply changesOnly.step (k := gmu_changes _ _)) <;> try first | decide)
    | with_reducible apply changesOnly.step (k := takeOverrange_changes _ _)
    | with_reducible apply changesOnly.step (k := addToWindows_changes _ _)

theorem gmuReport_changes (s : State) (m : GmuMeasure) :
    changesOnly [.unit .own, .unit .exe, .unit .fch, .unit .grd, .unit .gmu, .unit .pair, .unit .cmd, .unit .net, .unit .can, .unit .sbk, .ctr Reg.gmuSnapSheds, .ctr Reg.grdSnapRef, .flag Reg.cmdFlags 4, .flag Reg.gmuFlags 0, .flag Reg.gmuFlags 3, .flag Reg.gmuFlags 4, .flag Reg.grdFlags 1, .flag Reg.grdFlags 3] s (gmuReport s m) := by
  unfold gmuReport
  repeat' first
    | with_reducible exact changesOnly.refl _ _
    | decide
    | (fail_if_no_progress (with_reducible apply changesOnly.step (k := gmu_changes _ _)) <;> try first | decide)
    | with_reducible apply changesOnly.step (k := trigReport_changes _)
    | with_reducible apply changesOnly.step (k := syncReport_changes _ _)
    | with_reducible apply changesOnly.step (k := takeMeasure_changes _ _)
    | with_reducible apply changesOnly.step (k := copyGmuState_changes _)
    | with_reducible apply changesOnly.step (k := notifyReports_changes _)
    | with_reducible apply changesOnly.step (k := areaPut_changes _ _ _)
    | dsimp only
    | split

theorem gmuTimeStep_changes (s : State) :
    changesOnly [.unit .fch, .unit .grd, .unit .gmu, .unit .cmd, .unit .sbk, .ctr Reg.grdSnapRef, .flag Reg.cmdFlags 4, .flag Reg.gmuFlags 3, .flag Reg.gmuFlags 7, .flag Reg.grdFlags 1, .flag Reg.grdFlags 3] s (gmuTimeStep s) := by
  unfold gmuTimeStep
  repeat' first
    | with_reducible exact changesOnly.refl _ _
    | decide
    | (fail_if_no_progress (with_reducible apply changesOnly.step (k := gmu_changes _ _)) <;> try first | decide)
    | with_reducible apply changesOnly.step (k := modSync_changes _ _)
    | with_reducible apply changesOnly.step (k := post_changes _ _ _ _ _ _)
    | with_reducible apply changesOnly.step (k := gmuRaise_changes _ _)
    | with_reducible apply changesOnly.step (k := syncAbort_changes _ _)
    | dsimp only
    | split

end Sys2Proof
end

