-- ==== Sys2Proof/Laws/FrameStation.lean ====
section
/-! SUPPORT. Laws/FrameStation.lean: for each shared operation everything it may change: the pair's messages, tasks, module time, the CAN ports, sessions and bring-ins. -/
namespace Sys2Proof
open Sys2Proof.Machine

theorem discardPending_changes (s : State) (cause : Nat) :
    changesOnly [.unit .wnt, .unit .cmd, .unit .sbk, .flag Reg.cmdFlags 4] s (discardPending s cause) := by
  unfold discardPending
  repeat' first
    | with_reducible exact changesOnly.refl _ _
    | decide
    | (fail_if_no_progress (with_reducible apply changesOnly.step (k := wnt_changes _ _)) <;> try first | decide)
    | with_reducible apply changesOnly.step (k := concludeAll_changes _ _ _ _ _)
    | with_reducible apply changesOnly.step (k := post_changes _ _ _ _ _ _)
    | dsimp only
    | split

theorem ppdRaise_changes (s : State) (n : Nat) :
    changesOnly [.flag Reg.ppdFlags n] s (ppdRaise s n) := by
  unfold ppdRaise
  repeat' first
    | with_reducible exact changesOnly.refl _ _
    | decide
    | with_reducible exact within_refl _
    | (simp [within, takesIn, Area.covers]; done)
    | with_reducible apply changesOnly.step (k := raise_changes _ _ _ _)

theorem driveLine_changes (s : State) (on : Bool) :
    changesOnly [.unit .own] s (driveLine s on) := by
  unfold driveLine
  repeat' first
    | with_reducible exact changesOnly.refl _ _
    | decide
    | (fail_if_no_progress (with_reducible apply changesOnly.step (k := own_changes _ _)) <;> try first | decide)

theorem roleTests_changes (s : State) (takes : Bool) :
    changesOnly [.unit .wnt] s (roleTests s takes) := by
  unfold roleTests
  repeat' first
    | with_reducible exact changesOnly.refl _ _
    | decide
    | (fail_if_no_progress (with_reducible apply changesOnly.step (k := wnt_changes _ _)) <;> try first | decide)

theorem leaveField_changes (s : State) :
    changesOnly [.unit .own, .unit .exe, .unit .fch, .unit .grd, .unit .cmd, .ctr Reg.grdSnapRef, .flag Reg.grdFlags 1, .flag Reg.grdFlags 3] s (leaveField s) := by
  unfold leaveField
  repeat' first
    | with_reducible exact changesOnly.refl _ _
    | decide
    | (fail_if_no_progress (with_reducible apply changesOnly.step (k := own_exe_grd_changes _ _ _ _)) <;> try first | decide)
    | with_reducible apply changesOnly.step (k := concludeAll_changes _ _ _ _ _)
    | with_reducible apply changesOnly.step (k := withdrawC1_changes _ _ _)
    | (with_reducible apply changesOnly.foldl; intro _ _)

theorem changeRole_changes (s : State) (r : Role) (cause : Nat) :
    changesOnly [.unit .own, .unit .exe, .unit .hz, .unit .fch, .unit .grd, .unit .wnt, .unit .pair, .unit .cmd, .unit .sbk, .ctr Reg.grdSnapRef, .flag Reg.cmdFlags 4, .flag Reg.grdFlags 1, .flag Reg.grdFlags 3, .flag Reg.hzFlags 3, .flag Reg.hzFlags 4, .flag Reg.hzFlags 5, .flag Reg.ppdFlags 2] s (changeRole s r cause) := by
  unfold changeRole
  repeat' first
    | with_reducible exact changesOnly.refl _ _
    | decide
    | (fail_if_no_progress (with_reducible apply changesOnly.step (k := pair_changes _ _)) <;> try first | decide)
    | with_reducible apply changesOnly.step (k := post_changes _ _ _ _ _ _)
    | with_reducible apply changesOnly.step (k := driveLine_changes _ _)
    | with_reducible apply changesOnly.step (k := endInjections_changes _ _)
    | with_reducible apply changesOnly.step (k := roleTests_changes _ _)
    | with_reducible apply changesOnly.step (k := truncateCaptures_changes _)
    | with_reducible apply changesOnly.step (k := ppdRaise_changes _ _)
    | with_reducible apply changesOnly.step (k := leaveField_changes _)
    | dsimp only
    | split

theorem dropWaitingSet_changes (s : State) :
    changesOnly [.unit .wnt] s (dropWaitingSet s) := by
  unfold dropWaitingSet
  repeat' first
    | with_reducible exact changesOnly.refl _ _
    | decide
    | (fail_if_no_progress (with_reducible apply changesOnly.step (k := wnt_changes _ _)) <;> try first | decide)
    | dsimp only
    | split

theorem undoOne_changes (s : State) (x : Executing) :
    changesOnly [.unit .exe, .unit .hz, .unit .gmu, .unit .wnt, .unit .spr, .unit .net] s (undoOne s x) := by
  unfold undoOne
  repeat' first
    | with_reducible exact changesOnly.refl _ _
    | decide
    | (fail_if_no_progress (with_reducible apply changesOnly.step (k := exe_changes _ _)) <;> try first | decide)
    | (fail_if_no_progress (with_reducible apply changesOnly.step (k := spr_changes _ _)) <;> try first | decide)
    | (fail_if_no_progress (with_reducible apply changesOnly.step (k := gmu_changes _ _)) <;> try first | decide)
    | (fail_if_no_progress (with_reducible apply changesOnly.step (k := net_changes _ _)) <;> try first | decide)
    | with_reducible apply changesOnly.step (k := modLoop_changes _ _ _)
    | with_reducible apply changesOnly.step (k := dropWaitingSet_changes _)
    | dsimp only
    | split

theorem undoWork_changes (s : State) (w : Nat) :
    changesOnly [.unit .exe, .unit .hz, .unit .gmu, .unit .wnt, .unit .spr, .unit .net] s (undoWork s w) := by
  unfold undoWork
  repeat' first
    | with_reducible exact changesOnly.refl _ _
    | decide
    | with_reducible apply changesOnly.step (k := undoOne_changes _ _)
    | (with_reducible apply changesOnly.foldl; intro _ _)

theorem partnerLost_changes (s : State) :
    changesOnly [.unit .exe, .unit .wnt, .unit .pair, .unit .cmd, .flag Reg.ppdFlags 10] s (partnerLost s) := by
  unfold partnerLost
  repeat' first
    | with_reducible exact changesOnly.refl _ _
    | decide
    | (fail_if_no_progress (with_reducible apply changesOnly.step (k := exe_pair_changes _ _ _)) <;> try first | decide)
    | with_reducible apply changesOnly.step (k := concludeAll_changes _ _ _ _ _)
    | with_reducible apply changesOnly.step (k := raiseIf_changes _ _ _ _ _)
    | with_reducible apply changesOnly.step (k := dropWaitingSet_changes _)

theorem becomeAlone_changes (s : State) (cause : Nat) :
    changesOnly [.unit .own, .unit .exe, .unit .hz, .unit .fch, .unit .grd, .unit .gmu, .unit .wnt, .unit .pair, .unit .cmd, .unit .net, .unit .can, .unit .sbk, .ctr Reg.gmuSnapSheds, .ctr Reg.grdSnapRef, .flag Reg.cmdFlags 4, .flag Reg.gmuFlags 4, .flag Reg.grdFlags 1, .flag Reg.grdFlags 3, .flag Reg.hzFlags 3, .flag Reg.hzFlags 4, .flag Reg.hzFlags 5, .flag Reg.ppdFlags 10, .flag Reg.ppdFlags 2] s (becomeAlone s cause) := by
  unfold becomeAlone
  repeat' first
    | with_reducible exact changesOnly.refl _ _
    | decide
    | with_reducible apply changesOnly.step (k := applyOutstanding_changes _)
    | with_reducible apply changesOnly.step (k := changeRole_changes _ _ _)
    | with_reducible apply changesOnly.step (k := partnerLost_changes _)
    | dsimp only
    | split

theorem writeFaultRecord_changes (s : State) (kind : Nat) (addr : Nat) (region : Nat) (syndrome : Nat) :
    changesOnly [.unit .exe, .unit .grd, .unit .spr, .unit .net, .unit .sup] s (writeFaultRecord s kind addr region syndrome) := by
  unfold writeFaultRecord
  repeat' first
    | with_reducible exact changesOnly.refl _ _
    | decide
    | (fail_if_no_progress (with_reducible apply changesOnly.step (k := sup_changes _ _)) <;> try first | decide)
    | with_reducible apply changesOnly.step (k := askWrite_changes _ _ _ _)

theorem moduleFault_changes (s : State) (kind : FaultKind) (addr : Nat) (region : Nat) (syndrome : Nat) :
    changesOnly [.unit .own, .unit .exe, .unit .hz, .unit .fch, .unit .grd, .unit .wnt, .unit .pair, .unit .spr, .unit .cmd, .unit .net, .unit .sbk, .unit .sup, .ctr Reg.grdSnapRef, .flag Reg.cmdFlags 4, .flag Reg.grdFlags 1, .flag Reg.grdFlags 3, .flag Reg.hzFlags 3, .flag Reg.hzFlags 4, .flag Reg.hzFlags 5, .flag Reg.ppdFlags 10, .flag Reg.ppdFlags 2] s (moduleFault s kind addr region syndrome) := by
  unfold moduleFault
  repeat' first
    | with_reducible exact changesOnly.refl _ _
    | decide
    | (fail_if_no_progress (with_reducible apply changesOnly.step (k := own_exe_changes _ _ _)) <;> try first | decide)
    | with_reducible apply changesOnly.step (k := post_changes _ _ _ _ _ _)
    | with_reducible apply changesOnly.step (k := writeFaultRecord_changes _ _ _ _ _)
    | with_reducible apply changesOnly.step (k := driveLine_changes _ _)
    | with_reducible apply changesOnly.step (k := send_changes _ _)
    | with_reducible apply changesOnly.step (k := changeRole_changes _ _ _)
    | with_reducible apply changesOnly.step (k := partnerLost_changes _)

theorem yieldField_changes (s : State) :
    changesOnly [.unit .own, .unit .exe, .unit .hz, .unit .fch, .unit .grd, .unit .wnt, .unit .pair, .unit .cmd, .unit .sbk, .ctr Reg.grdSnapRef, .flag Reg.cmdFlags 4, .flag Reg.grdFlags 1, .flag Reg.grdFlags 3, .flag Reg.hzFlags 3, .flag Reg.hzFlags 4, .flag Reg.hzFlags 5, .flag Reg.ppdFlags 1, .flag Reg.ppdFlags 2] s (yieldField s) := by
  unfold yieldField
  repeat' first
    | with_reducible exact changesOnly.refl _ _
    | decide
    | with_reducible apply changesOnly.step (k := ppdRaise_changes _ _)
    | with_reducible apply changesOnly.step (k := changeRole_changes _ _ _)
    | with_reducible apply changesOnly.step (k := driveLine_changes _ _)
    | with_reducible apply changesOnly.step (k := send_changes _ _)
    | dsimp only
    | split

theorem askC0_changes (s : State) (window : Nat) (amount : Nat) (durationUs : Option Nat) (p : Purpose) :
    changesOnly [.unit .grd] s (askC0 s window amount durationUs p) := by
  unfold askC0
  repeat' first
    | with_reducible exact changesOnly.refl _ _
    | decide
    | (fail_if_no_progress (with_reducible apply changesOnly.step (k := grd_changes _ _)) <;> try first | decide)
    | dsimp only
    | split

theorem dropAsked_changes (s : State) (p : Purpose) :
    changesOnly [.unit .grd] s (dropAsked s p) := by
  unfold dropAsked
  repeat' first
    | with_reducible exact changesOnly.refl _ _
    | decide
    | (fail_if_no_progress (with_reducible apply changesOnly.step (k := grd_changes _ _)) <;> try first | decide)

theorem startHandover_changes (s : State) (swap : Bool) (internal : Bool) :
    changesOnly [.unit .exe] s (startHandover s swap internal) := by
  unfold startHandover
  repeat' first
    | with_reducible exact changesOnly.refl _ _
    | decide
    | (fail_if_no_progress (with_reducible apply changesOnly.step (k := exe_changes _ _)) <;> try first | decide)
    | dsimp only
    | split

theorem lanesBoundary_changes (s : State) :
    changesOnly [.unit .own, .unit .exe, .unit .hz, .unit .fch, .unit .grd, .unit .gmu, .unit .wnt, .unit .pair, .unit .cmd, .unit .net, .unit .can, .unit .sbk, .ctr Reg.gmuSnapSheds, .ctr Reg.grdSnapRef, .flag Reg.cmdFlags 4, .flag Reg.gmuFlags 4, .flag Reg.grdFlags 1, .flag Reg.grdFlags 3, .flag Reg.hzFlags 3, .flag Reg.hzFlags 4, .flag Reg.hzFlags 5, .flag Reg.ppdFlags 10, .flag Reg.ppdFlags 2] s (lanesBoundary s) := by
  unfold lanesBoundary
  repeat' first
    | with_reducible exact changesOnly.refl _ _
    | decide
    | (fail_if_no_progress (with_reducible apply changesOnly.step (k := pair_changes _ _)) <;> try first | decide)
    | with_reducible apply changesOnly.step (k := send_changes _ _)
    | with_reducible apply changesOnly.step (k := becomeAlone_changes _ _)
    | dsimp only
    | split

theorem countBlocks_changes (s : State) (n : Nat) :
    changesOnly [.unit .pair] s (countBlocks s n) := by
  unfold countBlocks
  repeat' first
    | with_reducible exact changesOnly.refl _ _
    | decide
    | (fail_if_no_progress (with_reducible apply changesOnly.step (k := pair_changes _ _)) <;> try first | decide)
    | dsimp only
    | split

theorem closeCycle_changes (s : State) :
    changesOnly [.unit .pair, .ctr Reg.ppdSnapPeak] s (closeCycle s) := by
  unfold closeCycle
  repeat' first
    | with_reducible exact changesOnly.refl _ _
    | decide
    | (fail_if_no_progress (with_reducible apply changesOnly.step (k := pair_changes _ _)) <;> try first | decide)
    | with_reducible apply changesOnly.step (k := countMax_changes _ _ _ _)

theorem setFb_changes (s : State) (i : Nat) (x : Fb) :
    changesOnly [.unit .exe] s (setFb s i x) := by
  unfold setFb
  repeat' first
    | with_reducible exact changesOnly.refl _ _
    | decide
    | (fail_if_no_progress (with_reducible apply changesOnly.step (k := exe_changes _ _)) <;> try first | decide)

theorem fbCall_changes (t : Nat) (s : State) (k : FbCall) :
    changesOnly [.unit .exe] s (fbCall t s k) := by
  unfold fbCall
  repeat' first
    | with_reducible exact changesOnly.refl _ _
    | decide
    | with_reducible apply changesOnly.step (k := setFb_changes _ _ _)
    | dsimp only
    | split

theorem writeVar_changes (s : State) (i : Nat) (offset : Nat) (data : List Byte) :
    changesOnly [.unit .exe] s (writeVar s i offset data) := by
  unfold writeVar
  repeat' first
    | with_reducible exact changesOnly.refl _ _
    | decide
    | (fail_if_no_progress (with_reducible apply changesOnly.step (k := exe_changes _ _)) <;> try first | decide)
    | dsimp only
    | split

theorem applyVarWrites_changes (s : State) (released : List Nat) :
    changesOnly [.unit .exe] s (applyVarWrites s released) := by
  unfold applyVarWrites
  repeat' first
    | with_reducible exact changesOnly.refl _ _
    | decide
    | (fail_if_no_progress (with_reducible apply changesOnly.step (k := exe_changes _ _)) <;> try first | decide)
    | with_reducible apply changesOnly.step (k := writeVar_changes _ _ _ _)
    | (with_reducible apply changesOnly.foldl; intro _ _)

theorem setTask_changes (s : State) (n : Nat) (t : Task) :
    changesOnly [.unit .exe] s (setTask s n t) := by
  unfold setTask
  repeat' first
    | with_reducible exact changesOnly.refl _ _
    | decide
    | (fail_if_no_progress (with_reducible apply changesOnly.step (k := exe_changes _ _)) <;> try first | decide)

theorem skipRelease_changes (s : State) (n : Nat) (k : Nat) (why : SkipCause) :
    changesOnly [.unit .exe, .ctr Reg.exeSnapSkip] s (skipRelease s n k why) := by
  unfold skipRelease
  repeat' first
    | with_reducible exact changesOnly.refl _ _
    | decide
    | (fail_if_no_progress (with_reducible apply changesOnly.step (k := exe_changes _ _)) <;> try first | decide)
    | with_reducible apply changesOnly.step (k := setCounter_changes _ _ _ _)

theorem shadowTask_changes (s : State) (n : Nat) :
    changesOnly [.unit .exe] s (shadowTask s n) := by
  unfold shadowTask
  repeat' first
    | with_reducible exact changesOnly.refl _ _
    | decide
    | (fail_if_no_progress (with_reducible apply changesOnly.step (k := exe_changes _ _)) <;> try first | decide)

theorem writeRetain_changes (s : State) :
    changesOnly [.unit .exe, .unit .grd, .unit .spr, .unit .net, .unit .sup] s (writeRetain s) := by
  unfold writeRetain
  repeat' first
    | with_reducible exact changesOnly.refl _ _
    | decide
    | with_reducible apply changesOnly.step (k := askWrite_changes _ _ _ _)

theorem imageCfg_changes (s : State) (a : Nat) (i : Nat) (v : Word) :
    changesOnly [.inForce a, .reg a] s (imageCfg s a i v) := by
  unfold imageCfg
  repeat' first
    | with_reducible exact changesOnly.refl _ _
    | decide
    | with_reducible exact within_refl _
    | (simp [within, takesIn, Area.covers]; done)
    | with_reducible apply changesOnly.step (k := setCfg_changes _ _ _ _)
    | with_reducible apply changesOnly.step (k := setReg_changes _ _ _ _)

theorem installChannel_changes (s : State) (d : ChannelDecl) :
    changesOnly [.unit .fch, .inForce Reg.fchAicfg, .inForce Reg.fchAocfg, .inForce Reg.fchAosafe, .inForce Reg.fchDicfg, .inForce Reg.fchDocfg, .inForce Reg.fchMode, .inForce Reg.fchPulsecfg, .inForce Reg.fchStopcfg, .inForce Reg.grdChload, .reg Reg.fchAicfg, .reg Reg.fchAocfg, .reg Reg.fchAosafe, .reg Reg.fchCtrl, .reg Reg.fchDicfg, .reg Reg.fchDocfg, .reg Reg.fchMode, .reg Reg.fchPulsecfg, .reg Reg.fchStopcfg, .reg Reg.grdChload] s (installChannel s d) := by
  unfold installChannel
  repeat' first
    | with_reducible exact changesOnly.refl _ _
    | decide
    | with_reducible apply changesOnly.step (k := imageCfg_changes _ _ _ _)
    | with_reducible apply changesOnly.step (k := setRegField_changes _ _ _ _ _ _)
    | with_reducible apply changesOnly.step (k := modFe_changes _ _ _)
    | dsimp only
    | split

theorem installImage_changes (s : State) (im : Image) (keep : Bool) :
    changesOnly [.unit .staged, .unit .own, .unit .exe, .unit .hz, .unit .fch, .unit .grd, .unit .gmu, .unit .pair, .unit .cmd, .unit .net, .unit .can, .unit .sbk, .ctr Reg.gmuSnapSheds, .ctr Reg.grdSnapRef, .inForce Reg.fchAicfg, .inForce Reg.fchAocfg, .inForce Reg.fchAosafe, .inForce Reg.fchDicfg, .inForce Reg.fchDocfg, .inForce Reg.fchMode, .inForce Reg.fchPulsecfg, .inForce Reg.fchStopcfg, .inForce Reg.grdChload, .reg Reg.fchAicfg, .reg Reg.fchAocfg, .reg Reg.fchAosafe, .reg Reg.fchCtrl, .reg Reg.fchDicfg, .reg Reg.fchDocfg, .reg Reg.fchMode, .reg Reg.fchPulsecfg, .reg Reg.fchStopcfg, .reg Reg.grdChload, .flag Reg.canFlags 5, .flag Reg.cmdFlags 4, .flag Reg.gmuFlags 4, .flag Reg.grdFlags 1, .flag Reg.grdFlags 3, .flag Reg.hzFlags 1, .inForceOf 0xA, .inForceOf 5, .regsOf 0xA, .regsOf 5] s (installImage s im keep) := by
  unfold installImage
  repeat' first
    | with_reducible exact changesOnly.refl _ _
    | decide
    | (fail_if_no_progress (with_reducible apply changesOnly.step (k := exe_changes _ _)) <;> try first | decide)
    | with_reducible apply changesOnly.step (k := installSections_changes _ _ _ _)
    | with_reducible apply changesOnly.step (k := installChannel_changes _ _)
    | (with_reducible apply changesOnly.foldl; intro _ _)
    | dsimp only
    | split

theorem unwriteOutputs_changes (s : State) :
    changesOnly [.unit .fch] s (unwriteOutputs s) := by
  unfold unwriteOutputs
  repeat' first
    | with_reducible exact changesOnly.refl _ _
    | decide
    | (fail_if_no_progress (with_reducible apply changesOnly.step (k := fch_changes _ _)) <;> try first | decide)

theorem clearTasks_changes (s : State) :
    changesOnly [.unit .exe, .ctr Reg.exeSnapMaxexec, .ctrsOf 2] s (clearTasks s) := by
  unfold clearTasks
  repeat' first
    | with_reducible exact changesOnly.refl _ _
    | decide
    | (fail_if_no_progress (with_reducible apply changesOnly.step (k := exe_changes _ _)) <;> try first | decide)
    | with_reducible apply changesOnly.step (k := clearPeaks_changes _)
    | with_reducible apply changesOnly.step (k := setCounter_changes _ _ _ _)
    | (with_reducible apply changesOnly.foldl; intro _ _)

theorem writeForces_changes (s : State) (fs : List Force) :
    changesOnly [.unit .own, .unit .exe, .unit .grd, .unit .pair, .unit .spr, .unit .net, .unit .sup] s (writeForces s fs) := by
  unfold writeForces
  repeat' first
    | with_reducible exact changesOnly.refl _ _
    | decide
    | (fail_if_no_progress (with_reducible apply changesOnly.step (k := exe_changes _ _)) <;> try first | decide)
    | with_reducible apply changesOnly.step (k := copyChange_changes _ _ _)
    | with_reducible apply changesOnly.step (k := askWrite_changes _ _ _ _)

theorem changeForces_changes (s : State) (old : State) (new : Option Image) (choice : ForceChoice) (changed : Bool) :
    changesOnly [.unit .own, .unit .exe, .unit .grd, .unit .pair, .unit .spr, .unit .net, .unit .sup] s (changeForces s old new choice changed).1 := by
  unfold changeForces
  repeat' first
    | with_reducible exact changesOnly.refl _ _
    | decide
    | with_reducible apply changesOnly.step (k := writeForces_changes _ _)
    | dsimp only
    | split

theorem coldData_changes (s : State) (im : Image) :
    changesOnly [.unit .staged, .unit .own, .unit .exe, .unit .hz, .unit .fch, .unit .grd, .unit .gmu, .unit .pair, .unit .cmd, .unit .net, .unit .can, .unit .sbk, .ctr Reg.gmuSnapSheds, .ctr Reg.grdSnapRef, .inForce Reg.fchAicfg, .inForce Reg.fchAocfg, .inForce Reg.fchAosafe, .inForce Reg.fchDicfg, .inForce Reg.fchDocfg, .inForce Reg.fchMode, .inForce Reg.fchPulsecfg, .inForce Reg.fchStopcfg, .inForce Reg.grdChload, .reg Reg.fchAicfg, .reg Reg.fchAocfg, .reg Reg.fchAosafe, .reg Reg.fchCtrl, .reg Reg.fchDicfg, .reg Reg.fchDocfg, .reg Reg.fchMode, .reg Reg.fchPulsecfg, .reg Reg.fchStopcfg, .reg Reg.grdChload, .flag Reg.canFlags 5, .flag Reg.cmdFlags 4, .flag Reg.gmuFlags 4, .flag Reg.grdFlags 1, .flag Reg.grdFlags 3, .flag Reg.hzFlags 1, .inForceOf 0xA, .inForceOf 5, .regsOf 0xA, .regsOf 5] s (coldData s im) := by
  unfold coldData
  repeat' first
    | with_reducible exact changesOnly.refl _ _
    | decide
    | (fail_if_no_progress (with_reducible apply changesOnly.step (k := exe_changes _ _)) <;> try first | decide)
    | with_reducible apply changesOnly.step (k := installImage_changes _ _ _)

theorem warmData_changes (s : State) (im : Image) (data : RetainData) :
    changesOnly [.unit .staged, .unit .own, .unit .exe, .unit .hz, .unit .fch, .unit .grd, .unit .gmu, .unit .pair, .unit .cmd, .unit .net, .unit .can, .unit .sbk, .ctr Reg.gmuSnapSheds, .ctr Reg.grdSnapRef, .inForce Reg.fchAicfg, .inForce Reg.fchAocfg, .inForce Reg.fchAosafe, .inForce Reg.fchDicfg, .inForce Reg.fchDocfg, .inForce Reg.fchMode, .inForce Reg.fchPulsecfg, .inForce Reg.fchStopcfg, .inForce Reg.grdChload, .reg Reg.fchAicfg, .reg Reg.fchAocfg, .reg Reg.fchAosafe, .reg Reg.fchCtrl, .reg Reg.fchDicfg, .reg Reg.fchDocfg, .reg Reg.fchMode, .reg Reg.fchPulsecfg, .reg Reg.fchStopcfg, .reg Reg.grdChload, .flag Reg.canFlags 5, .flag Reg.cmdFlags 4, .flag Reg.gmuFlags 4, .flag Reg.grdFlags 1, .flag Reg.grdFlags 3, .flag Reg.hzFlags 1, .inForceOf 0xA, .inForceOf 5, .regsOf 0xA, .regsOf 5] s (warmData s im data) := by
  unfold warmData
  repeat' first
    | with_reducible exact changesOnly.refl _ _
    | decide
    | (fail_if_no_progress (with_reducible apply changesOnly.step (k := exe_changes _ _)) <;> try first | decide)
    | with_reducible apply changesOnly.step (k := installImage_changes _ _ _)
    | with_reducible apply changesOnly.step (k := setFb_changes _ _ _)
    | (with_reducible apply changesOnly.foldl; intro _ _)
    | dsimp only
    | split

theorem coldRestart_changes (s : State) (im : Image) (choice : ForceChoice) :
    changesOnly [.unit .staged, .unit .own, .unit .exe, .unit .hz, .unit .fch, .unit .grd, .unit .gmu, .unit .pair, .unit .spr, .unit .cmd, .unit .net, .unit .can, .unit .sbk, .unit .sup, .ctr Reg.exeSnapMaxexec, .ctr Reg.gmuSnapSheds, .ctr Reg.grdSnapRef, .inForce Reg.fchAicfg, .inForce Reg.fchAocfg, .inForce Reg.fchAosafe, .inForce Reg.fchDicfg, .inForce Reg.fchDocfg, .inForce Reg.fchMode, .inForce Reg.fchPulsecfg, .inForce Reg.fchStopcfg, .inForce Reg.grdChload, .reg Reg.fchAicfg, .reg Reg.fchAocfg, .reg Reg.fchAosafe, .reg Reg.fchCtrl, .reg Reg.fchDicfg, .reg Reg.fchDocfg, .reg Reg.fchMode, .reg Reg.fchPulsecfg, .reg Reg.fchStopcfg, .reg Reg.grdChload, .flag Reg.canFlags 5, .flag Reg.cmdFlags 4, .flag Reg.gmuFlags 4, .flag Reg.grdFlags 1, .flag Reg.grdFlags 3, .flag Reg.hzFlags 1, .ctrsOf 2, .inForceOf 0xA, .inForceOf 5, .regsOf 0xA, .regsOf 5] s (coldRestart s im choice) := by
  unfold coldRestart
  repeat' first
    | with_reducible exact changesOnly.refl _ _
    | decide
    | (fail_if_no_progress (with_reducible apply changesOnly.step (k := exe_changes _ _)) <;> try first | decide)
    | with_reducible apply changesOnly.step (k := changeForces_changes _ _ _ _ _)
    | with_reducible apply changesOnly.step (k := coldData_changes _ _)
    | with_reducible apply changesOnly.step (k := unwriteOutputs_changes _)
    | with_reducible apply changesOnly.step (k := clearTasks_changes _)

theorem warmRestart_changes (s : State) (im : Image) (data : RetainData) (choice : ForceChoice) :
    changesOnly [.unit .staged, .unit .own, .unit .exe, .unit .hz, .unit .fch, .unit .grd, .unit .gmu, .unit .pair, .unit .spr, .unit .cmd, .unit .net, .unit .can, .unit .sbk, .unit .sup, .ctr Reg.exeSnapMaxexec, .ctr Reg.gmuSnapSheds, .ctr Reg.grdSnapRef, .inForce Reg.fchAicfg, .inForce Reg.fchAocfg, .inForce Reg.fchAosafe, .inForce Reg.fchDicfg, .inForce Reg.fchDocfg, .inForce Reg.fchMode, .inForce Reg.fchPulsecfg, .inForce Reg.fchStopcfg, .inForce Reg.grdChload, .reg Reg.fchAicfg, .reg Reg.fchAocfg, .reg Reg.fchAosafe, .reg Reg.fchCtrl, .reg Reg.fchDicfg, .reg Reg.fchDocfg, .reg Reg.fchMode, .reg Reg.fchPulsecfg, .reg Reg.fchStopcfg, .reg Reg.grdChload, .flag Reg.canFlags 5, .flag Reg.cmdFlags 4, .flag Reg.gmuFlags 4, .flag Reg.grdFlags 1, .flag Reg.grdFlags 3, .flag Reg.hzFlags 1, .ctrsOf 2, .inForceOf 0xA, .inForceOf 5, .regsOf 0xA, .regsOf 5] s (warmRestart s im data choice) := by
  unfold warmRestart
  repeat' first
    | with_reducible exact changesOnly.refl _ _
    | decide
    | (fail_if_no_progress (with_reducible apply changesOnly.step (k := exe_changes _ _)) <;> try first | decide)
    | with_reducible apply changesOnly.step (k := changeForces_changes _ _ _ _ _)
    | with_reducible apply changesOnly.step (k := warmData_changes _ _ _)
    | with_reducible apply changesOnly.step (k := unwriteOutputs_changes _)
    | with_reducible apply changesOnly.step (k := clearTasks_changes _)

theorem retainInvalid_changes (s : State) :
    changesOnly [.unit .cmd, .unit .sbk, .flag Reg.cmdFlags 4, .flag Reg.exeFlags 2] s (retainInvalid s) := by
  unfold retainInvalid
  repeat' first
    | with_reducible exact changesOnly.refl _ _
    | decide
    | with_reducible apply changesOnly.step (k := post_changes _ _ _ _ _ _)
    | with_reducible apply changesOnly.step (k := raise_changes _ _ _ _)

theorem stopWith_changes (s : State) (c : StopCause) :
    changesOnly [.unit .exe] s (stopWith s c) := by
  unfold stopWith
  repeat' first
    | with_reducible exact changesOnly.refl _ _
    | decide
    | (fail_if_no_progress (with_reducible apply changesOnly.step (k := exe_changes _ _)) <;> try first | decide)

theorem leaveInit_changes (s0 : State) :
    changesOnly [.unit .staged, .unit .own, .unit .exe, .unit .hz, .unit .fch, .unit .grd, .unit .gmu, .unit .pair, .unit .spr, .unit .cmd, .unit .net, .unit .can, .unit .sbk, .unit .sup, .ctr Reg.exeSnapMaxexec, .ctr Reg.gmuSnapSheds, .ctr Reg.grdSnapRef, .inForce Reg.fchAicfg, .inForce Reg.fchAocfg, .inForce Reg.fchAosafe, .inForce Reg.fchDicfg, .inForce Reg.fchDocfg, .inForce Reg.fchMode, .inForce Reg.fchPulsecfg, .inForce Reg.fchStopcfg, .inForce Reg.grdChload, .reg Reg.fchAicfg, .reg Reg.fchAocfg, .reg Reg.fchAosafe, .reg Reg.fchCtrl, .reg Reg.fchDicfg, .reg Reg.fchDocfg, .reg Reg.fchMode, .reg Reg.fchPulsecfg, .reg Reg.fchStopcfg, .reg Reg.grdChload, .flag Reg.canFlags 5, .flag Reg.cmdFlags 4, .flag Reg.exeFlags 2, .flag Reg.gmuFlags 4, .flag Reg.grdFlags 1, .flag Reg.grdFlags 3, .flag Reg.hzFlags 1, .ctrsOf 2, .inForceOf 0xA, .inForceOf 5, .regsOf 0xA, .regsOf 5] s0 (leaveInit s0) := by
  unfold leaveInit
  repeat' first
    | with_reducible exact changesOnly.refl _ _
    | decide
    | (fail_if_no_progress (with_reducible apply changesOnly.step (k := gmu_changes _ _)) <;> try first | decide)
    | (fail_if_no_progress (with_reducible apply changesOnly.step (k := exe_changes _ _)) <;> try first | decide)
    | with_reducible apply changesOnly.step (k := stopWith_changes _ _)
    | with_reducible apply changesOnly.step (k := warmRestart_changes _ _ _ _)
    | with_reducible apply changesOnly.step (k := retainInvalid_changes _)
    | with_reducible apply changesOnly.step (k := coldRestart_changes _ _ _)
    | with_reducible apply changesOnly.step (k := installImage_changes _ _ _)
    | dsimp only
    | split

theorem netRaise_changes (s : State) (n : Nat) :
    changesOnly [.flag Reg.netFlags n] s (netRaise s n) := by
  unfold netRaise
  repeat' first
    | with_reducible exact changesOnly.refl _ _
    | decide
    | with_reducible exact within_refl _
    | (simp [within, takesIn, Area.covers]; done)
    | with_reducible apply changesOnly.step (k := raise_changes _ _ _ _)

theorem modNet_changes (s : State) (p : Nat) (f : NetPort → NetPort) :
    changesOnly [.unit .net] s (modNet s p f) := by
  unfold modNet
  repeat' first
    | with_reducible exact changesOnly.refl _ _
    | decide
    | with_reducible apply changesOnly.step (k := setNetPort_changes _ _ _)

theorem followMaster_changes (s : State) (p : Nat) :
    changesOnly [.unit .net] s (followMaster s p) := by
  unfold followMaster
  repeat' first
    | with_reducible exact changesOnly.refl _ _
    | decide
    | with_reducible apply changesOnly.step (k := setNetPort_changes _ _ _)
    | dsimp only
    | split

theorem setPtpStates_changes (s : State) :
    changesOnly [.unit .net] s (setPtpStates s) := by
  unfold setPtpStates
  repeat' first
    | with_reducible exact changesOnly.refl _ _
    | decide
    | with_reducible apply changesOnly.step (k := modNet_changes _ _ _)
    | (with_reducible apply changesOnly.foldl; intro _ _)

theorem toHoldover_changes (s : State) (cause : Nat) :
    changesOnly [.unit .net, .flag Reg.netFlags 5] s (toHoldover s cause) := by
  unfold toHoldover
  repeat' first
    | with_reducible exact changesOnly.refl _ _
    | decide
    | (fail_if_no_progress (with_reducible apply changesOnly.step (k := net_changes _ _)) <;> try first | decide)
    | with_reducible apply changesOnly.step (k := netRaise_changes _ _)

theorem enterHoldover_changes (s : State) (cause : Nat) :
    changesOnly [.unit .net, .flag Reg.netFlags 5] s (enterHoldover s cause) := by
  unfold enterHoldover
  repeat' first
    | with_reducible exact changesOnly.refl _ _
    | decide
    | (fail_if_no_progress (with_reducible apply changesOnly.step (k := net_changes _ _)) <;> try first | decide)
    | with_reducible apply changesOnly.step (k := toHoldover_changes _ _)
    | dsimp only
    | split

theorem slaveLost_changes (s : State) (p : Nat) (cause : Nat) :
    changesOnly [.unit .net, .flag Reg.netFlags 5] s (slaveLost s p cause) := by
  unfold slaveLost
  repeat' first
    | with_reducible exact changesOnly.refl _ _
    | decide
    | (fail_if_no_progress (with_reducible apply changesOnly.step (k := net_changes _ _)) <;> try first | decide)
    | with_reducible apply changesOnly.step (k := enterHoldover_changes _ _)
    | dsimp only
    | split

theorem selectSlave_changes (s : State) :
    changesOnly [.unit .cmd, .unit .net, .unit .sbk, .flag Reg.cmdFlags 4, .flag Reg.netFlags 4, .flag Reg.netFlags 5] s (selectSlave s) := by
  unfold selectSlave
  repeat' first
    | with_reducible exact changesOnly.refl _ _
    | decide
    | (fail_if_no_progress (with_reducible apply changesOnly.step (k := net_changes _ _)) <;> try first | decide)
    | with_reducible apply changesOnly.step (k := followMaster_changes _ _)
    | with_reducible apply changesOnly.step (k := slaveLost_changes _ _ _)
    | with_reducible apply changesOnly.step (k := setPtpStates_changes _)
    | with_reducible apply changesOnly.step (k := post_changes _ _ _ _ _ _)
    | with_reducible apply changesOnly.step (k := netRaise_changes _ _)
    | (with_reducible apply changesOnly.foldl; intro _ _)
    | dsimp only
    | split

theorem rebaseTimers_changes (s : State) (d : Int) :
    changesOnly [.unit .exe, .flag Reg.exeFlags 3] s (rebaseTimers s d) := by
  unfold rebaseTimers
  repeat' first
    | with_reducible exact changesOnly.refl _ _
    | decide
    | (fail_if_no_progress (with_reducible apply changesOnly.step (k := exe_changes _ _)) <;> try first | decide)
    | with_reducible apply changesOnly.step (k := raise_changes _ _ _ _)

theorem countBy_changes (s : State) (a : Nat) (i : Nat) (n : Nat) :
    changesOnly [.ctr a] s (countBy s a i n) := by
  unfold countBy
  repeat' first
    | with_reducible exact changesOnly.refl _ _
    | decide
    | with_reducible exact within_refl _
    | (simp [within, takesIn, Area.covers]; done)
    | with_reducible apply changesOnly.step (k := setCounter_changes _ _ _ _)

theorem skipJumped_changes (s : State) (old : Nat) :
    changesOnly [.unit .exe, .ctr Reg.exeSnapSkip] s (skipJumped s old) := by
  unfold skipJumped
  repeat' first
    | with_reducible exact changesOnly.refl _ _
    | decide
    | with_reducible apply changesOnly.step (k := skipRelease_changes _ _ _ _)
    | (with_reducible apply changesOnly.foldl; intro _ _)
    | dsimp only
    | split

theorem postLate_changes (s : State) (p : Nat) (i : Nat) :
    changesOnly [.unit .cmd, .unit .net, .unit .sbk, .flag Reg.cmdFlags 4, .flag Reg.netFlags 8] s (postLate s p i) := by
  unfold postLate
  repeat' first
    | with_reducible exact changesOnly.refl _ _
    | decide
    | with_reducible apply changesOnly.step (k := netRaise_changes _ _)
    | with_reducible apply changesOnly.step (k := post_changes _ _ _ _ _ _)
    | with_reducible apply changesOnly.step (k := setNetPort_changes _ _ _)
    | dsimp only
    | split

theorem lateJumped_changes (s : State) (old : Nat) :
    changesOnly [.unit .cmd, .unit .net, .unit .sbk, .ctr Reg.netSnapTtlate, .flag Reg.cmdFlags 4, .flag Reg.netFlags 8] s (lateJumped s old) := by
  unfold lateJumped
  repeat' first
    | with_reducible exact changesOnly.refl _ _
    | decide
    | with_reducible apply changesOnly.step (k := postLate_changes _ _ _)
    | with_reducible apply changesOnly.step (k := countBy_changes _ _ _ _)
    | (with_reducible apply changesOnly.foldl; intro _ _)
    | dsimp only
    | split

theorem stepTime_changes (s : State) (d : Int) :
    changesOnly [.unit .now, .unit .exe, .unit .hz, .unit .fch, .unit .grd, .unit .gmu, .unit .cmd, .unit .net, .unit .can, .unit .sbk, .ctr Reg.exeSnapSkip, .ctr Reg.grdSnapRef, .ctr Reg.netSnapTtlate, .flag Reg.cmdFlags 4, .flag Reg.exeFlags 3, .flag Reg.gmuFlags 3, .flag Reg.gmuFlags 7, .flag Reg.grdFlags 1, .flag Reg.grdFlags 3, .flag Reg.netFlags 7, .flag Reg.netFlags 8] s (stepTime s d) := by
  unfold stepTime
  repeat' first
    | with_reducible exact changesOnly.refl _ _
    | decide
    | (fail_if_no_progress (with_reducible apply changesOnly.step (k := now_changes _ _)) <;> try first | decide)
    | (fail_if_no_progress (with_reducible apply changesOnly.step (k := exe_hz_changes _ _ _)) <;> try first | decide)
    | (fail_if_no_progress (with_reducible apply changesOnly.step (k := net_changes _ _)) <;> try first | decide)
    | with_reducible apply changesOnly.step (k := gmuTimeStep_changes _)
    | with_reducible apply changesOnly.step (k := rebaseTimers_changes _ _)
    | with_reducible apply changesOnly.step (k := lateJumped_changes _ _)
    | with_reducible apply changesOnly.step (k := skipJumped_changes _ _)
    | with_reducible apply changesOnly.step (k := modNet_changes _ _ _)
    | with_reducible apply changesOnly.step (k := modPort_changes _ _ _)
    | with_reducible apply changesOnly.step (k := post_changes _ _ _ _ _ _)
    | with_reducible apply changesOnly.step (k := netRaise_changes _ _)
    | with_reducible apply changesOnly.step (k := concludeAll_changes _ _ _ _ _)
    | (with_reducible apply changesOnly.foldl; intro _ _)

theorem acceptStep_changes (s : State) (d : Int) :
    changesOnly [.unit .free, .unit .now, .unit .exe, .unit .hz, .unit .fch, .unit .grd, .unit .gmu, .unit .pair, .unit .cmd, .unit .net, .unit .can, .unit .sbk, .ctr Reg.exeSnapSkip, .ctr Reg.grdSnapRef, .ctr Reg.netSnapTtlate, .flag Reg.cmdFlags 4, .flag Reg.exeFlags 3, .flag Reg.gmuFlags 3, .flag Reg.gmuFlags 7, .flag Reg.grdFlags 1, .flag Reg.grdFlags 3, .flag Reg.netFlags 7, .flag Reg.netFlags 8] s (acceptStep s d) := by
  unfold acceptStep
  repeat' first
    | with_reducible exact changesOnly.refl _ _
    | decide
    | (fail_if_no_progress (with_reducible apply changesOnly.step (k := net_changes _ _)) <;> try first | decide)
    | with_reducible apply changesOnly.step (k := send_changes _ _)
    | with_reducible apply changesOnly.step (k := freeNext_changes _)
    | with_reducible apply changesOnly.step (k := stepTime_changes _ _)
    | dsimp only
    | split

theorem canPost_changes (s : State) (e : Event) (p : Nat) :
    changesOnly [.unit .cmd, .unit .sbk, .flag Reg.cmdFlags 4] s (canPost s e p) := by
  unfold canPost
  repeat' first
    | with_reducible exact changesOnly.refl _ _
    | decide
    | with_reducible apply changesOnly.step (k := post_changes _ _ _ _ _ _)

theorem canBusOff_changes (s : State) (p : Nat) :
    changesOnly [.unit .cmd, .unit .can, .unit .sbk, .flag Reg.canFlags 1, .flag Reg.cmdFlags 4] s (canBusOff s p) := by
  unfold canBusOff
  repeat' first
    | with_reducible exact changesOnly.refl _ _
    | decide
    | with_reducible apply changesOnly.step (k := canPost_changes _ _ _)
    | with_reducible apply changesOnly.step (k := canRaise_changes _ _ _)
    | with_reducible apply changesOnly.step (k := modPort_changes _ _ _)

theorem canErrorStates_changes (s : State) (p : Nat) :
    changesOnly [.unit .cmd, .unit .can, .unit .sbk, .flag Reg.canFlags 0, .flag Reg.canFlags 1, .flag Reg.canFlags 9, .flag Reg.cmdFlags 4] s (canErrorStates s p) := by
  unfold canErrorStates
  repeat' first
    | with_reducible exact changesOnly.refl _ _
    | decide
    | with_reducible apply changesOnly.step (k := setPort_changes _ _ _)
    | with_reducible apply changesOnly.step (k := canPost_changes _ _ _)
    | with_reducible apply changesOnly.step (k := canRaise_changes _ _ _)
    | with_reducible apply changesOnly.step (k := canBusOff_changes _ _)
    | dsimp only
    | split

theorem canCount_changes (s : State) (p : Nat) (tec : Nat) (recv : Nat) :
    changesOnly [.unit .cmd, .unit .can, .unit .sbk, .flag Reg.canFlags 0, .flag Reg.canFlags 1, .flag Reg.canFlags 9, .flag Reg.cmdFlags 4] s (canCount s p tec recv) := by
  unfold canCount
  repeat' first
    | with_reducible exact changesOnly.refl _ _
    | decide
    | with_reducible apply changesOnly.step (k := canErrorStates_changes _ _)
    | with_reducible apply changesOnly.step (k := modPort_changes _ _ _)

theorem canErrorSeen_changes (s : State) (p : Nat) (e : BusError) :
    changesOnly [.unit .cmd, .unit .can, .unit .sbk, .ctr Reg.canSnapErr, .flag Reg.canFlags 0, .flag Reg.canFlags 1, .flag Reg.canFlags 9, .flag Reg.cmdFlags 4] s (canErrorSeen s p e) := by
  unfold canErrorSeen
  repeat' first
    | with_reducible exact changesOnly.refl _ _
    | decide
    | with_reducible apply changesOnly.step (k := modPort_changes _ _ _)
    | with_reducible apply changesOnly.step (k := countUp_changes _ _ _)
    | with_reducible apply changesOnly.step (k := canCount_changes _ _ _ _)
    | dsimp only
    | split

theorem sendOutcome_changes (s : State) (p : Nat) (e : TxEntry) (outcome : Nat) :
    changesOnly [.unit .cmd] s (sendOutcome s p e outcome) := by
  unfold sendOutcome
  repeat' first
    | with_reducible exact changesOnly.refl _ _
    | decide
    | with_reducible apply changesOnly.step (k := concludeAll_changes _ _ _ _ _)
    | dsimp only
    | split

theorem releaseBuffer_changes (s : State) (p : Nat) (b : Nat) (e : TxEntry) (outcome : Nat) :
    changesOnly [.unit .cmd, .unit .can] s (releaseBuffer s p b e outcome) := by
  unfold releaseBuffer
  repeat' first
    | with_reducible exact changesOnly.refl _ _
    | decide
    | with_reducible apply changesOnly.step (k := sendOutcome_changes _ _ _ _)
    | with_reducible apply changesOnly.step (k := modPort_changes _ _ _)

theorem retryBuffer_changes (s : State) (p : Nat) (b : Nat) (outcome : Nat) :
    changesOnly [.unit .can] s (retryBuffer s p b outcome) := by
  unfold retryBuffer
  repeat' first
    | with_reducible exact changesOnly.refl _ _
    | decide
    | with_reducible apply changesOnly.step (k := modPort_changes _ _ _)

theorem canSent_changes (s : State) (p : Nat) (b : Nat) (e : TxEntry) (sof : Nat) (loopDelay : Nat) :
    changesOnly [.unit .cmd, .unit .can, .unit .sbk, .ctr Reg.canSnapTx, .flag Reg.canFlags 0, .flag Reg.canFlags 1, .flag Reg.canFlags 9, .flag Reg.cmdFlags 4] s (canSent s p b e sof loopDelay) := by
  unfold canSent
  repeat' first
    | with_reducible exact changesOnly.refl _ _
    | decide
    | with_reducible apply changesOnly.step (k := canCount_changes _ _ _ _)
    | with_reducible apply changesOnly.step (k := releaseBuffer_changes _ _ _ _ _)
    | with_reducible apply changesOnly.step (k := countUp_changes _ _ _)
    | with_reducible apply changesOnly.step (k := setPort_changes _ _ _)

theorem canNoAck_changes (s : State) (p : Nat) (b : Nat) (e : TxEntry) (sof : Nat) (loopDelay : Nat) (dominant : Bool) :
    changesOnly [.unit .cmd, .unit .can, .unit .sbk, .ctr Reg.canSnapErr, .flag Reg.canFlags 0, .flag Reg.canFlags 1, .flag Reg.canFlags 3, .flag Reg.canFlags 9, .flag Reg.cmdFlags 4] s (canNoAck s p b e sof loopDelay dominant) := by
  unfold canNoAck
  repeat' first
    | with_reducible exact changesOnly.refl _ _
    | decide
    | with_reducible apply changesOnly.step (k := countUp_changes _ _ _)
    | with_reducible apply changesOnly.step (k := setPort_changes _ _ _)
    | with_reducible apply changesOnly.step (k := canPost_changes _ _ _)
    | with_reducible apply changesOnly.step (k := canRaise_changes _ _ _)
    | with_reducible apply changesOnly.step (k := releaseBuffer_changes _ _ _ _ _)
    | with_reducible apply changesOnly.step (k := retryBuffer_changes _ _ _ _)
    | with_reducible apply changesOnly.step (k := canCount_changes _ _ _ _)
    | dsimp only
    | split

theorem canTxError_changes (s : State) (p : Nat) (b : Nat) (e : TxEntry) (loopDelay : Nat) (k : BusError) :
    changesOnly [.unit .cmd, .unit .can, .unit .sbk, .ctr Reg.canSnapErr, .flag Reg.canFlags 0, .flag Reg.canFlags 1, .flag Reg.canFlags 9, .flag Reg.cmdFlags 4] s (canTxError s p b e loopDelay k) := by
  unfold canTxError
  repeat' first
    | with_reducible exact changesOnly.refl _ _
    | decide
    | with_reducible apply changesOnly.step (k := countUp_changes _ _ _)
    | with_reducible apply changesOnly.step (k := setPort_changes _ _ _)
    | with_reducible apply changesOnly.step (k := releaseBuffer_changes _ _ _ _ _)
    | with_reducible apply changesOnly.step (k := retryBuffer_changes _ _ _ _)
    | with_reducible apply changesOnly.step (k := canCount_changes _ _ _ _)
    | dsimp only
    | split

theorem canLostArb_changes (s : State) (p : Nat) (b : Nat) (e : TxEntry) :
    changesOnly [.unit .cmd, .unit .can] s (canLostArb s p b e) := by
  unfold canLostArb
  repeat' first
    | with_reducible exact changesOnly.refl _ _
    | decide
    | with_reducible apply changesOnly.step (k := modPort_changes _ _ _)
    | with_reducible apply changesOnly.step (k := releaseBuffer_changes _ _ _ _ _)
    | with_reducible apply changesOnly.step (k := retryBuffer_changes _ _ _ _)
    | dsimp only
    | split

theorem fifoPush_changes (s : State) (p : Nat) (record : List Byte) :
    changesOnly [.unit .cmd, .unit .can, .unit .sbk, .ctr Reg.canSnapOvr, .flag Reg.canFlags 4, .flag Reg.cmdFlags 4] s (fifoPush s p record) := by
  unfold fifoPush
  repeat' first
    | with_reducible exact changesOnly.refl _ _
    | decide
    | with_reducible apply changesOnly.step (k := setPort_changes _ _ _)
    | with_reducible apply changesOnly.step (k := canRaise_changes _ _ _)
    | with_reducible apply changesOnly.step (k := countUp_changes _ _ _)
    | with_reducible apply changesOnly.step (k := canPost_changes _ _ _)
    | with_reducible apply changesOnly.step (k := modPort_changes _ _ _)
    | dsimp only
    | split

theorem canFilter_changes (s : State) (p : Nat) (f : CanFrame) (sof : Nat) :
    changesOnly [.unit .exe, .unit .cmd, .unit .can, .unit .sbk, .ctr Reg.canSnapOvr, .flag Reg.canFlags 4, .flag Reg.cmdFlags 4] s (canFilter s p f sof) := by
  unfold canFilter
  repeat' first
    | with_reducible exact changesOnly.refl _ _
    | decide
    | with_reducible apply changesOnly.step (k := fifoPush_changes _ _ _)
    | with_reducible apply changesOnly.step (k := areaPut_changes _ _ _)
    | with_reducible apply changesOnly.step (k := setPort_changes _ _ _)
    | dsimp only
    | split

theorem becomeBackup_changes (s : State) (p : Nat) :
    changesOnly [.unit .can] s (becomeBackup s p) := by
  unfold becomeBackup
  repeat' first
    | with_reducible exact changesOnly.refl _ _
    | decide
    | with_reducible apply changesOnly.step (k := modPort_changes _ _ _)

theorem hearReference_changes (s : State) (p : Nat) (q : Nat) (f : CanFrame) (sof : Nat) :
    changesOnly [.unit .can] s (hearReference s p q f sof) := by
  unfold hearReference
  repeat' first
    | with_reducible exact changesOnly.refl _ _
    | decide
    | with_reducible apply changesOnly.step (k := setPort_changes _ _ _)

theorem onReference_changes (s : State) (p : Nat) (q : Nat) (f : CanFrame) (sof : Nat) :
    changesOnly [.unit .cmd, .unit .can, .unit .sbk, .flag Reg.canFlags 7, .flag Reg.cmdFlags 4] s (onReference s p q f sof) := by
  unfold onReference
  repeat' first
    | with_reducible exact changesOnly.refl _ _
    | decide
    | with_reducible apply changesOnly.step (k := hearReference_changes _ _ _ _ _)
    | with_reducible apply changesOnly.step (k := becomeBackup_changes _ _)
    | with_reducible apply changesOnly.step (k := modPort_changes _ _ _)
    | with_reducible apply changesOnly.step (k := canPost_changes _ _ _)
    | with_reducible apply changesOnly.step (k := canRaise_changes _ _ _)
    | dsimp only
    | split

theorem canReceive_changes (s : State) (p : Nat) (f : CanFrame) (sof : Nat) :
    changesOnly [.unit .free, .unit .exe, .unit .cmd, .unit .can, .unit .sbk, .ctr Reg.canSnapOvr, .ctr Reg.canSnapRx, .flag Reg.canFlags 0, .flag Reg.canFlags 1, .flag Reg.canFlags 4, .flag Reg.canFlags 7, .flag Reg.canFlags 9, .flag Reg.cmdFlags 4] s (canReceive s p f sof) := by
  unfold canReceive
  repeat' first
    | with_reducible exact changesOnly.refl _ _
    | decide
    | with_reducible apply changesOnly.step (k := countUp_changes _ _ _)
    | with_reducible apply changesOnly.step (k := freeNext_changes _)
    | with_reducible apply changesOnly.step (k := canCount_changes _ _ _ _)
    | with_reducible apply changesOnly.step (k := modPort_changes _ _ _)
    | with_reducible apply changesOnly.step (k := onReference_changes _ _ _ _ _)
    | with_reducible apply changesOnly.step (k := canFilter_changes _ _ _ _)
    | dsimp only
    | split

theorem protocolException_changes (s : State) (p : Nat) :
    changesOnly [.unit .can, .flag Reg.canFlags 10] s (protocolException s p) := by
  unfold protocolException
  repeat' first
    | with_reducible exact changesOnly.refl _ _
    | decide
    | with_reducible apply changesOnly.step (k := canRaise_changes _ _ _)
    | with_reducible apply changesOnly.step (k := modPort_changes _ _ _)

theorem fifoPop_changes (s : State) (p : Nat) :
    changesOnly [.unit .can] s (fifoPop s p) := by
  unfold fifoPop
  repeat' first
    | with_reducible exact changesOnly.refl _ _
    | decide
    | with_reducible apply changesOnly.step (k := modPort_changes _ _ _)

theorem startRecovery_changes (s : State) (p : Nat) :
    changesOnly [.unit .can] s (startRecovery s p) := by
  unfold startRecovery
  repeat' first
    | with_reducible exact changesOnly.refl _ _
    | decide
    | with_reducible apply changesOnly.step (k := setPort_changes _ _ _)
    | dsimp only
    | split

theorem abortBuffers_changes (s : State) (p : Nat) :
    changesOnly [.unit .cmd, .unit .can] s (abortBuffers s p) := by
  unfold abortBuffers
  repeat' first
    | with_reducible exact changesOnly.refl _ _
    | decide
    | with_reducible apply changesOnly.step (k := releaseBuffer_changes _ _ _ _ _)
    | (with_reducible apply changesOnly.foldl; intro _ _)
    | dsimp only
    | split

theorem becomeMaster_changes (s : State) (p : Nat) :
    changesOnly [.unit .cmd, .unit .can, .unit .sbk, .flag Reg.canFlags 6, .flag Reg.cmdFlags 4] s (becomeMaster s p) := by
  unfold becomeMaster
  repeat' first
    | with_reducible exact changesOnly.refl _ _
    | decide
    | with_reducible apply changesOnly.step (k := canPost_changes _ _ _)
    | with_reducible apply changesOnly.step (k := canRaise_changes _ _ _)
    | with_reducible apply changesOnly.step (k := setPort_changes _ _ _)

theorem dropStale_changes (s : State) (p : Nat) :
    changesOnly [.unit .cmd, .unit .can] s (dropStale s p) := by
  unfold dropStale
  repeat' first
    | with_reducible exact changesOnly.refl _ _
    | decide
    | with_reducible apply changesOnly.step (k := sendOutcome_changes _ _ _ _)
    | with_reducible apply changesOnly.step (k := setPort_changes _ _ _)
    | (with_reducible apply changesOnly.foldl; intro _ _)

theorem canTake_changes (s : State) (p : Nat) :
    changesOnly [.unit .cmd, .unit .can, .unit .sbk, .flag Reg.canFlags 6, .flag Reg.cmdFlags 4] s (canTake s p) := by
  unfold canTake
  repeat' first
    | with_reducible exact changesOnly.refl _ _
    | decide
    | with_reducible apply changesOnly.step (k := modPort_changes _ _ _)
    | with_reducible apply changesOnly.step (k := dropStale_changes _ _)
    | with_reducible apply changesOnly.step (k := queueObject_changes _ _ _)
    | with_reducible apply changesOnly.step (k := becomeMaster_changes _ _)
    | (with_reducible apply changesOnly.foldl; intro _ _)
    | dsimp only
    | split

theorem canTakeover_changes (s : State) :
    changesOnly [.unit .cmd, .unit .can, .unit .sbk, .flag Reg.canFlags 6, .flag Reg.cmdFlags 4] s (canTakeover s) := by
  unfold canTakeover
  repeat' first
    | with_reducible exact changesOnly.refl _ _
    | decide
    | with_reducible apply changesOnly.step (k := canTake_changes _ _)
    | (with_reducible apply changesOnly.foldl; intro _ _)

theorem canEnable_changes (s : State) (p : Nat) (old : Word) (new : Word) :
    changesOnly [.unit .exe, .unit .fch, .unit .grd, .unit .spr, .unit .cmd, .unit .net, .unit .can, .unit .sbk, .unit .pnl, .unit .sup, .ctr Reg.grdSnapRef, .ctr Reg.pnlSnapRef, .flag Reg.grdFlags 1, .flag Reg.grdFlags 3, .flag Reg.memFlags 6, .flag Reg.pnlFlags 3] s (canEnable s p old new) := by
  unfold canEnable
  repeat' first
    | with_reducible exact changesOnly.refl _ _
    | decide
    | (fail_if_no_progress (with_reducible apply changesOnly.step (k := grd_changes _ _)) <;> try first | decide)
    | with_reducible apply changesOnly.step (k := askLogic_changes _ _ _ _ _ _)
    | with_reducible apply changesOnly.step (k := modPort_changes _ _ _)
    | with_reducible apply changesOnly.step (k := endClaim_changes _ _)
    | dsimp only
    | split

theorem canRole_changes (s : State) (p : Nat) (old : Word) (new : Word) :
    changesOnly [.unit .can] s (canRole s p old new) := by
  unfold canRole
  repeat' first
    | with_reducible exact changesOnly.refl _ _
    | decide
    | with_reducible apply changesOnly.step (k := modPort_changes _ _ _)
    | dsimp only
    | split

theorem canApplyOne_changes (p : Nat) (nbt dbt : Option Word) (x : State × Bool) (k : Nat × Word) (hk : windowOf k.1 = 0xA) :
    changesOnly [.unit .staged, .unit .exe, .unit .fch, .unit .grd, .unit .spr, .unit .cmd, .unit .net, .unit .can, .unit .sbk, .unit .pnl, .unit .sup, .ctr Reg.grdSnapRef, .ctr Reg.pnlSnapRef, .reg Reg.canApply, .flag Reg.canFlags 5, .flag Reg.grdFlags 1, .flag Reg.grdFlags 3, .flag Reg.memFlags 6, .flag Reg.pnlFlags 3, .inForceOf 0xA] x.1 (canApplyOne p nbt dbt x k).1 := by
  unfold canApplyOne
  dsimp only
  have hc : within [.inForce (k.1 % 1048576)] [.unit .staged, .unit .exe, .unit .fch, .unit .grd, .unit .spr, .unit .cmd, .unit .net, .unit .can, .unit .sbk, .unit .pnl, .unit .sup, .ctr Reg.grdSnapRef, .ctr Reg.pnlSnapRef, .reg Reg.canApply, .flag Reg.canFlags 5, .flag Reg.grdFlags 1, .flag Reg.grdFlags 3, .flag Reg.memFlags 6, .flag Reg.pnlFlags 3, .inForceOf 0xA] = true := by
    have : windowOf (k.1 % 1048576) = 10 := by simpa [windowOf] using hk
    simp [within, takesIn, Area.covers, this]
  split
  · dsimp only
    split
    · exact ((setCfg_changes _ _ _ _).mono hc).step (canEnable_changes _ _ _ _) (by decide)
    · split
      · exact ((setCfg_changes _ _ _ _).mono hc).step (canRole_changes _ _ _ _) (by decide)
      · exact (setCfg_changes _ _ _ _).mono hc
  · exact (canRaise_changes _ _ _).mono (by decide)

theorem canApply_changes (s : State) (p : Nat) : changesOnly [.unit .staged, .unit .exe, .unit .fch, .unit .grd, .unit .spr, .unit .cmd, .unit .net, .unit .can, .unit .sbk, .unit .pnl, .unit .sup, .ctr Reg.grdSnapRef, .ctr Reg.pnlSnapRef, .reg Reg.canApply, .flag Reg.canFlags 5, .flag Reg.grdFlags 1, .flag Reg.grdFlags 3, .flag Reg.memFlags 6, .flag Reg.pnlFlags 3, .inForceOf 0xA] s (canApply s p) := by
  have key : ∀ nbt dbt, changesOnly [.unit .staged, .unit .exe, .unit .fch, .unit .grd, .unit .spr, .unit .cmd, .unit .net, .unit .can, .unit .sbk, .unit .pnl, .unit .sup, .ctr Reg.grdSnapRef, .ctr Reg.pnlSnapRef, .reg Reg.canApply, .flag Reg.canFlags 5, .flag Reg.grdFlags 1, .flag Reg.grdFlags 3, .flag Reg.memFlags 6, .flag Reg.pnlFlags 3, .inForceOf 0xA] s
      ((s.staged.filter (fun k => decide (k.1 % 1048576 / 65536 = 0xA) && decide (k.1 / 1048576 = p))).foldl (canApplyOne p nbt dbt)
        ({ s with staged := s.staged.filter (fun k => !(decide (k.1 % 1048576 / 65536 = 0xA) && decide (k.1 / 1048576 = p))) },
          false)).1 := by
    intro nbt dbt
    refine changesOnly.foldl_fst_mem (fun x k hk => canApplyOne_changes p nbt dbt x k ?_) _ ((staged_changes s _).mono (by decide))
    simp only [List.mem_filter, Bool.and_eq_true, decide_eq_true_eq] at hk
    exact hk.2.1
  unfold canApply
  dsimp only
  split
  · exact ((key _ _).step (bumpApply_changes _ _ _) (by decide)).step (canFeed_changes _ _) (by decide)
  · exact key _ _

theorem clearWindow_changes (s : State) (w : Nat) :
    changesOnly [.unit .staged, .unit .snaps, .regsOf w, .inForceOf w, .ctrsOf w] s (clearWindow s w) := by
  have key : ∀ {α : Type} (d : Nat → α) (m : Store α) (k : Nat), k % 1048576 / 65536 ≠ w →
      storeGet d (m.filter (fun q => decide (q.1 % 1048576 / 65536 ≠ w))) k = storeGet d m k := by
    intro α d m k hk
    induction m with
    | nil => rfl
    | cons q m ih =>
      obtain ⟨j, v⟩ := q
      by_cases hj : j % 1048576 / 65536 = w
      · have : k ≠ j := fun e => hk (e ▸ hj)
        simpa [hj, storeGet, this] using ih
      · by_cases e : k = j <;> simp_all [storeGet]
  have hw : ∀ a i, windowOf a ≠ w → rkey a i % 1048576 / 65536 ≠ w := by
    intro a i h
    rwa [rkey_mod]
  intro p hp
  cases p with
  | unit u => cases u <;> first | rfl | (simp [Area.has] at hp)
  | regBit a n =>
    intro i
    have := key regDefault s.regs (rkey a i) (hw a i (by simpa [Area.has] using hp))
    simp only [reg, clearWindow, this]
  | inForce a =>
    intro i
    exact key regDefault s.active (rkey a i) (hw a i (by simpa [Area.has] using hp))
  | ctr a =>
    intro i
    exact key (fun _ => 0) s.ctrs (rkey a i) (hw a i (by simpa [Area.has] using hp))

theorem canIslandReset_changes (s : State) :
    changesOnly [.unit .staged, .unit .snaps, .unit .exe, .unit .fch, .unit .grd, .unit .spr, .unit .cmd, .unit .net, .unit .can, .unit .sbk, .unit .pnl, .unit .sup, .ctr Reg.grdSnapRef, .ctr Reg.pnlSnapRef, .flag Reg.canFlags 5, .flag Reg.grdFlags 1, .flag Reg.grdFlags 3, .flag Reg.memFlags 6, .flag Reg.pnlFlags 3, .ctrsOf 0xA, .inForceOf 0xA, .regsOf 0xA] s (canIslandReset s) := by
  unfold canIslandReset
  repeat' first
    | with_reducible exact changesOnly.refl _ _
    | decide
    | (fail_if_no_progress (with_reducible apply changesOnly.step (k := grd_can_changes _ _ _)) <;> try first | decide)
    | with_reducible apply changesOnly.step (k := clearWindow_changes _ _)
    | with_reducible apply changesOnly.step (k := modPort_changes _ _ _)
    | with_reducible apply changesOnly.step (k := installCan_changes _ _)
    | with_reducible apply changesOnly.step (k := canApply_changes _ _)
    | (with_reducible apply changesOnly.foldl; intro _ _)
    | dsimp only
    | split

theorem truRaise_changes (s : State) (n : Nat) :
    changesOnly [.flag Reg.truFlags n] s (truRaise s n) := by
  unfold truRaise
  repeat' first
    | with_reducible exact changesOnly.refl _ _
    | decide
    | with_reducible exact within_refl _
    | (simp [within, takesIn, Area.covers]; done)
    | with_reducible apply changesOnly.step (k := raise_changes _ _ _ _)

theorem verifyImage_changes (s : State) (im : Image) :
    changesOnly [.unit .cmd, .unit .sbk, .ctr Reg.truSnapFail, .ctr Reg.truSnapVerify, .flag Reg.cmdFlags 4, .flag Reg.truFlags 0] s (verifyImage s im) := by
  unfold verifyImage
  repeat' first
    | with_reducible exact changesOnly.refl _ _
    | decide
    | with_reducible apply changesOnly.step (k := countUp_changes _ _ _)
    | with_reducible apply changesOnly.step (k := post_changes _ _ _ _ _ _)
    | with_reducible apply changesOnly.step (k := truRaise_changes _ _)
    | dsimp only
    | split

theorem trustChecks_changes (s : State) (im : Image) (outcome : Option (Code × Nat × Nat)) :
    changesOnly [.unit .cmd, .unit .sbk, .ctr Reg.truSnapFail, .ctr Reg.truSnapVerify, .flag Reg.cmdFlags 4, .flag Reg.truFlags 0, .flag Reg.truFlags 1] s (trustChecks s im outcome) := by
  unfold trustChecks
  repeat' first
    | with_reducible exact changesOnly.refl _ _
    | decide
    | with_reducible apply changesOnly.step (k := verifyImage_changes _ _)
    | with_reducible apply changesOnly.step (k := truRaise_changes _ _)
    | dsimp only
    | split

theorem closeSession_changes (s : State) (slot : Nat) :
    changesOnly [.unit .exe, .unit .wnt, .unit .cmd, .unit .sbk, .flag Reg.cmdFlags 4] s (closeSession s slot) := by
  unfold closeSession
  repeat' first
    | with_reducible exact changesOnly.refl _ _
    | decide
    | (fail_if_no_progress (with_reducible apply changesOnly.step (k := exe_cmd_changes _ _ _)) <;> try first | decide)
    | with_reducible apply changesOnly.step (k := discardPending_changes _ _)
    | dsimp only
    | split

theorem closeSessions_changes (s : State) (p : Session → Bool) :
    changesOnly [.unit .exe, .unit .wnt, .unit .cmd, .unit .sbk, .flag Reg.cmdFlags 4] s (closeSessions s p) := by
  unfold closeSessions
  repeat' first
    | with_reducible exact changesOnly.refl _ _
    | decide
    | with_reducible apply changesOnly.step (k := closeSession_changes _ _)
    | (with_reducible apply changesOnly.foldl; intro _ _)

theorem dateUnchecked_changes (s : State) :
    changesOnly [.unit .cmd, .unit .sbk, .flag Reg.cmdFlags 4, .flag Reg.truFlags 5] s (dateUnchecked s) := by
  unfold dateUnchecked
  repeat' first
    | with_reducible exact changesOnly.refl _ _
    | decide
    | with_reducible apply changesOnly.step (k := post_changes _ _ _ _ _ _)
    | with_reducible apply changesOnly.step (k := truRaise_changes _ _)
    | dsimp only
    | split

theorem refusePacket_changes (s : State) (slot : Nat) (h : Header) (code : Code) (wh : Nat) :
    changesOnly [.unit .cmd, .ctr Reg.cmdSnapRefused, .flag Reg.cmdFlags 3, .codeFlag code] s (refusePacket s slot h code wh) := by
  unfold refusePacket
  repeat' first
    | with_reducible exact changesOnly.refl _ _
    | decide
    | with_reducible exact within_refl _
    | (simp [within, takesIn, Area.covers]; done)
    | (fail_if_no_progress (with_reducible apply changesOnly.step (k := cmd_changes _ _)) <;> try first | decide | simp [within, takesIn, Area.covers])
    | with_reducible apply changesOnly.step (k := flagCode_changes _ _)
    | with_reducible apply changesOnly.step (k := raise_changes _ _ _ _)
    | with_reducible apply changesOnly.step (k := countUp_changes _ _ _)
    | dsimp only
    | split

theorem queuePacket_changes (s : State) (slot : Nat) (h : Header) (payload : List Byte) :
    changesOnly [.unit .cmd, .ctr Reg.cmdSnapRx] s (queuePacket s slot h payload) := by
  unfold queuePacket
  repeat' first
    | with_reducible exact changesOnly.refl _ _
    | decide
    | (fail_if_no_progress (with_reducible apply changesOnly.step (k := cmd_changes _ _)) <;> try first | decide)
    | with_reducible apply changesOnly.step (k := countUp_changes _ _ _)

theorem openService_changes (s : State) :
    changesOnly [.unit .cmd] s (openService s) := by
  unfold openService
  repeat' first
    | with_reducible exact changesOnly.refl _ _
    | decide
    | (fail_if_no_progress (with_reducible apply changesOnly.step (k := cmd_changes _ _)) <;> try first | decide)
    | dsimp only
    | split

theorem takePacket_changes (s : State) (slot : Nat) (h : Header) (p : List Byte) :
    changesOnly [.unit .cmd, .ctr Reg.cmdSnapRefused, .ctr Reg.cmdSnapRx, .flag Reg.cmdFlags 1, .flag Reg.cmdFlags 2, .flag Reg.cmdFlags 3] s (takePacket s slot h p) := by
  unfold takePacket
  repeat' first
    | with_reducible exact changesOnly.refl _ _
    | decide
    | ((with_reducible (show within _ _ = true)); rfl)
    | (fail_if_no_progress (with_reducible apply changesOnly.step (k := cmd_changes _ _)) <;> try first | decide)
    | with_reducible apply changesOnly.step (k := refusePacket_changes _ _ _ _ _)
    | with_reducible apply changesOnly.step (k := queuePacket_changes _ _ _ _)
    | dsimp only
    | split

theorem takeFrame_changes (s : State) (packet : List Byte) :
    changesOnly [.unit .cmd, .ctr Reg.cmdSnapRefused, .ctr Reg.cmdSnapRx, .flag Reg.cmdFlags 0, .flag Reg.cmdFlags 1, .flag Reg.cmdFlags 2, .flag Reg.cmdFlags 3] s (takeFrame s packet) := by
  unfold takeFrame
  repeat' first
    | with_reducible exact changesOnly.refl _ _
    | decide
    | ((with_reducible (show within _ _ = true)); rfl)
    | with_reducible apply changesOnly.step (k := raise_changes _ _ _ _)
    | with_reducible apply changesOnly.step (k := refusePacket_changes _ _ _ _ _)
    | with_reducible apply changesOnly.step (k := takePacket_changes _ _ _ _)
    | with_reducible apply changesOnly.step (k := openService_changes _)
    | dsimp only
    | split

theorem startQueue_changes (s : State) (q : Nat) (starts : Nat) :
    changesOnly [.unit .cmd] s (startQueue s q starts) := by
  unfold startQueue
  repeat' first
    | with_reducible exact changesOnly.refl _ _
    | decide
    | (fail_if_no_progress (with_reducible apply changesOnly.step (k := cmd_changes _ _)) <;> try first | decide)
    | dsimp only
    | split

theorem sprRaise_changes (s : State) (n : Nat) :
    changesOnly [.flag Reg.sprFlags n] s (sprRaise s n) := by
  unfold sprRaise
  repeat' first
    | with_reducible exact changesOnly.refl _ _
    | decide
    | with_reducible exact within_refl _
    | (simp [within, takesIn, Area.covers]; done)
    | with_reducible apply changesOnly.step (k := raise_changes _ _ _ _)

theorem exhausted_changes (s : State) (kind : Nat) :
    changesOnly [.unit .cmd, .unit .sbk, .flag Reg.cmdFlags 4, .flag Reg.sprFlags 2] s (exhausted s kind) := by
  unfold exhausted
  repeat' first
    | with_reducible exact changesOnly.refl _ _
    | decide
    | with_reducible apply changesOnly.step (k := post_changes _ _ _ _ _ _)
    | with_reducible apply changesOnly.step (k := sprRaise_changes _ _)

theorem writeSproutRecord_changes (s : State) :
    changesOnly [.unit .exe, .unit .grd, .unit .spr, .unit .net, .unit .sup] s (writeSproutRecord s) := by
  unfold writeSproutRecord
  repeat' first
    | with_reducible exact changesOnly.refl _ _
    | decide
    | with_reducible apply changesOnly.step (k := askWrite_changes _ _ _ _)

theorem sprouted_changes (s : State) :
    changesOnly [.unit .exe, .unit .grd, .unit .spr, .unit .net, .unit .sup, .ctr Reg.sprSnapSprouts, .flag Reg.sprFlags 0] s (sprouted s) := by
  unfold sprouted
  repeat' first
    | with_reducible exact changesOnly.refl _ _
    | decide
    | (fail_if_no_progress (with_reducible apply changesOnly.step (k := spr_changes _ _)) <;> try first | decide)
    | with_reducible apply changesOnly.step (k := writeSproutRecord_changes _)
    | with_reducible apply changesOnly.step (k := countUp_changes _ _ _)
    | with_reducible apply changesOnly.step (k := sprRaise_changes _ _)

theorem queueSprout_changes (s : State) (c : Nat) (asked : Bool) :
    changesOnly [.unit .spr] s (queueSprout s c asked) := by
  unfold queueSprout
  repeat' first
    | with_reducible exact changesOnly.refl _ _
    | decide
    | (fail_if_no_progress (with_reducible apply changesOnly.step (k := spr_changes _ _)) <;> try first | decide)
    | dsimp only
    | split

theorem failChannel_changes (s : State) (c : Nat) :
    changesOnly [.unit .fch, .flag Reg.fchFlags 0] s (failChannel s c) := by
  unfold failChannel
  repeat' first
    | with_reducible exact changesOnly.refl _ _
    | decide
    | with_reducible apply changesOnly.step (k := feFault_changes _ _)
    | with_reducible apply changesOnly.step (k := modFe_changes _ _ _)

theorem feFailure_changes (s : State) (n : Nat) :
    changesOnly [.unit .own, .unit .exe, .unit .hz, .unit .fch, .unit .grd, .unit .wnt, .unit .pair, .unit .spr, .unit .cmd, .unit .net, .unit .sbk, .unit .sup, .ctr Reg.grdSnapRef, .flag Reg.cmdFlags 4, .flag Reg.fchFlags 0, .flag Reg.grdFlags 1, .flag Reg.grdFlags 3, .flag Reg.hzFlags 3, .flag Reg.hzFlags 4, .flag Reg.hzFlags 5, .flag Reg.ppdFlags 1, .flag Reg.ppdFlags 2, .flag Reg.sprFlags 1, .flag Reg.sprFlags 2] s (feFailure s n) := by
  unfold feFailure
  repeat' first
    | with_reducible exact changesOnly.refl _ _
    | decide
    | with_reducible apply changesOnly.step (k := writeSproutRecord_changes _)
    | with_reducible apply changesOnly.step (k := modFe_changes _ _ _)
    | with_reducible apply changesOnly.step (k := yieldField_changes _)
    | with_reducible apply changesOnly.step (k := failChannel_changes _ _)
    | with_reducible apply changesOnly.step (k := refresh_changes _ _)
    | with_reducible apply changesOnly.step (k := exhausted_changes _ _)
    | with_reducible apply changesOnly.step (k := queueSprout_changes _ _ _)
    | with_reducible apply changesOnly.step (k := sprRaise_changes _ _)
    | dsimp only
    | split

theorem startCoreSwap_changes (s : State) :
    changesOnly [.unit .own, .unit .exe, .unit .hz, .unit .gmu, .unit .wnt, .unit .spr, .unit .cmd, .unit .net] s (startCoreSwap s) := by
  unfold startCoreSwap
  repeat' first
    | with_reducible exact changesOnly.refl _ _
    | decide
    | (fail_if_no_progress (with_reducible apply changesOnly.step (k := spr_changes _ _)) <;> try first | decide)
    | with_reducible apply changesOnly.step (k := huskHold_changes _ _)
    | with_reducible apply changesOnly.step (k := undoWork_changes _ _)
    | dsimp only
    | split

theorem mapCore_changes (s : State) (p : CorePair) :
    changesOnly [.unit .exe, .unit .grd, .unit .spr, .unit .net, .unit .sup, .ctr Reg.sprSnapSprouts, .flag Reg.sprFlags 0, .flag Reg.sprFlags 3] s (mapCore s p) := by
  unfold mapCore
  repeat' first
    | with_reducible exact changesOnly.refl _ _
    | decide
    | (fail_if_no_progress (with_reducible apply changesOnly.step (k := spr_changes _ _)) <;> try first | decide)
    | with_reducible apply changesOnly.step (k := sprRaise_changes _ _)
    | with_reducible apply changesOnly.step (k := sprouted_changes _)

end Sys2Proof
end

