-- ==== Sys2Proof/Laws/FrameEngines.lean ====
section
/-! SUPPORT. Laws/FrameEngines.lean: for each shared operation everything it may change: the channels' events, the executive, the grid unit, Hazel and the memories. -/
namespace Sys2Proof
open Sys2Proof.Machine

theorem checkFactory_changes (s : State) (n : Nat) :
    changesOnly [.unit .fch] s (checkFactory s n) := by
  unfold checkFactory
  repeat' first
    | with_reducible exact changesOnly.refl _ _
    | decide
    | with_reducible apply changesOnly.step (k := modFe_changes _ _ _)

theorem checkUserArea_changes (s : State) (c : Nat) :
    changesOnly [.unit .fch, .unit .cmd, .unit .sbk, .flag Reg.cmdFlags 4] s (checkUserArea s c) := by
  unfold checkUserArea
  repeat' first
    | with_reducible exact changesOnly.refl _ _
    | decide
    | with_reducible apply changesOnly.step (k := modFe_changes _ _ _)
    | with_reducible apply changesOnly.step (k := post_changes _ _ _ _ _ _)
    | dsimp only
    | split

theorem takeAcyc_changes (s : State) (n : Nat) (w : Nat) :
    changesOnly [.unit .fch, .unit .cmd, .unit .sbk, .flag Reg.cmdFlags 4] s (takeAcyc s n w) := by
  unfold takeAcyc
  repeat' first
    | with_reducible exact changesOnly.refl _ _
    | decide
    | with_reducible apply changesOnly.step (k := modFe_changes _ _ _)
    | with_reducible apply changesOnly.step (k := checkUserArea_changes _ _)
    | dsimp only
    | split

theorem pushAcyc_changes (s : State) (c : Nat) (write : Bool) (a : Nat) (v : Word) :
    changesOnly [.unit .fch] s (pushAcyc s c write a v) := by
  unfold pushAcyc
  repeat' first
    | with_reducible exact changesOnly.refl _ _
    | decide
    | with_reducible apply changesOnly.step (k := modFe_changes _ _ _)

theorem applyMeasure_changes (s : State) (m : FeMeasure) :
    changesOnly [.unit .free, .unit .fch, .unit .grd] s (applyMeasure s m) := by
  unfold applyMeasure
  repeat' first
    | with_reducible exact changesOnly.refl _ _
    | decide
    | with_reducible apply changesOnly.step (k := modFe_changes _ _ _)
    | with_reducible apply changesOnly.step (k := freeNext_changes _)
    | with_reducible apply changesOnly.step (k := setClaim_changes _ _ _)
    | dsimp only
    | split

theorem takeUpstream_changes (s : State) (n : Nat) (w : Nat) :
    changesOnly [.unit .fch] s (takeUpstream s n w) := by
  unfold takeUpstream
  repeat' first
    | with_reducible exact changesOnly.refl _ _
    | decide
    | with_reducible apply changesOnly.step (k := modFe_changes _ _ _)

theorem badUpstream_changes (s : State) (n : Nat) :
    changesOnly [.unit .fch, .ctr Reg.fchSnapFrameerr, .flag Reg.fchFlags 1] s (badUpstream s n) := by
  unfold badUpstream
  repeat' first
    | with_reducible exact changesOnly.refl _ _
    | decide
    | with_reducible apply changesOnly.step (k := countUp_changes _ _ _)
    | with_reducible apply changesOnly.step (k := raise_changes _ _ _ _)
    | with_reducible apply changesOnly.step (k := modFe_changes _ _ _)

theorem takeDownstream_changes (s : State) (n : Nat) (w : Nat) :
    changesOnly [.unit .fch, .unit .cmd, .unit .sbk, .flag Reg.cmdFlags 4] s (takeDownstream s n w) := by
  unfold takeDownstream
  repeat' first
    | with_reducible exact changesOnly.refl _ _
    | decide
    | with_reducible apply changesOnly.step (k := takeAcyc_changes _ _ _)
    | with_reducible apply changesOnly.step (k := modFe_changes _ _ _)

theorem badDownstream_changes (s : State) (n : Nat) :
    changesOnly [.unit .fch] s (badDownstream s n) := by
  unfold badDownstream
  repeat' first
    | with_reducible exact changesOnly.refl _ _
    | decide
    | with_reducible apply changesOnly.step (k := modFe_changes _ _ _)

theorem closeSupply_changes (s : State) (n : Nat) :
    changesOnly [.unit .fch] s (closeSupply s n) := by
  unfold closeSupply
  repeat' first
    | with_reducible exact changesOnly.refl _ _
    | decide
    | with_reducible apply changesOnly.step (k := modFe_changes _ _ _)
    | dsimp only
    | split

theorem exchangeDown_changes (downError : Nat) (s : State) (n : Nat) :
    changesOnly [.unit .fch, .unit .grd, .unit .cmd, .unit .sbk, .ctr Reg.grdSnapRef, .flag Reg.cmdFlags 4, .flag Reg.fchFlags 4, .flag Reg.grdFlags 1, .flag Reg.grdFlags 3] s (exchangeDown downError s n) := by
  unfold exchangeDown
  repeat' first
    | with_reducible exact changesOnly.refl _ _
    | decide
    | with_reducible apply changesOnly.step (k := closeSupply_changes _ _)
    | with_reducible apply changesOnly.step (k := refresh_changes _ _)
    | with_reducible apply changesOnly.step (k := modFe_changes _ _ _)
    | with_reducible apply changesOnly.step (k := takeDownstream_changes _ _ _)
    | with_reducible apply changesOnly.step (k := badDownstream_changes _ _)
    | with_reducible apply changesOnly.step (k := post_changes _ _ _ _ _ _)
    | with_reducible apply changesOnly.step (k := raise_changes _ _ _ _)
    | dsimp only
    | split

theorem exchange_changes (upError : Nat) (downError : Nat) (s : State) (n : Nat) :
    changesOnly [.unit .own, .unit .exe, .unit .hz, .unit .fch, .unit .grd, .unit .wnt, .unit .pair, .unit .spr, .unit .cmd, .unit .net, .unit .sbk, .unit .sup, .ctr Reg.fchSnapFrameerr, .ctr Reg.grdSnapRef, .flag Reg.cmdFlags 4, .flag Reg.fchFlags 0, .flag Reg.fchFlags 1, .flag Reg.fchFlags 4, .flag Reg.grdFlags 1, .flag Reg.grdFlags 3, .flag Reg.hzFlags 3, .flag Reg.hzFlags 4, .flag Reg.hzFlags 5, .flag Reg.ppdFlags 1, .flag Reg.ppdFlags 2, .flag Reg.sprFlags 1, .flag Reg.sprFlags 2] s (exchange upError downError s n) := by
  unfold exchange
  repeat' first
    | with_reducible exact changesOnly.refl _ _
    | decide
    | with_reducible apply changesOnly.step (k := takeUpstream_changes _ _ _)
    | with_reducible apply changesOnly.step (k := badUpstream_changes _ _)
    | with_reducible apply changesOnly.step (k := feFailure_changes _ _)
    | with_reducible apply changesOnly.step (k := exchangeDown_changes _ _ _)
    | dsimp only
    | split

theorem coupleAll_changes (ms : List FeMeasure) (s : State) :
    changesOnly [.unit .free, .unit .own, .unit .exe, .unit .hz, .unit .fch, .unit .grd, .unit .gmu, .unit .wnt, .unit .pair, .unit .spr, .unit .cmd, .unit .net, .unit .can, .unit .sbk, .unit .pnl, .unit .sup, .ctr Reg.fchSnapFrameerr, .ctr Reg.grdSnapRef, .flag Reg.cmdFlags 4, .flag Reg.fchFlags 0, .flag Reg.fchFlags 1, .flag Reg.fchFlags 4, .flag Reg.gmuFlags 2, .flag Reg.gmuFlags 3, .flag Reg.grdFlags 1, .flag Reg.grdFlags 3, .flag Reg.hzFlags 3, .flag Reg.hzFlags 4, .flag Reg.hzFlags 5, .flag Reg.ppdFlags 1, .flag Reg.ppdFlags 2, .flag Reg.sprFlags 1, .flag Reg.sprFlags 2] s (coupleAll ms s) := by
  unfold coupleAll
  repeat' first
    | with_reducible exact changesOnly.refl _ _
    | decide
    | (fail_if_no_progress (with_reducible apply changesOnly.step (k := fch_changes _ _)) <;> try first | decide)
    | with_reducible apply changesOnly.step (k := applyMeasure_changes _ _)
    | with_reducible apply changesOnly.step (k := grantsTakeEffect_changes _)
    | with_reducible apply changesOnly.step (k := exchange_changes _ _ _ _)
    | with_reducible apply changesOnly.step (k := copyGmuState_changes _)
    | with_reducible apply changesOnly.step (k := copyClaims_changes _)
    | with_reducible apply changesOnly.step (k := deadBusFrame_changes _)
    | with_reducible apply changesOnly.step (k := genTripFrame_changes _)
    | (with_reducible apply changesOnly.foldl; intro _ _)

theorem groupLoss_changes (s : State) (g : Nat) :
    changesOnly [.unit .fch, .unit .grd, .unit .cmd, .ctr Reg.grdSnapRef, .flag Reg.grdFlags 1, .flag Reg.grdFlags 3] s (groupLoss s g) := by
  unfold groupLoss
  repeat' first
    | with_reducible exact changesOnly.refl _ _
    | decide
    | with_reducible apply changesOnly.step (k := setClaim_changes _ _ _)
    | with_reducible apply changesOnly.step (k := withdrawC1_changes _ _ _)
    | with_reducible apply changesOnly.step (k := modFe_changes _ _ _)
    | (with_reducible apply changesOnly.foldl; intro _ _)
    | dsimp only
    | split

theorem enterSupply_changes (s : State) (g : Nat) (x : Group) (st : Supply) :
    changesOnly [.unit .fch, .unit .grd, .unit .cmd, .unit .sbk, .ctr Reg.grdSnapRef, .flag Reg.cmdFlags 4, .flag Reg.fgrpFlags 0, .flag Reg.fgrpFlags 1, .flag Reg.fgrpFlags 3, .flag Reg.grdFlags 1, .flag Reg.grdFlags 3] s (enterSupply s g x st) := by
  unfold enterSupply
  repeat' first
    | with_reducible exact changesOnly.refl _ _
    | decide
    | with_reducible apply changesOnly.step (k := setGroup_changes _ _ _)
    | with_reducible apply changesOnly.step (k := post_changes _ _ _ _ _ _)
    | with_reducible apply changesOnly.step (k := raise_changes _ _ _ _)
    | with_reducible apply changesOnly.step (k := groupLoss_changes _ _)
    | dsimp only
    | split

theorem checkOverpeak_changes (s : State) (g : Nat) :
    changesOnly [.unit .cmd, .unit .sbk, .flag Reg.cmdFlags 4, .flag Reg.grdFlags 2] s (checkOverpeak s g) := by
  unfold checkOverpeak
  repeat' first
    | with_reducible exact changesOnly.refl _ _
    | decide
    | with_reducible apply changesOnly.step (k := post_changes _ _ _ _ _ _)
    | with_reducible apply changesOnly.step (k := raise_changes _ _ _ _)
    | dsimp only
    | split

theorem clearFault_changes (s : State) (c : Nat) :
    changesOnly [.unit .fch, .unit .grd, .unit .cmd, .ctr Reg.grdSnapRef, .flag Reg.grdFlags 1, .flag Reg.grdFlags 3] s (clearFault s c) := by
  unfold clearFault
  repeat' first
    | with_reducible exact changesOnly.refl _ _
    | decide
    | with_reducible apply changesOnly.step (k := refresh_changes _ _)
    | with_reducible apply changesOnly.step (k := modFe_changes _ _ _)

theorem loadCycleLatch_changes (s : State) (b : Nat) :
    changesOnly [.unit .exe, .unit .fch] s (loadCycleLatch s b) := by
  unfold loadCycleLatch
  repeat' first
    | with_reducible exact changesOnly.refl _ _
    | decide
    | (fail_if_no_progress (with_reducible apply changesOnly.step (k := exe_fch_changes _ _ _)) <;> try first | decide)

theorem calibrationBoundary_changes (s : State) :
    changesOnly [.unit .fch] s (calibrationBoundary s) := by
  unfold calibrationBoundary
  repeat' first
    | with_reducible exact changesOnly.refl _ _
    | decide
    | (fail_if_no_progress (with_reducible apply changesOnly.step (k := fch_changes _ _)) <;> try first | decide)

theorem enterStopWith_changes (s : State) (cause : StopCause) (abandon : Bool) :
    changesOnly [.unit .own, .unit .exe, .unit .hz, .unit .fch, .unit .grd, .unit .gmu, .unit .wnt, .unit .spr, .unit .cmd, .unit .net, .unit .sbk, .unit .sup, .ctr Reg.grdSnapRef, .flag Reg.cmdFlags 4, .flag Reg.grdFlags 1, .flag Reg.grdFlags 3] s (enterStopWith s cause abandon) := by
  unfold enterStopWith
  repeat' first
    | with_reducible exact changesOnly.refl _ _
    | decide
    | (fail_if_no_progress (with_reducible apply changesOnly.step (k := exe_changes _ _)) <;> try first | decide)
    | with_reducible apply changesOnly.step (k := writeRetain_changes _)
    | with_reducible apply changesOnly.step (k := stopWith_changes _ _)
    | with_reducible apply changesOnly.step (k := post_changes _ _ _ _ _ _)
    | with_reducible apply changesOnly.step (k := refreshAll_changes _ _)
    | with_reducible apply changesOnly.step (k := startCoreSwap_changes _)
    | with_reducible apply changesOnly.step (k := concludeAll_changes _ _ _ _ _)
    | dsimp only
    | split

theorem taskFault_changes (s : State) (n : Nat) :
    changesOnly [.unit .own, .unit .exe, .unit .hz, .unit .fch, .unit .grd, .unit .gmu, .unit .wnt, .unit .spr, .unit .cmd, .unit .net, .unit .sbk, .unit .sup, .ctr Reg.grdSnapRef, .flag Reg.cmdFlags 4, .flag Reg.exeFlags 1, .flag Reg.grdFlags 1, .flag Reg.grdFlags 3] s (taskFault s n) := by
  unfold taskFault
  repeat' first
    | with_reducible exact changesOnly.refl _ _
    | decide
    | with_reducible apply changesOnly.step (k := post_changes _ _ _ _ _ _)
    | with_reducible apply changesOnly.step (k := raise_changes _ _ _ _)
    | with_reducible apply changesOnly.step (k := setTask_changes _ _ _)
    | with_reducible apply changesOnly.step (k := modFe_changes _ _ _)
    | with_reducible apply changesOnly.step (k := refreshAll_changes _ _)
    | with_reducible apply changesOnly.step (k := enterStopWith_changes _ _ _)
    | (with_reducible apply changesOnly.foldl; intro _ _)
    | dsimp only
    | split

theorem taskOverrun_changes (s : State) (n : Nat) :
    changesOnly [.unit .own, .unit .exe, .unit .hz, .unit .fch, .unit .grd, .unit .gmu, .unit .wnt, .unit .spr, .unit .cmd, .unit .net, .unit .sbk, .unit .sup, .ctr Reg.exeSnapSkip, .ctr Reg.grdSnapRef, .flag Reg.cmdFlags 4, .flag Reg.exeFlags 0, .flag Reg.exeFlags 1, .flag Reg.grdFlags 1, .flag Reg.grdFlags 3] s (taskOverrun s n) := by
  unfold taskOverrun
  repeat' first
    | with_reducible exact changesOnly.refl _ _
    | decide
    | with_reducible apply changesOnly.step (k := skipRelease_changes _ _ _ _)
    | with_reducible apply changesOnly.step (k := setTask_changes _ _ _)
    | with_reducible apply changesOnly.step (k := post_changes _ _ _ _ _ _)
    | with_reducible apply changesOnly.step (k := raise_changes _ _ _ _)
    | with_reducible apply changesOnly.step (k := taskFault_changes _ _)
    | dsimp only
    | split

theorem releaseTask_changes (s : State) (b : Nat) (n : Nat) :
    changesOnly [.unit .exe, .ctr Reg.exeSnapRel] s (releaseTask s b n) := by
  unfold releaseTask
  repeat' first
    | with_reducible exact changesOnly.refl _ _
    | decide
    | with_reducible apply changesOnly.step (k := countUp_changes _ _ _)
    | with_reducible apply changesOnly.step (k := setTask_changes _ _ _)

theorem withholdTask_changes (s : State) (n : Nat) :
    changesOnly [.unit .exe, .ctr Reg.exeSnapSkip] s (withholdTask s n) := by
  unfold withholdTask
  repeat' first
    | with_reducible exact changesOnly.refl _ _
    | decide
    | with_reducible apply changesOnly.step (k := skipRelease_changes _ _ _ _)
    | with_reducible apply changesOnly.step (k := setTask_changes _ _ _)

theorem boundaryTask_changes (b : Nat) (s : State) (n : Nat) :
    changesOnly [.unit .own, .unit .exe, .unit .hz, .unit .fch, .unit .grd, .unit .gmu, .unit .wnt, .unit .spr, .unit .cmd, .unit .net, .unit .sbk, .unit .sup, .ctr Reg.exeSnapRel, .ctr Reg.exeSnapSkip, .ctr Reg.grdSnapRef, .flag Reg.cmdFlags 4, .flag Reg.exeFlags 0, .flag Reg.exeFlags 1, .flag Reg.grdFlags 1, .flag Reg.grdFlags 3] s (boundaryTask b s n) := by
  unfold boundaryTask
  repeat' first
    | with_reducible exact changesOnly.refl _ _
    | decide
    | with_reducible apply changesOnly.step (k := withholdTask_changes _ _)
    | with_reducible apply changesOnly.step (k := taskOverrun_changes _ _)
    | with_reducible apply changesOnly.step (k := releaseTask_changes _ _ _)
    | dsimp only
    | split

theorem releaseDue_changes (s : State) (b : Nat) :
    changesOnly [.unit .own, .unit .exe, .unit .hz, .unit .fch, .unit .grd, .unit .gmu, .unit .wnt, .unit .spr, .unit .cmd, .unit .net, .unit .sbk, .unit .sup, .ctr Reg.exeSnapRel, .ctr Reg.exeSnapSkip, .ctr Reg.grdSnapRef, .flag Reg.cmdFlags 4, .flag Reg.exeFlags 0, .flag Reg.exeFlags 1, .flag Reg.grdFlags 1, .flag Reg.grdFlags 3] s (releaseDue s b) := by
  unfold releaseDue
  repeat' first
    | with_reducible exact changesOnly.refl _ _
    | decide
    | with_reducible apply changesOnly.step (k := boundaryTask_changes _ _ _)
    | with_reducible apply changesOnly.step (k := applyVarWrites_changes _ _)
    | (with_reducible apply changesOnly.foldl; intro _ _)
    | dsimp only
    | split

theorem copyField_changes (s : State) :
    changesOnly [.unit .own, .unit .pair] s (copyField s) := by
  unfold copyField
  repeat' first
    | with_reducible exact changesOnly.refl _ _
    | decide
    | with_reducible apply changesOnly.step (k := copyChange_changes _ _ _)

theorem startStream_changes (s : State) :
    changesOnly [.unit .own, .unit .grd, .unit .gmu, .unit .pair] s (startStream s) := by
  unfold startStream
  repeat' first
    | with_reducible exact changesOnly.refl _ _
    | decide
    | (fail_if_no_progress (with_reducible apply changesOnly.step (k := pair_changes _ _)) <;> try first | decide)
    | with_reducible apply changesOnly.step (k := copyChange_changes _ _ _)
    | with_reducible apply changesOnly.step (k := noteCopied_changes _)
    | with_reducible apply changesOnly.step (k := noteGmu_changes _)
    | dsimp only
    | split

theorem enterStop_changes (s : State) (abandon : Bool) :
    changesOnly [.unit .own, .unit .exe, .unit .hz, .unit .fch, .unit .grd, .unit .gmu, .unit .wnt, .unit .spr, .unit .cmd, .unit .net, .unit .sbk, .unit .sup, .ctr Reg.grdSnapRef, .flag Reg.cmdFlags 4, .flag Reg.grdFlags 1, .flag Reg.grdFlags 3] s (enterStop s abandon) := by
  unfold enterStop
  repeat' first
    | with_reducible exact changesOnly.refl _ _
    | decide
    | with_reducible apply changesOnly.step (k := enterStopWith_changes _ _ _)

theorem restartCommand_changes {W : List Area} (s : State) (c : Ctx) (op : Nat) (choice : ForceChoice) (go : State → Image → State) (hgo : ∀ t y1, changesOnly W t (go t y1))
    (hw : within [.unit .cmd] W = true) :
    changesOnly W s (restartCommand s c op choice go) := by
  unfold restartCommand
  repeat' first
    | with_reducible exact changesOnly.refl _ _
    | assumption
    | decide
    | with_reducible apply changesOnly.trans (k := hgo _ _)
    | with_reducible apply changesOnly.trans (k := ((refuse_changes _ _ _ _ _).mono (show within _ [.unit .cmd] = true by decide)).mono hw)
    | dsimp only
    | split

theorem clearForce_changes (s : State) (k : ForceKey) :
    changesOnly [.unit .own, .unit .exe, .unit .grd, .unit .pair, .unit .spr, .unit .net, .unit .sup] s (clearForce s k) := by
  unfold clearForce
  repeat' first
    | with_reducible exact changesOnly.refl _ _
    | decide
    | with_reducible apply changesOnly.step (k := writeForces_changes _ _)

theorem afterForce_changes (s : State) (c : Ctx) (op : Nat) (before : List Force) (ks : List ForceKey) :
    changesOnly [.unit .fch, .unit .grd, .unit .cmd, .ctr Reg.grdSnapRef, .flag Reg.grdFlags 1, .flag Reg.grdFlags 3] s (afterForce s c op before ks) := by
  unfold afterForce
  repeat' first
    | with_reducible exact changesOnly.refl _ _
    | decide
    | with_reducible apply changesOnly.step (k := refreshAll_changes _ _)
    | with_reducible apply changesOnly.step (k := awaitGrants_changes _ _ _ _ _ _)
    | with_reducible apply changesOnly.step (k := accept_changes _ _ _ _ _ _ _)
    | dsimp only
    | split

theorem clearLost_changes (s : State) (w : PqWindow) :
    changesOnly [.unit .free, .unit .gmu] s (clearLost s w) := by
  unfold clearLost
  repeat' first
    | with_reducible exact changesOnly.refl _ _
    | decide
    | (fail_if_no_progress (with_reducible apply changesOnly.step (k := free_gmu_changes _ _ _)) <;> try first | decide)

theorem shortWindow_changes (v : PqValues) (s : State) :
    changesOnly [.unit .free, .unit .gmu] s (shortWindow v s) := by
  unfold shortWindow
  repeat' first
    | with_reducible exact changesOnly.refl _ _
    | decide
    | (fail_if_no_progress (with_reducible apply changesOnly.step (k := gmu_changes _ _)) <;> try first | decide)
    | with_reducible apply changesOnly.step (k := clearLost_changes _ _)

theorem mediumWindow_changes (s : State) :
    changesOnly [.unit .free, .unit .gmu] s (mediumWindow s) := by
  unfold mediumWindow
  repeat' first
    | with_reducible exact changesOnly.refl _ _
    | decide
    | (fail_if_no_progress (with_reducible apply changesOnly.step (k := gmu_changes _ _)) <;> try first | decide)
    | with_reducible apply changesOnly.step (k := clearLost_changes _ _)
    | dsimp only
    | split

theorem longWindow_changes (s : State) :
    changesOnly [.unit .free, .unit .gmu] s (longWindow s) := by
  unfold longWindow
  repeat' first
    | with_reducible exact changesOnly.refl _ _
    | decide
    | (fail_if_no_progress (with_reducible apply changesOnly.step (k := gmu_changes _ _)) <;> try first | decide)
    | with_reducible apply changesOnly.step (k := clearLost_changes _ _)
    | dsimp only
    | split

theorem frequencyWindow_changes (s : State) :
    changesOnly [.unit .free, .unit .gmu] s (frequencyWindow s) := by
  unfold frequencyWindow
  repeat' first
    | with_reducible exact changesOnly.refl _ _
    | decide
    | (fail_if_no_progress (with_reducible apply changesOnly.step (k := gmu_changes _ _)) <;> try first | decide)
    | with_reducible apply changesOnly.step (k := clearLost_changes _ _)

theorem endGridEvent_changes (s : State) (kind : Nat) (set : Nat) (e : GridEvent) :
    changesOnly [.unit .gmu, .unit .cmd, .unit .sbk, .ctr Reg.gmuSnapEvents, .flag Reg.cmdFlags 4, .flag Reg.gmuFlags 1] s (endGridEvent s kind set e) := by
  unfold endGridEvent
  repeat' first
    | with_reducible exact changesOnly.refl _ _
    | decide
    | (fail_if_no_progress (with_reducible apply changesOnly.step (k := gmu_changes _ _)) <;> try first | decide)
    | with_reducible apply changesOnly.step (k := post_changes _ _ _ _ _ _)
    | with_reducible apply changesOnly.step (k := gmuRaise_changes _ _)
    | with_reducible apply changesOnly.step (k := countUp_changes _ _ _)

theorem dipStep_changes (s : State) (set : Nat) (ps : List Nat) :
    changesOnly [.unit .gmu, .unit .cmd, .unit .sbk, .ctr Reg.gmuSnapEvents, .flag Reg.cmdFlags 4, .flag Reg.gmuFlags 1] s (dipStep s set ps) := by
  unfold dipStep
  repeat' first
    | with_reducible exact changesOnly.refl _ _
    | decide
    | (fail_if_no_progress (with_reducible apply changesOnly.step (k := gmu_changes _ _)) <;> try first | decide)
    | with_reducible apply changesOnly.step (k := endGridEvent_changes _ _ _ _)
    | dsimp only
    | split

theorem swellStep_changes (s : State) (set : Nat) (ps : List Nat) :
    changesOnly [.unit .gmu, .unit .cmd, .unit .sbk, .ctr Reg.gmuSnapEvents, .flag Reg.cmdFlags 4, .flag Reg.gmuFlags 1] s (swellStep s set ps) := by
  unfold swellStep
  repeat' first
    | with_reducible exact changesOnly.refl _ _
    | decide
    | (fail_if_no_progress (with_reducible apply changesOnly.step (k := gmu_changes _ _)) <;> try first | decide)
    | with_reducible apply changesOnly.step (k := endGridEvent_changes _ _ _ _)
    | dsimp only
    | split

theorem armSync_changes (s : State) :
    changesOnly [.unit .gmu] s (armSync s) := by
  unfold armSync
  repeat' first
    | with_reducible exact changesOnly.refl _ _
    | decide
    | with_reducible apply changesOnly.step (k := modSync_changes _ _)

theorem disarmSync_changes (s : State) :
    changesOnly [.unit .fch, .unit .grd, .unit .gmu, .unit .cmd, .ctr Reg.grdSnapRef, .flag Reg.grdFlags 1, .flag Reg.grdFlags 3] s (disarmSync s) := by
  unfold disarmSync
  repeat' first
    | with_reducible exact changesOnly.refl _ _
    | decide
    | with_reducible apply changesOnly.step (k := modSync_changes _ _)
    | with_reducible apply changesOnly.step (k := refresh_changes _ _)
    | dsimp only
    | split

theorem askSync_changes (s : State) :
    changesOnly [.unit .gmu, .flag Reg.gmuFlags 8] s (askSync s) := by
  unfold askSync
  repeat' first
    | with_reducible exact changesOnly.refl _ _
    | decide
    | with_reducible apply changesOnly.step (k := gmuRaise_changes _ _)
    | with_reducible apply changesOnly.step (k := armSync_changes _)
    | dsimp only
    | split

theorem noteStale_changes (s : State) :
    changesOnly [.unit .gmu, .unit .cmd, .unit .sbk, .flag Reg.cmdFlags 4, .flag Reg.gmuFlags 5] s (noteStale s) := by
  unfold noteStale
  repeat' first
    | with_reducible exact changesOnly.refl _ _
    | decide
    | (fail_if_no_progress (with_reducible apply changesOnly.step (k := gmu_changes _ _)) <;> try first | decide)
    | with_reducible apply changesOnly.step (k := post_changes _ _ _ _ _ _)
    | with_reducible apply changesOnly.step (k := gmuRaise_changes _ _)
    | dsimp only
    | split

theorem fireTrigger_changes (s : State) (t : Nat) :
    changesOnly [.unit .free, .unit .own, .unit .fch, .unit .grd, .unit .gmu, .unit .pair, .unit .cmd, .unit .net, .unit .can, .unit .sbk, .ctr Reg.gmuSnapSheds, .ctr Reg.grdSnapRef, .flag Reg.cmdFlags 4, .flag Reg.gmuFlags 4, .flag Reg.gmuFlags 5, .flag Reg.gmuFlags 6, .flag Reg.grdFlags 1, .flag Reg.grdFlags 3] s (fireTrigger s t) := by
  unfold fireTrigger
  repeat' first
    | with_reducible exact changesOnly.refl _ _
    | decide
    | (fail_if_no_progress (with_reducible apply changesOnly.step (k := gmu_changes _ _)) <;> try first | decide)
    | with_reducible apply changesOnly.step (k := setTrig_changes _ _ _)
    | with_reducible apply changesOnly.step (k := noteStale_changes _)
    | with_reducible apply changesOnly.step (k := freeNext_changes _)
    | with_reducible apply changesOnly.step (k := post_changes _ _ _ _ _ _)
    | with_reducible apply changesOnly.step (k := gmuRaise_changes _ _)
    | with_reducible apply changesOnly.step (k := commit_changes _ _ _ _ _)
    | dsimp only
    | split

theorem askRelease_changes (s : State) (mask : Nat) :
    changesOnly [.unit .gmu] s (askRelease s mask) := by
  unfold askRelease
  repeat' first
    | with_reducible exact changesOnly.refl _ _
    | decide
    | (fail_if_no_progress (with_reducible apply changesOnly.step (k := gmu_changes _ _)) <;> try first | decide)

theorem writeRelease_changes (high : Bool) (v : Word) (s : State) :
    changesOnly [.unit .gmu, .flag Reg.gmuFlags 8] s (writeRelease high v s) := by
  unfold writeRelease
  repeat' first
    | with_reducible exact changesOnly.refl _ _
    | decide
    | with_reducible apply changesOnly.step (k := askRelease_changes _ _)
    | with_reducible apply changesOnly.step (k := gmuRaise_changes _ _)
    | dsimp only
    | split

theorem gmuWindowWrite_changes (s : State) (a : Nat) (v : Word) :
    changesOnly [.unit .gmu, .flag Reg.gmuFlags 8] s (gmuWindowWrite s a v) := by
  unfold gmuWindowWrite
  repeat' first
    | with_reducible exact changesOnly.refl _ _
    | decide
    | (fail_if_no_progress (with_reducible apply changesOnly.step (k := gmu_changes _ _)) <;> try first | decide)
    | with_reducible apply changesOnly.step (k := gmuRaise_changes _ _)
    | with_reducible apply changesOnly.step (k := setGmuBytes_changes _ _ _)
    | dsimp only
    | split

theorem applySetTable_changes (s : State) :
    changesOnly [.unit .gmu] s (applySetTable s) := by
  unfold applySetTable
  repeat' first
    | with_reducible exact changesOnly.refl _ _
    | decide
    | (fail_if_no_progress (with_reducible apply changesOnly.step (k := gmu_changes _ _)) <;> try first | decide)
    | with_reducible apply changesOnly.step (k := setGmuBytes_changes _ _ _)
    | (with_reducible apply changesOnly.foldl; intro _ _)

theorem setBatch_changes (s : State) (pod : Nat) (b : List BatchItem) :
    changesOnly [.unit .hz] s (setBatch s pod b) := by
  unfold setBatch
  repeat' first
    | with_reducible exact changesOnly.refl _ _
    | decide
    | (fail_if_no_progress (with_reducible apply changesOnly.step (k := hz_changes _ _)) <;> try first | decide)

theorem dropBatch_changes (s : State) (pod : Nat) :
    changesOnly [.unit .exe, .unit .hz] s (dropBatch s pod) := by
  unfold dropBatch
  repeat' first
    | with_reducible exact changesOnly.refl _ _
    | decide
    | with_reducible apply changesOnly.step (k := areaPut_changes _ _ _)
    | with_reducible apply changesOnly.step (k := modLoop_changes _ _ _)
    | with_reducible apply changesOnly.step (k := setBatch_changes _ _ _)
    | (with_reducible apply changesOnly.foldl; intro _ _)

theorem sendParams_changes (s : State) (tag : Nat) (prior : Loop) (l : Loop) (n : Nat) :
    changesOnly [.unit .pair] s (sendParams s tag prior l n) := by
  unfold sendParams
  repeat' first
    | with_reducible exact changesOnly.refl _ _
    | decide
    | with_reducible apply changesOnly.step (k := send_changes _ _)
    | dsimp only
    | split

theorem sendBatch_changes (s : State) (pod : Nat) :
    changesOnly [.unit .pair] s (sendBatch s pod) := by
  unfold sendBatch
  repeat' first
    | with_reducible exact changesOnly.refl _ _
    | decide
    | with_reducible apply changesOnly.step (k := send_changes _ _)
    | with_reducible apply changesOnly.step (k := sendParams_changes _ _ _ _ _)
    | (with_reducible apply changesOnly.foldl; intro _ _)
    | dsimp only
    | split

theorem closeBatch_changes (s : State) (pod : Nat) :
    changesOnly [.unit .own, .unit .exe, .unit .hz, .unit .fch, .unit .grd, .unit .gmu, .unit .pair, .unit .cmd, .unit .net, .unit .can, .unit .sbk, .ctr Reg.gmuSnapSheds, .ctr Reg.grdSnapRef, .flag Reg.cmdFlags 4, .flag Reg.gmuFlags 4, .flag Reg.grdFlags 1, .flag Reg.grdFlags 3] s (closeBatch s pod) := by
  unfold closeBatch
  repeat' first
    | with_reducible exact changesOnly.refl _ _
    | decide
    | with_reducible apply changesOnly.step (k := commit_changes _ _ _ _ _)
    | with_reducible apply changesOnly.step (k := countBlocks_changes _ _)
    | with_reducible apply changesOnly.step (k := setBatch_changes _ _ _)
    | with_reducible apply changesOnly.step (k := sendBatch_changes _ _)
    | with_reducible apply changesOnly.step (k := dropBatch_changes _ _)
    | dsimp only
    | split

theorem addToBatch_changes (s : State) (pod : Nat) (i : BatchItem) :
    changesOnly [.unit .own, .unit .exe, .unit .hz, .unit .fch, .unit .grd, .unit .gmu, .unit .pair, .unit .cmd, .unit .net, .unit .can, .unit .sbk, .ctr Reg.gmuSnapSheds, .ctr Reg.grdSnapRef, .flag Reg.cmdFlags 4, .flag Reg.gmuFlags 4, .flag Reg.grdFlags 1, .flag Reg.grdFlags 3] s (addToBatch s pod i) := by
  unfold addToBatch
  repeat' first
    | with_reducible exact changesOnly.refl _ _
    | decide
    | with_reducible apply changesOnly.step (k := setBatch_changes _ _ _)
    | with_reducible apply changesOnly.step (k := closeBatch_changes _ _)
    | dsimp only
    | split

theorem advanceInjection_changes (s : State) (n : Nat) :
    changesOnly [.unit .hz, .unit .cmd, .unit .sbk, .flag Reg.cmdFlags 4, .flag Reg.hzFlags 3, .flag Reg.hzFlags 4] s (advanceInjection s n) := by
  unfold advanceInjection
  repeat' first
    | with_reducible exact changesOnly.refl _ _
    | decide
    | with_reducible apply changesOnly.step (k := setGen_changes _ _ _)
    | with_reducible apply changesOnly.step (k := endInjection_changes _ _ _)
    | dsimp only
    | split

theorem slotLoop_changes (r : SlotRun) (n : Nat) :
    changesOnly [.unit .own, .unit .exe, .unit .hz, .unit .fch, .unit .grd, .unit .gmu, .unit .pair, .unit .cmd, .unit .net, .unit .can, .unit .sbk, .ctr Reg.gmuSnapSheds, .ctr Reg.grdSnapRef, .flag Reg.cmdFlags 4, .flag Reg.gmuFlags 4, .flag Reg.grdFlags 1, .flag Reg.grdFlags 3, .flag Reg.hzFlags 2, .flag Reg.hzFlags 3, .flag Reg.hzFlags 4, .flag Reg.hzFlags 6] r.s (slotLoop r n).s := by
  unfold slotLoop
  repeat' first
    | with_reducible exact changesOnly.refl _ _
    | decide
    | with_reducible apply changesOnly.step (k := addToBatch_changes _ _ _)
    | with_reducible apply changesOnly.step (k := modLoop_changes _ _ _)
    | with_reducible apply changesOnly.step (k := post_changes _ _ _ _ _ _)
    | with_reducible apply changesOnly.step (k := hzRaise_changes _ _)
    | with_reducible apply changesOnly.step (k := publish_changes _ _ _)
    | with_reducible apply changesOnly.step (k := advanceInjection_changes _ _)
    | dsimp only
    | split

theorem concludeParams_changes (s : State) (ns : List Nat) (code : Code) (wh : Nat) :
    changesOnly [.unit .cmd, .codeFlag code] s (concludeParams s ns code wh) := by
  unfold concludeParams
  repeat' first
    | with_reducible exact changesOnly.refl _ _
    | decide
    | with_reducible exact within_refl _
    | (simp [within, takesIn, Area.covers]; done)
    | with_reducible apply changesOnly.step (k := concludeAll_changes _ _ _ _ _)
    | (with_reducible apply changesOnly.foldl; intro _ _)

theorem notePeaks_changes (s : State) (due : List (Nat × Loop)) :
    changesOnly [.ctrsOf 2] s (notePeaks s due) := by
  unfold notePeaks
  repeat' first
    | with_reducible exact changesOnly.refl _ _
    | decide
    | with_reducible apply changesOnly.step (k := podPeak_changes _ _ _)
    | (with_reducible apply changesOnly.foldl; intro _ _)

theorem runLoops_changes (s : State) (n : Nat) :
    changesOnly [.unit .own, .unit .exe, .unit .hz, .unit .fch, .unit .grd, .unit .gmu, .unit .pair, .unit .cmd, .unit .net, .unit .can, .unit .sbk, .ctr Reg.gmuSnapSheds, .ctr Reg.grdSnapRef, .reg Reg.hzApply, .flag Reg.cmdFlags 4, .flag Reg.gmuFlags 4, .flag Reg.grdFlags 1, .flag Reg.grdFlags 3, .flag Reg.hzFlags 2, .flag Reg.hzFlags 3, .flag Reg.hzFlags 4, .flag Reg.hzFlags 6, .ctrsOf 2] s (runLoops s n) := by
  unfold runLoops
  repeat' first
    | with_reducible exact changesOnly.refl _ _
    | decide
    | with_reducible apply changesOnly.step (k := closeBatch_changes _ _)
    | with_reducible apply changesOnly.step (k := slotLoop_changes _ _)
    | with_reducible apply changesOnly.step (k := notePeaks_changes _ _)
    | with_reducible apply changesOnly.step (k := bumpApply_changes _ _ _)
    | with_reducible apply changesOnly.step (k := concludeParams_changes _ _ _ _)
    | (with_reducible apply changesOnly.foldl; intro _ _)
    | (with_reducible apply changesOnly.foldl_by (g := SlotRun.s); intro _ _)
    | dsimp only
    | split

theorem capSample_changes (s : State) (k : Nat) (n : Nat) :
    changesOnly [.unit .hz, .flag Reg.hzFlags 5] s (capSample s k n) := by
  unfold capSample
  repeat' first
    | with_reducible exact changesOnly.refl _ _
    | decide
    | with_reducible apply changesOnly.step (k := setCap_changes _ _ _)
    | with_reducible apply changesOnly.step (k := finishCapture_changes _ _ _)
    | dsimp only
    | split

theorem capStage_changes (s : State) (k : Nat) (bytes : Nat) :
    changesOnly [.unit .exe, .unit .hz, .unit .grd, .unit .spr, .unit .net, .unit .sup] s (capStage s k bytes) := by
  unfold capStage
  repeat' first
    | with_reducible exact changesOnly.refl _ _
    | decide
    | with_reducible apply changesOnly.step (k := setCap_changes _ _ _)
    | with_reducible apply changesOnly.step (k := askWrite_changes _ _ _ _)
    | dsimp only
    | split

theorem capSlot_changes (s : State) (k : Nat) (n : Nat) :
    changesOnly [.unit .exe, .unit .hz, .unit .grd, .unit .spr, .unit .net, .unit .sup, .flag Reg.hzFlags 5] s (capSlot s k n) := by
  unfold capSlot
  repeat' first
    | with_reducible exact changesOnly.refl _ _
    | decide
    | with_reducible apply changesOnly.step (k := finishCapture_changes _ _ _)
    | with_reducible apply changesOnly.step (k := capStage_changes _ _ _)
    | with_reducible apply changesOnly.step (k := capSample_changes _ _ _)
    | dsimp only
    | split

theorem runCaptures_changes (s : State) (n : Nat) :
    changesOnly [.unit .exe, .unit .hz, .unit .grd, .unit .spr, .unit .net, .unit .sup, .flag Reg.hzFlags 5] s (runCaptures s n) := by
  unfold runCaptures
  repeat' first
    | with_reducible exact changesOnly.refl _ _
    | decide
    | with_reducible apply changesOnly.step (k := capSlot_changes _ _ _)
    | (with_reducible apply changesOnly.foldl; intro _ _)
    | dsimp only
    | split

theorem pcommit_changes (s : State) (n : Nat) :
    changesOnly [.unit .hz] s (pcommit s n) := by
  unfold pcommit
  repeat' first
    | with_reducible exact changesOnly.refl _ _
    | decide
    | with_reducible apply changesOnly.step (k := modLoop_changes _ _ _)

theorem setOpMode_changes (s : State) (n : Nat) (mode : Option Nat) (track : Option Nat) :
    changesOnly [.unit .hz] s (setOpMode s n mode track) := by
  unfold setOpMode
  repeat' first
    | with_reducible exact changesOnly.refl _ _
    | decide
    | with_reducible apply changesOnly.step (k := modLoop_changes _ _ _)

theorem setOpSp_changes (s : State) (n : Nat) (v : Nat) :
    changesOnly [.unit .hz] s (setOpSp s n v) := by
  unfold setOpSp
  repeat' first
    | with_reducible exact changesOnly.refl _ _
    | decide
    | with_reducible apply changesOnly.step (k := modLoop_changes _ _ _)

theorem setOpMv_changes (s : State) (n : Nat) (v : Nat) :
    changesOnly [.unit .hz] s (setOpMv s n v) := by
  unfold setOpMv
  repeat' first
    | with_reducible exact changesOnly.refl _ _
    | decide
    | with_reducible apply changesOnly.step (k := modLoop_changes _ _ _)

theorem writeLoopMode_changes (s : State) (v : Word) :
    changesOnly [.unit .hz, .flag Reg.hzFlags 6] s (writeLoopMode s v) := by
  unfold writeLoopMode
  repeat' first
    | with_reducible exact changesOnly.refl _ _
    | decide
    | with_reducible apply changesOnly.step (k := hzRaise_changes _ _)
    | with_reducible apply changesOnly.step (k := setOpMode_changes _ _ _ _)
    | with_reducible apply changesOnly.step (k := pcommit_changes _ _)
    | dsimp only
    | split

theorem writeLoopSp_changes (s : State) (v : Word) :
    changesOnly [.unit .hz, .flag Reg.hzFlags 6] s (writeLoopSp s v) := by
  unfold writeLoopSp
  repeat' first
    | with_reducible exact changesOnly.refl _ _
    | decide
    | with_reducible apply changesOnly.step (k := setOpSp_changes _ _ _)
    | with_reducible apply changesOnly.step (k := hzRaise_changes _ _)
    | dsimp only
    | split

theorem writeLoopMv_changes (s : State) (v : Word) :
    changesOnly [.unit .hz, .flag Reg.hzFlags 6] s (writeLoopMv s v) := by
  unfold writeLoopMv
  repeat' first
    | with_reducible exact changesOnly.refl _ _
    | decide
    | with_reducible apply changesOnly.step (k := setOpMv_changes _ _ _)
    | with_reducible apply changesOnly.step (k := hzRaise_changes _ _)
    | dsimp only
    | split

theorem fireCapture_changes (s : State) (k : Nat) :
    changesOnly [.unit .hz] s (fireCapture s k) := by
  unfold fireCapture
  repeat' first
    | with_reducible exact changesOnly.refl _ _
    | decide
    | with_reducible apply changesOnly.step (k := setCap_changes _ _ _)
    | dsimp only
    | split

theorem startInjection_changes (s : State) (g : Nat) :
    changesOnly [.unit .exe, .unit .hz, .unit .fch, .unit .grd, .unit .spr, .unit .cmd, .unit .net, .unit .can, .unit .sbk, .unit .pnl, .unit .sup, .ctr Reg.grdSnapRef, .ctr Reg.pnlSnapRef, .flag Reg.cmdFlags 4, .flag Reg.grdFlags 1, .flag Reg.grdFlags 3, .flag Reg.hzFlags 3, .flag Reg.hzFlags 4, .flag Reg.memFlags 6, .flag Reg.pnlFlags 3] s (startInjection s g) := by
  unfold startInjection
  repeat' first
    | with_reducible exact changesOnly.refl _ _
    | decide
    | with_reducible apply changesOnly.step (k := setGen_changes _ _ _)
    | with_reducible apply changesOnly.step (k := askLogic_changes _ _ _ _ _ _)
    | with_reducible apply changesOnly.step (k := fireCapture_changes _ _)
    | with_reducible apply changesOnly.step (k := endInjection_changes _ _ _)
    | dsimp only
    | split

theorem stopInjection_changes (s : State) (g : Nat) :
    changesOnly [.unit .hz, .unit .cmd, .unit .sbk, .flag Reg.cmdFlags 4, .flag Reg.hzFlags 3, .flag Reg.hzFlags 4] s (stopInjection s g) := by
  unfold stopInjection
  repeat' first
    | with_reducible exact changesOnly.refl _ _
    | decide
    | with_reducible apply changesOnly.step (k := endInjection_changes _ _ _)
    | dsimp only
    | split

theorem armCapture_changes (s : State) (k : Nat) :
    changesOnly [.unit .hz] s (armCapture s k) := by
  unfold armCapture
  repeat' first
    | with_reducible exact changesOnly.refl _ _
    | decide
    | with_reducible apply changesOnly.step (k := setCap_changes _ _ _)

theorem disarmCapture_changes (s : State) (k : Nat) :
    changesOnly [.unit .hz] s (disarmCapture s k) := by
  unfold disarmCapture
  repeat' first
    | with_reducible exact changesOnly.refl _ _
    | decide
    | with_reducible apply changesOnly.step (k := setCap_changes _ _ _)

theorem askArm_changes (s : State) (k : Nat) :
    changesOnly [.unit .hz, .flag Reg.hzFlags 6] s (askArm s k) := by
  unfold askArm
  repeat' first
    | with_reducible exact changesOnly.refl _ _
    | decide
    | with_reducible apply changesOnly.step (k := armCapture_changes _ _)
    | with_reducible apply changesOnly.step (k := hzRaise_changes _ _)
    | dsimp only
    | split

theorem loopWrite_changes {W : List Area} (s : State) (c : Ctx) (op : Nat) (i : Instr) (n : Nat) (bit_ : Nat) (body : State → State) (hbody : ∀ t, changesOnly W t (body t))
    (hw : within [.unit .cmd] W = true) :
    changesOnly W s (loopWrite s c op i n bit_ body) := by
  unfold loopWrite
  repeat' first
    | with_reducible exact changesOnly.refl _ _
    | assumption
    | decide
    | with_reducible apply changesOnly.trans (k := hbody _)
    | with_reducible apply changesOnly.trans (k := command_changes _ _ _ _ _ _ _ ?_ ?_)
    | with_reducible apply changesOnly.trans (k := ((refuse_changes _ _ _ _ _).mono (show within _ [.unit .cmd] = true by decide)).mono hw)
    | with_reducible apply changesOnly.trans (k := ((ok_changes _ _ _ _).mono (show within _ [.unit .cmd] = true by decide)).mono hw)
    | dsimp only
    | split

theorem stageParams_changes (s : State) (n : Nat) (w : Nat) (ws : List Word) :
    changesOnly [.unit .hz] s (stageParams s n w ws) := by
  unfold stageParams
  repeat' first
    | with_reducible exact changesOnly.refl _ _
    | decide
    | with_reducible apply changesOnly.step (k := modLoop_changes _ _ _)

theorem setRegion_changes (s : State) (r : Nat) (x : MemRegion) :
    changesOnly [.unit .mem] s (setRegion s r x) := by
  unfold setRegion
  repeat' first
    | with_reducible exact changesOnly.refl _ _
    | decide
    | (fail_if_no_progress (with_reducible apply changesOnly.step (k := mem_changes _ _)) <;> try first | decide)

theorem memRaise_changes (s : State) (n : Nat) :
    changesOnly [.flag Reg.memFlags n] s (memRaise s n) := by
  unfold memRaise
  repeat' first
    | with_reducible exact changesOnly.refl _ _
    | decide
    | with_reducible exact within_refl _
    | (simp [within, takesIn, Area.covers]; done)
    | with_reducible apply changesOnly.step (k := raise_changes _ _ _ _)

theorem setMemWord_changes (s : State) (idx : Nat) (w : List Byte) :
    changesOnly [.unit .mem] s (setMemWord s idx w) := by
  unfold setMemWord
  repeat' first
    | with_reducible exact changesOnly.refl _ _
    | decide
    | (fail_if_no_progress (with_reducible apply changesOnly.step (k := mem_changes _ _)) <;> try first | decide)

theorem countHour_changes (s : State) (r : Nat) (lane : Nat) :
    changesOnly [.unit .mem] s (countHour s r lane) := by
  unfold countHour
  repeat' first
    | with_reducible exact changesOnly.refl _ _
    | decide
    | (fail_if_no_progress (with_reducible apply changesOnly.step (k := mem_changes _ _)) <;> try first | decide)

theorem logCorrection_changes (s : State) (idx : Nat) (lanes : List Nat) (cls : Nat) (src : MemSource) :
    changesOnly [.unit .mem, .flag Reg.memFlags 5] s (logCorrection s idx lanes cls src) := by
  unfold logCorrection
  repeat' first
    | with_reducible exact changesOnly.refl _ _
    | decide
    | (fail_if_no_progress (with_reducible apply changesOnly.step (k := mem_changes _ _)) <;> try first | decide)
    | with_reducible apply changesOnly.step (k := memRaise_changes _ _)
    | dsimp only
    | split

theorem askAccel_changes (s : State) (r : Nat) :
    changesOnly [.unit .exe, .unit .fch, .unit .grd, .unit .spr, .unit .cmd, .unit .net, .unit .can, .unit .sbk, .unit .pnl, .unit .sup, .ctr Reg.grdSnapRef, .ctr Reg.pnlSnapRef, .flag Reg.grdFlags 1, .flag Reg.grdFlags 3, .flag Reg.memFlags 6, .flag Reg.pnlFlags 3] s (askAccel s r) := by
  unfold askAccel
  repeat' first
    | with_reducible exact changesOnly.refl _ _
    | decide
    | with_reducible apply changesOnly.step (k := askLogic_changes _ _ _ _ _ _)

theorem startAccel_changes (s : State) (r : Nat) :
    changesOnly [.unit .exe, .unit .fch, .unit .grd, .unit .mem, .unit .spr, .unit .cmd, .unit .net, .unit .can, .unit .sbk, .unit .pnl, .unit .sup, .ctr Reg.grdSnapRef, .ctr Reg.pnlSnapRef, .flag Reg.grdFlags 1, .flag Reg.grdFlags 3, .flag Reg.memFlags 6, .flag Reg.pnlFlags 3] s (startAccel s r) := by
  unfold startAccel
  repeat' first
    | with_reducible exact changesOnly.refl _ _
    | decide
    | with_reducible apply changesOnly.step (k := askAccel_changes _ _)
    | with_reducible apply changesOnly.step (k := setRegion_changes _ _ _)
    | dsimp only
    | split

theorem noteRecent_changes (s : State) (r : Nat) :
    changesOnly [.unit .exe, .unit .fch, .unit .grd, .unit .mem, .unit .spr, .unit .cmd, .unit .net, .unit .can, .unit .sbk, .unit .pnl, .unit .sup, .ctr Reg.grdSnapRef, .ctr Reg.pnlSnapRef, .flag Reg.grdFlags 1, .flag Reg.grdFlags 3, .flag Reg.memFlags 6, .flag Reg.pnlFlags 3] s (noteRecent s r) := by
  unfold noteRecent
  repeat' first
    | with_reducible exact changesOnly.refl _ _
    | decide
    | with_reducible apply changesOnly.step (k := setRegion_changes _ _ _)
    | with_reducible apply changesOnly.step (k := startAccel_changes _ _)
    | dsimp only
    | split

theorem startCopies_changes (s : State) :
    changesOnly [.unit .mem] s (startCopies s) := by
  unfold startCopies
  repeat' first
    | with_reducible exact changesOnly.refl _ _
    | decide
    | with_reducible apply changesOnly.step (k := setRegion_changes _ _ _)
    | dsimp only
    | split

theorem laneErased_changes (s : State) (r : Nat) (lane : Nat) :
    changesOnly [.unit .exe, .unit .pair, .unit .mem, .unit .cmd, .unit .sbk, .flag Reg.cmdFlags 4, .flag Reg.memFlags 3] s (laneErased s r lane) := by
  unfold laneErased
  repeat' first
    | with_reducible exact changesOnly.refl _ _
    | decide
    | (fail_if_no_progress (with_reducible apply changesOnly.step (k := exe_changes _ _)) <;> try first | decide)
    | with_reducible apply changesOnly.step (k := post_changes _ _ _ _ _ _)
    | with_reducible apply changesOnly.step (k := memRaise_changes _ _)
    | with_reducible apply changesOnly.step (k := setRegion_changes _ _ _)
    | with_reducible apply changesOnly.step (k := send_changes _ _)
    | with_reducible apply changesOnly.step (k := startHandover_changes _ _ _)
    | dsimp only
    | split

theorem retireLane_changes (s : State) (r : Nat) (lane : Nat) :
    changesOnly [.unit .exe, .unit .grd, .unit .pair, .unit .mem, .unit .spr, .unit .cmd, .unit .net, .unit .sbk, .unit .sup, .flag Reg.cmdFlags 4, .flag Reg.memFlags 1, .flag Reg.memFlags 3, .flag Reg.sprFlags 2] s (retireLane s r lane) := by
  unfold retireLane
  repeat' first
    | with_reducible exact changesOnly.refl _ _
    | decide
    | with_reducible apply changesOnly.step (k := post_changes _ _ _ _ _ _)
    | with_reducible apply changesOnly.step (k := memRaise_changes _ _)
    | with_reducible apply changesOnly.step (k := writeSproutRecord_changes _)
    | with_reducible apply changesOnly.step (k := startCopies_changes _)
    | with_reducible apply changesOnly.step (k := setRegion_changes _ _ _)
    | with_reducible apply changesOnly.step (k := laneErased_changes _ _ _)
    | with_reducible apply changesOnly.step (k := exhausted_changes _ _)
    | dsimp only
    | split

theorem hardFault_changes (s : State) (idx : Nat) (lane : Nat) :
    changesOnly [.unit .exe, .unit .grd, .unit .pair, .unit .mem, .unit .spr, .unit .cmd, .unit .net, .unit .sbk, .unit .sup, .flag Reg.cmdFlags 4, .flag Reg.memFlags 1, .flag Reg.memFlags 3, .flag Reg.sprFlags 2] s (hardFault s idx lane) := by
  unfold hardFault
  repeat' first
    | with_reducible exact changesOnly.refl _ _
    | decide
    | with_reducible apply changesOnly.step (k := setRegion_changes _ _ _)
    | with_reducible apply changesOnly.step (k := retireLane_changes _ _ _)
    | dsimp only
    | split

theorem corrCounter_window (r : Nat) : windowOf (corrCounter r) = 8 := by
  have : r % 4 < 4 := Nat.mod_lt _ (by decide)
  simp only [windowOf, corrCounter, Reg.memSnapCorr0]
  omega

theorem countCorrection_changes (s : State) (idx : Nat) (lanes : List Nat) (erased : Bool) (src : MemSource) :
    changesOnly [.unit .exe, .unit .fch, .unit .grd, .unit .pair, .unit .mem, .unit .spr, .unit .cmd, .unit .net, .unit .can, .unit .sbk, .unit .pnl, .unit .sup, .ctr Reg.grdSnapRef, .ctr Reg.pnlSnapRef, .flag Reg.cmdFlags 4, .flag Reg.grdFlags 1, .flag Reg.grdFlags 3, .flag Reg.memFlags 0, .flag Reg.memFlags 1, .flag Reg.memFlags 3, .flag Reg.memFlags 5, .flag Reg.memFlags 6, .flag Reg.pnlFlags 3, .flag Reg.sprFlags 2, .ctrsOf 8] s (countCorrection s idx lanes erased src) := by
  unfold countCorrection
  repeat' first
    | with_reducible exact changesOnly.refl _ _
    | decide
    | with_reducible exact within_refl _
    | (simp [within, takesIn, Area.covers, corrCounter_window]; done)
    | with_reducible apply changesOnly.step (k := logCorrection_changes _ _ _ _ _)
    | with_reducible apply changesOnly.step (k := countUp_changes _ _ _)
    | with_reducible apply changesOnly.step (k := memRaise_changes _ _)
    | with_reducible apply changesOnly.step (k := noteRecent_changes _ _)
    | with_reducible apply changesOnly.step (k := countHour_changes _ _ _)
    | with_reducible apply changesOnly.step (k := retireLane_changes _ _ _)
    | (with_reducible apply changesOnly.foldl; intro _ _)
    | dsimp only
    | split

theorem readWord16_changes (s : State) (idx : Nat) (u : MemUpset) (src : MemSource) :
    changesOnly [.unit .own, .unit .exe, .unit .hz, .unit .fch, .unit .grd, .unit .wnt, .unit .pair, .unit .mem, .unit .spr, .unit .cmd, .unit .net, .unit .can, .unit .sbk, .unit .pnl, .unit .sup, .ctr Reg.grdSnapRef, .ctr Reg.pnlSnapRef, .flag Reg.cmdFlags 4, .flag Reg.grdFlags 1, .flag Reg.grdFlags 3, .flag Reg.hzFlags 3, .flag Reg.hzFlags 4, .flag Reg.hzFlags 5, .flag Reg.memFlags 0, .flag Reg.memFlags 1, .flag Reg.memFlags 3, .flag Reg.memFlags 5, .flag Reg.memFlags 6, .flag Reg.pnlFlags 3, .flag Reg.ppdFlags 10, .flag Reg.ppdFlags 2, .flag Reg.sprFlags 2, .ctrsOf 8] s (readWord16 s idx u src).1 := by
  unfold readWord16
  repeat' first
    | with_reducible exact changesOnly.refl _ _
    | decide
    | with_reducible apply changesOnly.step (k := setMemWord_changes _ _ _)
    | with_reducible apply changesOnly.step (k := moduleFault_changes _ _ _ _ _)
    | with_reducible apply changesOnly.step (k := countCorrection_changes _ _ _ _ _)
    | with_reducible apply changesOnly.step (k := hardFault_changes _ _ _)
    | (with_reducible apply changesOnly.foldl; intro _ _)
    | dsimp only
    | split

theorem answered_changes (s : State) (a : Option (List Byte)) :
    changesOnly [.unit .mem] s (answered s a) := by
  unfold answered
  repeat' first
    | with_reducible exact changesOnly.refl _ _
    | decide
    | (fail_if_no_progress (with_reducible apply changesOnly.step (k := mem_changes _ _)) <;> try first | decide)

theorem storeWord_changes (s : State) (idx : Nat) (d : List Nat) :
    changesOnly [.unit .mem] s (storeWord s idx d) := by
  unfold storeWord
  repeat' first
    | with_reducible exact changesOnly.refl _ _
    | decide
    | with_reducible apply changesOnly.step (k := setMemWord_changes _ _ _)

theorem writeWord16_changes (addr : Nat) (data : List Byte) (u : MemUpset) (s : State) (idx : Nat) :
    changesOnly [.unit .own, .unit .exe, .unit .hz, .unit .fch, .unit .grd, .unit .wnt, .unit .pair, .unit .mem, .unit .spr, .unit .cmd, .unit .net, .unit .can, .unit .sbk, .unit .pnl, .unit .sup, .ctr Reg.grdSnapRef, .ctr Reg.pnlSnapRef, .flag Reg.cmdFlags 4, .flag Reg.grdFlags 1, .flag Reg.grdFlags 3, .flag Reg.hzFlags 3, .flag Reg.hzFlags 4, .flag Reg.hzFlags 5, .flag Reg.memFlags 0, .flag Reg.memFlags 1, .flag Reg.memFlags 3, .flag Reg.memFlags 5, .flag Reg.memFlags 6, .flag Reg.pnlFlags 3, .flag Reg.ppdFlags 10, .flag Reg.ppdFlags 2, .flag Reg.sprFlags 2, .ctrsOf 8] s (writeWord16 addr data u s idx) := by
  unfold writeWord16
  dsimp only
  split
  · exact changesOnly.mono (storeWord_changes _ _ _) (by decide)
  · have k := readWord16_changes s idx u .modify
    split
    · next t d h =>
      rw [h] at k
      exact (k.mono (by decide)).step (storeWord_changes _ _ _) (by decide)
    · next t h =>
      rw [h] at k
      exact (k.mono (by decide)).step (answered_changes _ _) (by decide)

theorem renewAccel_changes (s : State) (r : Nat) :
    changesOnly [.unit .exe, .unit .fch, .unit .grd, .unit .mem, .unit .spr, .unit .cmd, .unit .net, .unit .can, .unit .sbk, .unit .pnl, .unit .sup, .ctr Reg.grdSnapRef, .ctr Reg.pnlSnapRef, .flag Reg.grdFlags 1, .flag Reg.grdFlags 3, .flag Reg.memFlags 6, .flag Reg.pnlFlags 3] s (renewAccel s r) := by
  unfold renewAccel
  repeat' first
    | with_reducible exact changesOnly.refl _ _
    | decide
    | with_reducible apply changesOnly.step (k := askAccel_changes _ _)
    | with_reducible apply changesOnly.step (k := setRegion_changes _ _ _)
    | dsimp only
    | split

theorem lapAlarm_changes (s : State) :
    changesOnly [.unit .mem, .unit .cmd, .unit .sbk, .flag Reg.cmdFlags 4, .flag Reg.memFlags 4] s (lapAlarm s) := by
  unfold lapAlarm
  repeat' first
    | with_reducible exact changesOnly.refl _ _
    | decide
    | (fail_if_no_progress (with_reducible apply changesOnly.step (k := mem_changes _ _)) <;> try first | decide)
    | with_reducible apply changesOnly.step (k := post_changes _ _ _ _ _ _)
    | with_reducible apply changesOnly.step (k := memRaise_changes _ _)

theorem mramSet_changes (s : State) (k : Nat) (d : List Nat) :
    changesOnly [.unit .mem] s (mramSet s k d) := by
  unfold mramSet
  repeat' first
    | with_reducible exact changesOnly.refl _ _
    | decide
    | (fail_if_no_progress (with_reducible apply changesOnly.step (k := mem_changes _ _)) <;> try first | decide)

theorem mramLost_changes (s : State) (k : Nat) :
    changesOnly [.unit .own, .unit .exe, .unit .hz, .unit .fch, .unit .grd, .unit .wnt, .unit .pair, .unit .spr, .unit .cmd, .unit .net, .unit .sbk, .unit .sup, .ctr Reg.grdSnapRef, .flag Reg.cmdFlags 4, .flag Reg.grdFlags 1, .flag Reg.grdFlags 3, .flag Reg.hzFlags 3, .flag Reg.hzFlags 4, .flag Reg.hzFlags 5, .flag Reg.ppdFlags 10, .flag Reg.ppdFlags 2] s (mramLost s k) := by
  unfold mramLost
  repeat' first
    | with_reducible exact changesOnly.refl _ _
    | decide
    | with_reducible apply changesOnly.step (k := moduleFault_changes _ _ _ _ _)

theorem mramWord_changes (addr : Nat) (data : List Byte) (s : State) (i : Nat) :
    changesOnly [.unit .own, .unit .exe, .unit .hz, .unit .fch, .unit .grd, .unit .wnt, .unit .pair, .unit .mem, .unit .spr, .unit .cmd, .unit .net, .unit .sbk, .unit .sup, .ctr Reg.grdSnapRef, .flag Reg.cmdFlags 4, .flag Reg.grdFlags 1, .flag Reg.grdFlags 3, .flag Reg.hzFlags 3, .flag Reg.hzFlags 4, .flag Reg.hzFlags 5, .flag Reg.ppdFlags 10, .flag Reg.ppdFlags 2] s (mramWord addr data s i) := by
  unfold mramWord
  repeat' first
    | with_reducible exact changesOnly.refl _ _
    | decide
    | with_reducible apply changesOnly.step (k := mramSet_changes _ _ _)
    | with_reducible apply changesOnly.step (k := mramLost_changes _ _)
    | dsimp only
    | split

theorem mramPut_changes (s : State) (addr : Nat) (data : List Byte) :
    changesOnly [.unit .own, .unit .exe, .unit .hz, .unit .fch, .unit .grd, .unit .wnt, .unit .pair, .unit .mem, .unit .spr, .unit .cmd, .unit .net, .unit .sbk, .unit .sup, .ctr Reg.grdSnapRef, .flag Reg.cmdFlags 4, .flag Reg.grdFlags 1, .flag Reg.grdFlags 3, .flag Reg.hzFlags 3, .flag Reg.hzFlags 4, .flag Reg.hzFlags 5, .flag Reg.ppdFlags 10, .flag Reg.ppdFlags 2] s (mramPut s addr data) := by
  unfold mramPut
  repeat' first
    | with_reducible exact changesOnly.refl _ _
    | decide
    | with_reducible apply changesOnly.step (k := mramWord_changes _ _ _ _)
    | (with_reducible apply changesOnly.foldl; intro _ _)
    | dsimp only
    | split

theorem mramFailed_changes (s : State) (use : MramUse) :
    changesOnly [.unit .hz, .unit .cmd, .unit .sbk, .flag Reg.cmdFlags 4, .flag Reg.memFlags 9] s (mramFailed s use) := by
  unfold mramFailed
  repeat' first
    | with_reducible exact changesOnly.refl _ _
    | decide
    | with_reducible apply changesOnly.step (k := post_changes _ _ _ _ _ _)
    | with_reducible apply changesOnly.step (k := memRaise_changes _ _)
    | with_reducible apply changesOnly.step (k := setCap_changes _ _ _)
    | dsimp only
    | split

theorem mramWrite_changes (s : State) (x : MramWait) :
    changesOnly [.unit .own, .unit .exe, .unit .hz, .unit .fch, .unit .grd, .unit .wnt, .unit .pair, .unit .mem, .unit .spr, .unit .cmd, .unit .net, .unit .sbk, .unit .sup, .ctr Reg.grdSnapRef, .flag Reg.cmdFlags 4, .flag Reg.grdFlags 1, .flag Reg.grdFlags 3, .flag Reg.hzFlags 3, .flag Reg.hzFlags 4, .flag Reg.hzFlags 5, .flag Reg.memFlags 9, .flag Reg.ppdFlags 10, .flag Reg.ppdFlags 2, .flag Reg.sprFlags 2] s (mramWrite s x) := by
  unfold mramWrite
  repeat' first
    | with_reducible exact changesOnly.refl _ _
    | decide
    | (fail_if_no_progress (with_reducible apply changesOnly.step (k := mem_changes _ _)) <;> try first | decide)
    | with_reducible apply changesOnly.step (k := mramPut_changes _ _ _)
    | with_reducible apply changesOnly.step (k := mramFailed_changes _ _)
    | with_reducible apply changesOnly.step (k := exhausted_changes _ _)
    | with_reducible apply changesOnly.step (k := askWrite_changes _ _ _ _)
    | dsimp only
    | split

theorem resumeWrites_changes (s : State) :
    changesOnly [.unit .own, .unit .exe, .unit .hz, .unit .fch, .unit .grd, .unit .wnt, .unit .pair, .unit .mem, .unit .spr, .unit .cmd, .unit .net, .unit .sbk, .unit .sup, .ctr Reg.grdSnapRef, .flag Reg.cmdFlags 4, .flag Reg.grdFlags 1, .flag Reg.grdFlags 3, .flag Reg.hzFlags 3, .flag Reg.hzFlags 4, .flag Reg.hzFlags 5, .flag Reg.memFlags 9, .flag Reg.ppdFlags 10, .flag Reg.ppdFlags 2, .flag Reg.sprFlags 2] s (resumeWrites s) := by
  unfold resumeWrites
  repeat' first
    | with_reducible exact changesOnly.refl _ _
    | decide
    | (fail_if_no_progress (with_reducible apply changesOnly.step (k := mem_changes _ _)) <;> try first | decide)
    | with_reducible apply changesOnly.step (k := mramWrite_changes _ _)
    | (with_reducible apply changesOnly.foldl; intro _ _)

theorem copyMramWord_changes (from_ : Nat) (to_ : Nat) (s : State) (p : Nat × List Byte) :
    changesOnly [.unit .own, .unit .exe, .unit .hz, .unit .fch, .unit .grd, .unit .wnt, .unit .pair, .unit .mem, .unit .spr, .unit .cmd, .unit .net, .unit .sbk, .unit .sup, .ctr Reg.grdSnapRef, .flag Reg.cmdFlags 4, .flag Reg.grdFlags 1, .flag Reg.grdFlags 3, .flag Reg.hzFlags 3, .flag Reg.hzFlags 4, .flag Reg.hzFlags 5, .flag Reg.ppdFlags 10, .flag Reg.ppdFlags 2] s (copyMramWord from_ to_ s p) := by
  unfold copyMramWord
  repeat' first
    | with_reducible exact changesOnly.refl _ _
    | decide
    | with_reducible apply changesOnly.step (k := mramSet_changes _ _ _)
    | with_reducible apply changesOnly.step (k := mramLost_changes _ _)
    | dsimp only
    | split

end Sys2Proof
end

