-- ==== Sys2Proof/Laws/FrameTime.lean ====
section
/-! SUPPORT. Laws/FrameTime.lean: for each shared operation everything it may change: the plant network and its servo, the panel and Walnut. -/
namespace Sys2Proof
open Sys2Proof.Machine

theorem startFrame_changes (s : State) (p : Nat) (f : NetSent) :
    changesOnly [.unit .net] s (startFrame s p f) := by
  unfold startFrame
  repeat' first
    | with_reducible exact changesOnly.refl _ _
    | decide
    | (fail_if_no_progress (with_reducible apply changesOnly.step (k := net_changes _ _)) <;> try first | decide)
    | with_reducible apply changesOnly.step (k := modNet_changes _ _ _)

theorem offerFrame_changes (s : State) (p : Nat) (f : NetSent) :
    changesOnly [.unit .net] s (offerFrame s p f) := by
  unfold offerFrame
  repeat' first
    | with_reducible exact changesOnly.refl _ _
    | decide
    | with_reducible apply changesOnly.step (k := startFrame_changes _ _ _)
    | with_reducible apply changesOnly.step (k := modNet_changes _ _ _)
    | dsimp only
    | split

theorem flushPort_changes (s : State) (p : Nat) :
    changesOnly [.unit .net] s (flushPort s p) := by
  unfold flushPort
  repeat' first
    | with_reducible exact changesOnly.refl _ _
    | decide
    | with_reducible apply changesOnly.step (k := offerFrame_changes _ _ _)
    | with_reducible apply changesOnly.step (k := modNet_changes _ _ _)
    | (with_reducible apply changesOnly.foldl; intro _ _)

theorem sendFrame_changes (s : State) (p : Nat) (f : NetSent) :
    changesOnly [.unit .net] s (sendFrame s p f) := by
  unfold sendFrame
  repeat' first
    | with_reducible exact changesOnly.refl _ _
    | decide
    | with_reducible apply changesOnly.step (k := offerFrame_changes _ _ _)
    | with_reducible apply changesOnly.step (k := flushPort_changes _ _)

theorem nextTrailer_changes (s : State) (p : Nat) :
    changesOnly [.unit .net] s (nextTrailer s p) := by
  unfold nextTrailer
  repeat' first
    | with_reducible exact changesOnly.refl _ _
    | decide
    | (fail_if_no_progress (with_reducible apply changesOnly.step (k := net_changes _ _)) <;> try first | decide)

theorem sendOn_changes (s : State) (p : Nat) (f : Nat → Option Nat → NetSent) :
    changesOnly [.unit .net] s (sendOn s p f) := by
  unfold sendOn
  repeat' first
    | with_reducible exact changesOnly.refl _ _
    | decide
    | with_reducible apply changesOnly.step (k := nextTrailer_changes _ _)
    | with_reducible apply changesOnly.step (k := sendFrame_changes _ _ _)
    | (with_reducible apply changesOnly.foldl; intro _ _)

theorem setLan_changes (s : State) (b : Bool) (on : Bool) :
    changesOnly [.unit .net] s (setLan s b on) := by
  unfold setLan
  repeat' first
    | with_reducible exact changesOnly.refl _ _
    | decide
    | (fail_if_no_progress (with_reducible apply changesOnly.step (k := net_changes _ _)) <;> try first | decide)
    | dsimp only
    | split

theorem lanFails_changes (s : State) (b : Bool) :
    changesOnly [.unit .cmd, .unit .net, .unit .sbk, .flag Reg.cmdFlags 4, .flag Reg.netFlags 1, .flag Reg.netFlags 5] s (lanFails s b) := by
  unfold lanFails
  repeat' first
    | with_reducible exact changesOnly.refl _ _
    | decide
    | with_reducible apply changesOnly.step (k := post_changes _ _ _ _ _ _)
    | with_reducible apply changesOnly.step (k := netRaise_changes _ _)
    | with_reducible apply changesOnly.step (k := setLan_changes _ _ _)
    | with_reducible apply changesOnly.step (k := slaveLost_changes _ _ _)
    | dsimp only
    | split

theorem portDown_changes (s : State) (p : Nat) :
    changesOnly [.unit .cmd, .unit .net, .unit .sbk, .flag Reg.cmdFlags 4, .flag Reg.netFlags 1, .flag Reg.netFlags 5] s (portDown s p) := by
  unfold portDown
  repeat' first
    | with_reducible exact changesOnly.refl _ _
    | decide
    | (fail_if_no_progress (with_reducible apply changesOnly.step (k := net_changes _ _)) <;> try first | decide)
    | with_reducible apply changesOnly.step (k := setNetPort_changes _ _ _)
    | with_reducible apply changesOnly.step (k := slaveLost_changes _ _ _)
    | with_reducible apply changesOnly.step (k := lanFails_changes _ _)
    | dsimp only
    | split

theorem notePrp_changes (s : State) (f : EthFrame) :
    changesOnly [.unit .net] s (notePrp s f) := by
  unfold notePrp
  repeat' first
    | with_reducible exact changesOnly.refl _ _
    | decide
    | (fail_if_no_progress (with_reducible apply changesOnly.step (k := net_changes _ _)) <;> try first | decide)

theorem deliver_changes (s : State) (p : Nat) (f : EthFrame) :
    changesOnly [.unit .net] s (deliver s p f) := by
  unfold deliver
  repeat' first
    | with_reducible exact changesOnly.refl _ _
    | decide
    | (fail_if_no_progress (with_reducible apply changesOnly.step (k := net_changes _ _)) <;> try first | decide)
    | with_reducible apply changesOnly.step (k := sendOn_changes _ _ _)
    | dsimp only
    | split

theorem seenFrame_changes (s : State) (p : Nat) :
    changesOnly [.unit .net] s (seenFrame s p) := by
  unfold seenFrame
  repeat' first
    | with_reducible exact changesOnly.refl _ _
    | decide
    | (fail_if_no_progress (with_reducible apply changesOnly.step (k := net_changes _ _)) <;> try first | decide)
    | with_reducible apply changesOnly.step (k := modNet_changes _ _ _)
    | dsimp only
    | split

theorem rejectBeacon_changes (s : State) :
    changesOnly [.ctr Reg.netSnapBeaconrej, .flag Reg.netFlags 2] s (rejectBeacon s) := by
  unfold rejectBeacon
  repeat' first
    | with_reducible exact changesOnly.refl _ _
    | decide
    | with_reducible apply changesOnly.step (k := netRaise_changes _ _)
    | with_reducible apply changesOnly.step (k := countUp_changes _ _ _)

theorem setStation_changes (s : State) (i : Nat) (e : StationEntry) :
    changesOnly [.unit .net] s (setStation s i e) := by
  unfold setStation
  repeat' first
    | with_reducible exact changesOnly.refl _ _
    | decide
    | (fail_if_no_progress (with_reducible apply changesOnly.step (k := net_changes _ _)) <;> try first | decide)

theorem enterRecord_changes (s : State) (b : Beacon) :
    changesOnly [.unit .cmd, .unit .net, .unit .sbk, .flag Reg.cmdFlags 4, .flag Reg.netFlags 3] s (enterRecord s b) := by
  unfold enterRecord
  repeat' first
    | with_reducible exact changesOnly.refl _ _
    | decide
    | with_reducible apply changesOnly.step (k := setStation_changes _ _ _)
    | with_reducible apply changesOnly.step (k := post_changes _ _ _ _ _ _)
    | with_reducible apply changesOnly.step (k := netRaise_changes _ _)
    | dsimp only
    | split

theorem verifySignature_changes (s : State) (holds : Bool) :
    changesOnly [.ctr Reg.truSnapFail, .ctr Reg.truSnapVerify] s (verifySignature s holds) := by
  unfold verifySignature
  repeat' first
    | with_reducible exact changesOnly.refl _ _
    | decide
    | with_reducible apply changesOnly.step (k := countUp_changes _ _ _)
    | dsimp only
    | split

theorem judgeBeacon_changes (s0 : State) (b : Beacon) :
    changesOnly [.unit .cmd, .unit .net, .unit .sbk, .ctr Reg.netSnapBeaconrej, .ctr Reg.truSnapFail, .ctr Reg.truSnapVerify, .flag Reg.cmdFlags 4, .flag Reg.netFlags 2, .flag Reg.netFlags 3] s0 (judgeBeacon s0 b) := by
  unfold judgeBeacon
  repeat' first
    | with_reducible exact changesOnly.refl _ _
    | decide
    | (fail_if_no_progress (with_reducible apply changesOnly.step (k := net_changes _ _)) <;> try first | decide)
    | with_reducible apply changesOnly.step (k := verifySignature_changes _ _)
    | with_reducible apply changesOnly.step (k := enterRecord_changes _ _)
    | with_reducible apply changesOnly.step (k := rejectBeacon_changes _)
    | dsimp only
    | split

theorem sendPtp_changes (s : State) (p : Nat) (f : Nat → Nat → NetSent) :
    changesOnly [.unit .net] s (sendPtp s p f) := by
  unfold sendPtp
  repeat' first
    | with_reducible exact changesOnly.refl _ _
    | decide
    | with_reducible apply changesOnly.step (k := sendFrame_changes _ _ _)

theorem takeOffset_changes (s : State) (p : Nat) (forward : Int) :
    changesOnly [.unit .net] s (takeOffset s p forward) := by
  unfold takeOffset
  repeat' first
    | with_reducible exact changesOnly.refl _ _
    | decide
    | with_reducible apply changesOnly.step (k := modNet_changes _ _ _)

theorem takeAnnounce_changes (s : State) (p : Nat) (a : Announce) :
    changesOnly [.unit .net] s (takeAnnounce s p a) := by
  unfold takeAnnounce
  repeat' first
    | with_reducible exact changesOnly.refl _ _
    | decide
    | with_reducible apply changesOnly.step (k := modNet_changes _ _ _)

theorem takePtp_changes (s : State) (p : Nat) (m : PtpMessage) :
    changesOnly [.unit .free, .unit .net, .ctr Reg.netSnapPtpign] s (takePtp s p m) := by
  unfold takePtp
  repeat' first
    | with_reducible exact changesOnly.refl _ _
    | decide
    | with_reducible apply changesOnly.step (k := takeAnnounce_changes _ _ _)
    | with_reducible apply changesOnly.step (k := setNetPort_changes _ _ _)
    | with_reducible apply changesOnly.step (k := takeOffset_changes _ _ _)
    | with_reducible apply changesOnly.step (k := sendPtp_changes _ _ _)
    | with_reducible apply changesOnly.step (k := freeNext_changes _)
    | with_reducible apply changesOnly.step (k := countUp_changes _ _ _)
    | dsimp only
    | split

theorem lockUpdate_changes (s : State) (off : Int) (base : Int) (f : Int) :
    changesOnly [.unit .net] s (lockUpdate s off base f) := by
  unfold lockUpdate
  repeat' first
    | with_reducible exact changesOnly.refl _ _
    | decide
    | (fail_if_no_progress (with_reducible apply changesOnly.step (k := net_changes _ _)) <;> try first | decide)

theorem steer_changes (s : State) (off : Int) :
    changesOnly [.unit .free, .unit .net] s (steer s off) := by
  unfold steer
  repeat' first
    | with_reducible exact changesOnly.refl _ _
    | decide
    | with_reducible apply changesOnly.step (k := freeNext_changes _)
    | with_reducible apply changesOnly.step (k := lockUpdate_changes _ _ _ _)

theorem steerPartner_changes (s : State) (off : Int) :
    changesOnly [.unit .free, .unit .net] s (steerPartner s off) := by
  unfold steerPartner
  repeat' first
    | with_reducible exact changesOnly.refl _ _
    | decide
    | with_reducible apply changesOnly.step (k := lockUpdate_changes _ _ _ _)
    | with_reducible apply changesOnly.step (k := freeNext_changes _)

theorem refuseJump_changes (s : State) (off : Int) :
    changesOnly [.unit .cmd, .unit .net, .unit .sbk, .flag Reg.cmdFlags 4, .flag Reg.netFlags 5, .flag Reg.netFlags 6] s (refuseJump s off) := by
  unfold refuseJump
  repeat' first
    | with_reducible exact changesOnly.refl _ _
    | decide
    | (fail_if_no_progress (with_reducible apply changesOnly.step (k := net_changes _ _)) <;> try first | decide)
    | with_reducible apply changesOnly.step (k := toHoldover_changes _ _)
    | with_reducible apply changesOnly.step (k := enterHoldover_changes _ _)
    | with_reducible apply changesOnly.step (k := post_changes _ _ _ _ _ _)
    | with_reducible apply changesOnly.step (k := netRaise_changes _ _)
    | dsimp only
    | split

theorem leaveHoldover_changes (s : State) :
    changesOnly [.unit .net] s (leaveHoldover s) := by
  unfold leaveHoldover
  repeat' first
    | with_reducible exact changesOnly.refl _ _
    | decide
    | (fail_if_no_progress (with_reducible apply changesOnly.step (k := net_changes _ _)) <;> try first | decide)
    | dsimp only
    | split

theorem servoFollow_changes (s : State) (measured : Nat) (off : Int) :
    changesOnly [.unit .free, .unit .now, .unit .exe, .unit .hz, .unit .fch, .unit .grd, .unit .gmu, .unit .pair, .unit .cmd, .unit .net, .unit .can, .unit .sbk, .ctr Reg.exeSnapSkip, .ctr Reg.grdSnapRef, .ctr Reg.netSnapTtlate, .flag Reg.cmdFlags 4, .flag Reg.exeFlags 3, .flag Reg.gmuFlags 3, .flag Reg.gmuFlags 7, .flag Reg.grdFlags 1, .flag Reg.grdFlags 3, .flag Reg.netFlags 5, .flag Reg.netFlags 6, .flag Reg.netFlags 7, .flag Reg.netFlags 8] s (servoFollow s measured off) := by
  unfold servoFollow
  repeat' first
    | with_reducible exact changesOnly.refl _ _
    | decide
    | (fail_if_no_progress (with_reducible apply changesOnly.step (k := net_changes _ _)) <;> try first | decide)
    | with_reducible apply changesOnly.step (k := acceptStep_changes _ _)
    | with_reducible apply changesOnly.step (k := steer_changes _ _)
    | with_reducible apply changesOnly.step (k := leaveHoldover_changes _)
    | with_reducible apply changesOnly.step (k := refuseJump_changes _ _)
    | dsimp only
    | split

theorem servoCan_changes (s : State) (p : Nat) :
    changesOnly [.unit .free, .unit .now, .unit .exe, .unit .hz, .unit .fch, .unit .grd, .unit .gmu, .unit .pair, .unit .cmd, .unit .net, .unit .can, .unit .sbk, .ctr Reg.exeSnapSkip, .ctr Reg.grdSnapRef, .ctr Reg.netSnapTtlate, .flag Reg.cmdFlags 4, .flag Reg.exeFlags 3, .flag Reg.gmuFlags 3, .flag Reg.gmuFlags 7, .flag Reg.grdFlags 1, .flag Reg.grdFlags 3, .flag Reg.netFlags 5, .flag Reg.netFlags 6, .flag Reg.netFlags 7, .flag Reg.netFlags 8] s (servoCan s p) := by
  unfold servoCan
  repeat' first
    | with_reducible exact changesOnly.refl _ _
    | decide
    | (fail_if_no_progress (with_reducible apply changesOnly.step (k := net_changes _ _)) <;> try first | decide)
    | with_reducible apply changesOnly.step (k := servoFollow_changes _ _ _)

theorem servoOwn_changes (s : State) :
    changesOnly [.unit .free, .unit .now, .unit .exe, .unit .hz, .unit .fch, .unit .grd, .unit .gmu, .unit .pair, .unit .cmd, .unit .net, .unit .can, .unit .sbk, .ctr Reg.exeSnapSkip, .ctr Reg.grdSnapRef, .ctr Reg.netSnapTtlate, .flag Reg.cmdFlags 4, .flag Reg.exeFlags 3, .flag Reg.gmuFlags 3, .flag Reg.gmuFlags 7, .flag Reg.grdFlags 1, .flag Reg.grdFlags 3, .flag Reg.netFlags 5, .flag Reg.netFlags 6, .flag Reg.netFlags 7, .flag Reg.netFlags 8] s (servoOwn s) := by
  unfold servoOwn
  repeat' first
    | with_reducible exact changesOnly.refl _ _
    | decide
    | with_reducible apply changesOnly.step (k := servoFollow_changes _ _ _)
    | with_reducible apply changesOnly.step (k := servoCan_changes _ _)
    | with_reducible apply changesOnly.step (k := enterHoldover_changes _ _)
    | dsimp only
    | split

theorem servoPartner_changes (s : State) :
    changesOnly [.unit .free, .unit .net] s (servoPartner s) := by
  unfold servoPartner
  repeat' first
    | with_reducible exact changesOnly.refl _ _
    | decide
    | (fail_if_no_progress (with_reducible apply changesOnly.step (k := net_changes _ _)) <;> try first | decide)
    | with_reducible apply changesOnly.step (k := steerPartner_changes _ _)
    | dsimp only
    | split

theorem servoSelected_changes (s : State) :
    changesOnly [.unit .free, .unit .now, .unit .exe, .unit .hz, .unit .fch, .unit .grd, .unit .gmu, .unit .pair, .unit .cmd, .unit .net, .unit .can, .unit .sbk, .ctr Reg.exeSnapSkip, .ctr Reg.grdSnapRef, .ctr Reg.netSnapTtlate, .flag Reg.cmdFlags 4, .flag Reg.exeFlags 3, .flag Reg.gmuFlags 3, .flag Reg.gmuFlags 7, .flag Reg.grdFlags 1, .flag Reg.grdFlags 3, .flag Reg.netFlags 5, .flag Reg.netFlags 6, .flag Reg.netFlags 7, .flag Reg.netFlags 8] s (servoSelected s) := by
  unfold servoSelected
  repeat' first
    | with_reducible exact changesOnly.refl _ _
    | decide
    | with_reducible apply changesOnly.step (k := servoOwn_changes _)
    | with_reducible apply changesOnly.step (k := servoPartner_changes _)
    | dsimp only
    | split

theorem sendLaunch_changes (s : State) (p : Nat) (i : Nat) (source : List Byte) :
    changesOnly [.unit .net] s (sendLaunch s p i source) := by
  unfold sendLaunch
  repeat' first
    | with_reducible exact changesOnly.refl _ _
    | decide
    | with_reducible apply changesOnly.step (k := nextTrailer_changes _ _)
    | with_reducible apply changesOnly.step (k := startFrame_changes _ _ _)
    | (with_reducible apply changesOnly.foldl; intro _ _)

theorem served_changes (s : State) (p : Nat) (i : Nat) :
    changesOnly [.unit .net] s (served s p i) := by
  unfold served
  repeat' first
    | with_reducible exact changesOnly.refl _ _
    | decide
    | with_reducible apply changesOnly.step (k := modNet_changes _ _ _)

theorem lateLaunch_changes (s : State) (p : Nat) (i : Nat) :
    changesOnly [.unit .cmd, .unit .net, .unit .sbk, .ctr Reg.netSnapTtlate, .flag Reg.cmdFlags 4, .flag Reg.netFlags 8] s (lateLaunch s p i) := by
  unfold lateLaunch
  repeat' first
    | with_reducible exact changesOnly.refl _ _
    | decide
    | with_reducible apply changesOnly.step (k := postLate_changes _ _ _)
    | with_reducible apply changesOnly.step (k := countUp_changes _ _ _)

theorem serveEntry_changes (s : State) (p : Nat) (i : Nat) (delay : Nat) (initial : List Byte) :
    changesOnly [.unit .cmd, .unit .net, .unit .sbk, .ctr Reg.netSnapTtlate, .flag Reg.cmdFlags 4, .flag Reg.netFlags 8] s (serveEntry s p i delay initial) := by
  unfold serveEntry
  repeat' first
    | with_reducible exact changesOnly.refl _ _
    | decide
    | with_reducible apply changesOnly.step (k := served_changes _ _ _)
    | with_reducible apply changesOnly.step (k := sendLaunch_changes _ _ _ _)
    | with_reducible apply changesOnly.step (k := lateLaunch_changes _ _ _)
    | dsimp only
    | split

theorem netWindowWrite_changes (s : State) (p : Nat) (a : Nat) (v : Word) :
    changesOnly [.unit .net, .flag Reg.netFlags 10] s (netWindowWrite s p a v) := by
  unfold netWindowWrite
  repeat' first
    | with_reducible exact changesOnly.refl _ _
    | decide
    | with_reducible apply changesOnly.step (k := setNetPort_changes _ _ _)
    | with_reducible apply changesOnly.step (k := netRaise_changes _ _)
    | dsimp only
    | split

theorem askPanel_changes (s : State) :
    changesOnly [.unit .exe, .unit .fch, .unit .grd, .unit .spr, .unit .cmd, .unit .net, .unit .can, .unit .sbk, .unit .pnl, .unit .sup, .ctr Reg.grdSnapRef, .ctr Reg.pnlSnapRef, .flag Reg.grdFlags 1, .flag Reg.grdFlags 3, .flag Reg.memFlags 6, .flag Reg.pnlFlags 3] s (askPanel s) := by
  unfold askPanel
  repeat' first
    | with_reducible exact changesOnly.refl _ _
    | decide
    | with_reducible apply changesOnly.step (k := askLogic_changes _ _ _ _ _ _)
    | with_reducible apply changesOnly.step (k := modPanelReq_changes _ _ _)
    | (with_reducible apply changesOnly.foldl; intro _ _)
    | dsimp only
    | split

theorem cancelPanelClaim_changes (s : State) (id : Nat) :
    changesOnly [.unit .grd] s (cancelPanelClaim s id) := by
  unfold cancelPanelClaim
  repeat' first
    | with_reducible exact changesOnly.refl _ _
    | decide
    | (fail_if_no_progress (with_reducible apply changesOnly.step (k := grd_changes _ _)) <;> try first | decide)
    | with_reducible apply changesOnly.step (k := endClaim_changes _ _)

theorem startOne_changes (s : State) (r : PanelReq) :
    changesOnly [.unit .pnl] s (startOne s r) := by
  unfold startOne
  repeat' first
    | with_reducible exact changesOnly.refl _ _
    | decide
    | with_reducible apply changesOnly.step (k := modPnl_changes _ _)
    | with_reducible apply changesOnly.step (k := dropPanelReq_changes _ _)
    | dsimp only
    | split

theorem startReady_changes (s : State) :
    changesOnly [.unit .pnl] s (startReady s) := by
  unfold startReady
  repeat' first
    | with_reducible exact changesOnly.refl _ _
    | decide
    | with_reducible apply changesOnly.step (k := startOne_changes _ _)
    | with_reducible apply changesOnly.step (k := modPnl_changes _ _)
    | (with_reducible apply changesOnly.foldl; intro _ _)
    | dsimp only
    | split

theorem completeUpdate_changes (s : State) (r : PanelReq) :
    changesOnly [.unit .grd, .unit .cmd, .unit .pnl, .ctr Reg.pnlSnapRef, .ctr Reg.pnlSnapUpd] s (completeUpdate s r) := by
  unfold completeUpdate
  repeat' first
    | with_reducible exact changesOnly.refl _ _
    | decide
    | with_reducible apply changesOnly.step (k := modPnl_changes _ _)
    | with_reducible apply changesOnly.step (k := endPanel_changes _ _ _ _)
    | with_reducible apply changesOnly.step (k := countUp_changes _ _ _)
    | with_reducible apply changesOnly.step (k := cancelPanelClaim_changes _ _)

theorem stopUpdate_changes (s : State) (x : PanelRun) (why : Nat) :
    changesOnly [.unit .grd, .unit .cmd, .unit .pnl, .ctr Reg.pnlSnapRef, .flag Reg.pnlFlags 2] s (stopUpdate s x why) := by
  unfold stopUpdate
  repeat' first
    | with_reducible exact changesOnly.refl _ _
    | decide
    | with_reducible apply changesOnly.step (k := modPnl_changes _ _)
    | with_reducible apply changesOnly.step (k := cancelPanelClaim_changes _ _)
    | with_reducible apply changesOnly.step (k := endPanel_changes _ _ _ _)
    | with_reducible apply changesOnly.step (k := pnlRaise_changes _ _)
    | dsimp only
    | split

theorem frameOne_changes (s : State) (x : PanelRun) :
    changesOnly [.unit .grd, .unit .cmd, .unit .pnl, .ctr Reg.pnlSnapRef, .ctr Reg.pnlSnapUpd, .flag Reg.pnlFlags 2] s (frameOne s x) := by
  unfold frameOne
  repeat' first
    | with_reducible exact changesOnly.refl _ _
    | decide
    | with_reducible apply changesOnly.step (k := stopUpdate_changes _ _ _)
    | with_reducible apply changesOnly.step (k := completeUpdate_changes _ _)
    | with_reducible apply changesOnly.step (k := modPnl_changes _ _)
    | dsimp only
    | split

theorem queueTimestamp_changes (s : State) :
    changesOnly [.unit .pnl] s (queueTimestamp s) := by
  unfold queueTimestamp
  repeat' first
    | with_reducible exact changesOnly.refl _ _
    | decide
    | with_reducible apply changesOnly.step (k := modPnl_changes _ _)
    | dsimp only
    | split

theorem queuePanel_changes (s : State) (r : PanelReq) :
    changesOnly [.unit .exe, .unit .fch, .unit .grd, .unit .spr, .unit .cmd, .unit .net, .unit .can, .unit .sbk, .unit .pnl, .unit .sup, .ctr Reg.grdSnapRef, .ctr Reg.pnlSnapRef, .flag Reg.grdFlags 1, .flag Reg.grdFlags 3, .flag Reg.memFlags 6, .flag Reg.pnlFlags 2, .flag Reg.pnlFlags 3, .flag Reg.pnlFlags 6] s (queuePanel s r) := by
  unfold queuePanel
  repeat' first
    | with_reducible exact changesOnly.refl _ _
    | decide
    | with_reducible apply changesOnly.step (k := modPnl_changes _ _)
    | with_reducible apply changesOnly.step (k := endPanel_changes _ _ _ _)
    | with_reducible apply changesOnly.step (k := pnlRaise_changes _ _)
    | with_reducible apply changesOnly.step (k := cancelPanelClaim_changes _ _)
    | with_reducible apply changesOnly.step (k := askPanel_changes _)
    | (with_reducible apply changesOnly.foldl; intro _ _)
    | dsimp only
    | split

theorem drawFaultScreen_changes (s : State) :
    changesOnly [.unit .exe, .unit .fch, .unit .grd, .unit .spr, .unit .cmd, .unit .net, .unit .can, .unit .sbk, .unit .pnl, .unit .sup, .ctr Reg.grdSnapRef, .ctr Reg.pnlSnapRef, .flag Reg.grdFlags 1, .flag Reg.grdFlags 3, .flag Reg.memFlags 6, .flag Reg.pnlFlags 2, .flag Reg.pnlFlags 3, .flag Reg.pnlFlags 6] s (drawFaultScreen s) := by
  unfold drawFaultScreen
  repeat' first
    | with_reducible exact changesOnly.refl _ _
    | decide
    | with_reducible apply changesOnly.step (k := queuePanel_changes _ _)
    | with_reducible apply changesOnly.step (k := modPnl_changes _ _)
    | dsimp only
    | split

theorem haltRedraw_changes (s : State) :
    changesOnly [.unit .grd, .unit .pnl] s (haltRedraw s) := by
  unfold haltRedraw
  repeat' first
    | with_reducible exact changesOnly.refl _ _
    | decide
    | with_reducible apply changesOnly.step (k := endClaim_changes _ _)
    | with_reducible apply changesOnly.step (k := modPnl_changes _ _)

theorem drawCommand_changes (s : State) (c : Ctx) (op : Nat) (r : PanelReq) :
    changesOnly [.unit .exe, .unit .fch, .unit .grd, .unit .spr, .unit .cmd, .unit .net, .unit .can, .unit .sbk, .unit .pnl, .unit .sup, .ctr Reg.grdSnapRef, .ctr Reg.pnlSnapRef, .flag Reg.grdFlags 1, .flag Reg.grdFlags 3, .flag Reg.memFlags 6, .flag Reg.pnlFlags 1, .flag Reg.pnlFlags 2, .flag Reg.pnlFlags 3, .flag Reg.pnlFlags 6] s (drawCommand s c op r) := by
  unfold drawCommand
  repeat' first
    | with_reducible exact changesOnly.refl _ _
    | decide
    | with_reducible apply changesOnly.step (k := refuse_changes _ _ _ _ _)
    | with_reducible apply changesOnly.step (k := countUp_changes _ _ _)
    | with_reducible apply changesOnly.step (k := pnlRaise_changes _ _)
    | with_reducible apply changesOnly.step (k := queuePanel_changes _ _)
    | with_reducible apply changesOnly.step (k := accept_changes _ _ _ _ _ _ _)
    | dsimp only
    | split

theorem modWnt_changes (s : State) (f : Walnut → Walnut) :
    changesOnly [.unit .wnt] s (modWnt s f) := by
  unfold modWnt
  repeat' first
    | with_reducible exact changesOnly.refl _ _
    | decide
    | (fail_if_no_progress (with_reducible apply changesOnly.step (k := wnt_changes _ _)) <;> try first | decide)

theorem demandWnt_changes (s : State) (f : Walnut → Walnut) :
    changesOnly [.unit .wnt] s (demandWnt s f) := by
  unfold demandWnt
  repeat' first
    | with_reducible exact changesOnly.refl _ _
    | decide
    | with_reducible apply changesOnly.step (k := modWnt_changes _ _)

theorem degradedYield_changes (before : Nat) (s : State) :
    changesOnly [.unit .own, .unit .exe, .unit .hz, .unit .fch, .unit .grd, .unit .wnt, .unit .pair, .unit .cmd, .unit .sbk, .ctr Reg.grdSnapRef, .flag Reg.cmdFlags 4, .flag Reg.grdFlags 1, .flag Reg.grdFlags 3, .flag Reg.hzFlags 3, .flag Reg.hzFlags 4, .flag Reg.hzFlags 5, .flag Reg.ppdFlags 1, .flag Reg.ppdFlags 2] s (degradedYield before s) := by
  unfold degradedYield
  repeat' first
    | with_reducible exact changesOnly.refl _ _
    | decide
    | with_reducible apply changesOnly.step (k := yieldField_changes _)
    | dsimp only
    | split

theorem safePairLost_changes (s : State) :
    changesOnly [.unit .wnt, .unit .cmd, .unit .sbk, .flag Reg.cmdFlags 4] s (safePairLost s) := by
  unfold safePairLost
  repeat' first
    | with_reducible exact changesOnly.refl _ _
    | decide
    | with_reducible apply changesOnly.step (k := concludeAll_changes _ _ _ _ _)
    | with_reducible apply changesOnly.step (k := dropWaitingSet_changes _)
    | with_reducible apply changesOnly.step (k := post_changes _ _ _ _ _ _)

theorem missingMessage_changes (s : State) :
    changesOnly [.unit .wnt, .unit .cmd, .unit .sbk, .flag Reg.cmdFlags 4] s (missingMessage s) := by
  unfold missingMessage
  repeat' first
    | with_reducible exact changesOnly.refl _ _
    | decide
    | with_reducible apply changesOnly.step (k := modWnt_changes _ _)
    | with_reducible apply changesOnly.step (k := safePairLost_changes _)
    | dsimp only
    | split

theorem publishSafety_changes (s : State) :
    changesOnly [.unit .exe] s (publishSafety s) := by
  unfold publishSafety
  repeat' first
    | with_reducible exact changesOnly.refl _ _
    | decide
    | with_reducible apply changesOnly.step (k := areaPut_changes _ _ _)
    | dsimp only
    | split

theorem driveClaims_changes (s : State) :
    changesOnly [.unit .grd] s (driveClaims s) := by
  unfold driveClaims
  repeat' first
    | with_reducible exact changesOnly.refl _ _
    | decide
    | with_reducible apply changesOnly.step (k := askC0_changes _ _ _ _ _)
    | with_reducible apply changesOnly.step (k := dropAsked_changes _ _)
    | (with_reducible apply changesOnly.foldl; intro _ _)
    | dsimp only
    | split

theorem failHalf_changes (s : State) (halfB : Bool) :
    changesOnly [.unit .own, .unit .exe, .unit .hz, .unit .fch, .unit .grd, .unit .wnt, .unit .pair, .unit .cmd, .unit .sbk, .ctr Reg.grdSnapRef, .flag Reg.cmdFlags 4, .flag Reg.grdFlags 1, .flag Reg.grdFlags 3, .flag Reg.hzFlags 3, .flag Reg.hzFlags 4, .flag Reg.hzFlags 5, .flag Reg.ppdFlags 1, .flag Reg.ppdFlags 2] s (failHalf s halfB) := by
  unfold failHalf
  repeat' first
    | with_reducible exact changesOnly.refl _ _
    | decide
    | with_reducible apply changesOnly.step (k := demandWnt_changes _ _)
    | with_reducible apply changesOnly.step (k := degradedYield_changes _ _)
    | with_reducible apply changesOnly.step (k := modWnt_changes _ _)
    | dsimp only
    | split

theorem latchCross_changes (s : State) (k : Nat) :
    changesOnly [.unit .wnt] s (latchCross s k) := by
  unfold latchCross
  repeat' first
    | with_reducible exact changesOnly.refl _ _
    | decide
    | with_reducible apply changesOnly.step (k := demandWnt_changes _ _)

theorem testFailed_changes (s : State) (q : Nat) :
    changesOnly [.unit .wnt] s (testFailed s q) := by
  unfold testFailed
  repeat' first
    | with_reducible exact changesOnly.refl _ _
    | decide
    | with_reducible apply changesOnly.step (k := demandWnt_changes _ _)

theorem discardMessage_changes (s : State) :
    changesOnly [.unit .wnt, .unit .cmd, .unit .sbk, .flag Reg.cmdFlags 4] s (discardMessage s) := by
  unfold discardMessage
  repeat' first
    | with_reducible exact changesOnly.refl _ _
    | decide
    | with_reducible apply changesOnly.step (k := modWnt_changes _ _)
    | with_reducible apply changesOnly.step (k := safePairLost_changes _)
    | dsimp only
    | split

theorem mirrorSet_changes (s : State) (m : List Byte) (set : Option (List Byte)) :
    changesOnly [.unit .wnt, .unit .cmd, .unit .sbk, .flag Reg.cmdFlags 4] s (mirrorSet s m set) := by
  unfold mirrorSet
  repeat' first
    | with_reducible exact changesOnly.refl _ _
    | decide
    | with_reducible apply changesOnly.step (k := post_changes _ _ _ _ _ _)
    | with_reducible apply changesOnly.step (k := modWnt_changes _ _)
    | with_reducible apply changesOnly.step (k := demandWnt_changes _ _)
    | dsimp only
    | split

theorem adoptSet_changes (s : State) (m : List Byte) (set : Option (List Byte)) :
    changesOnly [.unit .wnt, .unit .cmd, .unit .sbk, .flag Reg.cmdFlags 4] s (adoptSet s m set) := by
  unfold adoptSet
  repeat' first
    | with_reducible exact changesOnly.refl _ _
    | decide
    | with_reducible apply changesOnly.step (k := post_changes _ _ _ _ _ _)
    | with_reducible apply changesOnly.step (k := modWnt_changes _ _)
    | dsimp only
    | split

theorem partnerHolds_changes (s : State) (set : Option (List Byte)) :
    changesOnly [.unit .wnt, .unit .cmd] s (partnerHolds s set) := by
  unfold partnerHolds
  repeat' first
    | with_reducible exact changesOnly.refl _ _
    | decide
    | with_reducible apply changesOnly.step (k := concludeAll_changes _ _ _ _ _)
    | with_reducible apply changesOnly.step (k := modWnt_changes _ _)
    | dsimp only
    | split

theorem safetyCommand_changes {W : List Area} (s : State) (c : Ctx) (op : Nat) (i : Instr) (body : State → State) (hbody : ∀ t, changesOnly W t (body t))
    (hw : within [.unit .cmd, .flag Reg.cmdFlags 2] W = true) :
    changesOnly W s (safetyCommand s c op i body) := by
  unfold safetyCommand
  repeat' first
    | with_reducible exact changesOnly.refl _ _
    | assumption
    | decide
    | with_reducible apply changesOnly.trans (k := hbody _)
    | with_reducible apply changesOnly.trans (k := ((refuse_changes _ _ _ _ _).mono (show within _ [.unit .cmd, .flag Reg.cmdFlags 2] = true by decide)).mono hw)
    | with_reducible apply changesOnly.trans (k := command_changes _ _ _ _ _ _ _ ?_ ?_)
    | (simp only [within, List.all_cons, List.all_nil, Bool.and_eq_true] at hw ⊢; exact ⟨hw.1, trivial⟩)
    | dsimp only
    | split

end Sys2Proof
end

