-- ==== Sys2Proof/Laws/FramePair.lean ====
section
/-! SUPPORT. Laws/FramePair.lean: for each shared operation everything it may change: taking over, Peapod, Sprout, the trust element and the supervisor. -/
namespace Sys2Proof
open Sys2Proof.Machine

theorem copyVar_changes (s : State) (p : Nat × List Byte) :
    changesOnly [.unit .exe] s (copyVar s p) := by
  unfold copyVar
  repeat' first
    | with_reducible exact changesOnly.refl _ _
    | decide
    | (fail_if_no_progress (with_reducible apply changesOnly.step (k := exe_changes _ _)) <;> try first | decide)

theorem copyValue_changes (s : State) (p : Nat × Word × Nat) :
    changesOnly [.unit .fch] s (copyValue s p) := by
  unfold copyValue
  repeat' first
    | with_reducible exact changesOnly.refl _ _
    | decide
    | with_reducible apply changesOnly.step (k := modFe_changes _ _ _)

theorem copyCount_changes (s : State) (p : Nat × Word) :
    changesOnly [.unit .fch] s (copyCount s p) := by
  unfold copyCount
  repeat' first
    | with_reducible exact changesOnly.refl _ _
    | decide
    | with_reducible apply changesOnly.step (k := modFe_changes _ _ _)

theorem copyClaim_changes (s : State) (k : ClaimCopy) :
    changesOnly [.unit .fch, .unit .grd] s (copyClaim s k) := by
  unfold copyClaim
  repeat' first
    | with_reducible exact changesOnly.refl _ _
    | decide
    | with_reducible apply changesOnly.step (k := modFe_changes _ _ _)
    | with_reducible apply changesOnly.step (k := setClaim_changes _ _ _)

theorem dropClaim_changes (s : State) (c : Nat) :
    changesOnly [.unit .fch, .unit .grd] s (dropClaim s c) := by
  unfold dropClaim
  repeat' first
    | with_reducible exact changesOnly.refl _ _
    | decide
    | with_reducible apply changesOnly.step (k := modFe_changes _ _ _)
    | with_reducible apply changesOnly.step (k := setClaim_changes _ _ _)

theorem copyClaimSet_changes (s : State) (ks : List ClaimCopy) :
    changesOnly [.unit .fch, .unit .grd] s (copyClaimSet s ks) := by
  unfold copyClaimSet
  repeat' first
    | with_reducible exact changesOnly.refl _ _
    | decide
    | with_reducible apply changesOnly.step (k := copyClaim_changes _ _)
    | with_reducible apply changesOnly.step (k := dropClaim_changes _ _)
    | (with_reducible apply changesOnly.foldl; intro _ _)

theorem copyGmu_changes (s : State) (x : CopyContent) :
    changesOnly [.unit .gmu] s (copyGmu s x) := by
  unfold copyGmu
  repeat' first
    | with_reducible exact changesOnly.refl _ _
    | decide
    | (fail_if_no_progress (with_reducible apply changesOnly.step (k := gmu_changes _ _)) <;> try first | decide)
    | with_reducible apply changesOnly.step (k := setTrig_changes _ _ _)
    | with_reducible apply changesOnly.step (k := modSync_changes _ _)
    | (with_reducible apply changesOnly.foldl; intro _ _)
    | dsimp only
    | split

theorem copyExec_changes (s : State) (x : CopyContent) :
    changesOnly [.unit .exe, .unit .pair] s (copyExec s x) := by
  unfold copyExec
  repeat' first
    | with_reducible exact changesOnly.refl _ _
    | decide
    | (fail_if_no_progress (with_reducible apply changesOnly.step (k := exe_changes _ _)) <;> try first | decide)
    | (fail_if_no_progress (with_reducible apply changesOnly.step (k := pair_changes _ _)) <;> try first | decide)
    | dsimp only
    | split

theorem copyOperator_changes (s : State) (p : Nat × Nat × Bool × Int × Int) :
    changesOnly [.unit .hz] s (copyOperator s p) := by
  unfold copyOperator
  repeat' first
    | with_reducible exact changesOnly.refl _ _
    | decide
    | with_reducible apply changesOnly.step (k := modLoop_changes _ _ _)

theorem copyDescriptor_changes (s : State) (p : Nat × List Word) :
    changesOnly [.unit .hz] s (copyDescriptor s p) := by
  unfold copyDescriptor
  repeat' first
    | with_reducible exact changesOnly.refl _ _
    | decide
    | with_reducible apply changesOnly.step (k := modLoop_changes _ _ _)

theorem applyContent_changes (s : State) (x : CopyContent) :
    changesOnly [.unit .exe, .unit .hz, .unit .fch, .unit .grd, .unit .gmu, .unit .pair, .unit .net, .unit .can] s (applyContent s x) := by
  unfold applyContent
  repeat' first
    | with_reducible exact changesOnly.refl _ _
    | decide
    | with_reducible apply changesOnly.step (k := setFb_changes _ _ _)
    | with_reducible apply changesOnly.step (k := copyVar_changes _ _)
    | with_reducible apply changesOnly.step (k := copyExec_changes _ _)
    | with_reducible apply changesOnly.step (k := copyCount_changes _ _)
    | with_reducible apply changesOnly.step (k := copyValue_changes _ _)
    | with_reducible apply changesOnly.step (k := preload_changes _ _)
    | with_reducible apply changesOnly.step (k := copyGmu_changes _ _)
    | with_reducible apply changesOnly.step (k := copyClaimSet_changes _ _)
    | with_reducible apply changesOnly.step (k := areaPut_changes _ _ _)
    | with_reducible apply changesOnly.step (k := commitSource_changes _ _ _)
    | with_reducible apply changesOnly.step (k := copyDescriptor_changes _ _)
    | with_reducible apply changesOnly.step (k := copyOperator_changes _ _)
    | with_reducible apply changesOnly.step (k := commitPayload_changes _ _)
    | with_reducible apply changesOnly.step (k := commitGmuInput_changes _ _)
    | (with_reducible apply changesOnly.foldl; intro _ _)
    | dsimp only
    | split

theorem copyStateWord_changes (s : State) (a : Nat) (bs : List Byte) :
    changesOnly [.unit .exe, .unit .hz] s (copyStateWord s a bs) := by
  unfold copyStateWord
  repeat' first
    | with_reducible exact changesOnly.refl _ _
    | decide
    | with_reducible apply changesOnly.step (k := areaPut_changes _ _ _)
    | with_reducible apply changesOnly.step (k := modLoop_changes _ _ _)
    | dsimp only
    | split

theorem copyLoopWord_changes (s : State) (a : Nat) (bs : List Byte) :
    changesOnly [.unit .hz] s (copyLoopWord s a bs) := by
  unfold copyLoopWord
  repeat' first
    | with_reducible exact changesOnly.refl _ _
    | decide
    | with_reducible apply changesOnly.step (k := modLoop_changes _ _ _)
    | dsimp only
    | split

theorem copyLine_changes (s : State) (region : Nat) (index : Nat) (mask : Nat) (data : List Byte) :
    changesOnly [.unit .exe, .unit .hz] s (copyLine s region index mask data) := by
  unfold copyLine
  repeat' first
    | with_reducible exact changesOnly.refl _ _
    | decide
    | with_reducible apply changesOnly.step (k := copyStateWord_changes _ _ _)
    | with_reducible apply changesOnly.step (k := copyLoopWord_changes _ _ _)
    | (with_reducible apply changesOnly.foldl; intro _ _)
    | dsimp only
    | split

theorem applyRecord_changes (s : State) (n : Nat) (data : List Byte) :
    changesOnly [.unit .exe, .unit .hz, .unit .fch] s (applyRecord s n data) := by
  unfold applyRecord
  repeat' first
    | with_reducible exact changesOnly.refl _ _
    | decide
    | with_reducible apply changesOnly.step (k := areaPut_changes _ _ _)
    | with_reducible apply changesOnly.step (k := modLoop_changes _ _ _)
    | with_reducible apply changesOnly.step (k := preload_changes _ _)
    | dsimp only
    | split

theorem applyEntry_changes (s : State) (x1 : LogEntry) :
    changesOnly [.unit .exe, .unit .hz, .unit .fch, .unit .grd, .unit .gmu, .unit .pair, .unit .net, .unit .can] s (applyEntry s x1) := by
  unfold applyEntry
  repeat' first
    | with_reducible exact changesOnly.refl _ _
    | decide
    | with_reducible apply changesOnly.step (k := applyContent_changes _ _)
    | with_reducible apply changesOnly.step (k := copyLine_changes _ _ _ _ _)
    | with_reducible apply changesOnly.step (k := applyRecord_changes _ _ _)
    | dsimp only
    | split

theorem applyTag_changes (s : State) (tag : Nat) :
    changesOnly [.unit .exe, .unit .hz, .unit .fch, .unit .grd, .unit .gmu, .unit .pair, .unit .net, .unit .can] s (applyTag s tag) := by
  unfold applyTag
  repeat' first
    | with_reducible exact changesOnly.refl _ _
    | decide
    | (fail_if_no_progress (with_reducible apply changesOnly.step (k := pair_changes _ _)) <;> try first | decide)
    | with_reducible apply changesOnly.step (k := applyEntry_changes _ _)
    | with_reducible apply changesOnly.step (k := shadowTask_changes _ _)
    | (with_reducible apply changesOnly.foldl; intro _ _)
    | dsimp only
    | split

theorem logEntry_changes (s : State) (e : LogEntry) :
    changesOnly [.unit .exe, .unit .hz, .unit .fch, .unit .grd, .unit .gmu, .unit .pair, .unit .net, .unit .can] s (logEntry s e) := by
  unfold logEntry
  repeat' first
    | with_reducible exact changesOnly.refl _ _
    | decide
    | (fail_if_no_progress (with_reducible apply changesOnly.step (k := pair_changes _ _)) <;> try first | decide)
    | with_reducible apply changesOnly.step (k := applyEntry_changes _ _)
    | dsimp only
    | split

theorem takeCommit_changes (s : State) (tag : Nat) (seq : Nat) :
    changesOnly [.unit .exe, .unit .hz, .unit .fch, .unit .grd, .unit .gmu, .unit .pair, .unit .net, .unit .can] s (takeCommit s tag seq) := by
  unfold takeCommit
  repeat' first
    | with_reducible exact changesOnly.refl _ _
    | decide
    | (fail_if_no_progress (with_reducible apply changesOnly.step (k := pair_changes _ _)) <;> try first | decide)
    | with_reducible apply changesOnly.step (k := applyTag_changes _ _)
    | with_reducible apply changesOnly.step (k := send_changes _ _)
    | dsimp only
    | split

theorem restartExcess_changes (s : State) (c : Nat) :
    changesOnly [.unit .grd] s (restartExcess s c) := by
  unfold restartExcess
  repeat' first
    | with_reducible exact changesOnly.refl _ _
    | decide
    | with_reducible apply changesOnly.step (k := setClaim_changes _ _ _)

theorem takeClose_changes (s : State) :
    changesOnly [.unit .fch, .unit .grd, .unit .gmu, .unit .cmd, .unit .sbk, .ctr Reg.grdSnapRef, .flag Reg.cmdFlags 4, .flag Reg.gmuFlags 2, .flag Reg.grdFlags 1, .flag Reg.grdFlags 3] s (takeClose s) := by
  unfold takeClose
  repeat' first
    | with_reducible exact changesOnly.refl _ _
    | decide
    | with_reducible apply changesOnly.step (k := closeNow_changes _ _)
    | dsimp only
    | split

theorem takePreload_changes (s : State) (c : Nat) :
    changesOnly [.unit .fch, .unit .grd] s (takePreload s c) := by
  unfold takePreload
  repeat' first
    | with_reducible exact changesOnly.refl _ _
    | decide
    | with_reducible apply changesOnly.step (k := setClaim_changes _ _ _)
    | with_reducible apply changesOnly.step (k := modFe_changes _ _ _)
    | dsimp only
    | split

theorem takeChannel_changes (s : State) (c : Nat) :
    changesOnly [.unit .fch, .unit .grd] s (takeChannel s c) := by
  unfold takeChannel
  repeat' first
    | with_reducible exact changesOnly.refl _ _
    | decide
    | with_reducible apply changesOnly.step (k := modFe_changes _ _ _)
    | with_reducible apply changesOnly.step (k := restartExcess_changes _ _)
    | with_reducible apply changesOnly.step (k := takePreload_changes _ _)

theorem dropLog_changes (s : State) :
    changesOnly [.unit .exe, .unit .pair, .ctr Reg.exeSnapSkip] s (dropLog s) := by
  unfold dropLog
  repeat' first
    | with_reducible exact changesOnly.refl _ _
    | decide
    | (fail_if_no_progress (with_reducible apply changesOnly.step (k := pair_changes _ _)) <;> try first | decide)
    | with_reducible apply changesOnly.step (k := skipRelease_changes _ _ _ _)
    | (with_reducible apply changesOnly.foldl; intro _ _)

theorem takeWalnut_changes (s : State) :
    changesOnly [.unit .wnt, .unit .cmd, .unit .sbk, .flag Reg.cmdFlags 4] s (takeWalnut s) := by
  unfold takeWalnut
  repeat' first
    | with_reducible exact changesOnly.refl _ _
    | decide
    | (fail_if_no_progress (with_reducible apply changesOnly.step (k := wnt_changes _ _)) <;> try first | decide)
    | with_reducible apply changesOnly.step (k := discardPending_changes _ _)

theorem refreshField_changes (s : State) :
    changesOnly [.unit .fch, .unit .grd, .unit .cmd, .ctr Reg.grdSnapRef, .flag Reg.grdFlags 1, .flag Reg.grdFlags 3] s (refreshField s) := by
  unfold refreshField
  repeat' first
    | with_reducible exact changesOnly.refl _ _
    | decide
    | with_reducible apply changesOnly.step (k := refreshAll_changes _ _)
    | with_reducible apply changesOnly.step (k := armClaims_changes _ _)
    | (with_reducible apply changesOnly.foldl; intro _ _)

theorem takeField_changes (s : State) (launch : Nat) :
    changesOnly [.unit .exe, .unit .hz, .unit .fch, .unit .grd, .unit .gmu, .unit .wnt, .unit .pair, .unit .cmd, .unit .net, .unit .can, .unit .sbk, .ctr Reg.exeSnapSkip, .ctr Reg.grdSnapRef, .ctr Reg.netSnapTtlate, .flag Reg.canFlags 6, .flag Reg.cmdFlags 4, .flag Reg.gmuFlags 2, .flag Reg.grdFlags 1, .flag Reg.grdFlags 3, .flag Reg.netFlags 8, .flag Reg.ppdFlags 0] s (takeField s launch) := by
  unfold takeField
  repeat' first
    | with_reducible exact changesOnly.refl _ _
    | decide
    | (fail_if_no_progress (with_reducible apply changesOnly.step (k := hz_net_changes _ _ _)) <;> try first | decide)
    | with_reducible apply changesOnly.step (k := takeClose_changes _)
    | with_reducible apply changesOnly.step (k := lateJumped_changes _ _)
    | with_reducible apply changesOnly.step (k := dropLog_changes _)
    | with_reducible apply changesOnly.step (k := takeChannel_changes _ _)
    | with_reducible apply changesOnly.step (k := refreshField_changes _)
    | with_reducible apply changesOnly.step (k := takeWalnut_changes _)
    | with_reducible apply changesOnly.step (k := post_changes _ _ _ _ _ _)
    | with_reducible apply changesOnly.step (k := ppdRaise_changes _ _)
    | with_reducible apply changesOnly.step (k := canTakeover_changes _)
    | (with_reducible apply changesOnly.foldl; intro _ _)

theorem takeStation_changes (s : State) :
    changesOnly [.unit .exe] s (takeStation s) := by
  unfold takeStation
  repeat' first
    | with_reducible exact changesOnly.refl _ _
    | decide
    | (fail_if_no_progress (with_reducible apply changesOnly.step (k := exe_changes _ _)) <;> try first | decide)
    | dsimp only
    | split

theorem carryPlace_changes (old : State) (s : State) (q : Nat × VarEntry) : changesOnly [.unit .exe] s (carryPlace old s q) := by
  unfold carryPlace
  split
  · split
    · exact areaPut_changes _ _ _
    · exact changesOnly.refl _ _
  · exact changesOnly.refl _ _

theorem carryState_changes (s0 : State) (old : State) :
    changesOnly [.unit .exe] s0 (carryState s0 old) := by
  unfold carryState
  repeat' first
    | with_reducible exact changesOnly.refl _ _
    | decide
    | (fail_if_no_progress (with_reducible apply changesOnly.step (k := exe_changes _ _)) <;> try first | decide)
    | with_reducible apply changesOnly.step (k := carryPlace_changes _ _ _)
    | (with_reducible apply changesOnly.foldl; intro _ _)

theorem swapStart_changes (s : State) :
    changesOnly [.unit .staged, .unit .own, .unit .exe, .unit .hz, .unit .fch, .unit .grd, .unit .gmu, .unit .pair, .unit .spr, .unit .cmd, .unit .net, .unit .can, .unit .sbk, .unit .sup, .ctr Reg.exeSnapMaxexec, .ctr Reg.gmuSnapSheds, .ctr Reg.grdSnapRef, .inForce Reg.fchAicfg, .inForce Reg.fchAocfg, .inForce Reg.fchAosafe, .inForce Reg.fchDicfg, .inForce Reg.fchDocfg, .inForce Reg.fchMode, .inForce Reg.fchPulsecfg, .inForce Reg.fchStopcfg, .inForce Reg.grdChload, .reg Reg.fchAicfg, .reg Reg.fchAocfg, .reg Reg.fchAosafe, .reg Reg.fchCtrl, .reg Reg.fchDicfg, .reg Reg.fchDocfg, .reg Reg.fchMode, .reg Reg.fchPulsecfg, .reg Reg.fchStopcfg, .reg Reg.grdChload, .flag Reg.canFlags 5, .flag Reg.cmdFlags 4, .flag Reg.gmuFlags 4, .flag Reg.grdFlags 1, .flag Reg.grdFlags 3, .flag Reg.hzFlags 1, .ctrsOf 2, .inForceOf 0xA, .inForceOf 5, .regsOf 0xA, .regsOf 5] s (swapStart s) := by
  unfold swapStart
  repeat' first
    | with_reducible exact changesOnly.refl _ _
    | decide
    | (fail_if_no_progress (with_reducible apply changesOnly.step (k := exe_changes _ _)) <;> try first | decide)
    | with_reducible apply changesOnly.step (k := changeForces_changes _ _ _ _ _)
    | with_reducible apply changesOnly.step (k := carryState_changes _ _)
    | with_reducible apply changesOnly.step (k := installImage_changes _ _ _)
    | with_reducible apply changesOnly.step (k := clearTasks_changes _)
    | dsimp only
    | split

theorem takeover_changes (s : State) (r : Role) (cause : Nat) (byHandover : Bool) (launch : Nat) :
    changesOnly [.unit .staged, .unit .own, .unit .exe, .unit .hz, .unit .fch, .unit .grd, .unit .gmu, .unit .wnt, .unit .pair, .unit .spr, .unit .cmd, .unit .net, .unit .can, .unit .sbk, .unit .sup, .ctr Reg.exeSnapMaxexec, .ctr Reg.exeSnapSkip, .ctr Reg.gmuSnapSheds, .ctr Reg.grdSnapRef, .ctr Reg.netSnapTtlate, .inForce Reg.fchAicfg, .inForce Reg.fchAocfg, .inForce Reg.fchAosafe, .inForce Reg.fchDicfg, .inForce Reg.fchDocfg, .inForce Reg.fchMode, .inForce Reg.fchPulsecfg, .inForce Reg.fchStopcfg, .inForce Reg.grdChload, .reg Reg.fchAicfg, .reg Reg.fchAocfg, .reg Reg.fchAosafe, .reg Reg.fchCtrl, .reg Reg.fchDicfg, .reg Reg.fchDocfg, .reg Reg.fchMode, .reg Reg.fchPulsecfg, .reg Reg.fchStopcfg, .reg Reg.grdChload, .flag Reg.canFlags 5, .flag Reg.canFlags 6, .flag Reg.cmdFlags 4, .flag Reg.gmuFlags 2, .flag Reg.gmuFlags 4, .flag Reg.grdFlags 1, .flag Reg.grdFlags 3, .flag Reg.hzFlags 1, .flag Reg.hzFlags 3, .flag Reg.hzFlags 4, .flag Reg.hzFlags 5, .flag Reg.netFlags 8, .flag Reg.ppdFlags 0, .flag Reg.ppdFlags 2, .ctrsOf 2, .inForceOf 0xA, .inForceOf 5, .regsOf 0xA, .regsOf 5] s (takeover s r cause byHandover launch) := by
  unfold takeover
  repeat' first
    | with_reducible exact changesOnly.refl _ _
    | decide
    | with_reducible apply changesOnly.step (k := changeRole_changes _ _ _)
    | with_reducible apply changesOnly.step (k := swapStart_changes _)
    | with_reducible apply changesOnly.step (k := takeField_changes _ _)
    | with_reducible apply changesOnly.step (k := takeStation_changes _)
    | with_reducible apply changesOnly.step (k := post_changes _ _ _ _ _ _)
    | dsimp only
    | split

theorem startStation_changes (s : State) :
    changesOnly [.unit .staged, .unit .own, .unit .exe, .unit .hz, .unit .fch, .unit .grd, .unit .gmu, .unit .pair, .unit .spr, .unit .cmd, .unit .net, .unit .can, .unit .sbk, .unit .sup, .ctr Reg.exeSnapMaxexec, .ctr Reg.gmuSnapSheds, .ctr Reg.grdSnapRef, .inForce Reg.fchAicfg, .inForce Reg.fchAocfg, .inForce Reg.fchAosafe, .inForce Reg.fchDicfg, .inForce Reg.fchDocfg, .inForce Reg.fchMode, .inForce Reg.fchPulsecfg, .inForce Reg.fchStopcfg, .inForce Reg.grdChload, .reg Reg.fchAicfg, .reg Reg.fchAocfg, .reg Reg.fchAosafe, .reg Reg.fchCtrl, .reg Reg.fchDicfg, .reg Reg.fchDocfg, .reg Reg.fchMode, .reg Reg.fchPulsecfg, .reg Reg.fchStopcfg, .reg Reg.grdChload, .flag Reg.canFlags 5, .flag Reg.cmdFlags 4, .flag Reg.exeFlags 2, .flag Reg.gmuFlags 4, .flag Reg.grdFlags 1, .flag Reg.grdFlags 3, .flag Reg.hzFlags 1, .ctrsOf 2, .inForceOf 0xA, .inForceOf 5, .regsOf 0xA, .regsOf 5] s (startStation s) := by
  unfold startStation
  repeat' first
    | with_reducible exact changesOnly.refl _ _
    | decide
    | (fail_if_no_progress (with_reducible apply changesOnly.step (k := exe_changes _ _)) <;> try first | decide)
    | with_reducible apply changesOnly.step (k := refreshField_changes _)
    | with_reducible apply changesOnly.step (k := leaveInit_changes _)

theorem takeSyncing_changes (s : State) (cause : Nat) :
    changesOnly [.unit .staged, .unit .own, .unit .exe, .unit .hz, .unit .fch, .unit .grd, .unit .gmu, .unit .wnt, .unit .pair, .unit .spr, .unit .cmd, .unit .net, .unit .can, .unit .sbk, .unit .sup, .ctr Reg.exeSnapMaxexec, .ctr Reg.exeSnapSkip, .ctr Reg.gmuSnapSheds, .ctr Reg.grdSnapRef, .ctr Reg.netSnapTtlate, .inForce Reg.fchAicfg, .inForce Reg.fchAocfg, .inForce Reg.fchAosafe, .inForce Reg.fchDicfg, .inForce Reg.fchDocfg, .inForce Reg.fchMode, .inForce Reg.fchPulsecfg, .inForce Reg.fchStopcfg, .inForce Reg.grdChload, .reg Reg.fchAicfg, .reg Reg.fchAocfg, .reg Reg.fchAosafe, .reg Reg.fchCtrl, .reg Reg.fchDicfg, .reg Reg.fchDocfg, .reg Reg.fchMode, .reg Reg.fchPulsecfg, .reg Reg.fchStopcfg, .reg Reg.grdChload, .flag Reg.canFlags 5, .flag Reg.canFlags 6, .flag Reg.cmdFlags 4, .flag Reg.exeFlags 2, .flag Reg.gmuFlags 2, .flag Reg.gmuFlags 4, .flag Reg.grdFlags 1, .flag Reg.grdFlags 3, .flag Reg.hzFlags 1, .flag Reg.hzFlags 3, .flag Reg.hzFlags 4, .flag Reg.hzFlags 5, .flag Reg.netFlags 8, .flag Reg.ppdFlags 0, .flag Reg.ppdFlags 2, .ctrsOf 2, .inForceOf 0xA, .inForceOf 5, .regsOf 0xA, .regsOf 5] s (takeSyncing s cause) := by
  unfold takeSyncing
  repeat' first
    | with_reducible exact changesOnly.refl _ _
    | decide
    | with_reducible apply changesOnly.step (k := startStation_changes _)
    | with_reducible apply changesOnly.step (k := takeField_changes _ _)
    | with_reducible apply changesOnly.step (k := changeRole_changes _ _ _)

theorem startOwner_changes (s : State) (r : Role) (cause : Nat) :
    changesOnly [.unit .staged, .unit .own, .unit .exe, .unit .hz, .unit .fch, .unit .grd, .unit .gmu, .unit .wnt, .unit .pair, .unit .spr, .unit .cmd, .unit .net, .unit .can, .unit .sbk, .unit .sup, .ctr Reg.exeSnapMaxexec, .ctr Reg.gmuSnapSheds, .ctr Reg.grdSnapRef, .inForce Reg.fchAicfg, .inForce Reg.fchAocfg, .inForce Reg.fchAosafe, .inForce Reg.fchDicfg, .inForce Reg.fchDocfg, .inForce Reg.fchMode, .inForce Reg.fchPulsecfg, .inForce Reg.fchStopcfg, .inForce Reg.grdChload, .reg Reg.fchAicfg, .reg Reg.fchAocfg, .reg Reg.fchAosafe, .reg Reg.fchCtrl, .reg Reg.fchDicfg, .reg Reg.fchDocfg, .reg Reg.fchMode, .reg Reg.fchPulsecfg, .reg Reg.fchStopcfg, .reg Reg.grdChload, .flag Reg.canFlags 5, .flag Reg.canFlags 6, .flag Reg.cmdFlags 4, .flag Reg.exeFlags 2, .flag Reg.gmuFlags 4, .flag Reg.grdFlags 1, .flag Reg.grdFlags 3, .flag Reg.hzFlags 1, .flag Reg.hzFlags 3, .flag Reg.hzFlags 4, .flag Reg.hzFlags 5, .flag Reg.ppdFlags 2, .ctrsOf 2, .inForceOf 0xA, .inForceOf 5, .regsOf 0xA, .regsOf 5] s (startOwner s r cause) := by
  unfold startOwner
  repeat' first
    | with_reducible exact changesOnly.refl _ _
    | decide
    | with_reducible apply changesOnly.step (k := canTakeover_changes _)
    | with_reducible apply changesOnly.step (k := startStation_changes _)
    | with_reducible apply changesOnly.step (k := changeRole_changes _ _ _)

theorem takeByLoss_changes (s : State) (cause : Nat) :
    changesOnly [.unit .staged, .unit .own, .unit .exe, .unit .hz, .unit .fch, .unit .grd, .unit .gmu, .unit .wnt, .unit .pair, .unit .spr, .unit .cmd, .unit .net, .unit .can, .unit .sbk, .unit .sup, .ctr Reg.exeSnapMaxexec, .ctr Reg.exeSnapSkip, .ctr Reg.gmuSnapSheds, .ctr Reg.grdSnapRef, .ctr Reg.netSnapTtlate, .inForce Reg.fchAicfg, .inForce Reg.fchAocfg, .inForce Reg.fchAosafe, .inForce Reg.fchDicfg, .inForce Reg.fchDocfg, .inForce Reg.fchMode, .inForce Reg.fchPulsecfg, .inForce Reg.fchStopcfg, .inForce Reg.grdChload, .reg Reg.fchAicfg, .reg Reg.fchAocfg, .reg Reg.fchAosafe, .reg Reg.fchCtrl, .reg Reg.fchDicfg, .reg Reg.fchDocfg, .reg Reg.fchMode, .reg Reg.fchPulsecfg, .reg Reg.fchStopcfg, .reg Reg.grdChload, .flag Reg.canFlags 5, .flag Reg.canFlags 6, .flag Reg.cmdFlags 4, .flag Reg.exeFlags 2, .flag Reg.gmuFlags 2, .flag Reg.gmuFlags 4, .flag Reg.grdFlags 1, .flag Reg.grdFlags 3, .flag Reg.hzFlags 1, .flag Reg.hzFlags 3, .flag Reg.hzFlags 4, .flag Reg.hzFlags 5, .flag Reg.netFlags 8, .flag Reg.ppdFlags 0, .flag Reg.ppdFlags 2, .ctrsOf 2, .inForceOf 0xA, .inForceOf 5, .regsOf 0xA, .regsOf 5] s (takeByLoss s cause) := by
  unfold takeByLoss
  repeat' first
    | with_reducible exact changesOnly.refl _ _
    | decide
    | with_reducible apply changesOnly.step (k := takeSyncing_changes _ _)
    | with_reducible apply changesOnly.step (k := takeover_changes _ _ _ _ _)
    | dsimp only
    | split

theorem modPair_changes (s : State) (f : Pair → Pair) :
    changesOnly [.unit .pair] s (modPair s f) := by
  unfold modPair
  repeat' first
    | with_reducible exact changesOnly.refl _ _
    | decide
    | (fail_if_no_progress (with_reducible apply changesOnly.step (k := pair_changes _ _)) <;> try first | decide)

theorem modLane_changes (s : State) (k : Nat) (f : Lane → Lane) :
    changesOnly [.unit .pair] s (modLane s k f) := by
  unfold modLane
  repeat' first
    | with_reducible exact changesOnly.refl _ _
    | decide
    | with_reducible apply changesOnly.step (k := modPair_changes _ _)

theorem linkDetect_changes (s : State) :
    changesOnly [.unit .pair] s (linkDetect s) := by
  unfold linkDetect
  repeat' first
    | with_reducible exact changesOnly.refl _ _
    | decide
    | with_reducible apply changesOnly.step (k := modPair_changes _ _)

theorem noteEye_changes (s : State) (m : LaneMeasure) :
    changesOnly [.unit .pair] s (noteEye s m) := by
  unfold noteEye
  repeat' first
    | with_reducible exact changesOnly.refl _ _
    | decide
    | with_reducible apply changesOnly.step (k := modLane_changes _ _ _)

theorem assignLanes_changes (s : State) (ms : List LaneMeasure) :
    changesOnly [.unit .pair] s (assignLanes s ms) := by
  unfold assignLanes
  repeat' first
    | with_reducible exact changesOnly.refl _ _
    | decide
    | with_reducible apply changesOnly.step (k := modLane_changes _ _ _)
    | (with_reducible apply changesOnly.foldl; intro _ _)

theorem sendChallenge_changes (s : State) :
    changesOnly [.unit .free, .unit .pair] s (sendChallenge s) := by
  unfold sendChallenge
  repeat' first
    | with_reducible exact changesOnly.refl _ _
    | decide
    | (fail_if_no_progress (with_reducible apply changesOnly.step (k := free_changes _ _)) <;> try first | decide)
    | with_reducible apply changesOnly.step (k := modPair_changes _ _)

theorem sendIdent_changes (s : State) (challenge : List Byte) :
    changesOnly [.unit .pair, .ctr Reg.truSnapSign] s (sendIdent s challenge) := by
  unfold sendIdent
  repeat' first
    | with_reducible exact changesOnly.refl _ _
    | decide
    | with_reducible apply changesOnly.step (k := modPair_changes _ _)
    | with_reducible apply changesOnly.step (k := countUp_changes _ _ _)
    | dsimp only
    | split

theorem trainPhase_changes (s : State) (ms : List LaneMeasure) :
    changesOnly [.unit .free, .unit .pair] s (trainPhase s ms) := by
  unfold trainPhase
  repeat' first
    | with_reducible exact changesOnly.refl _ _
    | decide
    | with_reducible apply changesOnly.step (k := modLane_changes _ _ _)
    | with_reducible apply changesOnly.step (k := modPair_changes _ _)
    | with_reducible apply changesOnly.step (k := noteEye_changes _ _)
    | with_reducible apply changesOnly.step (k := sendChallenge_changes _)
    | with_reducible apply changesOnly.step (k := assignLanes_changes _ _)
    | (with_reducible apply changesOnly.foldl; intro _ _)
    | dsimp only
    | split

theorem identFailed_changes (s : State) :
    changesOnly [.unit .own, .unit .exe, .unit .hz, .unit .fch, .unit .grd, .unit .wnt, .unit .pair, .unit .cmd, .unit .sbk, .ctr Reg.grdSnapRef, .flag Reg.cmdFlags 4, .flag Reg.grdFlags 1, .flag Reg.grdFlags 3, .flag Reg.hzFlags 3, .flag Reg.hzFlags 4, .flag Reg.hzFlags 5, .flag Reg.ppdFlags 2, .flag Reg.ppdFlags 6] s (identFailed s) := by
  unfold identFailed
  repeat' first
    | with_reducible exact changesOnly.refl _ _
    | decide
    | with_reducible apply changesOnly.step (k := ppdRaise_changes _ _)
    | with_reducible apply changesOnly.step (k := modPair_changes _ _)
    | with_reducible apply changesOnly.step (k := changeRole_changes _ _ _)
    | dsimp only
    | split

theorem identPassed_changes (s : State) (d : IdentData) :
    changesOnly [.unit .own, .unit .exe, .unit .hz, .unit .fch, .unit .grd, .unit .wnt, .unit .pair, .unit .cmd, .unit .sbk, .unit .sup, .ctr Reg.grdSnapRef, .flag Reg.cmdFlags 4, .flag Reg.grdFlags 1, .flag Reg.grdFlags 3, .flag Reg.hzFlags 3, .flag Reg.hzFlags 4, .flag Reg.hzFlags 5, .flag Reg.ppdFlags 2] s (identPassed s d) := by
  unfold identPassed
  repeat' first
    | with_reducible exact changesOnly.refl _ _
    | decide
    | (fail_if_no_progress (with_reducible apply changesOnly.step (k := sup_changes _ _)) <;> try first | decide)
    | with_reducible apply changesOnly.step (k := modPair_changes _ _)
    | with_reducible apply changesOnly.step (k := changeRole_changes _ _ _)
    | with_reducible apply changesOnly.step (k := send_changes _ _)
    | dsimp only
    | split

theorem fewLanes_changes (s : State) :
    changesOnly [.unit .own, .unit .exe, .unit .hz, .unit .fch, .unit .grd, .unit .wnt, .unit .pair, .unit .cmd, .unit .sbk, .ctr Reg.grdSnapRef, .flag Reg.cmdFlags 4, .flag Reg.grdFlags 1, .flag Reg.grdFlags 3, .flag Reg.hzFlags 3, .flag Reg.hzFlags 4, .flag Reg.hzFlags 5, .flag Reg.ppdFlags 2] s (fewLanes s) := by
  unfold fewLanes
  repeat' first
    | with_reducible exact changesOnly.refl _ _
    | decide
    | with_reducible apply changesOnly.step (k := modPair_changes _ _)
    | with_reducible apply changesOnly.step (k := changeRole_changes _ _ _)
    | dsimp only
    | split

theorem postRetired_changes (s : State) (k : Nat) :
    changesOnly [.unit .exe, .unit .grd, .unit .pair, .unit .spr, .unit .cmd, .unit .net, .unit .sbk, .unit .sup, .flag Reg.cmdFlags 4, .flag Reg.ppdFlags 4] s (postRetired s k) := by
  unfold postRetired
  repeat' first
    | with_reducible exact changesOnly.refl _ _
    | decide
    | with_reducible apply changesOnly.step (k := post_changes _ _ _ _ _ _)
    | with_reducible apply changesOnly.step (k := ppdRaise_changes _ _)
    | with_reducible apply changesOnly.step (k := writeSproutRecord_changes _)
    | with_reducible apply changesOnly.step (k := modLane_changes _ _ _)

theorem noSpareLane_changes (s : State) :
    changesOnly [.unit .cmd, .unit .sbk, .flag Reg.cmdFlags 4, .flag Reg.sprFlags 2] s (noSpareLane s) := by
  unfold noSpareLane
  repeat' first
    | with_reducible exact changesOnly.refl _ _
    | decide
    | with_reducible apply changesOnly.step (k := exhausted_changes _ _)
    | with_reducible apply changesOnly.step (k := post_changes _ _ _ _ _ _)
    | dsimp only
    | split

theorem retireLinkLane_changes (s : State) (k : Nat) :
    changesOnly [.unit .exe, .unit .grd, .unit .pair, .unit .spr, .unit .cmd, .unit .net, .unit .sbk, .unit .sup, .flag Reg.cmdFlags 4, .flag Reg.ppdFlags 4, .flag Reg.sprFlags 2] s (retireLinkLane s k) := by
  unfold retireLinkLane
  repeat' first
    | with_reducible exact changesOnly.refl _ _
    | decide
    | with_reducible apply changesOnly.step (k := postRetired_changes _ _)
    | with_reducible apply changesOnly.step (k := modLane_changes _ _ _)
    | with_reducible apply changesOnly.step (k := noSpareLane_changes _)
    | dsimp only
    | split

theorem retrainNext_changes (s : State) :
    changesOnly [.unit .pair] s (retrainNext s) := by
  unfold retrainNext
  repeat' first
    | with_reducible exact changesOnly.refl _ _
    | decide
    | with_reducible apply changesOnly.step (k := modPair_changes _ _)
    | with_reducible apply changesOnly.step (k := modLane_changes _ _ _)
    | dsimp only
    | split

theorem retrainRetired_changes (s : State) :
    changesOnly [.unit .pair] s (retrainRetired s) := by
  unfold retrainRetired
  repeat' first
    | with_reducible exact changesOnly.refl _ _
    | decide
    | with_reducible apply changesOnly.step (k := retrainNext_changes _)
    | with_reducible apply changesOnly.step (k := modPair_changes _ _)

theorem decisionMade_changes (s : State) :
    changesOnly [.unit .sup] s (decisionMade s) := by
  unfold decisionMade
  repeat' first
    | with_reducible exact changesOnly.refl _ _
    | decide
    | (fail_if_no_progress (with_reducible apply changesOnly.step (k := sup_changes _ _)) <;> try first | decide)

theorem startSyncing_changes (s : State) :
    changesOnly [.unit .own, .unit .exe, .unit .hz, .unit .fch, .unit .grd, .unit .wnt, .unit .pair, .unit .cmd, .unit .sbk, .ctr Reg.grdSnapRef, .flag Reg.cmdFlags 4, .flag Reg.grdFlags 1, .flag Reg.grdFlags 3, .flag Reg.hzFlags 3, .flag Reg.hzFlags 4, .flag Reg.hzFlags 5, .flag Reg.ppdFlags 2] s (startSyncing s) := by
  unfold startSyncing
  repeat' first
    | with_reducible exact changesOnly.refl _ _
    | decide
    | with_reducible apply changesOnly.step (k := changeRole_changes _ _ _)
    | with_reducible apply changesOnly.step (k := modPair_changes _ _)
    | dsimp only
    | split

theorem claimField_changes (s : State) :
    changesOnly [.unit .staged, .unit .own, .unit .exe, .unit .hz, .unit .fch, .unit .grd, .unit .gmu, .unit .wnt, .unit .pair, .unit .spr, .unit .cmd, .unit .net, .unit .can, .unit .sbk, .unit .sup, .ctr Reg.exeSnapMaxexec, .ctr Reg.gmuSnapSheds, .ctr Reg.grdSnapRef, .inForce Reg.fchAicfg, .inForce Reg.fchAocfg, .inForce Reg.fchAosafe, .inForce Reg.fchDicfg, .inForce Reg.fchDocfg, .inForce Reg.fchMode, .inForce Reg.fchPulsecfg, .inForce Reg.fchStopcfg, .inForce Reg.grdChload, .reg Reg.fchAicfg, .reg Reg.fchAocfg, .reg Reg.fchAosafe, .reg Reg.fchCtrl, .reg Reg.fchDicfg, .reg Reg.fchDocfg, .reg Reg.fchMode, .reg Reg.fchPulsecfg, .reg Reg.fchStopcfg, .reg Reg.grdChload, .flag Reg.canFlags 5, .flag Reg.canFlags 6, .flag Reg.cmdFlags 4, .flag Reg.exeFlags 2, .flag Reg.gmuFlags 4, .flag Reg.grdFlags 1, .flag Reg.grdFlags 3, .flag Reg.hzFlags 1, .flag Reg.hzFlags 3, .flag Reg.hzFlags 4, .flag Reg.hzFlags 5, .flag Reg.ppdFlags 11, .flag Reg.ppdFlags 2, .ctrsOf 2, .inForceOf 0xA, .inForceOf 5, .regsOf 0xA, .regsOf 5] s (claimField s) := by
  unfold claimField
  repeat' first
    | with_reducible exact changesOnly.refl _ _
    | decide
    | with_reducible apply changesOnly.step (k := startOwner_changes _ _ _)
    | with_reducible apply changesOnly.step (k := ppdRaise_changes _ _)
    | dsimp only
    | split

theorem goOffline_changes (s : State) (cause : Nat) :
    changesOnly [.unit .own, .unit .exe, .unit .hz, .unit .fch, .unit .grd, .unit .wnt, .unit .pair, .unit .cmd, .unit .sbk, .ctr Reg.grdSnapRef, .flag Reg.cmdFlags 4, .flag Reg.grdFlags 1, .flag Reg.grdFlags 3, .flag Reg.hzFlags 3, .flag Reg.hzFlags 4, .flag Reg.hzFlags 5, .flag Reg.ppdFlags 10, .flag Reg.ppdFlags 2] s (goOffline s cause) := by
  unfold goOffline
  repeat' first
    | with_reducible exact changesOnly.refl _ _
    | decide
    | with_reducible apply changesOnly.step (k := send_changes _ _)
    | with_reducible apply changesOnly.step (k := modPair_changes _ _)
    | with_reducible apply changesOnly.step (k := partnerLost_changes _)
    | with_reducible apply changesOnly.step (k := changeRole_changes _ _ _)
    | dsimp only
    | split

theorem sendBulk_changes (s : State) (area : List (Nat × Byte)) :
    changesOnly [.unit .exe, .unit .pair] s (sendBulk s area) := by
  unfold sendBulk
  repeat' first
    | with_reducible exact changesOnly.refl _ _
    | decide
    | (fail_if_no_progress (with_reducible apply changesOnly.step (k := exe_changes _ _)) <;> try first | decide)
    | with_reducible apply changesOnly.step (k := send_changes _ _)
    | (with_reducible apply changesOnly.foldl; intro _ _)

theorem startResync_changes (s : State) :
    changesOnly [.unit .exe, .unit .pair] s (startResync s) := by
  unfold startResync
  repeat' first
    | with_reducible exact changesOnly.refl _ _
    | decide
    | with_reducible apply changesOnly.step (k := modPair_changes _ _)
    | with_reducible apply changesOnly.step (k := send_changes _ _)
    | with_reducible apply changesOnly.step (k := sendBulk_changes _ _)
    | dsimp only
    | split

theorem partnerSyncing_changes (s : State) :
    changesOnly [.unit .own, .unit .exe, .unit .hz, .unit .fch, .unit .grd, .unit .gmu, .unit .wnt, .unit .pair, .unit .cmd, .unit .net, .unit .can, .unit .sbk, .ctr Reg.gmuSnapSheds, .ctr Reg.grdSnapRef, .flag Reg.cmdFlags 4, .flag Reg.gmuFlags 4, .flag Reg.grdFlags 1, .flag Reg.grdFlags 3, .flag Reg.hzFlags 3, .flag Reg.hzFlags 4, .flag Reg.hzFlags 5, .flag Reg.ppdFlags 2] s (partnerSyncing s) := by
  unfold partnerSyncing
  repeat' first
    | with_reducible exact changesOnly.refl _ _
    | decide
    | with_reducible apply changesOnly.step (k := changeRole_changes _ _ _)
    | with_reducible apply changesOnly.step (k := startResync_changes _)
    | with_reducible apply changesOnly.step (k := applyOutstanding_changes _)
    | dsimp only
    | split

theorem onPartnerRole_changes (s : State) (r : Role) :
    changesOnly [.unit .own, .unit .exe, .unit .hz, .unit .fch, .unit .grd, .unit .gmu, .unit .wnt, .unit .pair, .unit .cmd, .unit .net, .unit .can, .unit .sbk, .ctr Reg.gmuSnapSheds, .ctr Reg.grdSnapRef, .flag Reg.cmdFlags 4, .flag Reg.gmuFlags 4, .flag Reg.grdFlags 1, .flag Reg.grdFlags 3, .flag Reg.hzFlags 3, .flag Reg.hzFlags 4, .flag Reg.hzFlags 5, .flag Reg.ppdFlags 10, .flag Reg.ppdFlags 2] s (onPartnerRole s r) := by
  unfold onPartnerRole
  repeat' first
    | with_reducible exact changesOnly.refl _ _
    | decide
    | with_reducible apply changesOnly.step (k := partnerSyncing_changes _)
    | with_reducible apply changesOnly.step (k := becomeAlone_changes _ _)
    | with_reducible apply changesOnly.step (k := concludeAll_changes _ _ _ _ _)
    | with_reducible apply changesOnly.step (k := startResync_changes _)
    | dsimp only
    | split

theorem runGivenSlot_changes (s : State) (b : Nat) :
    changesOnly [.unit .own, .unit .exe, .unit .hz, .unit .fch, .unit .grd, .unit .gmu, .unit .pair, .unit .cmd, .unit .net, .unit .can, .unit .sbk, .ctr Reg.gmuSnapSheds, .ctr Reg.grdSnapRef, .reg Reg.hzApply, .flag Reg.cmdFlags 4, .flag Reg.gmuFlags 4, .flag Reg.grdFlags 1, .flag Reg.grdFlags 3, .flag Reg.hzFlags 2, .flag Reg.hzFlags 3, .flag Reg.hzFlags 4, .flag Reg.hzFlags 6, .ctrsOf 2] s (runGivenSlot s b) := by
  unfold runGivenSlot
  repeat' first
    | with_reducible exact changesOnly.refl _ _
    | decide
    | with_reducible apply changesOnly.step (k := runLoops_changes _ _)
    | dsimp only
    | split

theorem releaseGiven_changes (s : State) (b : Nat) :
    changesOnly [.unit .own, .unit .exe, .unit .hz, .unit .fch, .unit .grd, .unit .gmu, .unit .wnt, .unit .spr, .unit .cmd, .unit .net, .unit .sbk, .unit .sup, .ctr Reg.exeSnapRel, .ctr Reg.exeSnapSkip, .ctr Reg.grdSnapRef, .flag Reg.cmdFlags 4, .flag Reg.exeFlags 0, .flag Reg.exeFlags 1, .flag Reg.grdFlags 1, .flag Reg.grdFlags 3] s (releaseGiven s b) := by
  unfold releaseGiven
  repeat' first
    | with_reducible exact changesOnly.refl _ _
    | decide
    | with_reducible apply changesOnly.step (k := releaseDue_changes _ _)
    | dsimp only
    | split

theorem swapAsked_changes (s : State) (a : SwapAsk) :
    changesOnly [.unit .own, .unit .exe, .unit .hz, .unit .fch, .unit .grd, .unit .wnt, .unit .pair, .unit .cmd, .unit .sbk, .ctr Reg.grdSnapRef, .flag Reg.cmdFlags 4, .flag Reg.grdFlags 1, .flag Reg.grdFlags 3, .flag Reg.hzFlags 3, .flag Reg.hzFlags 4, .flag Reg.hzFlags 5, .flag Reg.ppdFlags 2] s (swapAsked s a) := by
  unfold swapAsked
  repeat' first
    | with_reducible exact changesOnly.refl _ _
    | decide
    | with_reducible apply changesOnly.step (k := modPair_changes _ _)
    | with_reducible apply changesOnly.step (k := changeRole_changes _ _ _)
    | with_reducible apply changesOnly.step (k := send_changes _ _)
    | with_reducible apply changesOnly.step (k := concludeAll_changes _ _ _ _ _)
    | dsimp only
    | split

theorem adoptImage_changes (s : State) (im : Image) :
    changesOnly [.unit .staged, .unit .own, .unit .exe, .unit .hz, .unit .fch, .unit .grd, .unit .gmu, .unit .wnt, .unit .pair, .unit .cmd, .unit .net, .unit .can, .unit .sbk, .ctr Reg.gmuSnapSheds, .ctr Reg.grdSnapRef, .ctr Reg.truSnapFail, .ctr Reg.truSnapVerify, .inForce Reg.fchAicfg, .inForce Reg.fchAocfg, .inForce Reg.fchAosafe, .inForce Reg.fchDicfg, .inForce Reg.fchDocfg, .inForce Reg.fchMode, .inForce Reg.fchPulsecfg, .inForce Reg.fchStopcfg, .inForce Reg.grdChload, .reg Reg.fchAicfg, .reg Reg.fchAocfg, .reg Reg.fchAosafe, .reg Reg.fchCtrl, .reg Reg.fchDicfg, .reg Reg.fchDocfg, .reg Reg.fchMode, .reg Reg.fchPulsecfg, .reg Reg.fchStopcfg, .reg Reg.grdChload, .flag Reg.canFlags 5, .flag Reg.cmdFlags 4, .flag Reg.gmuFlags 4, .flag Reg.grdFlags 1, .flag Reg.grdFlags 3, .flag Reg.hzFlags 1, .flag Reg.hzFlags 3, .flag Reg.hzFlags 4, .flag Reg.hzFlags 5, .flag Reg.ppdFlags 2, .flag Reg.truFlags 0, .inForceOf 0xA, .inForceOf 5, .regsOf 0xA, .regsOf 5] s (adoptImage s im) := by
  unfold adoptImage
  repeat' first
    | with_reducible exact changesOnly.refl _ _
    | decide
    | (fail_if_no_progress (with_reducible apply changesOnly.step (k := exe_changes _ _)) <;> try first | decide)
    | with_reducible apply changesOnly.step (k := verifyImage_changes _ _)
    | with_reducible apply changesOnly.step (k := modPair_changes _ _)
    | with_reducible apply changesOnly.step (k := installImage_changes _ _ _)
    | with_reducible apply changesOnly.step (k := changeRole_changes _ _ _)
    | dsimp only
    | split

theorem resyncFollower_changes (s : State) (marked : Nat) (image : Option Image) :
    changesOnly [.unit .staged, .unit .own, .unit .exe, .unit .hz, .unit .fch, .unit .grd, .unit .gmu, .unit .wnt, .unit .pair, .unit .cmd, .unit .net, .unit .can, .unit .sbk, .ctr Reg.gmuSnapSheds, .ctr Reg.grdSnapRef, .ctr Reg.truSnapFail, .ctr Reg.truSnapVerify, .inForce Reg.fchAicfg, .inForce Reg.fchAocfg, .inForce Reg.fchAosafe, .inForce Reg.fchDicfg, .inForce Reg.fchDocfg, .inForce Reg.fchMode, .inForce Reg.fchPulsecfg, .inForce Reg.fchStopcfg, .inForce Reg.grdChload, .reg Reg.fchAicfg, .reg Reg.fchAocfg, .reg Reg.fchAosafe, .reg Reg.fchCtrl, .reg Reg.fchDicfg, .reg Reg.fchDocfg, .reg Reg.fchMode, .reg Reg.fchPulsecfg, .reg Reg.fchStopcfg, .reg Reg.grdChload, .flag Reg.canFlags 5, .flag Reg.cmdFlags 4, .flag Reg.gmuFlags 4, .flag Reg.grdFlags 1, .flag Reg.grdFlags 3, .flag Reg.hzFlags 1, .flag Reg.hzFlags 3, .flag Reg.hzFlags 4, .flag Reg.hzFlags 5, .flag Reg.ppdFlags 2, .flag Reg.truFlags 0, .inForceOf 0xA, .inForceOf 5, .regsOf 0xA, .regsOf 5] s (resyncFollower s marked image) := by
  unfold resyncFollower
  repeat' first
    | with_reducible exact changesOnly.refl _ _
    | decide
    | with_reducible apply changesOnly.step (k := adoptImage_changes _ _)
    | with_reducible apply changesOnly.step (k := modPair_changes _ _)
    | dsimp only
    | split

theorem resyncOwner_changes (s : State) (marked : Nat) :
    changesOnly [.unit .exe, .unit .pair] s (resyncOwner s marked) := by
  unfold resyncOwner
  repeat' first
    | with_reducible exact changesOnly.refl _ _
    | decide
    | with_reducible apply changesOnly.step (k := sendBulk_changes _ _)
    | with_reducible apply changesOnly.step (k := modPair_changes _ _)
    | dsimp only
    | split

theorem resumeReleases_changes (s : State) :
    changesOnly [.unit .exe] s (resumeReleases s) := by
  unfold resumeReleases
  repeat' first
    | with_reducible exact changesOnly.refl _ _
    | decide
    | (fail_if_no_progress (with_reducible apply changesOnly.step (k := exe_changes _ _)) <;> try first | decide)

theorem giveField_changes (s : State) (swap : Bool) :
    changesOnly [.unit .staged, .unit .own, .unit .exe, .unit .hz, .unit .fch, .unit .grd, .unit .gmu, .unit .wnt, .unit .pair, .unit .cmd, .unit .net, .unit .can, .unit .sbk, .ctr Reg.gmuSnapSheds, .ctr Reg.grdSnapRef, .inForce Reg.fchAicfg, .inForce Reg.fchAocfg, .inForce Reg.fchAosafe, .inForce Reg.fchDicfg, .inForce Reg.fchDocfg, .inForce Reg.fchMode, .inForce Reg.fchPulsecfg, .inForce Reg.fchStopcfg, .inForce Reg.grdChload, .reg Reg.fchAicfg, .reg Reg.fchAocfg, .reg Reg.fchAosafe, .reg Reg.fchCtrl, .reg Reg.fchDicfg, .reg Reg.fchDocfg, .reg Reg.fchMode, .reg Reg.fchPulsecfg, .reg Reg.fchStopcfg, .reg Reg.grdChload, .flag Reg.canFlags 5, .flag Reg.cmdFlags 4, .flag Reg.gmuFlags 4, .flag Reg.grdFlags 1, .flag Reg.grdFlags 3, .flag Reg.hzFlags 1, .flag Reg.hzFlags 3, .flag Reg.hzFlags 4, .flag Reg.hzFlags 5, .flag Reg.ppdFlags 2, .inForceOf 0xA, .inForceOf 5, .regsOf 0xA, .regsOf 5] s (giveField s swap) := by
  unfold giveField
  repeat' first
    | with_reducible exact changesOnly.refl _ _
    | decide
    | with_reducible apply changesOnly.step (k := modPair_changes _ _)
    | with_reducible apply changesOnly.step (k := changeRole_changes _ _ _)
    | with_reducible apply changesOnly.step (k := installImage_changes _ _ _)
    | dsimp only
    | split

theorem noteDivergence_changes (s : State) :
    changesOnly [.unit .pair, .unit .cmd, .unit .sbk, .flag Reg.cmdFlags 4, .flag Reg.ppdFlags 9] s (noteDivergence s) := by
  unfold noteDivergence
  repeat' first
    | with_reducible exact changesOnly.refl _ _
    | decide
    | with_reducible apply changesOnly.step (k := modPair_changes _ _)
    | with_reducible apply changesOnly.step (k := post_changes _ _ _ _ _ _)
    | with_reducible apply changesOnly.step (k := ppdRaise_changes _ _)
    | dsimp only
    | split

theorem dropUnserved_changes (s : State) :
    changesOnly [.unit .fch, .unit .grd, .unit .spr, .unit .cmd, .unit .sbk, .ctr Reg.grdSnapRef, .flag Reg.cmdFlags 4, .flag Reg.grdFlags 1, .flag Reg.grdFlags 3, .flag Reg.sprFlags 2] s (dropUnserved s) := by
  unfold dropUnserved
  repeat' first
    | with_reducible exact changesOnly.refl _ _
    | decide
    | (fail_if_no_progress (with_reducible apply changesOnly.step (k := spr_changes _ _)) <;> try first | decide)
    | with_reducible apply changesOnly.step (k := refresh_changes _ _)
    | with_reducible apply changesOnly.step (k := concludeAll_changes _ _ _ _ _)
    | with_reducible apply changesOnly.step (k := exhausted_changes _ _)
    | (with_reducible apply changesOnly.foldl; intro _ _)

theorem connectSpare_changes (s : State) (c : Nat) (sp : Nat) :
    changesOnly [.unit .fch, .unit .grd, .unit .cmd, .ctr Reg.grdSnapRef, .flag Reg.grdFlags 1, .flag Reg.grdFlags 3] s (connectSpare s c sp) := by
  unfold connectSpare
  repeat' first
    | with_reducible exact changesOnly.refl _ _
    | decide
    | with_reducible apply changesOnly.step (k := modFe_changes _ _ _)
    | with_reducible apply changesOnly.step (k := refresh_changes _ _)

theorem coreFailed_changes (s : State) (p : CorePair) :
    changesOnly [.unit .spr, .unit .cmd, .unit .sbk, .flag Reg.cmdFlags 4] s (coreFailed s p) := by
  unfold coreFailed
  repeat' first
    | with_reducible exact changesOnly.refl _ _
    | decide
    | (fail_if_no_progress (with_reducible apply changesOnly.step (k := spr_changes _ _)) <;> try first | decide)
    | with_reducible apply changesOnly.step (k := post_changes _ _ _ _ _ _)

theorem noCoreSpare_changes (s : State) (p : CorePair) :
    changesOnly [.unit .own, .unit .exe, .unit .hz, .unit .fch, .unit .grd, .unit .wnt, .unit .pair, .unit .spr, .unit .cmd, .unit .net, .unit .sbk, .unit .sup, .ctr Reg.grdSnapRef, .flag Reg.cmdFlags 4, .flag Reg.grdFlags 1, .flag Reg.grdFlags 3, .flag Reg.hzFlags 3, .flag Reg.hzFlags 4, .flag Reg.hzFlags 5, .flag Reg.ppdFlags 10, .flag Reg.ppdFlags 2, .flag Reg.sprFlags 2] s (noCoreSpare s p) := by
  unfold noCoreSpare
  repeat' first
    | with_reducible exact changesOnly.refl _ _
    | decide
    | with_reducible apply changesOnly.step (k := moduleFault_changes _ _ _ _ _)
    | with_reducible apply changesOnly.step (k := exhausted_changes _ _)

theorem holdupReduced_changes (s : State) (k : Nat) :
    changesOnly [.unit .spr, .unit .cmd, .unit .sbk, .flag Reg.cmdFlags 4, .flag Reg.sprFlags 2] s (holdupReduced s k) := by
  unfold holdupReduced
  repeat' first
    | with_reducible exact changesOnly.refl _ _
    | decide
    | (fail_if_no_progress (with_reducible apply changesOnly.step (k := spr_changes _ _)) <;> try first | decide)
    | with_reducible apply changesOnly.step (k := post_changes _ _ _ _ _ _)
    | with_reducible apply changesOnly.step (k := exhausted_changes _ _)

theorem serveCells_changes (s : State) :
    changesOnly [.unit .spr, .unit .cmd, .unit .sbk, .flag Reg.cmdFlags 4, .flag Reg.sprFlags 2] s (serveCells s) := by
  unfold serveCells
  repeat' first
    | with_reducible exact changesOnly.refl _ _
    | decide
    | (fail_if_no_progress (with_reducible apply changesOnly.step (k := spr_changes _ _)) <;> try first | decide)
    | with_reducible apply changesOnly.step (k := holdupReduced_changes _ _)
    | (with_reducible apply changesOnly.foldl; intro _ _)
    | dsimp only
    | split

theorem swapOsc_changes (s : State) (out : Nat) (kept : Nat) :
    changesOnly [.unit .exe, .unit .grd, .unit .spr, .unit .cmd, .unit .net, .unit .sbk, .unit .sup, .ctr Reg.sprSnapSprouts, .flag Reg.cmdFlags 4, .flag Reg.sprFlags 0, .flag Reg.sprFlags 4] s (swapOsc s out kept) := by
  unfold swapOsc
  repeat' first
    | with_reducible exact changesOnly.refl _ _
    | decide
    | (fail_if_no_progress (with_reducible apply changesOnly.step (k := spr_changes _ _)) <;> try first | decide)
    | with_reducible apply changesOnly.step (k := post_changes _ _ _ _ _ _)
    | with_reducible apply changesOnly.step (k := sprRaise_changes _ _)
    | with_reducible apply changesOnly.step (k := sprouted_changes _)

theorem setSlot_changes (s : State) (k : Nat) (c : Option Certificate) :
    changesOnly [.unit .tru, .flag Reg.truFlags 3] s (setSlot s k c) := by
  unfold setSlot
  repeat' first
    | with_reducible exact changesOnly.refl _ _
    | decide
    | (fail_if_no_progress (with_reducible apply changesOnly.step (k := tru_changes _ _)) <;> try first | decide)
    | with_reducible apply changesOnly.step (k := truRaise_changes _ _)

theorem runInstall_changes (s : State) (session : Nat) (slot : Nat) (c : Certificate) :
    changesOnly [.unit .cmd, .unit .sbk, .unit .tru, .flag Reg.cmdFlags 4, .flag Reg.truFlags 3, .flag Reg.truFlags 5] s (runInstall s session slot c).s := by
  unfold runInstall
  repeat' first
    | with_reducible exact changesOnly.refl _ _
    | decide
    | (fail_if_no_progress (with_reducible apply changesOnly.step (k := tru_changes _ _)) <;> try first | decide)
    | with_reducible apply changesOnly.step (k := setSlot_changes _ _ _)
    | with_reducible apply changesOnly.step (k := dateUnchecked_changes _)
    | with_reducible apply changesOnly.step (k := post_changes _ _ _ _ _ _)
    | dsimp only
    | split

theorem runRemove_changes (s : State) (slot : Nat) :
    changesOnly [.unit .cmd, .unit .sbk, .unit .tru, .flag Reg.cmdFlags 4, .flag Reg.truFlags 3] s (runRemove s slot).s := by
  unfold runRemove
  repeat' first
    | with_reducible exact changesOnly.refl _ _
    | decide
    | with_reducible apply changesOnly.step (k := post_changes _ _ _ _ _ _)
    | with_reducible apply changesOnly.step (k := setSlot_changes _ _ _)
    | dsimp only
    | split

theorem failResponse_changes (s : State) :
    changesOnly [.unit .cmd, .ctr Reg.truSnapFail, .flag Reg.truFlags 2] s (failResponse s).s := by
  unfold failResponse
  repeat' first
    | with_reducible exact changesOnly.refl _ _
    | decide
    | (fail_if_no_progress (with_reducible apply changesOnly.step (k := cmd_changes _ _)) <;> try first | decide)
    | with_reducible apply changesOnly.step (k := truRaise_changes _ _)
    | with_reducible apply changesOnly.step (k := countUp_changes _ _ _)

theorem runResponse_changes (s : State) (session : Nat) (slot : Nat) (valid : Bool) :
    changesOnly [.unit .cmd, .unit .sbk, .unit .tru, .ctr Reg.truSnapFail, .ctr Reg.truSnapVerify, .flag Reg.cmdFlags 4, .flag Reg.truFlags 2, .flag Reg.truFlags 5] s (runResponse s session slot valid).s := by
  unfold runResponse
  repeat' first
    | with_reducible exact changesOnly.refl _ _
    | decide
    | (fail_if_no_progress (with_reducible apply changesOnly.step (k := cmd_changes _ _)) <;> try first | decide)
    | (fail_if_no_progress (with_reducible apply changesOnly.step (k := tru_changes _ _)) <;> try first | decide)
    | (fail_if_no_progress (with_reducible apply changesOnly.step (k := cmd_tru_changes _ _ _)) <;> try first | decide)
    | with_reducible apply changesOnly.step (k := countUp_changes _ _ _)
    | with_reducible apply changesOnly.step (k := failResponse_changes _)
    | with_reducible apply changesOnly.step (k := dateUnchecked_changes _)
    | with_reducible apply changesOnly.step (k := post_changes _ _ _ _ _ _)
    | dsimp only
    | split

theorem runCsr_changes (s : State) (request : List Byte) :
    changesOnly [.ctr Reg.truSnapSign] s (runCsr s request).s := by
  unfold runCsr
  repeat' first
    | with_reducible exact changesOnly.refl _ _
    | decide
    | with_reducible apply changesOnly.step (k := countUp_changes _ _ _)
    | dsimp only
    | split

theorem runOp_changes (s : State) (o : CredentialOp) :
    changesOnly [.unit .cmd, .unit .sbk, .unit .tru, .ctr Reg.truSnapFail, .ctr Reg.truSnapSign, .ctr Reg.truSnapVerify, .flag Reg.cmdFlags 4, .flag Reg.truFlags 2, .flag Reg.truFlags 3, .flag Reg.truFlags 5] s (runOp s o).s := by
  unfold runOp
  repeat' first
    | with_reducible exact changesOnly.refl _ _
    | decide
    | with_reducible apply changesOnly.step (k := runInstall_changes _ _ _ _)
    | with_reducible apply changesOnly.step (k := runRemove_changes _ _)
    | with_reducible apply changesOnly.step (k := runResponse_changes _ _ _ _)
    | with_reducible apply changesOnly.step (k := runCsr_changes _ _)
    | dsimp only
    | split

theorem closeReplaced_changes (s : State) (slot : Option Nat) :
    changesOnly [.unit .exe, .unit .wnt, .unit .cmd, .unit .sbk, .flag Reg.cmdFlags 4] s (closeReplaced s slot) := by
  unfold closeReplaced
  repeat' first
    | with_reducible exact changesOnly.refl _ _
    | decide
    | with_reducible apply changesOnly.step (k := closeSessions_changes _ _)
    | dsimp only
    | split

theorem credentialOp_changes (s : State) (c : Ctx) (o : CredentialOp) :
    changesOnly [.unit .exe, .unit .wnt, .unit .cmd, .unit .sbk, .unit .tru, .ctr Reg.truSnapFail, .ctr Reg.truSnapSign, .ctr Reg.truSnapVerify, .flag Reg.cmdFlags 1, .flag Reg.cmdFlags 2, .flag Reg.cmdFlags 4, .flag Reg.truFlags 2, .flag Reg.truFlags 3, .flag Reg.truFlags 5] s (credentialOp s c o) := by
  unfold credentialOp
  repeat' first
    | with_reducible exact changesOnly.refl _ _
    | decide
    | ((with_reducible (show within _ _ = true)); rfl)
    | (fail_if_no_progress (with_reducible apply changesOnly.step (k := tru_changes _ _)) <;> try first | decide)
    | with_reducible apply changesOnly.step (k := await_changes _ _ _ _ _)
    | with_reducible apply changesOnly.step (k := runOp_changes _ _)
    | with_reducible apply changesOnly.step (k := closeReplaced_changes _ _)
    | with_reducible apply changesOnly.step (k := answer_changes _ _ _ _ _ _ _)
    | dsimp only
    | split

theorem supRaise_changes (s : State) (n : Nat) :
    changesOnly [.flag Reg.supPflags n] s (supRaise s n) := by
  unfold supRaise
  repeat' first
    | with_reducible exact changesOnly.refl _ _
    | decide
    | with_reducible exact within_refl _
    | (simp [within, takesIn, Area.covers]; done)
    | with_reducible apply changesOnly.step (k := raise_changes _ _ _ _)

theorem modSup_changes (s : State) (f : Supervisor → Supervisor) :
    changesOnly [.unit .sup] s (modSup s f) := by
  unfold modSup
  repeat' first
    | with_reducible exact changesOnly.refl _ _
    | decide
    | (fail_if_no_progress (with_reducible apply changesOnly.step (k := sup_changes _ _)) <;> try first | decide)

theorem supPost_changes (s : State) (e : Event) (subject : Nat) (value1 : Nat) (value2 : Nat) :
    changesOnly [.unit .cmd, .unit .sbk, .unit .sup, .flag Reg.cmdFlags 4] s (supPost s e subject value1 value2) := by
  unfold supPost
  repeat' first
    | with_reducible exact changesOnly.refl _ _
    | decide
    | with_reducible apply changesOnly.step (k := modSup_changes _ _)
    | with_reducible apply changesOnly.step (k := post_changes _ _ _ _ _ _)
    | dsimp only
    | split

theorem holdSprouts_changes (s : State) :
    changesOnly [.unit .snaps] s (holdSprouts s) := by
  unfold holdSprouts
  repeat' first
    | with_reducible exact changesOnly.refl _ _
    | decide
    | (fail_if_no_progress (with_reducible apply changesOnly.step (k := snaps_changes _ _)) <;> try first | decide)

theorem resetModule_changes (s : State) (cause : Nat) :
    changesOnly [.unit .staged, .unit .snaps, .unit .now, .unit .own, .unit .exe, .unit .hz, .unit .fch, .unit .grd, .unit .gmu, .unit .wnt, .unit .pair, .unit .mem, .unit .spr, .unit .cmd, .unit .net, .unit .can, .unit .sbk, .unit .pnl, .unit .tru, .unit .sup, .anyCtr, .anyInForce, .anyReg] s (resetModule s cause) := by
  intro p hp
  cases p with
  | unit u => cases u <;> first | rfl | (simp [Area.has] at hp)
  | _ => simp [Area.has] at hp

theorem noteStorm_changes (s : State) :
    changesOnly [.unit .sup] s (noteStorm s) := by
  unfold noteStorm
  repeat' first
    | with_reducible exact changesOnly.refl _ _
    | decide
    | with_reducible apply changesOnly.step (k := modSup_changes _ _)
    | dsimp only
    | split

theorem doReset_changes (s : State) (cause : Nat) :
    changesOnly [.unit .staged, .unit .snaps, .unit .now, .unit .own, .unit .exe, .unit .hz, .unit .fch, .unit .grd, .unit .gmu, .unit .wnt, .unit .pair, .unit .mem, .unit .spr, .unit .cmd, .unit .net, .unit .can, .unit .sbk, .unit .pnl, .unit .tru, .unit .sup, .anyCtr, .anyInForce, .anyReg] s (doReset s cause) := by
  unfold doReset
  repeat' first
    | with_reducible exact changesOnly.refl _ _
    | decide
    | with_reducible exact within_refl _
    | (simp [within, takesIn, Area.covers]; done)
    | with_reducible apply changesOnly.step (k := noteStorm_changes _)
    | with_reducible apply changesOnly.step (k := modSup_changes _ _)
    | with_reducible apply changesOnly.step (k := resetModule_changes _ _)
    | dsimp only
    | split

theorem scheduleReset_changes (s : State) (cause : Nat) :
    changesOnly [.unit .sup] s (scheduleReset s cause) := by
  unfold scheduleReset
  repeat' first
    | with_reducible exact changesOnly.refl _ _
    | decide
    | with_reducible apply changesOnly.step (k := modSup_changes _ _)

theorem askReset_changes (s : State) :
    changesOnly [.unit .own, .unit .exe, .unit .hz, .unit .fch, .unit .grd, .unit .wnt, .unit .pair, .unit .cmd, .unit .sbk, .unit .sup, .ctr Reg.grdSnapRef, .flag Reg.cmdFlags 4, .flag Reg.grdFlags 1, .flag Reg.grdFlags 3, .flag Reg.hzFlags 3, .flag Reg.hzFlags 4, .flag Reg.hzFlags 5, .flag Reg.ppdFlags 10, .flag Reg.ppdFlags 2] s (askReset s) := by
  unfold askReset
  repeat' first
    | with_reducible exact changesOnly.refl _ _
    | decide
    | with_reducible apply changesOnly.step (k := scheduleReset_changes _ _)
    | with_reducible apply changesOnly.step (k := goOffline_changes _ _)
    | dsimp only
    | split

theorem holdAll_changes (s : State) :
    changesOnly [.unit .own] s (holdAll s) := by
  unfold holdAll
  repeat' first
    | with_reducible exact changesOnly.refl _ _
    | decide
    | (fail_if_no_progress (with_reducible apply changesOnly.step (k := own_changes _ _)) <;> try first | decide)
    | with_reducible apply changesOnly.step (k := driveLine_changes _ _)

theorem panelIslandReset_changes (s : State) :
    changesOnly [.unit .staged, .unit .snaps, .unit .cmd, .unit .pnl, .ctrsOf 0xC, .inForceOf 0xC, .regsOf 0xC] s (panelIslandReset s) := by
  unfold panelIslandReset
  repeat' first
    | with_reducible exact changesOnly.refl _ _
    | decide
    | with_reducible apply changesOnly.step (k := modPnl_changes _ _)
    | with_reducible apply changesOnly.step (k := clearWindow_changes _ _)
    | with_reducible apply changesOnly.step (k := panelStopAll_changes _)

theorem resetIsland_changes (s : State) (i : LoneIsland) :
    changesOnly [.unit .staged, .unit .snaps, .unit .own, .unit .exe, .unit .fch, .unit .grd, .unit .spr, .unit .cmd, .unit .net, .unit .can, .unit .sbk, .unit .pnl, .unit .sup, .ctr Reg.grdSnapRef, .ctr Reg.supSnapIslrst, .flag Reg.canFlags 5, .flag Reg.cmdFlags 4, .flag Reg.grdFlags 1, .flag Reg.grdFlags 3, .flag Reg.memFlags 6, .flag Reg.pnlFlags 3, .flag Reg.supPflags 4, .ctrsOf 0xA, .ctrsOf 0xC, .inForceOf 0xA, .inForceOf 0xC, .regsOf 0xA, .regsOf 0xC] s (resetIsland s i) := by
  unfold resetIsland
  repeat' first
    | with_reducible exact changesOnly.refl _ _
    | decide
    | with_reducible apply changesOnly.step (k := huskHold_changes _ _)
    | with_reducible apply changesOnly.step (k := canIslandReset_changes _)
    | with_reducible apply changesOnly.step (k := panelIslandReset_changes _)
    | with_reducible apply changesOnly.step (k := countUp_changes _ _ _)
    | with_reducible apply changesOnly.step (k := supRaise_changes _ _)
    | with_reducible apply changesOnly.step (k := modSup_changes _ _)
    | with_reducible apply changesOnly.step (k := supPost_changes _ _ _ _ _)
    | dsimp only
    | split

theorem applyOptions_changes (s : State) :
    changesOnly [.reg Reg.cmdCfg, .reg Reg.supLock, .reg Reg.supWdog] s (applyOptions s) := by
  unfold applyOptions
  repeat' first
    | with_reducible exact changesOnly.refl _ _
    | decide
    | with_reducible apply changesOnly.step (k := setRegField_changes _ _ _ _ _ _)
    | dsimp only
    | split

theorem loadOptions_changes (s : State) :
    changesOnly [.unit .exe, .unit .grd, .unit .spr, .unit .net, .unit .sup, .reg Reg.cmdCfg, .reg Reg.supLock, .reg Reg.supWdog, .flag Reg.supPflags 5] s (loadOptions s) := by
  unfold loadOptions
  repeat' first
    | with_reducible exact changesOnly.refl _ _
    | decide
    | with_reducible apply changesOnly.step (k := modSup_changes _ _)
    | with_reducible apply changesOnly.step (k := applyOptions_changes _)
    | with_reducible apply changesOnly.step (k := supRaise_changes _ _)
    | with_reducible apply changesOnly.step (k := writeFaultRecord_changes _ _ _ _ _)
    | dsimp only
    | split

theorem takeStraps_changes (s : State) (b : BootInputs) :
    changesOnly [.unit .sup, .flag Reg.supPflags 6] s (takeStraps s b) := by
  unfold takeStraps
  repeat' first
    | with_reducible exact changesOnly.refl _ _
    | decide
    | with_reducible apply changesOnly.step (k := raiseIf_changes _ _ _ _ _)
    | with_reducible apply changesOnly.step (k := modSup_changes _ _)

theorem stopInit_changes (s : State) :
    changesOnly [.unit .exe] s (stopInit s) := by
  unfold stopInit
  repeat' first
    | with_reducible exact changesOnly.refl _ _
    | decide
    | with_reducible apply changesOnly.step (k := stopWith_changes _ _)
    | dsimp only
    | split

theorem bootImage_changes (s : State) :
    changesOnly [.unit .staged, .unit .own, .unit .exe, .unit .hz, .unit .fch, .unit .grd, .unit .gmu, .unit .pair, .unit .cmd, .unit .net, .unit .can, .unit .sbk, .unit .tru, .ctr Reg.gmuSnapSheds, .ctr Reg.grdSnapRef, .ctr Reg.truSnapFail, .ctr Reg.truSnapVerify, .inForce Reg.fchAicfg, .inForce Reg.fchAocfg, .inForce Reg.fchAosafe, .inForce Reg.fchDicfg, .inForce Reg.fchDocfg, .inForce Reg.fchMode, .inForce Reg.fchPulsecfg, .inForce Reg.fchStopcfg, .inForce Reg.grdChload, .reg Reg.fchAicfg, .reg Reg.fchAocfg, .reg Reg.fchAosafe, .reg Reg.fchCtrl, .reg Reg.fchDicfg, .reg Reg.fchDocfg, .reg Reg.fchMode, .reg Reg.fchPulsecfg, .reg Reg.fchStopcfg, .reg Reg.grdChload, .flag Reg.canFlags 5, .flag Reg.cmdFlags 4, .flag Reg.gmuFlags 4, .flag Reg.grdFlags 1, .flag Reg.grdFlags 3, .flag Reg.hzFlags 1, .flag Reg.truFlags 0, .flag Reg.truFlags 1, .inForceOf 0xA, .inForceOf 5, .regsOf 0xA, .regsOf 5] s (bootImage s) := by
  unfold bootImage
  repeat' first
    | with_reducible exact changesOnly.refl _ _
    | decide
    | (fail_if_no_progress (with_reducible apply changesOnly.step (k := tru_changes _ _)) <;> try first | decide)
    | with_reducible apply changesOnly.step (k := stopInit_changes _)
    | with_reducible apply changesOnly.step (k := verifyImage_changes _ _)
    | with_reducible apply changesOnly.step (k := installImage_changes _ _ _)
    | with_reducible apply changesOnly.step (k := truRaise_changes _ _)
    | dsimp only
    | split

theorem bootWalnut_changes (s : State) (a : Bool) (b : Bool) :
    changesOnly [.unit .wnt] s (bootWalnut s a b) := by
  unfold bootWalnut
  repeat' first
    | with_reducible exact changesOnly.refl _ _
    | decide
    | (fail_if_no_progress (with_reducible apply changesOnly.step (k := wnt_changes _ _)) <;> try first | decide)

theorem bootOffline_changes (s : State) :
    changesOnly [.unit .exe, .unit .pair] s (bootOffline s) := by
  unfold bootOffline
  repeat' first
    | with_reducible exact changesOnly.refl _ _
    | decide
    | (fail_if_no_progress (with_reducible apply changesOnly.step (k := pair_changes _ _)) <;> try first | decide)
    | with_reducible apply changesOnly.step (k := stopInit_changes _)
    | dsimp only
    | split

theorem bringUp_changes (s : State) (b : BootInputs) :
    changesOnly [.unit .staged, .unit .own, .unit .exe, .unit .hz, .unit .fch, .unit .grd, .unit .gmu, .unit .wnt, .unit .pair, .unit .spr, .unit .cmd, .unit .net, .unit .can, .unit .sbk, .unit .tru, .unit .sup, .ctr Reg.gmuSnapSheds, .ctr Reg.grdSnapRef, .ctr Reg.sprSnapSprouts, .ctr Reg.truSnapFail, .ctr Reg.truSnapVerify, .inForce Reg.fchAicfg, .inForce Reg.fchAocfg, .inForce Reg.fchAosafe, .inForce Reg.fchDicfg, .inForce Reg.fchDocfg, .inForce Reg.fchMode, .inForce Reg.fchPulsecfg, .inForce Reg.fchStopcfg, .inForce Reg.grdChload, .reg Reg.cmdCfg, .reg Reg.fchAicfg, .reg Reg.fchAocfg, .reg Reg.fchAosafe, .reg Reg.fchCtrl, .reg Reg.fchDicfg, .reg Reg.fchDocfg, .reg Reg.fchMode, .reg Reg.fchPulsecfg, .reg Reg.fchStopcfg, .reg Reg.grdChload, .reg Reg.supLock, .reg Reg.supWdog, .flag Reg.canFlags 5, .flag Reg.cmdFlags 4, .flag Reg.gmuFlags 4, .flag Reg.grdFlags 1, .flag Reg.grdFlags 3, .flag Reg.hzFlags 1, .flag Reg.sprFlags 0, .flag Reg.sprFlags 3, .flag Reg.supPflags 5, .flag Reg.supPflags 6, .flag Reg.truFlags 0, .flag Reg.truFlags 1, .inForceOf 0xA, .inForceOf 5, .regsOf 0xA, .regsOf 5] s (bringUp s b) := by
  unfold bringUp
  repeat' first
    | with_reducible exact changesOnly.refl _ _
    | decide
    | (fail_if_no_progress (with_reducible apply changesOnly.step (k := tru_changes _ _)) <;> try first | decide)
    | with_reducible apply changesOnly.step (k := takeStraps_changes _ _)
    | with_reducible apply changesOnly.step (k := loadOptions_changes _)
    | with_reducible apply changesOnly.step (k := mapCore_changes _ _)
    | with_reducible apply changesOnly.step (k := sbkStart_changes _ _ _)
    | with_reducible apply changesOnly.step (k := post_changes _ _ _ _ _ _)
    | with_reducible apply changesOnly.step (k := bootOffline_changes _)
    | with_reducible apply changesOnly.step (k := bootWalnut_changes _ _ _)
    | with_reducible apply changesOnly.step (k := bootImage_changes _)
    | with_reducible apply changesOnly.step (k := modSup_changes _ _)
    | dsimp only
    | split

theorem armFrontEnd_changes (s : State) (c : Nat) :
    changesOnly [.unit .fch, .unit .grd] s (armFrontEnd s c) := by
  unfold armFrontEnd
  repeat' first
    | with_reducible exact changesOnly.refl _ _
    | decide
    | with_reducible apply changesOnly.step (k := checkFactory_changes _ _)
    | with_reducible apply changesOnly.step (k := modFe_changes _ _ _)
    | with_reducible apply changesOnly.step (k := armClaims_changes _ _)
    | dsimp only
    | split

theorem rewriteCopy1_changes (s : State) :
    changesOnly [.unit .exe, .unit .grd, .unit .spr, .unit .net, .unit .sup] s (rewriteCopy1 s) := by
  unfold rewriteCopy1
  repeat' first
    | with_reducible exact changesOnly.refl _ _
    | decide
    | with_reducible apply changesOnly.step (k := askWrite_changes _ _ _ _)
    | dsimp only
    | split

theorem releaseIslands_changes (s : State) :
    changesOnly [.unit .staged, .unit .own, .unit .exe, .unit .fch, .unit .grd, .unit .pair, .unit .spr, .unit .cmd, .unit .net, .unit .can, .unit .sbk, .unit .pnl, .unit .sup, .ctr Reg.grdSnapRef, .ctr Reg.pnlSnapRef, .reg Reg.canApply, .flag Reg.canFlags 5, .flag Reg.cmdFlags 4, .flag Reg.grdFlags 1, .flag Reg.grdFlags 3, .flag Reg.memFlags 6, .flag Reg.pnlFlags 3, .inForceOf 0xA] s (releaseIslands s) := by
  unfold releaseIslands
  repeat' first
    | with_reducible exact changesOnly.refl _ _
    | decide
    | (fail_if_no_progress (with_reducible apply changesOnly.step (k := own_changes _ _)) <;> try first | decide)
    | with_reducible apply changesOnly.step (k := modSup_changes _ _)
    | with_reducible apply changesOnly.step (k := panelStart_changes _)
    | with_reducible apply changesOnly.step (k := post_changes _ _ _ _ _ _)
    | with_reducible apply changesOnly.step (k := armFrontEnd_changes _ _)
    | with_reducible apply changesOnly.step (k := linkDetect_changes _)
    | with_reducible apply changesOnly.step (k := canApply_changes _ _)
    | with_reducible apply changesOnly.step (k := rewriteCopy1_changes _)
    | (with_reducible apply changesOnly.foldl; intro _ _)
    | dsimp only
    | split

theorem commitOptions_changes (s : State) :
    changesOnly [.unit .exe, .unit .grd, .unit .spr, .unit .net, .unit .sup] s (commitOptions s) := by
  unfold commitOptions
  repeat' first
    | with_reducible exact changesOnly.refl _ _
    | decide
    | with_reducible apply changesOnly.step (k := askWrite_changes _ _ _ _)
    | with_reducible apply changesOnly.step (k := modSup_changes _ _)

theorem discardOptions_changes (s : State) :
    changesOnly [.unit .sup] s (discardOptions s) := by
  unfold discardOptions
  repeat' first
    | with_reducible exact changesOnly.refl _ _
    | decide
    | with_reducible apply changesOnly.step (k := modSup_changes _ _)

theorem sampleA_changes (s : State) (v : Nat) :
    changesOnly [.unit .cmd, .unit .sbk, .unit .sup, .flag Reg.cmdFlags 4, .flag Reg.supPflags 0] s (sampleA s v) := by
  unfold sampleA
  repeat' first
    | with_reducible exact changesOnly.refl _ _
    | decide
    | with_reducible apply changesOnly.step (k := modSup_changes _ _)
    | with_reducible apply changesOnly.step (k := supPost_changes _ _ _ _ _)
    | with_reducible apply changesOnly.step (k := supRaise_changes _ _)
    | dsimp only
    | split

theorem sampleB_changes (s : State) (v : Nat) :
    changesOnly [.unit .cmd, .unit .sbk, .unit .sup, .flag Reg.cmdFlags 4, .flag Reg.supPflags 1] s (sampleB s v) := by
  unfold sampleB
  repeat' first
    | with_reducible exact changesOnly.refl _ _
    | decide
    | with_reducible apply changesOnly.step (k := modSup_changes _ _)
    | with_reducible apply changesOnly.step (k := supPost_changes _ _ _ _ _)
    | with_reducible apply changesOnly.step (k := supRaise_changes _ _)
    | dsimp only
    | split

theorem sampleRail_changes (s : State) (v : Nat) :
    changesOnly [.unit .cmd, .unit .sbk, .unit .sup, .ctr Reg.supSnapDips, .flag Reg.cmdFlags 4, .flag Reg.supPflags 2] s (sampleRail s v) := by
  unfold sampleRail
  repeat' first
    | with_reducible exact changesOnly.refl _ _
    | decide
    | with_reducible apply changesOnly.step (k := modSup_changes _ _)
    | with_reducible apply changesOnly.step (k := supPost_changes _ _ _ _ _)
    | with_reducible apply changesOnly.step (k := countUp_changes _ _ _)
    | with_reducible apply changesOnly.step (k := supRaise_changes _ _)
    | dsimp only
    | split

theorem pairWarning_changes (s : State) :
    changesOnly [.unit .own, .unit .exe, .unit .hz, .unit .fch, .unit .grd, .unit .wnt, .unit .pair, .unit .cmd, .unit .sbk, .ctr Reg.grdSnapRef, .flag Reg.cmdFlags 4, .flag Reg.grdFlags 1, .flag Reg.grdFlags 3, .flag Reg.hzFlags 3, .flag Reg.hzFlags 4, .flag Reg.hzFlags 5, .flag Reg.ppdFlags 10, .flag Reg.ppdFlags 2] s (pairWarning s) := by
  unfold pairWarning
  repeat' first
    | with_reducible exact changesOnly.refl _ _
    | decide
    | with_reducible apply changesOnly.step (k := partnerLost_changes _)
    | with_reducible apply changesOnly.step (k := changeRole_changes _ _ _)
    | with_reducible apply changesOnly.step (k := driveLine_changes _ _)
    | with_reducible apply changesOnly.step (k := send_changes _ _)
    | dsimp only
    | split

theorem abandonInstances_changes (s : State) :
    changesOnly [.unit .exe] s (abandonInstances s) := by
  unfold abandonInstances
  repeat' first
    | with_reducible exact changesOnly.refl _ _
    | decide
    | (fail_if_no_progress (with_reducible apply changesOnly.step (k := exe_changes _ _)) <;> try first | decide)

theorem warningWrites_changes (s : State) :
    changesOnly [.unit .exe, .unit .grd, .unit .spr, .unit .cmd, .unit .net, .unit .sbk, .unit .sup, .flag Reg.cmdFlags 4] s (warningWrites s) := by
  unfold warningWrites
  repeat' first
    | with_reducible exact changesOnly.refl _ _
    | decide
    | with_reducible apply changesOnly.step (k := writeRetain_changes _)
    | with_reducible apply changesOnly.step (k := startFlush_changes _)
    | with_reducible apply changesOnly.step (k := askWrite_changes _ _ _ _)
    | with_reducible apply changesOnly.step (k := writeSproutRecord_changes _)

theorem supWindowWrite_changes (s : State) (a : Nat) (v : Word) :
    changesOnly [.unit .sup] s (supWindowWrite s a v) := by
  unfold supWindowWrite
  repeat' first
    | with_reducible exact changesOnly.refl _ _
    | decide
    | with_reducible apply changesOnly.step (k := modSup_changes _ _)
    | dsimp only
    | split

end Sys2Proof
end

