-- ==== Sys2Proof/Laws/FrameRegisters.lean ====
section
/-! SUPPORT. Laws/FrameRegisters.lean: for each shared operation everything it may change: register accesses and staged values. -/
namespace Sys2Proof
open Sys2Proof.Machine

theorem advanceData_changes (s : State) (a : Nat) :
    changesOnly [.anyReg] s (advanceData s a) := by
  unfold advanceData
  repeat' first
    | with_reducible exact changesOnly.refl _ _
    | decide
    | with_reducible exact within_refl _
    | (simp [within, takesIn, Area.covers]; done)
    | with_reducible apply changesOnly.step (k := advanceIdx_changes _ _ _)
    | dsimp only
    | split

theorem isoRead_changes (s : State) :
    changesOnly [.unit .fch, .flag Reg.fchFlags 1] s (isoRead s) := by
  unfold isoRead
  repeat' first
    | with_reducible exact changesOnly.refl _ _
    | decide
    | with_reducible apply changesOnly.step (k := raise_changes _ _ _ _)
    | with_reducible apply changesOnly.step (k := pushAcyc_changes _ _ _ _ _)
    | dsimp only
    | split

theorem grantRead_changes (s : State) :
    changesOnly [.unit .grd] s (grantRead s) := by
  unfold grantRead
  repeat' first
    | with_reducible exact changesOnly.refl _ _
    | decide
    | (fail_if_no_progress (with_reducible apply changesOnly.step (k := grd_changes _ _)) <;> try first | decide)
    | dsimp only
    | split

theorem afterRead_changes (s : State) (a : Nat) (v : Word) :
    changesOnly [.unit .free, .unit .fch, .unit .grd, .unit .net, .flag Reg.fchFlags 1, .anyReg] s (afterRead s a v) := by
  unfold afterRead
  repeat' first
    | with_reducible exact changesOnly.refl _ _
    | decide
    | with_reducible exact within_refl _
    | (simp [within, takesIn, Area.covers]; done)
    | (fail_if_no_progress (with_reducible apply changesOnly.step (k := net_changes _ _)) <;> try first | decide | simp [within, takesIn, Area.covers])
    | with_reducible apply changesOnly.step (k := freeNext_changes _)
    | with_reducible apply changesOnly.step (k := isoRead_changes _)
    | with_reducible apply changesOnly.step (k := grantRead_changes _)
    | with_reducible apply changesOnly.step (k := advanceData_changes _ _)
    | with_reducible apply changesOnly.step (k := setReg_changes _ _ _ _)
    | dsimp only
    | split

theorem readWord_changes (s : State) (a : Nat) :
    changesOnly [.unit .free, .unit .fch, .unit .grd, .unit .net, .flag Reg.fchFlags 1, .anyReg] s (readWord s a).1 := by
  unfold readWord
  repeat' first
    | with_reducible exact changesOnly.refl _ _
    | decide
    | with_reducible exact within_refl _
    | (simp [within, takesIn, Area.covers]; done)
    | with_reducible apply changesOnly.step (k := afterRead_changes _ _ _)
    | dsimp only
    | split

theorem changeMode_changes (s : State) (c : Nat) (v : Word) :
    changesOnly [.unit .fch, .unit .grd, .unit .cmd, .ctr Reg.grdSnapRef, .inForce Reg.fchMode, .flag Reg.grdFlags 1, .flag Reg.grdFlags 3] s (changeMode s c v) := by
  unfold changeMode
  repeat' first
    | with_reducible exact changesOnly.refl _ _
    | decide
    | with_reducible apply changesOnly.step (k := refresh_changes _ _)
    | with_reducible apply changesOnly.step (k := modFe_changes _ _ _)
    | with_reducible apply changesOnly.step (k := setCfg_changes _ _ _ _)
    | with_reducible apply changesOnly.step (k := releaseDo_changes _ _)

theorem fieldPut_changes (s : State) (c : Nat) (a : Nat) (v : Word) :
    changesOnly [.unit .fch, .unit .grd, .unit .cmd, .ctr Reg.grdSnapRef, .inForce Reg.fchMode, .inForce a, .flag Reg.grdFlags 1, .flag Reg.grdFlags 3] s (fieldPut s c a v) := by
  unfold fieldPut
  repeat' first
    | with_reducible exact changesOnly.refl _ _
    | decide
    | with_reducible exact within_refl _
    | (simp [within, takesIn, Area.covers]; done)
    | with_reducible apply changesOnly.step (k := setCfg_changes _ _ _ _)
    | with_reducible apply changesOnly.step (k := changeMode_changes _ _ _)
    | with_reducible apply changesOnly.step (k := modFe_changes _ _ _)
    | with_reducible apply changesOnly.step (k := refresh_changes _ _)
    | dsimp only
    | split

theorem timePut_changes (s : State) (i : Nat) (a : Nat) (v : Word) :
    changesOnly [.unit .cmd, .unit .net, .unit .sbk, .inForce a, .flag Reg.cmdFlags 4, .flag Reg.netFlags 0, .flag Reg.netFlags 1, .flag Reg.netFlags 5] s (timePut s i a v) := by
  unfold timePut
  repeat' first
    | with_reducible exact changesOnly.refl _ _
    | decide
    | with_reducible exact within_refl _
    | (simp [within, takesIn, Area.covers]; done)
    | with_reducible apply changesOnly.step (k := setCfg_changes _ _ _ _)
    | with_reducible apply changesOnly.step (k := setPtpStates_changes _)
    | with_reducible apply changesOnly.step (k := netRaise_changes _ _)
    | with_reducible apply changesOnly.step (k := portDown_changes _ _)
    | dsimp only
    | split

theorem applyWindow_changes {W : List Area} (s : State) (w : Nat) (check : State → Nat → Nat → Word → Bool)
    (put : State → Nat → Nat → Word → State) (refused : State → Nat → State) (gen : Nat)
    (hput : ∀ t c a v, windowOf a = w → changesOnly W t (put t c a v)) (hrefused : ∀ t c, changesOnly W t (refused t c))
    (hw : within [.unit .staged, .reg gen] W = true) : changesOnly W s (applyWindow s w check put refused gen) := by
  have h1 : within [.unit .staged] W = true := by
    simp only [within, List.all_cons, List.all_nil, Bool.and_eq_true] at hw ⊢
    exact ⟨hw.1, trivial⟩
  have h2 : within [.reg gen] W = true := by
    simp only [within, List.all_cons, List.all_nil, Bool.and_eq_true] at hw ⊢
    exact hw.2
  unfold applyWindow
  dsimp only
  have key : ∀ l : List (Nat × Word), (∀ k ∈ l, windowOf k.1 = w) → ∀ x : State × Bool, changesOnly W s x.1 → changesOnly W s
      (l.foldl (fun (x : State × Bool) k => if check x.1 (k.1 / 1048576) (k.1 % 1048576) k.2 = true
        then (put x.1 (k.1 / 1048576) (k.1 % 1048576) k.2, true) else (refused x.1 (k.1 / 1048576), x.2)) x).1 := by
    intro l hl x hx
    refine changesOnly.foldl_fst_mem (fun t k hk => ?_) x hx
    split
    · exact hput _ _ _ _ (by have := hl k hk; simpa [windowOf] using this)
    · exact hrefused _ _
  have k := key (s.staged.filter (fun k => decide (k.1 % 1048576 / 65536 = w)))
    (by intro k hk; simpa [windowOf] using (List.mem_filter.mp hk).2)
    ({ s with staged := s.staged.filter (fun k => !decide (k.1 % 1048576 / 65536 = w)) }, false) ((staged_changes s _).mono h1)
  split
  · exact k.step (bumpApply_changes _ _ _) h2
  · exact k

theorem putCfg_changes (s : State) (i : Nat) (a : Nat) (v : Word) :
    changesOnly [.inForce a] s (putCfg s i a v) := by
  unfold putCfg
  repeat' first
    | with_reducible exact changesOnly.refl _ _
    | decide
    | with_reducible exact within_refl _
    | (simp [within, takesIn, Area.covers]; done)
    | with_reducible apply changesOnly.step (k := setCfg_changes _ _ _ _)

theorem applyField_changes (s : State) :
    changesOnly [.unit .staged, .unit .fch, .unit .grd, .unit .cmd, .ctr Reg.grdSnapRef, .reg Reg.fchApply, .flag Reg.fchFlags 5, .flag Reg.grdFlags 1, .flag Reg.grdFlags 3, .inForceOf 3] s (applyField s) := by
  unfold applyField
  refine applyWindow_changes s _ _ _ _ _ (fun t c a v h => changesOnly.mono (fieldPut_changes t c a v) ?_)
    (fun t c => changesOnly.mono (raise_changes t _ c _) (by decide)) (by decide)
  simp [within, takesIn, Area.covers, h, show windowOf Reg.fchMode = 3 from rfl]

theorem applyGourd_changes (s : State) :
    changesOnly [.unit .staged, .reg Reg.grdApply, .flag Reg.grdFlags 4, .inForceOf 4] s (applyGourd s) := by
  unfold applyGourd
  refine applyWindow_changes s _ _ _ _ _ (fun t c a v h => changesOnly.mono (putCfg_changes t c a v) ?_)
    (fun t c => changesOnly.mono (raise_changes t _ 0 _) (by decide)) (by decide)
  simp [within, takesIn, Area.covers, h]

theorem applyGmu_changes (s : State) :
    changesOnly [.unit .staged, .unit .gmu, .reg Reg.gmuApply, .flag Reg.gmuFlags 8, .inForceOf 5] s (applyGmu s) := by
  have k : changesOnly [.unit .staged, .unit .gmu, .reg Reg.gmuApply, .flag Reg.gmuFlags 8, .inForceOf 5] s (applyWindow s 0x5 gmuCheck putCfg (fun t _ => gmuRaise t 8) Reg.gmuApply) := by
    refine applyWindow_changes s _ _ _ _ _ (fun t c a v h => changesOnly.mono (putCfg_changes t c a v) ?_)
      (fun t c => changesOnly.mono (gmuRaise_changes t _) (by decide)) (by decide)
    simp [within, takesIn, Area.covers, h]
  unfold applyGmu
  dsimp only
  repeat' first
    | with_reducible exact k
    | decide
    | with_reducible apply changesOnly.step (k := bumpApply_changes _ _ _)
    | with_reducible apply changesOnly.step (k := applySetTable_changes _)
    | split

theorem applyPanel_changes (s : State) :
    changesOnly [.unit .staged, .reg Reg.pnlApply, .flag Reg.pnlFlags 5, .inForceOf 0xC] s (applyPanel s) := by
  unfold applyPanel
  refine applyWindow_changes s _ _ _ _ _ (fun t c a v h => changesOnly.mono (putCfg_changes t c a v) ?_)
    (fun t c => changesOnly.mono (pnlRaise_changes t _) (by decide)) (by decide)
  simp [within, takesIn, Area.covers, h]

theorem applyTime_changes (s : State) :
    changesOnly [.unit .staged, .unit .cmd, .unit .net, .unit .sbk, .reg Reg.netApply, .flag Reg.cmdFlags 4, .flag Reg.netFlags 0, .flag Reg.netFlags 1, .flag Reg.netFlags 10, .flag Reg.netFlags 5, .inForceOf 9] s (applyTime s) := by
  unfold applyTime
  refine applyWindow_changes s _ _ _ _ _ (fun t c a v h => changesOnly.mono (timePut_changes t c a v) ?_)
    (fun t c => changesOnly.mono (netRaise_changes t _) (by decide)) (by decide)
  simp [within, takesIn, Area.covers, h]

theorem stagedApply_changes (s : State) (x1 : StagedIsland) :
    changesOnly [.unit .staged, .unit .exe, .unit .fch, .unit .grd, .unit .gmu, .unit .spr, .unit .cmd, .unit .net, .unit .can, .unit .sbk, .unit .pnl, .unit .sup, .ctr Reg.grdSnapRef, .ctr Reg.pnlSnapRef, .reg Reg.canApply, .reg Reg.fchApply, .reg Reg.gmuApply, .reg Reg.grdApply, .reg Reg.netApply, .reg Reg.pnlApply, .flag Reg.canFlags 5, .flag Reg.cmdFlags 4, .flag Reg.fchFlags 5, .flag Reg.gmuFlags 8, .flag Reg.grdFlags 1, .flag Reg.grdFlags 3, .flag Reg.grdFlags 4, .flag Reg.memFlags 6, .flag Reg.netFlags 0, .flag Reg.netFlags 1, .flag Reg.netFlags 10, .flag Reg.netFlags 5, .flag Reg.pnlFlags 3, .flag Reg.pnlFlags 5, .inForceOf 0xA, .inForceOf 0xC, .inForceOf 3, .inForceOf 4, .inForceOf 5, .inForceOf 9] s (stagedApply s x1) := by
  unfold stagedApply
  repeat' first
    | with_reducible exact changesOnly.refl _ _
    | decide
    | with_reducible apply changesOnly.step (k := applyField_changes _)
    | with_reducible apply changesOnly.step (k := applyGourd_changes _)
    | with_reducible apply changesOnly.step (k := applyGmu_changes _)
    | with_reducible apply changesOnly.step (k := canApply_changes _ _)
    | with_reducible apply changesOnly.step (k := applyPanel_changes _)
    | with_reducible apply changesOnly.step (k := applyTime_changes _)
    | dsimp only
    | split

theorem writeLock_changes (s : State) (v : Word) (r : Requester) :
    changesOnly [.unit .cmd, .unit .sbk, .ctr Reg.supSnapLockv, .reg Reg.supFaultAddr, .reg Reg.supFaultSrc, .reg Reg.supLock, .flag Reg.cmdFlags 4, .flag Reg.supFlags 0] s (writeLock s v r).1 := by
  unfold writeLock
  repeat' first
    | with_reducible exact changesOnly.refl _ _
    | decide
    | with_reducible apply changesOnly.step (k := setRegField_changes _ _ _ _ _ _)
    | with_reducible apply changesOnly.step (k := lockedWrite_changes _ _ _ _)
    | dsimp only
    | split

theorem writeKey_changes (s : State) (v : Word) (r : Requester) :
    changesOnly [.unit .cmd, .unit .sbk, .unit .sup, .reg Reg.supLock, .flag Reg.cmdFlags 4, .flag Reg.supFlags 2, .flag Reg.supFlags 3] s (writeKey s v r) := by
  unfold writeKey
  repeat' first
    | with_reducible exact changesOnly.refl _ _
    | decide
    | with_reducible apply changesOnly.step (k := keyFail_changes _ _)
    | with_reducible apply changesOnly.step (k := setKeyStep_changes _ _ _)
    | with_reducible apply changesOnly.step (k := post_changes _ _ _ _ _ _)
    | with_reducible apply changesOnly.step (k := raise_changes _ _ _ _)
    | with_reducible apply changesOnly.step (k := setRegField_changes _ _ _ _ _ _)
    | dsimp only
    | split

theorem writeReset_changes (s : State) (v : Word) (r : Requester) :
    changesOnly [.unit .staged, .unit .snaps, .unit .own, .unit .exe, .unit .hz, .unit .fch, .unit .grd, .unit .wnt, .unit .pair, .unit .spr, .unit .cmd, .unit .net, .unit .can, .unit .sbk, .unit .pnl, .unit .sup, .ctr Reg.grdSnapRef, .ctr Reg.supSnapIslrst, .ctr Reg.supSnapLockv, .reg Reg.supFaultAddr, .reg Reg.supFaultSrc, .flag Reg.canFlags 5, .flag Reg.cmdFlags 4, .flag Reg.grdFlags 1, .flag Reg.grdFlags 3, .flag Reg.hzFlags 3, .flag Reg.hzFlags 4, .flag Reg.hzFlags 5, .flag Reg.memFlags 6, .flag Reg.pnlFlags 3, .flag Reg.ppdFlags 10, .flag Reg.ppdFlags 2, .flag Reg.supFlags 0, .flag Reg.supPflags 4, .ctrsOf 0xA, .ctrsOf 0xC, .inForceOf 0xA, .inForceOf 0xC, .regsOf 0xA, .regsOf 0xC] s (writeReset s v r).1 := by
  unfold writeReset
  repeat' first
    | with_reducible exact changesOnly.refl _ _
    | decide
    | with_reducible apply changesOnly.step (k := lockedWrite_changes _ _ _ _)
    | with_reducible apply changesOnly.step (k := askReset_changes _)
    | with_reducible apply changesOnly.step (k := resetIsland_changes _ _)
    | dsimp only
    | split

theorem clearReg_changes (s : State) (a : Nat) (i : Nat) (v : Word) (race : List Nat) :
    changesOnly [.unit .sbk, .anyCtr, .anyReg] s (clearReg s a i v race) := by
  unfold clearReg
  repeat' first
    | with_reducible exact changesOnly.refl _ _
    | decide
    | with_reducible exact within_refl _
    | (simp [within, takesIn, Area.covers]; done)
    | (fail_if_no_progress (with_reducible apply changesOnly.step (k := sbk_changes _ _)) <;> try first | decide | simp [within, takesIn, Area.covers])
    | with_reducible apply changesOnly.step (k := clearFlags_changes _ _ _ _ _)
    | dsimp only
    | split

theorem stageWrite_changes (s : State) (a : Nat) (i : Nat) (v : Word) :
    changesOnly [.unit .staged, .reg a] s (stageWrite s a i v) := by
  refine changesOnly.step ((setReg_changes s a i v).mono ?_) (staged_changes _ _) ?_ <;> simp [within, takesIn, Area.covers]

theorem writeStaged_changes (s : State) (sp : RegSpec) (i : Nat) (v : Word) (m : Word) :
    changesOnly [.unit .staged, .flag Reg.canFlags 5, .flag Reg.fchFlags 5, .anyReg] s (writeStaged s sp i v m) := by
  unfold writeStaged
  repeat' first
    | with_reducible exact changesOnly.refl _ _
    | decide
    | with_reducible exact within_refl _
    | (simp [within, takesIn, Area.covers]; done)
    | with_reducible apply changesOnly.step (k := raise_changes _ _ _ _)
    | with_reducible apply changesOnly.step (k := canRaise_changes _ _ _)
    | with_reducible apply changesOnly.step (k := stageWrite_changes _ _ _ _)
    | dsimp only
    | split

theorem fchWindowWrite_changes (s : State) (c : Nat) (a : Nat) (v : Word) (r : Requester) :
    changesOnly [.unit .fch, .unit .cmd, .unit .sbk, .ctr Reg.supSnapLockv, .reg Reg.supFaultAddr, .reg Reg.supFaultSrc, .flag Reg.cmdFlags 4, .flag Reg.fchFlags 1, .flag Reg.fchFlags 5, .flag Reg.supFlags 0] s (fchWindowWrite s c a v r).1 := by
  unfold fchWindowWrite
  repeat' first
    | with_reducible exact changesOnly.refl _ _
    | decide
    | with_reducible apply changesOnly.step (k := lockedWrite_changes _ _ _ _)
    | with_reducible apply changesOnly.step (k := raise_changes _ _ _ _)
    | with_reducible apply changesOnly.step (k := pushAcyc_changes _ _ _ _ _)
    | dsimp only
    | split

theorem hazelWindowWrite_changes (s : State) (a : Nat) (v : Word) :
    changesOnly [.unit .hz, .flag Reg.hzFlags 6] s (hazelWindowWrite s a v) := by
  unfold hazelWindowWrite
  repeat' first
    | with_reducible exact changesOnly.refl _ _
    | decide
    | with_reducible apply changesOnly.step (k := stageParams_changes _ _ _ _)
    | with_reducible apply changesOnly.step (k := hzRaise_changes _ _)
    | with_reducible apply changesOnly.step (k := setGen_changes _ _ _)
    | with_reducible apply changesOnly.step (k := setCap_changes _ _ _)
    | dsimp only
    | split

theorem canWindowWrite_changes (s : State) (p : Nat) (a : Nat) (v : Word) :
    changesOnly [.unit .can, .flag Reg.canFlags 5] s (canWindowWrite s p a v) := by
  unfold canWindowWrite
  repeat' first
    | with_reducible exact changesOnly.refl _ _
    | decide
    | with_reducible apply changesOnly.step (k := modPort_changes _ _ _)
    | with_reducible apply changesOnly.step (k := canRaise_changes _ _ _)
    | dsimp only
    | split

theorem windowWrite_changes (s : State) (w : Nat) (a : Nat) (v : Word) (r : Requester) :
    changesOnly [.unit .hz, .unit .fch, .unit .gmu, .unit .cmd, .unit .net, .unit .can, .unit .sbk, .unit .sup, .ctr Reg.supSnapLockv, .reg Reg.supFaultAddr, .reg Reg.supFaultSrc, .flag Reg.canFlags 5, .flag Reg.cmdFlags 4, .flag Reg.fchFlags 1, .flag Reg.fchFlags 5, .flag Reg.gmuFlags 8, .flag Reg.hzFlags 6, .flag Reg.netFlags 10, .flag Reg.supFlags 0] s (windowWrite s w a v r).1 := by
  unfold windowWrite
  repeat' first
    | with_reducible exact changesOnly.refl _ _
    | decide
    | with_reducible apply changesOnly.step (k := lockedWrite_changes _ _ _ _)
    | with_reducible apply changesOnly.step (k := supWindowWrite_changes _ _ _)
    | with_reducible apply changesOnly.step (k := hazelWindowWrite_changes _ _ _)
    | with_reducible apply changesOnly.step (k := fchWindowWrite_changes _ _ _ _ _)
    | with_reducible apply changesOnly.step (k := gmuWindowWrite_changes _ _ _)
    | with_reducible apply changesOnly.step (k := netWindowWrite_changes _ _ _ _)
    | with_reducible apply changesOnly.step (k := canWindowWrite_changes _ _ _ _)
    | with_reducible apply changesOnly.step (k := sbkWindowWrite_changes _ _ _)
    | dsimp only
    | split

theorem writeData_changes (s : State) (a : Nat) (v : Word) (m : Word) (r : Requester) :
    changesOnly [.unit .hz, .unit .fch, .unit .gmu, .unit .cmd, .unit .net, .unit .can, .unit .sbk, .unit .sup, .ctr Reg.supSnapLockv, .reg Reg.supFaultAddr, .reg Reg.supFaultSrc, .reg a, .flag Reg.canFlags 5, .flag Reg.cmdFlags 4, .flag Reg.fchFlags 1, .flag Reg.fchFlags 5, .flag Reg.gmuFlags 8, .flag Reg.hzFlags 6, .flag Reg.netFlags 10, .flag Reg.supFlags 0] s (writeData s a v m r).1 := by
  unfold writeData
  repeat' first
    | with_reducible exact changesOnly.refl _ _
    | decide
    | with_reducible exact within_refl _
    | (simp [within, takesIn, Area.covers]; done)
    | with_reducible apply changesOnly.step (k := windowWrite_changes _ _ _ _ _)
    | with_reducible apply changesOnly.step (k := setReg_changes _ _ _ _)
    | dsimp only
    | split

theorem readOne_changes (r : ReadRun) (a : Nat) :
    changesOnly [.unit .free, .unit .fch, .unit .grd, .unit .net, .flag Reg.fchFlags 1, .anyReg] r.s (readOne r a).s := by
  unfold readOne
  split
  · exact changesOnly.refl _ _
  · have k := readWord_changes r.s a
    split
    · next t v h => rw [h] at k; exact k.mono (by simp [within, takesIn, Area.covers])
    · next t v _ _ h => rw [h] at k; exact k.mono (by simp [within, takesIn, Area.covers])

end Sys2Proof
end

