-- ==== Sys2Proof/Laws/Answer.lean ====
section
/-! SUPPORT. Laws/Answer.lean: what answering a command queues (R309, R313), and that it leaves every island alone. -/
namespace Sys2Proof
open Sys2Proof.Machine

theorem sessionOf_modSession (c : Commands) (slot : Nat) (f : Session → Session) (hf : ∀ x, (f x).slot = x.slot) (k : Nat) :
    sessionOf (modSession c slot f) k = (sessionOf c k).map (fun x => if x.slot = slot then f x else x) := by
  have : ∀ l : List Session, (l.map (fun x => if x.slot = slot then f x else x)).find? (fun x => x.slot == k) =
      (l.find? (fun x => x.slot == k)).map (fun x => if x.slot = slot then f x else x) := by
    intro l
    induction l with
    | nil => rfl
    | cons x l ih =>
      have hx : (if x.slot = slot then f x else x).slot = x.slot := by split <;> simp [hf]
      by_cases h : x.slot == k
      · simp [List.find?, hx, h]
      · simp only [List.map_cons, List.find?, hx, h]
        exact ih
  exact this c.sessions

/-- Retiring a command leaves the sessions and the notification queues alone. -/
@[simp] theorem retire_sessions (c : Commands) (x : Executing) : (retire c x).sessions = c.sessions := by
  unfold retire
  dsimp only
  split
  · split <;> rfl
  · rfl

@[simp] theorem retire_replies (c : Commands) (x : Executing) : (retire c x).replies = c.replies := by
  unfold retire
  dsimp only
  split
  · split <;> rfl
  · rfl

/-- A packet pushed for an open session stands last on its queue, with its number. -/
theorem pushReply_open {c : Commands} {q : Nat} {r : Reply} (h : (sessionOf c r.session).isSome = true) :
    ∃ n k, repliesOf (pushReply c q r) q = repliesOf c q ++ [{ r with seq := n, credit := k }] := by
  obtain ⟨x, hx⟩ := Option.isSome_iff_exists.mp h
  refine ⟨(x.seqOut + 1) % 4294967296,
    credit (modSession c r.session (fun y => { y with seqOut := (x.seqOut + 1) % 4294967296 })) q, ?_⟩
  simp only [pushReply, hx, repliesOf, storeGet_storeSet]
  rfl

/-- Other queues are as before. -/
theorem pushReply_other (c : Commands) {q p : Nat} (r : Reply) (h : p ≠ q) : repliesOf (pushReply c q r) p = repliesOf c p := by
  unfold pushReply
  split
  · rfl
  · simp only [repliesOf, storeGet_storeSet_ne _ _ _ h]
    rfl

@[simp] theorem flagCode_cmd (s : State) (code : Code) : (flagCode s code).cmd = s.cmd := by
  unfold flagCode
  split <;> rfl

/-- A reply is pushed unless its session has closed since the command was sent. -/
theorem pushFor_open {c : Commands} {x : Option Executing} {q : Nat} {r : Reply} (h : (x.map (·.closed)).getD false = false) :
    pushFor c x q r = pushReply c q r := by
  unfold pushFor
  rw [if_neg (by simp [h])]

/-- The answer to a command whose session is open: one final packet (R309). -/
theorem answer_replied {s : State} {c : Ctx} {op : Nat} {code : Code} {wh ident : Nat} {result : List Byte} (ha : answers s c) :
    replied s (answer s c op code wh ident result) c op code wh result true := by
  obtain ⟨h, hc⟩ := ha
  unfold answer
  dsimp only
  rw [pushFor_open hc]
  cases hx : execOf s c with
  | none =>
    obtain ⟨n, k, e⟩ := pushReply_open (q := c.queue.val)
      (r := { session := c.session.val, tag := c.tag.toNat, opcode := op, code := code, final := true,
              notify := false, lost := false, whereField := wh, ident := ident, result := result })
      (c := (flagCode s code).cmd) (by simpa using h)
    exact ⟨_, by simpa using e, rfl, rfl, rfl, rfl, rfl, rfl, rfl⟩
  | some x =>
    obtain ⟨n, k, e⟩ := pushReply_open (q := c.queue.val)
      (r := { session := c.session.val, tag := c.tag.toNat, opcode := op, code := code, final := true,
              notify := x.pending, lost := false, whereField := wh, ident := ident, result := result })
      (c := retire (flagCode s code).cmd x) (by simpa [sessionOf] using h)
    exact ⟨_, by simpa [repliesOf] using e, rfl, rfl, rfl, rfl, rfl, rfl, rfl⟩

theorem ok_replied {s : State} {c : Ctx} {op : Nat} {result : List Byte} (h : answers s c) :
    replied s (ok s c op result) c op .ok 0 result true := answer_replied h

theorem refuse_replied {s : State} {c : Ctx} {op : Nat} {code : Code} {wh : Nat} (h : answers s c) : replied s (refuse s c op code wh) c op code wh [] true :=
  answer_replied h

/-- A packet queued from a state with the same command processor is queued from this one. -/
theorem replied_of_cmd {s s' t : State} {c : Ctx} {op : Nat} {code : Code} {wh : Nat} {result : List Byte} {fin : Bool}
    (h : replied s' t c op code wh result fin) (e : s'.cmd = s.cmd) : replied s t c op code wh result fin := by
  obtain ⟨r, h1, h2⟩ := h
  exact ⟨r, by rw [h1, e], h2⟩

/-- What a ready packet command meets: its island released, started, its answers queued. -/
theorem ready_readyFor {s : State} {i : Instr} {c : Ctx} {op island : Nat} (h : ready s i) (e : packetRow i = some (c, op, island)) :
    readyFor s c op island i := by
  simpa [ready, e] using h

/-- A command that has not started leaves the module as it is (R319). -/
theorem command_waits {s : State} {c : Ctx} {op island : Nat} {i : Instr} {roleOk : Bool} {body : State → State}
    (hs : starts s c op i = false) : command s c op island i roleOk body = s := by
  unfold command
  rw [if_pos (by simp [hs])]

/-- A command whose island is held is refused with HUSKED and its window (R13, R310). -/
theorem command_husked {s : State} {c : Ctx} {op island : Nat} {i : Instr} {roleOk : Bool} {body : State → State}
    (h : held s island = true) (hs : running s c op i) :
    replied s (command s c op island i roleOk body) c op .husked island [] true := by
  unfold command
  rw [if_neg (by simp [hs.1]), if_pos h]
  exact refuse_replied hs.2

/-- A command of a module whose role does not run it is refused with WRONG_ROLE and the role (R311). -/
theorem command_wrongRole {s : State} {c : Ctx} {op island : Nat} {i : Instr} {body : State → State}
    (h : held s island = false) (hs : running s c op i) :
    replied s (command s c op island i false body) c op .wrongRole (roleCode s.pair.role) [] true := by
  unfold command
  rw [if_neg (by simp [hs.1]), if_neg (by simp [h]), if_neg (by simp)]
  exact refuse_replied hs.2

/-- Else the command runs. -/
theorem command_runs {s : State} {c : Ctx} {op island : Nat} {i : Instr} {body : State → State} (h : held s island = false)
    (hs : running s c op i) : command s c op island i true body = body s := by
  unfold command
  rw [if_neg (by simp [hs.1]), if_neg (by simp [h]), if_pos rfl]

theorem lastReplied_of_replied {s t : State} {c : Ctx} {op : Nat} {code : Code} {wh : Nat} {result : List Byte} {fin : Bool}
    (h : replied s t c op code wh result fin) : lastReplied t c op code wh result fin := by
  obtain ⟨r, h1, h2⟩ := h
  exact ⟨r, by simp [h1], h2⟩

theorem entryFor_matches (s : State) (c : Ctx) (op island subject : Nat) :
    (entryFor s c op island subject).queue = c.queue.val ∧ (entryFor s c op island subject).session = c.session.val
    ∧ (entryFor s c op island subject).tag = c.tag.toNat := by
  unfold entryFor
  cases h : execOf s c with
  | none => exact ⟨rfl, rfl, rfl⟩
  | some x =>
    have := List.find?_some h
    simpa [and_assoc] using this

/-- A command that awaits an event waits. -/
theorem await_waits (s : State) (c : Ctx) (op island subject : Nat) : waits (await s c op island subject) c := by
  obtain ⟨h1, h2, h3⟩ := entryFor_matches s c op island subject
  exact ⟨{ entryFor s c op island subject with blocked := true }, by simp [await], h1, h2, h3, rfl⟩

@[simp] theorem pushReply_executing (c : Commands) (q : Nat) (r : Reply) : (pushReply c q r).executing = c.executing := by
  unfold pushReply modSession
  split <;> rfl

@[simp] theorem pushFor_executing (c : Commands) (x : Option Executing) (q : Nat) (r : Reply) :
    (pushFor c x q r).executing = c.executing := by
  unfold pushFor
  split <;> simp

/-- A command that is accepted waits, after its first reply. -/
theorem accept_waits (s : State) (c : Ctx) (op : Nat) (code : Code) (estimate island subject : Nat) :
    waits (accept s c op code estimate island subject) c := by
  obtain ⟨h1, h2, h3⟩ := entryFor_matches s c op island subject
  exact ⟨{ entryFor s c op island subject with blocked := true, pending := true }, by simp [accept], h1, h2, h3, rfl⟩

/-- A packet pushed on a processor with the same sessions and notification queues is the one new packet. -/
theorem replied_push {s t : State} {d : Commands} {c : Ctx} {r : Reply} (ht : t.cmd = pushReply d c.queue.val r)
    (hd : d.sessions = s.cmd.sessions) (hr : d.replies = s.cmd.replies) (h : (sessionOf s.cmd r.session).isSome = true)
    (h1 : r.session = c.session.val) (h2 : r.tag = c.tag.toNat) :
    replied s t c r.opcode r.code r.whereField r.result r.final := by
  obtain ⟨n, k, e⟩ := pushReply_open (q := c.queue.val) (r := r) (c := d) (by simpa [sessionOf, hd] using h)
  have e' : repliesOf d c.queue.val = repliesOf s.cmd c.queue.val := by simp [repliesOf, hr]
  exact ⟨{ r with seq := n, credit := k }, by rw [ht, e, e'], h1, h2, rfl, rfl, rfl, rfl, rfl⟩

theorem accept_replied {s : State} {c : Ctx} {op : Nat} {code : Code} {estimate island subject : Nat} (h : answers s c) :
    replied s (accept s c op code estimate island subject) c op code estimate [] false := by
  have := replied_push (s := s) (t := accept s c op code estimate island subject) (c := c)
    (r := { session := c.session.val, tag := c.tag.toNat, opcode := op, code := code, final := false, notify := false,
            lost := false, whereField := estimate, ident := 0, result := [] }) (pushFor_open h.2) rfl rfl h.1 rfl rfl
  exact this

theorem retire_executing (c : Commands) (x : Executing) : (retire c x).executing = c.executing.erase x := by
  unfold retire
  dsimp only
  split
  · split <;> rfl
  · rfl

theorem conclude_executing (s : State) (x : Executing) (code : Code) (wh ident : Nat) (result : List Byte) :
    (conclude s x code wh ident result).cmd.executing = s.cmd.executing.erase x := by
  simp [conclude, retire_executing]

/-- Concluding every waiting command of an opcode leaves none of it. -/
theorem concludeAll_settled (s : State) (p : Executing → Bool) (code : Code) (wh : Nat) (result : State → Executing → List Byte) :
    ∀ x ∈ (concludeAll s p code wh result).cmd.executing, p x = false := by
  have key : ∀ (l : List Executing) (s : State), (∀ y, (s.cmd.executing.filter p).count y ≤ l.count y) →
      ∀ x ∈ (l.foldl (fun s x => conclude s x code wh 0 (result s x)) s).cmd.executing, p x = false := by
    intro l
    induction l with
    | nil =>
      intro s h x hx
      by_contra hp
      have hm : x ∈ s.cmd.executing.filter p := by simp at hp; simp [hp]; exact hx
      have := List.count_pos_iff.mpr hm
      have := h x
      simp at this
      omega
    | cons a l ih =>
      intro s h
      rw [List.foldl_cons]
      refine ih _ (fun y => ?_)
      rw [conclude_executing]
      have h1 := h y
      rw [List.count_cons] at h1
      by_cases hp : p a
      · by_cases hm : a ∈ s.cmd.executing
        · have e : ∀ m : List Executing, (m.erase a).filter p = (m.filter p).erase a := by
            intro m
            induction m with
            | nil => rfl
            | cons b m ihm =>
              by_cases hb : b = a
              · subst hb; simp [hp]
              · rw [List.erase_cons_tail (by simpa using hb)]
                by_cases hpb : p b
                · rw [List.filter_cons_of_pos hpb, List.filter_cons_of_pos hpb, List.erase_cons_tail (by simpa using hb), ihm]
                · rw [List.filter_cons_of_neg hpb, List.filter_cons_of_neg hpb, ihm]
          rw [e, List.count_erase]
          split at h1 <;> simp_all <;> omega
        · rw [List.erase_of_not_mem hm]
          by_cases hy : a = y
          · subst hy
            rw [List.count_eq_zero_of_not_mem (by simp [hm])]
            omega
          · simpa [hy] using h1
      · have e : ∀ m : List Executing, (m.erase a).filter p = m.filter p := by
          intro m
          induction m with
          | nil => rfl
          | cons b m ihm =>
            by_cases hb : b = a
            · subst hb; simp [hp]
            · rw [List.erase_cons_tail (by simpa using hb), List.filter_cons, List.filter_cons, ihm]
        rw [e]
        by_cases hy : a = y
        · subst hy
          rw [List.count_eq_zero_of_not_mem (by simp [hp])]
          omega
        · simpa [hy] using h1
  exact key _ s (fun y => by simp [waiting])

/-- A write that no Husk, lock or key sequence stands before takes effect (R328, R340, R341). -/
theorem guardWrite_runs {s : State} {a : Nat} (h : writable s a) (r : Requester) (listed : Bool) (body : State → State × Access) :
    guardWrite s a r listed body = body s := by
  obtain ⟨h1, h2, h3⟩ := h
  have h4 : breakKey s a r = s := by
    unfold breakKey
    rw [if_neg (fun k => h3 ⟨k.1, k.2.2⟩)]
  simp [guardWrite, h1, h4, h2]

theorem actionWrite_runs {s : State} {a : Nat} (h : writable s a) (r : Requester) (body : State → State) :
    actionWrite s a r body = body s := by
  rw [actionWrite, guardWrite_runs h]

theorem counter_setCounter (s : State) (a i : Nat) (v : Word) : counter (setCounter s a i v) a i = v := by
  simp [counter, setCounter, storeGet_storeSet]

/-- An event sets its flag and counts it (R333). -/
theorem raise_flaggedAt (s : State) (a i n : Nat) (h : n < 32) : flaggedAt s (raise s a i n) a i n := by
  constructor
  · have : reg (raise s a i n) a i = setField (reg s a i) n n 1 := by
      have e : reg (setReg s a i (setField (reg s a i) n n 1)) a i = setField (reg s a i) n n 1 := by
        simp [reg, setReg, storeGet_storeSet]
      exact e
    rw [this]
    simp only [setField, BitVec.getLsbD_or, BitVec.getLsbD_ofNat, h, Bool.or_eq_true]
    right
    simp [Nat.shiftLeft_eq, Nat.testBit_two_pow_self]
  · unfold raise countUp
    rw [counter_setCounter]
    rfl

theorem raise_flagged (s : State) (a n : Nat) (h : n < 32) : flagged s (raise s a 0 n) a n := raise_flaggedAt s a 0 n h

end Sys2Proof
end

