-- ==== Sys2Proof/Laws/State.lean ====
section
/-! SUPPORT. Laws/State.lean: what each update of State leaves alone, field by field, and what it reads as afterwards. -/
namespace Sys2Proof.Machine
open Sys2Proof

@[simp] theorem setReg_pending (s : State) (a i : Nat) (v : Word) : (setReg s a i v).pending = s.pending := rfl
@[simp] theorem setReg_active (s : State) (a i : Nat) (v : Word) : (setReg s a i v).active = s.active := rfl
@[simp] theorem setReg_staged (s : State) (a i : Nat) (v : Word) : (setReg s a i v).staged = s.staged := rfl
@[simp] theorem setReg_ctrs (s : State) (a i : Nat) (v : Word) : (setReg s a i v).ctrs = s.ctrs := rfl
@[simp] theorem setReg_snaps (s : State) (a i : Nat) (v : Word) : (setReg s a i v).snaps = s.snaps := rfl
@[simp] theorem setReg_free (s : State) (a i : Nat) (v : Word) : (setReg s a i v).free = s.free := rfl
@[simp] theorem setReg_now (s : State) (a i : Nat) (v : Word) : (setReg s a i v).now = s.now := rfl
@[simp] theorem setReg_own (s : State) (a i : Nat) (v : Word) : (setReg s a i v).own = s.own := rfl
@[simp] theorem setReg_exe (s : State) (a i : Nat) (v : Word) : (setReg s a i v).exe = s.exe := rfl
@[simp] theorem setReg_hz (s : State) (a i : Nat) (v : Word) : (setReg s a i v).hz = s.hz := rfl
@[simp] theorem setReg_fch (s : State) (a i : Nat) (v : Word) : (setReg s a i v).fch = s.fch := rfl
@[simp] theorem setReg_grd (s : State) (a i : Nat) (v : Word) : (setReg s a i v).grd = s.grd := rfl
@[simp] theorem setReg_gmu (s : State) (a i : Nat) (v : Word) : (setReg s a i v).gmu = s.gmu := rfl
@[simp] theorem setReg_wnt (s : State) (a i : Nat) (v : Word) : (setReg s a i v).wnt = s.wnt := rfl
@[simp] theorem setReg_pair (s : State) (a i : Nat) (v : Word) : (setReg s a i v).pair = s.pair := rfl
@[simp] theorem setReg_mem (s : State) (a i : Nat) (v : Word) : (setReg s a i v).mem = s.mem := rfl
@[simp] theorem setReg_spr (s : State) (a i : Nat) (v : Word) : (setReg s a i v).spr = s.spr := rfl
@[simp] theorem setReg_cmd (s : State) (a i : Nat) (v : Word) : (setReg s a i v).cmd = s.cmd := rfl
@[simp] theorem setReg_net (s : State) (a i : Nat) (v : Word) : (setReg s a i v).net = s.net := rfl
@[simp] theorem setReg_can (s : State) (a i : Nat) (v : Word) : (setReg s a i v).can = s.can := rfl
@[simp] theorem setReg_sbk (s : State) (a i : Nat) (v : Word) : (setReg s a i v).sbk = s.sbk := rfl
@[simp] theorem setReg_pnl (s : State) (a i : Nat) (v : Word) : (setReg s a i v).pnl = s.pnl := rfl
@[simp] theorem setReg_tru (s : State) (a i : Nat) (v : Word) : (setReg s a i v).tru = s.tru := rfl
@[simp] theorem setReg_sup (s : State) (a i : Nat) (v : Word) : (setReg s a i v).sup = s.sup := rfl

@[simp] theorem setRegField_pending (s : State) (a i hi lo v : Nat) : (setRegField s a i hi lo v).pending = s.pending := rfl
@[simp] theorem setRegField_active (s : State) (a i hi lo v : Nat) : (setRegField s a i hi lo v).active = s.active := rfl
@[simp] theorem setRegField_staged (s : State) (a i hi lo v : Nat) : (setRegField s a i hi lo v).staged = s.staged := rfl
@[simp] theorem setRegField_ctrs (s : State) (a i hi lo v : Nat) : (setRegField s a i hi lo v).ctrs = s.ctrs := rfl
@[simp] theorem setRegField_snaps (s : State) (a i hi lo v : Nat) : (setRegField s a i hi lo v).snaps = s.snaps := rfl
@[simp] theorem setRegField_free (s : State) (a i hi lo v : Nat) : (setRegField s a i hi lo v).free = s.free := rfl
@[simp] theorem setRegField_now (s : State) (a i hi lo v : Nat) : (setRegField s a i hi lo v).now = s.now := rfl
@[simp] theorem setRegField_own (s : State) (a i hi lo v : Nat) : (setRegField s a i hi lo v).own = s.own := rfl
@[simp] theorem setRegField_exe (s : State) (a i hi lo v : Nat) : (setRegField s a i hi lo v).exe = s.exe := rfl
@[simp] theorem setRegField_hz (s : State) (a i hi lo v : Nat) : (setRegField s a i hi lo v).hz = s.hz := rfl
@[simp] theorem setRegField_fch (s : State) (a i hi lo v : Nat) : (setRegField s a i hi lo v).fch = s.fch := rfl
@[simp] theorem setRegField_grd (s : State) (a i hi lo v : Nat) : (setRegField s a i hi lo v).grd = s.grd := rfl
@[simp] theorem setRegField_gmu (s : State) (a i hi lo v : Nat) : (setRegField s a i hi lo v).gmu = s.gmu := rfl
@[simp] theorem setRegField_wnt (s : State) (a i hi lo v : Nat) : (setRegField s a i hi lo v).wnt = s.wnt := rfl
@[simp] theorem setRegField_pair (s : State) (a i hi lo v : Nat) : (setRegField s a i hi lo v).pair = s.pair := rfl
@[simp] theorem setRegField_mem (s : State) (a i hi lo v : Nat) : (setRegField s a i hi lo v).mem = s.mem := rfl
@[simp] theorem setRegField_spr (s : State) (a i hi lo v : Nat) : (setRegField s a i hi lo v).spr = s.spr := rfl
@[simp] theorem setRegField_cmd (s : State) (a i hi lo v : Nat) : (setRegField s a i hi lo v).cmd = s.cmd := rfl
@[simp] theorem setRegField_net (s : State) (a i hi lo v : Nat) : (setRegField s a i hi lo v).net = s.net := rfl
@[simp] theorem setRegField_can (s : State) (a i hi lo v : Nat) : (setRegField s a i hi lo v).can = s.can := rfl
@[simp] theorem setRegField_sbk (s : State) (a i hi lo v : Nat) : (setRegField s a i hi lo v).sbk = s.sbk := rfl
@[simp] theorem setRegField_pnl (s : State) (a i hi lo v : Nat) : (setRegField s a i hi lo v).pnl = s.pnl := rfl
@[simp] theorem setRegField_tru (s : State) (a i hi lo v : Nat) : (setRegField s a i hi lo v).tru = s.tru := rfl
@[simp] theorem setRegField_sup (s : State) (a i hi lo v : Nat) : (setRegField s a i hi lo v).sup = s.sup := rfl

@[simp] theorem setCfg_pending (s : State) (a i : Nat) (v : Word) : (setCfg s a i v).pending = s.pending := rfl
@[simp] theorem setCfg_regs (s : State) (a i : Nat) (v : Word) : (setCfg s a i v).regs = s.regs := rfl
@[simp] theorem setCfg_staged (s : State) (a i : Nat) (v : Word) : (setCfg s a i v).staged = s.staged := rfl
@[simp] theorem setCfg_ctrs (s : State) (a i : Nat) (v : Word) : (setCfg s a i v).ctrs = s.ctrs := rfl
@[simp] theorem setCfg_snaps (s : State) (a i : Nat) (v : Word) : (setCfg s a i v).snaps = s.snaps := rfl
@[simp] theorem setCfg_free (s : State) (a i : Nat) (v : Word) : (setCfg s a i v).free = s.free := rfl
@[simp] theorem setCfg_now (s : State) (a i : Nat) (v : Word) : (setCfg s a i v).now = s.now := rfl
@[simp] theorem setCfg_own (s : State) (a i : Nat) (v : Word) : (setCfg s a i v).own = s.own := rfl
@[simp] theorem setCfg_exe (s : State) (a i : Nat) (v : Word) : (setCfg s a i v).exe = s.exe := rfl
@[simp] theorem setCfg_hz (s : State) (a i : Nat) (v : Word) : (setCfg s a i v).hz = s.hz := rfl
@[simp] theorem setCfg_fch (s : State) (a i : Nat) (v : Word) : (setCfg s a i v).fch = s.fch := rfl
@[simp] theorem setCfg_grd (s : State) (a i : Nat) (v : Word) : (setCfg s a i v).grd = s.grd := rfl
@[simp] theorem setCfg_gmu (s : State) (a i : Nat) (v : Word) : (setCfg s a i v).gmu = s.gmu := rfl
@[simp] theorem setCfg_wnt (s : State) (a i : Nat) (v : Word) : (setCfg s a i v).wnt = s.wnt := rfl
@[simp] theorem setCfg_pair (s : State) (a i : Nat) (v : Word) : (setCfg s a i v).pair = s.pair := rfl
@[simp] theorem setCfg_mem (s : State) (a i : Nat) (v : Word) : (setCfg s a i v).mem = s.mem := rfl
@[simp] theorem setCfg_spr (s : State) (a i : Nat) (v : Word) : (setCfg s a i v).spr = s.spr := rfl
@[simp] theorem setCfg_cmd (s : State) (a i : Nat) (v : Word) : (setCfg s a i v).cmd = s.cmd := rfl
@[simp] theorem setCfg_net (s : State) (a i : Nat) (v : Word) : (setCfg s a i v).net = s.net := rfl
@[simp] theorem setCfg_can (s : State) (a i : Nat) (v : Word) : (setCfg s a i v).can = s.can := rfl
@[simp] theorem setCfg_sbk (s : State) (a i : Nat) (v : Word) : (setCfg s a i v).sbk = s.sbk := rfl
@[simp] theorem setCfg_pnl (s : State) (a i : Nat) (v : Word) : (setCfg s a i v).pnl = s.pnl := rfl
@[simp] theorem setCfg_tru (s : State) (a i : Nat) (v : Word) : (setCfg s a i v).tru = s.tru := rfl
@[simp] theorem setCfg_sup (s : State) (a i : Nat) (v : Word) : (setCfg s a i v).sup = s.sup := rfl

@[simp] theorem setCounter_pending (s : State) (a i : Nat) (v : Word) : (setCounter s a i v).pending = s.pending := rfl
@[simp] theorem setCounter_regs (s : State) (a i : Nat) (v : Word) : (setCounter s a i v).regs = s.regs := rfl
@[simp] theorem setCounter_active (s : State) (a i : Nat) (v : Word) : (setCounter s a i v).active = s.active := rfl
@[simp] theorem setCounter_staged (s : State) (a i : Nat) (v : Word) : (setCounter s a i v).staged = s.staged := rfl
@[simp] theorem setCounter_snaps (s : State) (a i : Nat) (v : Word) : (setCounter s a i v).snaps = s.snaps := rfl
@[simp] theorem setCounter_free (s : State) (a i : Nat) (v : Word) : (setCounter s a i v).free = s.free := rfl
@[simp] theorem setCounter_now (s : State) (a i : Nat) (v : Word) : (setCounter s a i v).now = s.now := rfl
@[simp] theorem setCounter_own (s : State) (a i : Nat) (v : Word) : (setCounter s a i v).own = s.own := rfl
@[simp] theorem setCounter_exe (s : State) (a i : Nat) (v : Word) : (setCounter s a i v).exe = s.exe := rfl
@[simp] theorem setCounter_hz (s : State) (a i : Nat) (v : Word) : (setCounter s a i v).hz = s.hz := rfl
@[simp] theorem setCounter_fch (s : State) (a i : Nat) (v : Word) : (setCounter s a i v).fch = s.fch := rfl
@[simp] theorem setCounter_grd (s : State) (a i : Nat) (v : Word) : (setCounter s a i v).grd = s.grd := rfl
@[simp] theorem setCounter_gmu (s : State) (a i : Nat) (v : Word) : (setCounter s a i v).gmu = s.gmu := rfl
@[simp] theorem setCounter_wnt (s : State) (a i : Nat) (v : Word) : (setCounter s a i v).wnt = s.wnt := rfl
@[simp] theorem setCounter_pair (s : State) (a i : Nat) (v : Word) : (setCounter s a i v).pair = s.pair := rfl
@[simp] theorem setCounter_mem (s : State) (a i : Nat) (v : Word) : (setCounter s a i v).mem = s.mem := rfl
@[simp] theorem setCounter_spr (s : State) (a i : Nat) (v : Word) : (setCounter s a i v).spr = s.spr := rfl
@[simp] theorem setCounter_cmd (s : State) (a i : Nat) (v : Word) : (setCounter s a i v).cmd = s.cmd := rfl
@[simp] theorem setCounter_net (s : State) (a i : Nat) (v : Word) : (setCounter s a i v).net = s.net := rfl
@[simp] theorem setCounter_can (s : State) (a i : Nat) (v : Word) : (setCounter s a i v).can = s.can := rfl
@[simp] theorem setCounter_sbk (s : State) (a i : Nat) (v : Word) : (setCounter s a i v).sbk = s.sbk := rfl
@[simp] theorem setCounter_pnl (s : State) (a i : Nat) (v : Word) : (setCounter s a i v).pnl = s.pnl := rfl
@[simp] theorem setCounter_tru (s : State) (a i : Nat) (v : Word) : (setCounter s a i v).tru = s.tru := rfl
@[simp] theorem setCounter_sup (s : State) (a i : Nat) (v : Word) : (setCounter s a i v).sup = s.sup := rfl

@[simp] theorem countUp_pending (s : State) (a i : Nat) : (countUp s a i).pending = s.pending := rfl
@[simp] theorem countUp_regs (s : State) (a i : Nat) : (countUp s a i).regs = s.regs := rfl
@[simp] theorem countUp_active (s : State) (a i : Nat) : (countUp s a i).active = s.active := rfl
@[simp] theorem countUp_staged (s : State) (a i : Nat) : (countUp s a i).staged = s.staged := rfl
@[simp] theorem countUp_snaps (s : State) (a i : Nat) : (countUp s a i).snaps = s.snaps := rfl
@[simp] theorem countUp_free (s : State) (a i : Nat) : (countUp s a i).free = s.free := rfl
@[simp] theorem countUp_now (s : State) (a i : Nat) : (countUp s a i).now = s.now := rfl
@[simp] theorem countUp_own (s : State) (a i : Nat) : (countUp s a i).own = s.own := rfl
@[simp] theorem countUp_exe (s : State) (a i : Nat) : (countUp s a i).exe = s.exe := rfl
@[simp] theorem countUp_hz (s : State) (a i : Nat) : (countUp s a i).hz = s.hz := rfl
@[simp] theorem countUp_fch (s : State) (a i : Nat) : (countUp s a i).fch = s.fch := rfl
@[simp] theorem countUp_grd (s : State) (a i : Nat) : (countUp s a i).grd = s.grd := rfl
@[simp] theorem countUp_gmu (s : State) (a i : Nat) : (countUp s a i).gmu = s.gmu := rfl
@[simp] theorem countUp_wnt (s : State) (a i : Nat) : (countUp s a i).wnt = s.wnt := rfl
@[simp] theorem countUp_pair (s : State) (a i : Nat) : (countUp s a i).pair = s.pair := rfl
@[simp] theorem countUp_mem (s : State) (a i : Nat) : (countUp s a i).mem = s.mem := rfl
@[simp] theorem countUp_spr (s : State) (a i : Nat) : (countUp s a i).spr = s.spr := rfl
@[simp] theorem countUp_cmd (s : State) (a i : Nat) : (countUp s a i).cmd = s.cmd := rfl
@[simp] theorem countUp_net (s : State) (a i : Nat) : (countUp s a i).net = s.net := rfl
@[simp] theorem countUp_can (s : State) (a i : Nat) : (countUp s a i).can = s.can := rfl
@[simp] theorem countUp_sbk (s : State) (a i : Nat) : (countUp s a i).sbk = s.sbk := rfl
@[simp] theorem countUp_pnl (s : State) (a i : Nat) : (countUp s a i).pnl = s.pnl := rfl
@[simp] theorem countUp_tru (s : State) (a i : Nat) : (countUp s a i).tru = s.tru := rfl
@[simp] theorem countUp_sup (s : State) (a i : Nat) : (countUp s a i).sup = s.sup := rfl

@[simp] theorem raise_pending (s : State) (a i n : Nat) : (raise s a i n).pending = s.pending := rfl
@[simp] theorem raise_active (s : State) (a i n : Nat) : (raise s a i n).active = s.active := rfl
@[simp] theorem raise_staged (s : State) (a i n : Nat) : (raise s a i n).staged = s.staged := rfl
@[simp] theorem raise_snaps (s : State) (a i n : Nat) : (raise s a i n).snaps = s.snaps := rfl
@[simp] theorem raise_free (s : State) (a i n : Nat) : (raise s a i n).free = s.free := rfl
@[simp] theorem raise_now (s : State) (a i n : Nat) : (raise s a i n).now = s.now := rfl
@[simp] theorem raise_own (s : State) (a i n : Nat) : (raise s a i n).own = s.own := rfl
@[simp] theorem raise_exe (s : State) (a i n : Nat) : (raise s a i n).exe = s.exe := rfl
@[simp] theorem raise_hz (s : State) (a i n : Nat) : (raise s a i n).hz = s.hz := rfl
@[simp] theorem raise_fch (s : State) (a i n : Nat) : (raise s a i n).fch = s.fch := rfl
@[simp] theorem raise_grd (s : State) (a i n : Nat) : (raise s a i n).grd = s.grd := rfl
@[simp] theorem raise_gmu (s : State) (a i n : Nat) : (raise s a i n).gmu = s.gmu := rfl
@[simp] theorem raise_wnt (s : State) (a i n : Nat) : (raise s a i n).wnt = s.wnt := rfl
@[simp] theorem raise_pair (s : State) (a i n : Nat) : (raise s a i n).pair = s.pair := rfl
@[simp] theorem raise_mem (s : State) (a i n : Nat) : (raise s a i n).mem = s.mem := rfl
@[simp] theorem raise_spr (s : State) (a i n : Nat) : (raise s a i n).spr = s.spr := rfl
@[simp] theorem raise_cmd (s : State) (a i n : Nat) : (raise s a i n).cmd = s.cmd := rfl
@[simp] theorem raise_net (s : State) (a i n : Nat) : (raise s a i n).net = s.net := rfl
@[simp] theorem raise_can (s : State) (a i n : Nat) : (raise s a i n).can = s.can := rfl
@[simp] theorem raise_sbk (s : State) (a i n : Nat) : (raise s a i n).sbk = s.sbk := rfl
@[simp] theorem raise_pnl (s : State) (a i n : Nat) : (raise s a i n).pnl = s.pnl := rfl
@[simp] theorem raise_tru (s : State) (a i n : Nat) : (raise s a i n).tru = s.tru := rfl
@[simp] theorem raise_sup (s : State) (a i n : Nat) : (raise s a i n).sup = s.sup := rfl

@[simp] theorem bumpApply_pending (s : State) (a i : Nat) : (bumpApply s a i).pending = s.pending := rfl
@[simp] theorem bumpApply_active (s : State) (a i : Nat) : (bumpApply s a i).active = s.active := rfl
@[simp] theorem bumpApply_staged (s : State) (a i : Nat) : (bumpApply s a i).staged = s.staged := rfl
@[simp] theorem bumpApply_ctrs (s : State) (a i : Nat) : (bumpApply s a i).ctrs = s.ctrs := rfl
@[simp] theorem bumpApply_snaps (s : State) (a i : Nat) : (bumpApply s a i).snaps = s.snaps := rfl
@[simp] theorem bumpApply_free (s : State) (a i : Nat) : (bumpApply s a i).free = s.free := rfl
@[simp] theorem bumpApply_now (s : State) (a i : Nat) : (bumpApply s a i).now = s.now := rfl
@[simp] theorem bumpApply_own (s : State) (a i : Nat) : (bumpApply s a i).own = s.own := rfl
@[simp] theorem bumpApply_exe (s : State) (a i : Nat) : (bumpApply s a i).exe = s.exe := rfl
@[simp] theorem bumpApply_hz (s : State) (a i : Nat) : (bumpApply s a i).hz = s.hz := rfl
@[simp] theorem bumpApply_fch (s : State) (a i : Nat) : (bumpApply s a i).fch = s.fch := rfl
@[simp] theorem bumpApply_grd (s : State) (a i : Nat) : (bumpApply s a i).grd = s.grd := rfl
@[simp] theorem bumpApply_gmu (s : State) (a i : Nat) : (bumpApply s a i).gmu = s.gmu := rfl
@[simp] theorem bumpApply_wnt (s : State) (a i : Nat) : (bumpApply s a i).wnt = s.wnt := rfl
@[simp] theorem bumpApply_pair (s : State) (a i : Nat) : (bumpApply s a i).pair = s.pair := rfl
@[simp] theorem bumpApply_mem (s : State) (a i : Nat) : (bumpApply s a i).mem = s.mem := rfl
@[simp] theorem bumpApply_spr (s : State) (a i : Nat) : (bumpApply s a i).spr = s.spr := rfl
@[simp] theorem bumpApply_cmd (s : State) (a i : Nat) : (bumpApply s a i).cmd = s.cmd := rfl
@[simp] theorem bumpApply_net (s : State) (a i : Nat) : (bumpApply s a i).net = s.net := rfl
@[simp] theorem bumpApply_can (s : State) (a i : Nat) : (bumpApply s a i).can = s.can := rfl
@[simp] theorem bumpApply_sbk (s : State) (a i : Nat) : (bumpApply s a i).sbk = s.sbk := rfl
@[simp] theorem bumpApply_pnl (s : State) (a i : Nat) : (bumpApply s a i).pnl = s.pnl := rfl
@[simp] theorem bumpApply_tru (s : State) (a i : Nat) : (bumpApply s a i).tru = s.tru := rfl
@[simp] theorem bumpApply_sup (s : State) (a i : Nat) : (bumpApply s a i).sup = s.sup := rfl

@[simp] theorem setFe_pending (s : State) (n : Nat) (x : FrontEnd) : (setFe s n x).pending = s.pending := rfl
@[simp] theorem setFe_regs (s : State) (n : Nat) (x : FrontEnd) : (setFe s n x).regs = s.regs := rfl
@[simp] theorem setFe_active (s : State) (n : Nat) (x : FrontEnd) : (setFe s n x).active = s.active := rfl
@[simp] theorem setFe_staged (s : State) (n : Nat) (x : FrontEnd) : (setFe s n x).staged = s.staged := rfl
@[simp] theorem setFe_ctrs (s : State) (n : Nat) (x : FrontEnd) : (setFe s n x).ctrs = s.ctrs := rfl
@[simp] theorem setFe_snaps (s : State) (n : Nat) (x : FrontEnd) : (setFe s n x).snaps = s.snaps := rfl
@[simp] theorem setFe_free (s : State) (n : Nat) (x : FrontEnd) : (setFe s n x).free = s.free := rfl
@[simp] theorem setFe_now (s : State) (n : Nat) (x : FrontEnd) : (setFe s n x).now = s.now := rfl
@[simp] theorem setFe_own (s : State) (n : Nat) (x : FrontEnd) : (setFe s n x).own = s.own := rfl
@[simp] theorem setFe_exe (s : State) (n : Nat) (x : FrontEnd) : (setFe s n x).exe = s.exe := rfl
@[simp] theorem setFe_hz (s : State) (n : Nat) (x : FrontEnd) : (setFe s n x).hz = s.hz := rfl
@[simp] theorem setFe_grd (s : State) (n : Nat) (x : FrontEnd) : (setFe s n x).grd = s.grd := rfl
@[simp] theorem setFe_gmu (s : State) (n : Nat) (x : FrontEnd) : (setFe s n x).gmu = s.gmu := rfl
@[simp] theorem setFe_wnt (s : State) (n : Nat) (x : FrontEnd) : (setFe s n x).wnt = s.wnt := rfl
@[simp] theorem setFe_pair (s : State) (n : Nat) (x : FrontEnd) : (setFe s n x).pair = s.pair := rfl
@[simp] theorem setFe_mem (s : State) (n : Nat) (x : FrontEnd) : (setFe s n x).mem = s.mem := rfl
@[simp] theorem setFe_spr (s : State) (n : Nat) (x : FrontEnd) : (setFe s n x).spr = s.spr := rfl
@[simp] theorem setFe_cmd (s : State) (n : Nat) (x : FrontEnd) : (setFe s n x).cmd = s.cmd := rfl
@[simp] theorem setFe_net (s : State) (n : Nat) (x : FrontEnd) : (setFe s n x).net = s.net := rfl
@[simp] theorem setFe_can (s : State) (n : Nat) (x : FrontEnd) : (setFe s n x).can = s.can := rfl
@[simp] theorem setFe_sbk (s : State) (n : Nat) (x : FrontEnd) : (setFe s n x).sbk = s.sbk := rfl
@[simp] theorem setFe_pnl (s : State) (n : Nat) (x : FrontEnd) : (setFe s n x).pnl = s.pnl := rfl
@[simp] theorem setFe_tru (s : State) (n : Nat) (x : FrontEnd) : (setFe s n x).tru = s.tru := rfl
@[simp] theorem setFe_sup (s : State) (n : Nat) (x : FrontEnd) : (setFe s n x).sup = s.sup := rfl

@[simp] theorem modFe_pending (s : State) (n : Nat) (g : FrontEnd → FrontEnd) : (modFe s n g).pending = s.pending := rfl
@[simp] theorem modFe_regs (s : State) (n : Nat) (g : FrontEnd → FrontEnd) : (modFe s n g).regs = s.regs := rfl
@[simp] theorem modFe_active (s : State) (n : Nat) (g : FrontEnd → FrontEnd) : (modFe s n g).active = s.active := rfl
@[simp] theorem modFe_staged (s : State) (n : Nat) (g : FrontEnd → FrontEnd) : (modFe s n g).staged = s.staged := rfl
@[simp] theorem modFe_ctrs (s : State) (n : Nat) (g : FrontEnd → FrontEnd) : (modFe s n g).ctrs = s.ctrs := rfl
@[simp] theorem modFe_snaps (s : State) (n : Nat) (g : FrontEnd → FrontEnd) : (modFe s n g).snaps = s.snaps := rfl
@[simp] theorem modFe_free (s : State) (n : Nat) (g : FrontEnd → FrontEnd) : (modFe s n g).free = s.free := rfl
@[simp] theorem modFe_now (s : State) (n : Nat) (g : FrontEnd → FrontEnd) : (modFe s n g).now = s.now := rfl
@[simp] theorem modFe_own (s : State) (n : Nat) (g : FrontEnd → FrontEnd) : (modFe s n g).own = s.own := rfl
@[simp] theorem modFe_exe (s : State) (n : Nat) (g : FrontEnd → FrontEnd) : (modFe s n g).exe = s.exe := rfl
@[simp] theorem modFe_hz (s : State) (n : Nat) (g : FrontEnd → FrontEnd) : (modFe s n g).hz = s.hz := rfl
@[simp] theorem modFe_grd (s : State) (n : Nat) (g : FrontEnd → FrontEnd) : (modFe s n g).grd = s.grd := rfl
@[simp] theorem modFe_gmu (s : State) (n : Nat) (g : FrontEnd → FrontEnd) : (modFe s n g).gmu = s.gmu := rfl
@[simp] theorem modFe_wnt (s : State) (n : Nat) (g : FrontEnd → FrontEnd) : (modFe s n g).wnt = s.wnt := rfl
@[simp] theorem modFe_pair (s : State) (n : Nat) (g : FrontEnd → FrontEnd) : (modFe s n g).pair = s.pair := rfl
@[simp] theorem modFe_mem (s : State) (n : Nat) (g : FrontEnd → FrontEnd) : (modFe s n g).mem = s.mem := rfl
@[simp] theorem modFe_spr (s : State) (n : Nat) (g : FrontEnd → FrontEnd) : (modFe s n g).spr = s.spr := rfl
@[simp] theorem modFe_cmd (s : State) (n : Nat) (g : FrontEnd → FrontEnd) : (modFe s n g).cmd = s.cmd := rfl
@[simp] theorem modFe_net (s : State) (n : Nat) (g : FrontEnd → FrontEnd) : (modFe s n g).net = s.net := rfl
@[simp] theorem modFe_can (s : State) (n : Nat) (g : FrontEnd → FrontEnd) : (modFe s n g).can = s.can := rfl
@[simp] theorem modFe_sbk (s : State) (n : Nat) (g : FrontEnd → FrontEnd) : (modFe s n g).sbk = s.sbk := rfl
@[simp] theorem modFe_pnl (s : State) (n : Nat) (g : FrontEnd → FrontEnd) : (modFe s n g).pnl = s.pnl := rfl
@[simp] theorem modFe_tru (s : State) (n : Nat) (g : FrontEnd → FrontEnd) : (modFe s n g).tru = s.tru := rfl
@[simp] theorem modFe_sup (s : State) (n : Nat) (g : FrontEnd → FrontEnd) : (modFe s n g).sup = s.sup := rfl

@[simp] theorem setGroup_pending (s : State) (g : Nat) (x : Group) : (setGroup s g x).pending = s.pending := rfl
@[simp] theorem setGroup_regs (s : State) (g : Nat) (x : Group) : (setGroup s g x).regs = s.regs := rfl
@[simp] theorem setGroup_active (s : State) (g : Nat) (x : Group) : (setGroup s g x).active = s.active := rfl
@[simp] theorem setGroup_staged (s : State) (g : Nat) (x : Group) : (setGroup s g x).staged = s.staged := rfl
@[simp] theorem setGroup_ctrs (s : State) (g : Nat) (x : Group) : (setGroup s g x).ctrs = s.ctrs := rfl
@[simp] theorem setGroup_snaps (s : State) (g : Nat) (x : Group) : (setGroup s g x).snaps = s.snaps := rfl
@[simp] theorem setGroup_free (s : State) (g : Nat) (x : Group) : (setGroup s g x).free = s.free := rfl
@[simp] theorem setGroup_now (s : State) (g : Nat) (x : Group) : (setGroup s g x).now = s.now := rfl
@[simp] theorem setGroup_own (s : State) (g : Nat) (x : Group) : (setGroup s g x).own = s.own := rfl
@[simp] theorem setGroup_exe (s : State) (g : Nat) (x : Group) : (setGroup s g x).exe = s.exe := rfl
@[simp] theorem setGroup_hz (s : State) (g : Nat) (x : Group) : (setGroup s g x).hz = s.hz := rfl
@[simp] theorem setGroup_grd (s : State) (g : Nat) (x : Group) : (setGroup s g x).grd = s.grd := rfl
@[simp] theorem setGroup_gmu (s : State) (g : Nat) (x : Group) : (setGroup s g x).gmu = s.gmu := rfl
@[simp] theorem setGroup_wnt (s : State) (g : Nat) (x : Group) : (setGroup s g x).wnt = s.wnt := rfl
@[simp] theorem setGroup_pair (s : State) (g : Nat) (x : Group) : (setGroup s g x).pair = s.pair := rfl
@[simp] theorem setGroup_mem (s : State) (g : Nat) (x : Group) : (setGroup s g x).mem = s.mem := rfl
@[simp] theorem setGroup_spr (s : State) (g : Nat) (x : Group) : (setGroup s g x).spr = s.spr := rfl
@[simp] theorem setGroup_cmd (s : State) (g : Nat) (x : Group) : (setGroup s g x).cmd = s.cmd := rfl
@[simp] theorem setGroup_net (s : State) (g : Nat) (x : Group) : (setGroup s g x).net = s.net := rfl
@[simp] theorem setGroup_can (s : State) (g : Nat) (x : Group) : (setGroup s g x).can = s.can := rfl
@[simp] theorem setGroup_sbk (s : State) (g : Nat) (x : Group) : (setGroup s g x).sbk = s.sbk := rfl
@[simp] theorem setGroup_pnl (s : State) (g : Nat) (x : Group) : (setGroup s g x).pnl = s.pnl := rfl
@[simp] theorem setGroup_tru (s : State) (g : Nat) (x : Group) : (setGroup s g x).tru = s.tru := rfl
@[simp] theorem setGroup_sup (s : State) (g : Nat) (x : Group) : (setGroup s g x).sup = s.sup := rfl

@[simp] theorem setTask_pending (s : State) (n : Nat) (x : Task) : (setTask s n x).pending = s.pending := rfl
@[simp] theorem setTask_regs (s : State) (n : Nat) (x : Task) : (setTask s n x).regs = s.regs := rfl
@[simp] theorem setTask_active (s : State) (n : Nat) (x : Task) : (setTask s n x).active = s.active := rfl
@[simp] theorem setTask_staged (s : State) (n : Nat) (x : Task) : (setTask s n x).staged = s.staged := rfl
@[simp] theorem setTask_ctrs (s : State) (n : Nat) (x : Task) : (setTask s n x).ctrs = s.ctrs := rfl
@[simp] theorem setTask_snaps (s : State) (n : Nat) (x : Task) : (setTask s n x).snaps = s.snaps := rfl
@[simp] theorem setTask_free (s : State) (n : Nat) (x : Task) : (setTask s n x).free = s.free := rfl
@[simp] theorem setTask_now (s : State) (n : Nat) (x : Task) : (setTask s n x).now = s.now := rfl
@[simp] theorem setTask_own (s : State) (n : Nat) (x : Task) : (setTask s n x).own = s.own := rfl
@[simp] theorem setTask_hz (s : State) (n : Nat) (x : Task) : (setTask s n x).hz = s.hz := rfl
@[simp] theorem setTask_fch (s : State) (n : Nat) (x : Task) : (setTask s n x).fch = s.fch := rfl
@[simp] theorem setTask_grd (s : State) (n : Nat) (x : Task) : (setTask s n x).grd = s.grd := rfl
@[simp] theorem setTask_gmu (s : State) (n : Nat) (x : Task) : (setTask s n x).gmu = s.gmu := rfl
@[simp] theorem setTask_wnt (s : State) (n : Nat) (x : Task) : (setTask s n x).wnt = s.wnt := rfl
@[simp] theorem setTask_pair (s : State) (n : Nat) (x : Task) : (setTask s n x).pair = s.pair := rfl
@[simp] theorem setTask_mem (s : State) (n : Nat) (x : Task) : (setTask s n x).mem = s.mem := rfl
@[simp] theorem setTask_spr (s : State) (n : Nat) (x : Task) : (setTask s n x).spr = s.spr := rfl
@[simp] theorem setTask_cmd (s : State) (n : Nat) (x : Task) : (setTask s n x).cmd = s.cmd := rfl
@[simp] theorem setTask_net (s : State) (n : Nat) (x : Task) : (setTask s n x).net = s.net := rfl
@[simp] theorem setTask_can (s : State) (n : Nat) (x : Task) : (setTask s n x).can = s.can := rfl
@[simp] theorem setTask_sbk (s : State) (n : Nat) (x : Task) : (setTask s n x).sbk = s.sbk := rfl
@[simp] theorem setTask_pnl (s : State) (n : Nat) (x : Task) : (setTask s n x).pnl = s.pnl := rfl
@[simp] theorem setTask_tru (s : State) (n : Nat) (x : Task) : (setTask s n x).tru = s.tru := rfl
@[simp] theorem setTask_sup (s : State) (n : Nat) (x : Task) : (setTask s n x).sup = s.sup := rfl

@[simp] theorem modPnl_pending (s : State) (f : Panel → Panel) : (modPnl s f).pending = s.pending := rfl
@[simp] theorem modPnl_regs (s : State) (f : Panel → Panel) : (modPnl s f).regs = s.regs := rfl
@[simp] theorem modPnl_active (s : State) (f : Panel → Panel) : (modPnl s f).active = s.active := rfl
@[simp] theorem modPnl_staged (s : State) (f : Panel → Panel) : (modPnl s f).staged = s.staged := rfl
@[simp] theorem modPnl_ctrs (s : State) (f : Panel → Panel) : (modPnl s f).ctrs = s.ctrs := rfl
@[simp] theorem modPnl_snaps (s : State) (f : Panel → Panel) : (modPnl s f).snaps = s.snaps := rfl
@[simp] theorem modPnl_free (s : State) (f : Panel → Panel) : (modPnl s f).free = s.free := rfl
@[simp] theorem modPnl_now (s : State) (f : Panel → Panel) : (modPnl s f).now = s.now := rfl
@[simp] theorem modPnl_own (s : State) (f : Panel → Panel) : (modPnl s f).own = s.own := rfl
@[simp] theorem modPnl_exe (s : State) (f : Panel → Panel) : (modPnl s f).exe = s.exe := rfl
@[simp] theorem modPnl_hz (s : State) (f : Panel → Panel) : (modPnl s f).hz = s.hz := rfl
@[simp] theorem modPnl_fch (s : State) (f : Panel → Panel) : (modPnl s f).fch = s.fch := rfl
@[simp] theorem modPnl_grd (s : State) (f : Panel → Panel) : (modPnl s f).grd = s.grd := rfl
@[simp] theorem modPnl_gmu (s : State) (f : Panel → Panel) : (modPnl s f).gmu = s.gmu := rfl
@[simp] theorem modPnl_wnt (s : State) (f : Panel → Panel) : (modPnl s f).wnt = s.wnt := rfl
@[simp] theorem modPnl_pair (s : State) (f : Panel → Panel) : (modPnl s f).pair = s.pair := rfl
@[simp] theorem modPnl_mem (s : State) (f : Panel → Panel) : (modPnl s f).mem = s.mem := rfl
@[simp] theorem modPnl_spr (s : State) (f : Panel → Panel) : (modPnl s f).spr = s.spr := rfl
@[simp] theorem modPnl_cmd (s : State) (f : Panel → Panel) : (modPnl s f).cmd = s.cmd := rfl
@[simp] theorem modPnl_net (s : State) (f : Panel → Panel) : (modPnl s f).net = s.net := rfl
@[simp] theorem modPnl_can (s : State) (f : Panel → Panel) : (modPnl s f).can = s.can := rfl
@[simp] theorem modPnl_sbk (s : State) (f : Panel → Panel) : (modPnl s f).sbk = s.sbk := rfl
@[simp] theorem modPnl_tru (s : State) (f : Panel → Panel) : (modPnl s f).tru = s.tru := rfl
@[simp] theorem modPnl_sup (s : State) (f : Panel → Panel) : (modPnl s f).sup = s.sup := rfl

@[simp] theorem modSup_pending (s : State) (f : Supervisor → Supervisor) : (modSup s f).pending = s.pending := rfl
@[simp] theorem modSup_regs (s : State) (f : Supervisor → Supervisor) : (modSup s f).regs = s.regs := rfl
@[simp] theorem modSup_active (s : State) (f : Supervisor → Supervisor) : (modSup s f).active = s.active := rfl
@[simp] theorem modSup_staged (s : State) (f : Supervisor → Supervisor) : (modSup s f).staged = s.staged := rfl
@[simp] theorem modSup_ctrs (s : State) (f : Supervisor → Supervisor) : (modSup s f).ctrs = s.ctrs := rfl
@[simp] theorem modSup_snaps (s : State) (f : Supervisor → Supervisor) : (modSup s f).snaps = s.snaps := rfl
@[simp] theorem modSup_free (s : State) (f : Supervisor → Supervisor) : (modSup s f).free = s.free := rfl
@[simp] theorem modSup_now (s : State) (f : Supervisor → Supervisor) : (modSup s f).now = s.now := rfl
@[simp] theorem modSup_own (s : State) (f : Supervisor → Supervisor) : (modSup s f).own = s.own := rfl
@[simp] theorem modSup_exe (s : State) (f : Supervisor → Supervisor) : (modSup s f).exe = s.exe := rfl
@[simp] theorem modSup_hz (s : State) (f : Supervisor → Supervisor) : (modSup s f).hz = s.hz := rfl
@[simp] theorem modSup_fch (s : State) (f : Supervisor → Supervisor) : (modSup s f).fch = s.fch := rfl
@[simp] theorem modSup_grd (s : State) (f : Supervisor → Supervisor) : (modSup s f).grd = s.grd := rfl
@[simp] theorem modSup_gmu (s : State) (f : Supervisor → Supervisor) : (modSup s f).gmu = s.gmu := rfl
@[simp] theorem modSup_wnt (s : State) (f : Supervisor → Supervisor) : (modSup s f).wnt = s.wnt := rfl
@[simp] theorem modSup_pair (s : State) (f : Supervisor → Supervisor) : (modSup s f).pair = s.pair := rfl
@[simp] theorem modSup_mem (s : State) (f : Supervisor → Supervisor) : (modSup s f).mem = s.mem := rfl
@[simp] theorem modSup_spr (s : State) (f : Supervisor → Supervisor) : (modSup s f).spr = s.spr := rfl
@[simp] theorem modSup_cmd (s : State) (f : Supervisor → Supervisor) : (modSup s f).cmd = s.cmd := rfl
@[simp] theorem modSup_net (s : State) (f : Supervisor → Supervisor) : (modSup s f).net = s.net := rfl
@[simp] theorem modSup_can (s : State) (f : Supervisor → Supervisor) : (modSup s f).can = s.can := rfl
@[simp] theorem modSup_sbk (s : State) (f : Supervisor → Supervisor) : (modSup s f).sbk = s.sbk := rfl
@[simp] theorem modSup_pnl (s : State) (f : Supervisor → Supervisor) : (modSup s f).pnl = s.pnl := rfl
@[simp] theorem modSup_tru (s : State) (f : Supervisor → Supervisor) : (modSup s f).tru = s.tru := rfl

@[simp] theorem modWnt_pending (s : State) (f : Walnut → Walnut) : (modWnt s f).pending = s.pending := rfl
@[simp] theorem modWnt_regs (s : State) (f : Walnut → Walnut) : (modWnt s f).regs = s.regs := rfl
@[simp] theorem modWnt_active (s : State) (f : Walnut → Walnut) : (modWnt s f).active = s.active := rfl
@[simp] theorem modWnt_staged (s : State) (f : Walnut → Walnut) : (modWnt s f).staged = s.staged := rfl
@[simp] theorem modWnt_ctrs (s : State) (f : Walnut → Walnut) : (modWnt s f).ctrs = s.ctrs := rfl
@[simp] theorem modWnt_snaps (s : State) (f : Walnut → Walnut) : (modWnt s f).snaps = s.snaps := rfl
@[simp] theorem modWnt_free (s : State) (f : Walnut → Walnut) : (modWnt s f).free = s.free := rfl
@[simp] theorem modWnt_now (s : State) (f : Walnut → Walnut) : (modWnt s f).now = s.now := rfl
@[simp] theorem modWnt_own (s : State) (f : Walnut → Walnut) : (modWnt s f).own = s.own := rfl
@[simp] theorem modWnt_exe (s : State) (f : Walnut → Walnut) : (modWnt s f).exe = s.exe := rfl
@[simp] theorem modWnt_hz (s : State) (f : Walnut → Walnut) : (modWnt s f).hz = s.hz := rfl
@[simp] theorem modWnt_fch (s : State) (f : Walnut → Walnut) : (modWnt s f).fch = s.fch := rfl
@[simp] theorem modWnt_grd (s : State) (f : Walnut → Walnut) : (modWnt s f).grd = s.grd := rfl
@[simp] theorem modWnt_gmu (s : State) (f : Walnut → Walnut) : (modWnt s f).gmu = s.gmu := rfl
@[simp] theorem modWnt_pair (s : State) (f : Walnut → Walnut) : (modWnt s f).pair = s.pair := rfl
@[simp] theorem modWnt_mem (s : State) (f : Walnut → Walnut) : (modWnt s f).mem = s.mem := rfl
@[simp] theorem modWnt_spr (s : State) (f : Walnut → Walnut) : (modWnt s f).spr = s.spr := rfl
@[simp] theorem modWnt_cmd (s : State) (f : Walnut → Walnut) : (modWnt s f).cmd = s.cmd := rfl
@[simp] theorem modWnt_net (s : State) (f : Walnut → Walnut) : (modWnt s f).net = s.net := rfl
@[simp] theorem modWnt_can (s : State) (f : Walnut → Walnut) : (modWnt s f).can = s.can := rfl
@[simp] theorem modWnt_sbk (s : State) (f : Walnut → Walnut) : (modWnt s f).sbk = s.sbk := rfl
@[simp] theorem modWnt_pnl (s : State) (f : Walnut → Walnut) : (modWnt s f).pnl = s.pnl := rfl
@[simp] theorem modWnt_tru (s : State) (f : Walnut → Walnut) : (modWnt s f).tru = s.tru := rfl
@[simp] theorem modWnt_sup (s : State) (f : Walnut → Walnut) : (modWnt s f).sup = s.sup := rfl

@[simp] theorem modPair_pending (s : State) (f : Pair → Pair) : (modPair s f).pending = s.pending := rfl
@[simp] theorem modPair_regs (s : State) (f : Pair → Pair) : (modPair s f).regs = s.regs := rfl
@[simp] theorem modPair_active (s : State) (f : Pair → Pair) : (modPair s f).active = s.active := rfl
@[simp] theorem modPair_staged (s : State) (f : Pair → Pair) : (modPair s f).staged = s.staged := rfl
@[simp] theorem modPair_ctrs (s : State) (f : Pair → Pair) : (modPair s f).ctrs = s.ctrs := rfl
@[simp] theorem modPair_snaps (s : State) (f : Pair → Pair) : (modPair s f).snaps = s.snaps := rfl
@[simp] theorem modPair_free (s : State) (f : Pair → Pair) : (modPair s f).free = s.free := rfl
@[simp] theorem modPair_now (s : State) (f : Pair → Pair) : (modPair s f).now = s.now := rfl
@[simp] theorem modPair_own (s : State) (f : Pair → Pair) : (modPair s f).own = s.own := rfl
@[simp] theorem modPair_exe (s : State) (f : Pair → Pair) : (modPair s f).exe = s.exe := rfl
@[simp] theorem modPair_hz (s : State) (f : Pair → Pair) : (modPair s f).hz = s.hz := rfl
@[simp] theorem modPair_fch (s : State) (f : Pair → Pair) : (modPair s f).fch = s.fch := rfl
@[simp] theorem modPair_grd (s : State) (f : Pair → Pair) : (modPair s f).grd = s.grd := rfl
@[simp] theorem modPair_gmu (s : State) (f : Pair → Pair) : (modPair s f).gmu = s.gmu := rfl
@[simp] theorem modPair_wnt (s : State) (f : Pair → Pair) : (modPair s f).wnt = s.wnt := rfl
@[simp] theorem modPair_mem (s : State) (f : Pair → Pair) : (modPair s f).mem = s.mem := rfl
@[simp] theorem modPair_spr (s : State) (f : Pair → Pair) : (modPair s f).spr = s.spr := rfl
@[simp] theorem modPair_cmd (s : State) (f : Pair → Pair) : (modPair s f).cmd = s.cmd := rfl
@[simp] theorem modPair_net (s : State) (f : Pair → Pair) : (modPair s f).net = s.net := rfl
@[simp] theorem modPair_can (s : State) (f : Pair → Pair) : (modPair s f).can = s.can := rfl
@[simp] theorem modPair_sbk (s : State) (f : Pair → Pair) : (modPair s f).sbk = s.sbk := rfl
@[simp] theorem modPair_pnl (s : State) (f : Pair → Pair) : (modPair s f).pnl = s.pnl := rfl
@[simp] theorem modPair_tru (s : State) (f : Pair → Pair) : (modPair s f).tru = s.tru := rfl
@[simp] theorem modPair_sup (s : State) (f : Pair → Pair) : (modPair s f).sup = s.sup := rfl

@[simp] theorem send_pending (s : State) (m : PairMsg) : (send s m).pending = s.pending := by unfold send; split <;> rfl
@[simp] theorem send_regs (s : State) (m : PairMsg) : (send s m).regs = s.regs := by unfold send; split <;> rfl
@[simp] theorem send_active (s : State) (m : PairMsg) : (send s m).active = s.active := by unfold send; split <;> rfl
@[simp] theorem send_staged (s : State) (m : PairMsg) : (send s m).staged = s.staged := by unfold send; split <;> rfl
@[simp] theorem send_ctrs (s : State) (m : PairMsg) : (send s m).ctrs = s.ctrs := by unfold send; split <;> rfl
@[simp] theorem send_snaps (s : State) (m : PairMsg) : (send s m).snaps = s.snaps := by unfold send; split <;> rfl
@[simp] theorem send_free (s : State) (m : PairMsg) : (send s m).free = s.free := by unfold send; split <;> rfl
@[simp] theorem send_now (s : State) (m : PairMsg) : (send s m).now = s.now := by unfold send; split <;> rfl
@[simp] theorem send_own (s : State) (m : PairMsg) : (send s m).own = s.own := by unfold send; split <;> rfl
@[simp] theorem send_exe (s : State) (m : PairMsg) : (send s m).exe = s.exe := by unfold send; split <;> rfl
@[simp] theorem send_hz (s : State) (m : PairMsg) : (send s m).hz = s.hz := by unfold send; split <;> rfl
@[simp] theorem send_fch (s : State) (m : PairMsg) : (send s m).fch = s.fch := by unfold send; split <;> rfl
@[simp] theorem send_grd (s : State) (m : PairMsg) : (send s m).grd = s.grd := by unfold send; split <;> rfl
@[simp] theorem send_gmu (s : State) (m : PairMsg) : (send s m).gmu = s.gmu := by unfold send; split <;> rfl
@[simp] theorem send_wnt (s : State) (m : PairMsg) : (send s m).wnt = s.wnt := by unfold send; split <;> rfl
@[simp] theorem send_mem (s : State) (m : PairMsg) : (send s m).mem = s.mem := by unfold send; split <;> rfl
@[simp] theorem send_spr (s : State) (m : PairMsg) : (send s m).spr = s.spr := by unfold send; split <;> rfl
@[simp] theorem send_cmd (s : State) (m : PairMsg) : (send s m).cmd = s.cmd := by unfold send; split <;> rfl
@[simp] theorem send_net (s : State) (m : PairMsg) : (send s m).net = s.net := by unfold send; split <;> rfl
@[simp] theorem send_can (s : State) (m : PairMsg) : (send s m).can = s.can := by unfold send; split <;> rfl
@[simp] theorem send_sbk (s : State) (m : PairMsg) : (send s m).sbk = s.sbk := by unfold send; split <;> rfl
@[simp] theorem send_pnl (s : State) (m : PairMsg) : (send s m).pnl = s.pnl := by unfold send; split <;> rfl
@[simp] theorem send_tru (s : State) (m : PairMsg) : (send s m).tru = s.tru := by unfold send; split <;> rfl
@[simp] theorem send_sup (s : State) (m : PairMsg) : (send s m).sup = s.sup := by unfold send; split <;> rfl

@[simp] theorem modLoop_pending (s : State) (n : Nat) (f : Loop → Loop) : (modLoop s n f).pending = s.pending := rfl
@[simp] theorem modLoop_regs (s : State) (n : Nat) (f : Loop → Loop) : (modLoop s n f).regs = s.regs := rfl
@[simp] theorem modLoop_active (s : State) (n : Nat) (f : Loop → Loop) : (modLoop s n f).active = s.active := rfl
@[simp] theorem modLoop_staged (s : State) (n : Nat) (f : Loop → Loop) : (modLoop s n f).staged = s.staged := rfl
@[simp] theorem modLoop_ctrs (s : State) (n : Nat) (f : Loop → Loop) : (modLoop s n f).ctrs = s.ctrs := rfl
@[simp] theorem modLoop_snaps (s : State) (n : Nat) (f : Loop → Loop) : (modLoop s n f).snaps = s.snaps := rfl
@[simp] theorem modLoop_free (s : State) (n : Nat) (f : Loop → Loop) : (modLoop s n f).free = s.free := rfl
@[simp] theorem modLoop_now (s : State) (n : Nat) (f : Loop → Loop) : (modLoop s n f).now = s.now := rfl
@[simp] theorem modLoop_own (s : State) (n : Nat) (f : Loop → Loop) : (modLoop s n f).own = s.own := rfl
@[simp] theorem modLoop_exe (s : State) (n : Nat) (f : Loop → Loop) : (modLoop s n f).exe = s.exe := rfl
@[simp] theorem modLoop_fch (s : State) (n : Nat) (f : Loop → Loop) : (modLoop s n f).fch = s.fch := rfl
@[simp] theorem modLoop_grd (s : State) (n : Nat) (f : Loop → Loop) : (modLoop s n f).grd = s.grd := rfl
@[simp] theorem modLoop_gmu (s : State) (n : Nat) (f : Loop → Loop) : (modLoop s n f).gmu = s.gmu := rfl
@[simp] theorem modLoop_wnt (s : State) (n : Nat) (f : Loop → Loop) : (modLoop s n f).wnt = s.wnt := rfl
@[simp] theorem modLoop_pair (s : State) (n : Nat) (f : Loop → Loop) : (modLoop s n f).pair = s.pair := rfl
@[simp] theorem modLoop_mem (s : State) (n : Nat) (f : Loop → Loop) : (modLoop s n f).mem = s.mem := rfl
@[simp] theorem modLoop_spr (s : State) (n : Nat) (f : Loop → Loop) : (modLoop s n f).spr = s.spr := rfl
@[simp] theorem modLoop_cmd (s : State) (n : Nat) (f : Loop → Loop) : (modLoop s n f).cmd = s.cmd := rfl
@[simp] theorem modLoop_net (s : State) (n : Nat) (f : Loop → Loop) : (modLoop s n f).net = s.net := rfl
@[simp] theorem modLoop_can (s : State) (n : Nat) (f : Loop → Loop) : (modLoop s n f).can = s.can := rfl
@[simp] theorem modLoop_sbk (s : State) (n : Nat) (f : Loop → Loop) : (modLoop s n f).sbk = s.sbk := rfl
@[simp] theorem modLoop_pnl (s : State) (n : Nat) (f : Loop → Loop) : (modLoop s n f).pnl = s.pnl := rfl
@[simp] theorem modLoop_tru (s : State) (n : Nat) (f : Loop → Loop) : (modLoop s n f).tru = s.tru := rfl
@[simp] theorem modLoop_sup (s : State) (n : Nat) (f : Loop → Loop) : (modLoop s n f).sup = s.sup := rfl

@[simp] theorem setPort_pending (s : State) (p : Nat) (x : CanPort) : (setPort s p x).pending = s.pending := rfl
@[simp] theorem setPort_regs (s : State) (p : Nat) (x : CanPort) : (setPort s p x).regs = s.regs := rfl
@[simp] theorem setPort_active (s : State) (p : Nat) (x : CanPort) : (setPort s p x).active = s.active := rfl
@[simp] theorem setPort_staged (s : State) (p : Nat) (x : CanPort) : (setPort s p x).staged = s.staged := rfl
@[simp] theorem setPort_ctrs (s : State) (p : Nat) (x : CanPort) : (setPort s p x).ctrs = s.ctrs := rfl
@[simp] theorem setPort_snaps (s : State) (p : Nat) (x : CanPort) : (setPort s p x).snaps = s.snaps := rfl
@[simp] theorem setPort_free (s : State) (p : Nat) (x : CanPort) : (setPort s p x).free = s.free := rfl
@[simp] theorem setPort_now (s : State) (p : Nat) (x : CanPort) : (setPort s p x).now = s.now := rfl
@[simp] theorem setPort_own (s : State) (p : Nat) (x : CanPort) : (setPort s p x).own = s.own := rfl
@[simp] theorem setPort_exe (s : State) (p : Nat) (x : CanPort) : (setPort s p x).exe = s.exe := rfl
@[simp] theorem setPort_hz (s : State) (p : Nat) (x : CanPort) : (setPort s p x).hz = s.hz := rfl
@[simp] theorem setPort_fch (s : State) (p : Nat) (x : CanPort) : (setPort s p x).fch = s.fch := rfl
@[simp] theorem setPort_grd (s : State) (p : Nat) (x : CanPort) : (setPort s p x).grd = s.grd := rfl
@[simp] theorem setPort_gmu (s : State) (p : Nat) (x : CanPort) : (setPort s p x).gmu = s.gmu := rfl
@[simp] theorem setPort_wnt (s : State) (p : Nat) (x : CanPort) : (setPort s p x).wnt = s.wnt := rfl
@[simp] theorem setPort_pair (s : State) (p : Nat) (x : CanPort) : (setPort s p x).pair = s.pair := rfl
@[simp] theorem setPort_mem (s : State) (p : Nat) (x : CanPort) : (setPort s p x).mem = s.mem := rfl
@[simp] theorem setPort_spr (s : State) (p : Nat) (x : CanPort) : (setPort s p x).spr = s.spr := rfl
@[simp] theorem setPort_cmd (s : State) (p : Nat) (x : CanPort) : (setPort s p x).cmd = s.cmd := rfl
@[simp] theorem setPort_net (s : State) (p : Nat) (x : CanPort) : (setPort s p x).net = s.net := rfl
@[simp] theorem setPort_sbk (s : State) (p : Nat) (x : CanPort) : (setPort s p x).sbk = s.sbk := rfl
@[simp] theorem setPort_pnl (s : State) (p : Nat) (x : CanPort) : (setPort s p x).pnl = s.pnl := rfl
@[simp] theorem setPort_tru (s : State) (p : Nat) (x : CanPort) : (setPort s p x).tru = s.tru := rfl
@[simp] theorem setPort_sup (s : State) (p : Nat) (x : CanPort) : (setPort s p x).sup = s.sup := rfl

@[simp] theorem modPort_pending (s : State) (p : Nat) (f : CanPort → CanPort) : (modPort s p f).pending = s.pending := rfl
@[simp] theorem modPort_regs (s : State) (p : Nat) (f : CanPort → CanPort) : (modPort s p f).regs = s.regs := rfl
@[simp] theorem modPort_active (s : State) (p : Nat) (f : CanPort → CanPort) : (modPort s p f).active = s.active := rfl
@[simp] theorem modPort_staged (s : State) (p : Nat) (f : CanPort → CanPort) : (modPort s p f).staged = s.staged := rfl
@[simp] theorem modPort_ctrs (s : State) (p : Nat) (f : CanPort → CanPort) : (modPort s p f).ctrs = s.ctrs := rfl
@[simp] theorem modPort_snaps (s : State) (p : Nat) (f : CanPort → CanPort) : (modPort s p f).snaps = s.snaps := rfl
@[simp] theorem modPort_free (s : State) (p : Nat) (f : CanPort → CanPort) : (modPort s p f).free = s.free := rfl
@[simp] theorem modPort_now (s : State) (p : Nat) (f : CanPort → CanPort) : (modPort s p f).now = s.now := rfl
@[simp] theorem modPort_own (s : State) (p : Nat) (f : CanPort → CanPort) : (modPort s p f).own = s.own := rfl
@[simp] theorem modPort_exe (s : State) (p : Nat) (f : CanPort → CanPort) : (modPort s p f).exe = s.exe := rfl
@[simp] theorem modPort_hz (s : State) (p : Nat) (f : CanPort → CanPort) : (modPort s p f).hz = s.hz := rfl
@[simp] theorem modPort_fch (s : State) (p : Nat) (f : CanPort → CanPort) : (modPort s p f).fch = s.fch := rfl
@[simp] theorem modPort_grd (s : State) (p : Nat) (f : CanPort → CanPort) : (modPort s p f).grd = s.grd := rfl
@[simp] theorem modPort_gmu (s : State) (p : Nat) (f : CanPort → CanPort) : (modPort s p f).gmu = s.gmu := rfl
@[simp] theorem modPort_wnt (s : State) (p : Nat) (f : CanPort → CanPort) : (modPort s p f).wnt = s.wnt := rfl
@[simp] theorem modPort_pair (s : State) (p : Nat) (f : CanPort → CanPort) : (modPort s p f).pair = s.pair := rfl
@[simp] theorem modPort_mem (s : State) (p : Nat) (f : CanPort → CanPort) : (modPort s p f).mem = s.mem := rfl
@[simp] theorem modPort_spr (s : State) (p : Nat) (f : CanPort → CanPort) : (modPort s p f).spr = s.spr := rfl
@[simp] theorem modPort_cmd (s : State) (p : Nat) (f : CanPort → CanPort) : (modPort s p f).cmd = s.cmd := rfl
@[simp] theorem modPort_net (s : State) (p : Nat) (f : CanPort → CanPort) : (modPort s p f).net = s.net := rfl
@[simp] theorem modPort_sbk (s : State) (p : Nat) (f : CanPort → CanPort) : (modPort s p f).sbk = s.sbk := rfl
@[simp] theorem modPort_pnl (s : State) (p : Nat) (f : CanPort → CanPort) : (modPort s p f).pnl = s.pnl := rfl
@[simp] theorem modPort_tru (s : State) (p : Nat) (f : CanPort → CanPort) : (modPort s p f).tru = s.tru := rfl
@[simp] theorem modPort_sup (s : State) (p : Nat) (f : CanPort → CanPort) : (modPort s p f).sup = s.sup := rfl

@[simp] theorem setNetPort_pending (s : State) (p : Nat) (x : NetPort) : (setNetPort s p x).pending = s.pending := rfl
@[simp] theorem setNetPort_regs (s : State) (p : Nat) (x : NetPort) : (setNetPort s p x).regs = s.regs := rfl
@[simp] theorem setNetPort_active (s : State) (p : Nat) (x : NetPort) : (setNetPort s p x).active = s.active := rfl
@[simp] theorem setNetPort_staged (s : State) (p : Nat) (x : NetPort) : (setNetPort s p x).staged = s.staged := rfl
@[simp] theorem setNetPort_ctrs (s : State) (p : Nat) (x : NetPort) : (setNetPort s p x).ctrs = s.ctrs := rfl
@[simp] theorem setNetPort_snaps (s : State) (p : Nat) (x : NetPort) : (setNetPort s p x).snaps = s.snaps := rfl
@[simp] theorem setNetPort_free (s : State) (p : Nat) (x : NetPort) : (setNetPort s p x).free = s.free := rfl
@[simp] theorem setNetPort_now (s : State) (p : Nat) (x : NetPort) : (setNetPort s p x).now = s.now := rfl
@[simp] theorem setNetPort_own (s : State) (p : Nat) (x : NetPort) : (setNetPort s p x).own = s.own := rfl
@[simp] theorem setNetPort_exe (s : State) (p : Nat) (x : NetPort) : (setNetPort s p x).exe = s.exe := rfl
@[simp] theorem setNetPort_hz (s : State) (p : Nat) (x : NetPort) : (setNetPort s p x).hz = s.hz := rfl
@[simp] theorem setNetPort_fch (s : State) (p : Nat) (x : NetPort) : (setNetPort s p x).fch = s.fch := rfl
@[simp] theorem setNetPort_grd (s : State) (p : Nat) (x : NetPort) : (setNetPort s p x).grd = s.grd := rfl
@[simp] theorem setNetPort_gmu (s : State) (p : Nat) (x : NetPort) : (setNetPort s p x).gmu = s.gmu := rfl
@[simp] theorem setNetPort_wnt (s : State) (p : Nat) (x : NetPort) : (setNetPort s p x).wnt = s.wnt := rfl
@[simp] theorem setNetPort_pair (s : State) (p : Nat) (x : NetPort) : (setNetPort s p x).pair = s.pair := rfl
@[simp] theorem setNetPort_mem (s : State) (p : Nat) (x : NetPort) : (setNetPort s p x).mem = s.mem := rfl
@[simp] theorem setNetPort_spr (s : State) (p : Nat) (x : NetPort) : (setNetPort s p x).spr = s.spr := rfl
@[simp] theorem setNetPort_cmd (s : State) (p : Nat) (x : NetPort) : (setNetPort s p x).cmd = s.cmd := rfl
@[simp] theorem setNetPort_can (s : State) (p : Nat) (x : NetPort) : (setNetPort s p x).can = s.can := rfl
@[simp] theorem setNetPort_sbk (s : State) (p : Nat) (x : NetPort) : (setNetPort s p x).sbk = s.sbk := rfl
@[simp] theorem setNetPort_pnl (s : State) (p : Nat) (x : NetPort) : (setNetPort s p x).pnl = s.pnl := rfl
@[simp] theorem setNetPort_tru (s : State) (p : Nat) (x : NetPort) : (setNetPort s p x).tru = s.tru := rfl
@[simp] theorem setNetPort_sup (s : State) (p : Nat) (x : NetPort) : (setNetPort s p x).sup = s.sup := rfl

@[simp] theorem modNet_pending (s : State) (p : Nat) (f : NetPort → NetPort) : (modNet s p f).pending = s.pending := rfl
@[simp] theorem modNet_regs (s : State) (p : Nat) (f : NetPort → NetPort) : (modNet s p f).regs = s.regs := rfl
@[simp] theorem modNet_active (s : State) (p : Nat) (f : NetPort → NetPort) : (modNet s p f).active = s.active := rfl
@[simp] theorem modNet_staged (s : State) (p : Nat) (f : NetPort → NetPort) : (modNet s p f).staged = s.staged := rfl
@[simp] theorem modNet_ctrs (s : State) (p : Nat) (f : NetPort → NetPort) : (modNet s p f).ctrs = s.ctrs := rfl
@[simp] theorem modNet_snaps (s : State) (p : Nat) (f : NetPort → NetPort) : (modNet s p f).snaps = s.snaps := rfl
@[simp] theorem modNet_free (s : State) (p : Nat) (f : NetPort → NetPort) : (modNet s p f).free = s.free := rfl
@[simp] theorem modNet_now (s : State) (p : Nat) (f : NetPort → NetPort) : (modNet s p f).now = s.now := rfl
@[simp] theorem modNet_own (s : State) (p : Nat) (f : NetPort → NetPort) : (modNet s p f).own = s.own := rfl
@[simp] theorem modNet_exe (s : State) (p : Nat) (f : NetPort → NetPort) : (modNet s p f).exe = s.exe := rfl
@[simp] theorem modNet_hz (s : State) (p : Nat) (f : NetPort → NetPort) : (modNet s p f).hz = s.hz := rfl
@[simp] theorem modNet_fch (s : State) (p : Nat) (f : NetPort → NetPort) : (modNet s p f).fch = s.fch := rfl
@[simp] theorem modNet_grd (s : State) (p : Nat) (f : NetPort → NetPort) : (modNet s p f).grd = s.grd := rfl
@[simp] theorem modNet_gmu (s : State) (p : Nat) (f : NetPort → NetPort) : (modNet s p f).gmu = s.gmu := rfl
@[simp] theorem modNet_wnt (s : State) (p : Nat) (f : NetPort → NetPort) : (modNet s p f).wnt = s.wnt := rfl
@[simp] theorem modNet_pair (s : State) (p : Nat) (f : NetPort → NetPort) : (modNet s p f).pair = s.pair := rfl
@[simp] theorem modNet_mem (s : State) (p : Nat) (f : NetPort → NetPort) : (modNet s p f).mem = s.mem := rfl
@[simp] theorem modNet_spr (s : State) (p : Nat) (f : NetPort → NetPort) : (modNet s p f).spr = s.spr := rfl
@[simp] theorem modNet_cmd (s : State) (p : Nat) (f : NetPort → NetPort) : (modNet s p f).cmd = s.cmd := rfl
@[simp] theorem modNet_can (s : State) (p : Nat) (f : NetPort → NetPort) : (modNet s p f).can = s.can := rfl
@[simp] theorem modNet_sbk (s : State) (p : Nat) (f : NetPort → NetPort) : (modNet s p f).sbk = s.sbk := rfl
@[simp] theorem modNet_pnl (s : State) (p : Nat) (f : NetPort → NetPort) : (modNet s p f).pnl = s.pnl := rfl
@[simp] theorem modNet_tru (s : State) (p : Nat) (f : NetPort → NetPort) : (modNet s p f).tru = s.tru := rfl
@[simp] theorem modNet_sup (s : State) (p : Nat) (f : NetPort → NetPort) : (modNet s p f).sup = s.sup := rfl

@[simp] theorem setRegion_pending (s : State) (r : Nat) (x : MemRegion) : (setRegion s r x).pending = s.pending := rfl
@[simp] theorem setRegion_regs (s : State) (r : Nat) (x : MemRegion) : (setRegion s r x).regs = s.regs := rfl
@[simp] theorem setRegion_active (s : State) (r : Nat) (x : MemRegion) : (setRegion s r x).active = s.active := rfl
@[simp] theorem setRegion_staged (s : State) (r : Nat) (x : MemRegion) : (setRegion s r x).staged = s.staged := rfl
@[simp] theorem setRegion_ctrs (s : State) (r : Nat) (x : MemRegion) : (setRegion s r x).ctrs = s.ctrs := rfl
@[simp] theorem setRegion_snaps (s : State) (r : Nat) (x : MemRegion) : (setRegion s r x).snaps = s.snaps := rfl
@[simp] theorem setRegion_free (s : State) (r : Nat) (x : MemRegion) : (setRegion s r x).free = s.free := rfl
@[simp] theorem setRegion_now (s : State) (r : Nat) (x : MemRegion) : (setRegion s r x).now = s.now := rfl
@[simp] theorem setRegion_own (s : State) (r : Nat) (x : MemRegion) : (setRegion s r x).own = s.own := rfl
@[simp] theorem setRegion_exe (s : State) (r : Nat) (x : MemRegion) : (setRegion s r x).exe = s.exe := rfl
@[simp] theorem setRegion_hz (s : State) (r : Nat) (x : MemRegion) : (setRegion s r x).hz = s.hz := rfl
@[simp] theorem setRegion_fch (s : State) (r : Nat) (x : MemRegion) : (setRegion s r x).fch = s.fch := rfl
@[simp] theorem setRegion_grd (s : State) (r : Nat) (x : MemRegion) : (setRegion s r x).grd = s.grd := rfl
@[simp] theorem setRegion_gmu (s : State) (r : Nat) (x : MemRegion) : (setRegion s r x).gmu = s.gmu := rfl
@[simp] theorem setRegion_wnt (s : State) (r : Nat) (x : MemRegion) : (setRegion s r x).wnt = s.wnt := rfl
@[simp] theorem setRegion_pair (s : State) (r : Nat) (x : MemRegion) : (setRegion s r x).pair = s.pair := rfl
@[simp] theorem setRegion_spr (s : State) (r : Nat) (x : MemRegion) : (setRegion s r x).spr = s.spr := rfl
@[simp] theorem setRegion_cmd (s : State) (r : Nat) (x : MemRegion) : (setRegion s r x).cmd = s.cmd := rfl
@[simp] theorem setRegion_net (s : State) (r : Nat) (x : MemRegion) : (setRegion s r x).net = s.net := rfl
@[simp] theorem setRegion_can (s : State) (r : Nat) (x : MemRegion) : (setRegion s r x).can = s.can := rfl
@[simp] theorem setRegion_sbk (s : State) (r : Nat) (x : MemRegion) : (setRegion s r x).sbk = s.sbk := rfl
@[simp] theorem setRegion_pnl (s : State) (r : Nat) (x : MemRegion) : (setRegion s r x).pnl = s.pnl := rfl
@[simp] theorem setRegion_tru (s : State) (r : Nat) (x : MemRegion) : (setRegion s r x).tru = s.tru := rfl
@[simp] theorem setRegion_sup (s : State) (r : Nat) (x : MemRegion) : (setRegion s r x).sup = s.sup := rfl

@[simp] theorem setMemWord_pending (s : State) (k : Nat) (w : List Byte) : (setMemWord s k w).pending = s.pending := rfl
@[simp] theorem setMemWord_regs (s : State) (k : Nat) (w : List Byte) : (setMemWord s k w).regs = s.regs := rfl
@[simp] theorem setMemWord_active (s : State) (k : Nat) (w : List Byte) : (setMemWord s k w).active = s.active := rfl
@[simp] theorem setMemWord_staged (s : State) (k : Nat) (w : List Byte) : (setMemWord s k w).staged = s.staged := rfl
@[simp] theorem setMemWord_ctrs (s : State) (k : Nat) (w : List Byte) : (setMemWord s k w).ctrs = s.ctrs := rfl
@[simp] theorem setMemWord_snaps (s : State) (k : Nat) (w : List Byte) : (setMemWord s k w).snaps = s.snaps := rfl
@[simp] theorem setMemWord_free (s : State) (k : Nat) (w : List Byte) : (setMemWord s k w).free = s.free := rfl
@[simp] theorem setMemWord_now (s : State) (k : Nat) (w : List Byte) : (setMemWord s k w).now = s.now := rfl
@[simp] theorem setMemWord_own (s : State) (k : Nat) (w : List Byte) : (setMemWord s k w).own = s.own := rfl
@[simp] theorem setMemWord_exe (s : State) (k : Nat) (w : List Byte) : (setMemWord s k w).exe = s.exe := rfl
@[simp] theorem setMemWord_hz (s : State) (k : Nat) (w : List Byte) : (setMemWord s k w).hz = s.hz := rfl
@[simp] theorem setMemWord_fch (s : State) (k : Nat) (w : List Byte) : (setMemWord s k w).fch = s.fch := rfl
@[simp] theorem setMemWord_grd (s : State) (k : Nat) (w : List Byte) : (setMemWord s k w).grd = s.grd := rfl
@[simp] theorem setMemWord_gmu (s : State) (k : Nat) (w : List Byte) : (setMemWord s k w).gmu = s.gmu := rfl
@[simp] theorem setMemWord_wnt (s : State) (k : Nat) (w : List Byte) : (setMemWord s k w).wnt = s.wnt := rfl
@[simp] theorem setMemWord_pair (s : State) (k : Nat) (w : List Byte) : (setMemWord s k w).pair = s.pair := rfl
@[simp] theorem setMemWord_spr (s : State) (k : Nat) (w : List Byte) : (setMemWord s k w).spr = s.spr := rfl
@[simp] theorem setMemWord_cmd (s : State) (k : Nat) (w : List Byte) : (setMemWord s k w).cmd = s.cmd := rfl
@[simp] theorem setMemWord_net (s : State) (k : Nat) (w : List Byte) : (setMemWord s k w).net = s.net := rfl
@[simp] theorem setMemWord_can (s : State) (k : Nat) (w : List Byte) : (setMemWord s k w).can = s.can := rfl
@[simp] theorem setMemWord_sbk (s : State) (k : Nat) (w : List Byte) : (setMemWord s k w).sbk = s.sbk := rfl
@[simp] theorem setMemWord_pnl (s : State) (k : Nat) (w : List Byte) : (setMemWord s k w).pnl = s.pnl := rfl
@[simp] theorem setMemWord_tru (s : State) (k : Nat) (w : List Byte) : (setMemWord s k w).tru = s.tru := rfl
@[simp] theorem setMemWord_sup (s : State) (k : Nat) (w : List Byte) : (setMemWord s k w).sup = s.sup := rfl

@[simp] theorem mramSet_pending (s : State) (k : Nat) (d : List Nat) : (mramSet s k d).pending = s.pending := rfl
@[simp] theorem mramSet_regs (s : State) (k : Nat) (d : List Nat) : (mramSet s k d).regs = s.regs := rfl
@[simp] theorem mramSet_active (s : State) (k : Nat) (d : List Nat) : (mramSet s k d).active = s.active := rfl
@[simp] theorem mramSet_staged (s : State) (k : Nat) (d : List Nat) : (mramSet s k d).staged = s.staged := rfl
@[simp] theorem mramSet_ctrs (s : State) (k : Nat) (d : List Nat) : (mramSet s k d).ctrs = s.ctrs := rfl
@[simp] theorem mramSet_snaps (s : State) (k : Nat) (d : List Nat) : (mramSet s k d).snaps = s.snaps := rfl
@[simp] theorem mramSet_free (s : State) (k : Nat) (d : List Nat) : (mramSet s k d).free = s.free := rfl
@[simp] theorem mramSet_now (s : State) (k : Nat) (d : List Nat) : (mramSet s k d).now = s.now := rfl
@[simp] theorem mramSet_own (s : State) (k : Nat) (d : List Nat) : (mramSet s k d).own = s.own := rfl
@[simp] theorem mramSet_exe (s : State) (k : Nat) (d : List Nat) : (mramSet s k d).exe = s.exe := rfl
@[simp] theorem mramSet_hz (s : State) (k : Nat) (d : List Nat) : (mramSet s k d).hz = s.hz := rfl
@[simp] theorem mramSet_fch (s : State) (k : Nat) (d : List Nat) : (mramSet s k d).fch = s.fch := rfl
@[simp] theorem mramSet_grd (s : State) (k : Nat) (d : List Nat) : (mramSet s k d).grd = s.grd := rfl
@[simp] theorem mramSet_gmu (s : State) (k : Nat) (d : List Nat) : (mramSet s k d).gmu = s.gmu := rfl
@[simp] theorem mramSet_wnt (s : State) (k : Nat) (d : List Nat) : (mramSet s k d).wnt = s.wnt := rfl
@[simp] theorem mramSet_pair (s : State) (k : Nat) (d : List Nat) : (mramSet s k d).pair = s.pair := rfl
@[simp] theorem mramSet_spr (s : State) (k : Nat) (d : List Nat) : (mramSet s k d).spr = s.spr := rfl
@[simp] theorem mramSet_cmd (s : State) (k : Nat) (d : List Nat) : (mramSet s k d).cmd = s.cmd := rfl
@[simp] theorem mramSet_net (s : State) (k : Nat) (d : List Nat) : (mramSet s k d).net = s.net := rfl
@[simp] theorem mramSet_can (s : State) (k : Nat) (d : List Nat) : (mramSet s k d).can = s.can := rfl
@[simp] theorem mramSet_sbk (s : State) (k : Nat) (d : List Nat) : (mramSet s k d).sbk = s.sbk := rfl
@[simp] theorem mramSet_pnl (s : State) (k : Nat) (d : List Nat) : (mramSet s k d).pnl = s.pnl := rfl
@[simp] theorem mramSet_tru (s : State) (k : Nat) (d : List Nat) : (mramSet s k d).tru = s.tru := rfl
@[simp] theorem mramSet_sup (s : State) (k : Nat) (d : List Nat) : (mramSet s k d).sup = s.sup := rfl

@[simp] theorem setTrig_pending (s : State) (k : Nat) (x : Trig) : (setTrig s k x).pending = s.pending := rfl
@[simp] theorem setTrig_regs (s : State) (k : Nat) (x : Trig) : (setTrig s k x).regs = s.regs := rfl
@[simp] theorem setTrig_active (s : State) (k : Nat) (x : Trig) : (setTrig s k x).active = s.active := rfl
@[simp] theorem setTrig_staged (s : State) (k : Nat) (x : Trig) : (setTrig s k x).staged = s.staged := rfl
@[simp] theorem setTrig_ctrs (s : State) (k : Nat) (x : Trig) : (setTrig s k x).ctrs = s.ctrs := rfl
@[simp] theorem setTrig_snaps (s : State) (k : Nat) (x : Trig) : (setTrig s k x).snaps = s.snaps := rfl
@[simp] theorem setTrig_free (s : State) (k : Nat) (x : Trig) : (setTrig s k x).free = s.free := rfl
@[simp] theorem setTrig_now (s : State) (k : Nat) (x : Trig) : (setTrig s k x).now = s.now := rfl
@[simp] theorem setTrig_own (s : State) (k : Nat) (x : Trig) : (setTrig s k x).own = s.own := rfl
@[simp] theorem setTrig_exe (s : State) (k : Nat) (x : Trig) : (setTrig s k x).exe = s.exe := rfl
@[simp] theorem setTrig_hz (s : State) (k : Nat) (x : Trig) : (setTrig s k x).hz = s.hz := rfl
@[simp] theorem setTrig_fch (s : State) (k : Nat) (x : Trig) : (setTrig s k x).fch = s.fch := rfl
@[simp] theorem setTrig_grd (s : State) (k : Nat) (x : Trig) : (setTrig s k x).grd = s.grd := rfl
@[simp] theorem setTrig_wnt (s : State) (k : Nat) (x : Trig) : (setTrig s k x).wnt = s.wnt := rfl
@[simp] theorem setTrig_pair (s : State) (k : Nat) (x : Trig) : (setTrig s k x).pair = s.pair := rfl
@[simp] theorem setTrig_mem (s : State) (k : Nat) (x : Trig) : (setTrig s k x).mem = s.mem := rfl
@[simp] theorem setTrig_spr (s : State) (k : Nat) (x : Trig) : (setTrig s k x).spr = s.spr := rfl
@[simp] theorem setTrig_cmd (s : State) (k : Nat) (x : Trig) : (setTrig s k x).cmd = s.cmd := rfl
@[simp] theorem setTrig_net (s : State) (k : Nat) (x : Trig) : (setTrig s k x).net = s.net := rfl
@[simp] theorem setTrig_can (s : State) (k : Nat) (x : Trig) : (setTrig s k x).can = s.can := rfl
@[simp] theorem setTrig_sbk (s : State) (k : Nat) (x : Trig) : (setTrig s k x).sbk = s.sbk := rfl
@[simp] theorem setTrig_pnl (s : State) (k : Nat) (x : Trig) : (setTrig s k x).pnl = s.pnl := rfl
@[simp] theorem setTrig_tru (s : State) (k : Nat) (x : Trig) : (setTrig s k x).tru = s.tru := rfl
@[simp] theorem setTrig_sup (s : State) (k : Nat) (x : Trig) : (setTrig s k x).sup = s.sup := rfl

@[simp] theorem modSync_pending (s : State) (f : Sync → Sync) : (modSync s f).pending = s.pending := rfl
@[simp] theorem modSync_regs (s : State) (f : Sync → Sync) : (modSync s f).regs = s.regs := rfl
@[simp] theorem modSync_active (s : State) (f : Sync → Sync) : (modSync s f).active = s.active := rfl
@[simp] theorem modSync_staged (s : State) (f : Sync → Sync) : (modSync s f).staged = s.staged := rfl
@[simp] theorem modSync_ctrs (s : State) (f : Sync → Sync) : (modSync s f).ctrs = s.ctrs := rfl
@[simp] theorem modSync_snaps (s : State) (f : Sync → Sync) : (modSync s f).snaps = s.snaps := rfl
@[simp] theorem modSync_free (s : State) (f : Sync → Sync) : (modSync s f).free = s.free := rfl
@[simp] theorem modSync_now (s : State) (f : Sync → Sync) : (modSync s f).now = s.now := rfl
@[simp] theorem modSync_own (s : State) (f : Sync → Sync) : (modSync s f).own = s.own := rfl
@[simp] theorem modSync_exe (s : State) (f : Sync → Sync) : (modSync s f).exe = s.exe := rfl
@[simp] theorem modSync_hz (s : State) (f : Sync → Sync) : (modSync s f).hz = s.hz := rfl
@[simp] theorem modSync_fch (s : State) (f : Sync → Sync) : (modSync s f).fch = s.fch := rfl
@[simp] theorem modSync_grd (s : State) (f : Sync → Sync) : (modSync s f).grd = s.grd := rfl
@[simp] theorem modSync_wnt (s : State) (f : Sync → Sync) : (modSync s f).wnt = s.wnt := rfl
@[simp] theorem modSync_pair (s : State) (f : Sync → Sync) : (modSync s f).pair = s.pair := rfl
@[simp] theorem modSync_mem (s : State) (f : Sync → Sync) : (modSync s f).mem = s.mem := rfl
@[simp] theorem modSync_spr (s : State) (f : Sync → Sync) : (modSync s f).spr = s.spr := rfl
@[simp] theorem modSync_cmd (s : State) (f : Sync → Sync) : (modSync s f).cmd = s.cmd := rfl
@[simp] theorem modSync_net (s : State) (f : Sync → Sync) : (modSync s f).net = s.net := rfl
@[simp] theorem modSync_can (s : State) (f : Sync → Sync) : (modSync s f).can = s.can := rfl
@[simp] theorem modSync_sbk (s : State) (f : Sync → Sync) : (modSync s f).sbk = s.sbk := rfl
@[simp] theorem modSync_pnl (s : State) (f : Sync → Sync) : (modSync s f).pnl = s.pnl := rfl
@[simp] theorem modSync_tru (s : State) (f : Sync → Sync) : (modSync s f).tru = s.tru := rfl
@[simp] theorem modSync_sup (s : State) (f : Sync → Sync) : (modSync s f).sup = s.sup := rfl

@[simp] theorem setClaim_pending (s : State) (k : Nat) (x : FieldClaim) : (setClaim s k x).pending = s.pending := rfl
@[simp] theorem setClaim_regs (s : State) (k : Nat) (x : FieldClaim) : (setClaim s k x).regs = s.regs := rfl
@[simp] theorem setClaim_active (s : State) (k : Nat) (x : FieldClaim) : (setClaim s k x).active = s.active := rfl
@[simp] theorem setClaim_staged (s : State) (k : Nat) (x : FieldClaim) : (setClaim s k x).staged = s.staged := rfl
@[simp] theorem setClaim_ctrs (s : State) (k : Nat) (x : FieldClaim) : (setClaim s k x).ctrs = s.ctrs := rfl
@[simp] theorem setClaim_snaps (s : State) (k : Nat) (x : FieldClaim) : (setClaim s k x).snaps = s.snaps := rfl
@[simp] theorem setClaim_free (s : State) (k : Nat) (x : FieldClaim) : (setClaim s k x).free = s.free := rfl
@[simp] theorem setClaim_now (s : State) (k : Nat) (x : FieldClaim) : (setClaim s k x).now = s.now := rfl
@[simp] theorem setClaim_own (s : State) (k : Nat) (x : FieldClaim) : (setClaim s k x).own = s.own := rfl
@[simp] theorem setClaim_exe (s : State) (k : Nat) (x : FieldClaim) : (setClaim s k x).exe = s.exe := rfl
@[simp] theorem setClaim_hz (s : State) (k : Nat) (x : FieldClaim) : (setClaim s k x).hz = s.hz := rfl
@[simp] theorem setClaim_fch (s : State) (k : Nat) (x : FieldClaim) : (setClaim s k x).fch = s.fch := rfl
@[simp] theorem setClaim_gmu (s : State) (k : Nat) (x : FieldClaim) : (setClaim s k x).gmu = s.gmu := rfl
@[simp] theorem setClaim_wnt (s : State) (k : Nat) (x : FieldClaim) : (setClaim s k x).wnt = s.wnt := rfl
@[simp] theorem setClaim_pair (s : State) (k : Nat) (x : FieldClaim) : (setClaim s k x).pair = s.pair := rfl
@[simp] theorem setClaim_mem (s : State) (k : Nat) (x : FieldClaim) : (setClaim s k x).mem = s.mem := rfl
@[simp] theorem setClaim_spr (s : State) (k : Nat) (x : FieldClaim) : (setClaim s k x).spr = s.spr := rfl
@[simp] theorem setClaim_cmd (s : State) (k : Nat) (x : FieldClaim) : (setClaim s k x).cmd = s.cmd := rfl
@[simp] theorem setClaim_net (s : State) (k : Nat) (x : FieldClaim) : (setClaim s k x).net = s.net := rfl
@[simp] theorem setClaim_can (s : State) (k : Nat) (x : FieldClaim) : (setClaim s k x).can = s.can := rfl
@[simp] theorem setClaim_sbk (s : State) (k : Nat) (x : FieldClaim) : (setClaim s k x).sbk = s.sbk := rfl
@[simp] theorem setClaim_pnl (s : State) (k : Nat) (x : FieldClaim) : (setClaim s k x).pnl = s.pnl := rfl
@[simp] theorem setClaim_tru (s : State) (k : Nat) (x : FieldClaim) : (setClaim s k x).tru = s.tru := rfl
@[simp] theorem setClaim_sup (s : State) (k : Nat) (x : FieldClaim) : (setClaim s k x).sup = s.sup := rfl

@[simp] theorem setGroupBudget_pending (s : State) (g : Nat) (x : GroupBudget) : (setGroupBudget s g x).pending = s.pending := rfl
@[simp] theorem setGroupBudget_regs (s : State) (g : Nat) (x : GroupBudget) : (setGroupBudget s g x).regs = s.regs := rfl
@[simp] theorem setGroupBudget_active (s : State) (g : Nat) (x : GroupBudget) : (setGroupBudget s g x).active = s.active := rfl
@[simp] theorem setGroupBudget_staged (s : State) (g : Nat) (x : GroupBudget) : (setGroupBudget s g x).staged = s.staged := rfl
@[simp] theorem setGroupBudget_ctrs (s : State) (g : Nat) (x : GroupBudget) : (setGroupBudget s g x).ctrs = s.ctrs := rfl
@[simp] theorem setGroupBudget_snaps (s : State) (g : Nat) (x : GroupBudget) : (setGroupBudget s g x).snaps = s.snaps := rfl
@[simp] theorem setGroupBudget_free (s : State) (g : Nat) (x : GroupBudget) : (setGroupBudget s g x).free = s.free := rfl
@[simp] theorem setGroupBudget_now (s : State) (g : Nat) (x : GroupBudget) : (setGroupBudget s g x).now = s.now := rfl
@[simp] theorem setGroupBudget_own (s : State) (g : Nat) (x : GroupBudget) : (setGroupBudget s g x).own = s.own := rfl
@[simp] theorem setGroupBudget_exe (s : State) (g : Nat) (x : GroupBudget) : (setGroupBudget s g x).exe = s.exe := rfl
@[simp] theorem setGroupBudget_hz (s : State) (g : Nat) (x : GroupBudget) : (setGroupBudget s g x).hz = s.hz := rfl
@[simp] theorem setGroupBudget_fch (s : State) (g : Nat) (x : GroupBudget) : (setGroupBudget s g x).fch = s.fch := rfl
@[simp] theorem setGroupBudget_gmu (s : State) (g : Nat) (x : GroupBudget) : (setGroupBudget s g x).gmu = s.gmu := rfl
@[simp] theorem setGroupBudget_wnt (s : State) (g : Nat) (x : GroupBudget) : (setGroupBudget s g x).wnt = s.wnt := rfl
@[simp] theorem setGroupBudget_pair (s : State) (g : Nat) (x : GroupBudget) : (setGroupBudget s g x).pair = s.pair := rfl
@[simp] theorem setGroupBudget_mem (s : State) (g : Nat) (x : GroupBudget) : (setGroupBudget s g x).mem = s.mem := rfl
@[simp] theorem setGroupBudget_spr (s : State) (g : Nat) (x : GroupBudget) : (setGroupBudget s g x).spr = s.spr := rfl
@[simp] theorem setGroupBudget_cmd (s : State) (g : Nat) (x : GroupBudget) : (setGroupBudget s g x).cmd = s.cmd := rfl
@[simp] theorem setGroupBudget_net (s : State) (g : Nat) (x : GroupBudget) : (setGroupBudget s g x).net = s.net := rfl
@[simp] theorem setGroupBudget_can (s : State) (g : Nat) (x : GroupBudget) : (setGroupBudget s g x).can = s.can := rfl
@[simp] theorem setGroupBudget_sbk (s : State) (g : Nat) (x : GroupBudget) : (setGroupBudget s g x).sbk = s.sbk := rfl
@[simp] theorem setGroupBudget_pnl (s : State) (g : Nat) (x : GroupBudget) : (setGroupBudget s g x).pnl = s.pnl := rfl
@[simp] theorem setGroupBudget_tru (s : State) (g : Nat) (x : GroupBudget) : (setGroupBudget s g x).tru = s.tru := rfl
@[simp] theorem setGroupBudget_sup (s : State) (g : Nat) (x : GroupBudget) : (setGroupBudget s g x).sup = s.sup := rfl

@[simp] theorem freeNext_pending (s : State) : (freeNext s).pending = s.pending := rfl
@[simp] theorem freeNext_regs (s : State) : (freeNext s).regs = s.regs := rfl
@[simp] theorem freeNext_active (s : State) : (freeNext s).active = s.active := rfl
@[simp] theorem freeNext_staged (s : State) : (freeNext s).staged = s.staged := rfl
@[simp] theorem freeNext_ctrs (s : State) : (freeNext s).ctrs = s.ctrs := rfl
@[simp] theorem freeNext_snaps (s : State) : (freeNext s).snaps = s.snaps := rfl
@[simp] theorem freeNext_now (s : State) : (freeNext s).now = s.now := rfl
@[simp] theorem freeNext_own (s : State) : (freeNext s).own = s.own := rfl
@[simp] theorem freeNext_exe (s : State) : (freeNext s).exe = s.exe := rfl
@[simp] theorem freeNext_hz (s : State) : (freeNext s).hz = s.hz := rfl
@[simp] theorem freeNext_fch (s : State) : (freeNext s).fch = s.fch := rfl
@[simp] theorem freeNext_grd (s : State) : (freeNext s).grd = s.grd := rfl
@[simp] theorem freeNext_gmu (s : State) : (freeNext s).gmu = s.gmu := rfl
@[simp] theorem freeNext_wnt (s : State) : (freeNext s).wnt = s.wnt := rfl
@[simp] theorem freeNext_pair (s : State) : (freeNext s).pair = s.pair := rfl
@[simp] theorem freeNext_mem (s : State) : (freeNext s).mem = s.mem := rfl
@[simp] theorem freeNext_spr (s : State) : (freeNext s).spr = s.spr := rfl
@[simp] theorem freeNext_cmd (s : State) : (freeNext s).cmd = s.cmd := rfl
@[simp] theorem freeNext_net (s : State) : (freeNext s).net = s.net := rfl
@[simp] theorem freeNext_can (s : State) : (freeNext s).can = s.can := rfl
@[simp] theorem freeNext_sbk (s : State) : (freeNext s).sbk = s.sbk := rfl
@[simp] theorem freeNext_pnl (s : State) : (freeNext s).pnl = s.pnl := rfl
@[simp] theorem freeNext_tru (s : State) : (freeNext s).tru = s.tru := rfl
@[simp] theorem freeNext_sup (s : State) : (freeNext s).sup = s.sup := rfl

/-! ## Reading what was written -/

@[simp] theorem reg_setReg (s : State) (a i : Nat) (v : Word) : reg (setReg s a i v) a i = v := by simp [reg, setReg]

@[simp] theorem cfg_setCfg (s : State) (a i : Nat) (v : Word) : cfg (setCfg s a i v) a i = v := by simp [cfg, setCfg]

@[simp] theorem counter_setCounter (s : State) (a i : Nat) (v : Word) : counter (setCounter s a i v) a i = v := by
  simp [counter, setCounter]

@[simp] theorem counter_countUp (s : State) (a i : Nat) : counter (countUp s a i) a i = counter s a i + 1 := by simp [countUp]

@[simp] theorem reg_countUp (s : State) (a i b j : Nat) : reg (countUp s a i) b j = reg s b j := rfl

@[simp] theorem cfg_raise (s : State) (a i n b j : Nat) : cfg (raise s a i n) b j = cfg s b j := rfl

@[simp] theorem reg_raise (s : State) (a i n : Nat) : reg (raise s a i n) a i = setField (reg s a i) n n 1 := by simp [raise]

@[simp] theorem counter_raise (s : State) (a i n : Nat) :
    counter (raise s a i n) (fcntOf a + 4 * n) i = counter s (fcntOf a + 4 * n) i + 1 := by
  simp [raise]
  rfl

@[simp] theorem fe_setFe (s : State) (n : Nat) (x : FrontEnd) : fe (setFe s n x) n = x := by simp [fe, setFe]

theorem fe_setFe_ne (s : State) {n m : Nat} (x : FrontEnd) (h : m ≠ n) : fe (setFe s n x) m = fe s m := by
  simp [fe, setFe, storeGet_storeSet_ne _ _ _ h]

@[simp] theorem fe_modFe (s : State) (n : Nat) (g : FrontEnd → FrontEnd) : fe (modFe s n g) n = g (fe s n) := by simp [modFe]

theorem fe_modFe_ne (s : State) {n m : Nat} (g : FrontEnd → FrontEnd) (h : m ≠ n) : fe (modFe s n g) m = fe s m := fe_setFe_ne s _ h

@[simp] theorem group_setGroup (s : State) (g : Nat) (x : Group) : group (setGroup s g x) g = x := by simp [group, setGroup]

@[simp] theorem task_setTask (s : State) (n : Nat) (x : Task) : task (setTask s n x) n = x := by simp [task, setTask]

@[simp] theorem region_setRegion (s : State) (r : Nat) (x : MemRegion) : region (setRegion s r x) r = x := by simp [region, setRegion]

@[simp] theorem memWord_setMemWord (s : State) (k : Nat) (w : List Byte) : memWord (setMemWord s k w) k = w := by
  simp [memWord, setMemWord]

theorem memWord_setMemWord_ne (s : State) {k j : Nat} (w : List Byte) (h : j ≠ k) : memWord (setMemWord s k w) j = memWord s j := by
  simp [memWord, setMemWord, storeGet_storeSet_ne _ _ _ h]

@[simp] theorem trig_setTrig (s : State) (k : Nat) (x : Trig) : trig (setTrig s k x) k = x := by simp [trig, setTrig]

@[simp] theorem canPort_setPort (s : State) (p : Nat) (x : CanPort) : canPort (setPort s p x) p = x := by simp [canPort, setPort]

@[simp] theorem netPort_setNetPort (s : State) (p : Nat) (x : NetPort) : netPort (setNetPort s p x) p = x := by simp [netPort, setNetPort]

/-- Bit `n` of a flag is 1 after the event (R333). -/
@[simp] theorem getLsbD_setField_self (v : Word) {n : Nat} (h : n < 32) : (setField v n n 1).getLsbD n = true := by
  have h1 : n + 1 - n = 1 := by omega
  simp only [setField, maskOf, h1, BitVec.getLsbD_or, BitVec.getLsbD_and, BitVec.getLsbD_not, BitVec.getLsbD_ofNat]
  simp [h, Nat.testBit_shiftLeft]

end Sys2Proof.Machine
end

