-- ==== Sys2Proof/Laws/Memory.lean ====
section
/-! SUPPORT. Laws/Memory.lean: every operation on the memories keeps their canonical form, and the memories at reset have it. -/
namespace Sys2Proof.Machine
open Sys2Proof

theorem putStore_wf (m : Store Byte) (a : Nat) (bs : List Byte) (h : storeWf (fun _ => (0 : Byte)) m = true) :
    storeWf (fun _ => (0 : Byte)) (putStore m a bs) = true := by
  unfold putStore
  generalize bs.zipIdx = l
  induction l generalizing m with
  | nil => exact h
  | cons p l ih => exact ih _ (storeWf_storeSet _ _ _ _ h)

theorem setMemWord_wf (s : State) (k : Nat) (w : List Byte) (h : s.mem.wf = true) : (setMemWord s k w).mem.wf = true := by
  simp only [Memory.wf, Bool.and_eq_true] at h ⊢
  exact ⟨storeWf_storeSet _ _ _ _ h.1, h.2⟩

theorem mramSet_wf (s : State) (k : Nat) (d : List Nat) (h : s.mem.wf = true) : (mramSet s k d).mem.wf = true := by
  simp only [Memory.wf, Bool.and_eq_true] at h ⊢
  exact ⟨h.1, storeWf_storeSet _ _ _ _ h.2⟩

/-- An uncorrectable MRAM read leaves what the memories hold. -/
theorem mramLost_mem (s : State) (k : Nat) : (mramLost s k).mem = s.mem := mramLost_changes s k (.unit .mem) rfl

theorem mramWord_wf (a : Nat) (d : List Byte) (s : State) (i : Nat) (h : s.mem.wf = true) : (mramWord a d s i).mem.wf = true := by
  unfold mramWord
  dsimp only
  split
  · exact mramSet_wf _ _ _ h
  · split
    · exact mramSet_wf _ _ _ h
    · rw [mramLost_mem]; exact h

theorem mramPut_wf (s : State) (a : Nat) (d : List Byte) (h : s.mem.wf = true) : (mramPut s a d).mem.wf = true := by
  unfold mramPut
  split
  · exact h
  · dsimp only
    have key : ∀ (l : List Nat) (t : State), t.mem.wf = true → (l.foldl (mramWord a d) t).mem.wf = true := by
      intro l
      induction l with
      | nil => exact fun t h => h
      | cons i l ih => exact fun t h => ih _ (mramWord_wf a d t i h)
    exact key _ s h

theorem setRegion_wf (s : State) (r : Nat) (x : MemRegion) : (setRegion s r x).mem.wf = s.mem.wf := rfl

theorem memKeep_wf (r : SproutRecord) (m : Memory) (start : Nat) (h : m.wf = true) : (memKeep r m start).wf = true := by
  simp only [Memory.wf, Bool.and_eq_true] at h ⊢
  exact ⟨rfl, h.2⟩

theorem reset_wf : State.reset.mem.wf = true := rfl

/-- Reading a byte of a byte store after writing bytes: the byte written there, else the old one. -/
theorem putStore_get (m : Store Byte) (a : Nat) (bs : List Byte) (k : Nat) :
    storeGet (fun _ => (0 : Byte)) (putStore m a bs) k =
      if a ≤ k ∧ k < a + bs.length then bs.getD (k - a) 0 else storeGet (fun _ => (0 : Byte)) m k := by
  have key : ∀ (bs : List Byte) (i : Nat) (m : Store Byte),
      storeGet (fun _ => (0 : Byte)) ((bs.zipIdx i).foldl (fun m p => storeSet (fun _ => 0) m (a + p.2) p.1) m) k =
        if a + i ≤ k ∧ k < a + i + bs.length then bs.getD (k - a - i) 0 else storeGet (fun _ => (0 : Byte)) m k := by
    intro bs
    induction bs with
    | nil => intro i m; simp
    | cons b bs ih =>
      intro i m
      simp only [List.zipIdx_cons, List.foldl_cons]
      rw [ih (i + 1)]
      by_cases hk : k = a + i
      · subst hk
        have h0 : a + i - a - i = 0 := by omega
        have h1 : ¬ (a + (i + 1) ≤ a + i ∧ a + i < a + (i + 1) + bs.length) := by omega
        have h2 : a + i ≤ a + i ∧ a + i < a + i + (b :: bs).length := by simp
        rw [if_neg h1, if_pos h2, h0, storeGet_storeSet]
        rfl
      · rw [storeGet_storeSet_ne _ _ _ hk]
        by_cases h1 : a + (i + 1) ≤ k ∧ k < a + (i + 1) + bs.length
        · have h2 : a + i ≤ k ∧ k < a + i + (b :: bs).length := by simp; omega
          have h3 : k - a - i = (k - a - (i + 1)) + 1 := by omega
          rw [if_pos h1, if_pos h2, h3]
          rfl
        · have h2 : ¬ (a + i ≤ k ∧ k < a + i + (b :: bs).length) := by simp; omega
          rw [if_neg h1, if_neg h2]
  simpa [putStore] using key bs 0 m

end Sys2Proof.Machine
end

