-- ==== Sys2Proof/Laws/Unchanged.lean ====
section
/-! SUPPORT. Laws/Unchanged.lean: posting an event and answering a command leave every other unit as it was. -/
namespace Sys2Proof
open Sys2Proof.Machine

@[simp] theorem postFull_pending (s : State) (e : Event) (i : Nat) (d : Bool) (x y z w u : Nat) : (postFull s e i d x y z w u).pending = s.pending := postFull_changes s e i d x y z w u (.unit .pending) rfl
@[simp] theorem postFull_staged (s : State) (e : Event) (i : Nat) (d : Bool) (x y z w u : Nat) : (postFull s e i d x y z w u).staged = s.staged := postFull_changes s e i d x y z w u (.unit .staged) rfl
@[simp] theorem postFull_snaps (s : State) (e : Event) (i : Nat) (d : Bool) (x y z w u : Nat) : (postFull s e i d x y z w u).snaps = s.snaps := postFull_changes s e i d x y z w u (.unit .snaps) rfl
@[simp] theorem postFull_free (s : State) (e : Event) (i : Nat) (d : Bool) (x y z w u : Nat) : (postFull s e i d x y z w u).free = s.free := postFull_changes s e i d x y z w u (.unit .free) rfl
@[simp] theorem postFull_now (s : State) (e : Event) (i : Nat) (d : Bool) (x y z w u : Nat) : (postFull s e i d x y z w u).now = s.now := postFull_changes s e i d x y z w u (.unit .now) rfl
@[simp] theorem postFull_own (s : State) (e : Event) (i : Nat) (d : Bool) (x y z w u : Nat) : (postFull s e i d x y z w u).own = s.own := postFull_changes s e i d x y z w u (.unit .own) rfl
@[simp] theorem postFull_exe (s : State) (e : Event) (i : Nat) (d : Bool) (x y z w u : Nat) : (postFull s e i d x y z w u).exe = s.exe := postFull_changes s e i d x y z w u (.unit .exe) rfl
@[simp] theorem postFull_hz (s : State) (e : Event) (i : Nat) (d : Bool) (x y z w u : Nat) : (postFull s e i d x y z w u).hz = s.hz := postFull_changes s e i d x y z w u (.unit .hz) rfl
@[simp] theorem postFull_fch (s : State) (e : Event) (i : Nat) (d : Bool) (x y z w u : Nat) : (postFull s e i d x y z w u).fch = s.fch := postFull_changes s e i d x y z w u (.unit .fch) rfl
@[simp] theorem postFull_grd (s : State) (e : Event) (i : Nat) (d : Bool) (x y z w u : Nat) : (postFull s e i d x y z w u).grd = s.grd := postFull_changes s e i d x y z w u (.unit .grd) rfl
@[simp] theorem postFull_gmu (s : State) (e : Event) (i : Nat) (d : Bool) (x y z w u : Nat) : (postFull s e i d x y z w u).gmu = s.gmu := postFull_changes s e i d x y z w u (.unit .gmu) rfl
@[simp] theorem postFull_wnt (s : State) (e : Event) (i : Nat) (d : Bool) (x y z w u : Nat) : (postFull s e i d x y z w u).wnt = s.wnt := postFull_changes s e i d x y z w u (.unit .wnt) rfl
@[simp] theorem postFull_pair (s : State) (e : Event) (i : Nat) (d : Bool) (x y z w u : Nat) : (postFull s e i d x y z w u).pair = s.pair := postFull_changes s e i d x y z w u (.unit .pair) rfl
@[simp] theorem postFull_mem (s : State) (e : Event) (i : Nat) (d : Bool) (x y z w u : Nat) : (postFull s e i d x y z w u).mem = s.mem := postFull_changes s e i d x y z w u (.unit .mem) rfl
@[simp] theorem postFull_spr (s : State) (e : Event) (i : Nat) (d : Bool) (x y z w u : Nat) : (postFull s e i d x y z w u).spr = s.spr := postFull_changes s e i d x y z w u (.unit .spr) rfl
@[simp] theorem postFull_net (s : State) (e : Event) (i : Nat) (d : Bool) (x y z w u : Nat) : (postFull s e i d x y z w u).net = s.net := postFull_changes s e i d x y z w u (.unit .net) rfl
@[simp] theorem postFull_can (s : State) (e : Event) (i : Nat) (d : Bool) (x y z w u : Nat) : (postFull s e i d x y z w u).can = s.can := postFull_changes s e i d x y z w u (.unit .can) rfl
@[simp] theorem postFull_pnl (s : State) (e : Event) (i : Nat) (d : Bool) (x y z w u : Nat) : (postFull s e i d x y z w u).pnl = s.pnl := postFull_changes s e i d x y z w u (.unit .pnl) rfl
@[simp] theorem postFull_tru (s : State) (e : Event) (i : Nat) (d : Bool) (x y z w u : Nat) : (postFull s e i d x y z w u).tru = s.tru := postFull_changes s e i d x y z w u (.unit .tru) rfl
@[simp] theorem postFull_sup (s : State) (e : Event) (i : Nat) (d : Bool) (x y z w u : Nat) : (postFull s e i d x y z w u).sup = s.sup := postFull_changes s e i d x y z w u (.unit .sup) rfl

@[simp] theorem post_pending (s : State) (e : Event) (i x y z : Nat) : (post s e i x y z).pending = s.pending := post_changes s e i x y z (.unit .pending) rfl
@[simp] theorem post_staged (s : State) (e : Event) (i x y z : Nat) : (post s e i x y z).staged = s.staged := post_changes s e i x y z (.unit .staged) rfl
@[simp] theorem post_snaps (s : State) (e : Event) (i x y z : Nat) : (post s e i x y z).snaps = s.snaps := post_changes s e i x y z (.unit .snaps) rfl
@[simp] theorem post_free (s : State) (e : Event) (i x y z : Nat) : (post s e i x y z).free = s.free := post_changes s e i x y z (.unit .free) rfl
@[simp] theorem post_now (s : State) (e : Event) (i x y z : Nat) : (post s e i x y z).now = s.now := post_changes s e i x y z (.unit .now) rfl
@[simp] theorem post_own (s : State) (e : Event) (i x y z : Nat) : (post s e i x y z).own = s.own := post_changes s e i x y z (.unit .own) rfl
@[simp] theorem post_exe (s : State) (e : Event) (i x y z : Nat) : (post s e i x y z).exe = s.exe := post_changes s e i x y z (.unit .exe) rfl
@[simp] theorem post_hz (s : State) (e : Event) (i x y z : Nat) : (post s e i x y z).hz = s.hz := post_changes s e i x y z (.unit .hz) rfl
@[simp] theorem post_fch (s : State) (e : Event) (i x y z : Nat) : (post s e i x y z).fch = s.fch := post_changes s e i x y z (.unit .fch) rfl
@[simp] theorem post_grd (s : State) (e : Event) (i x y z : Nat) : (post s e i x y z).grd = s.grd := post_changes s e i x y z (.unit .grd) rfl
@[simp] theorem post_gmu (s : State) (e : Event) (i x y z : Nat) : (post s e i x y z).gmu = s.gmu := post_changes s e i x y z (.unit .gmu) rfl
@[simp] theorem post_wnt (s : State) (e : Event) (i x y z : Nat) : (post s e i x y z).wnt = s.wnt := post_changes s e i x y z (.unit .wnt) rfl
@[simp] theorem post_pair (s : State) (e : Event) (i x y z : Nat) : (post s e i x y z).pair = s.pair := post_changes s e i x y z (.unit .pair) rfl
@[simp] theorem post_mem (s : State) (e : Event) (i x y z : Nat) : (post s e i x y z).mem = s.mem := post_changes s e i x y z (.unit .mem) rfl
@[simp] theorem post_spr (s : State) (e : Event) (i x y z : Nat) : (post s e i x y z).spr = s.spr := post_changes s e i x y z (.unit .spr) rfl
@[simp] theorem post_net (s : State) (e : Event) (i x y z : Nat) : (post s e i x y z).net = s.net := post_changes s e i x y z (.unit .net) rfl
@[simp] theorem post_can (s : State) (e : Event) (i x y z : Nat) : (post s e i x y z).can = s.can := post_changes s e i x y z (.unit .can) rfl
@[simp] theorem post_pnl (s : State) (e : Event) (i x y z : Nat) : (post s e i x y z).pnl = s.pnl := post_changes s e i x y z (.unit .pnl) rfl
@[simp] theorem post_tru (s : State) (e : Event) (i x y z : Nat) : (post s e i x y z).tru = s.tru := post_changes s e i x y z (.unit .tru) rfl
@[simp] theorem post_sup (s : State) (e : Event) (i x y z : Nat) : (post s e i x y z).sup = s.sup := post_changes s e i x y z (.unit .sup) rfl

@[simp] theorem postEnd_pending (s : State) (e : Event) (i x y z : Nat) : (postEnd s e i x y z).pending = s.pending := postEnd_changes s e i x y z (.unit .pending) rfl
@[simp] theorem postEnd_staged (s : State) (e : Event) (i x y z : Nat) : (postEnd s e i x y z).staged = s.staged := postEnd_changes s e i x y z (.unit .staged) rfl
@[simp] theorem postEnd_snaps (s : State) (e : Event) (i x y z : Nat) : (postEnd s e i x y z).snaps = s.snaps := postEnd_changes s e i x y z (.unit .snaps) rfl
@[simp] theorem postEnd_free (s : State) (e : Event) (i x y z : Nat) : (postEnd s e i x y z).free = s.free := postEnd_changes s e i x y z (.unit .free) rfl
@[simp] theorem postEnd_now (s : State) (e : Event) (i x y z : Nat) : (postEnd s e i x y z).now = s.now := postEnd_changes s e i x y z (.unit .now) rfl
@[simp] theorem postEnd_own (s : State) (e : Event) (i x y z : Nat) : (postEnd s e i x y z).own = s.own := postEnd_changes s e i x y z (.unit .own) rfl
@[simp] theorem postEnd_exe (s : State) (e : Event) (i x y z : Nat) : (postEnd s e i x y z).exe = s.exe := postEnd_changes s e i x y z (.unit .exe) rfl
@[simp] theorem postEnd_hz (s : State) (e : Event) (i x y z : Nat) : (postEnd s e i x y z).hz = s.hz := postEnd_changes s e i x y z (.unit .hz) rfl
@[simp] theorem postEnd_fch (s : State) (e : Event) (i x y z : Nat) : (postEnd s e i x y z).fch = s.fch := postEnd_changes s e i x y z (.unit .fch) rfl
@[simp] theorem postEnd_grd (s : State) (e : Event) (i x y z : Nat) : (postEnd s e i x y z).grd = s.grd := postEnd_changes s e i x y z (.unit .grd) rfl
@[simp] theorem postEnd_gmu (s : State) (e : Event) (i x y z : Nat) : (postEnd s e i x y z).gmu = s.gmu := postEnd_changes s e i x y z (.unit .gmu) rfl
@[simp] theorem postEnd_wnt (s : State) (e : Event) (i x y z : Nat) : (postEnd s e i x y z).wnt = s.wnt := postEnd_changes s e i x y z (.unit .wnt) rfl
@[simp] theorem postEnd_pair (s : State) (e : Event) (i x y z : Nat) : (postEnd s e i x y z).pair = s.pair := postEnd_changes s e i x y z (.unit .pair) rfl
@[simp] theorem postEnd_mem (s : State) (e : Event) (i x y z : Nat) : (postEnd s e i x y z).mem = s.mem := postEnd_changes s e i x y z (.unit .mem) rfl
@[simp] theorem postEnd_spr (s : State) (e : Event) (i x y z : Nat) : (postEnd s e i x y z).spr = s.spr := postEnd_changes s e i x y z (.unit .spr) rfl
@[simp] theorem postEnd_net (s : State) (e : Event) (i x y z : Nat) : (postEnd s e i x y z).net = s.net := postEnd_changes s e i x y z (.unit .net) rfl
@[simp] theorem postEnd_can (s : State) (e : Event) (i x y z : Nat) : (postEnd s e i x y z).can = s.can := postEnd_changes s e i x y z (.unit .can) rfl
@[simp] theorem postEnd_pnl (s : State) (e : Event) (i x y z : Nat) : (postEnd s e i x y z).pnl = s.pnl := postEnd_changes s e i x y z (.unit .pnl) rfl
@[simp] theorem postEnd_tru (s : State) (e : Event) (i x y z : Nat) : (postEnd s e i x y z).tru = s.tru := postEnd_changes s e i x y z (.unit .tru) rfl
@[simp] theorem postEnd_sup (s : State) (e : Event) (i x y z : Nat) : (postEnd s e i x y z).sup = s.sup := postEnd_changes s e i x y z (.unit .sup) rfl

@[simp] theorem answer_pending (s : State) (c : Ctx) (op : Nat) (code : Code) (wh id : Nat) (r : List Byte) : (answer s c op code wh id r).pending = s.pending := answer_changes s c op code wh id r (.unit .pending) rfl
@[simp] theorem answer_staged (s : State) (c : Ctx) (op : Nat) (code : Code) (wh id : Nat) (r : List Byte) : (answer s c op code wh id r).staged = s.staged := answer_changes s c op code wh id r (.unit .staged) rfl
@[simp] theorem answer_snaps (s : State) (c : Ctx) (op : Nat) (code : Code) (wh id : Nat) (r : List Byte) : (answer s c op code wh id r).snaps = s.snaps := answer_changes s c op code wh id r (.unit .snaps) rfl
@[simp] theorem answer_free (s : State) (c : Ctx) (op : Nat) (code : Code) (wh id : Nat) (r : List Byte) : (answer s c op code wh id r).free = s.free := answer_changes s c op code wh id r (.unit .free) rfl
@[simp] theorem answer_now (s : State) (c : Ctx) (op : Nat) (code : Code) (wh id : Nat) (r : List Byte) : (answer s c op code wh id r).now = s.now := answer_changes s c op code wh id r (.unit .now) rfl
@[simp] theorem answer_own (s : State) (c : Ctx) (op : Nat) (code : Code) (wh id : Nat) (r : List Byte) : (answer s c op code wh id r).own = s.own := answer_changes s c op code wh id r (.unit .own) rfl
@[simp] theorem answer_exe (s : State) (c : Ctx) (op : Nat) (code : Code) (wh id : Nat) (r : List Byte) : (answer s c op code wh id r).exe = s.exe := answer_changes s c op code wh id r (.unit .exe) rfl
@[simp] theorem answer_hz (s : State) (c : Ctx) (op : Nat) (code : Code) (wh id : Nat) (r : List Byte) : (answer s c op code wh id r).hz = s.hz := answer_changes s c op code wh id r (.unit .hz) rfl
@[simp] theorem answer_fch (s : State) (c : Ctx) (op : Nat) (code : Code) (wh id : Nat) (r : List Byte) : (answer s c op code wh id r).fch = s.fch := answer_changes s c op code wh id r (.unit .fch) rfl
@[simp] theorem answer_grd (s : State) (c : Ctx) (op : Nat) (code : Code) (wh id : Nat) (r : List Byte) : (answer s c op code wh id r).grd = s.grd := answer_changes s c op code wh id r (.unit .grd) rfl
@[simp] theorem answer_gmu (s : State) (c : Ctx) (op : Nat) (code : Code) (wh id : Nat) (r : List Byte) : (answer s c op code wh id r).gmu = s.gmu := answer_changes s c op code wh id r (.unit .gmu) rfl
@[simp] theorem answer_wnt (s : State) (c : Ctx) (op : Nat) (code : Code) (wh id : Nat) (r : List Byte) : (answer s c op code wh id r).wnt = s.wnt := answer_changes s c op code wh id r (.unit .wnt) rfl
@[simp] theorem answer_pair (s : State) (c : Ctx) (op : Nat) (code : Code) (wh id : Nat) (r : List Byte) : (answer s c op code wh id r).pair = s.pair := answer_changes s c op code wh id r (.unit .pair) rfl
@[simp] theorem answer_mem (s : State) (c : Ctx) (op : Nat) (code : Code) (wh id : Nat) (r : List Byte) : (answer s c op code wh id r).mem = s.mem := answer_changes s c op code wh id r (.unit .mem) rfl
@[simp] theorem answer_spr (s : State) (c : Ctx) (op : Nat) (code : Code) (wh id : Nat) (r : List Byte) : (answer s c op code wh id r).spr = s.spr := answer_changes s c op code wh id r (.unit .spr) rfl
@[simp] theorem answer_net (s : State) (c : Ctx) (op : Nat) (code : Code) (wh id : Nat) (r : List Byte) : (answer s c op code wh id r).net = s.net := answer_changes s c op code wh id r (.unit .net) rfl
@[simp] theorem answer_can (s : State) (c : Ctx) (op : Nat) (code : Code) (wh id : Nat) (r : List Byte) : (answer s c op code wh id r).can = s.can := answer_changes s c op code wh id r (.unit .can) rfl
@[simp] theorem answer_sbk (s : State) (c : Ctx) (op : Nat) (code : Code) (wh id : Nat) (r : List Byte) : (answer s c op code wh id r).sbk = s.sbk := answer_changes s c op code wh id r (.unit .sbk) rfl
@[simp] theorem answer_pnl (s : State) (c : Ctx) (op : Nat) (code : Code) (wh id : Nat) (r : List Byte) : (answer s c op code wh id r).pnl = s.pnl := answer_changes s c op code wh id r (.unit .pnl) rfl
@[simp] theorem answer_tru (s : State) (c : Ctx) (op : Nat) (code : Code) (wh id : Nat) (r : List Byte) : (answer s c op code wh id r).tru = s.tru := answer_changes s c op code wh id r (.unit .tru) rfl
@[simp] theorem answer_sup (s : State) (c : Ctx) (op : Nat) (code : Code) (wh id : Nat) (r : List Byte) : (answer s c op code wh id r).sup = s.sup := answer_changes s c op code wh id r (.unit .sup) rfl

@[simp] theorem ok_pending (s : State) (c : Ctx) (op : Nat) (r : List Byte) : (ok s c op r).pending = s.pending := ok_changes s c op r (.unit .pending) rfl
@[simp] theorem ok_staged (s : State) (c : Ctx) (op : Nat) (r : List Byte) : (ok s c op r).staged = s.staged := ok_changes s c op r (.unit .staged) rfl
@[simp] theorem ok_snaps (s : State) (c : Ctx) (op : Nat) (r : List Byte) : (ok s c op r).snaps = s.snaps := ok_changes s c op r (.unit .snaps) rfl
@[simp] theorem ok_free (s : State) (c : Ctx) (op : Nat) (r : List Byte) : (ok s c op r).free = s.free := ok_changes s c op r (.unit .free) rfl
@[simp] theorem ok_now (s : State) (c : Ctx) (op : Nat) (r : List Byte) : (ok s c op r).now = s.now := ok_changes s c op r (.unit .now) rfl
@[simp] theorem ok_own (s : State) (c : Ctx) (op : Nat) (r : List Byte) : (ok s c op r).own = s.own := ok_changes s c op r (.unit .own) rfl
@[simp] theorem ok_exe (s : State) (c : Ctx) (op : Nat) (r : List Byte) : (ok s c op r).exe = s.exe := ok_changes s c op r (.unit .exe) rfl
@[simp] theorem ok_hz (s : State) (c : Ctx) (op : Nat) (r : List Byte) : (ok s c op r).hz = s.hz := ok_changes s c op r (.unit .hz) rfl
@[simp] theorem ok_fch (s : State) (c : Ctx) (op : Nat) (r : List Byte) : (ok s c op r).fch = s.fch := ok_changes s c op r (.unit .fch) rfl
@[simp] theorem ok_grd (s : State) (c : Ctx) (op : Nat) (r : List Byte) : (ok s c op r).grd = s.grd := ok_changes s c op r (.unit .grd) rfl
@[simp] theorem ok_gmu (s : State) (c : Ctx) (op : Nat) (r : List Byte) : (ok s c op r).gmu = s.gmu := ok_changes s c op r (.unit .gmu) rfl
@[simp] theorem ok_wnt (s : State) (c : Ctx) (op : Nat) (r : List Byte) : (ok s c op r).wnt = s.wnt := ok_changes s c op r (.unit .wnt) rfl
@[simp] theorem ok_pair (s : State) (c : Ctx) (op : Nat) (r : List Byte) : (ok s c op r).pair = s.pair := ok_changes s c op r (.unit .pair) rfl
@[simp] theorem ok_mem (s : State) (c : Ctx) (op : Nat) (r : List Byte) : (ok s c op r).mem = s.mem := ok_changes s c op r (.unit .mem) rfl
@[simp] theorem ok_spr (s : State) (c : Ctx) (op : Nat) (r : List Byte) : (ok s c op r).spr = s.spr := ok_changes s c op r (.unit .spr) rfl
@[simp] theorem ok_net (s : State) (c : Ctx) (op : Nat) (r : List Byte) : (ok s c op r).net = s.net := ok_changes s c op r (.unit .net) rfl
@[simp] theorem ok_can (s : State) (c : Ctx) (op : Nat) (r : List Byte) : (ok s c op r).can = s.can := ok_changes s c op r (.unit .can) rfl
@[simp] theorem ok_sbk (s : State) (c : Ctx) (op : Nat) (r : List Byte) : (ok s c op r).sbk = s.sbk := ok_changes s c op r (.unit .sbk) rfl
@[simp] theorem ok_pnl (s : State) (c : Ctx) (op : Nat) (r : List Byte) : (ok s c op r).pnl = s.pnl := ok_changes s c op r (.unit .pnl) rfl
@[simp] theorem ok_tru (s : State) (c : Ctx) (op : Nat) (r : List Byte) : (ok s c op r).tru = s.tru := ok_changes s c op r (.unit .tru) rfl
@[simp] theorem ok_sup (s : State) (c : Ctx) (op : Nat) (r : List Byte) : (ok s c op r).sup = s.sup := ok_changes s c op r (.unit .sup) rfl

@[simp] theorem refuse_pending (s : State) (c : Ctx) (op : Nat) (code : Code) (wh : Nat) : (refuse s c op code wh).pending = s.pending := refuse_changes s c op code wh (.unit .pending) rfl
@[simp] theorem refuse_staged (s : State) (c : Ctx) (op : Nat) (code : Code) (wh : Nat) : (refuse s c op code wh).staged = s.staged := refuse_changes s c op code wh (.unit .staged) rfl
@[simp] theorem refuse_snaps (s : State) (c : Ctx) (op : Nat) (code : Code) (wh : Nat) : (refuse s c op code wh).snaps = s.snaps := refuse_changes s c op code wh (.unit .snaps) rfl
@[simp] theorem refuse_free (s : State) (c : Ctx) (op : Nat) (code : Code) (wh : Nat) : (refuse s c op code wh).free = s.free := refuse_changes s c op code wh (.unit .free) rfl
@[simp] theorem refuse_now (s : State) (c : Ctx) (op : Nat) (code : Code) (wh : Nat) : (refuse s c op code wh).now = s.now := refuse_changes s c op code wh (.unit .now) rfl
@[simp] theorem refuse_own (s : State) (c : Ctx) (op : Nat) (code : Code) (wh : Nat) : (refuse s c op code wh).own = s.own := refuse_changes s c op code wh (.unit .own) rfl
@[simp] theorem refuse_exe (s : State) (c : Ctx) (op : Nat) (code : Code) (wh : Nat) : (refuse s c op code wh).exe = s.exe := refuse_changes s c op code wh (.unit .exe) rfl
@[simp] theorem refuse_hz (s : State) (c : Ctx) (op : Nat) (code : Code) (wh : Nat) : (refuse s c op code wh).hz = s.hz := refuse_changes s c op code wh (.unit .hz) rfl
@[simp] theorem refuse_fch (s : State) (c : Ctx) (op : Nat) (code : Code) (wh : Nat) : (refuse s c op code wh).fch = s.fch := refuse_changes s c op code wh (.unit .fch) rfl
@[simp] theorem refuse_grd (s : State) (c : Ctx) (op : Nat) (code : Code) (wh : Nat) : (refuse s c op code wh).grd = s.grd := refuse_changes s c op code wh (.unit .grd) rfl
@[simp] theorem refuse_gmu (s : State) (c : Ctx) (op : Nat) (code : Code) (wh : Nat) : (refuse s c op code wh).gmu = s.gmu := refuse_changes s c op code wh (.unit .gmu) rfl
@[simp] theorem refuse_wnt (s : State) (c : Ctx) (op : Nat) (code : Code) (wh : Nat) : (refuse s c op code wh).wnt = s.wnt := refuse_changes s c op code wh (.unit .wnt) rfl
@[simp] theorem refuse_pair (s : State) (c : Ctx) (op : Nat) (code : Code) (wh : Nat) : (refuse s c op code wh).pair = s.pair := refuse_changes s c op code wh (.unit .pair) rfl
@[simp] theorem refuse_mem (s : State) (c : Ctx) (op : Nat) (code : Code) (wh : Nat) : (refuse s c op code wh).mem = s.mem := refuse_changes s c op code wh (.unit .mem) rfl
@[simp] theorem refuse_spr (s : State) (c : Ctx) (op : Nat) (code : Code) (wh : Nat) : (refuse s c op code wh).spr = s.spr := refuse_changes s c op code wh (.unit .spr) rfl
@[simp] theorem refuse_net (s : State) (c : Ctx) (op : Nat) (code : Code) (wh : Nat) : (refuse s c op code wh).net = s.net := refuse_changes s c op code wh (.unit .net) rfl
@[simp] theorem refuse_can (s : State) (c : Ctx) (op : Nat) (code : Code) (wh : Nat) : (refuse s c op code wh).can = s.can := refuse_changes s c op code wh (.unit .can) rfl
@[simp] theorem refuse_sbk (s : State) (c : Ctx) (op : Nat) (code : Code) (wh : Nat) : (refuse s c op code wh).sbk = s.sbk := refuse_changes s c op code wh (.unit .sbk) rfl
@[simp] theorem refuse_pnl (s : State) (c : Ctx) (op : Nat) (code : Code) (wh : Nat) : (refuse s c op code wh).pnl = s.pnl := refuse_changes s c op code wh (.unit .pnl) rfl
@[simp] theorem refuse_tru (s : State) (c : Ctx) (op : Nat) (code : Code) (wh : Nat) : (refuse s c op code wh).tru = s.tru := refuse_changes s c op code wh (.unit .tru) rfl
@[simp] theorem refuse_sup (s : State) (c : Ctx) (op : Nat) (code : Code) (wh : Nat) : (refuse s c op code wh).sup = s.sup := refuse_changes s c op code wh (.unit .sup) rfl

@[simp] theorem await_pending (s : State) (c : Ctx) (op i n : Nat) : (await s c op i n).pending = s.pending := await_changes s c op i n (.unit .pending) rfl
@[simp] theorem await_staged (s : State) (c : Ctx) (op i n : Nat) : (await s c op i n).staged = s.staged := await_changes s c op i n (.unit .staged) rfl
@[simp] theorem await_snaps (s : State) (c : Ctx) (op i n : Nat) : (await s c op i n).snaps = s.snaps := await_changes s c op i n (.unit .snaps) rfl
@[simp] theorem await_free (s : State) (c : Ctx) (op i n : Nat) : (await s c op i n).free = s.free := await_changes s c op i n (.unit .free) rfl
@[simp] theorem await_now (s : State) (c : Ctx) (op i n : Nat) : (await s c op i n).now = s.now := await_changes s c op i n (.unit .now) rfl
@[simp] theorem await_own (s : State) (c : Ctx) (op i n : Nat) : (await s c op i n).own = s.own := await_changes s c op i n (.unit .own) rfl
@[simp] theorem await_exe (s : State) (c : Ctx) (op i n : Nat) : (await s c op i n).exe = s.exe := await_changes s c op i n (.unit .exe) rfl
@[simp] theorem await_hz (s : State) (c : Ctx) (op i n : Nat) : (await s c op i n).hz = s.hz := await_changes s c op i n (.unit .hz) rfl
@[simp] theorem await_fch (s : State) (c : Ctx) (op i n : Nat) : (await s c op i n).fch = s.fch := await_changes s c op i n (.unit .fch) rfl
@[simp] theorem await_grd (s : State) (c : Ctx) (op i n : Nat) : (await s c op i n).grd = s.grd := await_changes s c op i n (.unit .grd) rfl
@[simp] theorem await_gmu (s : State) (c : Ctx) (op i n : Nat) : (await s c op i n).gmu = s.gmu := await_changes s c op i n (.unit .gmu) rfl
@[simp] theorem await_wnt (s : State) (c : Ctx) (op i n : Nat) : (await s c op i n).wnt = s.wnt := await_changes s c op i n (.unit .wnt) rfl
@[simp] theorem await_pair (s : State) (c : Ctx) (op i n : Nat) : (await s c op i n).pair = s.pair := await_changes s c op i n (.unit .pair) rfl
@[simp] theorem await_mem (s : State) (c : Ctx) (op i n : Nat) : (await s c op i n).mem = s.mem := await_changes s c op i n (.unit .mem) rfl
@[simp] theorem await_spr (s : State) (c : Ctx) (op i n : Nat) : (await s c op i n).spr = s.spr := await_changes s c op i n (.unit .spr) rfl
@[simp] theorem await_net (s : State) (c : Ctx) (op i n : Nat) : (await s c op i n).net = s.net := await_changes s c op i n (.unit .net) rfl
@[simp] theorem await_can (s : State) (c : Ctx) (op i n : Nat) : (await s c op i n).can = s.can := await_changes s c op i n (.unit .can) rfl
@[simp] theorem await_sbk (s : State) (c : Ctx) (op i n : Nat) : (await s c op i n).sbk = s.sbk := await_changes s c op i n (.unit .sbk) rfl
@[simp] theorem await_pnl (s : State) (c : Ctx) (op i n : Nat) : (await s c op i n).pnl = s.pnl := await_changes s c op i n (.unit .pnl) rfl
@[simp] theorem await_tru (s : State) (c : Ctx) (op i n : Nat) : (await s c op i n).tru = s.tru := await_changes s c op i n (.unit .tru) rfl
@[simp] theorem await_sup (s : State) (c : Ctx) (op i n : Nat) : (await s c op i n).sup = s.sup := await_changes s c op i n (.unit .sup) rfl

@[simp] theorem accept_pending (s : State) (c : Ctx) (op : Nat) (code : Code) (e i n : Nat) : (accept s c op code e i n).pending = s.pending := accept_changes s c op code e i n (.unit .pending) rfl
@[simp] theorem accept_staged (s : State) (c : Ctx) (op : Nat) (code : Code) (e i n : Nat) : (accept s c op code e i n).staged = s.staged := accept_changes s c op code e i n (.unit .staged) rfl
@[simp] theorem accept_snaps (s : State) (c : Ctx) (op : Nat) (code : Code) (e i n : Nat) : (accept s c op code e i n).snaps = s.snaps := accept_changes s c op code e i n (.unit .snaps) rfl
@[simp] theorem accept_free (s : State) (c : Ctx) (op : Nat) (code : Code) (e i n : Nat) : (accept s c op code e i n).free = s.free := accept_changes s c op code e i n (.unit .free) rfl
@[simp] theorem accept_now (s : State) (c : Ctx) (op : Nat) (code : Code) (e i n : Nat) : (accept s c op code e i n).now = s.now := accept_changes s c op code e i n (.unit .now) rfl
@[simp] theorem accept_own (s : State) (c : Ctx) (op : Nat) (code : Code) (e i n : Nat) : (accept s c op code e i n).own = s.own := accept_changes s c op code e i n (.unit .own) rfl
@[simp] theorem accept_exe (s : State) (c : Ctx) (op : Nat) (code : Code) (e i n : Nat) : (accept s c op code e i n).exe = s.exe := accept_changes s c op code e i n (.unit .exe) rfl
@[simp] theorem accept_hz (s : State) (c : Ctx) (op : Nat) (code : Code) (e i n : Nat) : (accept s c op code e i n).hz = s.hz := accept_changes s c op code e i n (.unit .hz) rfl
@[simp] theorem accept_fch (s : State) (c : Ctx) (op : Nat) (code : Code) (e i n : Nat) : (accept s c op code e i n).fch = s.fch := accept_changes s c op code e i n (.unit .fch) rfl
@[simp] theorem accept_grd (s : State) (c : Ctx) (op : Nat) (code : Code) (e i n : Nat) : (accept s c op code e i n).grd = s.grd := accept_changes s c op code e i n (.unit .grd) rfl
@[simp] theorem accept_gmu (s : State) (c : Ctx) (op : Nat) (code : Code) (e i n : Nat) : (accept s c op code e i n).gmu = s.gmu := accept_changes s c op code e i n (.unit .gmu) rfl
@[simp] theorem accept_wnt (s : State) (c : Ctx) (op : Nat) (code : Code) (e i n : Nat) : (accept s c op code e i n).wnt = s.wnt := accept_changes s c op code e i n (.unit .wnt) rfl
@[simp] theorem accept_pair (s : State) (c : Ctx) (op : Nat) (code : Code) (e i n : Nat) : (accept s c op code e i n).pair = s.pair := accept_changes s c op code e i n (.unit .pair) rfl
@[simp] theorem accept_mem (s : State) (c : Ctx) (op : Nat) (code : Code) (e i n : Nat) : (accept s c op code e i n).mem = s.mem := accept_changes s c op code e i n (.unit .mem) rfl
@[simp] theorem accept_spr (s : State) (c : Ctx) (op : Nat) (code : Code) (e i n : Nat) : (accept s c op code e i n).spr = s.spr := accept_changes s c op code e i n (.unit .spr) rfl
@[simp] theorem accept_net (s : State) (c : Ctx) (op : Nat) (code : Code) (e i n : Nat) : (accept s c op code e i n).net = s.net := accept_changes s c op code e i n (.unit .net) rfl
@[simp] theorem accept_can (s : State) (c : Ctx) (op : Nat) (code : Code) (e i n : Nat) : (accept s c op code e i n).can = s.can := accept_changes s c op code e i n (.unit .can) rfl
@[simp] theorem accept_sbk (s : State) (c : Ctx) (op : Nat) (code : Code) (e i n : Nat) : (accept s c op code e i n).sbk = s.sbk := accept_changes s c op code e i n (.unit .sbk) rfl
@[simp] theorem accept_pnl (s : State) (c : Ctx) (op : Nat) (code : Code) (e i n : Nat) : (accept s c op code e i n).pnl = s.pnl := accept_changes s c op code e i n (.unit .pnl) rfl
@[simp] theorem accept_tru (s : State) (c : Ctx) (op : Nat) (code : Code) (e i n : Nat) : (accept s c op code e i n).tru = s.tru := accept_changes s c op code e i n (.unit .tru) rfl
@[simp] theorem accept_sup (s : State) (c : Ctx) (op : Nat) (code : Code) (e i n : Nat) : (accept s c op code e i n).sup = s.sup := accept_changes s c op code e i n (.unit .sup) rfl

@[simp] theorem conclude_pending (s : State) (x : Executing) (code : Code) (wh id : Nat) (r : List Byte) : (conclude s x code wh id r).pending = s.pending := conclude_changes s x code wh id r (.unit .pending) rfl
@[simp] theorem conclude_staged (s : State) (x : Executing) (code : Code) (wh id : Nat) (r : List Byte) : (conclude s x code wh id r).staged = s.staged := conclude_changes s x code wh id r (.unit .staged) rfl
@[simp] theorem conclude_snaps (s : State) (x : Executing) (code : Code) (wh id : Nat) (r : List Byte) : (conclude s x code wh id r).snaps = s.snaps := conclude_changes s x code wh id r (.unit .snaps) rfl
@[simp] theorem conclude_free (s : State) (x : Executing) (code : Code) (wh id : Nat) (r : List Byte) : (conclude s x code wh id r).free = s.free := conclude_changes s x code wh id r (.unit .free) rfl
@[simp] theorem conclude_now (s : State) (x : Executing) (code : Code) (wh id : Nat) (r : List Byte) : (conclude s x code wh id r).now = s.now := conclude_changes s x code wh id r (.unit .now) rfl
@[simp] theorem conclude_own (s : State) (x : Executing) (code : Code) (wh id : Nat) (r : List Byte) : (conclude s x code wh id r).own = s.own := conclude_changes s x code wh id r (.unit .own) rfl
@[simp] theorem conclude_exe (s : State) (x : Executing) (code : Code) (wh id : Nat) (r : List Byte) : (conclude s x code wh id r).exe = s.exe := conclude_changes s x code wh id r (.unit .exe) rfl
@[simp] theorem conclude_hz (s : State) (x : Executing) (code : Code) (wh id : Nat) (r : List Byte) : (conclude s x code wh id r).hz = s.hz := conclude_changes s x code wh id r (.unit .hz) rfl
@[simp] theorem conclude_fch (s : State) (x : Executing) (code : Code) (wh id : Nat) (r : List Byte) : (conclude s x code wh id r).fch = s.fch := conclude_changes s x code wh id r (.unit .fch) rfl
@[simp] theorem conclude_grd (s : State) (x : Executing) (code : Code) (wh id : Nat) (r : List Byte) : (conclude s x code wh id r).grd = s.grd := conclude_changes s x code wh id r (.unit .grd) rfl
@[simp] theorem conclude_gmu (s : State) (x : Executing) (code : Code) (wh id : Nat) (r : List Byte) : (conclude s x code wh id r).gmu = s.gmu := conclude_changes s x code wh id r (.unit .gmu) rfl
@[simp] theorem conclude_wnt (s : State) (x : Executing) (code : Code) (wh id : Nat) (r : List Byte) : (conclude s x code wh id r).wnt = s.wnt := conclude_changes s x code wh id r (.unit .wnt) rfl
@[simp] theorem conclude_pair (s : State) (x : Executing) (code : Code) (wh id : Nat) (r : List Byte) : (conclude s x code wh id r).pair = s.pair := conclude_changes s x code wh id r (.unit .pair) rfl
@[simp] theorem conclude_mem (s : State) (x : Executing) (code : Code) (wh id : Nat) (r : List Byte) : (conclude s x code wh id r).mem = s.mem := conclude_changes s x code wh id r (.unit .mem) rfl
@[simp] theorem conclude_spr (s : State) (x : Executing) (code : Code) (wh id : Nat) (r : List Byte) : (conclude s x code wh id r).spr = s.spr := conclude_changes s x code wh id r (.unit .spr) rfl
@[simp] theorem conclude_net (s : State) (x : Executing) (code : Code) (wh id : Nat) (r : List Byte) : (conclude s x code wh id r).net = s.net := conclude_changes s x code wh id r (.unit .net) rfl
@[simp] theorem conclude_can (s : State) (x : Executing) (code : Code) (wh id : Nat) (r : List Byte) : (conclude s x code wh id r).can = s.can := conclude_changes s x code wh id r (.unit .can) rfl
@[simp] theorem conclude_sbk (s : State) (x : Executing) (code : Code) (wh id : Nat) (r : List Byte) : (conclude s x code wh id r).sbk = s.sbk := conclude_changes s x code wh id r (.unit .sbk) rfl
@[simp] theorem conclude_pnl (s : State) (x : Executing) (code : Code) (wh id : Nat) (r : List Byte) : (conclude s x code wh id r).pnl = s.pnl := conclude_changes s x code wh id r (.unit .pnl) rfl
@[simp] theorem conclude_tru (s : State) (x : Executing) (code : Code) (wh id : Nat) (r : List Byte) : (conclude s x code wh id r).tru = s.tru := conclude_changes s x code wh id r (.unit .tru) rfl
@[simp] theorem conclude_sup (s : State) (x : Executing) (code : Code) (wh id : Nat) (r : List Byte) : (conclude s x code wh id r).sup = s.sup := conclude_changes s x code wh id r (.unit .sup) rfl

@[simp] theorem huskHold_pending (s : State) (w : Nat) : (huskHold s w).pending = s.pending := huskHold_changes s w (.unit .pending) rfl
@[simp] theorem huskHold_staged (s : State) (w : Nat) : (huskHold s w).staged = s.staged := huskHold_changes s w (.unit .staged) rfl
@[simp] theorem huskHold_snaps (s : State) (w : Nat) : (huskHold s w).snaps = s.snaps := huskHold_changes s w (.unit .snaps) rfl
@[simp] theorem huskHold_free (s : State) (w : Nat) : (huskHold s w).free = s.free := huskHold_changes s w (.unit .free) rfl
@[simp] theorem huskHold_now (s : State) (w : Nat) : (huskHold s w).now = s.now := huskHold_changes s w (.unit .now) rfl
@[simp] theorem huskHold_exe (s : State) (w : Nat) : (huskHold s w).exe = s.exe := huskHold_changes s w (.unit .exe) rfl
@[simp] theorem huskHold_hz (s : State) (w : Nat) : (huskHold s w).hz = s.hz := huskHold_changes s w (.unit .hz) rfl
@[simp] theorem huskHold_fch (s : State) (w : Nat) : (huskHold s w).fch = s.fch := huskHold_changes s w (.unit .fch) rfl
@[simp] theorem huskHold_grd (s : State) (w : Nat) : (huskHold s w).grd = s.grd := huskHold_changes s w (.unit .grd) rfl
@[simp] theorem huskHold_gmu (s : State) (w : Nat) : (huskHold s w).gmu = s.gmu := huskHold_changes s w (.unit .gmu) rfl
@[simp] theorem huskHold_wnt (s : State) (w : Nat) : (huskHold s w).wnt = s.wnt := huskHold_changes s w (.unit .wnt) rfl
@[simp] theorem huskHold_pair (s : State) (w : Nat) : (huskHold s w).pair = s.pair := huskHold_changes s w (.unit .pair) rfl
@[simp] theorem huskHold_mem (s : State) (w : Nat) : (huskHold s w).mem = s.mem := huskHold_changes s w (.unit .mem) rfl
@[simp] theorem huskHold_spr (s : State) (w : Nat) : (huskHold s w).spr = s.spr := huskHold_changes s w (.unit .spr) rfl
@[simp] theorem huskHold_net (s : State) (w : Nat) : (huskHold s w).net = s.net := huskHold_changes s w (.unit .net) rfl
@[simp] theorem huskHold_can (s : State) (w : Nat) : (huskHold s w).can = s.can := huskHold_changes s w (.unit .can) rfl
@[simp] theorem huskHold_sbk (s : State) (w : Nat) : (huskHold s w).sbk = s.sbk := huskHold_changes s w (.unit .sbk) rfl
@[simp] theorem huskHold_pnl (s : State) (w : Nat) : (huskHold s w).pnl = s.pnl := huskHold_changes s w (.unit .pnl) rfl
@[simp] theorem huskHold_tru (s : State) (w : Nat) : (huskHold s w).tru = s.tru := huskHold_changes s w (.unit .tru) rfl
@[simp] theorem huskHold_sup (s : State) (w : Nat) : (huskHold s w).sup = s.sup := huskHold_changes s w (.unit .sup) rfl

/-- A register outside a frame reads as before. -/
theorem changesOnly.reg_eq {w : List Area} {s t : State} (h : changesOnly w s t) {a : Nat}
    (hw : ∀ n, w.any (fun A => A.has (.regBit a n)) = false) (i : Nat) : reg t a i = reg s a i := by
  apply BitVec.eq_of_getLsbD_eq
  intro n _
  exact h (.regBit a n) (hw n) i

/-- A flag outside a frame reads as before. -/
theorem changesOnly.flag_eq {w : List Area} {s t : State} (h : changesOnly w s t) {a n : Nat}
    (hw : w.any (fun A => A.has (.regBit a n)) = false) (i : Nat) : (reg t a i).getLsbD n = (reg s a i).getLsbD n :=
  h (.regBit a n) hw i

/-- A counter outside a frame reads as before. -/
theorem changesOnly.counter_eq {w : List Area} {s t : State} (h : changesOnly w s t) {a : Nat}
    (hw : w.any (fun A => A.has (.ctr a)) = false) (i : Nat) : counter t a i = counter s a i := h (.ctr a) hw i

/-- A value in force outside a frame is as before. -/
theorem changesOnly.cfg_eq {w : List Area} {s t : State} (h : changesOnly w s t) {a : Nat}
    (hw : w.any (fun A => A.has (.inForce a)) = false) (i : Nat) : cfg t a i = cfg s a i := h (.inForce a) hw i

end Sys2Proof
end

