-- ==== Sys2Proof/Laws/Parts.lean ====
section
/-! SUPPORT. Laws/Parts.lean: what the accessors of the islands' parts read after a change of one part. -/
namespace Sys2Proof
open Sys2Proof.Machine

/-- Looking a key up after changing the entry of that key. -/
theorem find_map_key {α : Type} (l : List (Nat × α)) (n : Nat) (f : α → α) :
    (l.map (fun p => if p.1 = n then (n, f p.2) else p)).find? (fun p => p.1 == n)
      = (l.find? (fun p => p.1 == n)).map (fun p => (p.1, f p.2)) := by
  induction l with
  | nil => rfl
  | cons p l ih =>
    by_cases h : p.1 = n
    · simp [List.find?, h]
    · simp only [List.map_cons, h, if_false, List.find?, beq_eq_false_iff_ne.mpr h]
      exact ih

theorem loop?_modLoop (s : State) (n : Nat) (f : Loop → Loop) : loop? (modLoop s n f) n = (loop? s n).map f := by
  unfold loop? modLoop
  dsimp only
  rw [find_map_key]
  cases s.hz.loops.find? (fun p => p.1 == n) <;> rfl

@[simp] theorem gen_setGen (s : State) (g : Nat) (x : Generator) : gen (setGen s g x) g = x := by
  simp [gen, setGen, storeGet_storeSet]

@[simp] theorem cap_setCap (s : State) (k : Nat) (x : Capture) : cap (setCap s k x) k = x := by
  simp [cap, setCap, storeGet_storeSet]

@[simp] theorem task_setTask (s : State) (n : Nat) (x : Task) : task (setTask s n x) n = x := by
  simp [task, setTask, storeGet_storeSet]

@[simp] theorem loop?_ok (s : State) (c : Ctx) (op : Nat) (r : List Byte) (n : Nat) : loop? (ok s c op r) n = loop? s n := by
  simp [loop?, ok]

@[simp] theorem cap_ok (s : State) (c : Ctx) (op : Nat) (r : List Byte) (n : Nat) : cap (ok s c op r) n = cap s n := by
  simp [cap, ok]

@[simp] theorem gen_ok (s : State) (c : Ctx) (op : Nat) (r : List Byte) (n : Nat) : gen (ok s c op r) n = gen s n := by
  simp [gen, ok]

end Sys2Proof
end

