-- ==== Sys2Proof/Laws/PerInstr.lean ====
section
/-! SUPPORT. Laws/PerInstr.lean: per command: the opcode table gives no row any bits, so no word spells the command. -/
namespace Sys2Proof

/-- No word of any length spells the command. -/
def Laws.Row.Statement (i : Instr) : Prop := ∀ nbits w, decodeTableWord nbits w ≠ some i

/-- The table's rows have no bits. -/
theorem decodeTableWord_none (nbits w : Nat) : decodeTableWord nbits w = none := rfl

theorem Laws.Row.ownLineStopped : Laws.Row.Statement (.ownLineStopped) := fun _ _ h => by cases h
theorem Laws.Row.partnerLineQuiet : Laws.Row.Statement (.partnerLineQuiet) := fun _ _ h => by cases h
theorem Laws.Row.huskHold (w : Fin 16) : Laws.Row.Statement (.huskHold w) := fun _ _ h => by cases h
theorem Laws.Row.huskRelease (w : Fin 16) : Laws.Row.Statement (.huskRelease w) := fun _ _ h => by cases h
theorem Laws.Row.timestampBroadcast (time : Nat) : Laws.Row.Statement (.timestampBroadcast time) := fun _ _ h => by cases h
theorem Laws.Row.ack (seq : Nat) : Laws.Row.Statement (.ack seq) := fun _ _ h => by cases h
theorem Laws.Row.ackLate : Laws.Row.Statement (.ackLate) := fun _ _ h => by cases h
theorem Laws.Row.couplerFrame (ms : List FeMeasure) : Laws.Row.Statement (.couplerFrame ms) := fun _ _ h => by cases h
theorem Laws.Row.baseCycleBoundary : Laws.Row.Statement (.baseCycleBoundary) := fun _ _ h => by cases h
theorem Laws.Row.taskEnd (r : TaskResult) : Laws.Row.Statement (.taskEnd r) := fun _ _ h => by cases h
theorem Laws.Row.moduleFault (kind : FaultKind) (addr : Nat) : Laws.Row.Statement (.moduleFault kind addr) := fun _ _ h => by cases h
theorem Laws.Row.retainStoreWrite : Laws.Row.Statement (.retainStoreWrite) := fun _ _ h => by cases h
theorem Laws.Row.stopEnter : Laws.Row.Statement (.stopEnter) := fun _ _ h => by cases h
theorem Laws.Row.stopGraceExpiry : Laws.Row.Statement (.stopGraceExpiry) := fun _ _ h => by cases h
theorem Laws.Row.restartBoundary : Laws.Row.Statement (.restartBoundary) := fun _ _ h => by cases h
theorem Laws.Row.swapReady : Laws.Row.Statement (.swapReady) := fun _ _ h => by cases h
theorem Laws.Row.handoverDrained : Laws.Row.Statement (.handoverDrained) := fun _ _ h => by cases h
theorem Laws.Row.handoverDrainExpiry : Laws.Row.Statement (.handoverDrainExpiry) := fun _ _ h => by cases h
theorem Laws.Row.handoverBoundary : Laws.Row.Statement (.handoverBoundary) := fun _ _ h => by cases h
theorem Laws.Row.imageCheckDone (im : Image) : Laws.Row.Statement (.imageCheckDone im) := fun _ _ h => by cases h
theorem Laws.Row.hazelSlot : Laws.Row.Statement (.hazelSlot) := fun _ _ h => by cases h
theorem Laws.Row.hazelBatchClose (pod : Fin 6) : Laws.Row.Statement (.hazelBatchClose pod) := fun _ _ h => by cases h
theorem Laws.Row.podFail (pod : Fin 6) : Laws.Row.Statement (.podFail pod) := fun _ _ h => by cases h
theorem Laws.Row.hzPcommit (r : Requester) : Laws.Row.Statement (.hzPcommit r) := fun _ _ h => by cases h
theorem Laws.Row.hzLoopModeWrite (v : Word) (r : Requester) : Laws.Row.Statement (.hzLoopModeWrite v r) := fun _ _ h => by cases h
theorem Laws.Row.hzLoopSpWrite (v : Word) (r : Requester) : Laws.Row.Statement (.hzLoopSpWrite v r) := fun _ _ h => by cases h
theorem Laws.Row.hzLoopMvWrite (v : Word) (r : Requester) : Laws.Row.Statement (.hzLoopMvWrite v r) := fun _ _ h => by cases h
theorem Laws.Row.hzInjStart (gen : Fin 4) (r : Requester) : Laws.Row.Statement (.hzInjStart gen r) := fun _ _ h => by cases h
theorem Laws.Row.hzInjStop (gen : Fin 4) (r : Requester) : Laws.Row.Statement (.hzInjStop gen r) := fun _ _ h => by cases h
theorem Laws.Row.hzCapArm (set : Fin 4) (r : Requester) : Laws.Row.Statement (.hzCapArm set r) := fun _ _ h => by cases h
theorem Laws.Row.hzCapTrigger (set : Fin 4) (r : Requester) : Laws.Row.Statement (.hzCapTrigger set r) := fun _ _ h => by cases h
theorem Laws.Row.hzCapDisarm (set : Fin 4) (r : Requester) : Laws.Row.Statement (.hzCapDisarm set r) := fun _ _ h => by cases h
theorem Laws.Row.feFrameTimeout (n : Fin 216) : Laws.Row.Statement (.feFrameTimeout n) := fun _ _ h => by cases h
theorem Laws.Row.feWindowTimeout (n : Fin 216) : Laws.Row.Statement (.feWindowTimeout n) := fun _ _ h => by cases h
theorem Laws.Row.groupSupplySample (g : Fin 12) (v : BitVec 10) : Laws.Row.Statement (.groupSupplySample g v) := fun _ _ h => by cases h
theorem Laws.Row.fsupReturn (g : Fin 12) : Laws.Row.Statement (.fsupReturn g) := fun _ _ h => by cases h
theorem Laws.Row.feReconfigDone (n : Fin 216) : Laws.Row.Statement (.feReconfigDone n) := fun _ _ h => by cases h
theorem Laws.Row.diFilterChange (n : Fin 216) (on : Bool) : Laws.Row.Statement (.diFilterChange n on) := fun _ _ h => by cases h
theorem Laws.Row.doOverload (c : Fin 192) : Laws.Row.Statement (.doOverload c) := fun _ _ h => by cases h
theorem Laws.Row.doLatchoff (c : Fin 192) : Laws.Row.Statement (.doLatchoff c) := fun _ _ h => by cases h
theorem Laws.Row.doRetry (c : Fin 192) : Laws.Row.Statement (.doRetry c) := fun _ _ h => by cases h
theorem Laws.Row.doMismatch (c : Fin 192) (high : Bool) : Laws.Row.Statement (.doMismatch c high) := fun _ _ h => by cases h
theorem Laws.Row.doOpenLoad (c : Fin 192) (on : Bool) : Laws.Row.Statement (.doOpenLoad c on) := fun _ _ h => by cases h
theorem Laws.Row.fchClearFault (r : Requester) : Laws.Row.Statement (.fchClearFault r) := fun _ _ h => by cases h
theorem Laws.Row.pulseEdge (n : EdgeSample) : Laws.Row.Statement (.pulseEdge n) := fun _ _ h => by cases h
theorem Laws.Row.freqGateEnd (n : Fin 216) (edges span : Nat) : Laws.Row.Statement (.freqGateEnd n edges span) := fun _ _ h => by cases h
theorem Laws.Row.feFailure (n : Fin 216) : Laws.Row.Statement (.feFailure n) := fun _ _ h => by cases h
theorem Laws.Row.sproutStart : Laws.Row.Statement (.sproutStart) := fun _ _ h => by cases h
theorem Laws.Row.sproutComplete : Laws.Row.Statement (.sproutComplete) := fun _ _ h => by cases h
theorem Laws.Row.spareSelftest (n : Fin 24) (pass : Bool) : Laws.Row.Statement (.spareSelftest n pass) := fun _ _ h => by cases h
theorem Laws.Row.aiConversion (n : Fin 216) (raw : Int) : Laws.Row.Statement (.aiConversion n raw) := fun _ _ h => by cases h
theorem Laws.Row.burdenOpen (c : Fin 192) : Laws.Row.Statement (.burdenOpen c) := fun _ _ h => by cases h
theorem Laws.Row.burdenRetry (c : Fin 192) : Laws.Row.Statement (.burdenRetry c) := fun _ _ h => by cases h
theorem Laws.Row.burdenRetryEnd (c : Fin 192) : Laws.Row.Statement (.burdenRetryEnd c) := fun _ _ h => by cases h
theorem Laws.Row.readbackDisagree (n : Fin 216) : Laws.Row.Statement (.readbackDisagree n) := fun _ _ h => by cases h
theorem Laws.Row.ne43Confirm (n : Fin 216) (k : Ne43) : Laws.Row.Statement (.ne43Confirm n k) := fun _ _ h => by cases h
theorem Laws.Row.loopSupplyShort (c : Fin 192) : Laws.Row.Statement (.loopSupplyShort c) := fun _ _ h => by cases h
theorem Laws.Row.loopSupplyRetry (c : Fin 192) : Laws.Row.Statement (.loopSupplyRetry c) := fun _ _ h => by cases h
theorem Laws.Row.loopSupplyRecover (c : Fin 192) : Laws.Row.Statement (.loopSupplyRecover c) := fun _ _ h => by cases h
theorem Laws.Row.aoCompliance (c : Fin 192) : Laws.Row.Statement (.aoCompliance c) := fun _ _ h => by cases h
theorem Laws.Row.aoComplianceEnd (c : Fin 192) : Laws.Row.Statement (.aoComplianceEnd c) := fun _ _ h => by cases h
theorem Laws.Row.aoOpenLoad (c : Fin 192) : Laws.Row.Statement (.aoOpenLoad c) := fun _ _ h => by cases h
theorem Laws.Row.aoBackfeed (c : Fin 192) (forced : Bool) : Laws.Row.Statement (.aoBackfeed c forced) := fun _ _ h => by cases h
theorem Laws.Row.feTempMeasure (n : Fin 216) (t : BitVec 16) : Laws.Row.Statement (.feTempMeasure n t) := fun _ _ h => by cases h
theorem Laws.Row.gourdRequest (r : GourdAsk) : Laws.Row.Statement (.gourdRequest r) := fun _ _ h => by cases h
theorem Laws.Row.gourdDecision : Laws.Row.Statement (.gourdDecision) := fun _ _ h => by cases h
theorem Laws.Row.groupCurrentMeasure (g : Fin 12) : Laws.Row.Statement (.groupCurrentMeasure g) := fun _ _ h => by cases h
theorem Laws.Row.logicPowerMeasure (mw : BitVec 16) : Laws.Row.Statement (.logicPowerMeasure mw) := fun _ _ h => by cases h
theorem Laws.Row.c2AgeExpiry : Laws.Row.Statement (.c2AgeExpiry) := fun _ _ h => by cases h
theorem Laws.Row.gmuReport (m : GmuMeasure) : Laws.Row.Statement (.gmuReport m) := fun _ _ h => by cases h
theorem Laws.Row.pqAggregate (v : PqValues) : Laws.Row.Statement (.pqAggregate v) := fun _ _ h => by cases h
theorem Laws.Row.gridEvent (set : Fin 4) (phases : List Nat) : Laws.Row.Statement (.gridEvent set phases) := fun _ _ h => by cases h
theorem Laws.Row.syncClose : Laws.Row.Statement (.syncClose) := fun _ _ h => by cases h
theorem Laws.Row.syncTimeout : Laws.Row.Statement (.syncTimeout) := fun _ _ h => by cases h
theorem Laws.Row.triggerFire (t : Fin 32) : Laws.Row.Statement (.triggerFire t) := fun _ _ h => by cases h
theorem Laws.Row.triggerReset (t : Fin 32) : Laws.Row.Statement (.triggerReset t) := fun _ _ h => by cases h
theorem Laws.Row.staleInput : Laws.Row.Statement (.staleInput) := fun _ _ h => by cases h
theorem Laws.Row.shedReleaseApply : Laws.Row.Statement (.shedReleaseApply) := fun _ _ h => by cases h
theorem Laws.Row.gmuSyncArm (r : Requester) : Laws.Row.Statement (.gmuSyncArm r) := fun _ _ h => by cases h
theorem Laws.Row.gmuSyncDisarm (r : Requester) : Laws.Row.Statement (.gmuSyncDisarm r) := fun _ _ h => by cases h
theorem Laws.Row.gmuTrigArm (t : Fin 32) (r : Requester) : Laws.Row.Statement (.gmuTrigArm t r) := fun _ _ h => by cases h
theorem Laws.Row.gmuTrigDisarm (t : Fin 32) (r : Requester) : Laws.Row.Statement (.gmuTrigDisarm t r) := fun _ _ h => by cases h
theorem Laws.Row.gmuShedRel (high : Bool) (v : Word) (r : Requester) : Laws.Row.Statement (.gmuShedRel high v r) := fun _ _ h => by cases h
theorem Laws.Row.safeInputChange (ch : Fin 16) (on : Bool) : Laws.Row.Statement (.safeInputChange ch on) := fun _ _ h => by cases h
theorem Laws.Row.safetyCycle (x : CycleInputs) : Laws.Row.Statement (.safetyCycle x) := fun _ _ h => by cases h
theorem Laws.Row.halfSelftestDone (aOk bOk : Bool) : Laws.Row.Statement (.halfSelftestDone aOk bOk) := fun _ _ h => by cases h
theorem Laws.Row.discrepancy (p : Fin 8) : Laws.Row.Statement (.discrepancy p) := fun _ _ h => by cases h
theorem Laws.Row.crossCircuit (p : Fin 8) : Laws.Row.Statement (.crossCircuit p) := fun _ _ h => by cases h
theorem Laws.Row.testSourceDark (b : Bool) (reads : BitVec 16) : Laws.Row.Statement (.testSourceDark b reads) := fun _ _ h => by cases h
theorem Laws.Row.speedPulse (i : Fin 2) (halfB : Bool) : Laws.Row.Statement (.speedPulse i halfB) := fun _ _ h => by cases h
theorem Laws.Row.speedDisc (i : Fin 2) : Laws.Row.Statement (.speedDisc i) := fun _ _ h => by cases h
theorem Laws.Row.safeOutputFault (q : Fin 8) (k : SafeFault) : Laws.Row.Statement (.safeOutputFault q k) := fun _ _ h => by cases h
theorem Laws.Row.qsupMissing (g : Fin 2) : Laws.Row.Statement (.qsupMissing g) := fun _ _ h => by cases h
theorem Laws.Row.qsupOk (g : Fin 2) : Laws.Row.Statement (.qsupOk g) := fun _ _ h => by cases h
theorem Laws.Row.darkTest (q : Fin 8) : Laws.Row.Statement (.darkTest q) := fun _ _ h => by cases h
theorem Laws.Row.darkTestEnd (q : Fin 8) (readback : Bool) : Laws.Row.Statement (.darkTestEnd q readback) := fun _ _ h => by cases h
theorem Laws.Row.lightTest (q : Fin 8) : Laws.Row.Statement (.lightTest q) := fun _ _ h => by cases h
theorem Laws.Row.lightTestEnd (q : Fin 8) (readback : Bool) : Laws.Row.Statement (.lightTestEnd q readback) := fun _ _ h => by cases h
theorem Laws.Row.halfFail (halfB : Bool) : Laws.Row.Statement (.halfFail halfB) := fun _ _ h => by cases h
theorem Laws.Row.halfDriveTakeover (opened : BitVec 8) : Laws.Row.Statement (.halfDriveTakeover opened) := fun _ _ h => by cases h
theorem Laws.Row.ss1Tmax (f : Fin 8) : Laws.Row.Statement (.ss1Tmax f) := fun _ _ h => by cases h
theorem Laws.Row.resetEdge : Laws.Row.Statement (.resetEdge) := fun _ _ h => by cases h
theorem Laws.Row.resetJammed : Laws.Row.Statement (.resetJammed) := fun _ _ h => by cases h
theorem Laws.Row.degradedExpiry : Laws.Row.Statement (.degradedExpiry) := fun _ _ h => by cases h
theorem Laws.Row.safety (msg : List Byte) (set : Option (List Byte)) : Laws.Row.Statement (.safety msg set) := fun _ _ h => by cases h
theorem Laws.Row.safeParamExpiry : Laws.Row.Statement (.safeParamExpiry) := fun _ _ h => by cases h
theorem Laws.Row.roleDecision (partnerAtIdent : Bool) : Laws.Row.Statement (.roleDecision partnerAtIdent) := fun _ _ h => by cases h
theorem Laws.Row.trainPhaseDone (lanes : List LaneMeasure) : Laws.Row.Statement (.trainPhaseDone lanes) := fun _ _ h => by cases h
theorem Laws.Row.trainFail : Laws.Row.Statement (.trainFail) := fun _ _ h => by cases h
theorem Laws.Row.ident (d : IdentData) : Laws.Row.Statement (.ident d) := fun _ _ h => by cases h
theorem Laws.Row.heartbeat (h : HeartbeatBlock) : Laws.Row.Statement (.heartbeat h) := fun _ _ h => by cases h
theorem Laws.Row.heartbeatSend : Laws.Row.Statement (.heartbeatSend) := fun _ _ h => by cases h
theorem Laws.Row.heartbeatLost : Laws.Row.Statement (.heartbeatLost) := fun _ _ h => by cases h
theorem Laws.Row.partnerLineReleased : Laws.Row.Statement (.partnerLineReleased) := fun _ _ h => by cases h
theorem Laws.Row.ownLineFault : Laws.Row.Statement (.ownLineFault) := fun _ _ h => by cases h
theorem Laws.Row.ownerLineFault : Laws.Row.Statement (.ownerLineFault) := fun _ _ h => by cases h
theorem Laws.Row.line (tag : Byte) (mask region : BitVec 4) (index : BitVec 24) (data : List Byte) (content : CopyContent) : Laws.Row.Statement (.line tag mask region index data content) := fun _ _ h => by cases h
theorem Laws.Row.hrec (tag : Byte) (loop : BitVec 12) (commit : Bool) (seq : Nat) (data : List Byte) : Laws.Row.Statement (.hrec tag loop commit seq data) := fun _ _ h => by cases h
theorem Laws.Row.irec (tag : Byte) (data : List Byte) (content : CopyContent) : Laws.Row.Statement (.irec tag data content) := fun _ _ h => by cases h
theorem Laws.Row.commit (tag : Byte) (seq : Nat) : Laws.Row.Statement (.commit tag seq) := fun _ _ h => by cases h
theorem Laws.Row.check (lane : Fin 5) (number : Byte) (crcOk : Bool) : Laws.Row.Statement (.check lane number crcOk) := fun _ _ h => by cases h
theorem Laws.Row.nak (lane : Fin 5) (number : Byte) : Laws.Row.Statement (.nak lane number) := fun _ _ h => by cases h
theorem Laws.Row.align (lane : Fin 5) (logical : BitVec 2) (skew : Nat) : Laws.Row.Statement (.align lane logical skew) := fun _ _ h => by cases h
theorem Laws.Row.faultMessage : Laws.Row.Statement (.faultMessage) := fun _ _ h => by cases h
theorem Laws.Row.handoverPrepare (boundary : Nat) : Laws.Row.Statement (.handoverPrepare boundary) := fun _ _ h => by cases h
theorem Laws.Row.handoverMessage : Laws.Row.Statement (.handoverMessage) := fun _ _ h => by cases h
theorem Laws.Row.yield : Laws.Row.Statement (.yield) := fun _ _ h => by cases h
theorem Laws.Row.roleMessage (note : RoleNote) : Laws.Row.Statement (.roleMessage note) := fun _ _ h => by cases h
theorem Laws.Row.timeMessage (step : Int) (instant : Nat) : Laws.Row.Statement (.timeMessage step instant) := fun _ _ h => by cases h
theorem Laws.Row.laneRetired (lane : Fin 5) : Laws.Row.Statement (.laneRetired lane) := fun _ _ h => by cases h
theorem Laws.Row.laneSprouted (lane : Fin 5) : Laws.Row.Statement (.laneSprouted lane) := fun _ _ h => by cases h
theorem Laws.Row.ppdRetrainRetired (r : Requester) : Laws.Row.Statement (.ppdRetrainRetired r) := fun _ _ h => by cases h
theorem Laws.Row.orphanRetrain : Laws.Row.Statement (.orphanRetrain) := fun _ _ h => by cases h
theorem Laws.Row.claim (r : Requester) : Laws.Row.Statement (.claim r) := fun _ _ h => by cases h
theorem Laws.Row.goOffline (r : Requester) : Laws.Row.Statement (.goOffline r) := fun _ _ h => by cases h
theorem Laws.Row.pendingLogFull : Laws.Row.Statement (.pendingLogFull) := fun _ _ h => by cases h
theorem Laws.Row.linkSpeedRetry : Laws.Row.Statement (.linkSpeedRetry) := fun _ _ h => by cases h
theorem Laws.Row.resyncPhaseDone (marked : Nat) (image : Option Image) : Laws.Row.Statement (.resyncPhaseDone marked image) := fun _ _ h => by cases h
theorem Laws.Row.pairSynced : Laws.Row.Statement (.pairSynced) := fun _ _ h => by cases h
theorem Laws.Row.pairTimeOffset (offset : Int) : Laws.Row.Statement (.pairTimeOffset offset) := fun _ _ h => by cases h
theorem Laws.Row.memoryRead (word : Fin 3670016) (u : MemUpset) : Laws.Row.Statement (.memoryRead word u) := fun _ _ h => by cases h
theorem Laws.Row.memoryWrite (addr : Nat) (data : List Byte) (u : MemUpset) : Laws.Row.Statement (.memoryWrite addr data u) := fun _ _ h => by cases h
theorem Laws.Row.scrubStep (region : Fin 4) (u : MemUpset) : Laws.Row.Statement (.scrubStep region u) := fun _ _ h => by cases h
theorem Laws.Row.imageScrubLap : Laws.Row.Statement (.imageScrubLap) := fun _ _ h => by cases h
theorem Laws.Row.scrubLapAlarm : Laws.Row.Statement (.scrubLapAlarm) := fun _ _ h => by cases h
theorem Laws.Row.accelPassDone (region : Fin 4) : Laws.Row.Statement (.accelPassDone region) := fun _ _ h => by cases h
theorem Laws.Row.laneCopyStep (region : Fin 4) (u : MemUpset) : Laws.Row.Statement (.laneCopyStep region u) := fun _ _ h => by cases h
theorem Laws.Row.laneCopyDone (region : Fin 4) : Laws.Row.Statement (.laneCopyDone region) := fun _ _ h => by cases h
theorem Laws.Row.hourCountTick : Laws.Row.Statement (.hourCountTick) := fun _ _ h => by cases h
theorem Laws.Row.mramWrite (use : MramUse) (addr : Nat) (data : List Byte) (verifies : Bool) : Laws.Row.Statement (.mramWrite use addr data verifies) := fun _ _ h => by cases h
theorem Laws.Row.mramRemap : Laws.Row.Statement (.mramRemap) := fun _ _ h => by cases h
theorem Laws.Row.coreSelftest (pair : CorePair) (pass : Bool) : Laws.Row.Statement (.coreSelftest pair pass) := fun _ _ h => by cases h
theorem Laws.Row.coreSwapDone : Laws.Row.Statement (.coreSwapDone) := fun _ _ h => by cases h
theorem Laws.Row.coreSelfReset : Laws.Row.Statement (.coreSelfReset) := fun _ _ h => by cases h
theorem Laws.Row.oscCompare (diff : Int) : Laws.Row.Statement (.oscCompare diff) := fun _ _ h => by cases h
theorem Laws.Row.oscSprouted (errA errB : Int) : Laws.Row.Statement (.oscSprouted errA errB) := fun _ _ h => by cases h
theorem Laws.Row.cellTest (cell : Fin 6) (esr capacitance : Nat) (ride : Nat) : Laws.Row.Statement (.cellTest cell esr capacitance ride) := fun _ _ h => by cases h
theorem Laws.Row.cellSprouted : Laws.Row.Statement (.cellSprouted) := fun _ _ h => by cases h
theorem Laws.Row.packetArrival (session : Fin 17) (packet : List Byte) : Laws.Row.Statement (.packetArrival session packet) := fun _ _ h => by cases h
theorem Laws.Row.commandDispatch : Laws.Row.Statement (.commandDispatch) := fun _ _ h => by cases h
theorem Laws.Row.sessionOpen (net : Fin 4) (der : List Byte) : Laws.Row.Statement (.sessionOpen net der) := fun _ _ h => by cases h
theorem Laws.Row.sessionIdleTimeout (session : Fin 17) : Laws.Row.Statement (.sessionIdleTimeout session) := fun _ _ h => by cases h
theorem Laws.Row.serviceBreak : Laws.Row.Statement (.serviceBreak) := fun _ _ h => by cases h
theorem Laws.Row.sessionClose (session : Fin 17) : Laws.Row.Statement (.sessionClose session) := fun _ _ h => by cases h
theorem Laws.Row.authLockoutEnd : Laws.Row.Statement (.authLockoutEnd) := fun _ _ h => by cases h
theorem Laws.Row.notifyLost (queue : Fin 32) : Laws.Row.Statement (.notifyLost queue) := fun _ _ h => by cases h
theorem Laws.Row.start (c : Ctx) : Laws.Row.Statement (.start c) := fun _ _ h => by cases h
theorem Laws.Row.stop (c : Ctx) : Laws.Row.Statement (.stop c) := fun _ _ h => by cases h
theorem Laws.Row.warm (c : Ctx) (choice : ForceChoice) : Laws.Row.Statement (.warm c choice) := fun _ _ h => by cases h
theorem Laws.Row.cold (c : Ctx) (choice : ForceChoice) : Laws.Row.Statement (.cold c choice) := fun _ _ h => by cases h
theorem Laws.Row.handover (c : Ctx) (swap : Bool) : Laws.Row.Statement (.handover c swap) := fun _ _ h => by cases h
theorem Laws.Row.stateRead (c : Ctx) : Laws.Row.Statement (.stateRead c) := fun _ _ h => by cases h
theorem Laws.Row.loadBegin (c : Ctx) (slot : BitVec 8) (len : BitVec 32) : Laws.Row.Statement (.loadBegin c slot len) := fun _ _ h => by cases h
theorem Laws.Row.loadChunk (c : Ctx) (offset : BitVec 32) (data : List Byte) : Laws.Row.Statement (.loadChunk c offset data) := fun _ _ h => by cases h
theorem Laws.Row.loadCommit (c : Ctx) : Laws.Row.Statement (.loadCommit c) := fun _ _ h => by cases h
theorem Laws.Row.verify (c : Ctx) (slot : BitVec 8) : Laws.Row.Statement (.verify c slot) := fun _ _ h => by cases h
theorem Laws.Row.swapPrepare (c : Ctx) (choice : ForceChoice) : Laws.Row.Statement (.swapPrepare c choice) := fun _ _ h => by cases h
theorem Laws.Row.swapCancel (c : Ctx) : Laws.Row.Statement (.swapCancel c) := fun _ _ h => by cases h
theorem Laws.Row.changeReport (c : Ctx) (first : BitVec 32) (count : BitVec 16) : Laws.Row.Statement (.changeReport c first count) := fun _ _ h => by cases h
theorem Laws.Row.loadAbort (c : Ctx) : Laws.Row.Statement (.loadAbort c) := fun _ _ h => by cases h
theorem Laws.Row.varRead (c : Ctx) (items : List (BitVec 64 × BitVec 32 × BitVec 16)) : Laws.Row.Statement (.varRead c items) := fun _ _ h => by cases h
theorem Laws.Row.varWrite (c : Ctx) (identity : BitVec 64) (offset : BitVec 32) (data : List Byte) : Laws.Row.Statement (.varWrite c identity offset data) := fun _ _ h => by cases h
theorem Laws.Row.forceSet (c : Ctx) (k : ForceKey) (v : BitVec 64) : Laws.Row.Statement (.forceSet c k v) := fun _ _ h => by cases h
theorem Laws.Row.forceClear (c : Ctx) (k : ForceKey) : Laws.Row.Statement (.forceClear c k) := fun _ _ h => by cases h
theorem Laws.Row.forceClearAll (c : Ctx) : Laws.Row.Statement (.forceClearAll c) := fun _ _ h => by cases h
theorem Laws.Row.forceList (c : Ctx) (first count : BitVec 16) : Laws.Row.Statement (.forceList c first count) := fun _ _ h => by cases h
theorem Laws.Row.regRead (c : Ctx) (addr : BitVec 32) (count : BitVec 16) (same : Bool) : Laws.Row.Statement (.regRead c addr count same) := fun _ _ h => by cases h
theorem Laws.Row.regWrite (c : Ctx) (addr : BitVec 32) (same : Bool) (words : List Word) : Laws.Row.Statement (.regWrite c addr same words) := fun _ _ h => by cases h
theorem Laws.Row.regMaskwrite (c : Ctx) (addr mask value : Word) : Laws.Row.Statement (.regMaskwrite c addr mask value) := fun _ _ h => by cases h
theorem Laws.Row.snapshot (c : Ctx) (window : BitVec 8) : Laws.Row.Statement (.snapshot c window) := fun _ _ h => by cases h
theorem Laws.Row.chRead (c : Ctx) (first count : BitVec 8) : Laws.Row.Statement (.chRead c first count) := fun _ _ h => by cases h
theorem Laws.Row.chClearFault (c : Ctx) (ch : BitVec 8) : Laws.Row.Statement (.chClearFault c ch) := fun _ _ h => by cases h
theorem Laws.Row.chSprout (c : Ctx) (ch spare : BitVec 8) : Laws.Row.Statement (.chSprout c ch spare) := fun _ _ h => by cases h
theorem Laws.Row.chFailsig (c : Ctx) (ch : BitVec 8) (on : Bool) : Laws.Row.Statement (.chFailsig c ch on) := fun _ _ h => by cases h
theorem Laws.Row.grpRead (c : Ctx) (g : BitVec 8) : Laws.Row.Statement (.grpRead c g) := fun _ _ h => by cases h
theorem Laws.Row.loopRead (c : Ctx) (first count : BitVec 16) : Laws.Row.Statement (.loopRead c first count) := fun _ _ h => by cases h
theorem Laws.Row.loopMode (c : Ctx) (loop : BitVec 16) (mode : BitVec 8) (track : BitVec 8) : Laws.Row.Statement (.loopMode c loop mode track) := fun _ _ h => by cases h
theorem Laws.Row.loopSp (c : Ctx) (loop : BitVec 16) (v : BitVec 16) : Laws.Row.Statement (.loopSp c loop v) := fun _ _ h => by cases h
theorem Laws.Row.loopMv (c : Ctx) (loop : BitVec 16) (v : BitVec 16) : Laws.Row.Statement (.loopMv c loop v) := fun _ _ h => by cases h
theorem Laws.Row.loopParam (c : Ctx) (loop : BitVec 16) (word : BitVec 8) (words : List Word) (commit : Bool) : Laws.Row.Statement (.loopParam c loop word words commit) := fun _ _ h => by cases h
theorem Laws.Row.injectStart (c : Ctx) (gen : BitVec 8) (icb : List Byte) : Laws.Row.Statement (.injectStart c gen icb) := fun _ _ h => by cases h
theorem Laws.Row.injectStop (c : Ctx) (gen : BitVec 8) : Laws.Row.Statement (.injectStop c gen) := fun _ _ h => by cases h
theorem Laws.Row.capArm (c : Ctx) (set : BitVec 8) (ccb : List Byte) : Laws.Row.Statement (.capArm c set ccb) := fun _ _ h => by cases h
theorem Laws.Row.capTrigger (c : Ctx) (set : BitVec 8) : Laws.Row.Statement (.capTrigger c set) := fun _ _ h => by cases h
theorem Laws.Row.capDisarm (c : Ctx) (set : BitVec 8) : Laws.Row.Statement (.capDisarm c set) := fun _ _ h => by cases h
theorem Laws.Row.capRead (c : Ctx) (set : BitVec 8) (first : BitVec 32) (count : BitVec 16) : Laws.Row.Statement (.capRead c set first count) := fun _ _ h => by cases h
theorem Laws.Row.gmuSubscribe (c : Ctx) (every : BitVec 16) : Laws.Row.Statement (.gmuSubscribe c every) := fun _ _ h => by cases h
theorem Laws.Row.syncArm (c : Ctx) (block : List Byte) : Laws.Row.Statement (.syncArm c block) := fun _ _ h => by cases h
theorem Laws.Row.syncDisarm (c : Ctx) : Laws.Row.Statement (.syncDisarm c) := fun _ _ h => by cases h
theorem Laws.Row.shedRelease (c : Ctx) (mask : BitVec 64) : Laws.Row.Statement (.shedRelease c mask) := fun _ _ h => by cases h
theorem Laws.Row.trigArm (c : Ctx) (t : BitVec 8) (arm : BitVec 8) : Laws.Row.Statement (.trigArm c t arm) := fun _ _ h => by cases h
theorem Laws.Row.harmRead (c : Ctx) (input : BitVec 8) : Laws.Row.Statement (.harmRead c input) := fun _ _ h => by cases h
theorem Laws.Row.gridEvents (c : Ctx) : Laws.Row.Statement (.gridEvents c) := fun _ _ h => by cases h
theorem Laws.Row.safeParamLoad (c : Ctx) (set : List Byte) : Laws.Row.Statement (.safeParamLoad c set) := fun _ _ h => by cases h
theorem Laws.Row.safeParamConfirm (c : Ctx) (crc : BitVec 32) (setId : List Byte) : Laws.Row.Statement (.safeParamConfirm c crc setId) := fun _ _ h => by cases h
theorem Laws.Row.safeParamAbort (c : Ctx) : Laws.Row.Statement (.safeParamAbort c) := fun _ _ h => by cases h
theorem Laws.Row.safeRead (c : Ctx) (area : BitVec 8) : Laws.Row.Statement (.safeRead c area) := fun _ _ h => by cases h
theorem Laws.Row.sbkRead (c : Ctx) (first : BitVec 32) (count : BitVec 16) : Laws.Row.Statement (.sbkRead c first count) := fun _ _ h => by cases h
theorem Laws.Row.sbkSnapshot (c : Ctx) : Laws.Row.Statement (.sbkSnapshot c) := fun _ _ h => by cases h
theorem Laws.Row.sbkRelease (c : Ctx) : Laws.Row.Statement (.sbkRelease c) := fun _ _ h => by cases h
theorem Laws.Row.sbkSubscribe (c : Ctx) (minSev : BitVec 8) : Laws.Row.Statement (.sbkSubscribe c minSev) := fun _ _ h => by cases h
theorem Laws.Row.panelUpdate (c : Ctx) (x y w h : BitVec 16) (flags : BitVec 8) (pixels : List Byte) : Laws.Row.Statement (.panelUpdate c x y w h flags pixels) := fun _ _ h => by cases h
theorem Laws.Row.panelScreen (c : Ctx) (screen : BitVec 16) : Laws.Row.Statement (.panelScreen c screen) := fun _ _ h => by cases h
theorem Laws.Row.panelStatus (c : Ctx) : Laws.Row.Statement (.panelStatus c) := fun _ _ h => by cases h
theorem Laws.Row.certRead (c : Ctx) (which : BitVec 8) : Laws.Row.Statement (.certRead c which) := fun _ _ h => by cases h
theorem Laws.Row.csrMake (c : Ctx) (subject : SubjectFields) (request : List Byte) : Laws.Row.Statement (.csrMake c subject request) := fun _ _ h => by cases h
theorem Laws.Row.certInstall (c : Ctx) (slot : BitVec 8) (cert : Certificate) : Laws.Row.Statement (.certInstall c slot cert) := fun _ _ h => by cases h
theorem Laws.Row.authChallenge (c : Ctx) (nonce : BitVec 384) : Laws.Row.Statement (.authChallenge c nonce) := fun _ _ h => by cases h
theorem Laws.Row.authResponse (c : Ctx) (slot : BitVec 8) (valid : Bool) : Laws.Row.Statement (.authResponse c slot valid) := fun _ _ h => by cases h
theorem Laws.Row.certRemove (c : Ctx) (slot : BitVec 8) : Laws.Row.Statement (.certRemove c slot) := fun _ _ h => by cases h
theorem Laws.Row.credentialOpStart : Laws.Row.Statement (.credentialOpStart) := fun _ _ h => by cases h
theorem Laws.Row.commissionProofExpiry : Laws.Row.Statement (.commissionProofExpiry) := fun _ _ h => by cases h
theorem Laws.Row.timeRead (c : Ctx) : Laws.Row.Statement (.timeRead c) := fun _ _ h => by cases h
theorem Laws.Row.timeAcceptJump (c : Ctx) : Laws.Row.Statement (.timeAcceptJump c) := fun _ _ h => by cases h
theorem Laws.Row.canStatus (c : Ctx) (port : BitVec 8) : Laws.Row.Statement (.canStatus c port) := fun _ _ h => by cases h
theorem Laws.Row.canRecover (c : Ctx) (port : BitVec 8) : Laws.Row.Statement (.canRecover c port) := fun _ _ h => by cases h
theorem Laws.Row.canSend (c : Ctx) (port : BitVec 8) (frame : CanFrame) : Laws.Row.Statement (.canSend c port frame) := fun _ _ h => by cases h
theorem Laws.Row.echo (c : Ctx) (data : List Byte) : Laws.Row.Statement (.echo c data) := fun _ _ h => by cases h
theorem Laws.Row.grantlogRead (c : Ctx) (first : BitVec 8) (count : BitVec 16) : Laws.Row.Statement (.grantlogRead c first count) := fun _ _ h => by cases h
theorem Laws.Row.memlogRead (c : Ctx) : Laws.Row.Statement (.memlogRead c) := fun _ _ h => by cases h
theorem Laws.Row.memlogClear (c : Ctx) : Laws.Row.Statement (.memlogClear c) := fun _ _ h => by cases h
theorem Laws.Row.sproutRead (c : Ctx) : Laws.Row.Statement (.sproutRead c) := fun _ _ h => by cases h
theorem Laws.Row.sessions (c : Ctx) : Laws.Row.Statement (.sessions c) := fun _ _ h => by cases h
theorem Laws.Row.registerWrite (addr value : Word) (r : Requester) : Laws.Row.Statement (.registerWrite addr value r) := fun _ _ h => by cases h
theorem Laws.Row.w1cWrite (addr value : Word) (race : List (Fin 32)) (r : Requester) : Laws.Row.Statement (.w1cWrite addr value race r) := fun _ _ h => by cases h
theorem Laws.Row.snapTake (window : Fin 16) (r : Requester) : Laws.Row.Statement (.snapTake window r) := fun _ _ h => by cases h
theorem Laws.Row.stagedApply (i : StagedIsland) : Laws.Row.Statement (.stagedApply i) := fun _ _ h => by cases h
theorem Laws.Row.idxDataAccess (window : Fin 16) (a : IdxAccess) (r : Requester) : Laws.Row.Statement (.idxDataAccess window a r) := fun _ _ h => by cases h
theorem Laws.Row.timeNsecRead : Laws.Row.Statement (.timeNsecRead) := fun _ _ h => by cases h
theorem Laws.Row.devLockSet (r : Requester) : Laws.Row.Statement (.devLockSet r) := fun _ _ h => by cases h
theorem Laws.Row.permSet (r : Requester) : Laws.Row.Statement (.permSet r) := fun _ _ h => by cases h
theorem Laws.Row.supLockKey (v : Word) (r : Requester) : Laws.Row.Statement (.supLockKey v r) := fun _ _ h => by cases h
theorem Laws.Row.lockKeyTimeout : Laws.Row.Statement (.lockKeyTimeout) := fun _ _ h => by cases h
theorem Laws.Row.supResetModule (r : Requester) : Laws.Row.Statement (.supResetModule r) := fun _ _ h => by cases h
theorem Laws.Row.supResetIsland (i : LoneIsland) (r : Requester) : Laws.Row.Statement (.supResetIsland i r) := fun _ _ h => by cases h
theorem Laws.Row.softResetTake : Laws.Row.Statement (.softResetTake) := fun _ _ h => by cases h
theorem Laws.Row.optCommit (r : Requester) : Laws.Row.Statement (.optCommit r) := fun _ _ h => by cases h
theorem Laws.Row.optDiscard (r : Requester) : Laws.Row.Statement (.optDiscard r) := fun _ _ h => by cases h
theorem Laws.Row.linkChange (port : Fin 4) (l : LinkReport) : Laws.Row.Statement (.linkChange port l) := fun _ _ h => by cases h
theorem Laws.Row.frameReceive (port : Fin 4) (f : EthFrame) : Laws.Row.Statement (.frameReceive port f) := fun _ _ h => by cases h
theorem Laws.Row.prpSupervisionSend : Laws.Row.Statement (.prpSupervisionSend) := fun _ _ h => by cases h
theorem Laws.Row.prpLanFail (lanB : Bool) : Laws.Row.Statement (.prpLanFail lanB) := fun _ _ h => by cases h
theorem Laws.Row.prpLanOk (lanB : Bool) : Laws.Row.Statement (.prpLanOk lanB) := fun _ _ h => by cases h
theorem Laws.Row.beaconSend (signature : List Byte) : Laws.Row.Statement (.beaconSend signature) := fun _ _ h => by cases h
theorem Laws.Row.beaconReceive (b : Beacon) : Laws.Row.Statement (.beaconReceive b) := fun _ _ h => by cases h
theorem Laws.Row.beaconHoldExpiry (serial : Nat) : Laws.Row.Statement (.beaconHoldExpiry serial) := fun _ _ h => by cases h
theorem Laws.Row.discoveryRecordExpiry (serial : Nat) : Laws.Row.Statement (.discoveryRecordExpiry serial) := fun _ _ h => by cases h
theorem Laws.Row.ptpMessage (port : Fin 4) (m : PtpMessage) : Laws.Row.Statement (.ptpMessage port m) := fun _ _ h => by cases h
theorem Laws.Row.ptpMessageSend (port : Fin 4) (k : PtpSend) (sent : Int) : Laws.Row.Statement (.ptpMessageSend port k sent) := fun _ _ h => by cases h
theorem Laws.Row.announceTimeout (port : Fin 4) : Laws.Row.Statement (.announceTimeout port) := fun _ _ h => by cases h
theorem Laws.Row.servoUpdate : Laws.Row.Statement (.servoUpdate) := fun _ _ h => by cases h
theorem Laws.Row.timeStepApply : Laws.Row.Statement (.timeStepApply) := fun _ _ h => by cases h
theorem Laws.Row.holdoverExpiry : Laws.Row.Statement (.holdoverExpiry) := fun _ _ h => by cases h
theorem Laws.Row.timeSave : Laws.Row.Statement (.timeSave) := fun _ _ h => by cases h
theorem Laws.Row.ttLaunch (port : Fin 4) (entry : Fin 256) (delay : Nat) (source : List Byte) : Laws.Row.Statement (.ttLaunch port entry delay source) := fun _ _ h => by cases h
theorem Laws.Row.canFrameRx (port : Fin 4) (frame : CanFrame) (sof : Nat) : Laws.Row.Statement (.canFrameRx port frame sof) := fun _ _ h => by cases h
theorem Laws.Row.canFrameTxEnd (port : Fin 4) (outcome : CanEnd) (sof loopDelay : Nat) : Laws.Row.Statement (.canFrameTxEnd port outcome sof loopDelay) := fun _ _ h => by cases h
theorem Laws.Row.canCyclicQueue (port : Fin 4) (obj : Fin 32) : Laws.Row.Statement (.canCyclicQueue port obj) := fun _ _ h => by cases h
theorem Laws.Row.canRecovered (port : Fin 4) : Laws.Row.Statement (.canRecovered port) := fun _ _ h => by cases h
theorem Laws.Row.canTxAbort (port : Fin 4) (r : Requester) : Laws.Row.Statement (.canTxAbort port r) := fun _ _ h => by cases h
theorem Laws.Row.canRxfPop (port : Fin 4) (r : Requester) : Laws.Row.Statement (.canRxfPop port r) := fun _ _ h => by cases h
theorem Laws.Row.canCtrlRecover (port : Fin 4) (r : Requester) : Laws.Row.Statement (.canCtrlRecover port r) := fun _ _ h => by cases h
theorem Laws.Row.canRefDue (port : Fin 4) : Laws.Row.Statement (.canRefDue port) := fun _ _ h => by cases h
theorem Laws.Row.canTimeMaster (port : Fin 4) : Laws.Row.Statement (.canTimeMaster port) := fun _ _ h => by cases h
theorem Laws.Row.canTimeLost (port : Fin 4) : Laws.Row.Statement (.canTimeLost port) := fun _ _ h => by cases h
theorem Laws.Row.eventPost (e : Event) (inst : BitVec 12) (ended full : Bool) (subject value1 value2 : Word) (extra : BitVec 64) : Laws.Row.Statement (.eventPost e inst ended full subject value1 value2 extra) := fun _ _ h => by cases h
theorem Laws.Row.sbkFlush : Laws.Row.Statement (.sbkFlush) := fun _ _ h => by cases h
theorem Laws.Row.sbkFlushDone (failed : List Nat) : Laws.Row.Statement (.sbkFlushDone failed) := fun _ _ h => by cases h
theorem Laws.Row.sbkRateSummary (e : Event) : Laws.Row.Statement (.sbkRateSummary e) := fun _ _ h => by cases h
theorem Laws.Row.sbkSnapshotExpired : Laws.Row.Statement (.sbkSnapshotExpired) := fun _ _ h => by cases h
theorem Laws.Row.panelFrame : Laws.Row.Statement (.panelFrame) := fun _ _ h => by cases h
theorem Laws.Row.panelTempMeasure (t : Int) : Laws.Row.Statement (.panelTempMeasure t) := fun _ _ h => by cases h
theorem Laws.Row.crackMeasure (ohm : Nat) : Laws.Row.Statement (.crackMeasure ohm) := fun _ _ h => by cases h
theorem Laws.Row.panelRecordWritten (id : Nat) : Laws.Row.Statement (.panelRecordWritten id) := fun _ _ h => by cases h
theorem Laws.Row.panelDischargeDone : Laws.Row.Statement (.panelDischargeDone) := fun _ _ h => by cases h
theorem Laws.Row.panelRedraw : Laws.Row.Statement (.panelRedraw) := fun _ _ h => by cases h
theorem Laws.Row.screen0Redraw (pixels : List Byte) : Laws.Row.Statement (.screen0Redraw pixels) := fun _ _ h => by cases h
theorem Laws.Row.arbAdvance : Laws.Row.Statement (.arbAdvance) := fun _ _ h => by cases h
theorem Laws.Row.powerOn : Laws.Row.Statement (.powerOn) := fun _ _ h => by cases h
theorem Laws.Row.resetN : Laws.Row.Statement (.resetN) := fun _ _ h => by cases h
theorem Laws.Row.watchdog : Laws.Row.Statement (.watchdog) := fun _ _ h => by cases h
theorem Laws.Row.bringUp (b : BootInputs) : Laws.Row.Statement (.bringUp b) := fun _ _ h => by cases h
theorem Laws.Row.holdupReady : Laws.Row.Statement (.holdupReady) := fun _ _ h => by cases h
theorem Laws.Row.resetStorm : Laws.Row.Statement (.resetStorm) := fun _ _ h => by cases h
theorem Laws.Row.stormRetry : Laws.Row.Statement (.stormRetry) := fun _ _ h => by cases h
theorem Laws.Row.clkFallback : Laws.Row.Statement (.clkFallback) := fun _ _ h => by cases h
theorem Laws.Row.huskWatchdog (i : LoneIsland) : Laws.Row.Statement (.huskWatchdog i) := fun _ _ h => by cases h
theorem Laws.Row.islandResetDone (i : LoneIsland) : Laws.Row.Statement (.islandResetDone i) := fun _ _ h => by cases h
theorem Laws.Row.supplySample (m : SupplySample) : Laws.Row.Statement (.supplySample m) := fun _ _ h => by cases h
theorem Laws.Row.powerFailWarning : Laws.Row.Statement (.powerFailWarning) := fun _ _ h => by cases h
theorem Laws.Row.powerFailHold : Laws.Row.Statement (.powerFailHold) := fun _ _ h => by cases h
theorem Laws.Row.powerFail : Laws.Row.Statement (.powerFail) := fun _ _ h => by cases h
theorem Laws.Row.ownLineToggling : Laws.Row.Statement (.ownLineToggling) := fun _ _ h => by cases h
theorem Laws.Row.partnerLineEdge : Laws.Row.Statement (.partnerLineEdge) := fun _ _ h => by cases h
theorem Laws.Row.resetNRelease : Laws.Row.Statement (.resetNRelease) := fun _ _ h => by cases h
theorem Laws.Row.firmwareIdlePoint : Laws.Row.Statement (.firmwareIdlePoint) := fun _ _ h => by cases h
theorem Laws.Row.holdupFull : Laws.Row.Statement (.holdupFull) := fun _ _ h => by cases h
theorem Laws.Row.retentionEnd : Laws.Row.Statement (.retentionEnd) := fun _ _ h => by cases h
theorem Laws.Row.canErrorFrame (port : Fin 4) (k : BusError) : Laws.Row.Statement (.canErrorFrame port k) := fun _ _ h => by cases h

end Sys2Proof
end

