-- ==== Sys2Proof/Laws/Roles.lean ====
section
/-! SUPPORT. Laws/Roles.lean: a change of role leaves the module in the new role, with its cause, driving the owner line exactly when
the role owns the field (R17, R255). -/
namespace Sys2Proof
open Sys2Proof.Machine

theorem leaveField_pair (s : State) : (leaveField s).pair = s.pair := leaveField_changes s (.unit .pair) rfl

theorem changeRole_tail_pair (s : State) (a b c x : Bool) :
    (let s3 := endInjections (roleTests s x) 5
     let s4 := if a then truncateCaptures s3 else s3
     let s5 := if b then ppdRaise s4 2 else s4
     if c then s5 else leaveField s5).pair = s.pair := by
  have h2 : (roleTests s x).pair = s.pair := roleTests_changes s x (.unit .pair) rfl
  have h3 : ∀ t : State, (endInjections t 5).pair = t.pair := fun t => endInjections_changes t 5 (.unit .pair) rfl
  have h4 : ∀ t : State, (truncateCaptures t).pair = t.pair := fun t => truncateCaptures_changes t (.unit .pair) rfl
  have h5 : ∀ t : State, (ppdRaise t 2).pair = t.pair := fun t => ppdRaise_changes t 2 (.unit .pair) rfl
  cases a <;> cases b <;> cases c <;> simp [h2, h3, h4, h5, leaveField_pair]

/-- What a change of role leaves of the pair logic. -/
theorem changeRole_pair {s : State} {r : Role} {cause : Nat} (h : s.pair.role ≠ r) :
    (changeRole s r cause).pair = { s.pair with role := r, cause := cause, decided := true,
                                                streaming := s.pair.streaming && decide (r = .active),
                                                phase := 0, remain := 0, streamNext := false } := by
  have hp : (post s .pairRoleChange 0 (roleCode r) cause (roleCode s.pair.role)).pair = s.pair := post_pair ..
  have k := fun u : State => changeRole_tail_pair u (decide (s.pair.role = .active)) (decide (r = .orphan)) (ownerRole r)
    (ownerRole r && !ownerRole s.pair.role)
  simp only [decide_eq_true_eq] at k
  simp only [changeRole, if_neg h]
  rw [k]
  simp only [driveLine, hp]

theorem changeRole_role (s : State) (r : Role) (cause : Nat) : (changeRole s r cause).pair.role = r := by
  by_cases h : s.pair.role = r
  · simp only [changeRole, if_pos h]
    split
    · exact h
    · exact h
  · rw [changeRole_pair h]

/-- The loss of the partner leaves the role and the outbox alone. -/
theorem partnerLost_pair (s : State) : (partnerLost s).pair =
    { s.pair with prepareAcked := false, phase := 0, remain := 0, streamNext := false } := by
  have h1 : ∀ (t : State) p code wh f, (concludeAll t p code wh f).pair = t.pair := fun t p code wh f =>
    concludeAll_changes t p code wh f (.unit .pair) rfl
  have h2 : ∀ c (t : State) a i n, (raiseIf c t a i n).pair = t.pair := fun c t a i n => by
    unfold raiseIf; split <;> rfl
  have h3 : (dropWaitingSet s).pair = s.pair := dropWaitingSet_changes s (.unit .pair) rfl
  simp only [partnerLost, h1, h2, h3]

theorem applyOutstanding_pair (s : State) : (applyOutstanding s).pair = s.pair := applyOutstanding_changes s (.unit .pair) rfl

theorem applyCommit_own (s : State) (c : Commit) : (applyCommit s c).own = s.own := applyCommit_changes s c (.unit .own) rfl

theorem applyOutstanding_own (s : State) : (applyOutstanding s).own = { s.own with outstanding := [] } := by
  have : ∀ (l : List Commit) (t : State), (l.foldl applyCommit t).own = t.own := by
    intro l
    induction l with
    | nil => intro t; rfl
    | cons c l ih => intro t; rw [List.foldl_cons, ih, applyCommit_own]
  simp only [applyOutstanding, this]

/-- ACTIVE becomes ALONE with nothing waiting for the partner (R19). -/
theorem becomeAlone_alone {s : State} (h : s.pair.role = .active) (cause : Nat) :
    (becomeAlone s cause).pair.role = .alone ∧ (becomeAlone s cause).pair.cause = cause
      ∧ (becomeAlone s cause).own.outstanding = [] := by
  have hp : (partnerLost s).pair.role ≠ .alone := by rw [partnerLost_pair]; simp [h]
  unfold becomeAlone
  rw [if_pos h, applyOutstanding_pair, applyOutstanding_own, changeRole_pair hp]
  exact ⟨rfl, rfl, rfl⟩

end Sys2Proof
end

