-- ==== Sys2Proof/Machine/Contacts.lean ====
section
/-! DEFINITION. Machine/Contacts.lean: the 400 contacts of X1 (R460 to R463): what each carries, how long it is, and the owner line's. -/
namespace Sys2Proof.Machine
open Sys2Proof

/-- What a contact carries (Tables ELE-1 and ELE-3). `minus` is the second contact of a differential pair. -/
inductive Signal where
  | fsup (group : Nat) | fgnd (group : Nat) | channel (n : Nat)
  | qsup (n : Nat) | safeOut (n : Nat) | qgnd (n : Nat) | tpa | tpb | safeIn (n : Nat)
  | gridV (n : Nat) (minus : Bool) | gridI (n : Nat) (minus : Bool) | agnd
  | mdi (port pair : Nat) (minus : Bool) | canH (port : Nat) | canL (port : Nat) | canGnd (port : Nat)
  | ownA | ownB | supA | supB | lgnd
  | laneTx (lane : Nat) (minus : Bool) | laneRx (lane : Nat) (minus : Bool) | refClk (n : Nat) (minus : Bool)
  | resetN | bootSrc (n : Nat) | clkMode (n : Nat) | side | strapHi | cidScl | cidSda | reserved
deriving DecidableEq, Repr

/-- The length of a contact, in the order of mating (R460). -/
inductive ContactLength where
  | long | medium | short
deriving DecidableEq, Repr

/-- The place of contact `n` of row `row` (0 to 7 for A to H), counted row by row from A1 = 0 (R461). -/
def contactAt (row n : Nat) : Nat := 50 * row + n - 1

/-- The row and number of the contact at a place. -/
def contactName (p : Nat) : Nat × Nat := (p / 50, p % 50 + 1)

/-- The place of position `k` of field group `g` (R461). -/
def groupPlace (g k : Nat) : Nat := 20 * g + k

/-- What position `k` of group `g` carries (Table ELE-1). -/
def groupSignal (g k : Nat) : Signal :=
  if k = 0 ∨ k = 10 then .fsup g else if k = 9 ∨ k = 19 then .fgnd g
  else if k < 9 then .channel (16 * g + k - 1) else .channel (16 * g + k - 3)

/-- The place of a channel's one contact. -/
def channelPlace (c : Nat) : Nat := groupPlace (c / 16) (if c % 16 < 8 then c % 16 + 1 else c % 16 + 3)

/-- What place `o` from E41 on carries (Table ELE-3). -/
def rearSignal (o : Nat) : Signal :=
  let minus := decide (o % 2 = 1)
  if o = 0 then .qsup 0 else if o < 5 then .safeOut (o - 1) else if o = 5 then .qgnd 0
  else if o = 6 then .qsup 1 else if o < 11 then .safeOut (o - 3) else if o = 11 then .qgnd 1
  else if o = 12 then .tpa else if o = 13 then .tpb else if o < 30 then .safeIn (o - 14)
  else if o < 46 then .gridV ((o - 30) / 2) minus else if o < 62 then .gridI ((o - 46) / 2) minus
  else if o < 64 then .agnd
  else if o < 96 then .mdi ((o - 64) / 8) ((o - 64) % 8 / 2) minus
  else if o < 108 then
    (match (o - 96) % 3 with
     | 0 => .canH ((o - 96) / 3)
     | 1 => .canL ((o - 96) / 3)
     | _ => .canGnd ((o - 96) / 3))
  else if o = 108 then .ownA else if o = 109 then .ownB
  else if o < 112 then .supA else if o < 114 then .supB else if o < 118 then .lgnd
  else if o < 144 then
    (match (o - 118) % 5 with
     | 0 => .lgnd
     | 1 => .laneTx ((o - 118) / 5) false
     | 2 => .laneTx ((o - 118) / 5) true
     | 3 => .laneRx ((o - 118) / 5) false
     | _ => .laneRx ((o - 118) / 5) true)
  else if o < 148 then .refClk ((o - 144) / 2 + 1) minus
  else if o = 148 then .lgnd else if o = 149 then .resetN
  else if o < 152 then .bootSrc (o - 150) else if o < 154 then .clkMode (o - 152)
  else if o = 154 then .side else if o = 155 then .strapHi else if o = 156 then .cidScl else if o = 157 then .cidSda
  else if o = 158 then .lgnd else .reserved

/-- What the contact at a place carries (R461, R462). -/
def contactSignal (p : Nat) : Signal := if p < 240 then groupSignal (p / 20) (p % 20) else rearSignal (p - 240)

/-- The length of the contact that carries a signal (R460). -/
def contactLength : Signal → ContactLength
  | .lgnd => .long | .fgnd _ => .long | .qgnd _ => .long | .agnd => .long | .canGnd _ => .long
  | .supA => .medium | .supB => .medium | .fsup _ => .medium | .qsup _ => .medium
  | _ => .short

/-- On extraction the contact of one signal breaks before that of another: the shorter one does (R460). -/
def breaksBefore (a b : Signal) : Bool :=
  match contactLength a, contactLength b with
  | .short, .medium => true | .short, .long => true | .medium, .long => true
  | _, _ => false

/-- The owner line of a side (R463). -/
def ownSignal (sideB : Bool) : Signal := if sideB then .ownB else .ownA

/-- The owner line that the module drives, which is its own side's; none while it does not toggle (R463). -/
def ownDrives (s : State) : Option Signal := if s.own.ownDriven then some (ownSignal s.sup.sideB) else none

/-- The owner line that the module reads as its partner's (R463). -/
def ownReads (s : State) : Signal := ownSignal (!s.sup.sideB)

end Sys2Proof.Machine
end

