-- ==== Sys2Proof/WellFormed.lean ====
section
/-! DEFINITION. WellFormed.lean: the commands that the outside world can offer: operands whose lengths and ranges the manual fixes
(Tables CMD-6 to CMD-18, PPD-3, CAN-2, NET-2). A meaning is total and runs on any operands. -/
namespace Sys2Proof

/-- Data bytes of a CAN frame by its format and data length code. -/
def CanFrame.dataBytes (f : CanFrame) : Nat :=
  if f.rtr then 0
  else if f.dlc ≤ 8 then f.dlc
  else if !f.fdf then 8
  else match f.dlc with
    | 9 => 12 | 10 => 16 | 11 => 20 | 12 => 24 | 13 => 32 | 14 => 48 | _ => 64

/-- A CAN frame fits its format: identifier and data length code in range, data of the coded length, no remote FD frame (R371). -/
def CanFrame.ok (f : CanFrame) : Bool :=
  decide (f.id < if f.ext then 536870912 else 2048) && decide (f.dlc < 16) && decide (f.data.length = f.dataBytes)
    && !(f.rtr && f.fdf) && !(f.brs && !f.fdf)

/-- The operands of a command are ones the manual lets arrive. -/
def Instr.wellFormed : Instr → Bool
  | .couplerFrame ms => decide (ms.map (·.sel)).Nodup
  | .injectStart _ _ icb => decide (icb.length = 32)
  | .capArm _ _ ccb => decide (ccb.length = 48)
  | .syncArm _ block => decide (block.length = 32)
  | .safeParamLoad _ set => decide (set.length = 256)
  | .safeParamConfirm _ _ id => decide (id.length = 16)
  | .safety msg set => decide (msg.length = 128) && (match set with
    | some bs => decide (bs.length = 256)
    | none => true)
  | .line _ _ _ _ data _ => decide (data.length = 64)
  | .hrec _ _ _ _ data => decide (data.length % 8 = 0) && decide (8 ≤ data.length) && decide (data.length ≤ 272)
  | .irec _ data _ => decide (data.length % 8 = 0) && decide (data.length ≤ 504)
  | .canSend _ _ f => f.ok
  | .canFrameRx _ f _ => f.ok
  | .beaconSend sig => decide (sig.length = 96)
  | .regWrite _ _ _ ws => decide (1 ≤ ws.length) && decide (ws.length ≤ 256)
  | .loadChunk _ _ data => decide (1 ≤ data.length) && decide (data.length ≤ 65516)
  | .echo _ data => decide (data.length ≤ 256)
  | _ => true

end Sys2Proof
end

