-- ==== Sys2Proof/Tests/Slice0.lean ====
section
/-! SUPPORT. Tests/Slice0.lean: one step each on small states: worked examples of the manual, the checks of well-formed commands, and
states that meet the premises of every statement. -/
namespace Sys2Proof
open Sys2Proof.Machine


/-- A packet's context: session 0, tag 1, and the command queue. -/
def tctxOn (queue : Fin 32) : Ctx := { queue := queue, session := 0, tag := 1 }

/-- The same on queue 8, which admits most commands. -/
def tctx : Ctx := tctxOn 8

/-- An ALONE module with every island released and session 0 open, which holds every role. -/
def tReady : State := { State.reset with own := {}, cmd := { sessions := [{ slot := 0, roles := 31 }] }, pair := { role := .alone } }

/-- A state that meets the premises of the packet statements: ECHO with its island free, and the command processor's window held. -/
theorem meets_ready : ready tReady (.echo tctx []) ∧ owner tReady = true := by unfold ready; decide

theorem meets_husked : packetRow (.start tctx) = some (tctx, 0x0101, 1) ∧ held { tReady with own := { held := [1] } } 1 = true
    ∧ running { tReady with own := { held := [1] } } tctx 0x0101 (.start tctx) := by decide

theorem meets_wrongRole : packetRow (.start tctx) = some (tctx, 0x0101, 1) ∧ ownerRow (.start tctx) = true
    ∧ owner { tReady with pair := {} } = false ∧ readyFor { tReady with pair := {} } tctx 0x0101 1 (.start tctx) := by decide

/-- A command waiting behind another stays in the queue. -/
theorem test_queue_order : (match step { State.reset with pending := [.ownLineStopped, .partnerLineEdge] } with
    | .next t => t.pending
    | _ => []) = [.partnerLineEdge] := by decide

/-- With no command waiting a step idles. -/
theorem meets_idle : State.reset.pending = [] := by decide

/-- A frame of each table names some command, and the flag it lists is no other's. -/
theorem meets_frames : (stationFrame .ownLineStopped).isSome ∧ (hazelFrame (.hazelBatchClose 1)).isSome ∧ (channelFrame (.aoBackfeed 0 true)).isSome := by
  decide


/-- An ACTIVE module with a commit that waits for its acknowledge. -/
def activeWaiting : State := { State.reset with pair := { role := .active, streaming := true }, own := { outstanding := [{ id := 7, kind := .task 0 }], nextCommit := 8 } }

/-- A window that may be released and one that may not. -/
theorem meets_release : releasable { State.reset with sup := { step := 9 } } 3 = true ∧ releasable State.reset 3 = false := by decide

/-- A state that meets the premises of HusksTimeAndAcknowledges on ACK_LATE, and one that meets the other clause's. -/
theorem meets_ackLate : activeWaiting.pair.role = .active ∧ activeWaiting.own.outstanding ≠ [] ∧ State.reset.own.outstanding = [] := by
  decide

/-- ACK 6 covers no commit numbered 7, ACK 7 does, and so does one that has wrapped past it (R18). -/
theorem test_ack_covers : ackCovers 6 7 = false ∧ ackCovers 7 7 = true ∧ ackCovers 3 4294967295 = true := by decide

/-- A line that is driven and one that is not. -/
theorem meets_ownLineToggling : ({ State.reset with own := { ownDriven := true } } : State).own.ownDriven = true
    ∧ State.reset.own.ownDriven = false := by decide


/-- A header that meets Table EXE-6. -/
def tHeader : ImageHeader :=
  { mark := 0x5A1B5349, hdrVersion := 1, hdrLength := 128, programId := 5, releaseVersion := 1, securityVersion := 1, target := 9,
    stationId := 0xFFFF, flags := 0, buildTime := 0, baseCycle := 250, sectionCount := 1, reserved54 := 0, sectionTable := 128, budget := 0,
    sigOffset := 144, sigLength := 105, imageLength := 249, stopGrace := 100, retainPeriod := 1000, handoverDrain := 100, reserved88 := 0 }

/-- An image with no task, no channel and no loop. -/
def tImage : Image :=
  { header := tHeader, tasks := [], objects := [], channels := [], loops := [],
    gmu := { bytes := [], cfg := 0, rocof := 0, scales := [], delays := [], input := [] }, can := [],
    net := { domainPrefix := 0, cellAddress := [], cellPrefix := [], schedule := [], sectionBytes := [] }, screens := [],
    stateBytes := 0, retainBytes := 0, copy := { lines := 0, taskLines := [] }, logicCap := 0,
    sigBlockOk := true, signerDer := [1], signerIsImage := true, signatureOk := true, hash := 0 }

theorem tImage_signed : imageSigned State.reset tImage = true := by decide

theorem tImage_sections : sectionFault tImage = none := by decide +kernel

theorem tImage_structure : structureFault tImage = none := by decide +kernel

theorem worstCycle_nil (m : Nat) : worstCycle [] m = 0 := by
  unfold worstCycle
  have h : ∀ x ∈ (List.range 4096).map (fun b => ((List.range m).map (fun j => slotBlocks [] ((b * m + j) % 4096))).sum), x = 0 := by
    intro x hx
    obtain ⟨b, -, rfl⟩ := List.mem_map.mp hx
    rw [List.sum_eq_zero]
    intro y hy
    obtain ⟨j, -, rfl⟩ := List.mem_map.mp hy
    rfl
  cases e : ((List.range 4096).map (fun b => ((List.range m).map (fun j => slotBlocks [] ((b * m + j) % 4096))).sum)).max? with
  | none => rfl
  | some x => simpa using h x (List.max?_mem e)

theorem gourd_ok : gourdClassesOk State.reset tImage = true := by
  have : ∀ st, groupReturnOk [] st = true := by intro st; simp [groupReturnOk, fullReturn]
  simp [gourdClassesOk, show tImage.channels = [] from rfl, groupDeclared, this, show tImage.logicCap = 0 from rfl]

theorem hazel_ok : hazelCostOk State.reset tImage = true := by
  decide

theorem tImage_budget : budgetFault State.reset tImage = none := by
  have : copyBudgetOk tImage = true := by
    unfold copyBudgetOk
    simp only [show tImage.loops = [] from rfl, worstCycle_nil]
    decide
  simp only [budgetFault, this, gourd_ok, hazel_ok, show tImage.tasks = [] from rfl, show tImage.stateBytes = 0 from rfl,
    show tImage.retainBytes = 0 from rfl, List.any_nil, List.map_nil, show utilisationOk [] = true from rfl]
  simp

theorem tImage_header : headerFault State.reset tHeader = none := by decide

/-- The bytes of that image: its header, one section entry (an empty TASKS section), and a signature block with a certificate of one byte. -/
def tBytes : List Byte :=
  leBytes 4 0x5A1B5349 ++ leBytes 2 1 ++ leBytes 2 128 ++ leBytes 16 5 ++ leBytes 4 1 ++ leBytes 4 1 ++ leBytes 2 9 ++ leBytes 2 0xFFFF
    ++ leBytes 4 0 ++ leBytes 8 0 ++ leBytes 4 250 ++ leBytes 2 1 ++ leBytes 2 0 ++ leBytes 4 128 ++ leBytes 4 0 ++ leBytes 4 144
    ++ leBytes 4 105 ++ leBytes 4 249 ++ leBytes 4 100 ++ leBytes 4 1000 ++ leBytes 4 100 ++ leBytes 40 0
    ++ (leBytes 2 1 ++ leBytes 2 0 ++ leBytes 4 144 ++ leBytes 4 0 ++ leBytes 4 0)
    ++ (leBytes 4 0x5A1B5347 ++ leBytes 2 1 ++ leBytes 2 1 ++ leBytes 96 0 ++ [1])

theorem tBytes_spell : imageOf tBytes tImage = tImage := by decide +kernel

theorem tBytes_table : sectionTableFault tBytes = none := by decide +kernel

theorem tBytes_length : (imageHeaderOf tBytes).imageLength = tBytes.length := by decide +kernel

theorem imageRefusal_none {s : State} {im : Image} (h : headerFault s im.header = none) (b : im.sigBlockOk = true) (g : imageSigned s im = true)
    (v : ¬63 < im.header.securityVersion) (a : ¬im.header.securityVersion < arbCounter s) (st : structureFault im = none)
    (se : sectionFault im = none) (bu : budgetFault s im = none) : imageRefusal s im none = none := by
  simp [imageRefusal, h, b, g, v, a, st, se, bu]

theorem loadRefusal_none {s : State} {bs : List Byte} {im im' : Image} (l : (imageHeaderOf bs).imageLength = bs.length)
    (e : imageOf bs im = im') (t : sectionTableFault bs = none) (h : imageRefusal s im' none = none) : loadRefusal s bs im = none := by
  simp [loadRefusal, l, e, t, h]

/-- The test image passes every load check. -/
theorem tImage_accepted : loadRefusal State.reset tBytes tImage = none :=
  loadRefusal_none tBytes_length tBytes_spell tBytes_table
    (imageRefusal_none tImage_header rfl tImage_signed (by decide) (by decide) tImage_structure tImage_sections tImage_budget)

/-- An ALONE module in STOP with a new image in slot A and a valid retain copy. -/
def tStop : State := { tReady with exe := { station := .stop, slotA := some tImage, copyA := sealRetain { seq := 1 } } }

/-- An ALONE module in RUN with an idle task of period 1, due at time 0. -/
def tRun : State := { tReady with exe := { station := .run, tasks := [(3, { defined := true, period := 1 })] } }

/-- The same with the task running. -/
def tRunning : State := { tReady with exe := { station := .run, tasks := [(3, { defined := true, period := 1, state := .running })] } }

theorem meets_stationBoundaries : owner tRun = true ∧ tRun.exe.station = .run ∧ tRun.exe.stopPending = none ∧ tRun.exe.handover = none
    ∧ tRun.sup.pfw = false ∧ tRun.pair.lanesShort = false ∧ anyRunning tRun = false ∧ (task tRun 3).state = .idle
    ∧ tRun.exe.releaseFrom ≤ boundaryOf tRun ∧ taskDue tRun (boundaryOf tRun) 3 = true ∧ taskDue tRun (boundaryOf tRun) 4 = false ∧ onPairX tRunning 3 = true ∧ onPairX tRunning 4 = false := by decide

/-- The retain store: Gourd free and unwarned, and Gourd behind its Husk with a shadow that holds data. -/
theorem meets_retainWrite : held tStop 4 = false ∧ tStop.grd.pfw = false
    ∧ held { tStop with own := { held := [4] }, exe := { shadowLive := true } } 4 = true
    ∧ ({ tStop with own := { held := [4] }, exe := { shadowLive := true } } : State).exe.shadowLive = true := by decide

/-- A STOP that waits with no instance running, and a restart that waits in STOP. -/
theorem meets_stopEnter : ({ tRun with exe := { stopPending := some .command } } : State).exe.stopPending = some .command
    ∧ anyRunning { tRun with exe := { stopPending := some .command } } = false
    ∧ ({ tStop with exe := { station := .stop, startPending := some { choice := .keep } } } : State).exe.startPending = some { choice := .keep } := by
  decide

theorem meets_stationCommands : ready tStop (.start tctx) ∧ ready tStop (.warm tctx .keep) ∧ ready tStop (.cold tctx .keep) ∧ ready tStop (.stateRead tctx)
    ∧ ready tStop (.changeReport (tctxOn 16) 0 10) ∧ ready tStop (.stop tctx) ∧ held tStop 7 = false ∧ held tStop 6 = false
    ∧ held { tStop with own := { held := [6] } } 6 = true ∧ ready { tStop with own := { held := [6] } } (.stateRead tctx)
    ∧ owner tStop = true ∧ tStop.exe.station = .stop ∧ restartImage tStop = some tImage
    ∧ ForceChoice.keep ≠ .none ∧ retainCopy tStop = some (sealRetain { seq := 1 }) ∧ ready tRun (.stop tctx) ∧ tRun.exe.station = .run := by
  unfold ready; decide +kernel

/-- The end of task 3's instance, with no output. -/
def tEnd : TaskResult :=
  { task := 3, outputs := [], vars := [], calls := [], loops := [], gmuInput := none, canPayloads := [], panel := [], execUs := 80,
    dirtyLines := 0 }

/-- TASK_END on a running task; a task that does not run is left as it is (R42). -/
theorem test_task_end : (match exec (.taskEnd tEnd) tRunning with
    | .next t => ((task t 3).state, (task t 3).lastUs)
    | _ => (.running, 0)) = (TState.idle, 80) := by decide

/-- The ACTIVE module of a pair with a handover that drains, READY link, STANDBY partner and a new image. -/
def tActive : State := { tReady with
  pair := { role := .active, partnerRole := 2, link := .ready, prepareAcked := true }
  exe := { station := .run, slotA := some tImage, handover := some { boundary := none } } }

theorem meets_handover : ready tActive (.handover (tctxOn 4) false) ∧ ready tActive (.swapPrepare (tctxOn 16) .keep) ∧ ready tActive (.swapCancel (tctxOn 16))
    ∧ held tActive 7 = false ∧ tActive.pair.role = .active ∧ ({ tActive with exe := {} } : State).exe.handover = none
    ∧ tActive.pair.partnerRole = 2 ∧ tActive.pair.swapReady = false ∧ anyRunning tActive = false ∧ tActive.own.outstanding = []
    ∧ tActive.pair.link = .ready ∧ hasStandby tActive = true ∧ newImageCommitted tActive = true := by unfold ready; decide

/-- The named boundary has come; a swap with a PREPARING partner; and the PREPARING module itself. -/
theorem meets_swap : ({ tActive with exe := { handover := some { boundary := some 0 } } } : State).exe.handover = some { boundary := some 0 }
    ∧ 0 ≤ tActive.now ∧ tActive.pair.prepareAcked = true
    ∧ ({ tActive with pair := { role := .active, partnerRole := 4, swapReady := true, link := .ready } } : State).pair.partnerRole = 4
    ∧ ({ tActive with pair := { role := .preparing, link := .ready } } : State).pair.role = .preparing := by decide

/-- The handover boundary is the first one at least 20 µs away: 250 µs cycles, from 230 µs on to 250 µs, a nanosecond later to 500 µs
(R277). -/
theorem test_handover_boundary : handoverBoundary { tReady with now := 230000 } = 250000
    ∧ handoverBoundary { tReady with now := 230001 } = 500000 := by decide

/-- A load of four bytes, complete. -/
def tLoad : Load := { slot := 0, queue := 16, length := 4, bytes := [1, 2, 3, 4] }

theorem meets_loads : ready tStop (.loadBegin (tctxOn 16) 0 4) ∧ ready tStop (.verify (tctxOn 16) 0) ∧ tStop.pair.role ≠ .offline ∧ tStop.exe.load = none
    ∧ openLoad { tStop with exe := { load := some tLoad } } (tctxOn 16) = some tLoad ∧ tLoad.bytes.length = tLoad.length
    ∧ ready { tStop with exe := { load := some tLoad } } (.loadCommit (tctxOn 16)) ∧ ready { tStop with exe := { load := some tLoad } } (.loadAbort (tctxOn 16))
    ∧ ready { tStop with exe := { load := some { queue := 16, length := 4 } } } (.loadChunk (tctxOn 16) 0 [1])
    ∧ openLoad { tStop with exe := { load := some { queue := 16, length := 4 } } } (tctxOn 16) = some { queue := 16, length := 4 }
    ∧ slotImage tStop 0 = some tImage := by unfold ready; decide

/-- A checked image that passes. -/
theorem meets_imageCheck : ({ State.reset with exe := { load := some { bytes := tBytes, checking := true } } } : State).exe.load = some { bytes := tBytes, checking := true }
    ∧ loadRefusal State.reset tBytes tImage = none := ⟨rfl, tImage_accepted⟩

/-- A variable of 4 bytes and a force on channel 5's output. -/
def tVar : State := { tReady with exe := { vars := [(9, { cls := .variable, value := [1, 2, 3, 4] })], forces := [{ key := .output 5, value := 1 }] } }

theorem meets_variables : ready tVar (.varRead tctx [(9, 1, 2)]) ∧ ready tVar (.varWrite tctx 9 0 [7]) ∧ ready tVar (.forceSet tctx (.input 191) 1)
    ∧ ready tVar (.forceClear tctx (.output 5)) ∧ ready tVar (.forceClearAll tctx) ∧ ready tVar (.forceList tctx 0 4) ∧ held tVar 4 = false
    ∧ held { tVar with own := { held := [4] } } 4 = true ∧ ready { tVar with own := { held := [4] } } (.forceSet tctx (.input 191) 1) ∧ owner tVar = true ∧ 1 + 2 ≤ (readVar tVar 9).length ∧ (var? tVar 9).isSome = true
    ∧ forceTargetOk tVar (.input 191) = true ∧ forceTargetOk tVar (.input 192) = false ∧ tVar.exe.forces.length < 512
    ∧ (forceOf tVar (.output 5)).isSome = true := by unfold ready; decide


/-- An ALONE module with loop 4 on pod 1 (every field its operator's), an injection block and a capture block. -/
def tIcb : List Byte := [4, 0, 1, 0, 1, 0] ++ List.replicate 24 0 ++ [255, 0]

/-- A capture block for one signal. -/
def tCcb : List Byte := [0, 0, 0, 0, 0, 1] ++ List.replicate 42 0

/-- A loop in AUTO whose fields the operator owns. -/
def tLoop : Loop := { desc := { loop := 4, pod := 1, flags := 7 }, mode := 2 }

def tHazel : State := { tReady with hz := { loops := [(4, tLoop)], gens := [(0, { icb := tIcb }), (1, { icb := tIcb, state := 1 })], caps := [(0, { ccb := tCcb }), (1, { ccb := tCcb, state := 1 })] } }

theorem meets_slot : tHazel.hz.slot ≠ some (tHazel.now / 50000) ∧ owner tHazel = true ∧ held tHazel 2 = false ∧ loop? tHazel 4 = some tLoop
    ∧ slotGiven tHazel (tHazel.now / 50000) = false
    ∧ loopDue tLoop.desc (tHazel.now / 50000) = true ∧ tLoop.unplaced = false ∧ podOf tHazel tLoop ≠ 0
    ∧ ({ tHazel with hz := { slot := some 0 } } : State).hz.slot = some (tHazel.now / 50000) := by decide

theorem meets_pods : (1 : Fin 6).val ∈ tHazel.hz.podMap ∧ (1 : Fin 6).val ∉ tHazel.hz.failedPods ∧ 5 ∉ tHazel.hz.failedPods ∧ 5 ∉ tHazel.hz.podMap
    ∧ 5 ∈ ({ tActive with hz := { failedPods := [5] } } : State).hz.failedPods ∧ tActive.pair.role ≠ .alone ∧ (0 : Fin 6).val = 0 := by decide

/-- A paired module with an open batch. -/
theorem meets_batch : paired activeWaiting = true
    ∧ batch { activeWaiting with hz := { batches := [(2, [{ loop := 4, prior := tLoop }])] } } 2 ≠ [] := by decide

/-- Loop 0 is selected after reset; the registers can be written, the loop allows an injection, and a field of a loop may be the program's. -/
theorem meets_loopRegisters : writable tHazel Reg.hzLoopMode ∧ writable tHazel Reg.hzInj ∧ writable tHazel Reg.hzCap
    ∧ loop? { tHazel with hz := { loops := [(0, tLoop)] } } (selectedLoop tHazel) = some tLoop ∧ field 0x00030002 17 16 = 3
    ∧ bit 0x00030002 24 = false ∧ operatorOwns tLoop.desc 0 = true ∧ operatorOwns ({} : LoopDesc) 0 = false ∧ (gen tHazel 0).state ≠ 1
    ∧ canInject tHazel 0 = false ∧ (gen tHazel 1).state = 1 ∧ capFree tHazel 0 = true ∧ ccbOk tCcb = true ∧ (cap tHazel 1).state = 1 := by
  unfold writable; decide

theorem meets_loopCommands : ready tHazel (.loopRead tctx 4 1) ∧ ready tHazel (.loopMode tctx 4 1 0) ∧ ready tHazel (.loopSp tctx 4 7)
    ∧ ready tHazel (.loopMv tctx 4 7) ∧ ready tHazel (.loopParam tctx 4 5 [1, 2] false) ∧ ready tHazel (.loopParam tctx 4 5 [1, 2] true)
    ∧ ready { tHazel with hz := { loops := [(4, tLoop)] } } (.injectStart tctx 0 tIcb) ∧ ready tHazel (.injectStop tctx 1)
    ∧ ready tHazel (.capArm tctx 0 tCcb) ∧ ready tHazel (.capTrigger tctx 1) ∧ ready tHazel (.capDisarm tctx 1) ∧ ready tHazel (.capRead tctx 1 0 4)
    ∧ owner tHazel = true ∧ loop? tHazel 4 = some tLoop ∧ operatorOwns tLoop.desc 1 = true
    ∧ operatorOwns tLoop.desc 2 = true ∧ canInject (setGen { tHazel with hz := { loops := [(4, tLoop)] } } 0 { icb := tIcb }) 0 = true := by
  unfold ready; decide

/-- Module time 50 µs lies in sample slot 1 (R74). -/
theorem test_hazel_slot_once : (match exec .hazelSlot { State.reset with now := 50000 } with
    | .next t => t.hz.slot
    | _ => none) = some 1 := by decide


/-- Channel `c` of a state in mode `m`. -/
def tMode (s : State) (c m : Nat) : State := setCfg s Reg.fchMode c (word m)

/-- An ALONE module whose outputs conduct, with channel 0 a guarded DO that is on and armed, 1 an AI, 2 an AO, 3 a loop-supplied AI, 4 a
DI and 5 a pulse channel. -/
def tField : State := tMode (tMode (tMode (tMode (tMode (tMode { tReady with
  own := { ownDriven := true, ownSeen := true, partnerQuiet := true }
  fch := { fes := [(0, { state := .armed, driven := 1 })] } } 0 5) 1 0x10) 2 0x13) 3 0x12) 4 1) 5 6

/-- The same with other front-ends. -/
def tFes (fes : Store FrontEnd) : State := { tField with fch := { fes := fes, groups := [(0, { supply := .ok, lowRun := 39 })] } }

theorem meets_frames_supplies : (fe tField (channelOf tField 0)).state = .armed ∧ (group (tFes []) 0).supply ≠ .missing
    ∧ 39 ≤ (group (tFes []) 0).lowRun ∧ (group tField 0).supply = .missing
    ∧ 2000 ≤ (group { tField with fch := { groups := [(0, { highRun := 2000 })] } } 0).highRun
    ∧ (fe (tFes [(1, { reconfiguring := true })]) (channelOf (tFes []) 1)).reconfiguring = true := by decide

theorem meets_digital : isDi (modeOf tField (channelOf tField 4)) = true ∧ evaluatesDo tField 0 = true ∧ (fe tField 0).driven = 1
    ∧ (fe (tFes [(0, { limit := true })]) 0).limit = true ∧ owner tField = true ∧ modeOf tField 0 = 5 ∧ (fe (tFes []) 0).driven = 0
    ∧ (fe (tFes [(0, { driven := 1 })]) 0).driven = 1 ∧ (group (tFes []) (groupOf 0)).supply ≠ .missing
    ∧ (fe (tFes [(4, { comp := true })]) 4).comp = true ∧ (fe (tFes [(0, { comp := true })]) 0).comp = true ∧ (fe (tFes []) 0).comp = false
    ∧ (fe (tFes [(5, { gateEdges := 3, gateLast := 2000 })]) 5).gateEdges = 3 ∧ spanAgrees (fe (tFes [(5, { gateEdges := 3, gateLast := 2000 })]) 5) 200 = true
    ∧ (fe (tFes [(0, { driven := 1 })]) 0).aux.toNat < 5 ∧ 5 ≤ (fe (tFes [(0, { aux := 5 })]) 0).aux.toNat
    ∧ (fe (tFes []) 0).short = false ∧ (fe (tFes []) 0).limit = false ∧ (fe (tFes [(5, { emptyGates := 9 })]) 5).emptyGates = 9
    ∧ bit (cfg (setCfg tField Reg.fchDocfg 0 128) Reg.fchDocfg 0) 7 = true ∧ isPulse (modeOf tField (channelOf tField 5)) = true := by decide

/-- A latched-off output whose force commands it on. -/
theorem meets_retry : evaluatesDo (tFes [(0, { latchedOff := true })]) 0 = true
    ∧ (fe (tFes [(0, { latchedOff := true })]) 0).latchedOff = true ∧ (fe (tFes [(0, { latchedOff := true })]) 0).failed = false
    ∧ (fe (tFes [(0, { latchedOff := true })]) 0).broken = false
    ∧ commanded { tFes [(0, { latchedOff := true })] with exe := { station := .run, forces := [{ key := .output 0, value := 1 }] } } 0 = 1 := by
  decide

theorem meets_bringIns : hasStandby tActive = true ∧ 192 ≤ (200 : Fin 216).val ∧ (fe tField 200).link = none ∧ (fe tField 0).broken = false
    ∧ nextSprout (setRegField { tField with spr := { feQueue := [(0, false)] } } Reg.fchCtrl 0 9 8 2) = some 0
    ∧ (freeSpare { tField with spr := { feBusy := some 0 } } 0).isSome = true
    ∧ freeSpare (tFes [(192, { broken := true }), (193, { broken := true })]) 0 = none := by decide

theorem meets_analogue : isAi (modeOf tField (channelOf tField 1)) = true ∧ conducting tField = true ∧ modeOf tField 1 = 0x10
    ∧ cfgField tField Reg.fchAicfg (channelOf tField 1) 25 16 = 0 ∧ evaluatesLoop tField 1 isAi = true
    ∧ bit (cfg (setCfg tField Reg.fchAicfg 1 1) Reg.fchAicfg 1) 0 = true ∧ modeOf tField 3 = 0x12 ∧ evaluatesLoop tField 2 isAo = true
    ∧ (fe (tFes [(1, { burdenOpen := true })]) 1).burdenOpen = true ∧ (fe (tFes [(1, { burdenRetry := true })]) 1).burdenRetry = true
    ∧ (fe (tFes [(3, { supplyClosed := true })]) 3).supplyClosed = true ∧ (fe (tFes [(3, { supplyOpen := true })]) 3).supplyOpen = true
    ∧ cfgField (setCfg tField Reg.fchAicfg 1 0x10000) Reg.fchAicfg (channelOf tField 1) 25 16 ≠ 0
    ∧ comparesAo (tFes []) 2 = true ∧ atVoltLimit (tFes [(2, { flags := 4, aux := 8000, value := 7000 })]) 2 = true
    ∧ aoReadback (tFes [(2, { flags := 4, aux := 8000, value := 7000 })]) 2 + 400 < aoCommand (tFes [(2, { flags := 4, aux := 8000, value := 7000 })]) 2
    ∧ aoCommand (tFes [(2, { compliance := true })]) 2 ≤ aoReadback (tFes [(2, { compliance := true })]) 2 + 200
    ∧ aoReadback (tFes [(2, { compliance := true })]) 2 < 1000 ∧ atVoltLimit (tFes [(2, { value := 401 })]) 2 = false
    ∧ aoCommand (tFes [(2, { value := 401 })]) 2 + 400 < aoReadback (tFes [(2, { value := 401 })]) 2
    ∧ (fe (tFes [(2, { compliance := true })]) 2).compliance = true ∧ (fe tField 2).compliance = false
    ∧ held tField 4 = false ∧ (fe tField 1).burdenOpen = false ∧ (fe tField 1).burdenRetry = false ∧ owner tField = true
    ∧ (group (tFes []) (groupOf 2)).supply ≠ .missing := by decide

theorem meets_channelCommands : ready tField (.chRead tctx 0 216) ∧ ready tField (.grpRead tctx 11) ∧ ready tField (.chClearFault tctx 0)
    ∧ ready tField (.chSprout tctx 0 255) ∧ ready tField (.chFailsig tctx 2 true) ∧ ready tField (.chFailsig tctx 2 false) ∧ held tField 4 = false
    ∧ ready { tField with own := { held := [4] } } (.chFailsig tctx 2 true) ∧ ready { tField with own := { held := [4] } } (.grpRead tctx 11)
    ∧ held { tField with own := { held := [4] } } 4 = true ∧ owner tField = true ∧ groupSprouting tField 0 = none
    ∧ (freeSpare tField 0).isSome = true ∧ 193 ∈ groupSpares (groupOf 0) ∧ (fe tField 193).link = none ∧ (fe tField 193).broken = false
    ∧ policyAllows (setRegField tField Reg.fchCtrl 0 9 8 2) 0 = true ∧ tField.exe.station ≠ .run ∧ modeOf tField 2 = 0x13 := by
  unfold ready; decide

/-- Below 7,600 counts of 0.5 µA, 3.8 mA, FAIL_LOW is set (Table FCA-4). -/
theorem test_ne43_low : (match exec (.ne43Confirm 1 .lowSet) (setCfg (tFes [(1, { reported := 7599 })]) Reg.fchAicfg 1 1) with
    | .next t => (fe t 1).failLow
    | _ => false) = true := by decide

/-- A pulse beyond 2^32 − 1 counts on from 0 (R133). -/
theorem test_pulse_wraps : (match exec (.pulseEdge { sel := 5, volt := 6553500 }) (tFes [(5, { edgeCount := 4294967295 })]) with
    | .next t => (fe t 5).edgeCount
    | _ => 1) = 0 := by decide


/-- An ALONE module with a synchroscope block that is accepted (auto-sync off, reference VS0, incoming VS1) and trigger 3 confirmed. -/
def tBlock : List Byte := [0, 0, 1, 0, 0, 0, 0, 0, 0x10, 0x27, 0, 0, 10, 0, 10, 0, 10, 0, 10, 0, 0xF4, 1, 1, 0]

def tGmu : State := setGmuBytes { tReady with gmu := { trigs := [(3, { st := 2, counting := true, timing := 1000000 }), (4, { st := 3, counting := true, timing := 1000000 })] } } 0x800 tBlock

theorem meets_budget : tReady.grd.pfw = false ∧ tReady.grd.c3.length < 16 ∧ tReady.grd.c2Aged = false
    ∧ ({ tReady with grd := { pfw := true, c2 := [{ cls := .c2, purpose := .other }] } } : State).grd.pfw = true
    ∧ c2AgeReached { tReady with now := 100000000000, grd := { c2 := [{ cls := .c2, purpose := .other, delayed := some .logicCap }] } } = true
    ∧ c2AgeReached tReady = false ∧ held tReady 4 = false ∧ owner tReady = true
    ∧ owner State.reset = false ∧ ready tReady (.grantlogRead tctx 0 256) := by unfold ready; decide

theorem meets_limits : groupStanding tReady 11 ≤ 8000 ∧ groupModel tReady 11 ≤ 12000 := by decide

theorem meets_gridEvents : (setInputs 3).all (phasorOk { tReady with gmu := { sinceRestart := 100000 } }) = true ∧ tGmu.gmu.pqMinutes.time < minutesEnd { tGmu with now := 600000000000 }
    ∧ minutesEnd tGmu ≤ tGmu.gmu.pqMinutes.time ∧ storeGet (fun _ => none) tGmu.gmu.dips 1 = none
    ∧ phaseMask [8999, 10000, 10000] (fun v => decide (v < 9000)) ≠ 0 ∧ inputStale tGmu = true ∧ tGmu.gmu.staleSeen = false
    ∧ inputStale { tGmu with gmu := { inputTime := some 0 } } = false 
    ∧ ready tGmu (.gmuSubscribe tctx 5) ∧ ready tGmu (.gmuSubscribe tctx 0) ∧ ready tGmu (.harmRead tctx 15) ∧ ready tGmu (.gridEvents tctx)
    ∧ ({ tGmu with gmu := { sum150 := { count := 15 } } } : State).gmu.sum150.count = 15 ∧ owner tGmu = true := by unfold ready; decide

/-- A set whose dip threshold is 90 % of UNOM, with a dip that ends. -/
def tDip : State := setGmuBytes { tReady with gmu := { dips := [(0, some { start := 0, mask := 1, extreme := 8000 })] } } 0x900 [0, 0, 0, 0, 90, 110, 10, 0]

theorem meets_gridEvent : pqThreshold tDip 0 4 = 9000 ∧ phaseMask [8999] (fun v => decide (v < pqThreshold tDip 0 4)) ≠ 0
    ∧ (storeGet (fun _ => none) tDip.gmu.dips 0).isSome = true ∧ storeGet (fun _ => none) tDip.gmu.swells 0 = none
    ∧ ∀ v ∈ [9201, 10000], pqThreshold tDip 0 4 + 200 < v ∧ pqThreshold tDip 0 6 ≤ v := by decide

theorem meets_synchroscope : ready tReady (.syncArm tctx (tBlock ++ leBytes 8 0)) ∧ ready tGmu (.syncDisarm tctx) ∧ writable tGmu Reg.gmuSyncCtrl ∧ syncFree tGmu = true ∧ armRefusal tGmu = none ∧ armRefusal tReady = some 2
    ∧ syncFree { tGmu with gmu := { sync := { state := 3 } } } = false
    ∧ armRefusal (setGmuBytes tReady 0x800 ((tBlock ++ leBytes 8 0).take 24)) = none
    ∧ ({ tGmu with gmu := { sync := { state := 3, frame := 0 } } } : State).gmu.sync.frame ≤ tGmu.now
    ∧ ({ tReady with gmu := { sync := { state := 2, held := true } } } : State).gmu.sync.since
        + syncField { tReady with gmu := { sync := { state := 2, held := true } } } 22 2 * 1000000000 ≤ tReady.now := by
  unfold ready writable; decide

/-- Triggers 3 (armed) and 4 (fired) watch DI channel 0, kind GEN_TRIP, whose entry is valid. -/
def tTrip : State := setGmuBytes (setGmuBytes { tGmu with
  fch := { fes := [(0, { lastGood := true, seenState := .armed })], groups := [(0, { supply := .ok })] } } 96 [4]) 128 [4]

theorem meets_triggers : (trig tTrip 3).st = 2 ∧ (trig tTrip 3).counting = true ∧ trigValid tTrip 3 = true
    ∧ trigField tTrip 3 8 2 * 1000 ≤ (trig tTrip 3).timing ∧ owner tTrip = true ∧ paired tTrip = false ∧ (selectGroups tTrip 3).isSome = true
    ∧ (trig tTrip 4).st = 3 ∧ (trig tTrip 4).counting = true ∧ trigValid tTrip 4 = true
    ∧ trigField tTrip 4 10 2 * 1000 ≤ (trig tTrip 4).timing := by decide

theorem meets_shedding : ready tGmu (.trigArm tctx 0 0) ∧ ready tGmu (.trigArm tctx 0 1) ∧ ready tGmu (.shedRelease tctx 1) ∧ writable tGmu Reg.gmuShedCtrl ∧ (trig tGmu 0).st = 0 ∧ (trig tGmu 3).st = 2 ∧ (trig tGmu 3).counting = true
    ∧ trigField tGmu 3 8 2 * 1000 ≤ (trig tGmu 3).timing ∧ (selectGroups tGmu 3).isSome = true ∧ paired activeWaiting = true ∧ paired tGmu = false
    ∧ (trig tGmu 4).st = 3 ∧ trigField tGmu 4 10 2 * 1000 ≤ (trig tGmu 4).timing ∧ writable tGmu Reg.gmuShedRelhi
    ∧ writable tGmu Reg.gmuShedRello ∧ owner State.reset = false := by unfold ready writable; decide


/-- A parameter set: pair 0 DUAL from the test sources, pair 1 RESET, pair 6 SPEED, function 0 STO of output 0 on pair 0, output 1 with a
light test. -/
def tSet : List Byte :=
  let body := [(0, 0x50), (1, 0x57), (2, 0x1B), (3, 0x5A), (4, 1), (7, 1), (32, 1), (33, 1), (34, 4), (35, 1), (36, 3), (38, 4), (56, 2), (64, 5),
    (68, 5), (69, 1), (72, 5), (76, 5), (80, 5), (84, 5), (88, 5), (92, 5), (96, 1), (98, 1), (104, 1), (105, 1), (106, 1)].foldl
      (fun (m : List Byte) (p : Nat × Nat) => m.set p.1 (BitVec.ofNat 8 p.2)) (List.replicate 252 0)
  body ++ leBytes 4 (safetyCrc body)

/-- The set is one that R250 accepts. -/
theorem tSet_ok : setCrcOk tSet = true ∧ setOffence tSet = none := by decide +kernel

/-- A module whose Walnut goes by this set. -/
def tWnt (w : Walnut) : State := { tReady with wnt := { w with governing := tSet } }

theorem meets_safetyInputs : pairMode (tWnt {}).wnt (0 / 2) = 1 ∧ pairMode (tWnt {}).wnt 1 = 3 ∧ pairSrc (tWnt {}).wnt 0 = true
    ∧ (pairBits (tWnt { inputs := 1 }).wnt.inputs 0).1 ≠ (pairBits (tWnt { inputs := 1 }).wnt.inputs 0).2
    ∧ (spair (tWnt { pairs := [(0, { on := true })] }).wnt 0).on = true ∧ owner (tWnt {}) = true ∧ pairMode (tWnt {}).wnt 6 = 2
    ∧ (tWnt {}).wnt.halfB = true ∧ hasReset (tWnt {}).wnt = true ∧ islandState (tWnt {}).wnt ≠ 2 ∧ hasReset State.reset.wnt = false
    ∧ resetHeldOff (tWnt {}).wnt = false ∧ resetHeldOff (tWnt { pairs := [(1, { cross := true })] }).wnt = true
    ∧ conducting State.reset = false ∧ 20 ∉ (tWnt {}).wnt.stops ∧ defined (tWnt {}).wnt 0 = true := by decide +kernel

/-- The module conducts, its supplies are OK and output 0 is on. -/
def tTests : State := { tWnt { cmd := 1, switchOn := 1, seriesOn := 1, supply0 := true, pairs := [(0, { darkEven := 1 })] } with
  own := { ownSeen := true, partnerQuiet := true } }

theorem meets_safetyTests : owner tTests = true ∧ conducting tTests = true ∧ safeOutputOn tTests 0 = true ∧ (sout tTests.wnt 0).due ≤ tTests.now
    ∧ groupQuiet tTests 0 = true ∧ groupQuiet tTests 1 = true ∧ (sout tTests.wnt 1).lightDue ≤ tTests.now ∧ lightOf tTests.wnt 1 ≠ 0
    ∧ tTests.wnt.cmd.testBit 1 = false ∧ (∀ f < 8, names tTests.wnt f 1 = true → (sfunc tTests.wnt f).st ≠ 1) ∧ outFault tTests.wnt 1 = false
    ∧ groupReady tTests.wnt 1 = true ∧ (spair tTests.wnt 0).darkEven = 1 ∧ pairSrc tTests.wnt 0 = true := by decide +kernel

theorem meets_safetyOutputs : (tWnt { cmd := 1 }).wnt.cmd.testBit 0 = true ∧ (tWnt { supply0 := true }).wnt.supply0 = true
    ∧ (tWnt {}).wnt.cmd.testBit 1 = false ∧ (sout (tWnt { outs := [(1, { test := 3 })] }).wnt 1).test = 3
    ∧ (sout (tWnt { outs := [(0, { test := 1 })] }).wnt 0).test = 1 ∧ names (tWnt {}).wnt 0 0 = true
    ∧ ((tWnt { halfA := false }).wnt.halfA && (tWnt { halfA := false }).wnt.halfB) = false := by decide +kernel

/-- A SAFETY session on command queue 0, with a pending set whose load was answered 120 s ago. -/
def tSafe : State := { tReady with
  now := 120000000000
  cmd := { sessions := [{ slot := 0, roles := 8 }] }
  wnt := { pendingSet := some { bytes := tSet, session := 0 }, failTime := some 0, crosscheck := true, funcs := [(2, { st := 1 })] } }

theorem meets_safetyParameters : readyFor { tSafe with wnt := {} } (tctxOn 0) 0x0801 6 (.safeParamLoad (tctxOn 0) tSet)
    ∧ readyFor tSafe (tctxOn 0) 0x0802 6 (.safeParamConfirm (tctxOn 0) (BitVec.ofNat 32 (blockField tSet 252 4)) ((tSet.drop 8).take 16))
    ∧ readyFor tSafe (tctxOn 0) 0x0803 6 (.safeParamAbort (tctxOn 0)) ∧ ready tSafe (.safeRead (tctxOn 0) 0) ∧ loadWaits tSafe = false
    ∧ owner tSafe = true ∧ safetySender tSafe (tctxOn 0) = true
    ∧ ({ tSafe with wnt := {} } : State).wnt.pendingSet = none ∧ (0 : Nat) = (tctxOn 0).session.val ∧ (0 : Nat) ≠ mirrorSession
    ∧ (tSafe.wnt.pendingSet.map (fun p => decide (p.replied + 120000000000 ≤ tSafe.now))) = some true
    ∧ tSafe.wnt.failTime = some 0 ∧ 0 + wparam tSafe.wnt 24 4 * 60000000000 ≤ tSafe.now ∧ 6 ∉ tSafe.wnt.stops
    ∧ tSafe.wnt.crosscheck = true ∧ tmaxReached tSafe.wnt 2 tSafe.now = true := by unfold ready; decide +kernel

/-- The safety CRC's polynomial governs (log 32); a message of the wrong length is discarded and counted (R245). -/
theorem test_short_message : (match exec (.safety [] none) tReady with
    | .next t => t.wnt.msgErr
    | _ => 0) = 1 := by decide +kernel


/-- A module in a role, with lanes in service. -/
def tPair (p : Pair) : State := { tReady with pair := p }

theorem meets_lanes : (lane (tPair { lanes := [{ state := 2 }, { state := 3 }, { state := 5, logical := 0 }] }) 0).state = 2
    ∧ (lane (tPair { lanes := [{ state := 2 }, { state := 3 }, { state := 5, logical := 0 }] }) 2).state = 5
    ∧ laneIn (tPair { lanes := [{ state := 2 }, { state := 3 }] }) 3 = some 1 ∧ 0 < tReady.pair.lanes.length
    ∧ writable tReady Reg.ppdCtrl ∧ laneIn (tPair { lanes := [{ state := 4 }] }) 4 = some 0
    ∧ laneIn (tPair { lanes := [{ state := 4 }] }) 5 = none := by unfold writable; decide

/-- A lane that passes every phase, with the eye just good enough (Table PPD-4). -/
def tLane (k : Fin 5) : LaneMeasure :=
  { lane := k, detected := true, lock12 := true, lock6 := true, txPreset := 0, rxPreset := 0, eyeH := 60, eyeW := 45, aligned := true }

/-- Three lanes pass EQ, two do not (R260). -/
theorem test_three_lanes : (trainPhase (tPair { link := .eq }) [tLane 0, tLane 1, tLane 2]).pair.link = .align
    ∧ (trainPhase (tPair { link := .eq }) [tLane 0, tLane 1, { tLane 2 with eyeH := 59 }]).pair.link = .eq := by decide

theorem meets_roles : (tPair {}).pair.role = .offline ∧ (tPair {}).pair.decided = false
    ∧ 9 ≤ ({ tReady with sup := { step := 9 } } : State).sup.step ∧ panelSettled { tReady with pnl := { redraw := 0 } } = true
    ∧ roleWaited { tReady with now := 10000000000 } = true ∧ roleWaited { tReady with sup := { upAt := 1 } } = false ∧ tReady.sup.pfw = false
    ∧ writable tReady Reg.ppdCtrl ∧ (tPair { link := .ready }).pair.link = .ready ∧ follower (tPair { role := .syncing }) = true := by
  unfold writable; decide

theorem meets_copy : follower (tPair { role := .standby }) = true ∧ (3 : Byte).toNat ≠ 0x3F ∧ follower (tPair {}) = false
    ∧ (tPair { role := .standby, newcomer := true }).pair.newcomer = true ∧ (tPair { role := .active }).pair.streamNext = false
    ∧ held (tPair {}) 7 = false ∧ (2 : Nat) ∉ (tPair {}).pair.retrain ∧ (tPair { role := .syncing, phase := 1 }).pair.phase = 1 ∧ (tPair { role := .active }).pair.streaming = false
    ∧ paired (tPair { role := .active, streaming := true }) = true
    ∧ newImageCommitted { tStop with pair := { role := .standby } } = true ∧ ({ role := .alone } : RoleNote).swap = .none := by decide

/-- An offset of 20 ns is not above it (R280). -/
theorem test_offset_20ns : (noteDivergence (tPair { offset := 320, divergedSince := some 0 })).pair.divergedSince = none := by decide


/-- At reset the memories are in their canonical form. -/
theorem meets_memoryCanonical : State.reset.mem.wf = true ∧ ({ State.reset with pending := [.trainFail] } : State).mem.wf = true := by decide

/-- A codeword that nothing has written reads clean. -/
theorem meets_reads : readsClean tReady {} 5 ∧ (6 : Nat) < 3670016 := by
  refine ⟨⟨rfl, rfl, ?_⟩, by decide⟩
  decide +kernel

/-- One flipped symbol is an error of one lane, which the decode corrects to zeros. -/
theorem test_one_symbol : (match decodeWord tReady 5 (flipWord (memWord tReady 5) [(4, 0x10)]) with
    | .errors es => correctedLanes tReady 5 (.errors es) == [4]
    | _ => false) = true := by decide +kernel

/-- A module that copies a lane of the buffers' region. -/
def tCopy (p : Nat) : State := { tReady with mem := { regions := [(3, { retired := some 2, copying := some p })] } }

theorem meets_scrub : (region (tCopy 7) 3).copying = some 7 ∧ 7 < regionSize 3 ∧ (region (tCopy 262144) 3).copying = some (regionSize 3)
    ∧ tReady.mem.lapRaised = false ∧ ({ tReady with mem := { lapRaised := true } } : State).mem.lapRaised = true := by decide

theorem meets_copyStep : readsClean (tCopy 7) {} (regionBase 3 + 7) := by
  refine ⟨rfl, rfl, ?_⟩
  decide +kernel

theorem meets_mram : mramFree tReady ≠ 0 ∧ mramWaits tReady { use := .plain, addr := 0, data := [7], verifies := true } = false
    ∧ mramWaits { tReady with mem := { remapping := some (1, 4096, [7]) } } { use := .plain, addr := 4096, data := [7], verifies := true } = true
    ∧ remapWaits tReady = false ∧ remapWaits { tReady with grd := { c2 := [{ cls := .c2, purpose := .mramRemap false }] } } = true ∧ ({ tReady with mem := { remapping := some (1, 4096, [7]) } } : State).mem.remapping = some (1, 4096, [7])
    ∧ ready tReady (.memlogRead tctx) ∧ ready tReady (.memlogClear tctx) ∧ ready tReady (.sproutRead tctx) ∧ held tReady 8 = false
    ∧ ready { tReady with own := { held := [8] } } (.sproutRead tctx) ∧ held { tReady with own := { held := [8] } } 8 = true
    ∧ mramReached 4096 [7] 256 ∧ mramReached 4096 (List.replicate 16 7) 256 ∧ ¬(4096 = 16 * 256 ∧ ([7] : List Byte).length = 16) := by
  unfold ready mramReached; decide

/-- Sprout with these parts in use. -/
def tSpr (x : Sprout) : State := { tReady with spr := x }

theorem meets_cores : (tSpr {}).spr.coreX = false ∧ (tSpr {}).spr.corePending = none ∧ (tSpr {}).spr.coreBusy = false
    ∧ regField (tSpr {}) Reg.sprCfg 0 1 1 = 1 ∧ hasStandby (tSpr {}) = false ∧ coreSwapAllowed (tSpr {}) = true
    ∧ (tSpr { corePending := some .x, coreBusy := true }).spr.corePending = some .x ∧ 3 ≤ (tSpr { oscRun := 3 }).spr.oscRun
    ∧ (tSpr { oscBusy := some 3 }).spr.oscBusy ≠ none ∧ (tSpr {}).spr.coreNext = none ∧ (tSpr {}).spr.oscs = [1, 2] ∧ (0 : Fin 6).val + 1 ∈ (tSpr {}).spr.cells ∧ (tSpr { cellBusy := some 2 }).spr.cellBusy = some 2 := by decide


/-- An ECHO of two bytes on queue 8 with tag 7 and the sequence number 1, with its CRC-32C. -/
def tPacket : List Byte :=
  let p := leBytes 2 0x5A1B ++ leBytes 1 1 ++ leBytes 1 8 ++ leBytes 2 0x0E01 ++ leBytes 2 7 ++ leBytes 4 2 ++ leBytes 4 1 ++ [0x11, 0x22]
  p ++ leBytes 4 (crc32c p)

/-- A module with a VIEW session on slot 0 (OPERATE beside it). -/
def tView : State := { tReady with cmd := { sessions := [{ slot := 0, roles := 3 }] } }

theorem meets_arrival : framed tPacket ∧ packetCrcOk tPacket = true ∧ sessionOf tView.cmd 0 = some { slot := 0, roles := 3 }
    ∧ arrivalFault tView { slot := 0, roles := 3 } (headerOf tPacket) (payloadOf tPacket) = none
    ∧ arrivalFault tView { slot := 0, roles := 3, seqIn := 1 } (headerOf tPacket) (payloadOf tPacket) = some (.badParam, 0xFFFFFF0C)
    ∧ packetCrcOk (tPacket.set 16 0x12) = false ∧ ¬framed (tPacket.set 0 0) ∧ held tView 0xE = false
    ∧ bit (reg tView Reg.cmdCfg 0) 20 = true ∧ tPacket.length = (headerOf tPacket).length + 20 ∧ sessionOf tView.cmd 16 = none
    ∧ unframe (frameOf tPacket) = some tPacket ∧ unframe [0x7E, 0x7D] = none := by
  unfold framed; decide +kernel

/-- The packet is queued, so that the first statement speaks of something. -/
theorem test_packet_queued : (match exec (.packetArrival 0 tPacket) tView with
    | .next t => (queueOf t.cmd 8).length
    | _ => 0) = 1 := by decide +kernel

/-- A certificate with the role OPERATE in slot 2. -/
def tCert : Certificate := { der := [1], v3 := true, p384 := true, roleOus := 1, roles := some 2, notAfter := 10, failOffset := 0 }

/-- A module in service with that certificate. -/
def tTrust : State := { tReady with tru := { slots := [(2, tCert)], keyOk := true } }

theorem meets_sessionOpen : bit (reg (setReg tTrust Reg.cmdCfg 0 0x001F0000#32) Reg.cmdCfg 0) 16 = true
    ∧ tTrust.sup.trimFault = false ∧ netSessions tTrust.cmd < 16 ∧ credentialSlot tTrust [1] = some (2, tCert)
    ∧ credentialSlot tTrust [2] = none ∧ dateOk tTrust tCert = true ∧ dateOk { tTrust with net := { everLocked := true }, now := 20000000000 } tCert = false := by
  decide

/-- A session is idle once IDLE_T has passed. -/
theorem meets_sessionIdle : sessionIdle { tView with now := 10000000000000 } 0 = true ∧ sessionIdle tView 0 = false := by decide

/-- A module with two queues that can start. -/
def tQueued : State := { tReady with cmd := { sessions := [{ slot := 0 }]
                                              queues := [(4, [{ opcode := 0x0101, arrived := 5 }]), (8, [{ opcode := 0x0E01, arrived := 3 }])] } }

theorem meets_dispatch : executingCount tQueued.cmd < 8 ∧ nextOf tQueued.cmd 1 = some 4 ∧ nextOf tQueued.cmd 2 = some 8 ∧ nextOf tQueued.cmd 0 = none
    ∧ tQueued.cmd.starts < regField tQueued Reg.cmdAge 0 10 0 ∧ longestWaiting tQueued.cmd = some 8
    ∧ regField tQueued Reg.cmdAge 0 10 0 ≤ ({ tQueued.cmd with starts := 2000 } : Commands).starts := by decide

theorem meets_notifyLost : ({ subs := [{ queue := 3 }] } : Commands).subs.find? (fun x => decide (x.queue = 3)) = some { queue := 3 }
    ∧ notifyFull { replies := [(3, List.replicate 16 { opcode := 0x0301, code := .ok })] } 3 = true ∧ notifyFull {} 3 = false
    ∧ ready tReady (.echo tctx []) ∧ ready tReady (.sessions tctx) ∧ ([] : List Byte).length ≤ 256 := by unfold ready; decide


/-- A module with SUP_LOCK at `w`. -/
def tLock (w : Word) : State := setReg tReady Reg.supLock 0 w

theorem meets_snapshots : snapReg 4 = some Reg.grdSnap ∧ held tReady 4 = false ∧ keyStep tReady ≠ 1 ∧ keyStep (tLock 4) = 1
    ∧ ready tReady (.snapshot tctx 4) ∧ ready tReady (.snapshot tctx 6) ∧ (regSpec? Reg.wntPair).isSome = true := by unfold ready; decide

theorem meets_permanentLock : permLocked (tLock 3) = true ∧ devLocked (tLock 3) = true ∧ permLocked (tLock 1) = false ∧ held (tLock 3) 0 = false
    ∧ resetRow .trainFail = false ∧ ({ tReady with sup := { alwaysOn := false } } : State).sup.alwaysOn = false
    ∧ (recentResets tReady).length < 8 ∧ tReady.sup.resetN = false := by decide

/-- SUP_WDOG is written under no lock. -/
theorem meets_registerAccesses : writable tReady Reg.supWdog ∧ (regSpec? Reg.supWdog).isSome = true ∧ instanceOf tReady .none = some 0
    ∧ regSpec? 0x00010FFC = none ∧ addrOk 0x00010FFC = true ∧ spanOk Reg.exeFlags false 1 = true ∧ plainRead Reg.exeFlags
    ∧ ready tReady (.regRead tctx (word Reg.exeFlags) 1 false) ∧ ready tReady (.regWrite tctx (word Reg.supWdog) false [100])
    ∧ ready tReady (.regMaskwrite tctx (word Reg.supWdog) 255 100) ∧ listedWrite Reg.supWdog 100 = false ∧ isIdxData Reg.supWdog = false ∧ idxPair 4 = some (Reg.grdIdxAddr, Reg.grdIdxData, 8192)
    ∧ isIdxAddr Reg.grdIdxAddr = true ∧ addrOk 2 = false := by unfold writable plainRead ready; decide

theorem meets_ordinary : ∃ sp, regSpec? Reg.supWdog = some sp ∧ ordinary sp ∧ outOfRange Reg.supWdog (storedWord tReady sp 0 100) = false
    ∧ word sp.rw ≠ 0 ∧ outOfRange Reg.supWdog (storedWord tReady sp 0 9) = true :=
  ⟨_, rfl, by unfold ordinary; decide, by decide, by decide, by decide⟩

theorem meets_keyTimeout : ({ tLock 4 with now := 10000001 } : State).sup.keyAt + 10000000 < ({ tLock 4 with now := 10000001 } : State).now := by decide

theorem meets_flags : ∃ sp, regSpec? Reg.exeFlags = some sp ∧ sp.w1c ≠ 0 ∧ instanceOf tReady sp.bank = some 0 ∧ keyStep (tLock 0) = 0
    ∧ sameRequester .stationCode .stationCode = true := ⟨_, rfl, by decide⟩

/-- Staged values of Gourd: GRD_CFG in and out of its range. -/
theorem meets_staged : gourdCheck tReady 0 Reg.grdCfg 0x00640005 = true ∧ gourdCheck tReady 0 Reg.grdCfg 0 = false ∧ Reg.grdCfg / 65536 = 4
    ∧ Reg.netPortCfg / 65536 = 9 ∧ Reg.pnlCfg / 65536 = 0xC ∧ Reg.gmuIndelay / 65536 = 5 ∧ Reg.canCfg / 65536 = 0xA
    ∧ writable tReady Reg.fchCtrl ∧ instanceOf tReady .frontEnd = some 0 := by unfold writable; decide


/-- A module whose port 0 is as given. -/
def tPort (x : NetPort) (n : Net) : State := setNetPort { tReady with net := n } 0 x

theorem meets_links : tTrust.tru.keyOk = true ∧ tTrust.pair.role ≠ .offline ∧ cfgField (setCfg tReady Reg.netPortCfg 0 1) Reg.netPortCfg 0 0 0 ≠ 0
    ∧ (netPort (tPort { linked := true } {}) 0).linked = true ∧ (netPort tReady 0).linked = false
    ∧ lanOk (tPort {} { lanA := true }) false = true ∧ (tPort { linked := true } { backA := some 0 }).net.backA = some 0
    ∧ lanSilent (tPort { linked := true } {}) 0 = false ∧ carriesFrames (tPort { linked := true, lastFrame := some 0 } {}) 0 = true := by decide

/-- The ports of a module without a schedule are free. -/
theorem meets_portFree : portFree tReady 0 ∧ portFree tReady 1 := by unfold portFree; decide

theorem meets_ptp : ptpOn (setCfg (tPort { linked := true } {}) Reg.netPortCfg 0 2) 0 = true ∧ masterOnly tReady 0 = false
    ∧ requestResponse tReady 0 = true ∧ (netPort (tPort { master := some 5, masters := [{ data := { source := 5, grandmaster := 5, priority1 := 0, clockClass := 6, accuracy := 0, variance := 0, priority2 := 0, steps := 0 } }] } {}) 0).master = some 5
    ∧ ({ tReady with net := { step := some (7, 0) } } : State).net.step = some (7, 0) ∧ steersItself tReady = true := by decide

/-- A grandmaster of class 6, announced twice. -/
def tMaster : PtpMaster :=
  { data := { source := 5, grandmaster := 5, priority1 := 0, clockClass := 6, accuracy := 0, variance := 0, priority2 := 0, steps := 0 }, seen := [0, 0] }

/-- A module that follows it with an offset. -/
def tFollow (off : Int) (n : Net) : State :=
  setCfg (tPort { linked := true, master := some 5, grandmaster := 5, masters := [tMaster], offset := some off } { n with initAcq := false }) Reg.netPortCfg 0 2

theorem meets_servo : (selectSlave (tFollow 9 { servo := .acquiring })).net.slave = 0
    ∧ (netPort (selectSlave (tFollow 9 { servo := .acquiring })) 0).offset = some 9
    ∧ (selectSlave (tFollow 9 { servo := .acquiring })).net.servo = .acquiring
    ∧ (9 : Int).natAbs ≤ jumpLimit (tFollow 9 {}) ∧ jumpLimit (tFollow 9 {}) < (1000000000 : Int).natAbs := by decide

/-- A schedule entry of port 0 with a period of 4 ns. -/
def tLaunch : State := tPort { schedule := [(1, 1), (8, 4)] } {}

theorem meets_launch : owner tLaunch = true ∧ ttField tLaunch 0 0 1 1 % 2 = 1 ∧ ttField tLaunch 0 0 8 8 ≠ 0 ∧ ttField tLaunch 0 0 16 4 ≤ tLaunch.now
    ∧ (tLaunch.now - ttField tLaunch 0 0 16 4) % ttField tLaunch 0 0 8 8 = 0 ∧ ready tReady (.timeRead tctx) ∧ ready tReady (.timeAcceptJump tctx)
    ∧ pastHandover tLaunch = false ∧ storeGet (fun _ => none) (netPort tLaunch 0).launched 0 ≠ some tLaunch.now ∧ dueBefore tLaunch 0 0 = []
    ∧ tReady.grd.pfw = false ∧ steersItself { tReady with pair := { role := .standby, link := .ready } } = false
    ∧ ({ tReady with net := { jumpRefused := true } } : State).net.jumpRefused = true := by unfold ready; decide


/-- An ALONE module whose stages conduct, with port 1 enabled as given; CAN_CFG `w`. -/
def tCan (w : Word) (x : CanPort) : State :=
  setPort (setCfg { tReady with own := { ownSeen := true, partnerQuiet := true } } Reg.canCfg 1 w) 1 { x with enabled := true }

/-- An object's entry, in transmission in buffer 0. -/
def tEntry : TxEntry := { src := .object 3, frame := { id := 0x123, dlc := 1, data := [7] } }

theorem meets_canTransmission : transmitting (canPort (tCan 1 { buffers := [{ state := 2, entry := some tEntry }, {}, {}] }) 1) = some (0, tEntry)
    ∧ transmitting (canPort (tCan 1 {}) 1) = none ∧ (canPort (tCan 1 {}) 1).buffers.length = 3
    ∧ txObject (canPort (tCan 1 { objects := [{ object := 3, enabled := true, cyclic := true }] }) 1) 3 = some { object := 3, enabled := true, cyclic := true }
    ∧ (txState (canPort (tCan 1 { tx := [(3, { committed := true })] }) 1) 3).committed = true ∧ writable (tCan 1 {}) Reg.canCtrl
    ∧ sendable (tCan 1 {}) 1 { id := 1, dlc := 1, data := [7] } = true ∧ sendable (tCan 1 {}) 1 { id := 2048 } = false
    ∧ canCounts (tCan 1 { tstate := 3 }) 1 = true ∧ canNormal (tCan 1 { tstate := 2 }) 1 = true ∧ ready (tCan 1 {}) (.canSend tctx 1 { id := 1, dlc := 1, data := [7] }) ∧ ready (tCan 1 {}) (.canStatus tctx 1) ∧ ready (tCan 1 {}) (.canRecover tctx 1)
    ∧ pastHandover (tCan 1 {}) = false
    ∧ (tCan 1 {}).now % (10 * 1000000) = 0 ∧ (tCan 1 { tstate := 3 }).now % refPeriodNs (tCan 1 { tstate := 3 }) 1 = 0
    ∧ ({ tReady with exe := { station := .stop } } : State).exe.station = .stop := by unfold ready writable; decide

theorem meets_canReception : canReceives (tCan 1 {}) 1 ∧ ¬canReceives tReady 1 ∧ canCfg (tCan 1 {}) 1 1 1 = 0 ∧ canCfg (tCan 0x11 {}) 1 4 4 ≠ 0
    ∧ (List.range 32).find? (filterMatches (canPort (tCan 1 { filters := [(8, 1)] }) 1) { id := 5 }) = some 0
    ∧ filterField (canPort (tCan 1 { filters := [(8, 1)] }) 1) 8 1 = 1
    ∧ filterField (canPort (tCan 1 { filters := [(8, 2)] }) 1) 8 1 = 2
    ∧ (List.range 32).find? (filterMatches (canPort (tCan 1 {}) 1) { id := 5 }) = none := by unfold canReceives; decide

/-- A 12-byte FD code, and a classical frame that carries at most 8 (R373). -/
theorem test_dlc : dlcBytes true 9 = 12 ∧ dlcBytes true 15 = 64 ∧ dlcBytes false 9 = 8 := by decide


/-- Seedbank in this state, on a module that answers. -/
def tSbk (b : Seedbank) : State := { tReady with sbk := b, grd := { claims := [{ cls := .c2, amount := 450, purpose := .seedbankFlush }] } }

/-- One record not yet in the log, and a flush that covers it. -/
def tRing : Seedbank := { ring := [(1, some { seq := 1 })], newest := 1, flushing := true, flushTo := 1 }

theorem meets_seedbank : ready (tSbk {}) (.sbkRead tctx 1 1) ∧ ready (tSbk {}) (.sbkSnapshot tctx) ∧ ready (tSbk {}) (.sbkRelease tctx) ∧ ready (tSbk {}) (.sbkSubscribe tctx 3)
    ∧ frozenByOther (tSbk { frozen := some { first := 1, last := 2, session := 4, expires := 5 } }) 0 = true
    ∧ (tSbk tRing).sbk.flushing = true ∧ hasClaim (tSbk tRing) .seedbankFlush = true ∧ (tSbk tRing).sbk.frozen = none
    ∧ ([0] : List Nat).contains (logBlock (tSbk tRing).sbk.logAt) = true := by unfold ready; decide

theorem meets_flush : flushStarts (tSbk { flushDue := true }) = true ∧ flushStarts (tSbk {}) = false ∧ held (tSbk {}) 4 = false
    ∧ held { tSbk {} with own := { held := [4] } } 4 = true ∧ (5 : Nat) ≤ ({ tSbk {} with now := 5 } : State).now := by decide

theorem meets_admitted : admits (tSbk {}).sbk { event := .sbkStart, time := 0 } = true := by decide

theorem meets_suppressed : admits { buckets := [(Event.sbkStart.ctorIdx, {})] } { event := .sbkStart, time := 0 } = false := by decide

theorem meets_rateSummary : (bucketOf { buckets := [(Event.sbkStart.ctorIdx, { pending := 3 })] } .sbkStart).pending ≠ 0
    ∧ Event.sbkStart ≠ .sbkRateSummary
    ∧ (bucketOf { buckets := [(Event.sbkStart.ctorIdx, { pending := 3 })] } .sbkStart).suppressedAt + 60000000000 ≤ 60000000000 := by decide

/-- What the flush covers. -/
theorem test_flush_covers : toFlush tRing = [{ seq := 1 }] := by
  have h : (tRing.ring.filterMap (fun p => p.2)).filter (fun r => seqAfter r.seq tRing.logged) = [{ seq := 1 }] := by decide
  rw [toFlush, ringAfter, h, List.mergeSort_singleton]
  decide

/-- A snapshot that waits is found. -/
theorem meets_snapshotWaiting : (await (tSbk {}) tctx 0x0902 0xB 0).cmd.executing.find? (fun x => decide (x.opcode = 0x0902)) ≠ none := by decide


/-- The panel in this state, on a module that answers. -/
def tPnl (p : Panel) : State := { tReady with pnl := p }

/-- A rectangle of 8 by 1 pixels. -/
def tRect : PanelReq := { w := 8, h := 1, pixels := [0x1B, 0x1B] }

theorem meets_panel : ready (tPnl {}) (.panelUpdate tctx 0 0 8 1 0 [0x1B, 0x1B]) ∧ ready (tPnl {}) (.panelScreen tctx 0) ∧ ready (tPnl {}) (.panelStatus tctx)
    ∧ panelClaimsFit (tPnl {}) ∧ (tPnl {}).pnl.cracked = false
    ∧ (tPnl { running := [{ req := tRect }], pumps := true }).pnl.running = [{ req := tRect }]
    ∧ ({ req := tRect } : PanelRun).frames + 1 < updateFrames tRect.kind ∧ updateFrames tRect.kind ≤ ({ req := tRect, frames := 23 } : PanelRun).frames + 1
    ∧ tRect.kind ≠ 2 ∧ overlaps tRect stampRect = false ∧ tRect.pixels.length = tRect.w * tRect.h / 4
    ∧ panelMayStart (tPnl { released := true }) = true := by unfold ready panelClaimsFit; decide

theorem meets_redraw : panelHalted (tPnl { redraw := 3 }) = false ∧ (tPnl { redraw := 1, measured := true, tempMeasured := true }).pnl.tempMeasured = true
    ∧ hasClaim { tPnl { redraw := 2 } with grd := { claims := [{ cls := .c3, amount := 300, purpose := .panelRedraw }] } } .panelRedraw = true
    ∧ panelHalted (tPnl { cracked := true }) = true ∧ (tPnl { released := true }).pnl.shown ≠ some (screenItems (tPnl { released := true })) ∧ (tPnl { redraw := 1, measured := true }).pnl.redraw = 1 ∧ (tPnl { redraw := 3 }).pnl.redraw = 3
    ∧ (tPnl { queue := [{ phase := 2 }] }).pnl.queue = [{ phase := 2 }] ∧ ({ phase := 2 } : PanelReq).id = 0
    ∧ (tPnl { released := true }).pnl.released = true := by decide

/-- The leftmost pixel is in the two highest bits (R408): 0x1B is white, light grey, dark grey, black. -/
theorem test_pixels : (List.range 4).map (requestLevel tRect) = [0, 1, 2, 3] := by decide

/-- −10 °C is not too cold, and once too cold −8 °C is warm enough (R411). -/
theorem test_cold : (match exec (.panelTempMeasure (-10)) (tPnl {}) with
    | .next t => t.pnl.cold
    | _ => true) = false ∧ (match exec (.panelTempMeasure (-8)) (tPnl { cold := true }) with
    | .next t => t.pnl.cold
    | _ => true) = false := by decide


/-- A service-port session with a fresh nonce; slot 3 holds an ENGINEER certificate, slot 2 another. -/
def tEngineer : Certificate := { tCert with roles := some 4 }

def tctx16 : Ctx := { queue := 8, session := 16, tag := 1 }

def tService : State := { tReady with
  cmd := { sessions := [{ slot := 16, roles := 31 }, { slot := 0, roles := 31 }], nonce := some (7, 0) }, tru := { slots := [(2, tCert), (3, tEngineer)], keyOk := true } }

theorem meets_trust : (ready tService (.authChallenge tctx16 7) ∧ ready tService (.authResponse tctx16 2 true) ∧ ready tService (.certRead (tctxOn 16) 0)
      ∧ ready tService (.csrMake (tctxOn 16) [] [1]) ∧ ready tService (.certInstall (tctxOn 16) 8 tEngineer) ∧ ready tService (.certRemove (tctxOn 16) 2))
    ∧ tService.tru.busy = none ∧ slotCert tService 2 = some tCert
    ∧ slotCert tService 4 = none ∧ losesEngineer tService 2 none = false ∧ losesEngineer tService 3 none = true ∧ responseGood tService 2 true tCert
    ∧ dateOk tService tCert = true ∧ installable tService 8 tEngineer = true ∧ installable tService 9 tEngineer = false
    ∧ (∀ x ∈ tService.cmd.sessions, x.credential ≠ 8) ∧ commissioning tService = false
    ∧ ({ tService with tru := { busy := some {} } } : State).tru.busy.isSome = true := by
  refine ⟨by unfold ready; decide, by decide, by decide, by decide, by decide, by decide, ⟨by decide, ⟨7, 0, rfl, by decide⟩, rfl, by decide, by decide⟩, by decide, by decide, by decide, by decide, by decide, by decide⟩

/-- A module fresh from the factory: its first certificate. -/
theorem meets_commissioning : ready { tService with tru := {} } (.certInstall tctx16 1 tEngineer) ∧ commissioning { tService with tru := {} } = true
    ∧ installable { tService with tru := {} } 1 tEngineer = true ∧ isEngineer tEngineer = true
    ∧ ¬(∀ q, ({ tService with now := 60000000000, tru := { proof := some (16, 0) } } : State).tru.proof = some q → 60000000000 < q.2 + 60000000000)
    ∧ ({ tService with tru := { waitingOps := [{ opcode := 0x0B06, slot := 2 }] } } : State).tru.waitingOps = [{ opcode := 0x0B06, slot := 2 }] := by
  refine ⟨by unfold ready; decide, by decide, by decide, by decide, by decide, by decide⟩

/-- A running image of version 1 on a module whose counter is 0. -/
theorem meets_advance : ({ tRun with exe := { tRun.exe with image := some tImage } } : State).exe.image = some tImage
    ∧ tRun.exe.station = .run ∧ tRun.tru.fuses < min 63 tImage.header.securityVersion ∧ tRun.tru.fuses ≤ 63 := by decide


/-- The supervisor in this state. -/
def tSup (u : Supervisor) : State := { tReady with sup := u }

theorem meets_resets : resetHeld (tSup {}) = false ∧ resetHeld (tSup { pfw := true }) = true ∧ (tSup { alwaysOn := true, pfwDone := true }).sup.pfwDone = true
    ∧ writable (tSup {}) Reg.supReset ∧ writable (tSup {}) Reg.supOptCtrl ∧ hasStandby tActive = true ∧ hasStandby (tSup {}) = false
    ∧ (tSup { dueReset := some { cause := 4 } }).sup.dueReset = some { cause := 4 } ∧ ({ cause := 4 } : DueReset).due ≤ (tSup {}).now
    ∧ selfResetDue { tSup {} with now := 10000000, pair := { role := .offline, partnerRole := 1 }, spr := { mismatch := some .x } } = true
    ∧ 8 ≤ (recentResets (tSup { resets := List.replicate 8 0 })).length ∧ (tSup { storm := true }).sup.storm = true
    ∧ ({ tSup { storm := true } with now := 10000000000 } : State).sup.resets.getLastD 0 + 10000000000 ≤ alwaysOnTime { tSup { storm := true } with now := 10000000000 }
    ∧ loneWindow .panel ∈ (tSup { islandReset := [0xC] }).sup.islandReset ∧ held (tSup {}) (loneWindow .can) = false := by
  unfold writable; decide

theorem meets_supplies : (tSup { step := 6 }).sup.step = 6 ∧ (tSup { clkUse := 1 }).sup.clkUse = 1 ∧ (tSup { aOk := true, aLow := 19 }).sup.aOk = true
    ∧ (319 : BitVec 10).toNat < 320 ∧ 360 ≤ (360 : BitVec 10).toNat ∧ 1999 ≤ (tSup { aHigh := 1999 }).sup.aHigh
    ∧ (tSup { lostAt := some 0, railHigh := 19 }).sup.lostAt = some 0 ∧ warningDue (tSup { lostAt := some 0 }) = true
    ∧ warningDue (tSup { lostAt := some 0, lossFull := true }) = false ∧ warningDue (tSup {}) = false ∧ (tSup {}).sup.pfw = false ∧ (tSup { pfw := true }).sup.pfw = true := by decide

/-- The twentieth low sample loses input A, the nineteenth does not (Table RST-6). -/
theorem test_supply_lost : (match exec (.supplySample { a := 319, b := 400, rail := 400 }) (tSup { aOk := true, aLow := 19 }) with
    | .next t => t.sup.aOk
    | _ => true) = false ∧ (match exec (.supplySample { a := 319, b := 400, rail := 400 }) (tSup { aOk := true, aLow := 18 }) with
    | .next t => t.sup.aOk
    | _ => false) = true := by decide

/-- CH037 is at A47, group G02 takes A41 to B10, and SQ4 to SQ7 take E48 to F1 (R461, R462). -/
theorem test_contacts_named : contactName (channelPlace 37) = (0, 47) ∧ contactName (groupPlace 2 0) = (0, 41)
    ∧ contactName (groupPlace 2 19) = (1, 10) ∧ contactSignal (contactAt 4 48) = .safeOut 4 ∧ contactSignal (contactAt 5 1) = .safeOut 7
    ∧ contactSignal (contactAt 6 49) = .ownA ∧ contactSignal (contactAt 7 33) = .laneRx 4 true ∧ contactSignal (contactAt 7 40) = .resetN := by
  decide

/-- Each channel has its one contact (R461). -/
theorem test_contacts_of_channels : ∀ c < 192, contactSignal (channelPlace c) = .channel c := by decide +kernel

/-- On extraction the owner line stops before any supply contact breaks (R460). -/
theorem test_extraction_order : ∀ b, ∀ x ∈ [Signal.supA, .supB, .fsup 0, .qsup 0], breaksBefore (ownSignal b) x = true := by decide


/-! ## The checks of well-formed commands: each refuses an ill-formed one -/

/-- A frame of port `n`. -/
def tMeasure (n : Fin 216) : FeMeasure :=
  { sel := n, volt := 0, load := 0, path := 0, termV := 0, headroom := 0, limitFlags := 0, upError := 0, downError := 0 }

theorem test_wf_accepts : (Instr.couplerFrame [tMeasure 0, tMeasure 1]).wellFormed = true ∧ (Instr.echo tctx [1]).wellFormed = true
    ∧ (Instr.canSend tctx 0 { id := 2047, dlc := 1, data := [1] }).wellFormed = true ∧ (Instr.regWrite tctx 0 false [0]).wellFormed = true := by decide

theorem test_wf_couplerFrame : (Instr.couplerFrame [tMeasure 7, tMeasure 7]).wellFormed = false := by decide

theorem test_wf_injectStart : (Instr.injectStart tctx 0 [1]).wellFormed = false := by decide

theorem test_wf_capArm : (Instr.capArm tctx 0 []).wellFormed = false := by decide

theorem test_wf_syncArm : (Instr.syncArm tctx [0]).wellFormed = false := by decide

theorem test_wf_safeParamLoad : (Instr.safeParamLoad tctx []).wellFormed = false := by decide

theorem test_wf_safeParamConfirm : (Instr.safeParamConfirm tctx 0 [0]).wellFormed = false := by decide

theorem test_wf_safety : (Instr.safety [] none).wellFormed = false ∧ (Instr.safety (List.replicate 128 0) (some [])).wellFormed = false := by decide +kernel

theorem test_wf_line : (Instr.line 0 0 0 0 [] {}).wellFormed = false := by decide

theorem test_wf_hrec : (Instr.hrec 0 0 false 0 [1, 2, 3]).wellFormed = false ∧ (Instr.hrec 0 0 false 0 []).wellFormed = false
    ∧ (Instr.hrec 0 0 false 0 (List.replicate 280 0)).wellFormed = false := by decide +kernel

theorem test_wf_irec : (Instr.irec 0 [1] {}).wellFormed = false ∧ (Instr.irec 0 (List.replicate 512 0) {}).wellFormed = false := by decide +kernel

theorem test_wf_canSend : (Instr.canSend tctx 0 { id := 2048 }).wellFormed = false ∧ (Instr.canSend tctx 0 { dlc := 16 }).wellFormed = false
    ∧ (Instr.canSend tctx 0 { dlc := 2, data := [1] }).wellFormed = false ∧ (Instr.canSend tctx 0 { rtr := true, fdf := true }).wellFormed = false
    ∧ (Instr.canSend tctx 0 { brs := true }).wellFormed = false := by decide

theorem test_wf_canFrameRx : (Instr.canFrameRx 0 { id := 536870912, ext := true } 0).wellFormed = false := by decide

theorem test_wf_beaconSend : (Instr.beaconSend []).wellFormed = false := by decide

theorem test_wf_regWrite : (Instr.regWrite tctx 0 false []).wellFormed = false ∧ (Instr.regWrite tctx 0 false (List.replicate 257 0)).wellFormed = false := by
  decide +kernel

theorem test_wf_loadChunk : (Instr.loadChunk tctx 0 []).wellFormed = false := by decide

theorem test_wf_echo : (Instr.echo tctx (List.replicate 257 0)).wellFormed = false := by decide +kernel

/-! ## Worked figures of the manual -/

/-- Table HZL-2: the signals of 0, 3.6, 12, 20 and 21.5 mA. -/
theorem test_conversion : [0, 7200, 24000, 40000, 43000].map rawToSig = [-8192, -819, 16384, 32767, 32767] := by decide

/-- The highest demand Hazel commands is 39,999 counts. -/
theorem test_highest_demand : sigToRaw 32767 = (39999, false) := by decide

/-- SHA-384 of the letters abc, as FIPS 180-4 gives it (log 144). -/
theorem test_sha384 : sha384 [0x61, 0x62, 0x63] = (leBytes 48 0xcb00753f45a35e8bb5a03d699ac65007272c32ab0eded1631a8b605a43ff5bed8086072ba1e7cc2358baeca134c825a7).reverse := by
  decide +kernel

/-- SEQs are compared as a signed 32-bit difference (R403). -/
theorem test_seq_order : seqAfter 0 4294967295 = true ∧ seqAfter 4294967295 0 = false ∧ seqAfter 5 5 = false := by decide

end Sys2Proof
end

section
/-! PROOFS. Snapshots of the counters (R336, O47). -/
namespace Sys2Proof
open Sys2Proof.Machine

theorem storeGet_filter_of_pos {α : Type} (d : Nat → α) (m : Store α) (p : Nat × α → Bool) {k : Nat} (h : ∀ v, p (k, v) = true) :
    storeGet d (m.filter p) k = storeGet d m k := by
  induction m with
  | nil => rfl
  | cons q m ih =>
    obtain ⟨j, v⟩ := q
    by_cases hj : k = j
    · subst hj
      simp [List.filter, h, storeGet]
    · rw [List.filter_cons]
      split <;> simp [storeGet, hj, ih]

/-- A bit of a field. -/
theorem testBit_field (w : Word) (hi lo i : Nat) : (field w hi lo).testBit i = (decide (i < hi + 1 - lo) && w.getLsbD (lo + i)) := by
  simp [field, Nat.testBit_mod_two_pow, Nat.testBit_shiftRight, BitVec.getLsbD]

/-- A bit of a word after a write of one of its fields. -/
theorem getLsbD_setField (w : Word) {hi lo : Nat} (v n : Nat) (h : hi < 32) :
    (setField w hi lo v).getLsbD n = if lo ≤ n ∧ n ≤ hi then v.testBit (n - lo) else w.getLsbD n := by
  by_cases hn : n < 32
  · simp only [setField, maskOf, BitVec.getLsbD_or, BitVec.getLsbD_and, BitVec.getLsbD_not, BitVec.getLsbD_ofNat, hn, Nat.testBit_shiftLeft,
      Nat.testBit_mod_two_pow, Nat.testBit_two_pow_sub_one, decide_true, Bool.true_and]
    by_cases h1 : lo ≤ n
    · by_cases h2 : n ≤ hi
      · have : n - lo < hi + 1 - lo := by omega
        simp [h1, h2, this]
      · have : ¬ n - lo < hi + 1 - lo := by omega
        simp [h1, h2, this]
    · simp [h1]
  · have : ¬ n ≤ hi := by omega
    simp only [this, and_false, if_false]
    rw [BitVec.getLsbD_of_ge _ _ (by omega), BitVec.getLsbD_of_ge _ _ (by omega)]

/-- A field reads back what was written to it, cut to its width. -/
theorem field_setField (w : Word) {hi lo : Nat} (v : Nat) (h : hi < 32) : field (setField w hi lo v) hi lo = v % 2 ^ (hi + 1 - lo) := by
  refine Nat.eq_of_testBit_eq (fun i => ?_)
  rw [testBit_field, getLsbD_setField w v _ h, Nat.testBit_mod_two_pow]
  by_cases hi' : i < hi + 1 - lo
  · have : lo + i ≤ hi := by omega
    simp [hi', this]
  · simp [hi']

@[simp] theorem reg_setReg (s : State) (a i : Nat) (v : Word) : reg (setReg s a i v) a i = v := storeGet_storeSet _ _ _ _

/-- The counter of a window's holding register is among the window's counters. -/
theorem windowCounters_get (s : State) {w b : Nat} (i : Nat) (hb : b / 65536 = w) (hw : w < 16) :
    storeGet (fun _ => 0) (windowCounters s w) (rkey b i)
      = if w = 0xB then storeGet (fun _ => 0) s.sbk.ctrs (rkey b i) else counter s b i := by
  unfold windowCounters
  split
  · rfl
  · refine storeGet_filter_of_pos _ _ _ (fun v => ?_)
    have : rkey b i % 1048576 / 65536 = w := by unfold rkey; omega
    simpa using this

/-- What stands at a window's SNAP address: a register of that window without instances, and none of the registers whose writes act otherwise. -/
theorem snapReg_register {w a : Nat} (h : snapReg w = some a) :
    w < 16 ∧ w ≠ 6 ∧ a / 65536 = w ∧ (∃ sp, regSpec? a = some sp ∧ sp.addr = a ∧ sp.bank = .none) ∧ isIdxData a = false ∧ isFlags a = false
      ∧ a ≠ Reg.supLock ∧ a ≠ Reg.supLockKey ∧ a ≠ Reg.supReset := by
  unfold snapReg at h
  split at h <;> cases h <;> exact ⟨by decide, by decide, rfl, ⟨_, rfl, rfl, rfl⟩, rfl, rfl, by decide, by decide, by decide⟩

/-- A snapshot of a window that has one (R336). -/
theorem takeSnapshot_snapped (s : State) {w a : Nat} (h : snapReg w = some a) : snapped s (takeSnapshot s w) w a := by
  obtain ⟨hw, -, -⟩ := snapReg_register h
  simp only [takeSnapshot, h]
  refine ⟨fun b i hb => ?_, ?_, rfl, rfl, fun b i hb => ?_⟩
  · simp only [heldCounter, setReg_snaps, hb, storeGet_storeSet]
    exact windowCounters_get s i hb hw
  · simp only [regField, reg_setReg]
    exact field_setField _ _ (by decide)
  · simp only [heldCounter, setReg_snaps, storeGet_storeSet_ne _ _ _ hb]

/-- A write that finds its island released, of a defined register that is no data register, is what the guard makes of it. -/
theorem writeWord_defined {s : State} {a : Nat} {sp : RegSpec} (v m : Word) (r : Requester) (hh : held s (a / 65536) = false)
    (hsp : regSpec? a = some sp) (hdata : isIdxData a = false) :
    writeWord s a v m r = guardWrite s a r (listedWrite a (v &&& m)) (fun t => writeDefined t sp v m r) := by
  simp only [writeWord, hh, hsp, hdata, Bool.false_eq_true, if_false]

/-- A write that Table REG-5 lists passes the device lock (R340). -/
theorem guardWrite_listed {s : State} {a : Nat} (r : Requester) (body : State → State × Access) (hh : held s (a / 65536) = false) :
    guardWrite s a r true body = body (breakKey s a r) := by
  simp [guardWrite, hh]

/-- A written 1 in a window's SNAP.TAKE passes the device lock, ends a key sequence in its own window, and takes the snapshot (R336, R341). -/
theorem writeWord_snapTake (s : State) {w a : Nat} (r : Requester) (h : snapReg w = some a) (hh : held s w = false) :
    (writeWord s a 1 allOnes r).1 = takeSnapshot (breakKey s a r) w := by
  obtain ⟨-, h6, ha, ⟨sp, hsp, haddr, hbank⟩, hdata, hflags, hl, hk, hr⟩ := snapReg_register h
  subst ha
  have hsnap : isSnap a = true := by simp [isSnap, h]
  have hlisted : listedWrite a (1 &&& allOnes) = true := by simp [listedWrite, hsnap]
  have hbit : bit (1 &&& allOnes) 0 = true := by decide
  rw [writeWord_defined _ _ _ hh hsp hdata, hlisted, guardWrite_listed _ _ hh]
  simp only [writeDefined, haddr, h6, hbank, instanceOf, writeInstance, hdata, hl, hk, hr, hflags, hsnap, hbit, false_and, Bool.false_eq_true,
    if_false, if_true]

theorem breakKey_of_not {s : State} {a : Nat} (r : Requester) (h : ¬(a / 65536 = 0 ∧ keyStep s = 1)) : breakKey s a r = s := by
  unfold breakKey
  rw [if_neg (fun k => h ⟨k.1, k.2.2⟩)]

theorem execSnapTake_next (s : State) {w : Fin 16} {a : Nat} (r : Requester) (h : snapReg w.val = some a) (hh : held s w.val = false) :
    exec (.snapTake w r) s = .next (takeSnapshot (breakKey s a r) w.val) := by
  show execSnapTake w r s = _
  simp only [execSnapTake, h, writeWord_snapTake s r h hh]

theorem execSnapshot_next {s : State} {c : Ctx} {window : BitVec 8} (hr : ready s (.snapshot c window)) :
    exec (.snapshot c window) s = .next (match snapReg window.toNat with
      | none => refuse s c 0x0404 .badParam 0
      | some a =>
        if held s window.toNat then refuse s c 0x0404 .husked window.toNat
        else ok (takeSnapshot s window.toNat) c 0x0404 (leBytes 2 (regField (takeSnapshot s window.toNat) a 0 31 16))) := by
  obtain ⟨hheld, hrun⟩ := ready_readyFor hr rfl
  exact congrArg Host.Outcome.next (command_runs hheld hrun)

/-- An answer leaves the registers, the counters and Seedbank alone. -/
theorem snapped_ok {s t : State} {w a : Nat} (c : Ctx) (op : Nat) (result : List Byte) (h : snapped s t w a) :
    snapped s (ok t c op result) w a := h

/-- The Walnut window's own registers show the last completed safety cycle (R218, R336). -/
theorem showWord_walnut (s : State) {sp : RegSpec} {a : Nat} (hsp : regSpec? a = some sp) (h1 : Reg.wntState ≤ a) (h2 : a ≤ Reg.wntPair) :
    showWord s a = s.wnt.shown.getD ((a - Reg.wntState) / 4) 0 := by
  have hw : a / 65536 = 6 := by simp only [Reg.wntState, Reg.wntPair] at h1 h2; omega
  have hmem : sp ∈ regsOfWindow 6 := hw ▸ List.mem_of_find?_eq_some hsp
  have haddr : sp.addr = a := by simpa using List.find?_some hsp
  have hbank : sp.bank = .none := (by decide : ∀ sp ∈ regsOfWindow 6, sp.bank = .none) sp hmem
  have hdata : isIdxData a = false := by
    have : Reg.wntIdxData ≠ a := by simp only [Reg.wntPair, Reg.wntIdxData] at h2 ⊢; omega
    simpa [isIdxData, hw, idxPair] using this
  have hhold : isHolding a = false := by
    have : ∀ x ∈ regsOfWindow 6, isHolding x.addr = false := by decide
    exact haddr ▸ this sp hmem
  have hlive : live s a 0 = some (s.wnt.shown.getD ((a - Reg.wntState) / 4) 0) := by
    have below : ∀ x < Reg.wntState, a ≠ x := fun x hx e => absurd h1 (by omega)
    have hfreq : ¬(Reg.gmuFreq0 ≤ a ∧ a ≤ Reg.gmuFreq3) := fun h => below Reg.gmuFreq3 (by decide) (by
      have : Reg.gmuFreq3 < Reg.wntState := by decide
      omega)
    simp only [live, hw, liveGmu, below Reg.gmuStat (by decide), below Reg.gmuRocof (by decide), below Reg.gmuSyncStat (by decide),
      below Reg.gmuSyncVal (by decide), below Reg.gmuInrms (by decide), below Reg.gmuShedLo (by decide), below Reg.gmuShedHi (by decide),
      hfreq, h1, h2, if_false, and_self, if_true]
  simp only [showWord, hsp, hbank, instanceOf, showReg, haddr, hdata, hhold, hlive, Bool.false_eq_true, if_false]

/-- Settles O47: a snapshot is the last thing a written SNAP.TAKE and SNAPSHOT do to registers, counters and holding registers. -/
theorem snapshotsCopyEveryCounter : Obligations.SnapshotsCopyEveryCounter := by
  unfold Obligations.SnapshotsCopyEveryCounter
  refine ⟨?take, ?takeBreaksKey, ?snapshot, ?walnutRefused, fun r s => rfl, fun sp a s hsp h1 h2 => showWord_walnut s hsp h1 h2⟩
  case take =>
    intro w a r s h hh hkey
    obtain ⟨-, -, ha, -⟩ := snapReg_register h
    refine ⟨_, execSnapTake_next s r h hh, ?_⟩
    rw [breakKey_of_not r (by rwa [ha])]
    exact takeSnapshot_snapped s h
  case takeBreaksKey =>
    intro r s hh hkey
    refine ⟨_, execSnapTake_next s r rfl hh, fun b i hb => ?_⟩
    obtain ⟨hcopied, -⟩ := takeSnapshot_snapped (breakKey s Reg.supSnap r) (w := 0) rfl
    exact (hcopied b i hb).trans (if_neg (by decide))
  case snapshot =>
    intro c window a s hr h hh
    have hsnap := takeSnapshot_snapped s h
    obtain ⟨-, hrun⟩ := ready_readyFor hr rfl
    have hnext := execSnapshot_next hr
    simp only [h, hh, Bool.false_eq_true, if_false] at hnext
    refine ⟨_, hnext, snapped_ok c _ _ hsnap, ?_⟩
    obtain ⟨-, hgen, -⟩ := hsnap
    rw [← hgen]
    have hcmd : (takeSnapshot s window.toNat).cmd = s.cmd := takeSnapshot_changes s _ (.unit .cmd) rfl
    refine replied_of_cmd (ok_replied ?_) hcmd
    simpa only [answers, execOf, hcmd] using hrun.2
  case walnutRefused =>
    intro c s hr
    obtain ⟨-, hrun⟩ := ready_readyFor hr rfl
    refine ⟨_, execSnapshot_next hr, refuse_replied hrun.2, (refuse_changes s c _ _ _).mono (by decide)⟩

end Sys2Proof
end

section
/-! PROOFS. The lock bits of SUP_LOCK, and the operations that leave them (R341, R342, O48). -/
namespace Sys2Proof
open Sys2Proof.Machine

/-- The two lock bits of SUP_LOCK, DEV_LOCK and PERM (R341, R342), as one field. -/
def locks (s : State) : Nat := regField s Reg.supLock 0 1 0

/-- The same in a register file. -/
def locksIn (regs : Store Word) : Nat := field (storeGet regDefault regs (rkey Reg.supLock 0)) 1 0

/-- A frame that does not take in the lock bits. -/
def sparesLocks (w : List Area) : Bool :=
  !w.any (fun A => A.has (.regBit Reg.supLock 0)) && !w.any (fun A => A.has (.regBit Reg.supLock 1))

/-- The lock bits are the same after a command, if it answers a next state. -/
def locksStay (s : State) (o : Host.Outcome State Fault Refusal) : Prop := ∀ t, o = .next t → locks t = locks s

theorem locks_testBit (s : State) (i : Nat) : (locks s).testBit i = (decide (i < 2) && (reg s Reg.supLock 0).getLsbD i) := by
  simp [locks, regField, testBit_field]

/-- A command that acts under a condition. -/
@[simp] theorem locksStay_ite (p : Prop) [Decidable p] (s : State) (o q : Host.Outcome State Fault Refusal) :
    locksStay s (if p then o else q) ↔ if p then locksStay s o else locksStay s q := by
  split <;> rfl

/-- A change that spares the lock bits keeps them. -/
theorem changesOnly.locks {w : List Area} {s t : State} (h : changesOnly w s t) (hw : sparesLocks w = true) : locks t = locks s := by
  simp only [sparesLocks, Bool.and_eq_true, Bool.not_eq_true'] at hw
  obtain ⟨h0, h1⟩ := hw
  refine Nat.eq_of_testBit_eq (fun i => ?_)
  rw [locks_testBit, locks_testBit]
  match i with
  | 0 => exact congrArg _ (h _ h0 0)
  | 1 => exact congrArg _ (h _ h1 0)
  | n + 2 => simp

@[simp] theorem locksStay_next (s t : State) : locksStay s (.next t) ↔ locks t = locks s :=
  ⟨fun h => h t rfl, fun h u hu => by cases hu; exact h⟩

/-! An update of another field of the state leaves the lock bits: `simp` reads them off the register file of the new record. Its two lemmas are
proved by `(rfl)`, not by `rfl`, so that `simp` rewrites by them and the kernel does not compare the two states field by field. -/

@[simp] theorem locksIn_regs (s : State) : locksIn s.regs = locks s := (rfl)

@[simp] theorem locks_mk (pending : List Instr) (regs active : Store Word) (staged : List (ℕ × Word))
    (ctrs : Store Word) (snaps : Store (Store Word)) (free now : ℕ) (own : Ownership) (exe : Exec) (hz : Hazel)
    (fch : Machine.Field) (grd : Gourd) (gmu : Gmu) (wnt : Walnut) (pair : Pair) (mem : Memory) (spr : Sprout)
    (cmd : Commands) (net : Net) (can : Can) (sbk : Seedbank) (pnl : Panel) (tru : Trust) (sup : Supervisor) :
    locks ⟨pending, regs, active, staged, ctrs, snaps, free, now, own, exe, hz, fch, grd, gmu, wnt, pair, mem, spr, cmd, net, can, sbk, pnl,
      tru, sup⟩ = locksIn regs := (rfl)

@[simp] theorem locks_ite (p : Prop) [Decidable p] (s t : State) : locks (if p then s else t) = if p then locks s else locks t :=
  apply_ite locks p s t

/-- The lock bits stay through a fold whose every step keeps them. -/
@[simp] theorem locks_foldl {β : Type} {f : State → β → State} (h : ∀ t x, locks (f t x) = locks t) (l : List β) (s : State) :
    locks (l.foldl f s) = locks s := by
  induction l generalizing s with
  | nil => rfl
  | cons x l ih => exact (ih _).trans (h s x)

@[simp] theorem locks_answer (s : State) (c : Ctx) (op : Nat) (code : Code) (wh ident : Nat) (result : List Byte) :
    locks (answer s c op code wh ident result) = locks s := (answer_changes s c op code wh ident result).locks rfl

/-- The packet commands: the locks stay if the command's own work keeps them. -/
@[simp] theorem locks_command {s : State} {body : State → State} (h : locks (body s) = locks s) (c : Ctx) (op island : Nat) (i : Instr)
    (roleOk : Bool) : locks (command s c op island i roleOk body) = locks s := by
  simp [command, refuse, h]

@[simp] theorem locks_meets {s : State} {body : State → State} (h : locks (body s) = locks s) (c : Ctx) (op w : Nat) :
    locks (meets s c op w body) = locks s := by
  simp [meets, refuse, h]

theorem locks_restartCommand {s : State} {go : State → Image → State} (h : ∀ im, locks (go s im) = locks s) (c : Ctx) (op : Nat)
    (choice : ForceChoice) : locks (restartCommand s c op choice go) = locks s := by
  unfold restartCommand
  repeat' split
  · simp [refuse]
  · simp [refuse]
  · simp [refuse]
  · exact h _

theorem locks_loopWrite {s : State} {body : State → State} (h : locks (body s) = locks s) (c : Ctx) (op : Nat) (i : Instr) (n k : Nat) :
    locks (loopWrite s c op i n k body) = locks s := by
  refine locks_command ?_ c op 2 i (owner s)
  split <;> simp [refuse, ok, h]

theorem locks_safetyCommand {s : State} {body : State → State} (h : locks (body s) = locks s) (c : Ctx) (op : Nat) (i : Instr) :
    locks (safetyCommand s c op i body) = locks s := by
  simp [safetyCommand, refuse, h]

/-! ## The key sequence and the guards of a write (R340 to R343) -/

/-- A write of a register other than SUP_LOCK. -/
theorem locks_setReg (s : State) {a : Nat} (i : Nat) (v : Word) (h : a % 1048576 ≠ Reg.supLock) : locks (setReg s a i v) = locks s := by
  refine (setReg_changes s a i v).locks ?_
  simp only [sparesLocks, Area.has, List.any_cons, List.any_nil, Bool.or_false, Bool.and_self, Bool.not_eq_true', beq_eq_false_iff_ne]
  exact h

@[simp] theorem locks_setKeyStep (s : State) (n : Nat) (q : Option Requester) : locks (setKeyStep s n q) = locks s := by
  refine Nat.eq_of_testBit_eq (fun i => ?_)
  have hreg : reg (setKeyStep s n q) Reg.supLock 0 = setField (reg s Reg.supLock 0) 3 2 n := reg_setReg s _ _ _
  rw [locks_testBit, locks_testBit, hreg, getLsbD_setField _ _ _ (by decide)]
  by_cases hi : i < 2
  · rw [if_neg (by omega)]
  · simp [hi]

@[simp] theorem locks_keyFail (s : State) (r : Requester) : locks (keyFail s r) = locks s := by
  simp [keyFail, (post_changes _ _ _ _ _ _).locks rfl, (raise_changes _ Reg.supFlags _ _).locks rfl]

@[simp] theorem locks_breakKey (s : State) (a : Nat) (r : Requester) : locks (breakKey s a r) = locks s := by
  simp [breakKey]

theorem locks_guardWrite {body : State → State × Access} (h : ∀ t, locks (body t).1 = locks t) (s : State) (a : Nat) (r : Requester)
    (listed : Bool) : locks (guardWrite s a r listed body).1 = locks s := by
  unfold guardWrite
  split
  · rfl
  · dsimp only
    split <;> simp [h, (lockedWrite_changes _ _ _ _).locks rfl]

theorem locks_actionWrite {body : State → State} (h : ∀ t, locks (body t) = locks t) (s : State) (a : Nat) (r : Requester) :
    locks (actionWrite s a r body) = locks s := locks_guardWrite (fun t => h t) s a r false

/-! ## The operations that many commands share -/

@[simp] theorem locks_countUp (s : State) (a i : Nat) : locks (countUp s a i) = locks s := (countUp_changes s a i).locks rfl
@[simp] theorem locks_freeNext (s : State) : locks (freeNext s) = locks s := (freeNext_changes s).locks rfl
@[simp] theorem locks_post (s : State) (e : Event) (inst : Nat) (subject : Nat) (value1 : Nat) (value2 : Nat) : locks (post s e inst subject value1
    value2) = locks s :=
  (post_changes s e inst subject value1 value2).locks rfl
@[simp] theorem locks_ok (s : State) (c : Ctx) (op : Nat) (result : List Byte) : locks (ok s c op result) = locks s :=
  (ok_changes s c op result).locks rfl
@[simp] theorem locks_refuse (s : State) (c : Ctx) (op : Nat) (code : Code) (wh : Nat) : locks (refuse s c op code wh) = locks s :=
  (refuse_changes s c op code wh).locks rfl
@[simp] theorem locks_await (s : State) (c : Ctx) (op : Nat) (island : Nat) (subject : Nat) : locks (await s c op island subject) = locks s :=
  (await_changes s c op island subject).locks rfl
@[simp] theorem locks_accept (s : State) (c : Ctx) (op : Nat) (code : Code) (estimate : Nat) (island : Nat) (subject : Nat) : locks (accept s c op
    code estimate island subject) = locks s :=
  (accept_changes s c op code estimate island subject).locks rfl
@[simp] theorem locks_concludeAll (s : State) (p : Executing → Bool) (code : Code) (wh : Nat) (result : State → Executing → List Byte) : locks
    (concludeAll s p code wh result) = locks s :=
  (concludeAll_changes s p code wh result).locks rfl
@[simp] theorem locks_huskRelease (s : State) (w : Nat) : locks (huskRelease s w) = locks s := (huskRelease_changes s w).locks rfl
@[simp] theorem locks_send (s : State) (m : PairMsg) : locks (send s m) = locks s := (send_changes s m).locks rfl
@[simp] theorem locks_modFe (s : State) (n : Nat) (g : FrontEnd → FrontEnd) : locks (modFe s n g) = locks s := (modFe_changes s n g).locks rfl
@[simp] theorem locks_setClaim (s : State) (c : Nat) (x : FieldClaim) : locks (setClaim s c x) = locks s := (setClaim_changes s c x).locks rfl
@[simp] theorem locks_refresh (s : State) (c : Nat) : locks (refresh s c) = locks s := (refresh_changes s c).locks rfl
@[simp] theorem locks_feFault (s : State) (c : Nat) : locks (feFault s c) = locks s := (feFault_changes s c).locks rfl
@[simp] theorem locks_canFeed (s : State) (p : Nat) : locks (canFeed s p) = locks s := (canFeed_changes s p).locks rfl
@[simp] theorem locks_pnlRaise (s : State) (n : Nat) : locks (pnlRaise s n) = locks s := (pnlRaise_changes s n).locks rfl
@[simp] theorem locks_modPnl (s : State) (f : Panel → Panel) : locks (modPnl s f) = locks s := (modPnl_changes s f).locks rfl
@[simp] theorem locks_endClaim (s : State) (p : Purpose) : locks (endClaim s p) = locks s := (endClaim_changes s p).locks rfl
@[simp] theorem locks_commit (s : State) (kind : CommitKind) (drives : List (Nat × Word)) (canPayloads : List (Nat × Nat × List Byte)) (sources :
    List (Nat × List Byte)) : locks (commit s kind drives canPayloads sources) = locks s :=
  (commit_changes s kind drives canPayloads sources).locks rfl
@[simp] theorem locks_discardPending (s : State) (cause : Nat) : locks (discardPending s cause) = locks s :=
  (discardPending_changes s cause).locks rfl
@[simp] theorem locks_ppdRaise (s : State) (n : Nat) : locks (ppdRaise s n) = locks s := (ppdRaise_changes s n).locks rfl
@[simp] theorem locks_changeRole (s : State) (r : Role) (cause : Nat) : locks (changeRole s r cause) = locks s :=
  (changeRole_changes s r cause).locks rfl
@[simp] theorem locks_becomeAlone (s : State) (cause : Nat) : locks (becomeAlone s cause) = locks s := (becomeAlone_changes s cause).locks rfl
@[simp] theorem locks_moduleFault (s : State) (kind : FaultKind) (addr : Nat) (region : Nat) (syndrome : Nat) : locks (moduleFault s kind addr
    region syndrome) = locks s :=
  (moduleFault_changes s kind addr region syndrome).locks rfl
@[simp] theorem locks_modNet (s : State) (p : Nat) (f : NetPort → NetPort) : locks (modNet s p f) = locks s := (modNet_changes s p f).locks rfl
@[simp] theorem locks_closeSession (s : State) (slot : Nat) : locks (closeSession s slot) = locks s := (closeSession_changes s slot).locks rfl
@[simp] theorem locks_exhausted (s : State) (kind : Nat) : locks (exhausted s kind) = locks s := (exhausted_changes s kind).locks rfl
@[simp] theorem locks_sprouted (s : State) : locks (sprouted s) = locks s := (sprouted_changes s).locks rfl
@[simp] theorem locks_startCoreSwap (s : State) : locks (startCoreSwap s) = locks s := (startCoreSwap_changes s).locks rfl
@[simp] theorem locks_afterForce (s : State) (c : Ctx) (op : Nat) (before : List Force) (ks : List ForceKey) : locks (afterForce s c op before ks)
    = locks s :=
  (afterForce_changes s c op before ks).locks rfl
@[simp] theorem locks_setRegion (s : State) (r : Nat) (x : MemRegion) : locks (setRegion s r x) = locks s := (setRegion_changes s r x).locks rfl
@[simp] theorem locks_modWnt (s : State) (f : Walnut → Walnut) : locks (modWnt s f) = locks s := (modWnt_changes s f).locks rfl
@[simp] theorem locks_demandWnt (s : State) (f : Walnut → Walnut) : locks (demandWnt s f) = locks s := (demandWnt_changes s f).locks rfl
@[simp] theorem locks_logEntry (s : State) (e : LogEntry) : locks (logEntry s e) = locks s := (logEntry_changes s e).locks rfl
@[simp] theorem locks_takeByLoss (s : State) (cause : Nat) : locks (takeByLoss s cause) = locks s := (takeByLoss_changes s cause).locks rfl
@[simp] theorem locks_modPair (s : State) (f : Pair → Pair) : locks (modPair s f) = locks s := (modPair_changes s f).locks rfl
@[simp] theorem locks_modLane (s : State) (k : Nat) (f : Lane → Lane) : locks (modLane s k f) = locks s := (modLane_changes s k f).locks rfl
@[simp] theorem locks_linkDetect (s : State) : locks (linkDetect s) = locks s := (linkDetect_changes s).locks rfl
@[simp] theorem locks_serveCells (s : State) : locks (serveCells s) = locks s := (serveCells_changes s).locks rfl
@[simp] theorem locks_credentialOp (s : State) (c : Ctx) (o : CredentialOp) : locks (credentialOp s c o) = locks s :=
  (credentialOp_changes s c o).locks rfl
@[simp] theorem locks_modSup (s : State) (f : Supervisor → Supervisor) : locks (modSup s f) = locks s := (modSup_changes s f).locks rfl

end Sys2Proof
end

section
/-! PROOFS. The commands that leave the lock bits, each by the frames of its operations (O48). -/
namespace Sys2Proof
open Sys2Proof.Machine

/-! One lemma per command, after its arm in `exec`: every operation the command performs changes areas apart from the lock bits, as its
`_changes` lemma says. The commands that can write SUP_LOCK follow with the register path. -/

/-! ## Commands whose work looks at more than one condition -/

/-- A packet command keeps the lock bits if its own work does. -/
theorem locksStay_command {s : State} {body : State → State} (h : locks (body s) = locks s) (c : Ctx) (op island : Nat) (i : Instr)
    (roleOk : Bool) : locksStay s (.next (command s c op island i roleOk body)) :=
  (locksStay_next _ _).2 (locks_command h c op island i roleOk)

@[simp] theorem execCertRead_locks (c : Ctx) (which : BitVec 8) (s : State) : locksStay s (execCertRead c which s) := by
  refine locksStay_command ?_ c _ _ _ _
  repeat' split
  all_goals simp

@[simp] theorem execChClearFault_locks (c : Ctx) (ch : BitVec 8) (s : State) : locksStay s (execChClearFault c ch s) := by
  refine locksStay_command ?_ c _ _ _ _
  dsimp only
  repeat' split
  all_goals simp [(clearFault_changes _ _).locks rfl, (awaitGrants_changes _ _ _ _ _ _).locks rfl]

theorem locks_setForce {s t : State} {k : ForceKey} {v : Nat} (h : setForce s k v = some t) : locks t = locks s := by
  unfold setForce at h
  split at h
  · cases h; exact (writeForces_changes _ _).locks rfl
  · split at h
    · cases h
    · cases h; exact (writeForces_changes _ _).locks rfl

@[simp] theorem execChFailsig_locks (c : Ctx) (ch : BitVec 8) (on : Bool) (s : State) : locksStay s (execChFailsig c ch on s) := by
  refine locksStay_command ?_ c _ _ _ _
  split
  · simp
  · refine locks_meets ?_ c _ _
    split
    · split
      · simp [(raise_changes _ Reg.exeFlags _ _).locks rfl]
      · next h => simp [locks_setForce h]
    · simp [(clearForce_changes _ _).locks rfl]

@[simp] theorem execEventPost_locks (e : Event) (inst : BitVec 12) (ended full : Bool) (subject value1 value2 : Word) (extra : BitVec 64)
    (s : State) : locksStay s (execEventPost e inst ended full subject value1 value2 extra s) := by
  unfold execEventPost
  split
  · simp [(postDropped_changes _ _).locks rfl]
  · simp [(postFull_changes _ _ _ _ _ _ _ _ _).locks rfl]

@[simp] theorem execForceSet_locks (c : Ctx) (k : ForceKey) (v : BitVec 64) (s : State) : locksStay s (execForceSet c k v s) := by
  refine locksStay_command ?_ c _ _ _ _
  split
  · simp
  · refine locks_meets ?_ c _ _
    split
    · simp [(raise_changes _ Reg.exeFlags _ _).locks rfl]
    · next h => simp [locks_setForce h]

@[simp] theorem execChSprout_locks (c : Ctx) (ch spare : BitVec 8) (s : State) : locksStay s (execChSprout c ch spare s) := by
  refine locksStay_command ?_ c _ _ _ _
  dsimp only
  repeat' split
  all_goals simp [(queueSprout_changes _ _ _).locks rfl]

@[simp] theorem execLaneCopyStep_locks (r : Fin 4) (u : MemUpset) (s : State) : locksStay s (execLaneCopyStep r u s) := by
  unfold execLaneCopyStep
  split
  · simp
  · dsimp only
    split
    · simp
    · have hread := (readWord16_changes s (regionBase r.val + ‹Nat›) u .copy).locks rfl
      split <;> next h => simp_all [(setMemWord_changes _ _ _).locks rfl]

@[simp] theorem execLoadAbort_locks (c : Ctx) (s : State) : locksStay s (execLoadAbort c s) := by
  refine locksStay_command ?_ c _ _ _ _
  dsimp only
  split <;> simp

@[simp] theorem execLoadChunk_locks (c : Ctx) (offset : BitVec 32) (data : List Byte) (s : State) : locksStay s (execLoadChunk c offset data s) := by
  refine locksStay_command ?_ c _ _ _ _
  dsimp only
  split <;> simp

@[simp] theorem execLoadCommit_locks (c : Ctx) (s : State) : locksStay s (execLoadCommit c s) := by
  refine locksStay_command ?_ c _ _ _ _
  dsimp only
  split <;> simp

@[simp] theorem execPanelScreen_locks (c : Ctx) (screen : BitVec 16) (s : State) : locksStay s (execPanelScreen c screen s) := by
  refine locksStay_command ?_ c _ _ _ _
  dsimp only
  repeat' split
  all_goals simp [(drawCommand_changes _ _ _ _).locks rfl]

@[simp] theorem execSafeParamAbort_locks (c : Ctx) (s : State) : locksStay s (execSafeParamAbort c s) := by
  refine (locksStay_next _ _).2 (locks_safetyCommand ?_ c _ _)
  split <;> simp

@[simp] theorem execSafeParamConfirm_locks (c : Ctx) (crc : BitVec 32) (setId : List Byte) (s : State) :
    locksStay s (execSafeParamConfirm c crc setId s) := by
  refine (locksStay_next _ _).2 (locks_safetyCommand ?_ c _ _)
  dsimp only
  split <;> simp

@[simp] theorem execStateRead_locks (c : Ctx) (s : State) : locksStay s (execStateRead c s) := by
  refine locksStay_command ?_ c _ _ _ _
  exact locks_meets (locks_meets (locks_ok ..) c _ _) c _ _

@[simp] theorem execSyncArm_locks (c : Ctx) (block : List Byte) (s : State) : locksStay s (execSyncArm c block s) := by
  refine locksStay_command ?_ c _ _ _ _
  dsimp only
  repeat' split
  all_goals simp [(gmuRaise_changes _ _).locks rfl, (setGmuBytes_changes _ _ _).locks rfl, (armSync_changes _).locks rfl]

@[simp] theorem execVarRead_locks (c : Ctx) (items : List (BitVec 64 × BitVec 32 × BitVec 16)) (s : State) :
    locksStay s (execVarRead c items s) := by
  refine locksStay_command ?_ c _ _ _ _
  dsimp only
  repeat' split
  all_goals simp

@[simp] theorem execVarWrite_locks (c : Ctx) (identity : BitVec 64) (offset : BitVec 32) (data : List Byte) (s : State) :
    locksStay s (execVarWrite c identity offset data s) := by
  refine locksStay_command ?_ c _ _ _ _
  dsimp only
  split <;> simp

@[simp] theorem execVerify_locks (c : Ctx) (slot : BitVec 8) (s : State) : locksStay s (execVerify c slot s) := by
  refine locksStay_command ?_ c _ _ _ _
  repeat' split
  all_goals simp

@[simp] theorem execWarm_locks (c : Ctx) (choice : ForceChoice) (s : State) : locksStay s (execWarm c choice s) := by
  refine locksStay_command (locks_restartCommand (fun im => ?_) c _ _) c _ _ _ _
  split
  · simp [(warmRestart_changes _ _ _ _).locks rfl]
  · simp [(retainInvalid_changes _).locks rfl, (coldRestart_changes _ _ _).locks rfl, (stopWith_changes _ _).locks rfl]

/-! ## Ownership -/

@[simp] theorem execOwnLineStopped_locks (s : State) : locksStay s (execOwnLineStopped s) := by
  simp [execOwnLineStopped]

@[simp] theorem execPartnerLineQuiet_locks (s : State) : locksStay s (execPartnerLineQuiet s) := by
  simp [execPartnerLineQuiet, (canFeedAll_changes _).locks rfl]

@[simp] theorem execHuskHold_locks (w : Fin 16) (s : State) : locksStay s (execHuskHold w s) := by
  simp [execHuskHold, (huskHold_changes _ _).locks rfl, (undoWork_changes _ _).locks rfl, (huskRequests_changes _).locks rfl]

@[simp] theorem execHuskRelease_locks (w : Fin 16) (s : State) : locksStay s (execHuskRelease w s) := by
  simp [execHuskRelease]

@[simp] theorem execTimestampBroadcast_locks (time : Nat) (s : State) : locksStay s (execTimestampBroadcast time s) := by
  simp [execTimestampBroadcast]

@[simp] theorem execAck_locks (seq : Nat) (s : State) : locksStay s (execAck seq s) := by
  simp [execAck, (applyCommit_changes _ _).locks rfl, (countMax_changes _ _ _ _).locks rfl]

@[simp] theorem execAckLate_locks (s : State) : locksStay s (execAckLate s) := by
  simp [execAckLate]

@[simp] theorem execModuleFault_locks (kind : FaultKind) (addr : Nat) (s : State) : locksStay s (execModuleFault kind addr s) := by
  unfold execModuleFault
  split <;> simp

@[simp] theorem execOwnLineToggling_locks (s : State) : locksStay s (execOwnLineToggling s) := by
  simp [execOwnLineToggling, (canFeedAll_changes _).locks rfl]

@[simp] theorem execPartnerLineEdge_locks (s : State) : locksStay s (execPartnerLineEdge s) := by
  simp [execPartnerLineEdge]

/-! ## The discrete channels -/

@[simp] theorem execCouplerFrame_locks (ms : List FeMeasure) (s : State) : locksStay s (execCouplerFrame ms s) := by
  simp [execCouplerFrame, (coupleAll_changes _ _).locks rfl]

@[simp] theorem execFeFrameTimeout_locks (n : Fin 216) (s : State) : locksStay s (execFeFrameTimeout n s) := by
  simp [execFeFrameTimeout, (raise_changes _ Reg.fchFlags _ _).locks rfl]

@[simp] theorem execGroupSupplySample_locks (g : Fin 12) (v : BitVec 10) (s : State) : locksStay s (execGroupSupplySample g v s) := by
  unfold execGroupSupplySample
  dsimp only
  repeat' split
  all_goals simp [(setGroup_changes _ _ _).locks rfl, (enterSupply_changes _ _ _ _).locks rfl]

@[simp] theorem execFsupReturn_locks (g : Fin 12) (s : State) : locksStay s (execFsupReturn g s) := by
  simp [execFsupReturn, (enterSupply_changes _ _ _ _).locks rfl, (refreshAll_changes _ _).locks rfl, (armClaims_changes _ _).locks rfl,
    (raise_changes _ Reg.fgrpFlags _ _).locks rfl]

@[simp] theorem execFeReconfigDone_locks (n : Fin 216) (s : State) : locksStay s (execFeReconfigDone n s) := by
  simp [execFeReconfigDone, (checkFactory_changes _ _).locks rfl, (armClaims_changes _ _).locks rfl]

@[simp] theorem execDiFilterChange_locks (n : Fin 216) (st : Bool) (s : State) : locksStay s (execDiFilterChange n st s) := by
  simp [execDiFilterChange]

@[simp] theorem execDoOverload_locks (c : Fin 192) (s : State) : locksStay s (execDoOverload c s) := by
  simp [execDoOverload, (checkOverpeak_changes _ _).locks rfl, (markAbove_changes _ _).locks rfl]

@[simp] theorem execDoLatchoff_locks (c : Fin 192) (s : State) : locksStay s (execDoLatchoff c s) := by
  simp [execDoLatchoff, (markAbove_changes _ _).locks rfl]

@[simp] theorem execDoRetry_locks (c : Fin 192) (s : State) : locksStay s (execDoRetry c s) := by
  simp [execDoRetry, (raise_changes _ Reg.fchFlags _ _).locks rfl]

@[simp] theorem execDoMismatch_locks (c : Fin 192) (high : Bool) (s : State) : locksStay s (execDoMismatch c high s) := by
  simp [execDoMismatch, (feFailure_changes _ _).locks rfl]

@[simp] theorem execDoOpenLoad_locks (c : Fin 192) (st : Bool) (s : State) : locksStay s (execDoOpenLoad c st s) := by
  simp [execDoOpenLoad]

@[simp] theorem execPulseEdge_locks (n : EdgeSample) (s : State) : locksStay s (execPulseEdge n s) := by
  simp [execPulseEdge]

@[simp] theorem execFreqGateEnd_locks (n : Fin 216) (edges span : Nat) (s : State) : locksStay s (execFreqGateEnd n edges span s) := by
  simp [execFreqGateEnd]

/-! ## The executive -/

@[simp] theorem execBaseCycleBoundary_locks (s : State) : locksStay s (execBaseCycleBoundary s) := by
  simp [execBaseCycleBoundary, (releaseDue_changes _ _).locks rfl, (copyField_changes _).locks rfl, (startStream_changes _).locks rfl,
    (calibrationBoundary_changes _).locks rfl, (loadCycleLatch_changes _ _).locks rfl, (lanesBoundary_changes _).locks rfl,
    (closeCycle_changes _).locks rfl]

@[simp] theorem execTaskEnd_locks (r : TaskResult) (s : State) : locksStay s (execTaskEnd r s) := by
  simp [execTaskEnd, (fbCall_changes _ _ _).locks rfl, (writeVar_changes _ _ _ _).locks rfl, (shadowTask_changes _ _).locks rfl,
    (countMax_changes _ _ _ _).locks rfl, (setTask_changes _ _ _).locks rfl, (applyLoopWrites_changes _ _).locks rfl,
    (commitGmuInput_changes _ _).locks rfl, (countBlocks_changes _ _).locks rfl]

@[simp] theorem execRetainStoreWrite_locks (s : State) : locksStay s (execRetainStoreWrite s) := by
  simp [execRetainStoreWrite, (writeRetain_changes _).locks rfl]

@[simp] theorem execStopEnter_locks (s : State) : locksStay s (execStopEnter s) := by
  simp [execStopEnter, (enterStop_changes _ _).locks rfl]

@[simp] theorem execStopGraceExpiry_locks (s : State) : locksStay s (execStopGraceExpiry s) := by
  simp [execStopGraceExpiry, (enterStop_changes _ _).locks rfl]

@[simp] theorem execRestartBoundary_locks (s : State) : locksStay s (execRestartBoundary s) := by
  simp [execRestartBoundary]

@[simp] theorem execStart_locks (c : Ctx) (s : State) : locksStay s (execStart c s) := by
  simp [execStart, (unwriteOutputs_changes _).locks rfl, (clearTasks_changes _).locks rfl]

@[simp] theorem execStop_locks (c : Ctx) (s : State) : locksStay s (execStop c s) := by
  simp [execStop]

@[simp] theorem execCold_locks (c : Ctx) (choice : ForceChoice) (s : State) : locksStay s (execCold c choice s) := by
  simp [execCold, locks_restartCommand, (coldRestart_changes _ _ _).locks rfl]

@[simp] theorem execLoadBegin_locks (c : Ctx) (slot : BitVec 8) (len : BitVec 32) (s : State) : locksStay s (execLoadBegin c slot len s) := by
  simp [execLoadBegin]

@[simp] theorem execChangeReport_locks (c : Ctx) (first : BitVec 32) (count : BitVec 16) (s : State) :
    locksStay s (execChangeReport c first count s) := by
  simp [execChangeReport]

@[simp] theorem execForceClear_locks (c : Ctx) (k : ForceKey) (s : State) : locksStay s (execForceClear c k s) := by
  simp [execForceClear, (clearForce_changes _ _).locks rfl]

@[simp] theorem execForceClearAll_locks (c : Ctx) (s : State) : locksStay s (execForceClearAll c s) := by
  simp [execForceClearAll, (writeForces_changes _ _).locks rfl]

@[simp] theorem execForceList_locks (c : Ctx) (first count : BitVec 16) (s : State) : locksStay s (execForceList c first count s) := by
  simp [execForceList]

@[simp] theorem execChRead_locks (c : Ctx) (first count : BitVec 8) (s : State) : locksStay s (execChRead c first count s) := by
  simp [execChRead]

@[simp] theorem execGrpRead_locks (c : Ctx) (g : BitVec 8) (s : State) : locksStay s (execGrpRead c g s) := by
  simp [execGrpRead]

/-! ## The pair -/

@[simp] theorem execSwapReady_locks (s : State) : locksStay s (execSwapReady s) := by
  simp [execSwapReady]

@[simp] theorem execHandoverDrained_locks (s : State) : locksStay s (execHandoverDrained s) := by
  unfold execHandoverDrained
  split <;> simp

@[simp] theorem execHandoverDrainExpiry_locks (s : State) : locksStay s (execHandoverDrainExpiry s) := by
  unfold execHandoverDrainExpiry
  split <;> simp [(resumeReleases_changes _).locks rfl, (yieldField_changes _).locks rfl]

@[simp] theorem execHandoverBoundary_locks (s : State) : locksStay s (execHandoverBoundary s) := by
  unfold execHandoverBoundary
  repeat' split
  all_goals simp [(driveLine_changes _ _).locks rfl, (giveField_changes _ _).locks rfl]

@[simp] theorem execRoleDecision_locks (partnerAtIdent : Bool) (s : State) : locksStay s (execRoleDecision partnerAtIdent s) := by
  simp [execRoleDecision, (decisionMade_changes _).locks rfl, (startSyncing_changes _).locks rfl, (startOwner_changes _ _ _).locks rfl]

@[simp] theorem execTrainPhaseDone_locks (lanes : List LaneMeasure) (s : State) : locksStay s (execTrainPhaseDone lanes s) := by
  simp [execTrainPhaseDone, (trainPhase_changes _ _).locks rfl]

@[simp] theorem execTrainFail_locks (s : State) : locksStay s (execTrainFail s) := by
  unfold execTrainFail
  split <;> simp

@[simp] theorem execIdent_locks (d : IdentData) (s : State) : locksStay s (execIdent d s) := by
  simp [execIdent, (sendIdent_changes _ _).locks rfl, (identPassed_changes _ _).locks rfl, (identFailed_changes _).locks rfl]

@[simp] theorem execHeartbeat_locks (h : HeartbeatBlock) (s : State) : locksStay s (execHeartbeat h s) := by
  simp [execHeartbeat, (onPartnerRole_changes _ _).locks rfl]

@[simp] theorem execHeartbeatSend_locks (s : State) : locksStay s (execHeartbeatSend s) := by
  simp [execHeartbeatSend]

@[simp] theorem execHeartbeatLost_locks (s : State) : locksStay s (execHeartbeatLost s) := by
  simp [execHeartbeatLost, (partnerLost_changes _).locks rfl]

@[simp] theorem execPartnerLineReleased_locks (s : State) : locksStay s (execPartnerLineReleased s) := by
  simp [execPartnerLineReleased]

@[simp] theorem execOwnLineFault_locks (s : State) : locksStay s (execOwnLineFault s) := by
  simp [execOwnLineFault]

@[simp] theorem execOwnerLineFault_locks (s : State) : locksStay s (execOwnerLineFault s) := by
  simp [execOwnerLineFault]

@[simp] theorem execLine_locks (tag : Byte) (mask region : BitVec 4) (index : BitVec 24) (data : List Byte) (content : CopyContent) (s : State) :
    locksStay s (execLine tag mask region index data content s) := by
  simp [execLine]

@[simp] theorem execHrec_locks (tag : Byte) (loop : BitVec 12) (commit : Bool) (seq : Nat) (data : List Byte) (s : State) :
    locksStay s (execHrec tag loop commit seq data s) := by
  simp [execHrec, (takeCommit_changes _ _ _).locks rfl]

@[simp] theorem execIrec_locks (tag : Byte) (data : List Byte) (content : CopyContent) (s : State) : locksStay s (execIrec tag data content s) := by
  simp [execIrec]

@[simp] theorem execCommit_locks (tag : Byte) (seq : Nat) (s : State) : locksStay s (execCommit tag seq s) := by
  simp [execCommit, (takeCommit_changes _ _ _).locks rfl]

@[simp] theorem execCheck_locks (lane_ : Fin 5) (number : Byte) (crcOk : Bool) (s : State) : locksStay s (execCheck lane_ number crcOk s) := by
  simp [execCheck]

@[simp] theorem execNak_locks (lane_ : Fin 5) (number : Byte) (s : State) : locksStay s (execNak lane_ number s) := by
  simp [execNak]

@[simp] theorem execAlign_locks (lane_ : Fin 5) (_logical : BitVec 2) (skew : Nat) (s : State) : locksStay s (execAlign lane_ _logical skew s) := by
  simp [execAlign]

@[simp] theorem execFaultMessage_locks (s : State) : locksStay s (execFaultMessage s) := by
  simp [execFaultMessage, (partnerLost_changes _).locks rfl]

@[simp] theorem execHandoverPrepare_locks (boundary : Nat) (s : State) : locksStay s (execHandoverPrepare boundary s) := by
  simp [execHandoverPrepare]

@[simp] theorem execHandoverMessage_locks (s : State) : locksStay s (execHandoverMessage s) := by
  simp [execHandoverMessage, (releaseGiven_changes _ _).locks rfl, (runGivenSlot_changes _ _).locks rfl, (takeover_changes _ _ _ _ _).locks rfl,
    (sendBulk_changes _ _).locks rfl]

@[simp] theorem execYield_locks (s : State) : locksStay s (execYield s) := by
  simp [execYield, (takeover_changes _ _ _ _ _).locks rfl, (startResync_changes _).locks rfl]

@[simp] theorem execRoleMessage_locks (note : RoleNote) (s : State) : locksStay s (execRoleMessage note s) := by
  simp [execRoleMessage, (swapAsked_changes _ _).locks rfl, (onPartnerRole_changes _ _).locks rfl]

@[simp] theorem execTimeMessage_locks (step : Int) (instant : Nat) (s : State) : locksStay s (execTimeMessage step instant s) := by
  simp [execTimeMessage]

@[simp] theorem execLaneRetired_locks (lane_ : Fin 5) (s : State) : locksStay s (execLaneRetired lane_ s) := by
  unfold execLaneRetired
  dsimp only
  split <;> simp [(fewLanes_changes _).locks rfl, (retireLinkLane_changes _ _).locks rfl, (postRetired_changes _ _).locks rfl,
    (noSpareLane_changes _).locks rfl, (retrainNext_changes _).locks rfl]

@[simp] theorem execLaneSprouted_locks (lane_ : Fin 5) (s : State) : locksStay s (execLaneSprouted lane_ s) := by
  simp [execLaneSprouted, (retrainNext_changes _).locks rfl]

@[simp] theorem execPpdRetrainRetired_locks (r : Requester) (s : State) : locksStay s (execPpdRetrainRetired r s) := by
  simp [execPpdRetrainRetired, locks_actionWrite, (retrainRetired_changes _).locks rfl]

@[simp] theorem execOrphanRetrain_locks (s : State) : locksStay s (execOrphanRetrain s) := by
  simp [execOrphanRetrain]

@[simp] theorem execClaim_locks (r : Requester) (s : State) : locksStay s (execClaim r s) := by
  simp [execClaim, locks_actionWrite, (claimField_changes _).locks rfl]

@[simp] theorem execGoOffline_locks (r : Requester) (s : State) : locksStay s (execGoOffline r s) := by
  simp [execGoOffline, locks_actionWrite, (goOffline_changes _ _).locks rfl]

@[simp] theorem execPendingLogFull_locks (s : State) : locksStay s (execPendingLogFull s) := by
  simp [execPendingLogFull]

@[simp] theorem execLinkSpeedRetry_locks (s : State) : locksStay s (execLinkSpeedRetry s) := by
  simp [execLinkSpeedRetry]

@[simp] theorem execResyncPhaseDone_locks (marked : Nat) (image : Option Image) (s : State) : locksStay s (execResyncPhaseDone marked image s) := by
  simp [execResyncPhaseDone, (resyncFollower_changes _ _ _).locks rfl, (resyncOwner_changes _ _).locks rfl]

@[simp] theorem execPairSynced_locks (s : State) : locksStay s (execPairSynced s) := by
  simp [execPairSynced]

@[simp] theorem execPairTimeOffset_locks (offset : Int) (s : State) : locksStay s (execPairTimeOffset offset s) := by
  simp [execPairTimeOffset, (noteDivergence_changes _).locks rfl, (stepTime_changes _ _).locks rfl]

@[simp] theorem execHandover_locks (c : Ctx) (swap : Bool) (s : State) : locksStay s (execHandover c swap s) := by
  simp [execHandover, (startHandover_changes _ _ _).locks rfl]

@[simp] theorem execSwapPrepare_locks (c : Ctx) (choice : ForceChoice) (s : State) : locksStay s (execSwapPrepare c choice s) := by
  simp [execSwapPrepare]

@[simp] theorem execSwapCancel_locks (c : Ctx) (s : State) : locksStay s (execSwapCancel c s) := by
  simp [execSwapCancel]

/-! ## Images -/

@[simp] theorem execImageCheckDone_locks (im : Image) (s : State) : locksStay s (execImageCheckDone im s) := by
  unfold execImageCheckDone
  dsimp only
  repeat' split
  all_goals simp [(trustChecks_changes _ _ _).locks rfl, (conclude_changes _ _ _ _ _ _).locks rfl]

/-! ## The loops -/

@[simp] theorem execHazelSlot_locks (s : State) : locksStay s (execHazelSlot s) := by
  simp [execHazelSlot, (runCaptures_changes _ _).locks rfl, (runLoops_changes _ _).locks rfl]

@[simp] theorem execHazelBatchClose_locks (pod : Fin 6) (s : State) : locksStay s (execHazelBatchClose pod s) := by
  simp [execHazelBatchClose, (closeBatch_changes _ _).locks rfl]

@[simp] theorem execPodFail_locks (pod : Fin 6) (s : State) : locksStay s (execPodFail pod s) := by
  simp [execPodFail, (hzRaise_changes _ _).locks rfl, (podMissed_changes _ _).locks rfl, (dropBatch_changes _ _).locks rfl,
    (writeSproutRecord_changes _).locks rfl, (replaceLoops_changes _ _ _).locks rfl]

@[simp] theorem execHzPcommit_locks (r : Requester) (s : State) : locksStay s (execHzPcommit r s) := by
  simp [execHzPcommit, locks_actionWrite, (pcommit_changes _ _).locks rfl]

@[simp] theorem execHzLoopModeWrite_locks (v : Word) (r : Requester) (s : State) : locksStay s (execHzLoopModeWrite v r s) := by
  simp [execHzLoopModeWrite, locks_actionWrite, (writeLoopMode_changes _ _).locks rfl]

@[simp] theorem execHzLoopSpWrite_locks (v : Word) (r : Requester) (s : State) : locksStay s (execHzLoopSpWrite v r s) := by
  simp [execHzLoopSpWrite, locks_actionWrite, (writeLoopSp_changes _ _).locks rfl]

@[simp] theorem execHzLoopMvWrite_locks (v : Word) (r : Requester) (s : State) : locksStay s (execHzLoopMvWrite v r s) := by
  simp [execHzLoopMvWrite, locks_actionWrite, (writeLoopMv_changes _ _).locks rfl]

@[simp] theorem execHzInjStart_locks (gen : Fin 4) (r : Requester) (s : State) : locksStay s (execHzInjStart gen r s) := by
  simp [execHzInjStart, locks_actionWrite, (startInjection_changes _ _).locks rfl, (setRegField_changes _ Reg.hzInj _ _ _ _).locks rfl]

@[simp] theorem execHzInjStop_locks (gen : Fin 4) (r : Requester) (s : State) : locksStay s (execHzInjStop gen r s) := by
  simp [execHzInjStop, locks_actionWrite, (stopInjection_changes _ _).locks rfl, (setRegField_changes _ Reg.hzInj _ _ _ _).locks rfl]

@[simp] theorem execHzCapArm_locks (set : Fin 4) (r : Requester) (s : State) : locksStay s (execHzCapArm set r s) := by
  simp [execHzCapArm, locks_actionWrite, (askArm_changes _ _).locks rfl, (setRegField_changes _ Reg.hzCap _ _ _ _).locks rfl]

@[simp] theorem execHzCapTrigger_locks (set : Fin 4) (r : Requester) (s : State) : locksStay s (execHzCapTrigger set r s) := by
  simp [execHzCapTrigger, locks_actionWrite, (fireCapture_changes _ _).locks rfl, (setRegField_changes _ Reg.hzCap _ _ _ _).locks rfl]

@[simp] theorem execHzCapDisarm_locks (set : Fin 4) (r : Requester) (s : State) : locksStay s (execHzCapDisarm set r s) := by
  simp [execHzCapDisarm, locks_actionWrite, (disarmCapture_changes _ _).locks rfl, (setRegField_changes _ Reg.hzCap _ _ _ _).locks rfl]

@[simp] theorem execLoopRead_locks (c : Ctx) (first count : BitVec 16) (s : State) : locksStay s (execLoopRead c first count s) := by
  simp [execLoopRead]

@[simp] theorem execLoopMode_locks (c : Ctx) (loop : BitVec 16) (mode : BitVec 8) (track : BitVec 8) (s : State) :
    locksStay s (execLoopMode c loop mode track s) := by
  simp [execLoopMode, locks_loopWrite, (setOpMode_changes _ _ _ _).locks rfl]

@[simp] theorem execLoopSp_locks (c : Ctx) (loop : BitVec 16) (v : BitVec 16) (s : State) : locksStay s (execLoopSp c loop v s) := by
  simp [execLoopSp, locks_loopWrite, (setOpSp_changes _ _ _).locks rfl]

@[simp] theorem execLoopMv_locks (c : Ctx) (loop : BitVec 16) (v : BitVec 16) (s : State) : locksStay s (execLoopMv c loop v s) := by
  simp [execLoopMv, locks_loopWrite, (setOpMv_changes _ _ _).locks rfl]

@[simp] theorem execLoopParam_locks (c : Ctx) (loop : BitVec 16) (word : BitVec 8) (words : List Word) (commit : Bool) (s : State) :
    locksStay s (execLoopParam c loop word words commit s) := by
  simp [execLoopParam, (stageParams_changes _ _ _ _).locks rfl, (pcommit_changes _ _).locks rfl]

@[simp] theorem execInjectStart_locks (c : Ctx) (gen : BitVec 8) (icb : List Byte) (s : State) : locksStay s (execInjectStart c gen icb s) := by
  simp [execInjectStart, (hzRaise_changes _ _).locks rfl, (startInjection_changes _ _).locks rfl, (setGen_changes _ _ _).locks rfl]

@[simp] theorem execInjectStop_locks (c : Ctx) (gen : BitVec 8) (s : State) : locksStay s (execInjectStop c gen s) := by
  simp [execInjectStop, (stopInjection_changes _ _).locks rfl]

@[simp] theorem execCapArm_locks (c : Ctx) (set : BitVec 8) (ccb : List Byte) (s : State) : locksStay s (execCapArm c set ccb s) := by
  simp [execCapArm, (armCapture_changes _ _).locks rfl, (setCap_changes _ _ _).locks rfl]

@[simp] theorem execCapTrigger_locks (c : Ctx) (set : BitVec 8) (s : State) : locksStay s (execCapTrigger c set s) := by
  simp [execCapTrigger, (fireCapture_changes _ _).locks rfl]

@[simp] theorem execCapDisarm_locks (c : Ctx) (set : BitVec 8) (s : State) : locksStay s (execCapDisarm c set s) := by
  simp [execCapDisarm, (disarmCapture_changes _ _).locks rfl]

@[simp] theorem execCapRead_locks (c : Ctx) (set : BitVec 8) (first : BitVec 32) (count : BitVec 16) (s : State) :
    locksStay s (execCapRead c set first count s) := by
  simp [execCapRead]

/-! ## Sprouting -/

@[simp] theorem execFeWindowTimeout_locks (n : Fin 216) (s : State) : locksStay s (execFeWindowTimeout n s) := by
  simp [execFeWindowTimeout, (raise_changes _ Reg.fchFlags _ _).locks rfl, (setReg_changes _ Reg.fchIdxData _ _).locks rfl]

@[simp] theorem execFeFailure_locks (n : Fin 216) (s : State) : locksStay s (execFeFailure n s) := by
  simp [execFeFailure, (feFailure_changes _ _).locks rfl]

@[simp] theorem execSproutStart_locks (s : State) : locksStay s (execSproutStart s) := by
  unfold execSproutStart
  repeat' split
  all_goals simp

@[simp] theorem execSproutComplete_locks (s : State) : locksStay s (execSproutComplete s) := by
  unfold execSproutComplete
  dsimp only
  repeat' split
  all_goals simp [(dropUnserved_changes _).locks rfl, (failChannel_changes _ _).locks rfl, (connectSpare_changes _ _ _).locks rfl]

@[simp] theorem execSpareSelftest_locks (n : Fin 24) (pass : Bool) (s : State) : locksStay s (execSpareSelftest n pass s) := by
  simp [execSpareSelftest, (writeSproutRecord_changes _).locks rfl]

@[simp] theorem execCoreSelftest_locks (p : CorePair) (pass : Bool) (s : State) : locksStay s (execCoreSelftest p pass s) := by
  simp [execCoreSelftest, (coreFailed_changes _ _).locks rfl, (noCoreSpare_changes _ _).locks rfl, (startHandover_changes _ _ _).locks rfl,
    (sprRaise_changes _ _).locks rfl]

@[simp] theorem execCoreSwapDone_locks (s : State) : locksStay s (execCoreSwapDone s) := by
  unfold execCoreSwapDone
  dsimp only
  repeat' split
  all_goals simp [(mapCore_changes _ _).locks rfl, (noCoreSpare_changes _ _).locks rfl]

@[simp] theorem execOscCompare_locks (diff : Int) (s : State) : locksStay s (execOscCompare diff s) := by
  simp [execOscCompare]

@[simp] theorem execOscSprouted_locks (errA errB : Int) (s : State) : locksStay s (execOscSprouted errA errB s) := by
  simp [execOscSprouted, (swapOsc_changes _ _ _).locks rfl]

@[simp] theorem execCellTest_locks (cell : Fin 6) (esr capacitance : Nat) (energy : Nat) (s : State) :
    locksStay s (execCellTest cell esr capacitance energy s) := by
  simp [execCellTest]

@[simp] theorem execCellSprouted_locks (s : State) : locksStay s (execCellSprouted s) := by
  unfold execCellSprouted
  split <;> simp [(sprRaise_changes _ _).locks rfl]

@[simp] theorem execSproutRead_locks (c : Ctx) (s : State) : locksStay s (execSproutRead c s) := by
  simp [execSproutRead]

/-! ## The analogue channels -/

@[simp] theorem execAiConversion_locks (n : Fin 216) (raw : Int) (s : State) : locksStay s (execAiConversion n raw s) := by
  simp [execAiConversion]

@[simp] theorem execBurdenOpen_locks (c : Fin 192) (s : State) : locksStay s (execBurdenOpen c s) := by
  simp [execBurdenOpen]

@[simp] theorem execBurdenRetry_locks (c : Fin 192) (s : State) : locksStay s (execBurdenRetry c s) := by
  simp [execBurdenRetry]

@[simp] theorem execBurdenRetryEnd_locks (c : Fin 192) (s : State) : locksStay s (execBurdenRetryEnd c s) := by
  simp [execBurdenRetryEnd]

@[simp] theorem execReadbackDisagree_locks (n : Fin 216) (s : State) : locksStay s (execReadbackDisagree n s) := by
  simp [execReadbackDisagree]

@[simp] theorem execNe43Confirm_locks (n : Fin 216) (k : Ne43) (s : State) : locksStay s (execNe43Confirm n k s) := by
  unfold execNe43Confirm
  split <;> simp

@[simp] theorem execLoopSupplyShort_locks (c : Fin 192) (s : State) : locksStay s (execLoopSupplyShort c s) := by
  simp [execLoopSupplyShort]

@[simp] theorem execLoopSupplyRetry_locks (c : Fin 192) (s : State) : locksStay s (execLoopSupplyRetry c s) := by
  simp [execLoopSupplyRetry, (requestC1_changes _ _ _).locks rfl]

@[simp] theorem execLoopSupplyRecover_locks (c : Fin 192) (s : State) : locksStay s (execLoopSupplyRecover c s) := by
  simp [execLoopSupplyRecover]

@[simp] theorem execAoCompliance_locks (c : Fin 192) (s : State) : locksStay s (execAoCompliance c s) := by
  simp [execAoCompliance]

@[simp] theorem execAoComplianceEnd_locks (c : Fin 192) (s : State) : locksStay s (execAoComplianceEnd c s) := by
  simp [execAoComplianceEnd]

@[simp] theorem execAoOpenLoad_locks (c : Fin 192) (s : State) : locksStay s (execAoOpenLoad c s) := by
  simp [execAoOpenLoad]

@[simp] theorem execAoBackfeed_locks (c : Fin 192) (forced : Bool) (s : State) : locksStay s (execAoBackfeed c forced s) := by
  simp [execAoBackfeed]

@[simp] theorem execFeTempMeasure_locks (n : Fin 216) (t : BitVec 16) (s : State) : locksStay s (execFeTempMeasure n t s) := by
  simp [execFeTempMeasure]

/-! ## The power budget -/

@[simp] theorem execGourdRequest_locks (r : GourdAsk) (s : State) : locksStay s (execGourdRequest r s) := by
  unfold execGourdRequest
  split <;> simp [(requestC1_changes _ _ _).locks rfl, (askLogic_changes _ _ _ _ _ _).locks rfl]

@[simp] theorem execGourdDecision_locks (s : State) : locksStay s (execGourdDecision s) := by
  simp [execGourdDecision, (gourdDecide_changes _).locks rfl]

@[simp] theorem execGroupCurrentMeasure_locks (g : Fin 12) (s : State) : locksStay s (execGroupCurrentMeasure g s) := by
  simp [execGroupCurrentMeasure, (setGroupBudget_changes _ _ _).locks rfl]

@[simp] theorem execLogicPowerMeasure_locks (mw : BitVec 16) (s : State) : locksStay s (execLogicPowerMeasure mw s) := by
  simp [execLogicPowerMeasure]

@[simp] theorem execC2AgeExpiry_locks (s : State) : locksStay s (execC2AgeExpiry s) := by
  simp [execC2AgeExpiry, (refuseLogic_changes _ _ _).locks rfl]

@[simp] theorem execGrantlogRead_locks (c : Ctx) (first : BitVec 8) (count : BitVec 16) (s : State) :
    locksStay s (execGrantlogRead c first count s) := by
  simp [execGrantlogRead]

/-! ## The grid unit -/

@[simp] theorem execGmuReport_locks (m : GmuMeasure) (s : State) : locksStay s (execGmuReport m s) := by
  simp [execGmuReport, (gmuReport_changes _ _).locks rfl]

@[simp] theorem execPqAggregate_locks (v : PqValues) (s : State) : locksStay s (execPqAggregate v s) := by
  unfold execPqAggregate
  split <;> simp [(shortWindow_changes _ _).locks rfl, (mediumWindow_changes _).locks rfl, (longWindow_changes _).locks rfl,
    (frequencyWindow_changes _).locks rfl]

@[simp] theorem execGridEvent_locks (set : Fin 4) (phases : List Nat) (s : State) : locksStay s (execGridEvent set phases s) := by
  simp [execGridEvent, (swellStep_changes _ _ _).locks rfl, (dipStep_changes _ _ _).locks rfl]

@[simp] theorem execSyncClose_locks (s : State) : locksStay s (execSyncClose s) := by
  simp [execSyncClose, (closeNow_changes _ _).locks rfl]

@[simp] theorem execSyncTimeout_locks (s : State) : locksStay s (execSyncTimeout s) := by
  simp [execSyncTimeout, (syncAbort_changes _ _).locks rfl]

@[simp] theorem execTriggerFire_locks (t : Fin 32) (s : State) : locksStay s (execTriggerFire t s) := by
  simp [execTriggerFire, (fireTrigger_changes _ _).locks rfl]

@[simp] theorem execTriggerReset_locks (t : Fin 32) (s : State) : locksStay s (execTriggerReset t s) := by
  simp [execTriggerReset, (setTrig_changes _ _ _).locks rfl]

@[simp] theorem execStaleInput_locks (s : State) : locksStay s (execStaleInput s) := by
  simp [execStaleInput, (noteStale_changes _).locks rfl]

@[simp] theorem execShedReleaseApply_locks (s : State) : locksStay s (execShedReleaseApply s) := by
  simp [execShedReleaseApply]

@[simp] theorem execGmuSyncArm_locks (r : Requester) (s : State) : locksStay s (execGmuSyncArm r s) := by
  simp [execGmuSyncArm, locks_actionWrite, (askSync_changes _).locks rfl]

@[simp] theorem execGmuSyncDisarm_locks (r : Requester) (s : State) : locksStay s (execGmuSyncDisarm r s) := by
  simp [execGmuSyncDisarm, locks_actionWrite, (disarmSync_changes _).locks rfl]

@[simp] theorem execGmuTrigArm_locks (t : Fin 32) (r : Requester) (s : State) : locksStay s (execGmuTrigArm t r s) := by
  simp [execGmuTrigArm, locks_actionWrite, (armTrigger_changes _ _).locks rfl, (setRegField_changes _ Reg.gmuShedCtrl _ _ _ _).locks rfl]

@[simp] theorem execGmuTrigDisarm_locks (t : Fin 32) (r : Requester) (s : State) : locksStay s (execGmuTrigDisarm t r s) := by
  simp [execGmuTrigDisarm, locks_actionWrite, (disarmTrigger_changes _ _).locks rfl, (setRegField_changes _ Reg.gmuShedCtrl _ _ _ _).locks rfl]

@[simp] theorem execGmuShedRel_locks (high : Bool) (v : Word) (r : Requester) (s : State) : locksStay s (execGmuShedRel high v r s) := by
  simp [execGmuShedRel, locks_actionWrite, (writeRelease_changes _ _ _).locks rfl]

@[simp] theorem execGmuSubscribe_locks (c : Ctx) (every : BitVec 16) (s : State) : locksStay s (execGmuSubscribe c every s) := by
  simp [execGmuSubscribe, (endSubs_changes _ _).locks rfl, (subscribe_changes _ _ _ _).locks rfl]

@[simp] theorem execSyncDisarm_locks (c : Ctx) (s : State) : locksStay s (execSyncDisarm c s) := by
  simp [execSyncDisarm, (disarmSync_changes _).locks rfl]

@[simp] theorem execShedRelease_locks (c : Ctx) (mask : BitVec 64) (s : State) : locksStay s (execShedRelease c mask s) := by
  simp [execShedRelease, (askRelease_changes _ _).locks rfl]

@[simp] theorem execTrigArm_locks (c : Ctx) (t : BitVec 8) (arm : BitVec 8) (s : State) : locksStay s (execTrigArm c t arm s) := by
  simp [execTrigArm, (armTrigger_changes _ _).locks rfl, (disarmTrigger_changes _ _).locks rfl]

@[simp] theorem execHarmRead_locks (c : Ctx) (input : BitVec 8) (s : State) : locksStay s (execHarmRead c input s) := by
  simp [execHarmRead]

@[simp] theorem execGridEvents_locks (c : Ctx) (s : State) : locksStay s (execGridEvents c s) := by
  simp [execGridEvents]

/-! ## The safety island -/

@[simp] theorem execSafeInputChange_locks (ch : Fin 16) (on : Bool) (s : State) : locksStay s (execSafeInputChange ch on s) := by
  simp [execSafeInputChange]

@[simp] theorem execSafetyCycle_locks (i : CycleInputs) (s : State) : locksStay s (execSafetyCycle i s) := by
  simp [execSafetyCycle, (missingMessage_changes _).locks rfl, (driveClaims_changes _).locks rfl, (publishSafety_changes _).locks rfl]

@[simp] theorem execHalfSelftestDone_locks (aOk bOk : Bool) (s : State) : locksStay s (execHalfSelftestDone aOk bOk s) := by
  simp [execHalfSelftestDone, (failHalf_changes _ _).locks rfl]

@[simp] theorem execDiscrepancy_locks (p : Fin 8) (s : State) : locksStay s (execDiscrepancy p s) := by
  simp [execDiscrepancy]

@[simp] theorem execCrossCircuit_locks (p : Fin 8) (s : State) : locksStay s (execCrossCircuit p s) := by
  simp [execCrossCircuit, (latchCross_changes _ _).locks rfl]

@[simp] theorem execTestSourceDark_locks (b : Bool) (reads : BitVec 16) (s : State) : locksStay s (execTestSourceDark b reads s) := by
  simp [execTestSourceDark, (latchCross_changes _ _).locks rfl]

@[simp] theorem execSpeedPulse_locks (i : Fin 2) (halfB : Bool) (s : State) : locksStay s (execSpeedPulse i halfB s) := by
  simp [execSpeedPulse]

@[simp] theorem execSpeedDisc_locks (i : Fin 2) (s : State) : locksStay s (execSpeedDisc i s) := by
  simp [execSpeedDisc]

@[simp] theorem execSafeOutputFault_locks (q : Fin 8) (k : SafeFault) (s : State) : locksStay s (execSafeOutputFault q k s) := by
  unfold execSafeOutputFault
  repeat' split
  all_goals simp

@[simp] theorem execQsupMissing_locks (g : Fin 2) (s : State) : locksStay s (execQsupMissing g s) := by
  simp [execQsupMissing]

@[simp] theorem execQsupOk_locks (g : Fin 2) (s : State) : locksStay s (execQsupOk g s) := by
  simp [execQsupOk]

@[simp] theorem execDarkTest_locks (q : Fin 8) (s : State) : locksStay s (execDarkTest q s) := by
  simp [execDarkTest, (askC0_changes _ _ _ _ _).locks rfl]

@[simp] theorem execDarkTestEnd_locks (q : Fin 8) (readback : Bool) (s : State) : locksStay s (execDarkTestEnd q readback s) := by
  simp [execDarkTestEnd, (testFailed_changes _ _).locks rfl]

@[simp] theorem execLightTest_locks (q : Fin 8) (s : State) : locksStay s (execLightTest q s) := by
  simp [execLightTest, (askC0_changes _ _ _ _ _).locks rfl]

@[simp] theorem execLightTestEnd_locks (q : Fin 8) (readback : Bool) (s : State) : locksStay s (execLightTestEnd q readback s) := by
  simp [execLightTestEnd, (testFailed_changes _ _).locks rfl]

@[simp] theorem execHalfFail_locks (halfB : Bool) (s : State) : locksStay s (execHalfFail halfB s) := by
  simp [execHalfFail, (failHalf_changes _ _).locks rfl]

@[simp] theorem execHalfDriveTakeover_locks (opened : BitVec 8) (s : State) : locksStay s (execHalfDriveTakeover opened s) := by
  simp [execHalfDriveTakeover]

@[simp] theorem execSs1Tmax_locks (f : Fin 8) (s : State) : locksStay s (execSs1Tmax f s) := by
  simp [execSs1Tmax]

@[simp] theorem execResetEdge_locks (s : State) : locksStay s (execResetEdge s) := by
  simp [execResetEdge, (degradedYield_changes _ _).locks rfl]

@[simp] theorem execResetJammed_locks (s : State) : locksStay s (execResetJammed s) := by
  simp [execResetJammed]

@[simp] theorem execDegradedExpiry_locks (s : State) : locksStay s (execDegradedExpiry s) := by
  simp [execDegradedExpiry]

@[simp] theorem execSafety_locks (msg : List Byte) (set : Option (List Byte)) (s : State) : locksStay s (execSafety msg set s) := by
  simp [execSafety, (discardMessage_changes _).locks rfl, (partnerHolds_changes _ _).locks rfl, (mirrorSet_changes _ _ _).locks rfl,
    (adoptSet_changes _ _ _).locks rfl]

@[simp] theorem execSafeParamExpiry_locks (s : State) : locksStay s (execSafeParamExpiry s) := by
  unfold execSafeParamExpiry
  split <;> simp

@[simp] theorem execSafeParamLoad_locks (c : Ctx) (set : List Byte) (s : State) : locksStay s (execSafeParamLoad c set s) := by
  unfold execSafeParamLoad
  repeat' split
  all_goals simp [locks_safetyCommand]

@[simp] theorem execSafeRead_locks (c : Ctx) (area : BitVec 8) (s : State) : locksStay s (execSafeRead c area s) := by
  unfold execSafeRead
  split <;> simp

/-! ## Memory and MRAM -/

@[simp] theorem execMemoryRead_locks (word : Fin 3670016) (u : MemUpset) (s : State) : locksStay s (execMemoryRead word u s) := by
  simp [execMemoryRead, (answered_changes _ _).locks rfl, (readWord16_changes _ _ _ _).locks rfl]

@[simp] theorem execMemoryWrite_locks (addr : Nat) (data : List Byte) (u : MemUpset) (s : State) : locksStay s (execMemoryWrite addr data u s) := by
  simp [execMemoryWrite, (writeWord16_changes _ _ _ _ _).locks rfl, (answered_changes _ _).locks rfl]

@[simp] theorem execScrubStep_locks (r : Fin 4) (u : MemUpset) (s : State) : locksStay s (execScrubStep r u s) := by
  simp [execScrubStep, (renewAccel_changes _ _).locks rfl, (readWord16_changes _ _ _ _).locks rfl]

@[simp] theorem execImageScrubLap_locks (s : State) : locksStay s (execImageScrubLap s) := by
  simp [execImageScrubLap, (lapAlarm_changes _).locks rfl]

@[simp] theorem execScrubLapAlarm_locks (s : State) : locksStay s (execScrubLapAlarm s) := by
  simp [execScrubLapAlarm, (lapAlarm_changes _).locks rfl]

@[simp] theorem execAccelPassDone_locks (r : Fin 4) (s : State) : locksStay s (execAccelPassDone r s) := by
  simp [execAccelPassDone]

@[simp] theorem execLaneCopyDone_locks (r : Fin 4) (s : State) : locksStay s (execLaneCopyDone r s) := by
  simp [execLaneCopyDone, (memRaise_changes _ _).locks rfl, (startAccel_changes _ _).locks rfl, (startCopies_changes _).locks rfl,
    (resumeWrites_changes _).locks rfl]

@[simp] theorem execHourCountTick_locks (s : State) : locksStay s (execHourCountTick s) := by
  simp [execHourCountTick]

@[simp] theorem execMramWrite_locks (use : MramUse) (addr : Nat) (data : List Byte) (verifies : Bool) (s : State) :
    locksStay s (execMramWrite use addr data verifies s) := by
  simp [execMramWrite, (mramWrite_changes _ _).locks rfl]

@[simp] theorem execMramRemap_locks (s : State) : locksStay s (execMramRemap s) := by
  unfold execMramRemap
  split <;> simp [(resumeWrites_changes _).locks rfl, (mramFailed_changes _ _).locks rfl, (copyMramWord_changes _ _ _ _).locks rfl,
    (mramPut_changes _ _ _).locks rfl, (memRaise_changes _ _).locks rfl, (startCopies_changes _).locks rfl]

@[simp] theorem execMemlogRead_locks (c : Ctx) (s : State) : locksStay s (execMemlogRead c s) := by
  simp [execMemlogRead]

@[simp] theorem execMemlogClear_locks (c : Ctx) (s : State) : locksStay s (execMemlogClear c s) := by
  simp [execMemlogClear]

/-! ## Sessions and packets -/

@[simp] theorem execPacketArrival_locks (session : Fin 17) (packet : List Byte) (s : State) : locksStay s (execPacketArrival session packet s) := by
  unfold execPacketArrival
  repeat' split
  all_goals simp [(takeFrame_changes _ _).locks rfl, (refusePacket_changes _ _ _ _ _).locks rfl, (takePacket_changes _ _ _ _).locks rfl,
    (raise_changes _ Reg.cmdFlags _ _).locks rfl]

@[simp] theorem execCommandDispatch_locks (s : State) : locksStay s (execCommandDispatch s) := by
  unfold execCommandDispatch
  repeat' split
  all_goals simp [(startQueue_changes _ _ _).locks rfl]

@[simp] theorem execSessionOpen_locks (net : Fin 4) (der : List Byte) (s : State) : locksStay s (execSessionOpen net der s) := by
  unfold execSessionOpen
  repeat' split
  all_goals simp [(truRaise_changes _ _).locks rfl, (dateUnchecked_changes _).locks rfl, (raise_changes _ Reg.cmdFlags _ _).locks rfl]

@[simp] theorem execSessionIdleTimeout_locks (session : Fin 17) (s : State) : locksStay s (execSessionIdleTimeout session s) := by
  simp [execSessionIdleTimeout]

@[simp] theorem execServiceBreak_locks (s : State) : locksStay s (execServiceBreak s) := by
  simp [execServiceBreak]

@[simp] theorem execSessionClose_locks (session : Fin 17) (s : State) : locksStay s (execSessionClose session s) := by
  simp [execSessionClose]

@[simp] theorem execAuthLockoutEnd_locks (s : State) : locksStay s (execAuthLockoutEnd s) := by
  simp [execAuthLockoutEnd]

@[simp] theorem execNotifyLost_locks (queue : Fin 32) (s : State) : locksStay s (execNotifyLost queue s) := by
  unfold execNotifyLost
  split <;> simp [(flagNotifyLost_changes _ _).locks rfl]

@[simp] theorem execEcho_locks (c : Ctx) (data : List Byte) (s : State) : locksStay s (execEcho c data s) := by
  simp [execEcho]

@[simp] theorem execSessions_locks (c : Ctx) (s : State) : locksStay s (execSessions c s) := by
  simp [execSessions]

/-! ## The seedbank -/

@[simp] theorem execSbkRead_locks (c : Ctx) (first : BitVec 32) (count : BitVec 16) (s : State) : locksStay s (execSbkRead c first count s) := by
  simp [execSbkRead]

@[simp] theorem execSbkSnapshot_locks (c : Ctx) (s : State) : locksStay s (execSbkSnapshot c s) := by
  simp [execSbkSnapshot, (startFlush_changes _).locks rfl]

@[simp] theorem execSbkRelease_locks (c : Ctx) (s : State) : locksStay s (execSbkRelease c s) := by
  simp [execSbkRelease]

@[simp] theorem execSbkSubscribe_locks (c : Ctx) (minSev : BitVec 8) (s : State) : locksStay s (execSbkSubscribe c minSev s) := by
  simp [execSbkSubscribe, (endSubs_changes _ _).locks rfl, (subscribe_changes _ _ _ _).locks rfl]

@[simp] theorem execSbkFlush_locks (s : State) : locksStay s (execSbkFlush s) := by
  simp [execSbkFlush, (startFlush_changes _).locks rfl]

@[simp] theorem execSbkFlushDone_locks (failed : List Nat) (s : State) : locksStay s (execSbkFlushDone failed s) := by
  simp [execSbkFlushDone, (finishFlush_changes _ _).locks rfl]

@[simp] theorem execSbkRateSummary_locks (e : Event) (s : State) : locksStay s (execSbkRateSummary e s) := by
  simp [execSbkRateSummary]

@[simp] theorem execSbkSnapshotExpired_locks (s : State) : locksStay s (execSbkSnapshotExpired s) := by
  unfold execSbkSnapshotExpired
  split <;> simp

/-! ## The panel -/

@[simp] theorem execPanelUpdate_locks (c : Ctx) (x y w h : BitVec 16) (flags : BitVec 8) (pixels : List Byte) (s : State) :
    locksStay s (execPanelUpdate c x y w h flags pixels s) := by
  simp [execPanelUpdate, (drawCommand_changes _ _ _ _).locks rfl]

@[simp] theorem execPanelStatus_locks (c : Ctx) (s : State) : locksStay s (execPanelStatus c s) := by
  simp [execPanelStatus]

@[simp] theorem execPanelFrame_locks (s : State) : locksStay s (execPanelFrame s) := by
  simp [execPanelFrame, (frameOne_changes _ _).locks rfl, (askPanel_changes _).locks rfl, (startReady_changes _).locks rfl,
    (queueTimestamp_changes _).locks rfl, (drawFaultScreen_changes _).locks rfl]

@[simp] theorem execPanelTempMeasure_locks (t : Int) (s : State) : locksStay s (execPanelTempMeasure t s) := by
  simp [execPanelTempMeasure, (askPanel_changes _).locks rfl]

@[simp] theorem execCrackMeasure_locks (ohm : Nat) (s : State) : locksStay s (execCrackMeasure ohm s) := by
  simp [execCrackMeasure, (endPanel_changes _ _ _ _).locks rfl, (cancelPanelClaim_changes _ _).locks rfl]

@[simp] theorem execPanelRecordWritten_locks (id : Nat) (s : State) : locksStay s (execPanelRecordWritten id s) := by
  unfold execPanelRecordWritten
  split <;> simp [(modPanelReq_changes _ _ _).locks rfl]

@[simp] theorem execPanelDischargeDone_locks (s : State) : locksStay s (execPanelDischargeDone s) := by
  simp [execPanelDischargeDone]

@[simp] theorem execPanelRedraw_locks (s : State) : locksStay s (execPanelRedraw s) := by
  unfold execPanelRedraw
  dsimp only
  split <;> simp [(askLogic_changes _ _ _ _ _ _).locks rfl, (haltRedraw_changes _).locks rfl]

@[simp] theorem execScreen0Redraw_locks (pixels : List Byte) (s : State) : locksStay s (execScreen0Redraw pixels s) := by
  simp [execScreen0Redraw, (queuePanel_changes _ _).locks rfl]

/-! ## Certificates and proofs -/

@[simp] theorem execCsrMake_locks (c : Ctx) (subject : SubjectFields) (request : List Byte) (s : State) :
    locksStay s (execCsrMake c subject request s) := by
  simp [execCsrMake]

@[simp] theorem execCertInstall_locks (c : Ctx) (slot : BitVec 8) (cert : Certificate) (s : State) :
    locksStay s (execCertInstall c slot cert s) := by
  simp [execCertInstall]

@[simp] theorem execAuthChallenge_locks (c : Ctx) (nonce : BitVec 384) (s : State) : locksStay s (execAuthChallenge c nonce s) := by
  simp [execAuthChallenge]

@[simp] theorem execAuthResponse_locks (c : Ctx) (slot : BitVec 8) (valid : Bool) (s : State) : locksStay s (execAuthResponse c slot valid s) := by
  simp [execAuthResponse]

@[simp] theorem execCertRemove_locks (c : Ctx) (slot : BitVec 8) (s : State) : locksStay s (execCertRemove c slot s) := by
  simp [execCertRemove]

@[simp] theorem execCredentialOpStart_locks (s : State) : locksStay s (execCredentialOpStart s) := by
  unfold execCredentialOpStart
  split <;> simp [(closeReplaced_changes _ _).locks rfl, (runOp_changes _ _).locks rfl]

@[simp] theorem execCommissionProofExpiry_locks (s : State) : locksStay s (execCommissionProofExpiry s) := by
  unfold execCommissionProofExpiry
  split <;> simp [(setSlot_changes _ _ _).locks rfl]

@[simp] theorem execArbAdvance_locks (s : State) : locksStay s (execArbAdvance s) := by
  unfold execArbAdvance
  split <;> simp [(truRaise_changes _ _).locks rfl]

/-! ## Network and time -/

@[simp] theorem execTimeRead_locks (c : Ctx) (s : State) : locksStay s (execTimeRead c s) := by
  simp [execTimeRead]

@[simp] theorem execTimeAcceptJump_locks (c : Ctx) (s : State) : locksStay s (execTimeAcceptJump c s) := by
  simp [execTimeAcceptJump]

@[simp] theorem execLinkChange_locks (port : Fin 4) (l : LinkReport) (s : State) : locksStay s (execLinkChange port l s) := by
  simp [execLinkChange, (netRaise_changes _ _).locks rfl, (portDown_changes _ _).locks rfl]

@[simp] theorem execFrameReceive_locks (port : Fin 4) (f : EthFrame) (s : State) : locksStay s (execFrameReceive port f s) := by
  simp [execFrameReceive, (seenFrame_changes _ _).locks rfl, (netRaise_changes _ _).locks rfl, (deliver_changes _ _ _).locks rfl,
    (notePrp_changes _ _).locks rfl]

@[simp] theorem execPrpSupervisionSend_locks (s : State) : locksStay s (execPrpSupervisionSend s) := by
  simp [execPrpSupervisionSend, (sendOn_changes _ _ _).locks rfl]

@[simp] theorem execPrpLanFail_locks (lanB : Bool) (s : State) : locksStay s (execPrpLanFail lanB s) := by
  simp [execPrpLanFail, (lanFails_changes _ _).locks rfl]

@[simp] theorem execPrpLanOk_locks (lanB : Bool) (s : State) : locksStay s (execPrpLanOk lanB s) := by
  unfold execPrpLanOk
  dsimp only
  split <;> simp [(setLan_changes _ _ _).locks rfl]

@[simp] theorem execBeaconSend_locks (signature : List Byte) (s : State) : locksStay s (execBeaconSend signature s) := by
  simp [execBeaconSend, (sendOn_changes _ _ _).locks rfl]

@[simp] theorem execBeaconReceive_locks (b : Beacon) (s : State) : locksStay s (execBeaconReceive b s) := by
  simp [execBeaconReceive, (rejectBeacon_changes _).locks rfl, (judgeBeacon_changes _ _).locks rfl]

@[simp] theorem execBeaconHoldExpiry_locks (serial : Nat) (s : State) : locksStay s (execBeaconHoldExpiry serial s) := by
  simp [execBeaconHoldExpiry, (rejectBeacon_changes _).locks rfl]

@[simp] theorem execDiscoveryRecordExpiry_locks (serial : Nat) (s : State) : locksStay s (execDiscoveryRecordExpiry serial s) := by
  simp [execDiscoveryRecordExpiry, (setStation_changes _ _ _).locks rfl]

@[simp] theorem execPtpMessage_locks (port : Fin 4) (m : PtpMessage) (s : State) : locksStay s (execPtpMessage port m s) := by
  simp [execPtpMessage, (takePtp_changes _ _ _).locks rfl]

@[simp] theorem execPtpMessageSend_locks (port : Fin 4) (k : PtpSend) (sent : Int) (s : State) :
    locksStay s (execPtpMessageSend port k sent s) := by
  unfold execPtpMessageSend
  split <;> simp [(sendPtp_changes _ _ _).locks rfl, (setNetPort_changes _ _ _).locks rfl]

@[simp] theorem execAnnounceTimeout_locks (port : Fin 4) (s : State) : locksStay s (execAnnounceTimeout port s) := by
  unfold execAnnounceTimeout
  dsimp only
  split <;> simp [(setNetPort_changes _ _ _).locks rfl, (slaveLost_changes _ _ _).locks rfl]

@[simp] theorem execServoUpdate_locks (s : State) : locksStay s (execServoUpdate s) := by
  simp [execServoUpdate, (flushPort_changes _ _).locks rfl, (servoSelected_changes _).locks rfl, (selectSlave_changes _).locks rfl]

@[simp] theorem execTimeStepApply_locks (s : State) : locksStay s (execTimeStepApply s) := by
  unfold execTimeStepApply
  split <;> simp [(stepTime_changes _ _).locks rfl]

@[simp] theorem execHoldoverExpiry_locks (s : State) : locksStay s (execHoldoverExpiry s) := by
  simp [execHoldoverExpiry]

@[simp] theorem execTimeSave_locks (s : State) : locksStay s (execTimeSave s) := by
  simp [execTimeSave, (askWrite_changes _ _ _ _).locks rfl]

@[simp] theorem execTtLaunch_locks (port : Fin 4) (entry : Fin 256) (delay : Nat) (initial : List Byte) (s : State) :
    locksStay s (execTtLaunch port entry delay initial s) := by
  simp [execTtLaunch, (lateLaunch_changes _ _ _).locks rfl, (served_changes _ _ _).locks rfl, (serveEntry_changes _ _ _ _ _).locks rfl,
    (flushPort_changes _ _).locks rfl]

/-! ## CAN -/

@[simp] theorem execCanStatus_locks (c : Ctx) (port : BitVec 8) (s : State) : locksStay s (execCanStatus c port s) := by
  simp [execCanStatus]

@[simp] theorem execCanRecover_locks (c : Ctx) (port : BitVec 8) (s : State) : locksStay s (execCanRecover c port s) := by
  simp [execCanRecover, (startRecovery_changes _ _).locks rfl]

@[simp] theorem execCanSend_locks (c : Ctx) (port : BitVec 8) (frame : CanFrame) (s : State) : locksStay s (execCanSend c port frame s) := by
  simp [execCanSend, (queueEntry_changes _ _ _ _ _).locks rfl]

@[simp] theorem execCanFrameRx_locks (port : Fin 4) (frame : CanFrame) (sof : Nat) (s : State) : locksStay s (execCanFrameRx port frame sof s) := by
  simp [execCanFrameRx, (canErrorSeen_changes _ _ _).locks rfl, (canReceive_changes _ _ _ _).locks rfl]

@[simp] theorem execCanFrameTxEnd_locks (port : Fin 4) (outcome : CanEnd) (sof loopDelay : Nat) (s : State) :
    locksStay s (execCanFrameTxEnd port outcome sof loopDelay s) := by
  unfold execCanFrameTxEnd
  dsimp only
  repeat' split
  all_goals simp [(canSent_changes _ _ _ _ _ _).locks rfl, (canNoAck_changes _ _ _ _ _ _ _).locks rfl, (canTxError_changes _ _ _ _ _ _).locks rfl,
    (canLostArb_changes _ _ _ _).locks rfl]

@[simp] theorem execCanCyclicQueue_locks (port : Fin 4) (obj : Fin 32) (s : State) : locksStay s (execCanCyclicQueue port obj s) := by
  unfold execCanCyclicQueue
  dsimp only
  split <;> simp [(queueObject_changes _ _ _).locks rfl]

@[simp] theorem execCanRecovered_locks (port : Fin 4) (s : State) : locksStay s (execCanRecovered port s) := by
  simp [execCanRecovered, (modPort_changes _ _ _).locks rfl, (canPost_changes _ _ _).locks rfl, (canRaise_changes _ _ _).locks rfl]

@[simp] theorem execCanTxAbort_locks (port : Fin 4) (r : Requester) (s : State) : locksStay s (execCanTxAbort port r s) := by
  simp [execCanTxAbort, locks_actionWrite, (abortBuffers_changes _ _).locks rfl]

@[simp] theorem execCanRxfPop_locks (port : Fin 4) (r : Requester) (s : State) : locksStay s (execCanRxfPop port r s) := by
  simp [execCanRxfPop, locks_actionWrite, (fifoPop_changes _ _).locks rfl]

@[simp] theorem execCanCtrlRecover_locks (port : Fin 4) (r : Requester) (s : State) : locksStay s (execCanCtrlRecover port r s) := by
  simp [execCanCtrlRecover, locks_actionWrite, (startRecovery_changes _ _).locks rfl]

@[simp] theorem execCanRefDue_locks (port : Fin 4) (s : State) : locksStay s (execCanRefDue port s) := by
  simp [execCanRefDue, (setPort_changes _ _ _).locks rfl]

@[simp] theorem execCanTimeMaster_locks (port : Fin 4) (s : State) : locksStay s (execCanTimeMaster port s) := by
  simp [execCanTimeMaster, (becomeMaster_changes _ _).locks rfl, (modPort_changes _ _ _).locks rfl]

@[simp] theorem execCanTimeLost_locks (port : Fin 4) (s : State) : locksStay s (execCanTimeLost port s) := by
  simp [execCanTimeLost, (setPort_changes _ _ _).locks rfl, (enterHoldover_changes _ _).locks rfl, (canPost_changes _ _ _).locks rfl,
    (canRaise_changes _ _ _).locks rfl]

@[simp] theorem execCanErrorFrame_locks (port : Fin 4) (k : BusError) (s : State) : locksStay s (execCanErrorFrame port k s) := by
  simp [execCanErrorFrame, (protocolException_changes _ _).locks rfl, (canErrorSeen_changes _ _ _).locks rfl]

/-! ## Staged words -/

@[simp] theorem execStagedApply_locks (i : StagedIsland) (s : State) : locksStay s (execStagedApply i s) := by
  simp [execStagedApply, (stagedApply_changes _ _).locks rfl]

/-! ## Registers -/

@[simp] theorem execLockKeyTimeout_locks (s : State) : locksStay s (execLockKeyTimeout s) := by
  simp [execLockKeyTimeout]

/-! ## The supervisor -/

@[simp] theorem execSupResetModule_locks (r : Requester) (s : State) : locksStay s (execSupResetModule r s) := by
  simp [execSupResetModule, locks_actionWrite, (askReset_changes _).locks rfl]

@[simp] theorem execSupResetIsland_locks (i : LoneIsland) (r : Requester) (s : State) : locksStay s (execSupResetIsland i r s) := by
  simp [execSupResetIsland, locks_actionWrite, (resetIsland_changes _ _).locks rfl]

@[simp] theorem execOptCommit_locks (r : Requester) (s : State) : locksStay s (execOptCommit r s) := by
  simp [execOptCommit, locks_actionWrite, (commitOptions_changes _).locks rfl]

@[simp] theorem execOptDiscard_locks (r : Requester) (s : State) : locksStay s (execOptDiscard r s) := by
  simp [execOptDiscard, locks_actionWrite, (discardOptions_changes _).locks rfl]

@[simp] theorem execWatchdog_locks (s : State) : locksStay s (execWatchdog s) := by
  simp [execWatchdog, (scheduleReset_changes _ _).locks rfl]

@[simp] theorem execHoldupReady_locks (s : State) : locksStay s (execHoldupReady s) := by
  simp [execHoldupReady, (releaseIslands_changes _).locks rfl]

@[simp] theorem execResetStorm_locks (s : State) : locksStay s (execResetStorm s) := by
  simp [execResetStorm, (noteStorm_changes _).locks rfl, (holdAll_changes _).locks rfl]

@[simp] theorem execClkFallback_locks (s : State) : locksStay s (execClkFallback s) := by
  simp [execClkFallback, (supRaise_changes _ _).locks rfl]

@[simp] theorem execHuskWatchdog_locks (i : LoneIsland) (s : State) : locksStay s (execHuskWatchdog i s) := by
  simp [execHuskWatchdog, (resetIsland_changes _ _).locks rfl]

@[simp] theorem execIslandResetDone_locks (i : LoneIsland) (s : State) : locksStay s (execIslandResetDone i s) := by
  unfold execIslandResetDone
  split <;> simp [(panelStart_changes _).locks rfl]

@[simp] theorem execSupplySample_locks (m : SupplySample) (s : State) : locksStay s (execSupplySample m s) := by
  simp [execSupplySample, (sampleRail_changes _ _).locks rfl, (sampleB_changes _ _).locks rfl, (sampleA_changes _ _).locks rfl]

@[simp] theorem execPowerFailWarning_locks (s : State) : locksStay s (execPowerFailWarning s) := by
  simp [execPowerFailWarning, (supPost_changes _ _ _ _ _).locks rfl, (supRaise_changes _ _).locks rfl, (warningWrites_changes _).locks rfl,
    (waitingToC0_changes _).locks rfl, (abandonInstances_changes _).locks rfl, (pairWarning_changes _).locks rfl]

@[simp] theorem execPowerFailHold_locks (s : State) : locksStay s (execPowerFailHold s) := by
  simp [execPowerFailHold, (holdAll_changes _).locks rfl]

@[simp] theorem execResetNRelease_locks (s : State) : locksStay s (execResetNRelease s) := by
  simp [execResetNRelease]

@[simp] theorem execFirmwareIdlePoint_locks (s : State) : locksStay s (execFirmwareIdlePoint s) := by
  simp [execFirmwareIdlePoint]

@[simp] theorem execHoldupFull_locks (s : State) : locksStay s (execHoldupFull s) := by
  simp [execHoldupFull]

@[simp] theorem execRetentionEnd_locks (s : State) : locksStay s (execRetentionEnd s) := by
  simp [execRetentionEnd]

end Sys2Proof
end

section
/-! PROOFS. The register path and the lock bits (R327, R341, O48). -/
namespace Sys2Proof
open Sys2Proof.Machine

/-- Every register of the map lies in the register space, at the address it is found by. -/
theorem regSpec_addr {a : Nat} {sp : RegSpec} (h : regSpec? a = some sp) : sp.addr = a ∧ a < 1048576 := by
  have haddr : sp.addr = a := by simpa using List.find?_some h
  refine ⟨haddr, ?_⟩
  by_contra hge
  have hno : ∀ w, 16 ≤ w → regsOfWindow w = [] := by
    intro w hw
    obtain ⟨n, rfl⟩ := Nat.exists_eq_add_of_le' hw
    rfl
  have := hno (a / 65536) (by omega)
  simp [regSpec?, this] at h

/-- A frame of one register that is not SUP_LOCK spares the lock bits. -/
theorem sparesLocks_reg {a : Nat} (h : a % 1048576 ≠ Reg.supLock) : sparesLocks [.reg a] = true := by
  have : Reg.supLock % 1048576 = Reg.supLock := rfl
  simpa [sparesLocks, Area.has, this] using h

/-- The indirect pair of a window lies apart from SUP_LOCK. -/
theorem idxPair_apart {w : Nat} {p : Nat × Nat × Nat} (h : idxPair w = some p) :
    p.1 % 1048576 ≠ Reg.supLock ∧ p.2.1 % 1048576 ≠ Reg.supLock := by
  unfold idxPair at h
  split at h <;> cases h <;> exact ⟨by decide, by decide⟩

theorem isIdxData_apart {a : Nat} (h : isIdxData a = true) : a % 1048576 ≠ Reg.supLock := by
  unfold isIdxData at h
  split at h
  · next p hp => exact of_decide_eq_true h ▸ (idxPair_apart hp).2
  · cases h

@[simp] theorem locks_advanceData (s : State) (a : Nat) : locks (advanceData s a) = locks s := by
  unfold advanceData
  split
  · next p hp => exact locks_setReg s 0 _ (idxPair_apart hp).1
  · rfl

@[simp] theorem locks_afterRead (s : State) (a : Nat) (v : Word) : locks (afterRead s a v) = locks s := by
  unfold afterRead
  split
  · next h =>
    simp [locks_setReg _ _ _ (isIdxData_apart h), (isoRead_changes _).locks rfl, (grantRead_changes _).locks rfl]
  · simp

@[simp] theorem locks_readWord (s : State) (a : Nat) : locks (readWord s a).1 = locks s := by
  unfold readWord
  split <;> simp

@[simp] theorem locks_readOne (x : ReadRun) (a : Nat) : locks (readOne x a).s = locks x.s := by
  unfold readOne
  split
  · rfl
  · have hread := locks_readWord x.s a
    split <;> next h => rw [h] at hread; exact hread

theorem locks_readAll (l : List Nat) (x : ReadRun) : locks (l.foldl readOne x).s = locks x.s := by
  induction l generalizing x with
  | nil => rfl
  | cons a l ih => exact (ih _).trans (locks_readOne x a)

theorem locks_takeSnapshot (s : State) (w : Nat) : locks (takeSnapshot s w) = locks s := by
  unfold takeSnapshot
  split
  · rfl
  · next a h =>
    obtain ⟨-, -, ha, -, -, -, hl, -⟩ := snapReg_register h
    have : a < 1048576 := by have := (snapReg_register h).1; omega
    rw [locks_setReg _ _ _ (by rwa [Nat.mod_eq_of_lt this])]
    simp

/-! ## Writes of the register map -/

theorem locks_clearReg (s : State) {a : Nat} (i : Nat) (v : Word) (race : List Nat) (h : a % 1048576 ≠ Reg.supLock) :
    locks (clearReg s a i v race) = locks s := by
  unfold clearReg
  split
  · simp
  · exact (clearFlags_changes s a i v race).locks (sparesLocks_reg h)

theorem locks_writeStaged (s : State) (sp : RegSpec) (i : Nat) (v m : Word) (h : sp.addr % 1048576 ≠ Reg.supLock) :
    locks (writeStaged s sp i v m) = locks s := by
  simp [writeStaged, stageWrite, locks_setReg _ _ _ h, (raise_changes _ Reg.fchFlags _ _).locks rfl, (canRaise_changes _ _ _).locks rfl]

theorem locks_writeData (s : State) {a : Nat} (v m : Word) (r : Requester) (h : a % 1048576 ≠ Reg.supLock) :
    locks (writeData s a v m r).1 = locks s := by
  unfold writeData
  dsimp only
  split
  · rfl
  · simp [locks_setReg _ _ _ h, (windowWrite_changes _ _ _ _ _).locks rfl]

theorem locks_actIf {f : State → State} (h : ∀ t, locks (f t) = locks t) (w : Word) (n : Nat) (s : State) : locks (actIf w n f s) = locks s := by
  simp [actIf, h]

theorem locks_writeActions (s : State) (a i : Nat) (w : Word) : locks (writeActions s a i w) = locks s := by
  unfold writeActions
  repeat' split
  all_goals simp [locks_actIf, (commitOptions_changes _).locks rfl, (discardOptions_changes _).locks rfl, (retrainRetired_changes _).locks rfl,
    (goOffline_changes _ _).locks rfl, (claimField_changes _).locks rfl, (askSync_changes _).locks rfl, (disarmSync_changes _).locks rfl,
    (writeRelease_changes _ _ _).locks rfl, (armTrigger_changes _ _).locks rfl, (disarmTrigger_changes _ _).locks rfl,
    (startInjection_changes _ _).locks rfl, (stopInjection_changes _ _).locks rfl, (askArm_changes _ _).locks rfl,
    (fireCapture_changes _ _).locks rfl, (disarmCapture_changes _ _).locks rfl, (startRecovery_changes _ _).locks rfl,
    (fifoPop_changes _ _).locks rfl, (abortBuffers_changes _ _).locks rfl, (clearFault_changes _ _).locks rfl]

theorem locks_writePlain (s : State) (sp : RegSpec) (i : Nat) (v m : Word) (r : Requester) (h : sp.addr % 1048576 ≠ Reg.supLock) :
    locks (writePlain s sp i v m r).1 = locks s := by
  unfold writePlain
  dsimp only
  split
  · exact (lockedWrite_changes _ _ _ _).locks rfl
  · split <;> simp [locks_writeActions, locks_setReg _ _ _ h, (raise_changes _ Reg.fchFlags _ _).locks rfl]

theorem locks_writeLoop (s : State) (a i : Nat) (v m : Word) : locks (writeLoop s a i v m) = locks s := by
  simp [writeLoop, (writeLoopMode_changes _ _).locks rfl, (writeLoopSp_changes _ _).locks rfl, (writeLoopMv_changes _ _).locks rfl]

/-- A write of a register other than SUP_LOCK and its key keeps the lock bits. -/
theorem locks_writeInstance (s : State) (sp : RegSpec) (i : Nat) (v m : Word) (r : Requester) (h : sp.addr % 1048576 ≠ Reg.supLock)
    (hkey : sp.addr ≠ Reg.supLockKey) : locks (writeInstance s sp i v m r).1 = locks s := by
  have hlock : sp.addr ≠ Reg.supLock := fun e => h (by rw [e]; rfl)
  unfold writeInstance
  dsimp only
  rw [if_neg hlock, if_neg hkey]
  repeat' split
  · exact locks_writeData s v m r h
  · exact (writeReset_changes _ _ _).locks rfl
  · exact locks_clearReg s i _ _ h
  · exact locks_takeSnapshot s _
  · rfl
  · exact locks_setReg s i _ h
  · exact locks_writeLoop s _ i v m
  · exact locks_writeStaged s sp i v m h
  · exact locks_writePlain s sp i v m r h

end Sys2Proof
end

section
/-! PROOFS. SUP_LOCK written: DEV_LOCK, PERM and the locked writes (R341 to R344, O48). -/
namespace Sys2Proof
open Sys2Proof.Machine

/-! ## DEV_LOCK and PERM -/

theorem bit_eq_getLsbD (w : Word) (n : Nat) : bit w n = w.getLsbD n := by
  have h := testBit_field w n n 0
  have hlt : field w n n < 2 := by
    have : n + 1 - n = 1 := by omega
    simp only [field, this]
    omega
  simp only [bit, Nat.add_zero, Nat.sub_pos_iff_lt, Nat.lt_add_one, decide_true, Bool.true_and] at h ⊢
  rw [← h]
  interval_cases field w n n <;> rfl

theorem devLocked_eq (s : State) : devLocked s = (locks s).testBit 0 := by
  rw [devLocked, bit_eq_getLsbD, locks_testBit]
  rfl

theorem permLocked_eq (s : State) : permLocked s = (locks s).testBit 1 := by
  rw [permLocked, bit_eq_getLsbD, locks_testBit]
  rfl

theorem devLocked_of_locks {s t : State} (h : locks t = locks s) : devLocked t = devLocked s := by
  rw [devLocked_eq, devLocked_eq, h]

theorem permLocked_of_locks {s t : State} (h : locks t = locks s) : permLocked t = permLocked s := by
  rw [permLocked_eq, permLocked_eq, h]

/-- Both locks are set: the field reads 3. -/
theorem locks_eq_three (s : State) : locks s = 3 ↔ permLocked s = true ∧ devLocked s = true := by
  have hlt : locks s < 4 := Nat.mod_lt _ (by decide)
  rw [permLocked_eq, devLocked_eq]
  interval_cases locks s <;> decide

theorem devLocked_setField (s : State) (hi v : Nat) (h : hi < 32) :
    devLocked (setRegField s Reg.supLock 0 hi 0 v) = v.testBit 0 := by
  rw [devLocked, setRegField, reg_setReg, bit_eq_getLsbD, getLsbD_setField _ _ _ h, if_pos ⟨Nat.le_refl 0, Nat.zero_le hi⟩]

theorem permLocked_setField (s : State) (hi v : Nat) (h : hi < 32) :
    permLocked (setRegField s Reg.supLock 0 hi 0 v) = if 1 ≤ hi then v.testBit 1 else permLocked s := by
  simp only [permLocked, setRegField, reg_setReg, bit_eq_getLsbD, getLsbD_setField _ _ _ h, Nat.zero_le, true_and, Nat.sub_zero]

/-! ## Locked writes (R343, R344) -/

/-- A locked write is flagged and counted. -/
theorem lockedWrite_flagged (s : State) (a : Nat) (r : Requester) (kind : Nat) :
    flagged s (lockedWrite s a r kind) Reg.supFlags 0
      ∧ counter (lockedWrite s a r kind) Reg.supSnapLockv 0 = counter s Reg.supSnapLockv 0 + 1 := by
  have hcap := captureWrite_changes s a r kind
  obtain ⟨hflag, hcount⟩ := raise_flagged (captureWrite s a r kind) Reg.supFlags 0 (by decide)
  have hraise := raise_changes (captureWrite s a r kind) Reg.supFlags 0 0
  have hup := countUp_changes (raise (captureWrite s a r kind) Reg.supFlags 0 0) Reg.supSnapLockv 0
  have hpost := post_changes (countUp (raise (captureWrite s a r kind) Reg.supFlags 0 0) Reg.supSnapLockv 0) .lockViolation 0 a (sourceBits r) kind
  refine ⟨⟨?_, ?_⟩, ?_⟩
  · exact (hpost.flag_eq rfl 0).trans ((hup.flag_eq rfl 0).trans hflag)
  · rw [← hcap.counter_eq (a := fcntOf Reg.supFlags + 4 * 0) rfl 0]
    exact (hpost.counter_eq rfl 0).trans ((hup.counter_eq rfl 0).trans hcount)
  · rw [← hcap.counter_eq (a := Reg.supSnapLockv) rfl 0, ← hraise.counter_eq (a := Reg.supSnapLockv) rfl 0]
    exact (hpost.counter_eq rfl 0).trans (counter_setCounter _ _ _ _)

theorem sourceBits_lt (r : Requester) : sourceBits r < 16777216 := by
  cases r <;> simp only [sourceBits] <;> omega

/-- The first locked write while neither flag stands is captured with its address and kind. -/
theorem lockedWrite_captured {s : State} (h : field (reg s Reg.supFlags 0) 1 0 = 0) (a : Nat) (r : Requester) {kind : Nat} (hk : kind < 8) :
    regField (lockedWrite s a r kind) Reg.supFaultSrc 0 26 24 = kind ∧ reg (lockedWrite s a r kind) Reg.supFaultAddr 0 = word a := by
  have hraise := raise_changes (captureWrite s a r kind) Reg.supFlags 0 0
  have hup := countUp_changes (raise (captureWrite s a r kind) Reg.supFlags 0 0) Reg.supSnapLockv 0
  have hpost := post_changes (countUp (raise (captureWrite s a r kind) Reg.supFlags 0 0) Reg.supSnapLockv 0) .lockViolation 0 a (sourceBits r) kind
  have hcap : captureWrite s a r kind = setReg (setReg s Reg.supFaultAddr 0 (word a)) Reg.supFaultSrc 0
      (word (2147483648 + kind * 16777216 + sourceBits r)) := by rw [captureWrite, if_pos h]
  have hkeeps : ∀ b, b = Reg.supFaultSrc ∨ b = Reg.supFaultAddr → reg (lockedWrite s a r kind) b 0 = reg (captureWrite s a r kind) b 0 := by
    rintro b (rfl | rfl) <;>
      exact (hpost.reg_eq (fun _ => rfl) 0).trans ((hup.reg_eq (fun _ => rfl) 0).trans (hraise.reg_eq (fun _ => rfl) 0))
  constructor
  · rw [regField, hkeeps _ (.inl rfl), hcap, reg_setReg]
    have := sourceBits_lt r
    simp only [field, word, BitVec.toNat_ofNat, Nat.shiftRight_eq_div_pow]
    omega
  · rw [hkeeps _ (.inr rfl), hcap, (setReg_changes _ Reg.supFaultSrc 0 _).reg_eq (fun _ => rfl), reg_setReg]

/-! ## A write of SUP_LOCK (R341, R342) -/

/-- The DEV_LOCK bit of a write of SUP_LOCK: a written 1 is stored. -/
def storeDevLock (s : State) (v : Word) : State := if bit v 0 then setRegField s Reg.supLock 0 0 0 1 else s

theorem storeDevLock_changes (s : State) (v : Word) : changesOnly [.reg Reg.supLock] s (storeDevLock s v) := by
  unfold storeDevLock
  split
  · exact setRegField_changes s _ _ _ _ _
  · exact changesOnly.refl _ s

theorem devLocked_storeDevLock (s : State) (v : Word) : devLocked (storeDevLock s v) = (devLocked s || bit v 0) := by
  unfold storeDevLock
  split <;> simp_all [devLocked_setField]

theorem permLocked_storeDevLock (s : State) (v : Word) : permLocked (storeDevLock s v) = permLocked s := by
  unfold storeDevLock
  split <;> simp [permLocked_setField]

theorem locks_lockedWrite (s : State) (a : Nat) (r : Requester) (kind : Nat) : locks (lockedWrite s a r kind) = locks s :=
  (lockedWrite_changes s a r kind).locks rfl

/-- A write with PERM 0 stores a written 1 in DEV_LOCK. -/
theorem writeLock_perm_zero (s : State) {v : Word} (r : Requester) (h : bit v 1 = false) :
    writeLock s v r = (storeDevLock s v, .done) := by
  simp [writeLock, storeDevLock, h]

/-- The first write of 1 to PERM sets both locks. -/
theorem writeLock_perm_first {s : State} {v : Word} (r : Requester) (h : bit v 1 = true) (hp : permLocked s = false) :
    writeLock s v r = (setRegField (storeDevLock s v) Reg.supLock 0 1 0 3, .done) := by
  simp [writeLock, storeDevLock, h, hp]

/-- A later one is a locked write, of kind WRITE_ONCE, whose DEV_LOCK bit acts all the same. -/
theorem writeLock_perm_again {s : State} {v : Word} (r : Requester) (h : bit v 1 = true) (hp : permLocked s = true) :
    writeLock s v r = (lockedWrite (storeDevLock s v) Reg.supLock r 1, .locked) := by
  simp [writeLock, storeDevLock, h, hp]

theorem writeLock_devLocked (s : State) (v : Word) (r : Requester) :
    devLocked (writeLock s v r).1 = (devLocked s || bit v 0 || (bit v 1 && !permLocked s)) := by
  cases h1 : bit v 1
  · rw [writeLock_perm_zero s r h1, devLocked_storeDevLock]
    simp
  · cases hp : permLocked s
    · rw [writeLock_perm_first r h1 hp, devLocked_setField _ _ _ (by decide)]
      simp
    · rw [writeLock_perm_again r h1 hp, devLocked_of_locks (locks_lockedWrite _ _ _ _), devLocked_storeDevLock]
      simp

theorem writeLock_permLocked (s : State) (v : Word) (r : Requester) : permLocked (writeLock s v r).1 = (permLocked s || bit v 1) := by
  cases h1 : bit v 1
  · rw [writeLock_perm_zero s r h1, permLocked_storeDevLock]
    simp
  · cases hp : permLocked s
    · rw [writeLock_perm_first r h1 hp, permLocked_setField _ _ _ (by decide)]
      rfl
    · rw [writeLock_perm_again r h1 hp, permLocked_of_locks (locks_lockedWrite _ _ _ _), permLocked_storeDevLock, hp]
      rfl

/-- A write of SUP_LOCK ends a key sequence; with neither bit written 1 it is a locked write under DEV_LOCK, and else it acts (R340, R341). -/
theorem writeWord_supLock {s : State} (v m : Word) (r : Requester) (hh : held s 0 = false) :
    writeWord s Reg.supLock v m r = if devLocked s && decide (field (v &&& m) 1 0 = 0)
      then (lockedWrite (breakKey s Reg.supLock r) Reg.supLock r 0, .locked)
      else writeLock (breakKey s Reg.supLock r) (v &&& m) r := by
  obtain ⟨sp, hsp, haddr, hbank⟩ : ∃ sp, regSpec? Reg.supLock = some sp ∧ sp.addr = Reg.supLock ∧ sp.bank = .none := ⟨_, rfl, rfl, rfl⟩
  have hh' : held s (Reg.supLock / 65536) = false := hh
  have hdata : isIdxData Reg.supLock = false := rfl
  have hlisted : listedWrite Reg.supLock (v &&& m) = decide (field (v &&& m) 1 0 ≠ 0) := by
    simp only [listedWrite, show selectRegs.contains Reg.supLock = false by decide, show isSnap Reg.supLock = false from rfl,
      show isFlags Reg.supLock = false from rfl, show isIdxAddr Reg.supLock = false from rfl, show Reg.supLock ≠ Reg.supLockKey by decide,
      decide_true, decide_false, Bool.false_or, Bool.true_and]
  have hdev : devLocked (breakKey s Reg.supLock r) = devLocked s := devLocked_of_locks (locks_breakKey s _ r)
  have hbody : ∀ t, writeDefined t sp v m r = writeLock t (v &&& m) r := by
    intro t
    simp [writeDefined, haddr, hbank, instanceOf, writeInstance, hdata]
  rw [writeWord_defined v m r hh' hsp hdata, hlisted]
  simp only [guardWrite, hh', hdev, hbody, Bool.false_eq_true, if_false]
  by_cases hz : field (v &&& m) 1 0 = 0 <;> simp [hz]

/-! ## No access clears a lock while PERM is set (R342) -/

theorem locks_writeLock {s : State} (v : Word) (r : Requester) (h : locks s = 3) : locks (writeLock s v r).1 = 3 := by
  rw [locks_eq_three] at h ⊢
  rw [writeLock_devLocked, writeLock_permLocked, h.1, h.2]
  simp

theorem locks_writeKey {s : State} (v : Word) (r : Requester) (h : locks s = 3) : locks (writeKey s v r) = 3 := by
  rw [writeKey, if_pos ((locks_eq_three s).1 h).1, locks_keyFail, h]

theorem locks_writeDefined {s : State} {a : Nat} {sp : RegSpec} (hsp : regSpec? a = some sp) (v m : Word) (r : Requester) (h : locks s = 3) :
    locks (writeDefined s sp v m r).1 = 3 := by
  obtain ⟨haddr, hlt⟩ := regSpec_addr hsp
  unfold writeDefined
  split
  · rw [locks_lockedWrite, h]
  · split
    · exact h
    · next i _ =>
      have hdata : ∀ b, b = Reg.supLock ∨ b = Reg.supLockKey → isIdxData b = false := by
        rintro b (rfl | rfl) <;> rfl
      by_cases hlock : sp.addr = Reg.supLock
      · rw [writeInstance, hlock, hdata _ (.inl rfl), if_neg Bool.false_ne_true, if_pos rfl]
        exact locks_writeLock _ r h
      · by_cases hkey : sp.addr = Reg.supLockKey
        · rw [writeInstance, hkey, hdata _ (.inr rfl), if_neg Bool.false_ne_true, if_neg (by decide), if_pos rfl]
          split
          · exact h
          · exact locks_writeKey _ r h
        · have hmod : sp.addr % 1048576 = sp.addr := Nat.mod_eq_of_lt (haddr ▸ hlt)
          rw [locks_writeInstance s sp i v m r (hmod.symm ▸ hlock) hkey, h]

theorem locks_guardWrite_set {s : State} {body : State → State × Access} (hb : ∀ t, locks t = 3 → locks (body t).1 = 3) (a : Nat)
    (r : Requester) (listed : Bool) (h : locks s = 3) : locks (guardWrite s a r listed body).1 = 3 := by
  unfold guardWrite
  split
  · exact h
  · dsimp only
    split
    · rw [locks_lockedWrite, locks_breakKey, h]
    · exact hb _ ((locks_breakKey s a r).trans h)

/-- No write of a register word clears a lock while both are set. -/
theorem locks_writeWord {s : State} (a : Nat) (v m : Word) (r : Requester) (h : locks s = 3) : locks (writeWord s a v m r).1 = 3 := by
  unfold writeWord
  split
  · exact h
  · split
    · rw [(unmappedWrite_changes _ _ _).locks rfl, locks_breakKey, h]
    · next sp hsp =>
      have hguard := locks_guardWrite_set (fun t => locks_writeDefined hsp v m r) a r (listedWrite a (v &&& m)) h
      dsimp only
      split
      · rw [locks_advanceData, hguard]
      · exact hguard

theorem locks_writeOne {q : Requester} {x : WriteRun} (p : Nat × Word) (h : locks x.s = 3) : locks (writeOne q x p).s = 3 := by
  unfold writeOne
  split
  · exact h
  · have hwrite := locks_writeWord p.1 p.2 allOnes q h
    split <;> next e => rw [e] at hwrite; exact hwrite

theorem locks_writeAll {q : Requester} (l : List (Nat × Word)) {x : WriteRun} (h : locks x.s = 3) : locks (l.foldl (writeOne q) x).s = 3 := by
  induction l generalizing x with
  | nil => exact h
  | cons p l ih => exact ih (locks_writeOne p h)

/-! ## The rows of the register path -/

@[simp] theorem execRegRead_locks (c : Ctx) (addr : BitVec 32) (count : BitVec 16) (same : Bool) (s : State) :
    locksStay s (execRegRead c addr count same s) := by
  refine locksStay_command ?_ c _ _ _ _
  dsimp only
  repeat' split
  all_goals simp [locks_readAll]

@[simp] theorem execSnapshot_locks (c : Ctx) (window : BitVec 8) (s : State) : locksStay s (execSnapshot c window s) := by
  refine locksStay_command ?_ c _ _ _ _
  repeat' split
  all_goals simp [locks_takeSnapshot]

@[simp] theorem execTimeNsecRead_locks (s : State) : locksStay s (execTimeNsecRead s) := by
  simp [execTimeNsecRead]

@[simp] theorem execW1cWrite_locks (addr value : Word) (race : List (Fin 32)) (r : Requester) (s : State) :
    locksStay s (execW1cWrite addr value race r s) := by
  unfold execW1cWrite
  dsimp only
  split
  · simp
  · next sp hsp =>
    obtain ⟨haddr, hlt⟩ := regSpec_addr hsp
    split
    · simp
    · next i _ =>
      split
      · simp
      · next hw1c =>
        have hlock : addr.toNat ≠ Reg.supLock := by
          intro e
          rw [e] at hsp
          cases hsp
          exact hw1c rfl
        rw [locksStay_next]
        exact locks_guardWrite (fun t => locks_clearReg t i _ _ (by rwa [Nat.mod_eq_of_lt hlt])) s _ r true

end Sys2Proof
end

section
/-! PROOFS. What bring-up makes of the locks (R342, R448, O48). -/
namespace Sys2Proof
open Sys2Proof.Machine

/-! ## Bring-up (R342, R448, R450) -/

/-- A change outside the supervisor's own state leaves the option copy in force. -/
theorem changesOnly.optUse {w : List Area} {s t : State} (h : changesOnly w s t) (hw : w.any (fun A => A.has (.unit .sup)) = false) :
    t.sup.optUse = s.sup.optUse := congrArg Supervisor.optUse (h (.unit .sup) hw)

@[simp] theorem modSup_sup (s : State) (f : Supervisor → Supervisor) : (modSup s f).sup = f s.sup := rfl

@[simp] theorem nvWrite_optUse (s : State) (p : Purpose) : (nvWrite s p).sup.optUse = s.sup.optUse := by
  unfold nvWrite
  split
  · exact (storeRetain_changes s).optUse rfl
  · rfl
  · rfl
  · unfold storeFault
    dsimp only
    split
    · rfl
    · split <;> rfl
  · rfl
  · unfold storeOptions
    split <;> rfl
  · rfl

@[simp] theorem requestC2_optUse (s : State) (r : Request) : (requestC2 s r).sup.optUse = s.sup.optUse := by
  unfold requestC2
  repeat' split
  all_goals simp

@[simp] theorem askWrite_optUse (s : State) (w d : Nat) (p : Purpose) : (askWrite s w d p).sup.optUse = s.sup.optUse := by
  unfold askWrite
  split <;> simp

theorem huskForces_optUse (s : State) : (huskForces s).sup.optUse = s.sup.optUse := by
  unfold huskForces
  dsimp only
  rw [(concludeOther_changes _ _ _ _).optUse rfl, (refreshAll_changes _ _).optUse rfl, nvWrite_optUse]
  exact (changesOnly.foldl (w := [.unit .exe]) (fun t u => undoForce_changes t u) _ (changesOnly.refl _ s)).optUse rfl

@[simp] theorem onLogicHusked_optUse (s : State) (r : Request) : (onLogicHusked s r).sup.optUse = s.sup.optUse := by
  unfold onLogicHusked
  split
  · exact (modPort_changes _ _ _).optUse rfl
  · exact (panelHusked_changes _ _).optUse rfl
  · rfl
  · rfl
  · exact (raise_changes _ _ _ _).optUse rfl
  · exact huskForces_optUse s
  · exact nvWrite_optUse s _

@[simp] theorem askLogic_optUse (s : State) (k : GrantClass) (w a : Nat) (d : Option Nat) (p : Purpose) :
    (askLogic s k w a d p).sup.optUse = s.sup.optUse := by
  unfold askLogic requestLogic
  split
  · simp
  · split
    · rfl
    · rfl
    · simp
    · split
      · exact (refuseLogic_changes _ _ _).optUse rfl
      · split
        · exact (refuseLogic_changes _ _ _).optUse rfl
        · split
          · exact (refuseLogic_changes _ _ _).optUse rfl
          · rfl

theorem canEnable_optUse (s : State) (p : Nat) (old new : Word) : (canEnable s p old new).sup.optUse = s.sup.optUse := by
  unfold canEnable
  repeat' split
  · rw [askLogic_optUse]
    exact (modPort_changes _ _ _).optUse rfl
  · exact (modPort_changes s p (fun x => { x with enabled := false, awaiting := false })).optUse rfl
  · rfl

theorem canApplyOne_optUse (p : Nat) (nbt dbt : Option Word) (x : State × Bool) (k : Nat × Word) :
    (canApplyOne p nbt dbt x k).1.sup.optUse = x.1.sup.optUse := by
  unfold canApplyOne
  dsimp only
  split
  · dsimp only
    split
    · exact canEnable_optUse _ p _ _
    · split
      · exact (canRole_changes _ _ _ _).optUse rfl
      · rfl
  · exact (canRaise_changes _ _ _).optUse rfl

theorem canApplyAll_optUse (p : Nat) (nbt dbt : Option Word) (l : List (Nat × Word)) (x : State × Bool) :
    (l.foldl (canApplyOne p nbt dbt) x).1.sup.optUse = x.1.sup.optUse := by
  induction l generalizing x with
  | nil => rfl
  | cons k l ih => exact (ih _).trans (canApplyOne_optUse p nbt dbt x k)

@[simp] theorem canApply_optUse (s : State) (p : Nat) : (canApply s p).sup.optUse = s.sup.optUse := by
  unfold canApply
  dsimp only
  split
  · rw [(canFeed_changes _ _).optUse rfl, (bumpApply_changes _ Reg.canApply _).optUse rfl, canApplyAll_optUse]
  · exact canApplyAll_optUse p _ _ _ _

theorem optUse_foldl {β : Type} {f : State → β → State} (h : ∀ t x, (f t x).sup.optUse = t.sup.optUse) (l : List β) (s : State) :
    (l.foldl f s).sup.optUse = s.sup.optUse := by
  induction l generalizing s with
  | nil => rfl
  | cons x l ih => exact (ih _).trans (h s x)

/-- What the start of the islands leaves of the option copy in force. -/
theorem releaseIslands_optUse (s : State) : (releaseIslands s).sup.optUse = s.sup.optUse := by
  have hpost (l : List (Event × Nat × Nat × Nat)) (t : State) :
      (panelStart (l.foldl (fun t x => post t x.1 0 x.2.1 x.2.2.1 x.2.2.2) t)).sup.optUse = t.sup.optUse :=
    ((panelStart_changes _).optUse rfl).trans (optUse_foldl (fun t x => (post_changes t _ _ _ _ _).optUse rfl) l t)
  have harm (l : List Nat) (t : State) : (l.foldl (fun t n => if n < 192 then armFrontEnd t n else t) t).sup.optUse = t.sup.optUse :=
    optUse_foldl (fun t n => by split; exacts [(armFrontEnd_changes t n).optUse rfl, rfl]) l t
  have hcopy (t : State) : (rewriteCopy1 t).sup.optUse = t.sup.optUse := by
    unfold rewriteCopy1
    split <;> simp
  have hcan (t : State) : (linkDetect ([0, 1, 2, 3].foldl canApply t)).sup.optUse = t.sup.optUse :=
    ((linkDetect_changes _).optUse rfl).trans (optUse_foldl canApply_optUse _ t)
  unfold releaseIslands
  dsimp only
  split
  · simp only [modSup_sup, hpost]
  · simp only [modSup_sup, hcan, hcopy, harm, hpost]

theorem applyOptions_optUse (s : State) : (applyOptions s).sup.optUse = s.sup.optUse := (applyOptions_changes s).optUse rfl

/-- The option copy gives DEV_LOCK its value at a start, unless PERM is set already; PERM is not an option. -/
theorem applyOptions_locks (s : State) : permLocked (applyOptions s) = permLocked s
    ∧ devLocked (applyOptions s) = if permLocked s then devLocked s else (optField s.sup.optUse 512 1).testBit 0 := by
  have hlocks : locks (applyOptions s) = locks (if permLocked s then s else setRegField s Reg.supLock 0 0 0 (optField s.sup.optUse 512 1)) := by
    simp only [applyOptions, (setRegField_changes _ Reg.supWdog _ _ _ _).locks rfl, (setRegField_changes _ Reg.cmdCfg _ _ _ _).locks rfl]
  rw [permLocked_of_locks hlocks, devLocked_of_locks hlocks]
  cases hp : permLocked s
  · simp [permLocked_setField, devLocked_setField, hp]
  · simp [hp]

/-- What step 2 of bring-up makes of the locks: DEV_LOCK takes LOCK_AT_BOOT of the copy that comes into force, unless PERM is set. -/
def LocksFromOptions (s t : State) : Prop :=
  permLocked t = permLocked s ∧ devLocked t = if permLocked s then devLocked s else (optField t.sup.optUse 512 1).testBit 0

theorem LocksFromOptions.of_applyOptions {s u : State} (h : locks u = locks s) : LocksFromOptions s (applyOptions u) := by
  obtain ⟨hperm, hdev⟩ := applyOptions_locks u
  refine ⟨hperm.trans (permLocked_of_locks h), ?_⟩
  rw [hdev, applyOptions_optUse, permLocked_of_locks h, devLocked_of_locks h]

/-- What keeps the locks and the option copy keeps the relation. -/
theorem LocksFromOptions.trans {s t u : State} (h : LocksFromOptions s t) (hlocks : locks u = locks t) (huse : u.sup.optUse = t.sup.optUse) :
    LocksFromOptions s u := by
  rwa [LocksFromOptions, permLocked_of_locks hlocks, devLocked_of_locks hlocks, huse]

theorem loadOptions_locksFromOptions (s : State) : LocksFromOptions s (loadOptions s) := by
  unfold loadOptions
  dsimp only
  split
  · exact .of_applyOptions (by simp)
  · split
    · exact .of_applyOptions (by simp [(supRaise_changes _ _).locks rfl])
    · refine LocksFromOptions.trans (.of_applyOptions (by simp)) ((writeFaultRecord_changes _ _ _ _ _).locks rfl) ?_
      exact askWrite_optUse _ _ _ _

theorem mapCore_optUse (s : State) (p : CorePair) : (mapCore s p).sup.optUse = s.sup.optUse := by
  rw [mapCore, (sprRaise_changes _ _).optUse rfl, sprouted, writeSproutRecord, askWrite_optUse, (countUp_changes _ _ _).optUse rfl,
    (sprRaise_changes _ _).optUse rfl]

theorem takeStraps_optUse (s : State) (b : BootInputs) : (takeStraps s b).sup.optUse = s.sup.optUse := by
  simp only [takeStraps, modSup_sup]
  exact (raiseIf_changes _ _ Reg.supPflags 0 6).optUse rfl

/-- The rest of bring-up keeps what step 2 made of the locks. -/
theorem bringUp_locksFromOptions (s : State) (b : BootInputs) : LocksFromOptions s (bringUp s b) := by
  have hstraps : LocksFromOptions s (takeStraps (loadOptions s) b) :=
    (loadOptions_locksFromOptions s).trans ((takeStraps_changes _ b).locks rfl)
      (takeStraps_optUse _ b)
  have hcore (t : State) (p : CorePair) (h : LocksFromOptions s t) : LocksFromOptions s (mapCore t p) :=
    h.trans ((mapCore_changes t p).locks rfl) (mapCore_optUse t p)
  have hkey (t : State) (ok : Bool) (h : LocksFromOptions s t) : LocksFromOptions s (if ok then t else post t .trustKeyFault 0 0 0 0) := by
    split
    · exact h
    · exact h.trans ((post_changes t _ _ _ _ _).locks rfl) ((post_changes t _ _ _ _ _).optUse rfl)
  have hstart (t : State) (h : LocksFromOptions s t) :
      LocksFromOptions s (sbkStart { t with tru := { t.tru with keyOk := b.keyOk } } b.ringOk t.sup.cause) :=
    h.trans (((sbkStart_changes _ _ _).locks rfl).trans ((tru_changes t _).locks rfl)) ((sbkStart_changes _ _ _).optUse rfl)
  have hboot (t : State) (h : LocksFromOptions s t) : LocksFromOptions s (bootOffline (bootWalnut (bootImage t) b.halfAOk b.halfBOk)) :=
    ((h.trans ((bootImage_changes t).locks rfl) ((bootImage_changes t).optUse rfl)).trans ((bootWalnut_changes _ _ _).locks rfl)
      ((bootWalnut_changes _ _ _).optUse rfl)).trans ((bootOffline_changes _).locks rfl) ((bootOffline_changes _).optUse rfl)
  unfold bringUp
  dsimp only
  refine LocksFromOptions.trans (hboot _ (hkey _ _ (hstart _ ?_))) ((modSup_changes _ _).locks rfl) (by rw [modSup_sup])
  split
  · split
    · exact hcore _ _ hstraps
    · exact hstraps
  · exact hstraps

/-- The start of the islands, where the hold-up is ready already, keeps the relation too. -/
theorem bringUpReleased_locksFromOptions (s : State) (b : BootInputs) :
    LocksFromOptions s (if (bringUp s b).sup.holdupReady then releaseIslands (bringUp s b) else bringUp s b) := by
  have hboot := bringUp_locksFromOptions s b
  split
  · exact hboot.trans ((releaseIslands_changes _).locks rfl) (releaseIslands_optUse _)
  · exact hboot

theorem execBringUp_locksFromOptions (b : BootInputs) {s t : State} (h : execBringUp b s = .next t) : t = s ∨ LocksFromOptions s t := by
  unfold execBringUp at h
  split at h
  · cases h; exact .inl rfl
  · cases h; exact .inr (bringUpReleased_locksFromOptions s b)

/-- POWER_ON leaves a module whose registers, SUP_LOCK among them, are at their reset values (R439, R440). -/
theorem resetModule_unlocked (s : State) (cause : Nat) : permLocked (resetModule s cause) = false := by
  have hregs : (resetModule s cause).regs = [] := rfl
  rw [permLocked, reg, hregs]
  decide

end Sys2Proof
end

section
/-! PROOFS. Every command with both locks set (R342, O48). -/
namespace Sys2Proof
open Sys2Proof.Machine

/-- The lock bits are both set after a command, if it answers a next state. -/
def locksSet (o : Host.Outcome State Fault Refusal) : Prop := ∀ t, o = .next t → locks t = 3

theorem locksSet_next {t : State} (h : locks t = 3) : locksSet (.next t) := fun u hu => by cases hu; exact h

theorem locksStay.locksSet {s : State} {o : Host.Outcome State Fault Refusal} (h : locksStay s o) (hs : locks s = 3) : locksSet o :=
  fun t ht => (h t ht).trans hs

/-- A packet command leaves both locks set if its own work does. -/
theorem locksSet_command {s : State} {body : State → State} (hs : locks s = 3) (h : locks (body s) = 3) (c : Ctx) (op island : Nat) (i : Instr)
    (roleOk : Bool) : locksSet (.next (command s c op island i roleOk body)) := by
  refine locksSet_next ?_
  simp [command, refuse, h, hs]

theorem execRegisterWrite_locksSet {s : State} (h : locks s = 3) (addr value : Word) (r : Requester) :
    locksSet (execRegisterWrite addr value r s) := by
  refine locksSet_next ?_
  split
  · exact locks_writeWord _ _ _ r h
  · exact h

theorem execRegWrite_locksSet {s : State} (h : locks s = 3) (c : Ctx) (addr : BitVec 32) (same : Bool) (words : List Word) :
    locksSet (execRegWrite c addr same words s) := by
  refine locksSet_command h ?_ c _ _ _ _
  have hrun := locks_writeAll (q := requesterOf c) ((addresses addr.toNat same words.length).zip words) (x := { s := s }) h
  dsimp only
  repeat' split
  all_goals simp [h, hrun]

theorem execRegMaskwrite_locksSet {s : State} (h : locks s = 3) (c : Ctx) (addr mask value : Word) :
    locksSet (execRegMaskwrite c addr mask value s) := by
  refine locksSet_command h ?_ c _ _ _ _
  dsimp only
  split
  · simp [h]
  · have hwrite := locks_writeWord addr.toNat (maskedWord addr.toNat mask value).1 (maskedWord addr.toNat mask value).2 (requesterOf c) h
    split <;> next e => rw [e] at hwrite; simpa using hwrite

theorem execSnapTake_locksSet {s : State} (h : locks s = 3) (w : Fin 16) (r : Requester) : locksSet (execSnapTake w r s) := by
  unfold execSnapTake
  split
  · exact locksSet_next h
  · exact locksSet_next (locks_writeWord _ _ _ r h)

theorem execIdxDataAccess_locksSet {s : State} (h : locks s = 3) (w : Fin 16) (x : IdxAccess) (r : Requester) :
    locksSet (execIdxDataAccess w x r s) := by
  unfold execIdxDataAccess
  split
  · exact locksSet_next h
  · split
    · exact locksSet_next ((locks_readWord s _).trans h)
    · exact locksSet_next (locks_writeWord _ _ _ r h)

theorem execBringUp_locksSet {s : State} (h : locks s = 3) (b : BootInputs) : locksSet (execBringUp b s) := by
  obtain ⟨hperm, hdev⟩ := (locks_eq_three s).1 h
  intro t ht
  obtain rfl | ⟨hperm', hdev'⟩ := execBringUp_locksFromOptions b ht
  · exact h
  · rw [hperm, if_pos rfl] at hdev'
    exact (locks_eq_three t).2 ⟨hperm'.trans hperm, hdev'.trans hdev⟩

/-- Over the whole table: with PERM and DEV_LOCK set, no command but a module reset clears either. The commands that come to a register write
or to bring-up leave the locks set; every other command leaves them as they were, by its own lemma. -/
theorem exec_locksSet (c : Instr) {s : State} (hc : resetRow c = false) (h : locks s = 3) : locksSet (exec c s) := by
  cases c
  case powerOn | powerFail | resetN | softResetTake | coreSelfReset | stormRetry => exact absurd hc (by decide)
  case registerWrite addr v r => exact execRegisterWrite_locksSet h addr v r
  case regWrite ctx addr same words => exact execRegWrite_locksSet h ctx addr same words
  case regMaskwrite ctx addr mask v => exact execRegMaskwrite_locksSet h ctx addr mask v
  case snapTake w r => exact execSnapTake_locksSet h w r
  case idxDataAccess w x r => exact execIdxDataAccess_locksSet h w x r
  case devLockSet r => exact locksSet_next (locks_writeWord _ _ _ r h)
  case permSet r => exact locksSet_next (locks_writeWord _ _ _ r h)
  case supLockKey v r => exact locksSet_next (locks_writeWord _ _ _ r h)
  case fchClearFault r => exact locksSet_next (locks_writeWord _ _ _ r h)
  case bringUp b => exact execBringUp_locksSet h b
  all_goals
    refine locksStay.locksSet ?_ h
    simp [exec]

end Sys2Proof
end

section
/-! PROOFS. The permanent lock holds until reset (R342, O48). -/
namespace Sys2Proof
open Sys2Proof.Machine

/-- Neither lock is written 1. -/
theorem field_lockBits (v : Word) : field v 1 0 = 0 ↔ bit v 0 = false ∧ bit v 1 = false := by
  have hlt : field v 1 0 < 4 := Nat.mod_lt _ (by decide)
  have h0 : (field v 1 0).testBit 0 = bit v 0 := by rw [testBit_field, bit_eq_getLsbD]; rfl
  have h1 : (field v 1 0).testBit 1 = bit v 1 := by rw [testBit_field, bit_eq_getLsbD]; rfl
  rw [← h0, ← h1]
  interval_cases field v 1 0 <;> decide

/-- What comes before a write of SUP_LOCK takes effect, the end of a key sequence, leaves what a locked write counts and flags. -/
theorem breakKey_lockedWrites (s : State) (a : Nat) (r : Requester) :
    counter (breakKey s a r) Reg.supSnapLockv 0 = counter s Reg.supSnapLockv 0
      ∧ counter (breakKey s a r) (fcntOf Reg.supFlags + 4 * 0) 0 = counter s (fcntOf Reg.supFlags + 4 * 0) 0
      ∧ field (reg (breakKey s a r) Reg.supFlags 0) 1 0 = field (reg s Reg.supFlags 0) 1 0 := by
  have hbreak := breakKey_changes s a r
  refine ⟨hbreak.counter_eq rfl 0, hbreak.counter_eq rfl 0, Nat.eq_of_testBit_eq fun i => ?_⟩
  rw [testBit_field, testBit_field]
  match i with
  | 0 => exact congrArg _ (hbreak.flag_eq rfl 0)
  | 1 => exact congrArg _ (hbreak.flag_eq rfl 0)
  | n + 2 => simp

/-- A whole write of SUP_LOCK under DEV_LOCK is refused only when neither bit is written 1. -/
theorem writeWord_supLock_acts {s : State} {v : Word} (r : Requester) (hh : held s 0 = false)
    (h : devLocked s = false ∨ bit v 0 = true ∨ bit v 1 = true) :
    writeWord s Reg.supLock v allOnes r = writeLock (breakKey s Reg.supLock r) v r := by
  have hact : (devLocked s && decide (field v 1 0 = 0)) = false := by
    rw [Bool.and_eq_false_iff, decide_eq_false_iff_not, field_lockBits]
    grind
  have hv : v &&& allOnes = v := BitVec.and_allOnes
  rw [writeWord_supLock v allOnes r hh, hv, hact, if_neg Bool.false_ne_true]

/-- The locks after a whole write of SUP_LOCK. -/
theorem writeWord_supLock_locks {s : State} (v : Word) (r : Requester) (hh : held s 0 = false) :
    devLocked (writeWord s Reg.supLock v allOnes r).1 = (devLocked s || bit v 0 || (bit v 1 && !permLocked s))
      ∧ permLocked (writeWord s Reg.supLock v allOnes r).1 = (permLocked s || bit v 1) := by
  have hbreak := locks_breakKey s Reg.supLock r
  by_cases h : devLocked s = false ∨ bit v 0 = true ∨ bit v 1 = true
  · rw [writeWord_supLock_acts r hh h, writeLock_devLocked, writeLock_permLocked, devLocked_of_locks hbreak, permLocked_of_locks hbreak]
    exact ⟨rfl, rfl⟩
  · simp only [not_or, Bool.not_eq_false, Bool.not_eq_true] at h
    obtain ⟨hdev, h0, h1⟩ := h
    have hz : field (v &&& allOnes) 1 0 = 0 := by
      rw [show v &&& allOnes = v from BitVec.and_allOnes]
      exact (field_lockBits v).2 ⟨h0, h1⟩
    have hlocks : locks (writeWord s Reg.supLock v allOnes r).1 = locks s := by
      simp [writeWord_supLock v allOnes r hh, hdev, hz, locks_lockedWrite]
    rw [devLocked_of_locks hlocks, permLocked_of_locks hlocks, h0, h1]
    simp

/-- A whole write of SUP_LOCK with PERM 0 that takes effect counts no locked write. -/
theorem writeWord_supLock_lockv {s : State} {v : Word} (r : Requester) (hh : held s 0 = false) (h1 : bit v 1 = false)
    (h : bit v 0 = true ∨ devLocked s = false) :
    counter (writeWord s Reg.supLock v allOnes r).1 Reg.supSnapLockv 0 = counter s Reg.supSnapLockv 0 := by
  rw [writeWord_supLock_acts r hh (h.symm.imp_right .inl), writeLock_perm_zero _ r h1]
  exact ((storeDevLock_changes _ v).counter_eq rfl 0).trans (breakKey_lockedWrites s _ r).1

/-- With PERM set, a written 1 in PERM is flagged, counted and captured as a locked write of kind WRITE_ONCE (R342, R344). -/
theorem writeWord_supLock_writeOnce {s : State} {v : Word} (r : Requester) (hh : held s 0 = false) (hp : permLocked s = true)
    (h1 : bit v 1 = true) :
    flagged s (writeWord s Reg.supLock v allOnes r).1 Reg.supFlags 0
      ∧ counter (writeWord s Reg.supLock v allOnes r).1 Reg.supSnapLockv 0 = counter s Reg.supSnapLockv 0 + 1
      ∧ (field (reg s Reg.supFlags 0) 1 0 = 0 → regField (writeWord s Reg.supLock v allOnes r).1 Reg.supFaultSrc 0 26 24 = 1
        ∧ reg (writeWord s Reg.supLock v allOnes r).1 Reg.supFaultAddr 0 = word Reg.supLock) := by
  obtain ⟨hlockv, hcount, hflags⟩ := breakKey_lockedWrites s Reg.supLock r
  have hstore := storeDevLock_changes (breakKey s Reg.supLock r) v
  have hp' : permLocked (breakKey s Reg.supLock r) = true := (permLocked_of_locks (locks_breakKey s _ r)).trans hp
  rw [writeWord_supLock_acts r hh (.inr (.inr h1)), writeLock_perm_again r h1 hp']
  obtain ⟨⟨hset, hup⟩, hlockv'⟩ := lockedWrite_flagged (storeDevLock (breakKey s Reg.supLock r) v) Reg.supLock r 1
  refine ⟨⟨hset, ?_⟩, ?_, fun h => lockedWrite_captured ?_ Reg.supLock r (by decide)⟩
  · rw [hup, hstore.counter_eq rfl 0, hcount]
  · rw [hlockv', hstore.counter_eq rfl 0, hlockv]
  · rw [hstore.reg_eq (a := Reg.supFlags) (fun _ => rfl) 0, hflags, h]

/-! ## POWER_ON and BRING_UP (R342, R448) -/

theorem execPowerOn_unlocked {s : State} (h : s.sup.alwaysOn = false) :
    ∃ t, exec .powerOn s = .next t ∧ permLocked t = false ∧ t.sup.step = 1 := by
  refine ⟨resetModule s 1, ?_, resetModule_unlocked s 1, rfl⟩
  simp [exec, execPowerOn, h]

theorem execBringUp_unlocked (b : BootInputs) {s : State} (hstep : s.sup.step = 1) (hreset : s.sup.resetN = false) (hstorm : s.sup.storm = false)
    (hhold : s.sup.stormHold = false) (hrecent : (recentResets s).length < 8) (hperm : permLocked s = false) :
    ∃ t, exec (.bringUp b) s = .next t ∧ permLocked t = false ∧ devLocked t = (optField t.sup.optUse 512 1).testBit 0 := by
  obtain ⟨hperm', hdev⟩ := bringUpReleased_locksFromOptions s b
  rw [hperm] at hperm'
  rw [hperm, if_neg Bool.false_ne_true] at hdev
  refine ⟨_, ?_, hperm', hdev⟩
  simp [exec, execBringUp, hstep, hreset, hstorm, hhold, hrecent]

/-- Settles O48: a write of SUP_LOCK by the cases of its two bits, the frames of every other command, whose areas lie apart from the lock bits,
and step 2 of bring-up, which takes DEV_LOCK from the option copy. -/
theorem permanentLockHoldsUntilReset : Obligations.PermanentLockHoldsUntilReset := by
  unfold Obligations.PermanentLockHoldsUntilReset
  refine ⟨fun v r s hh => ?_, fun r s hh hp => ?_, fun c s t hc hp hd ht => ?_, fun s h => execPowerOn_unlocked h,
    fun b s hstep hreset hstorm hhold hrecent hp => execBringUp_unlocked b hstep hreset hstorm hhold hrecent hp⟩
  · obtain ⟨hdev, hperm⟩ := writeWord_supLock_locks v r hh
    exact ⟨(writeWord s Reg.supLock v allOnes r).1, rfl, hdev, hperm, fun h1 h => writeWord_supLock_lockv r hh h1 h,
      fun hp h1 => writeWord_supLock_writeOnce r hh hp h1⟩
  · obtain ⟨hdev, hperm⟩ := writeWord_supLock_locks 2 r hh
    refine ⟨(writeWord s Reg.supLock 2 allOnes r).1, rfl, ?_, ?_⟩
    · rw [hperm, hp]; rfl
    · rw [hdev, hp, show bit 2 1 = true from rfl, Bool.not_false, Bool.and_self, Bool.or_true]
  · exact (locks_eq_three t).1 (exec_locksSet c hc ((locks_eq_three s).2 ⟨hp, hd⟩) t ht)

end Sys2Proof
end

section
/-! PROOFS. How the frame of a command is put together from the frames of its operations (O4 to O9). -/
namespace Sys2Proof
open Sys2Proof.Machine

/-- The outcome is a next state, with no more changed than listed. -/
def answersIn (w : List Area) (s : State) (o : Host.Outcome State Fault Refusal) : Prop := ∃ t, o = .next t ∧ changesOnly w s t

theorem answersIn.next {w : List Area} {s t : State} (h : changesOnly w s t) : answersIn w s (.next t) := ⟨t, rfl, h⟩

theorem answersIn.ite {w : List Area} {s : State} {a b : Host.Outcome State Fault Refusal} {p : Prop} [Decidable p] (ha : answersIn w s a)
    (hb : answersIn w s b) : answersIn w s (if p then a else b) := by
  split
  · exact ha
  · exact hb

/-- A table of frames holds for one command, which answers a next state. -/
def keepsFrameAt (frame : Instr → Option (List Area)) (i : Instr) : Prop :=
  ∀ w, frame i = some w → ∀ s, answersIn w s (exec i s)

theorem keepsFrameAt.of {frame : Instr → Option (List Area)} {i : Instr} {w : List Area} (hw : frame i = some w)
    (h : ∀ s, answersIn w s (exec i s)) : keepsFrameAt frame i := by
  intro v hv s
  rw [hw] at hv
  cases hv
  exact h s

/-- A table says nothing of a command that it does not name. -/
theorem keepsFrameAt.unnamed {frame : Instr → Option (List Area)} {i : Instr} (hw : frame i = none) : keepsFrameAt frame i := by
  intro v hv
  rw [hw] at hv
  cases hv

theorem answersIn.changes {w : List Area} {s t : State} {o : Host.Outcome State Fault Refusal} (h : answersIn w s o) (ho : o = .next t) :
    changesOnly w s t := by
  obtain ⟨u, hu, hchanges⟩ := h
  cases hu.symm.trans ho
  exact hchanges

theorem keepsFrame.of_each {frame : Instr → Option (List Area)} (h : ∀ i, keepsFrameAt frame i) : keepsFrame frame :=
  fun i w hw s _ ht => (h i w hw s).changes ht

theorem changesOnly.same {w : List Area} {s : State} : changesOnly w s s := changesOnly.refl w s

/-- The frame of an operation that comes after others. A command's frame is read off its operations, the last one first. -/
theorem changesOnly.after {v w : List Area} {s t u : State} (k : changesOnly v t u) (h : changesOnly w s t)
    (hw : within v w = true := by rfl) : changesOnly w s u := h.step k hw

/-- The frame of an update of several units of the state at once. -/
theorem changesOnly.fields {w : List Area} {s s1 t : State} (h : changesOnly w s s1) (hregs : t.regs = s1.regs := by rfl)
    (hactive : t.active = s1.active := by rfl) (hctrs : t.ctrs = s1.ctrs := by rfl)
    (hunits : ∀ u : Piece, w.any (fun A => A.has (.unit u)) = true ∨ (Part.unit u).same s1 t := by
      intro u; cases u <;> first | exact .inr rfl | exact .inl rfl) : changesOnly w s t := by
  refine h.trans fun p hp => ?_
  cases p with
  | unit u => exact (hunits u).resolve_left (by simp [hp])
  | regBit a n => intro i; simp only [reg, hregs]
  | inForce a => intro i; simp only [cfg, hactive]
  | ctr a => intro i; simp only [counter, hctrs]

theorem changesOnly.ite {w : List Area} {s a b : State} {p : Prop} [Decidable p] (ha : changesOnly w s a) (hb : changesOnly w s b) :
    changesOnly w s (if p then a else b) := by
  split
  · exact ha
  · exact hb

/-- Entering a force changes what writing the force table changes (R54, R55). -/
theorem setForce_changes {s t : State} {k : ForceKey} {v : Nat} (h : setForce s k v = some t) :
    changesOnly [.unit .own, .unit .exe, .unit .grd, .unit .pair, .unit .spr, .unit .net, .unit .sup] s t := by
  unfold setForce at h
  split at h
  · cases h; exact writeForces_changes _ _
  · split at h
    · cases h
    · cases h; exact writeForces_changes _ _

end Sys2Proof
end

section
/-! PROOFS. The frames of the commands of the station and of Hazel, each read off its operations (O4). -/
namespace Sys2Proof
open Sys2Proof.Machine

set_option Elab.async false

theorem stationFrame_ownLineStopped : keepsFrameAt stationFrame .ownLineStopped :=
  keepsFrameAt.of rfl fun s => .next <| .after (own_changes _ _) .same

theorem stationFrame_partnerLineQuiet : keepsFrameAt stationFrame .partnerLineQuiet :=
  keepsFrameAt.of rfl fun s => .next <| .after (canFeedAll_changes _) <| .after (own_changes _ _) .same

theorem stationFrame_huskHold (w : Fin 16) : keepsFrameAt stationFrame (.huskHold w) :=
  keepsFrameAt.of rfl fun s => .next <| .after (huskHold_changes _ _) <| .after (undoWork_changes _ _) <|
    .ite (.after (huskRequests_changes _) .same) .same

theorem stationFrame_huskRelease (w : Fin 16) : keepsFrameAt stationFrame (.huskRelease w) :=
  keepsFrameAt.of rfl fun s => .next <| .ite (.after (huskRelease_changes _ _) .same) .same

theorem stationFrame_timestampBroadcast (time : Nat) : keepsFrameAt stationFrame (.timestampBroadcast time) :=
  keepsFrameAt.of rfl fun s => .next <| .after (now_changes _ _) .same

theorem stationFrame_ack (seq : Nat) : keepsFrameAt stationFrame (.ack seq) :=
  keepsFrameAt.of rfl fun s => .next <|
    .foldl (fun _ _ => .after (applyCommit_changes _ _) <| .after (countMax_changes _ _ _ _) .same) _ (.fields .same)

theorem stationFrame_ackLate : keepsFrameAt stationFrame .ackLate :=
  keepsFrameAt.of rfl fun s => .ite (.next <| .after (send_changes _ _) <| .after (becomeAlone_changes _ _) <|
    .after (ppdRaise_changes _ _) .same) (.next .same)

theorem stationFrame_baseCycleBoundary : keepsFrameAt stationFrame .baseCycleBoundary :=
  keepsFrameAt.of rfl fun s => .next <| .after (releaseDue_changes _ _) <| .after (copyField_changes _) <| .after (startStream_changes _) <|
    .after (calibrationBoundary_changes _) <| .after (loadCycleLatch_changes _ _) <| .after (lanesBoundary_changes _) <|
    .after (closeCycle_changes _) .same

theorem stationFrame_taskEnd (r : TaskResult) : keepsFrameAt stationFrame (.taskEnd r) :=
  keepsFrameAt.of rfl fun s => .ite (.next .same) (.next <| .after (commit_changes _ _ _ _ _) <| .after (countBlocks_changes _ _) <|
    .ite (.after (commitGmuInput_changes _ _) <| .after (applyLoopWrites_changes _ _) <| .after (countMax_changes _ _ _ _) <|
    .after (setTask_changes _ _ _) <| .after (shadowTask_changes _ _) <| .after (exe_changes _ _) <|
    .foldl (fun _ _ => .after (writeVar_changes _ _ _ _) .same) _ (.foldl (fun _ _ => .after (fbCall_changes _ _ _) .same) _ .same))
    (.after (applyLoopWrites_changes _ _) <| .after (countMax_changes _ _ _ _) <| .after (setTask_changes _ _ _) <|
    .after (shadowTask_changes _ _) <| .after (exe_changes _ _) <|
    .foldl (fun _ _ => .after (writeVar_changes _ _ _ _) .same) _ (.foldl (fun _ _ => .after (fbCall_changes _ _ _) .same) _ .same)))

theorem stationFrame_moduleFault (kind : FaultKind) (addr : Nat) : keepsFrameAt stationFrame (.moduleFault kind addr) :=
  keepsFrameAt.of rfl fun s => by
    show answersIn _ s (execModuleFault kind addr s)
    unfold execModuleFault
    dsimp only
    split
    · exact .next <| .after (moduleFault_changes _ _ _ _ _) <| .after (freeNext_changes _) <| .after (freeNext_changes _) .same
    · exact .ite (.next <| .after (spr_changes _ _) <| .after (moduleFault_changes _ _ _ _ _) <| .after (freeNext_changes _) <|
      .after (freeNext_changes _) .same) (.next <| .after (exhausted_changes _ _) <| .after (moduleFault_changes _ _ _ _ _) <|
      .after (freeNext_changes _) <| .after (freeNext_changes _) .same)

theorem stationFrame_retainStoreWrite : keepsFrameAt stationFrame .retainStoreWrite :=
  keepsFrameAt.of rfl fun s => .next <| .after (writeRetain_changes _) .same

theorem stationFrame_stopEnter : keepsFrameAt stationFrame .stopEnter :=
  keepsFrameAt.of rfl fun s => .ite (.next <| .after (enterStop_changes _ _) .same) (.next .same)

theorem stationFrame_stopGraceExpiry : keepsFrameAt stationFrame .stopGraceExpiry :=
  keepsFrameAt.of rfl fun s => .ite (.next <| .after (enterStop_changes _ _) .same) (.next .same)

theorem stationFrame_restartBoundary : keepsFrameAt stationFrame .restartBoundary :=
  keepsFrameAt.of rfl fun s => .ite (.next <| .after (exe_changes _ _) .same) (.next .same)

theorem stationFrame_swapReady : keepsFrameAt stationFrame .swapReady :=
  keepsFrameAt.of rfl fun s => .ite (.next <| .after (send_changes _ _) <| .after (modPair_changes _ _) .same) (.ite (.next <|
    .after (concludeAll_changes _ _ _ _ _) <| .after (modPair_changes _ _) .same) (.next .same))

theorem stationFrame_handoverDrained : keepsFrameAt stationFrame .handoverDrained :=
  keepsFrameAt.of rfl fun s => by
    show answersIn _ s (execHandoverDrained s)
    unfold execHandoverDrained
    split
    · exact .next .same
    · exact .ite (.next .same) (.next <| .after (send_changes _ _) <| .fields .same)

theorem stationFrame_handoverDrainExpiry : keepsFrameAt stationFrame .handoverDrainExpiry :=
  keepsFrameAt.of rfl fun s => by
    show answersIn _ s (execHandoverDrainExpiry s)
    unfold execHandoverDrainExpiry
    dsimp only
    split
    · exact .next .same
    · exact .ite (.next .same) (.ite (.next <| .after (startCoreSwap_changes _) <| .after (yieldField_changes _) <|
      .after (concludeAll_changes _ _ _ _ _) <| .after (resumeReleases_changes _) .same) (.next <| .after (concludeAll_changes _ _ _ _ _) <|
      .after (resumeReleases_changes _) .same))

theorem stationFrame_imageCheckDone (im : Image) : keepsFrameAt stationFrame (.imageCheckDone im) :=
  keepsFrameAt.of rfl fun s => by
    show answersIn _ s (execImageCheckDone im s)
    unfold execImageCheckDone
    dsimp only
    split
    · exact .next .same
    · split
      · exact .next <| .foldl (fun _ _ => .after (conclude_changes _ _ _ _ _ _) .same) _ (.after (exe_changes _ _) <|
        .after (trustChecks_changes _ _ _) .same)
      · exact .next <| .after (concludeAll_changes _ _ _ _ _) <| .ite (.after (exe_changes _ _) <|
        .after (trustChecks_changes _ _ _) .same) (.after (exe_changes _ _) <| .after (trustChecks_changes _ _ _) .same)

theorem stationFrame_start (c : Ctx) : keepsFrameAt stationFrame (.start c) :=
  keepsFrameAt.of rfl fun s => .next <|
    command_changes _ _ _ _ _ _ _ (.ite (.after (refuse_changes _ _ _ _ _) .same) (.after (ok_changes _ _ _ _) <| .after (exe_changes _ _) <|
    .after (unwriteOutputs_changes _) <| .after (clearTasks_changes _) .same)) rfl

theorem stationFrame_stop (c : Ctx) : keepsFrameAt stationFrame (.stop c) :=
  keepsFrameAt.of rfl fun s => .next <| command_changes _ _ _ _ _ _ _ (.ite (.after (ok_changes _ _ _ _) <|
    .after (exe_changes _ _) .same) (.ite (.after (await_changes _ _ _ _ _) <|
    .after (exe_changes _ _) .same) (.after (refuse_changes _ _ _ _ _) .same))) rfl

theorem stationFrame_warm (c : Ctx) (choice : ForceChoice) : keepsFrameAt stationFrame (.warm c choice) :=
  keepsFrameAt.of rfl fun s => .next <| command_changes _ _ _ _ _ _ _ (restartCommand_changes _ _ _ _ _ (fun _ _ => by
    dsimp only
    split
    · exact .after (ok_changes _ _ _ _) <| .after (exe_changes _ _) <| .after (warmRestart_changes _ _ _ _) .same
    · exact .ite (.after (ok_changes _ _ _ _) <| .after (exe_changes _ _) <| .after (coldRestart_changes _ _ _) <| .after (retainInvalid_changes _) .same)
        (.after (ok_changes _ _ _ _) <| .after (stopWith_changes _ _) <| .after (retainInvalid_changes _) .same)) rfl) rfl

theorem stationFrame_cold (c : Ctx) (choice : ForceChoice) : keepsFrameAt stationFrame (.cold c choice) :=
  keepsFrameAt.of rfl fun s => .next <| command_changes _ _ _ _ _ _ _ (restartCommand_changes _ _ _ _ _ (fun _ _ => .after (ok_changes _ _ _ _) <|
    .after (exe_changes _ _) <| .after (coldRestart_changes _ _ _) .same) rfl) rfl

theorem stationFrame_swapPrepare (c : Ctx) (choice : ForceChoice) : keepsFrameAt stationFrame (.swapPrepare c choice) :=
  keepsFrameAt.of rfl fun s => .next <|
    command_changes _ _ _ _ _ _ _ (.ite (.after (refuse_changes _ _ _ _ _) .same) (.ite (.after (refuse_changes _ _ _ _ _) .same)
    (.ite (.after (refuse_changes _ _ _ _ _) .same) (.after (accept_changes _ _ _ _ _ _ _) <| .after (send_changes _ _) <|
    .after (modPair_changes _ _) .same)))) rfl

theorem stationFrame_changeReport (c : Ctx) (first : BitVec 32) (count : BitVec 16) : keepsFrameAt stationFrame (.changeReport c first count) :=
  keepsFrameAt.of rfl fun s => .next <|
    command_changes _ _ _ _ _ _ _ (.ite (.after (refuse_changes _ _ _ _ _) .same) (.after (ok_changes _ _ _ _) .same)) rfl

theorem stationFrame_forceSet (c : Ctx) (k : ForceKey) (v : BitVec 64) : keepsFrameAt stationFrame (.forceSet c k v) :=
  keepsFrameAt.of rfl fun s => .next <| command_changes _ _ _ _ _ _ _ (.ite (.after (refuse_changes _ _ _ _ _) .same)
    (meets_changes _ _ _ _ _ (fun _ => by
      split
      · exact .after (refuse_changes _ _ _ _ _) <| .after (raise_changes _ _ _ _) .same
      · next h => exact .after (afterForce_changes _ _ _ _ _) <| .after (setForce_changes h) .same) rfl)) rfl

theorem stationFrame_forceClear (c : Ctx) (k : ForceKey) : keepsFrameAt stationFrame (.forceClear c k) :=
  keepsFrameAt.of rfl fun s => .next <|
    command_changes _ _ _ _ _ _ _ (.ite (.after (refuse_changes _ _ _ _ _) .same)
    (meets_changes _ _ _ _ _ (fun _ => .after (afterForce_changes _ _ _ _ _) <| .after (clearForce_changes _ _) .same) rfl)) rfl

theorem stationFrame_forceClearAll (c : Ctx) : keepsFrameAt stationFrame (.forceClearAll c) :=
  keepsFrameAt.of rfl fun s => .next <| command_changes _ _ _ _ _ _ _ (meets_changes _ _ _ _ _ (fun _ => .after (afterForce_changes _ _ _ _ _) <|
    .after (writeForces_changes _ _) .same) rfl) rfl

theorem stationFrame_partnerLineEdge : keepsFrameAt stationFrame .partnerLineEdge := keepsFrameAt.of rfl fun s => .next <| .fields .same

theorem stationFrame_each (i : Instr) : keepsFrameAt stationFrame i := by
  cases i
  case ownLineStopped => exact stationFrame_ownLineStopped
  case partnerLineQuiet => exact stationFrame_partnerLineQuiet
  case huskHold => exact stationFrame_huskHold _
  case huskRelease => exact stationFrame_huskRelease _
  case timestampBroadcast => exact stationFrame_timestampBroadcast _
  case ack => exact stationFrame_ack _
  case ackLate => exact stationFrame_ackLate
  case baseCycleBoundary => exact stationFrame_baseCycleBoundary
  case taskEnd => exact stationFrame_taskEnd _
  case moduleFault => exact stationFrame_moduleFault _ _
  case retainStoreWrite => exact stationFrame_retainStoreWrite
  case stopEnter => exact stationFrame_stopEnter
  case stopGraceExpiry => exact stationFrame_stopGraceExpiry
  case restartBoundary => exact stationFrame_restartBoundary
  case swapReady => exact stationFrame_swapReady
  case handoverDrained => exact stationFrame_handoverDrained
  case handoverDrainExpiry => exact stationFrame_handoverDrainExpiry
  case imageCheckDone => exact stationFrame_imageCheckDone _
  case start => exact stationFrame_start _
  case stop => exact stationFrame_stop _
  case warm => exact stationFrame_warm _ _
  case cold => exact stationFrame_cold _ _
  case swapPrepare => exact stationFrame_swapPrepare _ _
  case changeReport => exact stationFrame_changeReport _ _ _
  case forceSet => exact stationFrame_forceSet _ _ _
  case forceClear => exact stationFrame_forceClear _ _
  case forceClearAll => exact stationFrame_forceClearAll _
  case partnerLineEdge => exact stationFrame_partnerLineEdge
  all_goals exact .unnamed rfl

theorem hazelFrame_hazelSlot : keepsFrameAt hazelFrame .hazelSlot :=
  keepsFrameAt.of rfl fun s => .ite (.next .same) (.ite (.next <| .fields .same) (.next <|
    .after (runCaptures_changes _ _) <| .ite (.after (runLoops_changes _ _) <| .fields .same) (.fields .same)))

theorem hazelFrame_hazelBatchClose (pod : Fin 6) : keepsFrameAt hazelFrame (.hazelBatchClose pod) :=
  keepsFrameAt.of rfl fun s => .next <| .after (closeBatch_changes _ _) .same

theorem hazelFrame_podFail (pod : Fin 6) : keepsFrameAt hazelFrame (.podFail pod) :=
  keepsFrameAt.of rfl fun s => by
    have hlost : changesOnly [.unit .hz, .unit .exe, .unit .own, .unit .pair, .unit .cmd, .unit .sbk, .flag Reg.cmdFlags 4, .flag Reg.hzFlags 0,
          .ctrsOf 2] s
        (post (hzRaise (podMissed (dropBatch s pod.val) pod.val) 0) .podFail pod.val pod.val 0 0) :=
      .after (post_changes _ _ _ _ _ _) <| .after (hzRaise_changes _ _) <| .after (podMissed_changes _ _) <| .after (dropBatch_changes _ _) .same
    show answersIn _ s (execPodFail pod s)
    unfold execPodFail
    dsimp only
    refine .ite (.next .same) <| .ite (.next <| .after (writeSproutRecord_changes _) <| .after (hz_changes _ _) <| .after hlost .same) <|
      .ite (.next <| .after (sprouted_changes _) <| .fields <| .after hlost .same) <| .ite ?alone ?faulty
    case alone =>
      exact .next <| .after (replaceLoops_changes _ _ _) <| .after (writeSproutRecord_changes _) <| .after (exhausted_changes _ _) <|
        .fields <| .after hlost .same
    case faulty =>
      exact .next <| .after (moduleFault_changes _ _ _ _ _) <| .after (writeSproutRecord_changes _) <| .after (exhausted_changes _ _) <|
        .fields <| .after hlost .same

theorem hazelFrame_hzPcommit (r : Requester) : keepsFrameAt hazelFrame (.hzPcommit r) :=
  keepsFrameAt.of rfl fun s => .next <| actionWrite_changes _ _ _ _ (fun _ => .after (pcommit_changes _ _) .same) rfl

theorem hazelFrame_hzLoopModeWrite (v : Word) (r : Requester) : keepsFrameAt hazelFrame (.hzLoopModeWrite v r) :=
  keepsFrameAt.of rfl fun s => .next <| actionWrite_changes _ _ _ _ (fun _ => .after (writeLoopMode_changes _ _) .same) rfl

theorem hazelFrame_hzLoopSpWrite (v : Word) (r : Requester) : keepsFrameAt hazelFrame (.hzLoopSpWrite v r) :=
  keepsFrameAt.of rfl fun s => .next <| actionWrite_changes _ _ _ _ (fun _ => .after (writeLoopSp_changes _ _) .same) rfl

theorem hazelFrame_hzLoopMvWrite (v : Word) (r : Requester) : keepsFrameAt hazelFrame (.hzLoopMvWrite v r) :=
  keepsFrameAt.of rfl fun s => .next <| actionWrite_changes _ _ _ _ (fun _ => .after (writeLoopMv_changes _ _) .same) rfl

theorem hazelFrame_hzInjStart (gen : Fin 4) (r : Requester) : keepsFrameAt hazelFrame (.hzInjStart gen r) :=
  keepsFrameAt.of rfl fun s => .next <| actionWrite_changes _ _ _ _ (fun _ => .after (startInjection_changes _ _) <|
    .after (setRegField_changes _ _ _ _ _ _) .same) rfl

theorem hazelFrame_hzInjStop (gen : Fin 4) (r : Requester) : keepsFrameAt hazelFrame (.hzInjStop gen r) :=
  keepsFrameAt.of rfl fun s => .next <| actionWrite_changes _ _ _ _ (fun _ => .after (stopInjection_changes _ _) <|
    .after (setRegField_changes _ _ _ _ _ _) .same) rfl

theorem hazelFrame_hzCapArm (set : Fin 4) (r : Requester) : keepsFrameAt hazelFrame (.hzCapArm set r) :=
  keepsFrameAt.of rfl fun s => .next <| actionWrite_changes _ _ _ _ (fun _ => .after (askArm_changes _ _) <|
    .after (setRegField_changes _ _ _ _ _ _) .same) rfl

theorem hazelFrame_hzCapTrigger (set : Fin 4) (r : Requester) : keepsFrameAt hazelFrame (.hzCapTrigger set r) :=
  keepsFrameAt.of rfl fun s => .next <| actionWrite_changes _ _ _ _ (fun _ => .after (fireCapture_changes _ _) <|
    .after (setRegField_changes _ _ _ _ _ _) .same) rfl

theorem hazelFrame_hzCapDisarm (set : Fin 4) (r : Requester) : keepsFrameAt hazelFrame (.hzCapDisarm set r) :=
  keepsFrameAt.of rfl fun s => .next <| actionWrite_changes _ _ _ _ (fun _ => .after (disarmCapture_changes _ _) <|
    .after (setRegField_changes _ _ _ _ _ _) .same) rfl

theorem hazelFrame_loopMode (c : Ctx) (loop : BitVec 16) (mode : BitVec 8)
  (track : BitVec 8) : keepsFrameAt hazelFrame (.loopMode c loop mode track) :=
  keepsFrameAt.of rfl fun s => .ite (.next <| command_changes _ _ _ _ _ _ _ (.after (refuse_changes _ _ _ _ _) .same) rfl) (.next <|
    loopWrite_changes _ _ _ _ _ _ _ (fun _ => .after (setOpMode_changes _ _ _ _) .same) rfl)

theorem hazelFrame_loopSp (c : Ctx) (loop : BitVec 16) (v : BitVec 16) : keepsFrameAt hazelFrame (.loopSp c loop v) :=
  keepsFrameAt.of rfl fun s => .next <| loopWrite_changes _ _ _ _ _ _ _ (fun _ => .after (setOpSp_changes _ _ _) .same) rfl

theorem hazelFrame_loopMv (c : Ctx) (loop : BitVec 16) (v : BitVec 16) : keepsFrameAt hazelFrame (.loopMv c loop v) :=
  keepsFrameAt.of rfl fun s => .next <| loopWrite_changes _ _ _ _ _ _ _ (fun _ => .after (setOpMv_changes _ _ _) .same) rfl

theorem hazelFrame_loopParam (c : Ctx) (loop : BitVec 16) (word : BitVec 8) (words : List Word)
  (commit : Bool) : keepsFrameAt hazelFrame (.loopParam c loop word words commit) :=
  keepsFrameAt.of rfl fun s => .next <|
    command_changes _ _ _ _ _ _ _ (.ite (.after (refuse_changes _ _ _ _ _) .same) (.ite (.after (refuse_changes _ _ _ _ _) .same)
    (.ite (.after (refuse_changes _ _ _ _ _) .same) (.ite (.after (await_changes _ _ _ _ _) <| .after (pcommit_changes _ _) <|
    .after (stageParams_changes _ _ _ _) .same) (.after (ok_changes _ _ _ _) <| .after (stageParams_changes _ _ _ _) .same))))) rfl

theorem hazelFrame_injectStart (c : Ctx) (gen : BitVec 8) (icb : List Byte) : keepsFrameAt hazelFrame (.injectStart c gen icb) :=
  keepsFrameAt.of rfl fun s => .next <|
    command_changes _ _ _ _ _ _ _ (.ite (.after (refuse_changes _ _ _ _ _) .same) (.ite (.after (refuse_changes _ _ _ _ _) <|
    .after (hzRaise_changes _ _) .same) (.ite (.after (ok_changes _ _ _ _) <| .after (startInjection_changes _ _) <|
    .after (setGen_changes _ _ _) .same) (.after (refuse_changes _ _ _ _ _) <| .after (setGen_changes _ _ _) <|
    .after (startInjection_changes _ _) <| .after (setGen_changes _ _ _) .same)))) rfl

theorem hazelFrame_injectStop (c : Ctx) (gen : BitVec 8) : keepsFrameAt hazelFrame (.injectStop c gen) :=
  keepsFrameAt.of rfl fun s => .next <|
    command_changes _ _ _ _ _ _ _ (.ite (.after (refuse_changes _ _ _ _ _) .same) (.after (ok_changes _ _ _ _) <|
    .after (stopInjection_changes _ _) .same)) rfl

theorem hazelFrame_capArm (c : Ctx) (set : BitVec 8) (ccb : List Byte) : keepsFrameAt hazelFrame (.capArm c set ccb) :=
  keepsFrameAt.of rfl fun s => .next <|
    command_changes _ _ _ _ _ _ _ (.ite (.after (refuse_changes _ _ _ _ _) .same) (.ite (.after (refuse_changes _ _ _ _ _) .same)
    (.ite (.after (refuse_changes _ _ _ _ _) .same) (.after (ok_changes _ _ _ _) <| .after (armCapture_changes _ _) <|
    .after (setCap_changes _ _ _) .same)))) rfl

theorem hazelFrame_capTrigger (c : Ctx) (set : BitVec 8) : keepsFrameAt hazelFrame (.capTrigger c set) :=
  keepsFrameAt.of rfl fun s => .next <|
    command_changes _ _ _ _ _ _ _ (.ite (.after (refuse_changes _ _ _ _ _) .same) (.after (ok_changes _ _ _ _) <|
    .after (fireCapture_changes _ _) .same)) rfl

theorem hazelFrame_capDisarm (c : Ctx) (set : BitVec 8) : keepsFrameAt hazelFrame (.capDisarm c set) :=
  keepsFrameAt.of rfl fun s => .next <|
    command_changes _ _ _ _ _ _ _ (.ite (.after (refuse_changes _ _ _ _ _) .same) (.after (ok_changes _ _ _ _) <|
    .after (disarmCapture_changes _ _) .same)) rfl

theorem hazelFrame_capRead (c : Ctx) (set : BitVec 8) (first : BitVec 32)
  (count : BitVec 16) : keepsFrameAt hazelFrame (.capRead c set first count) :=
  keepsFrameAt.of rfl fun s => .next <|
    command_changes _ _ _ _ _ _ _ (.ite (.after (refuse_changes _ _ _ _ _) .same) (.ite (.after (refuse_changes _ _ _ _ _) .same)
    (.after (ok_changes _ _ _ _) .same))) rfl

theorem hazelFrame_each (i : Instr) : keepsFrameAt hazelFrame i := by
  cases i
  case hazelSlot => exact hazelFrame_hazelSlot
  case hazelBatchClose => exact hazelFrame_hazelBatchClose _
  case podFail => exact hazelFrame_podFail _
  case hzPcommit => exact hazelFrame_hzPcommit _
  case hzLoopModeWrite => exact hazelFrame_hzLoopModeWrite _ _
  case hzLoopSpWrite => exact hazelFrame_hzLoopSpWrite _ _
  case hzLoopMvWrite => exact hazelFrame_hzLoopMvWrite _ _
  case hzInjStart => exact hazelFrame_hzInjStart _ _
  case hzInjStop => exact hazelFrame_hzInjStop _ _
  case hzCapArm => exact hazelFrame_hzCapArm _ _
  case hzCapTrigger => exact hazelFrame_hzCapTrigger _ _
  case hzCapDisarm => exact hazelFrame_hzCapDisarm _ _
  case loopMode => exact hazelFrame_loopMode _ _ _ _
  case loopSp => exact hazelFrame_loopSp _ _ _
  case loopMv => exact hazelFrame_loopMv _ _ _
  case loopParam => exact hazelFrame_loopParam _ _ _ _ _
  case injectStart => exact hazelFrame_injectStart _ _ _
  case injectStop => exact hazelFrame_injectStop _ _
  case capArm => exact hazelFrame_capArm _ _ _
  case capTrigger => exact hazelFrame_capTrigger _ _
  case capDisarm => exact hazelFrame_capDisarm _ _
  case capRead => exact hazelFrame_capRead _ _ _ _
  all_goals exact .unnamed rfl

/-- Settles O4: each command by its own operations, whose frames compose. -/
theorem stationAndHazelFrame : Obligations.StationAndHazelFrame := ⟨.of_each stationFrame_each, .of_each hazelFrame_each⟩

end Sys2Proof
end

section
/-! PROOFS. The frames of the commands of the field channels, Gourd and the grid unit, each read off its operations (O5). -/
namespace Sys2Proof
open Sys2Proof.Machine

set_option Elab.async false

theorem channelFrame_couplerFrame (ms : List FeMeasure) : keepsFrameAt channelFrame (.couplerFrame ms) :=
  keepsFrameAt.of rfl fun s => .next <| .after (coupleAll_changes _ _) .same

theorem channelFrame_feFrameTimeout (n : Fin 216) : keepsFrameAt channelFrame (.feFrameTimeout n) :=
  keepsFrameAt.of rfl fun s => .ite (.next <| .after (raise_changes _ _ _ _) <| .after (modFe_changes _ _ _) .same) (.next .same)

theorem channelFrame_feWindowTimeout (n : Fin 216) : keepsFrameAt channelFrame (.feWindowTimeout n) :=
  keepsFrameAt.of rfl fun s => .next <| .after (raise_changes _ _ _ _) <| .after (setReg_changes _ _ _ _) <| .after (modFe_changes _ _ _) .same

theorem channelFrame_groupSupplySample (g : Fin 12) (v : BitVec 10) : keepsFrameAt channelFrame (.groupSupplySample g v) :=
  keepsFrameAt.of rfl fun s => by
    show answersIn _ s (execGroupSupplySample g v s)
    unfold execGroupSupplySample
    dsimp only
    split
    · exact .next <| .after (setGroup_changes _ _ _) .same
    · split
      · split
        · exact .next <| .after (enterSupply_changes _ _ _ _) .same
        · split
          · exact .ite (.next <| .after (setGroup_changes _ _ _) .same) (.next <| .after (enterSupply_changes _ _ _ _) .same)
          · exact .next <| .after (setGroup_changes _ _ _) .same
      · split
        · exact .next <| .after (enterSupply_changes _ _ _ _) .same
        · split
          · exact .ite (.next <| .after (setGroup_changes _ _ _) .same) (.next <| .after (enterSupply_changes _ _ _ _) .same)
          · exact .next <| .after (setGroup_changes _ _ _) .same

theorem channelFrame_fsupReturn (g : Fin 12) : keepsFrameAt channelFrame (.fsupReturn g) :=
  keepsFrameAt.of rfl fun s => .ite (.next <| .after (refreshAll_changes _ _) <|
    .foldl (fun _ _ => .after (armClaims_changes _ _) .same) _ (.after (enterSupply_changes _ _ _ _) <| .after (post_changes _ _ _ _ _ _) <|
    .after (raise_changes _ _ _ _) .same)) (.next .same)

theorem channelFrame_feReconfigDone (n : Fin 216) : keepsFrameAt channelFrame (.feReconfigDone n) :=
  keepsFrameAt.of rfl fun s => .ite (.next <| .after (refresh_changes _ _) <| .after (armClaims_changes _ _) <| .after (modFe_changes _ _ _) <|
    .after (checkFactory_changes _ _) .same) (.next .same)

theorem channelFrame_diFilterChange (n : Fin 216) (on : Bool) : keepsFrameAt channelFrame (.diFilterChange n on) :=
  keepsFrameAt.of rfl fun s => .ite (.next <| .after (modFe_changes _ _ _) .same) (.next .same)

theorem channelFrame_doOverload (c : Fin 192) : keepsFrameAt channelFrame (.doOverload c) :=
  keepsFrameAt.of rfl fun s => .ite (.ite (.next <| .after (checkOverpeak_changes _ _) <| .after (markAbove_changes _ _) <|
    .after (setClaim_changes _ _ _) <| .after (modFe_changes _ _ _) .same) (.next <| .after (modFe_changes _ _ _) .same)) (.next .same)

theorem channelFrame_doLatchoff (c : Fin 192) : keepsFrameAt channelFrame (.doLatchoff c) :=
  keepsFrameAt.of rfl fun s => .ite (.ite (.next <| .after (post_changes _ _ _ _ _ _) <| .after (feFault_changes _ _) <|
    .after (modFe_changes _ _ _) <| .after (post_changes _ _ _ _ _ _) <| .after (countUp_changes _ _ _) <| .after (feFault_changes _ _) <|
    .after (markAbove_changes _ _) <| .after (setClaim_changes _ _ _) <| .after (modFe_changes _ _ _) .same) (.next <|
    .after (post_changes _ _ _ _ _ _) <| .after (countUp_changes _ _ _) <| .after (feFault_changes _ _) <| .after (markAbove_changes _ _) <|
    .after (setClaim_changes _ _ _) <| .after (modFe_changes _ _ _) .same)) (.next .same)

theorem channelFrame_doRetry (c : Fin 192) : keepsFrameAt channelFrame (.doRetry c) :=
  keepsFrameAt.of rfl fun s => .ite (.next <| .after (refresh_changes _ _) <| .after (raise_changes _ _ _ _) <|
    .after (modFe_changes _ _ _) .same) (.next .same)

theorem channelFrame_doMismatch (c : Fin 192) (high : Bool) : keepsFrameAt channelFrame (.doMismatch c high) :=
  keepsFrameAt.of rfl fun s => .ite (.next .same) (.ite (.ite (.ite (.next <| .after (feFailure_changes _ _) <| .after (refresh_changes _ _) <|
    .after (post_changes _ _ _ _ _ _) <| .after (feFault_changes _ _) <| .after (modFe_changes _ _ _) .same) (.next <|
    .after (refresh_changes _ _) <| .after (post_changes _ _ _ _ _ _) <| .after (feFault_changes _ _) <|
    .after (modFe_changes _ _ _) .same)) (.next .same)) (.ite (.next <| .after (refresh_changes _ _) <| .after (post_changes _ _ _ _ _ _) <|
    .after (feFault_changes _ _) <| .after (modFe_changes _ _ _) .same) (.next .same)))

theorem channelFrame_doOpenLoad (c : Fin 192) (on : Bool) : keepsFrameAt channelFrame (.doOpenLoad c on) :=
  keepsFrameAt.of rfl fun s => .ite (.next .same) (.ite (.ite (.next <| .after (post_changes _ _ _ _ _ _) <|
    .after (modFe_changes _ _ _) .same) (.next .same)) (.ite (.next <| .after (modFe_changes _ _ _) .same) (.next .same)))

theorem channelFrame_pulseEdge (n : EdgeSample) : keepsFrameAt channelFrame (.pulseEdge n) :=
  keepsFrameAt.of rfl fun s => .ite (.next <| .after (freeNext_changes _) <| .after (modFe_changes _ _ _) .same) (.next .same)

theorem channelFrame_freqGateEnd (n : Fin 216) (edges : Nat) (span : Nat) : keepsFrameAt channelFrame (.freqGateEnd n edges span) :=
  keepsFrameAt.of rfl fun s => .ite (.next .same) (.ite (.next <| .after (freeNext_changes _) <| .after (modFe_changes _ _ _) .same) (.ite (.next <|
    .after (modFe_changes _ _ _) .same) (.next <| .after (modFe_changes _ _ _) .same)))

theorem channelFrame_feFailure (n : Fin 216) : keepsFrameAt channelFrame (.feFailure n) :=
  keepsFrameAt.of rfl fun s => .next <| .after (feFailure_changes _ _) .same

theorem channelFrame_sproutComplete : keepsFrameAt channelFrame .sproutComplete :=
  keepsFrameAt.of rfl fun s => by
    show answersIn _ s (execSproutComplete s)
    unfold execSproutComplete
    dsimp only
    split
    · exact .next .same
    · split
      · exact .next <| .after (dropUnserved_changes _) <| .after (refresh_changes _ _) <| .after (exhausted_changes _ _) <|
        .after (failChannel_changes _ _) <| .after (modFe_changes _ _ _) <| .after (spr_changes _ _) .same
      · exact .next <| .after (dropUnserved_changes _) <| .after (concludeAll_changes _ _ _ _ _) <| .after (post_changes _ _ _ _ _ _) <|
        .after (sprouted_changes _) <| .after (connectSpare_changes _ _ _) <| .after (spr_changes _ _) .same

theorem channelFrame_spareSelftest (n : Fin 24) (pass : Bool) : keepsFrameAt channelFrame (.spareSelftest n pass) :=
  keepsFrameAt.of rfl fun s => .ite (.next <| .after (endClaim_changes _ _) .same) (.next <| .after (writeSproutRecord_changes _) <|
    .after (modFe_changes _ _ _) <| .after (endClaim_changes _ _) .same)

theorem channelFrame_aiConversion (n : Fin 216) (raw : ℤ) : keepsFrameAt channelFrame (.aiConversion n raw) :=
  keepsFrameAt.of rfl fun s => .ite (.next .same) (.ite (.next <| .after (modFe_changes _ _ _) .same) (.next <| .after (freeNext_changes _) <|
    .after (modFe_changes _ _ _) <| .after (freeNext_changes _) .same))

theorem channelFrame_burdenOpen (c : Fin 192) : keepsFrameAt channelFrame (.burdenOpen c) :=
  keepsFrameAt.of rfl fun s => .ite (.ite (.next <| .after (modFe_changes _ _ _) .same) (.next <| .after (post_changes _ _ _ _ _ _) <|
    .after (modFe_changes _ _ _) .same)) (.next .same)

theorem channelFrame_burdenRetry (c : Fin 192) : keepsFrameAt channelFrame (.burdenRetry c) :=
  keepsFrameAt.of rfl fun s => .ite (.next <| .after (modFe_changes _ _ _) .same) (.next .same)

theorem channelFrame_burdenRetryEnd (c : Fin 192) : keepsFrameAt channelFrame (.burdenRetryEnd c) :=
  keepsFrameAt.of rfl fun s => .ite (.next <| .after (modFe_changes _ _ _) .same) (.next .same)

theorem channelFrame_readbackDisagree (n : Fin 216) : keepsFrameAt channelFrame (.readbackDisagree n) :=
  keepsFrameAt.of rfl fun s => .ite (.next <| .after (modFe_changes _ _ _) .same) (.next .same)

theorem channelFrame_ne43Confirm (n : Fin 216) (k : Ne43) : keepsFrameAt channelFrame (.ne43Confirm n k) :=
  keepsFrameAt.of rfl fun s => by
    show answersIn _ s (execNe43Confirm n k s)
    unfold execNe43Confirm
    dsimp only
    split
    · exact .next .same
    · split
      · exact .ite (.next <| .after (post_changes _ _ _ _ _ _) <| .after (modFe_changes _ _ _) .same) (.next .same)
      · exact .ite (.next <| .after (post_changes _ _ _ _ _ _) <| .after (modFe_changes _ _ _) .same) (.next .same)
      · exact .ite (.next <| .after (post_changes _ _ _ _ _ _) <| .after (modFe_changes _ _ _) .same) (.next .same)
      · exact .ite (.next <| .after (post_changes _ _ _ _ _ _) <| .after (modFe_changes _ _ _) .same) (.next .same)

theorem channelFrame_loopSupplyShort (c : Fin 192) : keepsFrameAt channelFrame (.loopSupplyShort c) :=
  keepsFrameAt.of rfl fun s => .ite (.next <| .after (post_changes _ _ _ _ _ _) <| .after (setClaim_changes _ _ _) <|
    .after (modFe_changes _ _ _) .same) (.next .same)

theorem channelFrame_loopSupplyRetry (c : Fin 192) : keepsFrameAt channelFrame (.loopSupplyRetry c) :=
  keepsFrameAt.of rfl fun s => .ite (.next <| .after (requestC1_changes _ _ _) .same) (.next .same)

theorem channelFrame_loopSupplyRecover (c : Fin 192) : keepsFrameAt channelFrame (.loopSupplyRecover c) :=
  keepsFrameAt.of rfl fun s => .ite (.next <| .after (modFe_changes _ _ _) .same) (.next .same)

theorem channelFrame_aoCompliance (c : Fin 192) : keepsFrameAt channelFrame (.aoCompliance c) :=
  keepsFrameAt.of rfl fun s => .ite (.ite (.next <| .after (post_changes _ _ _ _ _ _) <| .after (modFe_changes _ _ _) <|
    .ite .same (.after (post_changes _ _ _ _ _ _) <| .after (countUp_changes _ _ _) <| .after (modFe_changes _ _ _) .same)) (.next <|
    .ite .same (.after (post_changes _ _ _ _ _ _) <| .after (countUp_changes _ _ _) <| .after (modFe_changes _ _ _) .same))) (.next .same)

theorem channelFrame_aoComplianceEnd (c : Fin 192) : keepsFrameAt channelFrame (.aoComplianceEnd c) :=
  keepsFrameAt.of rfl fun s => .ite (.next <| .after (post_changes _ _ _ _ _ _) <| .after (modFe_changes _ _ _) .same) (.next .same)

theorem channelFrame_aoOpenLoad (c : Fin 192) : keepsFrameAt channelFrame (.aoOpenLoad c) :=
  keepsFrameAt.of rfl fun s => .ite (.next <| .after (post_changes _ _ _ _ _ _) <| .after (modFe_changes _ _ _) .same) (.next .same)

theorem channelFrame_aoBackfeed (c : Fin 192) (forced : Bool) : keepsFrameAt channelFrame (.aoBackfeed c forced) :=
  keepsFrameAt.of rfl fun s => .ite (.next .same) (.ite (.ite (.next <| .after (refresh_changes _ _) <| .after (post_changes _ _ _ _ _ _) <|
    .after (feFault_changes _ _) <| .after (modFe_changes _ _ _) .same) (.next .same)) (.ite (.next <|
    .after (modFe_changes _ _ _) .same) (.next .same)))

theorem channelFrame_feTempMeasure (n : Fin 216) (t : BitVec 16) : keepsFrameAt channelFrame (.feTempMeasure n t) :=
  keepsFrameAt.of rfl fun s => .next <| .after (modFe_changes _ _ _) .same

theorem channelFrame_chClearFault (c : Ctx) (ch : BitVec 8) : keepsFrameAt channelFrame (.chClearFault c ch) :=
  keepsFrameAt.of rfl fun s => by
    show answersIn _ s (execChClearFault c ch s)
    unfold execChClearFault
    dsimp only
    refine .next ?_
    refine command_changes _ _ _ _ _ _ _ ?_ rfl
    split
    · exact .after (refuse_changes _ _ _ _ _) .same
    · split
      · exact .after (refuse_changes _ _ _ _ _) .same
      · split
        · exact .after (ok_changes _ _ _ _) <| .after (clearFault_changes _ _) .same
        · exact .ite (.after (accept_changes _ _ _ _ _ _ _) <| .after (awaitGrants_changes _ _ _ _ _ _) <|
          .after (clearFault_changes _ _) .same) (.after (awaitGrants_changes _ _ _ _ _ _) <| .after (clearFault_changes _ _) .same)

theorem channelFrame_chFailsig (c : Ctx) (ch : BitVec 8) (on : Bool) : keepsFrameAt channelFrame (.chFailsig c ch on) :=
  keepsFrameAt.of rfl fun s => .next <| command_changes _ _ _ _ _ _ _ (.ite (.after (refuse_changes _ _ _ _ _) .same)
    (meets_changes _ _ _ _ _ (fun _ => .ite (by
      split
      · exact .after (refuse_changes _ _ _ _ _) <| .after (raise_changes _ _ _ _) .same
      · next h => exact .after (afterForce_changes _ _ _ _ _) <| .after (setForce_changes h) .same)
      (.after (afterForce_changes _ _ _ _ _) <| .after (clearForce_changes _ _) .same)) rfl)) rfl

theorem channelFrame_each (i : Instr) : keepsFrameAt channelFrame i := by
  cases i
  case couplerFrame => exact channelFrame_couplerFrame _
  case feFrameTimeout => exact channelFrame_feFrameTimeout _
  case feWindowTimeout => exact channelFrame_feWindowTimeout _
  case groupSupplySample => exact channelFrame_groupSupplySample _ _
  case fsupReturn => exact channelFrame_fsupReturn _
  case feReconfigDone => exact channelFrame_feReconfigDone _
  case diFilterChange => exact channelFrame_diFilterChange _ _
  case doOverload => exact channelFrame_doOverload _
  case doLatchoff => exact channelFrame_doLatchoff _
  case doRetry => exact channelFrame_doRetry _
  case doMismatch => exact channelFrame_doMismatch _ _
  case doOpenLoad => exact channelFrame_doOpenLoad _ _
  case pulseEdge => exact channelFrame_pulseEdge _
  case freqGateEnd => exact channelFrame_freqGateEnd _ _ _
  case feFailure => exact channelFrame_feFailure _
  case sproutComplete => exact channelFrame_sproutComplete
  case spareSelftest => exact channelFrame_spareSelftest _ _
  case aiConversion => exact channelFrame_aiConversion _ _
  case burdenOpen => exact channelFrame_burdenOpen _
  case burdenRetry => exact channelFrame_burdenRetry _
  case burdenRetryEnd => exact channelFrame_burdenRetryEnd _
  case readbackDisagree => exact channelFrame_readbackDisagree _
  case ne43Confirm => exact channelFrame_ne43Confirm _ _
  case loopSupplyShort => exact channelFrame_loopSupplyShort _
  case loopSupplyRetry => exact channelFrame_loopSupplyRetry _
  case loopSupplyRecover => exact channelFrame_loopSupplyRecover _
  case aoCompliance => exact channelFrame_aoCompliance _
  case aoComplianceEnd => exact channelFrame_aoComplianceEnd _
  case aoOpenLoad => exact channelFrame_aoOpenLoad _
  case aoBackfeed => exact channelFrame_aoBackfeed _ _
  case feTempMeasure => exact channelFrame_feTempMeasure _ _
  case chClearFault => exact channelFrame_chClearFault _ _
  case chFailsig => exact channelFrame_chFailsig _ _ _
  all_goals exact .unnamed rfl

theorem gridPowerFrame_gourdRequest (r : GourdAsk) : keepsFrameAt gridPowerFrame (.gourdRequest r) :=
  keepsFrameAt.of rfl fun s => by
    show answersIn _ s (execGourdRequest r s)
    unfold execGourdRequest
    split
    · exact .next <| .ite (.after (requestC1_changes _ _ _) .same) .same
    · exact .next <| .after (askLogic_changes _ _ _ _ _ _) .same

theorem gridPowerFrame_gourdDecision : keepsFrameAt gridPowerFrame .gourdDecision :=
  keepsFrameAt.of rfl fun s => .next <| .after (gourdDecide_changes _) .same

theorem gridPowerFrame_groupCurrentMeasure (g : Fin 12) : keepsFrameAt gridPowerFrame (.groupCurrentMeasure g) :=
  keepsFrameAt.of rfl fun s => .next <| .after (setGroupBudget_changes _ _ _) .same

theorem gridPowerFrame_logicPowerMeasure (mw : BitVec 16) : keepsFrameAt gridPowerFrame (.logicPowerMeasure mw) :=
  keepsFrameAt.of rfl fun s => .next <| .after (grd_changes _ _) .same

theorem gridPowerFrame_c2AgeExpiry : keepsFrameAt gridPowerFrame .c2AgeExpiry :=
  keepsFrameAt.of rfl fun s => .ite (.next <|
    .foldl (fun _ _ => .after (refuseLogic_changes _ _ _) .same) _ (.after (grd_changes _ _) .same)) (.next .same)

theorem gridPowerFrame_gmuReport (m : GmuMeasure) : keepsFrameAt gridPowerFrame (.gmuReport m) :=
  keepsFrameAt.of rfl fun s => .next <| .after (gmuReport_changes _ _) .same

theorem gridPowerFrame_pqAggregate (v : PqValues) : keepsFrameAt gridPowerFrame (.pqAggregate v) :=
  keepsFrameAt.of rfl fun s => by
    show answersIn _ s (execPqAggregate v s)
    unfold execPqAggregate
    refine .next ?_
    split
    · exact .after (shortWindow_changes _ _) .same
    · exact .after (mediumWindow_changes _) .same
    · exact .after (longWindow_changes _) .same
    · exact .after (frequencyWindow_changes _) .same

theorem gridPowerFrame_gridEvent (set : Fin 4) (phases : List Nat) : keepsFrameAt gridPowerFrame (.gridEvent set phases) :=
  keepsFrameAt.of rfl fun s => .ite (.next .same) (.next <| .after (swellStep_changes _ _ _) <| .after (dipStep_changes _ _ _) .same)

theorem gridPowerFrame_syncClose : keepsFrameAt gridPowerFrame .syncClose :=
  keepsFrameAt.of rfl fun s => .ite (.next <| .after (closeNow_changes _ _) .same) (.next .same)

theorem gridPowerFrame_syncTimeout : keepsFrameAt gridPowerFrame .syncTimeout :=
  keepsFrameAt.of rfl fun s => .ite (.next <| .after (syncAbort_changes _ _) .same) (.next .same)

theorem gridPowerFrame_triggerFire (t : Fin 32) : keepsFrameAt gridPowerFrame (.triggerFire t) :=
  keepsFrameAt.of rfl fun s => .ite (.next <| .after (fireTrigger_changes _ _) .same) (.next .same)

theorem gridPowerFrame_triggerReset (t : Fin 32) : keepsFrameAt gridPowerFrame (.triggerReset t) :=
  keepsFrameAt.of rfl fun s => .ite (.next <| .after (setTrig_changes _ _ _) .same) (.next .same)

theorem gridPowerFrame_staleInput : keepsFrameAt gridPowerFrame .staleInput :=
  keepsFrameAt.of rfl fun s => .ite (.next <| .after (noteStale_changes _) .same) (.next .same)

theorem gridPowerFrame_shedReleaseApply : keepsFrameAt gridPowerFrame .shedReleaseApply :=
  keepsFrameAt.of rfl fun s => .ite (.next <| .after (commit_changes _ _ _ _ _) <| .after (gmu_changes _ _) .same) (.next <|
    .after (concludeAll_changes _ _ _ _ _) <| .after (gmu_changes _ _) .same)

theorem gridPowerFrame_gmuSyncArm (r : Requester) : keepsFrameAt gridPowerFrame (.gmuSyncArm r) :=
  keepsFrameAt.of rfl fun s => .next <| actionWrite_changes _ _ _ _ (fun _ => .after (askSync_changes _) .same) rfl

theorem gridPowerFrame_gmuSyncDisarm (r : Requester) : keepsFrameAt gridPowerFrame (.gmuSyncDisarm r) :=
  keepsFrameAt.of rfl fun s => .next <| actionWrite_changes _ _ _ _ (fun _ => .after (disarmSync_changes _) .same) rfl

theorem gridPowerFrame_gmuTrigArm (t : Fin 32) (r : Requester) : keepsFrameAt gridPowerFrame (.gmuTrigArm t r) :=
  keepsFrameAt.of rfl fun s => .next <| actionWrite_changes _ _ _ _ (fun _ => .after (armTrigger_changes _ _) <|
    .after (setRegField_changes _ _ _ _ _ _) .same) rfl

theorem gridPowerFrame_gmuTrigDisarm (t : Fin 32) (r : Requester) : keepsFrameAt gridPowerFrame (.gmuTrigDisarm t r) :=
  keepsFrameAt.of rfl fun s => .next <| actionWrite_changes _ _ _ _ (fun _ => .after (disarmTrigger_changes _ _) <|
    .after (setRegField_changes _ _ _ _ _ _) .same) rfl

theorem gridPowerFrame_gmuShedRel (high : Bool) (v : Word) (r : Requester) : keepsFrameAt gridPowerFrame (.gmuShedRel high v r) :=
  keepsFrameAt.of rfl fun s => .next <| actionWrite_changes _ _ _ _ (fun _ => .after (writeRelease_changes _ _ _) .same) rfl

theorem gridPowerFrame_syncArm (c : Ctx) (block : List Byte) : keepsFrameAt gridPowerFrame (.syncArm c block) :=
  keepsFrameAt.of rfl fun s => by
    show answersIn _ s (execSyncArm c block s)
    unfold execSyncArm
    dsimp only
    refine .next ?_
    refine command_changes _ _ _ _ _ _ _ ?_ rfl
    split
    · exact .after (refuse_changes _ _ _ _ _) <| .after (gmuRaise_changes _ _) .same
    · split
      · exact .after (refuse_changes _ _ _ _ _) <| .after (gmuRaise_changes _ _) .same
      · exact .after (ok_changes _ _ _ _) <| .after (armSync_changes _) <| .after (setGmuBytes_changes _ _ _) .same

theorem gridPowerFrame_syncDisarm (c : Ctx) : keepsFrameAt gridPowerFrame (.syncDisarm c) :=
  keepsFrameAt.of rfl fun s => .next <| command_changes _ _ _ _ _ _ _ (.after (ok_changes _ _ _ _) <| .after (disarmSync_changes _) .same) rfl

theorem gridPowerFrame_shedRelease (c : Ctx) (mask : BitVec 64) : keepsFrameAt gridPowerFrame (.shedRelease c mask) :=
  keepsFrameAt.of rfl fun s => .next <| command_changes _ _ _ _ _ _ _ (.after (await_changes _ _ _ _ _) <| .after (askRelease_changes _ _) .same) rfl

theorem gridPowerFrame_trigArm (c : Ctx) (t : BitVec 8) (arm : BitVec 8) : keepsFrameAt gridPowerFrame (.trigArm c t arm) :=
  keepsFrameAt.of rfl fun s => .next <|
    command_changes _ _ _ _ _ _ _ (.ite (.after (refuse_changes _ _ _ _ _) .same) (.ite (.after (refuse_changes _ _ _ _ _) .same)
    (.after (ok_changes _ _ _ _) <| .ite (.after (armTrigger_changes _ _) .same) (.after (disarmTrigger_changes _ _) .same)))) rfl

theorem gridPowerFrame_grantlogRead (c : Ctx) (first : BitVec 8) (count : BitVec 16) : keepsFrameAt gridPowerFrame (.grantlogRead c first count) :=
  keepsFrameAt.of rfl fun s => .next <|
    command_changes _ _ _ _ _ _ _ (.ite (.after (refuse_changes _ _ _ _ _) .same) (.after (ok_changes _ _ _ _) <| .after (grd_changes _ _) .same)) rfl

theorem gridPowerFrame_each (i : Instr) : keepsFrameAt gridPowerFrame i := by
  cases i
  case gourdRequest => exact gridPowerFrame_gourdRequest _
  case gourdDecision => exact gridPowerFrame_gourdDecision
  case groupCurrentMeasure => exact gridPowerFrame_groupCurrentMeasure _
  case logicPowerMeasure => exact gridPowerFrame_logicPowerMeasure _
  case c2AgeExpiry => exact gridPowerFrame_c2AgeExpiry
  case gmuReport => exact gridPowerFrame_gmuReport _
  case pqAggregate => exact gridPowerFrame_pqAggregate _
  case gridEvent => exact gridPowerFrame_gridEvent _ _
  case syncClose => exact gridPowerFrame_syncClose
  case syncTimeout => exact gridPowerFrame_syncTimeout
  case triggerFire => exact gridPowerFrame_triggerFire _
  case triggerReset => exact gridPowerFrame_triggerReset _
  case staleInput => exact gridPowerFrame_staleInput
  case shedReleaseApply => exact gridPowerFrame_shedReleaseApply
  case gmuSyncArm => exact gridPowerFrame_gmuSyncArm _
  case gmuSyncDisarm => exact gridPowerFrame_gmuSyncDisarm _
  case gmuTrigArm => exact gridPowerFrame_gmuTrigArm _ _
  case gmuTrigDisarm => exact gridPowerFrame_gmuTrigDisarm _ _
  case gmuShedRel => exact gridPowerFrame_gmuShedRel _ _ _
  case syncArm => exact gridPowerFrame_syncArm _ _
  case syncDisarm => exact gridPowerFrame_syncDisarm _
  case shedRelease => exact gridPowerFrame_shedRelease _ _
  case trigArm => exact gridPowerFrame_trigArm _ _ _
  case grantlogRead => exact gridPowerFrame_grantlogRead _ _ _
  all_goals exact .unnamed rfl

/-- Settles O5: each command by its own operations, whose frames compose. -/
theorem channelAndGridFrame : Obligations.ChannelAndGridFrame := ⟨.of_each channelFrame_each, .of_each gridPowerFrame_each⟩

end Sys2Proof
end

section
/-! PROOFS. The frames of the commands of Walnut and of the redundancy pair, each read off its operations (O6). -/
namespace Sys2Proof
open Sys2Proof.Machine

set_option Elab.async false

theorem walnutFrame_safeInputChange (ch : Fin 16) (on : Bool) : keepsFrameAt walnutFrame (.safeInputChange ch on) :=
  keepsFrameAt.of rfl fun s => .ite (.next <| .after (modWnt_changes _ _) .same) (.next .same)

theorem walnutFrame_safetyCycle (i : CycleInputs) : keepsFrameAt walnutFrame (.safetyCycle i) :=
  keepsFrameAt.of rfl fun s => .next <| .after (send_changes _ _) <| .after (driveClaims_changes _) <| .after (publishSafety_changes _) <|
    .after (modWnt_changes _ _) <| .after (missingMessage_changes _) <| .after (modWnt_changes _ _) <| .after (modWnt_changes _ _) <|
    .after (freeNext_changes _) .same

theorem walnutFrame_halfSelftestDone (aOk : Bool) (bOk : Bool) : keepsFrameAt walnutFrame (.halfSelftestDone aOk bOk) :=
  keepsFrameAt.of rfl fun s => .ite (.next .same) (.ite (.next <| .after (failHalf_changes _ _) .same) (.next <|
    .after (demandWnt_changes _ _) .same))

theorem walnutFrame_discrepancy (p : Fin 8) : keepsFrameAt walnutFrame (.discrepancy p) :=
  keepsFrameAt.of rfl fun s => by
    show answersIn _ s (execDiscrepancy p s)
    unfold execDiscrepancy
    dsimp only
    exact .ite (.next <| .after (demandWnt_changes _ _) .same) (.next .same)

theorem walnutFrame_crossCircuit (p : Fin 8) : keepsFrameAt walnutFrame (.crossCircuit p) :=
  keepsFrameAt.of rfl fun s => .ite (.next <| .after (latchCross_changes _ _) .same) (.next .same)

theorem walnutFrame_testSourceDark (b : Bool) (reads : BitVec 16) : keepsFrameAt walnutFrame (.testSourceDark b reads) :=
  keepsFrameAt.of rfl fun s => .ite (.next .same) (.ite (.next <| .after (modWnt_changes _ _) .same) (.next <|
    .foldl (fun _ _ => .ite (.ite (.after (latchCross_changes _ _) <|
    .after (modWnt_changes _ _) .same) (.after (modWnt_changes _ _) .same)) .same) _ (.after (modWnt_changes _ _) .same)))

theorem walnutFrame_speedPulse (i : Fin 2) (halfB : Bool) : keepsFrameAt walnutFrame (.speedPulse i halfB) :=
  keepsFrameAt.of rfl fun s => .ite (.next .same) (.next <| .after (modWnt_changes _ _) .same)

theorem walnutFrame_speedDisc (i : Fin 2) : keepsFrameAt walnutFrame (.speedDisc i) :=
  keepsFrameAt.of rfl fun s => .ite (.next .same) (.next <| .after (demandWnt_changes _ _) .same)

theorem walnutFrame_safeOutputFault (q : Fin 8) (k : SafeFault) : keepsFrameAt walnutFrame (.safeOutputFault q k) :=
  keepsFrameAt.of rfl fun s => by
    show answersIn _ s (execSafeOutputFault q k s)
    unfold execSafeOutputFault
    dsimp only
    split
    · exact .next .same
    · split
      · exact .ite (.next <| .after (demandWnt_changes _ _) .same) (.next .same)
      · exact .ite (.next <| .after (demandWnt_changes _ _) .same) (.next .same)
      · exact .ite (.next .same) (.next <| .after (demandWnt_changes _ _) .same)

theorem walnutFrame_qsupMissing (g : Fin 2) : keepsFrameAt walnutFrame (.qsupMissing g) :=
  keepsFrameAt.of rfl fun s => .next <| .after (demandWnt_changes _ _) .same

theorem walnutFrame_qsupOk (g : Fin 2) : keepsFrameAt walnutFrame (.qsupOk g) :=
  keepsFrameAt.of rfl fun s => .next <| .after (modWnt_changes _ _) .same

theorem walnutFrame_darkTest (q : Fin 8) : keepsFrameAt walnutFrame (.darkTest q) :=
  keepsFrameAt.of rfl fun s => .ite (.next <| .after (askC0_changes _ _ _ _ _) <| .after (modWnt_changes _ _) .same) (.next .same)

theorem walnutFrame_darkTestEnd (q : Fin 8) (readback : Bool) : keepsFrameAt walnutFrame (.darkTestEnd q readback) :=
  keepsFrameAt.of rfl fun s => .ite (.next .same) (.ite (.next <| .after (testFailed_changes _ _) .same) (.next <| .after (modWnt_changes _ _) .same))

theorem walnutFrame_lightTest (q : Fin 8) : keepsFrameAt walnutFrame (.lightTest q) :=
  keepsFrameAt.of rfl fun s => .ite (.next <| .after (askC0_changes _ _ _ _ _) <| .after (modWnt_changes _ _) .same) (.next .same)

theorem walnutFrame_lightTestEnd (q : Fin 8) (readback : Bool) : keepsFrameAt walnutFrame (.lightTestEnd q readback) :=
  keepsFrameAt.of rfl fun s => .ite (.next .same) (.ite (.next <| .after (modWnt_changes _ _) .same) (.next <| .after (testFailed_changes _ _) .same))

theorem walnutFrame_halfFail (halfB : Bool) : keepsFrameAt walnutFrame (.halfFail halfB) :=
  keepsFrameAt.of rfl fun s => .ite (.next <| .after (failHalf_changes _ _) .same) (.next .same)

theorem walnutFrame_halfDriveTakeover (opened : BitVec 8) : keepsFrameAt walnutFrame (.halfDriveTakeover opened) :=
  keepsFrameAt.of rfl fun s => .ite (.next .same) (.next <| .after (demandWnt_changes _ _) .same)

theorem walnutFrame_ss1Tmax (f : Fin 8) : keepsFrameAt walnutFrame (.ss1Tmax f) :=
  keepsFrameAt.of rfl fun s => .ite (.next <| .after (modWnt_changes _ _) .same) (.next .same)

theorem walnutFrame_resetEdge : keepsFrameAt walnutFrame .resetEdge :=
  keepsFrameAt.of rfl fun s => .ite (.next .same) (.ite (.next <| .after (modWnt_changes _ _) .same) (.next <| .after (degradedYield_changes _ _) <|
    .foldl (fun _ _ => .after (post_changes _ _ _ _ _ _) .same) _ (.after (modWnt_changes _ _) .same)))

theorem walnutFrame_resetJammed : keepsFrameAt walnutFrame .resetJammed :=
  keepsFrameAt.of rfl fun s => .ite (.next <| .after (post_changes _ _ _ _ _ _) <| .after (modWnt_changes _ _) .same) (.next .same)

theorem walnutFrame_degradedExpiry : keepsFrameAt walnutFrame .degradedExpiry :=
  keepsFrameAt.of rfl fun s => .ite (.next <| .after (demandWnt_changes _ _) .same) (.next .same)

theorem walnutFrame_safety (msg : List Byte) (set : Option (List Byte)) : keepsFrameAt walnutFrame (.safety msg set) :=
  keepsFrameAt.of rfl fun s => .ite (.next <| .after (discardMessage_changes _) .same) (.ite (.next <| .after (partnerHolds_changes _ _) <|
    .after (modWnt_changes _ _) .same) (.ite (.next <| .after (modWnt_changes _ _) <| .after (adoptSet_changes _ _ _) <|
    .after (mirrorSet_changes _ _ _) <| .after (modWnt_changes _ _) .same) (.next <| .after (adoptSet_changes _ _ _) <|
    .after (mirrorSet_changes _ _ _) <| .after (modWnt_changes _ _) .same)))

theorem walnutFrame_safeParamExpiry : keepsFrameAt walnutFrame .safeParamExpiry :=
  keepsFrameAt.of rfl fun s => by
    show answersIn _ s (execSafeParamExpiry s)
    unfold execSafeParamExpiry
    split
    · exact .ite (.next .same) (.next <| .after (discardPending_changes _ _) .same)
    · exact .next .same

theorem walnutFrame_safeParamLoad (c : Ctx) (set : List Byte) : keepsFrameAt walnutFrame (.safeParamLoad c set) :=
  keepsFrameAt.of rfl fun s => by
    show answersIn _ s (execSafeParamLoad c set s)
    unfold execSafeParamLoad
    dsimp only
    refine .next ?_
    split
    · exact safetyCommand_changes _ _ _ _ _ (fun _ => .after (refuse_changes _ _ _ _ _) .same) rfl
    · split
      · exact safetyCommand_changes _ _ _ _ _ (fun _ => .ite (.after (refuse_changes _ _ _ _ _) .same) (.after (refuse_changes _ _ _ _ _) .same)) rfl
      · split
        · exact safetyCommand_changes _ _ _ _ _ (fun _ => .ite (.after (refuse_changes _ _ _ _ _) .same)
          (.after (refuse_changes _ _ _ _ _) .same)) rfl
        · exact safetyCommand_changes _ _ _ _ _ (fun _ => .ite (.after (refuse_changes _ _ _ _ _) .same) (.ite (.after (await_changes _ _ _ _ _) <|
          .after (demandWnt_changes _ _) .same) (.after (ok_changes _ _ _ _) <| .after (demandWnt_changes _ _) .same))) rfl

theorem walnutFrame_safeParamConfirm (c : Ctx) (crc : BitVec 32) (setId : List Byte) : keepsFrameAt walnutFrame (.safeParamConfirm c crc setId) :=
  keepsFrameAt.of rfl fun s => .next <| safetyCommand_changes _ _ _ _ _ (fun _ => by
    split
    · exact .after (refuse_changes _ _ _ _ _) .same
    · exact .ite (.after (refuse_changes _ _ _ _ _) .same) <| .ite (.after (refuse_changes _ _ _ _ _) .same) <|
        .ite (.after (refuse_changes _ _ _ _ _) <| .after (discardPending_changes _ _) .same)
          (.after (ok_changes _ _ _ _) <| .after (post_changes _ _ _ _ _ _) <| .after (modWnt_changes _ _) .same)) rfl

theorem walnutFrame_safeParamAbort (c : Ctx) : keepsFrameAt walnutFrame (.safeParamAbort c) :=
  keepsFrameAt.of rfl fun s => .next <| safetyCommand_changes _ _ _ _ _ (fun _ => by
    split
    · exact .after (ok_changes _ _ _ _) .same
    · exact .ite (.after (refuse_changes _ _ _ _ _) .same) (.after (ok_changes _ _ _ _) <| .after (discardPending_changes _ _) .same)) rfl

theorem walnutFrame_each (i : Instr) : keepsFrameAt walnutFrame i := by
  cases i
  case safeInputChange => exact walnutFrame_safeInputChange _ _
  case safetyCycle => exact walnutFrame_safetyCycle _
  case halfSelftestDone => exact walnutFrame_halfSelftestDone _ _
  case discrepancy => exact walnutFrame_discrepancy _
  case crossCircuit => exact walnutFrame_crossCircuit _
  case testSourceDark => exact walnutFrame_testSourceDark _ _
  case speedPulse => exact walnutFrame_speedPulse _ _
  case speedDisc => exact walnutFrame_speedDisc _
  case safeOutputFault => exact walnutFrame_safeOutputFault _ _
  case qsupMissing => exact walnutFrame_qsupMissing _
  case qsupOk => exact walnutFrame_qsupOk _
  case darkTest => exact walnutFrame_darkTest _
  case darkTestEnd => exact walnutFrame_darkTestEnd _ _
  case lightTest => exact walnutFrame_lightTest _
  case lightTestEnd => exact walnutFrame_lightTestEnd _ _
  case halfFail => exact walnutFrame_halfFail _
  case halfDriveTakeover => exact walnutFrame_halfDriveTakeover _
  case ss1Tmax => exact walnutFrame_ss1Tmax _
  case resetEdge => exact walnutFrame_resetEdge
  case resetJammed => exact walnutFrame_resetJammed
  case degradedExpiry => exact walnutFrame_degradedExpiry
  case safety => exact walnutFrame_safety _ _
  case safeParamExpiry => exact walnutFrame_safeParamExpiry
  case safeParamLoad => exact walnutFrame_safeParamLoad _ _
  case safeParamConfirm => exact walnutFrame_safeParamConfirm _ _ _
  case safeParamAbort => exact walnutFrame_safeParamAbort _
  all_goals exact .unnamed rfl

theorem peapodFrame_handoverBoundary : keepsFrameAt peapodFrame .handoverBoundary :=
  keepsFrameAt.of rfl fun s => by
    show answersIn _ s (execHandoverBoundary s)
    unfold execHandoverBoundary
    dsimp only
    split
    · exact .next .same
    · split
      · exact .next .same
      · exact .ite (.next .same) (.next <| .after (startCoreSwap_changes _) <| .after (giveField_changes _ _) <|
        .after (concludeAll_changes _ _ _ _ _) <| .after (ppdRaise_changes _ _) <| .after (driveLine_changes _ _) <| .after (send_changes _ _) .same)

theorem peapodFrame_roleDecision (partnerAtIdent : Bool) : keepsFrameAt peapodFrame (.roleDecision partnerAtIdent) :=
  keepsFrameAt.of rfl fun s => .ite (.next .same) (.ite (.ite (.next <| .after (decisionMade_changes _) <|
    .after (startSyncing_changes _) .same) (.ite (.next <| .after (decisionMade_changes _) <|
    .ite (.after (startOwner_changes _ _ _) .same) (.after (startSyncing_changes _) .same)) (.next .same))) (.ite (.next .same) (.ite (.next <|
    .after (decisionMade_changes _) <| .after (changeRole_changes _ _ _) .same) (.next <| .after (decisionMade_changes _) <|
    .after (startOwner_changes _ _ _) .same))))

theorem peapodFrame_trainPhaseDone (lanes : List LaneMeasure) : keepsFrameAt peapodFrame (.trainPhaseDone lanes) :=
  keepsFrameAt.of rfl fun s => .next <| .after (trainPhase_changes _ _) .same

theorem peapodFrame_trainFail : keepsFrameAt peapodFrame .trainFail :=
  keepsFrameAt.of rfl fun s => by
    show answersIn _ s (execTrainFail s)
    unfold execTrainFail
    split
    · exact .next .same
    · exact .next .same
    · exact .next .same
    · exact .next <| .after (linkDetect_changes _) .same

theorem peapodFrame_ident (d : IdentData) : keepsFrameAt peapodFrame (.ident d) :=
  keepsFrameAt.of rfl fun s => .ite (.next <| .ite (.after (identPassed_changes _ _) <|
    .after (sendIdent_changes _ _) .same) (.after (identFailed_changes _) <| .after (sendIdent_changes _ _) .same)) (.next .same)

theorem peapodFrame_heartbeat (h : HeartbeatBlock) : keepsFrameAt peapodFrame (.heartbeat h) :=
  keepsFrameAt.of rfl fun s => .ite (.next .same) (.next <| .after (onPartnerRole_changes _ _) <| .after (modPair_changes _ _) .same)

theorem peapodFrame_heartbeatSend : keepsFrameAt peapodFrame .heartbeatSend :=
  keepsFrameAt.of rfl fun s => .next <| .after (modPair_changes _ _) <| .foldl (fun _ _ => .after (send_changes _ _) .same) _ .same

theorem peapodFrame_heartbeatLost : keepsFrameAt peapodFrame .heartbeatLost :=
  keepsFrameAt.of rfl fun s => .ite (.next .same) (.ite (.next <| .after (becomeAlone_changes _ _) <| .after (partnerLost_changes _) <|
    .after (modPair_changes _ _) <| .after (linkDetect_changes _) .same) (.ite (.next <| .after (partnerLost_changes _) <|
    .after (modPair_changes _ _) <| .after (linkDetect_changes _) .same) (.ite (.next <| .after (post_changes _ _ _ _ _ _) <|
    .after (changeRole_changes _ _ _) <| .after (partnerLost_changes _) <| .after (modPair_changes _ _) <|
    .after (linkDetect_changes _) .same) (.next <| .after (takeByLoss_changes _ _) <| .after (partnerLost_changes _) <|
    .after (modPair_changes _ _) <| .after (linkDetect_changes _) .same))))

theorem peapodFrame_partnerLineReleased : keepsFrameAt peapodFrame .partnerLineReleased :=
  keepsFrameAt.of rfl fun s => .ite (.next <| .after (takeByLoss_changes _ _) <| .after (modPair_changes _ _) .same) (.next <|
    .after (modPair_changes _ _) .same)

theorem peapodFrame_ownLineFault : keepsFrameAt peapodFrame .ownLineFault :=
  keepsFrameAt.of rfl fun s => .ite (.next <| .after (moduleFault_changes _ _ _ _ _) .same) (.next .same)

theorem peapodFrame_ownerLineFault : keepsFrameAt peapodFrame .ownerLineFault :=
  keepsFrameAt.of rfl fun s => .ite (.next <| .after (post_changes _ _ _ _ _ _) <| .after (ppdRaise_changes _ _) .same) (.next .same)

theorem peapodFrame_line (tag : Byte) (mask : BitVec 4) (region : BitVec 4) (index : BitVec 24) (data : List Byte)
  (content : CopyContent) : keepsFrameAt peapodFrame (.line tag mask region index data content) :=
  keepsFrameAt.of rfl fun s => .next <| .after (logEntry_changes _ _) .same

theorem peapodFrame_hrec (tag : Byte) (loop : BitVec 12) (commit : Bool) (seq : Nat)
  (data : List Byte) : keepsFrameAt peapodFrame (.hrec tag loop commit seq data) :=
  keepsFrameAt.of rfl fun s => .ite (.next <| .after (takeCommit_changes _ _ _) <| .after (logEntry_changes _ _) .same) (.next <|
    .after (logEntry_changes _ _) .same)

theorem peapodFrame_irec (tag : Byte) (data : List Byte) (content : CopyContent) : keepsFrameAt peapodFrame (.irec tag data content) :=
  keepsFrameAt.of rfl fun s => .next <| .after (logEntry_changes _ _) .same

theorem peapodFrame_commit (tag : Byte) (seq : Nat) : keepsFrameAt peapodFrame (.commit tag seq) :=
  keepsFrameAt.of rfl fun s => .next <| .after (takeCommit_changes _ _ _) .same

theorem peapodFrame_check (lane : Fin 5) (number : Byte) (crcOk : Bool) : keepsFrameAt peapodFrame (.check lane number crcOk) :=
  keepsFrameAt.of rfl fun s => .ite (.next .same) (.ite (.next <| .after (modLane_changes _ _ _) .same) (.next <| .after (send_changes _ _) <|
    .after (modLane_changes _ _ _) .same))

theorem peapodFrame_nak (lane : Fin 5) (number : Byte) : keepsFrameAt peapodFrame (.nak lane number) :=
  keepsFrameAt.of rfl fun s => .ite (.next .same) (.next <| .after (send_changes _ _) <| .after (countUp_changes _ _ _) <|
    .after (modLane_changes _ _ _) .same)

theorem peapodFrame_align (lane : Fin 5) (logical : BitVec 2) (skew : Nat) : keepsFrameAt peapodFrame (.align lane logical skew) :=
  keepsFrameAt.of rfl fun s => .ite (.next <| .after (modLane_changes _ _ _) .same) (.next .same)

theorem peapodFrame_faultMessage : keepsFrameAt peapodFrame .faultMessage :=
  keepsFrameAt.of rfl fun s => .ite (.next <| .after (becomeAlone_changes _ _) <| .after (modPair_changes _ _) .same) (.ite (.next <|
    .after (partnerLost_changes _) <| .ite (.after (modPair_changes _ _) .same) (.after (takeByLoss_changes _ _) <|
    .after (modPair_changes _ _) .same)) (.next <| .after (modPair_changes _ _) .same))

theorem peapodFrame_handoverPrepare (boundary : Nat) : keepsFrameAt peapodFrame (.handoverPrepare boundary) :=
  keepsFrameAt.of rfl fun s => .ite (.next <| .after (send_changes _ _) <| .after (modPair_changes _ _) .same) (.next .same)

theorem peapodFrame_handoverMessage : keepsFrameAt peapodFrame .handoverMessage :=
  keepsFrameAt.of rfl fun s => .ite (.next <| .ite (.after (sendBulk_changes _ _) <| .after (modPair_changes _ _) <| .after (gmu_changes _ _) <|
    .after (releaseGiven_changes _ _) <| .after (runGivenSlot_changes _ _) <|
    .after (takeover_changes _ _ _ _ _) .same) (.after (modPair_changes _ _) <| .after (gmu_changes _ _) <| .after (releaseGiven_changes _ _) <|
    .after (runGivenSlot_changes _ _) <| .after (takeover_changes _ _ _ _ _) .same)) (.next .same)

theorem peapodFrame_yield : keepsFrameAt peapodFrame .yield :=
  keepsFrameAt.of rfl fun s => .ite (.next <| .after (startResync_changes _) <| .after (modPair_changes _ _) <|
    .after (takeover_changes _ _ _ _ _) .same) (.next .same)

theorem peapodFrame_roleMessage (note : RoleNote) : keepsFrameAt peapodFrame (.roleMessage note) :=
  keepsFrameAt.of rfl fun s => .next <| .after (swapAsked_changes _ _) <| .after (onPartnerRole_changes _ _) <|
    .ite (.after (changeRole_changes _ _ _) <| .after (modPair_changes _ _) .same) (.after (modPair_changes _ _) .same)

theorem peapodFrame_laneRetired (lane : Fin 5) : keepsFrameAt peapodFrame (.laneRetired lane) :=
  keepsFrameAt.of rfl fun s => by
    show answersIn _ s (execLaneRetired lane s)
    unfold execLaneRetired
    dsimp only
    split
    · exact .next <| .after (fewLanes_changes _) <| .after (retireLinkLane_changes _ _) .same
    · exact .next <| .after (postRetired_changes _ _) .same
    · exact .next <| .after (noSpareLane_changes _) <| .after (retrainNext_changes _) <| .after (postRetired_changes _ _) .same
    · exact .next .same

theorem peapodFrame_laneSprouted (lane : Fin 5) : keepsFrameAt peapodFrame (.laneSprouted lane) :=
  keepsFrameAt.of rfl fun s => .ite (.next .same) (.ite (.next <| .after (retrainNext_changes _) <| .after (post_changes _ _ _ _ _ _) <|
    .after (ppdRaise_changes _ _) <| .after (spr_changes _ _) <| .after (sprouted_changes _) <| .after (modLane_changes _ _ _) .same) (.next <|
    .after (retrainNext_changes _) <| .after (modLane_changes _ _ _) .same))

theorem peapodFrame_ppdRetrainRetired (r : Requester) : keepsFrameAt peapodFrame (.ppdRetrainRetired r) :=
  keepsFrameAt.of rfl fun s => .next <| actionWrite_changes _ _ _ _ (fun _ => .after (retrainRetired_changes _) .same) rfl

theorem peapodFrame_orphanRetrain : keepsFrameAt peapodFrame .orphanRetrain :=
  keepsFrameAt.of rfl fun s => .ite (.next .same) (.ite (.next <| .after (changeRole_changes _ _ _) .same) (.next <|
    .after (linkDetect_changes _) .same))

theorem peapodFrame_claim (r : Requester) : keepsFrameAt peapodFrame (.claim r) :=
  keepsFrameAt.of rfl fun s => .next <| actionWrite_changes _ _ _ _ (fun _ => .after (claimField_changes _) .same) rfl

theorem peapodFrame_goOffline (r : Requester) : keepsFrameAt peapodFrame (.goOffline r) :=
  keepsFrameAt.of rfl fun s => .next <| actionWrite_changes _ _ _ _ (fun _ => .after (goOffline_changes _ _) .same) rfl

theorem peapodFrame_pendingLogFull : keepsFrameAt peapodFrame .pendingLogFull :=
  keepsFrameAt.of rfl fun s => .ite (.next <| .after (modPair_changes _ _) <| .after (changeRole_changes _ _ _) .same) (.ite (.next <|
    .after (send_changes _ _) <| .after (becomeAlone_changes _ _) <| .after (ppdRaise_changes _ _) .same) (.next .same))

theorem peapodFrame_linkSpeedRetry : keepsFrameAt peapodFrame .linkSpeedRetry :=
  keepsFrameAt.of rfl fun s => .ite (.next <| .after (linkDetect_changes _) .same) (.next .same)

theorem peapodFrame_resyncPhaseDone (marked : Nat) (image : Option Image) : keepsFrameAt peapodFrame (.resyncPhaseDone marked image) :=
  keepsFrameAt.of rfl fun s => .ite (.next <| .after (resyncFollower_changes _ _ _) .same) (.ite (.next <|
    .after (resyncOwner_changes _ _) .same) (.next .same))

theorem peapodFrame_pairSynced : keepsFrameAt peapodFrame .pairSynced :=
  keepsFrameAt.of rfl fun s => .ite (.ite (.next <| .after (sup_changes _ _) <| .after (modPair_changes _ _) <|
    .after (changeRole_changes _ _ _) .same) (.next .same)) (.ite (.next <| .after (post_changes _ _ _ _ _ _) <| .after (ppdRaise_changes _ _) <|
    .after (modPair_changes _ _) .same) (.next .same))

theorem peapodFrame_pairTimeOffset (offset : ℤ) : keepsFrameAt peapodFrame (.pairTimeOffset offset) :=
  keepsFrameAt.of rfl fun s => .ite (.next <| .after (stepTime_changes _ _) <| .after (modPair_changes _ _) <| .after (noteDivergence_changes _) <|
    .after (modPair_changes _ _) .same) (.next <| .after (modPair_changes _ _) <| .after (noteDivergence_changes _) <|
    .after (modPair_changes _ _) .same)

theorem peapodFrame_handover (c : Ctx) (swap : Bool) : keepsFrameAt peapodFrame (.handover c swap) :=
  keepsFrameAt.of rfl fun s => .next <|
    command_changes _ _ _ _ _ _ _ (.ite (.after (refuse_changes _ _ _ _ _) .same) (.ite (.after (refuse_changes _ _ _ _ _) .same)
    (.after (accept_changes _ _ _ _ _ _ _) <| .after (startHandover_changes _ _ _) .same))) rfl

theorem peapodFrame_swapCancel (c : Ctx) : keepsFrameAt peapodFrame (.swapCancel c) :=
  keepsFrameAt.of rfl fun s => .next <|
    command_changes _ _ _ _ _ _ _ (.ite (.after (refuse_changes _ _ _ _ _) .same) (.after (await_changes _ _ _ _ _) <| .after (send_changes _ _) <|
    .after (modPair_changes _ _) <| .after (concludeAll_changes _ _ _ _ _) .same)) rfl

theorem peapodFrame_ownLineToggling : keepsFrameAt peapodFrame .ownLineToggling :=
  keepsFrameAt.of rfl fun s => .ite (.next <| .after (canFeedAll_changes _) <| .after (own_changes _ _) .same) (.next .same)

theorem peapodFrame_each (i : Instr) : keepsFrameAt peapodFrame i := by
  cases i
  case handoverBoundary => exact peapodFrame_handoverBoundary
  case roleDecision => exact peapodFrame_roleDecision _
  case trainPhaseDone => exact peapodFrame_trainPhaseDone _
  case trainFail => exact peapodFrame_trainFail
  case ident => exact peapodFrame_ident _
  case heartbeat => exact peapodFrame_heartbeat _
  case heartbeatSend => exact peapodFrame_heartbeatSend
  case heartbeatLost => exact peapodFrame_heartbeatLost
  case partnerLineReleased => exact peapodFrame_partnerLineReleased
  case ownLineFault => exact peapodFrame_ownLineFault
  case ownerLineFault => exact peapodFrame_ownerLineFault
  case line => exact peapodFrame_line _ _ _ _ _ _
  case hrec => exact peapodFrame_hrec _ _ _ _ _
  case irec => exact peapodFrame_irec _ _ _
  case commit => exact peapodFrame_commit _ _
  case check => exact peapodFrame_check _ _ _
  case nak => exact peapodFrame_nak _ _
  case align => exact peapodFrame_align _ _ _
  case faultMessage => exact peapodFrame_faultMessage
  case handoverPrepare => exact peapodFrame_handoverPrepare _
  case handoverMessage => exact peapodFrame_handoverMessage
  case yield => exact peapodFrame_yield
  case roleMessage => exact peapodFrame_roleMessage _
  case laneRetired => exact peapodFrame_laneRetired _
  case laneSprouted => exact peapodFrame_laneSprouted _
  case ppdRetrainRetired => exact peapodFrame_ppdRetrainRetired _
  case orphanRetrain => exact peapodFrame_orphanRetrain
  case claim => exact peapodFrame_claim _
  case goOffline => exact peapodFrame_goOffline _
  case pendingLogFull => exact peapodFrame_pendingLogFull
  case linkSpeedRetry => exact peapodFrame_linkSpeedRetry
  case resyncPhaseDone => exact peapodFrame_resyncPhaseDone _ _
  case pairSynced => exact peapodFrame_pairSynced
  case pairTimeOffset => exact peapodFrame_pairTimeOffset _
  case handover => exact peapodFrame_handover _ _
  case swapCancel => exact peapodFrame_swapCancel _
  case ownLineToggling => exact peapodFrame_ownLineToggling
  all_goals exact .unnamed rfl

/-- Settles O6: each command by its own operations, whose frames compose. -/
theorem walnutAndPairFrame : Obligations.WalnutAndPairFrame := ⟨.of_each walnutFrame_each, .of_each peapodFrame_each⟩

end Sys2Proof
end

section
/-! PROOFS. The frames of the commands of the memories and of command packets, each read off its operations (O7). -/
namespace Sys2Proof
open Sys2Proof.Machine

set_option Elab.async false

theorem memoryFrame_sproutStart : keepsFrameAt memoryFrame .sproutStart :=
  keepsFrameAt.of rfl fun s => by
    show answersIn _ s (execSproutStart s)
    unfold execSproutStart
    dsimp only
    split
    · exact .next .same
    · split
      · exact .next .same
      · exact .next <| .after (refresh_changes _ _) <| .after (modFe_changes _ _ _) <| .after (spr_changes _ _) .same

theorem memoryFrame_memoryRead (word : Fin 3670016) (u : MemUpset) : keepsFrameAt memoryFrame (.memoryRead word u) :=
  keepsFrameAt.of rfl fun s => .next <| .after (answered_changes _ _) <| .after (readWord16_changes _ _ _ _) .same

theorem memoryFrame_memoryWrite (addr : Nat) (data : List Byte) (u : MemUpset) : keepsFrameAt memoryFrame (.memoryWrite addr data u) :=
  keepsFrameAt.of rfl fun s => .ite (.next .same) (.next <|
    .foldl (fun _ _ => .after (writeWord16_changes _ _ _ _ _) .same) _ (.after (answered_changes _ _) .same))

theorem memoryFrame_scrubStep (region : Fin 4) (u : MemUpset) : keepsFrameAt memoryFrame (.scrubStep region u) :=
  keepsFrameAt.of rfl fun s => .next <| .after (mem_changes _ _) <| .after (readWord16_changes _ _ _ _) <| .after (renewAccel_changes _ _) .same

theorem memoryFrame_imageScrubLap : keepsFrameAt memoryFrame .imageScrubLap :=
  keepsFrameAt.of rfl fun s => .next <| .after (mem_changes _ _) <|
    .ite (.ite .same (.after (lapAlarm_changes _) .same)) (.after (mem_changes _ _) .same)

theorem memoryFrame_scrubLapAlarm : keepsFrameAt memoryFrame .scrubLapAlarm :=
  keepsFrameAt.of rfl fun s => .ite (.next .same) (.next <| .after (lapAlarm_changes _) .same)

theorem memoryFrame_accelPassDone (region : Fin 4) : keepsFrameAt memoryFrame (.accelPassDone region) :=
  keepsFrameAt.of rfl fun s => .ite (.next <| .after (endClaim_changes _ _) <| .after (setRegion_changes _ _ _) .same) (.next .same)

theorem memoryFrame_laneCopyStep (region : Fin 4) (u : MemUpset) : keepsFrameAt memoryFrame (.laneCopyStep region u) :=
  keepsFrameAt.of rfl fun s => by
    show answersIn _ s (execLaneCopyStep region u s)
    unfold execLaneCopyStep
    split
    · exact .next .same
    · refine .ite (.next .same) ?_
      dsimp only
      have hread := readWord16_changes s (regionBase region.val + ‹Nat›) u .copy
      split
      · next h =>
        rw [h] at hread
        exact .next <| .after hread .same
      · next h =>
        rw [h] at hread
        exact .next <| .after (setRegion_changes _ _ _) <| .after (setMemWord_changes _ _ _) <| .after hread .same

theorem memoryFrame_laneCopyDone (region : Fin 4) : keepsFrameAt memoryFrame (.laneCopyDone region) :=
  keepsFrameAt.of rfl fun s => .ite (.next <| .after (startAccel_changes _ _) <| .after (startCopies_changes _) <|
    .after (resumeWrites_changes _) <| .after (post_changes _ _ _ _ _ _) <| .after (sprouted_changes _) <| .after (memRaise_changes _ _) <|
    .after (setRegion_changes _ _ _) .same) (.next .same)

theorem memoryFrame_hourCountTick : keepsFrameAt memoryFrame .hourCountTick :=
  keepsFrameAt.of rfl fun s => .next <| .after (mem_changes _ _) .same

theorem memoryFrame_mramWrite (use : MramUse) (addr : Nat) (data : List Byte)
  (verifies : Bool) : keepsFrameAt memoryFrame (.mramWrite use addr data verifies) :=
  keepsFrameAt.of rfl fun s => .next <| .after (mramWrite_changes _ _) .same

theorem memoryFrame_mramRemap : keepsFrameAt memoryFrame .mramRemap :=
  keepsFrameAt.of rfl fun s => by
    show answersIn _ s (execMramRemap s)
    unfold execMramRemap
    dsimp only
    split
    · exact .next .same
    · exact .ite (.next .same) (.ite (.next <| .after (resumeWrites_changes _) <| .after (mramFailed_changes _ _) <|
      .after (mem_changes _ _) .same) (.next <| .after (startCopies_changes _) <| .after (resumeWrites_changes _) <|
      .ite (.after (post_changes _ _ _ _ _ _) <| .after (memRaise_changes _ _) <| .after (post_changes _ _ _ _ _ _) <|
      .after (memRaise_changes _ _) <| .after (sprouted_changes _) <| .after (endClaim_changes _ _) <| .after (endClaim_changes _ _) <|
      .after (mramPut_changes _ _ _) <| .after (mem_changes _ _) <|
      .foldl (fun _ _ => .after (copyMramWord_changes _ _ _ _) .same) _ .same) (.after (post_changes _ _ _ _ _ _) <|
      .after (memRaise_changes _ _) <| .after (sprouted_changes _) <| .after (endClaim_changes _ _) <| .after (endClaim_changes _ _) <|
      .after (mramPut_changes _ _ _) <| .after (mem_changes _ _) <| .foldl (fun _ _ => .after (copyMramWord_changes _ _ _ _) .same) _ .same)))

theorem memoryFrame_coreSelftest (pair : CorePair) (pass : Bool) : keepsFrameAt memoryFrame (.coreSelftest pair pass) :=
  keepsFrameAt.of rfl fun s => .ite (.next .same) (.ite (.next <| .after (spr_changes _ _) <| .after (coreFailed_changes _ _) .same) (.ite (.next <|
    .after (noCoreSpare_changes _ _) <| .after (coreFailed_changes _ _) .same) (.ite (.next <| .after (startHandover_changes _ _ _) <|
    .after (coreFailed_changes _ _) .same) (.ite (.next <| .after (startCoreSwap_changes _) <| .after (coreFailed_changes _ _) .same) (.next <|
    .after (sprRaise_changes _ _) <| .after (coreFailed_changes _ _) .same)))))

theorem memoryFrame_coreSwapDone : keepsFrameAt memoryFrame .coreSwapDone :=
  keepsFrameAt.of rfl fun s => by
    show answersIn _ s (execCoreSwapDone s)
    unfold execCoreSwapDone
    dsimp only
    split
    · exact .next .same
    · split
      · exact .next .same
      · split
        · exact .ite (.next <| .after (send_changes _ _) <| .after (changeRole_changes _ _ _) <| .after (noCoreSpare_changes _ _) <|
          .after (spr_changes _ _) <| .after (huskRelease_changes _ _) <| .after (mapCore_changes _ _) .same) (.next <|
          .after (noCoreSpare_changes _ _) <| .after (spr_changes _ _) <| .after (huskRelease_changes _ _) <| .after (mapCore_changes _ _) .same)
        · exact .ite (.next <| .after (send_changes _ _) <| .after (changeRole_changes _ _ _) <| .after (huskRelease_changes _ _) <|
          .after (mapCore_changes _ _) .same) (.next <| .after (huskRelease_changes _ _) <| .after (mapCore_changes _ _) .same)

theorem memoryFrame_coreSelfReset : keepsFrameAt memoryFrame .coreSelfReset :=
  keepsFrameAt.of rfl fun s => .next <| .ite (.after (doReset_changes _ _) .same) .same

theorem memoryFrame_oscCompare (diff : ℤ) : keepsFrameAt memoryFrame (.oscCompare diff) :=
  keepsFrameAt.of rfl fun s => .next <| .after (spr_changes _ _) .same

theorem memoryFrame_oscSprouted (errA : ℤ) (errB : ℤ) : keepsFrameAt memoryFrame (.oscSprouted errA errB) :=
  keepsFrameAt.of rfl fun s => .ite (.next .same) (.ite (.next <| .after (exhausted_changes _ _) <| .after (spr_changes _ _) .same) (.ite (.next <|
    .after (moduleFault_changes _ _ _ _ _) <| .after (spr_changes _ _) .same) (.ite (.next <| .after (serveCells_changes _) <|
    .after (spr_changes _ _) .same) (.next <| .after (serveCells_changes _) <| .after (swapOsc_changes _ _ _) <| .after (spr_changes _ _) .same))))

theorem memoryFrame_cellTest (cell : Fin 6) (esr : Nat) (capacitance : Nat)
  (energy : Nat) : keepsFrameAt memoryFrame (.cellTest cell esr capacitance energy) :=
  keepsFrameAt.of rfl fun s => .ite (.next .same) (.ite (.next <| .after (spr_changes _ _) .same) (.next <| .after (serveCells_changes _) <|
    .after (spr_changes _ _) <| .after (spr_changes _ _) .same))

theorem memoryFrame_cellSprouted : keepsFrameAt memoryFrame .cellSprouted :=
  keepsFrameAt.of rfl fun s => by
    show answersIn _ s (execCellSprouted s)
    unfold execCellSprouted
    dsimp only
    split
    · exact .next .same
    · exact .next <| .after (serveCells_changes _) <| .after (post_changes _ _ _ _ _ _) <| .after (sprRaise_changes _ _) <|
      .after (sprouted_changes _) <| .after (spr_changes _ _) .same

theorem memoryFrame_chSprout (c : Ctx) (ch : BitVec 8) (spare : BitVec 8) : keepsFrameAt memoryFrame (.chSprout c ch spare) :=
  keepsFrameAt.of rfl fun s => by
    show answersIn _ s (execChSprout c ch spare s)
    unfold execChSprout
    dsimp only
    refine .next ?_
    refine command_changes _ _ _ _ _ _ _ ?_ rfl
    split
    · exact .after (refuse_changes _ _ _ _ _) .same
    · split
      · exact .after (refuse_changes _ _ _ _ _) .same
      · exact .ite (.after (refuse_changes _ _ _ _ _) .same) (.ite (.after (refuse_changes _ _ _ _ _) .same)
        (.after (accept_changes _ _ _ _ _ _ _) <| .after (queueSprout_changes _ _ _) .same))

theorem memoryFrame_memlogRead (c : Ctx) : keepsFrameAt memoryFrame (.memlogRead c) :=
  keepsFrameAt.of rfl fun s => .next <| command_changes _ _ _ _ _ _ _ (.after (ok_changes _ _ _ _) .same) rfl

theorem memoryFrame_memlogClear (c : Ctx) : keepsFrameAt memoryFrame (.memlogClear c) :=
  keepsFrameAt.of rfl fun s => .next <| command_changes _ _ _ _ _ _ _ (.after (ok_changes _ _ _ _) <| .after (mem_changes _ _) .same) rfl

theorem memoryFrame_each (i : Instr) : keepsFrameAt memoryFrame i := by
  cases i
  case sproutStart => exact memoryFrame_sproutStart
  case memoryRead => exact memoryFrame_memoryRead _ _
  case memoryWrite => exact memoryFrame_memoryWrite _ _ _
  case scrubStep => exact memoryFrame_scrubStep _ _
  case imageScrubLap => exact memoryFrame_imageScrubLap
  case scrubLapAlarm => exact memoryFrame_scrubLapAlarm
  case accelPassDone => exact memoryFrame_accelPassDone _
  case laneCopyStep => exact memoryFrame_laneCopyStep _ _
  case laneCopyDone => exact memoryFrame_laneCopyDone _
  case hourCountTick => exact memoryFrame_hourCountTick
  case mramWrite => exact memoryFrame_mramWrite _ _ _ _
  case mramRemap => exact memoryFrame_mramRemap
  case coreSelftest => exact memoryFrame_coreSelftest _ _
  case coreSwapDone => exact memoryFrame_coreSwapDone
  case coreSelfReset => exact memoryFrame_coreSelfReset
  case oscCompare => exact memoryFrame_oscCompare _
  case oscSprouted => exact memoryFrame_oscSprouted _ _
  case cellTest => exact memoryFrame_cellTest _ _ _ _
  case cellSprouted => exact memoryFrame_cellSprouted
  case chSprout => exact memoryFrame_chSprout _ _ _
  case memlogRead => exact memoryFrame_memlogRead _
  case memlogClear => exact memoryFrame_memlogClear _
  all_goals exact .unnamed rfl

theorem packetFrame_packetArrival (session : Fin 17) (packet : List Byte) : keepsFrameAt packetFrame (.packetArrival session packet) :=
  keepsFrameAt.of rfl fun s => by
    show answersIn _ s (execPacketArrival session packet s)
    unfold execPacketArrival
    dsimp only
    split
    · split
      · exact .next .same
      · split
        · exact .next <| .after (raise_changes _ _ _ _) .same
        · exact .next <| .after (takeFrame_changes _ _) .same
    · exact .ite (.next .same) (.ite (.next <| .after (closeSession_changes _ _) .same) (.ite (.next <|
      .after (refusePacket_changes _ _ _ _ _) .same) (.next <| .after (takePacket_changes _ _ _ _) .same)))

theorem packetFrame_commandDispatch : keepsFrameAt packetFrame .commandDispatch :=
  keepsFrameAt.of rfl fun s => by
    show answersIn _ s (execCommandDispatch s)
    unfold execCommandDispatch
    dsimp only
    split
    · exact .next .same
    · split
      · exact .next .same
      · split
        · split
          · exact .next <| .after (startQueue_changes _ _ _) <| .after (countUp_changes _ _ _) .same
          · exact .next .same
        · split
          · exact .next <| .after (startQueue_changes _ _ _) .same
          · exact .next .same

theorem packetFrame_sessionOpen (net : Fin 4) (der : List Byte) : keepsFrameAt packetFrame (.sessionOpen net der) :=
  keepsFrameAt.of rfl fun s => by
    show answersIn _ s (execSessionOpen net der s)
    unfold execSessionOpen
    dsimp only
    split
    · exact .next .same
    · split
      · exact .next <| .after (raise_changes _ _ _ _) .same
      · split
        · exact .next <| .after (truRaise_changes _ _) .same
        · exact .ite (.next <| .after (truRaise_changes _ _) .same) (.next <| .after (countUp_changes _ _ _) <| .after (cmd_changes _ _) <|
          .after (dateUnchecked_changes _) .same)

theorem packetFrame_sessionIdleTimeout (session : Fin 17) : keepsFrameAt packetFrame (.sessionIdleTimeout session) :=
  keepsFrameAt.of rfl fun s => .next <| .ite (.after (closeSession_changes _ _) .same) .same

theorem packetFrame_serviceBreak : keepsFrameAt packetFrame .serviceBreak :=
  keepsFrameAt.of rfl fun s => .next <| .after (closeSession_changes _ _) .same

theorem packetFrame_sessionClose (session : Fin 17) : keepsFrameAt packetFrame (.sessionClose session) :=
  keepsFrameAt.of rfl fun s => .next <| .after (closeSession_changes _ _) .same

theorem packetFrame_authLockoutEnd : keepsFrameAt packetFrame .authLockoutEnd :=
  keepsFrameAt.of rfl fun s => .next <| .ite (.after (cmd_changes _ _) .same) .same

theorem packetFrame_notifyLost (queue : Fin 32) : keepsFrameAt packetFrame (.notifyLost queue) :=
  keepsFrameAt.of rfl fun s => by
    show answersIn _ s (execNotifyLost queue s)
    unfold execNotifyLost
    dsimp only
    split
    · exact .next .same
    · exact .next <| .after (flagNotifyLost_changes _ _) <| .after (cmd_changes _ _) .same

theorem packetFrame_stateRead (c : Ctx) : keepsFrameAt packetFrame (.stateRead c) :=
  keepsFrameAt.of rfl fun s => .next <|
    command_changes _ _ _ _ _ _ _ (meets_changes _ _ _ _ _ (fun _ => meets_changes _ _ _ _ _ (fun _ => .after (ok_changes _ _ _ _) .same) rfl) rfl) rfl

theorem packetFrame_loadBegin (c : Ctx) (slot : BitVec 8) (len : BitVec 32) : keepsFrameAt packetFrame (.loadBegin c slot len) :=
  keepsFrameAt.of rfl fun s => .next <|
    command_changes _ _ _ _ _ _ _ (.ite (.after (refuse_changes _ _ _ _ _) .same) (.ite (.after (refuse_changes _ _ _ _ _) .same)
    (.ite (.after (refuse_changes _ _ _ _ _) .same) (.ite (.after (refuse_changes _ _ _ _ _) .same) (.after (ok_changes _ _ _ _) <|
    .after (exe_changes _ _) .same))))) rfl

theorem packetFrame_loadChunk (c : Ctx) (offset : BitVec 32) (data : List Byte) : keepsFrameAt packetFrame (.loadChunk c offset data) :=
  keepsFrameAt.of rfl fun s => by
    show answersIn _ s (execLoadChunk c offset data s)
    unfold execLoadChunk
    dsimp only
    refine .next ?_
    refine command_changes _ _ _ _ _ _ _ ?_ rfl
    split
    · exact .after (refuse_changes _ _ _ _ _) .same
    · exact .ite (.after (refuse_changes _ _ _ _ _) .same) (.ite (.after (refuse_changes _ _ _ _ _) .same) (.after (ok_changes _ _ _ _) <|
      .after (exe_changes _ _) .same))

theorem packetFrame_loadCommit (c : Ctx) : keepsFrameAt packetFrame (.loadCommit c) :=
  keepsFrameAt.of rfl fun s => by
    show answersIn _ s (execLoadCommit c s)
    unfold execLoadCommit
    dsimp only
    refine .next ?_
    refine command_changes _ _ _ _ _ _ _ ?_ rfl
    split
    · exact .after (refuse_changes _ _ _ _ _) .same
    · exact .ite (.after (refuse_changes _ _ _ _ _) .same) (.after (accept_changes _ _ _ _ _ _ _) <| .after (exe_changes _ _) .same)

theorem packetFrame_verify (c : Ctx) (slot : BitVec 8) : keepsFrameAt packetFrame (.verify c slot) :=
  keepsFrameAt.of rfl fun s => by
    show answersIn _ s (execVerify c slot s)
    unfold execVerify
    refine .next ?_
    refine command_changes _ _ _ _ _ _ _ ?_ rfl
    split
    · exact .after (refuse_changes _ _ _ _ _) .same
    · split
      · exact .after (ok_changes _ _ _ _) .same
      · exact .after (ok_changes _ _ _ _) .same

theorem packetFrame_loadAbort (c : Ctx) : keepsFrameAt packetFrame (.loadAbort c) :=
  keepsFrameAt.of rfl fun s => by
    show answersIn _ s (execLoadAbort c s)
    unfold execLoadAbort
    dsimp only
    refine .next ?_
    refine command_changes _ _ _ _ _ _ _ ?_ rfl
    split
    · exact .after (refuse_changes _ _ _ _ _) .same
    · exact .after (ok_changes _ _ _ _) <| .after (exe_changes _ _) .same

theorem packetFrame_varRead (c : Ctx) (items : List (BitVec 64 × BitVec 32 × BitVec 16)) : keepsFrameAt packetFrame (.varRead c items) :=
  keepsFrameAt.of rfl fun s => by
    show answersIn _ s (execVarRead c items s)
    unfold execVarRead
    dsimp only
    refine .next ?_
    refine command_changes _ _ _ _ _ _ _ ?_ rfl
    split
    · exact .after (refuse_changes _ _ _ _ _) .same
    · split
      · exact .after (refuse_changes _ _ _ _ _) .same
      · split
        · exact .after (refuse_changes _ _ _ _ _) .same
        · exact .after (ok_changes _ _ _ _) .same

theorem packetFrame_varWrite (c : Ctx) (identity : BitVec 64) (offset : BitVec 32)
  (data : List Byte) : keepsFrameAt packetFrame (.varWrite c identity offset data) :=
  keepsFrameAt.of rfl fun s => by
    show answersIn _ s (execVarWrite c identity offset data s)
    unfold execVarWrite
    dsimp only
    refine .next ?_
    refine command_changes _ _ _ _ _ _ _ ?_ rfl
    split
    · exact .after (refuse_changes _ _ _ _ _) .same
    · exact .ite (.after (refuse_changes _ _ _ _ _) .same) (.after (ok_changes _ _ _ _) <| .after (exe_changes _ _) .same)

theorem packetFrame_forceList (c : Ctx) (first : BitVec 16) (count : BitVec 16) : keepsFrameAt packetFrame (.forceList c first count) :=
  keepsFrameAt.of rfl fun s => .next <|
    command_changes _ _ _ _ _ _ _ (.ite (.after (refuse_changes _ _ _ _ _) .same) (.after (ok_changes _ _ _ _) .same)) rfl

theorem packetFrame_regRead (c : Ctx) (addr : BitVec 32) (count : BitVec 16) (same : Bool) : keepsFrameAt packetFrame (.regRead c addr count same) :=
  keepsFrameAt.of rfl fun s => .next <| command_changes _ _ _ _ _ _ _ (.ite (.after (refuse_changes _ _ _ _ _) .same) <|
    .ite (.after (refuse_changes _ _ _ _ _) .same) <| by
      have hread : changesOnly [.unit .free, .unit .fch, .unit .grd, .unit .net, .flag Reg.fchFlags 1, .anyReg] s
          ((addresses addr.toNat same count.toNat).foldl readOne { s := s }).s := .foldl_by readOne_changes _ .same
      dsimp only
      split
      · exact .after (refuse_changes _ _ _ _ _) <| .after hread .same
      · exact .after (ok_changes _ _ _ _) <| .after hread .same) rfl

theorem packetFrame_snapshot (c : Ctx) (window : BitVec 8) : keepsFrameAt packetFrame (.snapshot c window) :=
  keepsFrameAt.of rfl fun s => .next <| command_changes _ _ _ _ _ _ _ (by
    split
    · exact .after (refuse_changes _ _ _ _ _) .same
    · exact .ite (.after (refuse_changes _ _ _ _ _) .same) <| .after (ok_changes _ _ _ _) <|
        .after (takeSnapshot_changes _ _) .same (by simp [within, takesIn, Area.covers])) rfl

theorem packetFrame_chRead (c : Ctx) (first : BitVec 8) (count : BitVec 8) : keepsFrameAt packetFrame (.chRead c first count) :=
  keepsFrameAt.of rfl fun s => .next <|
    command_changes _ _ _ _ _ _ _ (.ite (.after (refuse_changes _ _ _ _ _) .same) (.ite (.after (refuse_changes _ _ _ _ _) .same)
    (.after (ok_changes _ _ _ _) .same))) rfl

theorem packetFrame_grpRead (c : Ctx) (g : BitVec 8) : keepsFrameAt packetFrame (.grpRead c g) :=
  keepsFrameAt.of rfl fun s => .next <|
    command_changes _ _ _ _ _ _ _ (.ite (.after (refuse_changes _ _ _ _ _) .same)
    (meets_changes _ _ _ _ _ (fun _ => .after (ok_changes _ _ _ _) .same) rfl)) rfl

theorem packetFrame_loopRead (c : Ctx) (first : BitVec 16) (count : BitVec 16) : keepsFrameAt packetFrame (.loopRead c first count) :=
  keepsFrameAt.of rfl fun s => .next <|
    command_changes _ _ _ _ _ _ _ (.ite (.after (refuse_changes _ _ _ _ _) .same) (.ite (.after (refuse_changes _ _ _ _ _) .same)
    (.after (ok_changes _ _ _ _) .same))) rfl

theorem packetFrame_gmuSubscribe (c : Ctx) (every : BitVec 16) : keepsFrameAt packetFrame (.gmuSubscribe c every) :=
  keepsFrameAt.of rfl fun s => .next <| command_changes _ _ _ _ _ _ _ (.ite (.after (ok_changes _ _ _ _) <|
    .after (endSubs_changes _ _) .same) (.ite (.after (refuse_changes _ _ _ _ _) .same) (.after (subscribe_changes _ _ _ _) .same))) rfl

theorem packetFrame_harmRead (c : Ctx) (input : BitVec 8) : keepsFrameAt packetFrame (.harmRead c input) :=
  keepsFrameAt.of rfl fun s => .next <|
    command_changes _ _ _ _ _ _ _ (.ite (.after (refuse_changes _ _ _ _ _) .same) (.after (ok_changes _ _ _ _) .same)) rfl

theorem packetFrame_gridEvents (c : Ctx) : keepsFrameAt packetFrame (.gridEvents c) :=
  keepsFrameAt.of rfl fun s => .next <| command_changes _ _ _ _ _ _ _ (.after (ok_changes _ _ _ _) .same) rfl

theorem packetFrame_safeRead (c : Ctx) (area : BitVec 8) : keepsFrameAt packetFrame (.safeRead c area) :=
  keepsFrameAt.of rfl fun s => by
    show answersIn _ s (execSafeRead c area s)
    unfold execSafeRead
    dsimp only
    refine .next ?_
    refine command_changes _ _ _ _ _ _ _ ?_ rfl
    split
    · exact .after (ok_changes _ _ _ _) .same
    · exact .after (ok_changes _ _ _ _) .same
    · exact .after (ok_changes _ _ _ _) .same
    · exact .after (ok_changes _ _ _ _) .same
    · exact .after (refuse_changes _ _ _ _ _) .same

theorem packetFrame_panelStatus (c : Ctx) : keepsFrameAt packetFrame (.panelStatus c) :=
  keepsFrameAt.of rfl fun s => .next <| command_changes _ _ _ _ _ _ _ (.after (ok_changes _ _ _ _) .same) rfl

theorem packetFrame_authChallenge (c : Ctx) (nonce : BitVec 384) : keepsFrameAt packetFrame (.authChallenge c nonce) :=
  keepsFrameAt.of rfl fun s => .next <|
    command_changes _ _ _ _ _ _ _ (.ite (.after (refuse_changes _ _ _ _ _) .same) (.after (ok_changes _ _ _ _) <| .after (cmd_changes _ _) .same)) rfl

theorem packetFrame_authResponse (c : Ctx) (slot : BitVec 8) (valid : Bool) : keepsFrameAt packetFrame (.authResponse c slot valid) :=
  keepsFrameAt.of rfl fun s => .next <| command_changes _ _ _ _ _ _ _ (.after (credentialOp_changes _ _ _) .same) rfl

theorem packetFrame_timeRead (c : Ctx) : keepsFrameAt packetFrame (.timeRead c) :=
  keepsFrameAt.of rfl fun s => .next <| command_changes _ _ _ _ _ _ _ (.after (ok_changes _ _ _ _) .same) rfl

theorem packetFrame_canStatus (c : Ctx) (port : BitVec 8) : keepsFrameAt packetFrame (.canStatus c port) :=
  keepsFrameAt.of rfl fun s => .next <|
    command_changes _ _ _ _ _ _ _ (.ite (.after (refuse_changes _ _ _ _ _) .same) (.after (ok_changes _ _ _ _) .same)) rfl

theorem packetFrame_echo (c : Ctx) (data : List Byte) : keepsFrameAt packetFrame (.echo c data) :=
  keepsFrameAt.of rfl fun s => .next <|
    command_changes _ _ _ _ _ _ _ (.ite (.after (refuse_changes _ _ _ _ _) .same) (.after (ok_changes _ _ _ _) .same)) rfl

theorem packetFrame_sproutRead (c : Ctx) : keepsFrameAt packetFrame (.sproutRead c) :=
  keepsFrameAt.of rfl fun s => .next <| command_changes _ _ _ _ _ _ _ (meets_changes _ _ _ _ _ (fun _ => .after (ok_changes _ _ _ _) .same) rfl) rfl

theorem packetFrame_sessions (c : Ctx) : keepsFrameAt packetFrame (.sessions c) :=
  keepsFrameAt.of rfl fun s => .next <| command_changes _ _ _ _ _ _ _ (.after (ok_changes _ _ _ _) .same) rfl

theorem packetFrame_stagedApply (i : StagedIsland) : keepsFrameAt packetFrame (.stagedApply i) :=
  keepsFrameAt.of rfl fun s => .next <| .after (stagedApply_changes _ _) .same

theorem packetFrame_lockKeyTimeout : keepsFrameAt packetFrame .lockKeyTimeout :=
  keepsFrameAt.of rfl fun s => .next <| .ite (.after (keyFail_changes _ _) .same) .same

theorem packetFrame_each (i : Instr) : keepsFrameAt packetFrame i := by
  cases i
  case packetArrival => exact packetFrame_packetArrival _ _
  case commandDispatch => exact packetFrame_commandDispatch
  case sessionOpen => exact packetFrame_sessionOpen _ _
  case sessionIdleTimeout => exact packetFrame_sessionIdleTimeout _
  case serviceBreak => exact packetFrame_serviceBreak
  case sessionClose => exact packetFrame_sessionClose _
  case authLockoutEnd => exact packetFrame_authLockoutEnd
  case notifyLost => exact packetFrame_notifyLost _
  case stateRead => exact packetFrame_stateRead _
  case loadBegin => exact packetFrame_loadBegin _ _ _
  case loadChunk => exact packetFrame_loadChunk _ _ _
  case loadCommit => exact packetFrame_loadCommit _
  case verify => exact packetFrame_verify _ _
  case loadAbort => exact packetFrame_loadAbort _
  case varRead => exact packetFrame_varRead _ _
  case varWrite => exact packetFrame_varWrite _ _ _ _
  case forceList => exact packetFrame_forceList _ _ _
  case regRead => exact packetFrame_regRead _ _ _ _
  case snapshot => exact packetFrame_snapshot _ _
  case chRead => exact packetFrame_chRead _ _ _
  case grpRead => exact packetFrame_grpRead _ _
  case loopRead => exact packetFrame_loopRead _ _ _
  case gmuSubscribe => exact packetFrame_gmuSubscribe _ _
  case harmRead => exact packetFrame_harmRead _ _
  case gridEvents => exact packetFrame_gridEvents _
  case safeRead => exact packetFrame_safeRead _ _
  case panelStatus => exact packetFrame_panelStatus _
  case authChallenge => exact packetFrame_authChallenge _ _
  case authResponse => exact packetFrame_authResponse _ _ _
  case timeRead => exact packetFrame_timeRead _
  case canStatus => exact packetFrame_canStatus _ _
  case echo => exact packetFrame_echo _ _
  case sproutRead => exact packetFrame_sproutRead _
  case sessions => exact packetFrame_sessions _
  case stagedApply => exact packetFrame_stagedApply _
  case lockKeyTimeout => exact packetFrame_lockKeyTimeout
  all_goals exact .unnamed rfl

/-- Settles O7: each command by its own operations, whose frames compose. -/
theorem memoryAndPacketFrame : Obligations.MemoryAndPacketFrame := ⟨.of_each memoryFrame_each, .of_each packetFrame_each⟩

end Sys2Proof
end

section
/-! PROOFS. The frames of the commands of the plant network, the CAN ports, Seedbank, the panel and the trust element, each read off its operations (O8). -/
namespace Sys2Proof
open Sys2Proof.Machine

set_option Elab.async false

theorem networkFrame_timeMessage (step : ℤ) (instant : Nat) : keepsFrameAt networkFrame (.timeMessage step instant) :=
  keepsFrameAt.of rfl fun s => .ite (.next .same) (.next <| .after (net_changes _ _) .same)

theorem networkFrame_timeAcceptJump (c : Ctx) : keepsFrameAt networkFrame (.timeAcceptJump c) :=
  keepsFrameAt.of rfl fun s => .next <| command_changes _ _ _ _ _ _ _ (.ite (.after (await_changes _ _ _ _ _) <|
    .after (net_changes _ _) .same) (.after (refuse_changes _ _ _ _ _) .same)) rfl

theorem networkFrame_timeNsecRead : keepsFrameAt networkFrame .timeNsecRead :=
  keepsFrameAt.of rfl fun s => .next <| .after (readWord_changes _ _) .same

theorem networkFrame_linkChange (port : Fin 4) (l : LinkReport) : keepsFrameAt networkFrame (.linkChange port l) :=
  keepsFrameAt.of rfl fun s => .ite (.next .same) (.ite (.next <| .ite (.after (netRaise_changes _ _) <|
    .after (portDown_changes _ _) .same) .same) (.ite (.next <| .after (netRaise_changes _ _) <| .after (modNet_changes _ _ _) <|
    .after (modNet_changes _ _ _) .same) (.next <| .after (post_changes _ _ _ _ _ _) <| .after (netRaise_changes _ _) <|
    .after (portDown_changes _ _) .same)))

theorem networkFrame_frameReceive (port : Fin 4) (f : EthFrame) : keepsFrameAt networkFrame (.frameReceive port f) :=
  keepsFrameAt.of rfl fun s => .ite (.next .same) (.ite (.next <| .after (netRaise_changes _ _) <| .after (countUp_changes _ _ _) <|
    .after (seenFrame_changes _ _) .same) (.ite (.ite (.next <| .ite (.after (modNet_changes _ _ _) <|
    .after (seenFrame_changes _ _) .same) (.after (seenFrame_changes _ _) .same)) (.next <| .after (deliver_changes _ _ _) <|
    .after (notePrp_changes _ _) <| .ite (.after (modNet_changes _ _ _) <|
    .after (seenFrame_changes _ _) .same) (.after (seenFrame_changes _ _) .same))) (.next <| .after (deliver_changes _ _ _) <|
    .ite (.after (modNet_changes _ _ _) <| .after (seenFrame_changes _ _) .same) (.after (seenFrame_changes _ _) .same))))

theorem networkFrame_prpSupervisionSend : keepsFrameAt networkFrame .prpSupervisionSend :=
  keepsFrameAt.of rfl fun s => .next <| .after (sendOn_changes _ _ _) .same

theorem networkFrame_prpLanFail (lanB : Bool) : keepsFrameAt networkFrame (.prpLanFail lanB) :=
  keepsFrameAt.of rfl fun s => .ite (.next <| .after (lanFails_changes _ _) .same) (.next .same)

theorem networkFrame_prpLanOk (lanB : Bool) : keepsFrameAt networkFrame (.prpLanOk lanB) :=
  keepsFrameAt.of rfl fun s => by
    show answersIn _ s (execPrpLanOk lanB s)
    unfold execPrpLanOk
    dsimp only
    split
    · exact .ite (.next <| .after (post_changes _ _ _ _ _ _) <| .after (setLan_changes _ _ _) .same) (.next .same)
    · exact .next .same

theorem networkFrame_beaconSend (signature : List Byte) : keepsFrameAt networkFrame (.beaconSend signature) :=
  keepsFrameAt.of rfl fun s => .ite (.next .same) (.next <| .after (countUp_changes _ _ _) <| .after (sendOn_changes _ _ _) <|
    .after (net_changes _ _) .same)

theorem networkFrame_beaconReceive (b : Beacon) : keepsFrameAt networkFrame (.beaconReceive b) :=
  keepsFrameAt.of rfl fun s => .ite (.next <| .after (net_changes _ _) .same) (.ite (.next <| .after (rejectBeacon_changes _) .same) (.next <|
    .after (judgeBeacon_changes _ _) <| .foldl (fun _ _ => .after (judgeBeacon_changes _ _) .same) _ (.after (net_changes _ _) .same)))

theorem networkFrame_beaconHoldExpiry (serial : Nat) : keepsFrameAt networkFrame (.beaconHoldExpiry serial) :=
  keepsFrameAt.of rfl fun s => .next <| .foldl (fun _ _ => .after (rejectBeacon_changes _) .same) _ (.after (net_changes _ _) .same)

theorem networkFrame_discoveryRecordExpiry (serial : Nat) : keepsFrameAt networkFrame (.discoveryRecordExpiry serial) :=
  keepsFrameAt.of rfl fun s => .next <| .foldl (fun _ _ => .ite .same (.after (setStation_changes _ _ _) .same)) _ .same

theorem networkFrame_ptpMessage (port : Fin 4) (m : PtpMessage) : keepsFrameAt networkFrame (.ptpMessage port m) :=
  keepsFrameAt.of rfl fun s => .ite (.next <| .after (takePtp_changes _ _ _) .same) (.next .same)

theorem networkFrame_ptpMessageSend (port : Fin 4) (k : PtpSend) (sent : ℤ) : keepsFrameAt networkFrame (.ptpMessageSend port k sent) :=
  keepsFrameAt.of rfl fun s => by
    show answersIn _ s (execPtpMessageSend port k sent s)
    unfold execPtpMessageSend
    dsimp only
    split
    · exact .next .same
    · split
      · exact .ite (.next .same) (.next <| .after (sendPtp_changes _ _ _) <| .after (setNetPort_changes _ _ _) .same)
      · exact .ite (.next <| .after (sendPtp_changes _ _ _) <| .after (sendPtp_changes _ _ _) .same) (.next .same)
      · exact .ite (.next <| .after (sendPtp_changes _ _ _) .same) (.next .same)

theorem networkFrame_announceTimeout (port : Fin 4) : keepsFrameAt networkFrame (.announceTimeout port) :=
  keepsFrameAt.of rfl fun s => by
    show answersIn _ s (execAnnounceTimeout port s)
    unfold execAnnounceTimeout
    dsimp only
    split
    · exact .next .same
    · exact .ite (.next <| .after (modNet_changes _ _ _) <| .after (slaveLost_changes _ _ _) <| .after (setNetPort_changes _ _ _) .same) (.next .same)

theorem networkFrame_servoUpdate : keepsFrameAt networkFrame .servoUpdate :=
  keepsFrameAt.of rfl fun s => .next <| .foldl (fun _ _ => .after (flushPort_changes _ _) .same) _ (.after (servoSelected_changes _) <|
    .after (selectSlave_changes _) .same)

theorem networkFrame_timeStepApply : keepsFrameAt networkFrame .timeStepApply :=
  keepsFrameAt.of rfl fun s => by
    show answersIn _ s (execTimeStepApply s)
    unfold execTimeStepApply
    split
    · exact .ite (.next <| .after (stepTime_changes _ _) .same) (.next .same)
    · exact .next .same

theorem networkFrame_holdoverExpiry : keepsFrameAt networkFrame .holdoverExpiry :=
  keepsFrameAt.of rfl fun s => .ite (.next <| .after (net_changes _ _) .same) (.next .same)

theorem networkFrame_timeSave : keepsFrameAt networkFrame .timeSave :=
  keepsFrameAt.of rfl fun s => .next <| .after (askWrite_changes _ _ _ _) .same

theorem networkFrame_ttLaunch (port : Fin 4) (entry : Fin 256) (delay : Nat)
  (source : List Byte) : keepsFrameAt networkFrame (.ttLaunch port entry delay source) :=
  keepsFrameAt.of rfl fun s => .ite (.next .same) (.ite (.next <| .after (lateLaunch_changes _ _ _) <|
    .after (served_changes _ _ _) .same) (.next <|
    .foldl (fun _ _ => .after (flushPort_changes _ _) .same) _ (.after (serveEntry_changes _ _ _ _ _) <|
    .foldl (fun _ _ => .after (serveEntry_changes _ _ _ _ _) .same) _ .same)))

theorem networkFrame_each (i : Instr) : keepsFrameAt networkFrame i := by
  cases i
  case timeMessage => exact networkFrame_timeMessage _ _
  case timeAcceptJump => exact networkFrame_timeAcceptJump _
  case timeNsecRead => exact networkFrame_timeNsecRead
  case linkChange => exact networkFrame_linkChange _ _
  case frameReceive => exact networkFrame_frameReceive _ _
  case prpSupervisionSend => exact networkFrame_prpSupervisionSend
  case prpLanFail => exact networkFrame_prpLanFail _
  case prpLanOk => exact networkFrame_prpLanOk _
  case beaconSend => exact networkFrame_beaconSend _
  case beaconReceive => exact networkFrame_beaconReceive _
  case beaconHoldExpiry => exact networkFrame_beaconHoldExpiry _
  case discoveryRecordExpiry => exact networkFrame_discoveryRecordExpiry _
  case ptpMessage => exact networkFrame_ptpMessage _ _
  case ptpMessageSend => exact networkFrame_ptpMessageSend _ _ _
  case announceTimeout => exact networkFrame_announceTimeout _
  case servoUpdate => exact networkFrame_servoUpdate
  case timeStepApply => exact networkFrame_timeStepApply
  case holdoverExpiry => exact networkFrame_holdoverExpiry
  case timeSave => exact networkFrame_timeSave
  case ttLaunch => exact networkFrame_ttLaunch _ _ _ _
  all_goals exact .unnamed rfl

theorem portFrame_sbkRead (c : Ctx) (first : BitVec 32) (count : BitVec 16) : keepsFrameAt portFrame (.sbkRead c first count) :=
  keepsFrameAt.of rfl fun s => .next <|
    command_changes _ _ _ _ _ _ _ (.ite (.after (refuse_changes _ _ _ _ _) .same) (.after (ok_changes _ _ _ _) .same)) rfl

theorem portFrame_sbkSnapshot (c : Ctx) : keepsFrameAt portFrame (.sbkSnapshot c) :=
  keepsFrameAt.of rfl fun s => .next <|
    command_changes _ _ _ _ _ _ _ (.ite (.after (refuse_changes _ _ _ _ _) .same) (.after (await_changes _ _ _ _ _) <|
    .after (startFlush_changes _) .same)) rfl

theorem portFrame_sbkRelease (c : Ctx) : keepsFrameAt portFrame (.sbkRelease c) :=
  keepsFrameAt.of rfl fun s => .next <|
    command_changes _ _ _ _ _ _ _ (.ite (.after (refuse_changes _ _ _ _ _) .same) (.after (ok_changes _ _ _ _) <| .after (sbk_changes _ _) .same)) rfl

theorem portFrame_sbkSubscribe (c : Ctx) (minSev : BitVec 8) : keepsFrameAt portFrame (.sbkSubscribe c minSev) :=
  keepsFrameAt.of rfl fun s => .next <| command_changes _ _ _ _ _ _ _ (.ite (.after (ok_changes _ _ _ _) <|
    .after (endSubs_changes _ _) .same) (.ite (.after (refuse_changes _ _ _ _ _) .same) (.after (subscribe_changes _ _ _ _) .same))) rfl

theorem portFrame_panelUpdate (c : Ctx) (x : BitVec 16) (y : BitVec 16) (w : BitVec 16) (h : BitVec 16) (flags : BitVec 8)
  (pixels : List Byte) : keepsFrameAt portFrame (.panelUpdate c x y w h flags pixels) :=
  keepsFrameAt.of rfl fun s => .next <|
    command_changes _ _ _ _ _ _ _ (.ite (.after (refuse_changes _ _ _ _ _) .same) (.ite (.after (refuse_changes _ _ _ _ _) .same)
    (.ite (.after (refuse_changes _ _ _ _ _) .same) (.ite (.after (refuse_changes _ _ _ _ _) .same) (.ite (.after (refuse_changes _ _ _ _ _) .same)
    (.after (drawCommand_changes _ _ _ _) .same)))))) rfl

theorem portFrame_panelScreen (c : Ctx) (screen : BitVec 16) : keepsFrameAt portFrame (.panelScreen c screen) :=
  keepsFrameAt.of rfl fun s => by
    show answersIn _ s (execPanelScreen c screen s)
    unfold execPanelScreen
    dsimp only
    refine .next ?_
    refine command_changes _ _ _ _ _ _ _ ?_ rfl
    split
    · exact .after (drawCommand_changes _ _ _ _) .same
    · split
      · exact .after (refuse_changes _ _ _ _ _) .same
      · exact .after (drawCommand_changes _ _ _ _) .same

theorem portFrame_certRead (c : Ctx) (which : BitVec 8) : keepsFrameAt portFrame (.certRead c which) :=
  keepsFrameAt.of rfl fun s => by
    show answersIn _ s (execCertRead c which s)
    unfold execCertRead
    refine .next ?_
    refine command_changes _ _ _ _ _ _ _ ?_ rfl
    split
    · exact .after (ok_changes _ _ _ _) .same
    · split
      · exact .after (refuse_changes _ _ _ _ _) .same
      · split
        · exact .after (ok_changes _ _ _ _) .same
        · exact .after (refuse_changes _ _ _ _ _) .same

theorem portFrame_csrMake (c : Ctx) (subject : SubjectFields) (request : List Byte) : keepsFrameAt portFrame (.csrMake c subject request) :=
  keepsFrameAt.of rfl fun s => .next <|
    command_changes _ _ _ _ _ _ _ (.ite (.after (refuse_changes _ _ _ _ _) .same) (.after (credentialOp_changes _ _ _) .same)) rfl

theorem portFrame_certInstall (c : Ctx) (slot : BitVec 8) (cert : Certificate) : keepsFrameAt portFrame (.certInstall c slot cert) :=
  keepsFrameAt.of rfl fun s => .next <| command_changes _ _ _ _ _ _ _ (.after (credentialOp_changes _ _ _) .same) rfl

theorem portFrame_certRemove (c : Ctx) (slot : BitVec 8) : keepsFrameAt portFrame (.certRemove c slot) :=
  keepsFrameAt.of rfl fun s => .next <| command_changes _ _ _ _ _ _ _ (.after (credentialOp_changes _ _ _) .same) rfl

theorem portFrame_credentialOpStart : keepsFrameAt portFrame .credentialOpStart :=
  keepsFrameAt.of rfl fun s => by
    show answersIn _ s (execCredentialOpStart s)
    unfold execCredentialOpStart
    split
    · exact .next <| .after (tru_changes _ _) .same
    · exact .next <| .after (closeReplaced_changes _ _) <| .after (concludeAll_changes _ _ _ _ _) <| .after (runOp_changes _ _) <|
        .after (tru_changes _ _) .same

theorem portFrame_commissionProofExpiry : keepsFrameAt portFrame .commissionProofExpiry :=
  keepsFrameAt.of rfl fun s => by
    show answersIn _ s (execCommissionProofExpiry s)
    unfold execCommissionProofExpiry
    dsimp only
    split
    · exact .next .same
    · exact .ite (.next .same) (.next <| .after (post_changes _ _ _ _ _ _) <| .after (setSlot_changes _ _ _) <| .after (tru_changes _ _) .same)

theorem portFrame_canRecover (c : Ctx) (port : BitVec 8) : keepsFrameAt portFrame (.canRecover c port) :=
  keepsFrameAt.of rfl fun s => .next <|
    command_changes _ _ _ _ _ _ _ (.ite (.after (refuse_changes _ _ _ _ _) .same) (.after (ok_changes _ _ _ _) <|
    .after (startRecovery_changes _ _) .same)) rfl

theorem portFrame_canSend (c : Ctx) (port : BitVec 8) (frame : CanFrame) : keepsFrameAt portFrame (.canSend c port frame) :=
  keepsFrameAt.of rfl fun s => .next <|
    command_changes _ _ _ _ _ _ _ (.ite (.after (refuse_changes _ _ _ _ _) .same) (.ite (.after (refuse_changes _ _ _ _ _) .same)
    (.ite (.after (refuse_changes _ _ _ _ _) .same) (.ite (.after (refuse_changes _ _ _ _ _) .same) (.after (queueEntry_changes _ _ _ _ _) <|
    .after (await_changes _ _ _ _ _) .same))))) rfl

theorem portFrame_canFrameRx (port : Fin 4) (frame : CanFrame) (sof : Nat) : keepsFrameAt portFrame (.canFrameRx port frame sof) :=
  keepsFrameAt.of rfl fun s => .ite (.next .same) (.ite (.next <| .after (canErrorSeen_changes _ _ _) .same) (.next <|
    .after (canFeed_changes _ _) <| .after (canReceive_changes _ _ _ _) .same))

theorem portFrame_canFrameTxEnd (port : Fin 4) (outcome : CanEnd) (sof : Nat)
  (loopDelay : Nat) : keepsFrameAt portFrame (.canFrameTxEnd port outcome sof loopDelay) :=
  keepsFrameAt.of rfl fun s => by
    show answersIn _ s (execCanFrameTxEnd port outcome sof loopDelay s)
    unfold execCanFrameTxEnd
    dsimp only
    split
    · exact .next .same
    · refine .next ?_
      refine .after (canFeed_changes _ _) ?_
      split
      · exact .after (canSent_changes _ _ _ _ _ _) .same
      · exact .after (canNoAck_changes _ _ _ _ _ _ _) .same
      · exact .after (canTxError_changes _ _ _ _ _ _) .same
      · exact .after (canLostArb_changes _ _ _ _) .same

theorem portFrame_canCyclicQueue (port : Fin 4) (obj : Fin 32) : keepsFrameAt portFrame (.canCyclicQueue port obj) :=
  keepsFrameAt.of rfl fun s => by
    show answersIn _ s (execCanCyclicQueue port obj s)
    unfold execCanCyclicQueue
    dsimp only
    split
    · exact .ite (.next <| .after (queueObject_changes _ _ _) .same) (.next .same)
    · exact .next .same

theorem portFrame_canRecovered (port : Fin 4) : keepsFrameAt portFrame (.canRecovered port) :=
  keepsFrameAt.of rfl fun s => .ite (.next <| .after (canFeed_changes _ _) <| .after (canPost_changes _ _ _) <| .after (canRaise_changes _ _ _) <|
    .after (modPort_changes _ _ _) .same) (.next .same)

theorem portFrame_canTxAbort (port : Fin 4) (r : Requester) : keepsFrameAt portFrame (.canTxAbort port r) :=
  keepsFrameAt.of rfl fun s => .next <| actionWrite_changes _ _ _ _ (fun _ => .after (canFeed_changes _ _) <|
    .after (abortBuffers_changes _ _) .same) rfl

theorem portFrame_canRxfPop (port : Fin 4) (r : Requester) : keepsFrameAt portFrame (.canRxfPop port r) :=
  keepsFrameAt.of rfl fun s => .next <| actionWrite_changes _ _ _ _ (fun _ => .after (fifoPop_changes _ _) .same) rfl

theorem portFrame_canCtrlRecover (port : Fin 4) (r : Requester) : keepsFrameAt portFrame (.canCtrlRecover port r) :=
  keepsFrameAt.of rfl fun s => .next <| actionWrite_changes _ _ _ _ (fun _ => .after (startRecovery_changes _ _) .same) rfl

theorem portFrame_canRefDue (port : Fin 4) : keepsFrameAt portFrame (.canRefDue port) :=
  keepsFrameAt.of rfl fun s => .ite (.next <| .after (canFeed_changes _ _) <| .after (setPort_changes _ _ _) .same) (.next .same)

theorem portFrame_canTimeMaster (port : Fin 4) : keepsFrameAt portFrame (.canTimeMaster port) :=
  keepsFrameAt.of rfl fun s => .ite (.next <| .after (canFeed_changes _ _) <| .after (becomeMaster_changes _ _) <|
    .after (modPort_changes _ _ _) .same) (.next .same)

theorem portFrame_canTimeLost (port : Fin 4) : keepsFrameAt portFrame (.canTimeLost port) :=
  keepsFrameAt.of rfl fun s => .ite (.next <| .after (canPost_changes _ _ _) <| .after (canRaise_changes _ _ _) <|
    .ite (.after (enterHoldover_changes _ _) <| .after (setPort_changes _ _ _) .same) (.after (setPort_changes _ _ _) .same)) (.next .same)

theorem portFrame_eventPost (e : Event) (inst : BitVec 12) (ended : Bool) (full : Bool) (subject : Word) (value1 : Word) (value2 : Word)
  (extra : BitVec 64) : keepsFrameAt portFrame (.eventPost e inst ended full subject value1 value2 extra) :=
  keepsFrameAt.of rfl fun s => .ite (.next <| .after (postDropped_changes _ _) .same) (.next <| .after (postFull_changes _ _ _ _ _ _ _ _ _) .same)

theorem portFrame_sbkFlush : keepsFrameAt portFrame .sbkFlush :=
  keepsFrameAt.of rfl fun s => .next <| .ite (.after (startFlush_changes _) .same) .same

theorem portFrame_sbkFlushDone (failed : List Nat) : keepsFrameAt portFrame (.sbkFlushDone failed) :=
  keepsFrameAt.of rfl fun s => .ite (.next <| .after (finishFlush_changes _ _) .same) (.next .same)

theorem portFrame_sbkRateSummary (e : Event) : keepsFrameAt portFrame (.sbkRateSummary e) :=
  keepsFrameAt.of rfl fun s => .ite (.next .same) (.next <| .after (post_changes _ _ _ _ _ _) <| .after (sbk_changes _ _) .same)

theorem portFrame_sbkSnapshotExpired : keepsFrameAt portFrame .sbkSnapshotExpired :=
  keepsFrameAt.of rfl fun s => by
    show answersIn _ s (execSbkSnapshotExpired s)
    unfold execSbkSnapshotExpired
    dsimp only
    split
    · exact .next .same
    · exact .ite (.next .same) (.next <| .after (post_changes _ _ _ _ _ _) <| .after (sbk_changes _ _) .same)

theorem portFrame_panelFrame : keepsFrameAt portFrame .panelFrame :=
  keepsFrameAt.of rfl fun s => .next <| .after (askPanel_changes _) <| .after (startReady_changes _) <| .after (queueTimestamp_changes _) <|
    .after (drawFaultScreen_changes _) <| .ite (.after (modPnl_changes _ _) <|
    .foldl (fun _ _ => .after (frameOne_changes _ _) .same) _ (.after (modPnl_changes _ _) .same))
    (.foldl (fun _ _ => .after (frameOne_changes _ _) .same) _ (.after (modPnl_changes _ _) .same))

theorem portFrame_panelTempMeasure (t : ℤ) : keepsFrameAt portFrame (.panelTempMeasure t) :=
  keepsFrameAt.of rfl fun s => .next <| .after (askPanel_changes _) <| .ite (.after (pnlRaise_changes _ _) <|
    .after (modPnl_changes _ _) .same) (.after (modPnl_changes _ _) .same)

theorem portFrame_crackMeasure (ohm : Nat) : keepsFrameAt portFrame (.crackMeasure ohm) :=
  keepsFrameAt.of rfl fun s => .ite (.next <| .foldl (fun _ _ => .after (endPanel_changes _ _ _ _) <|
    .after (cancelPanelClaim_changes _ _) .same) _ (.after (post_changes _ _ _ _ _ _) <| .after (pnlRaise_changes _ _) <|
    .after (modPnl_changes _ _) <| .after (modPnl_changes _ _) .same)) (.next <| .after (modPnl_changes _ _) .same)

theorem portFrame_panelRecordWritten (id : Nat) : keepsFrameAt portFrame (.panelRecordWritten id) :=
  keepsFrameAt.of rfl fun s => by
    show answersIn _ s (execPanelRecordWritten id s)
    unfold execPanelRecordWritten
    split
    · exact .next .same
    · exact .next <| .after (modPnl_changes _ _) <| .after (modPanelReq_changes _ _ _) .same

theorem portFrame_panelDischargeDone : keepsFrameAt portFrame .panelDischargeDone :=
  keepsFrameAt.of rfl fun s => .next <| .after (modPnl_changes _ _) .same

theorem portFrame_panelRedraw : keepsFrameAt portFrame .panelRedraw :=
  keepsFrameAt.of rfl fun s => by
    show answersIn _ s (execPanelRedraw s)
    unfold execPanelRedraw
    dsimp only
    split
    · exact .ite (.next .same) (.next <| .after (askLogic_changes _ _ _ _ _ _) <| .after (modPnl_changes _ _) .same)
    · exact .ite (.next <| .after (haltRedraw_changes _) .same) (.ite (.next .same) (.next <| .after (modPnl_changes _ _) .same))
    · exact .ite (.next <| .after (haltRedraw_changes _) .same) (.next <| .after (pnlRaise_changes _ _) <| .after (endClaim_changes _ _) <|
      .after (modPnl_changes _ _) .same)
    · exact .next .same

theorem portFrame_screen0Redraw (pixels : List Byte) : keepsFrameAt portFrame (.screen0Redraw pixels) :=
  keepsFrameAt.of rfl fun s => .ite (.next .same) (.next <| .after (queuePanel_changes _ _) <| .after (modPnl_changes _ _) .same)

theorem portFrame_arbAdvance : keepsFrameAt portFrame .arbAdvance :=
  keepsFrameAt.of rfl fun s => by
    show answersIn _ s (execArbAdvance s)
    unfold execArbAdvance
    dsimp only
    split
    · exact .next .same
    · exact .ite (.next <| .after (tru_changes _ _) .same) (.ite (.next <| .after (post_changes _ _ _ _ _ _) <| .after (truRaise_changes _ _) <|
      .after (tru_changes _ _) .same) (.next <| .after (tru_changes _ _) .same))

theorem portFrame_canErrorFrame (port : Fin 4) (k : BusError) : keepsFrameAt portFrame (.canErrorFrame port k) :=
  keepsFrameAt.of rfl fun s => .ite (.next .same) (.ite (.next <| .after (protocolException_changes _ _) .same) (.next <|
    .after (canErrorSeen_changes _ _ _) .same))

theorem portFrame_each (i : Instr) : keepsFrameAt portFrame i := by
  cases i
  case sbkRead => exact portFrame_sbkRead _ _ _
  case sbkSnapshot => exact portFrame_sbkSnapshot _
  case sbkRelease => exact portFrame_sbkRelease _
  case sbkSubscribe => exact portFrame_sbkSubscribe _ _
  case panelUpdate => exact portFrame_panelUpdate _ _ _ _ _ _ _
  case panelScreen => exact portFrame_panelScreen _ _
  case certRead => exact portFrame_certRead _ _
  case csrMake => exact portFrame_csrMake _ _ _
  case certInstall => exact portFrame_certInstall _ _ _
  case certRemove => exact portFrame_certRemove _ _
  case credentialOpStart => exact portFrame_credentialOpStart
  case commissionProofExpiry => exact portFrame_commissionProofExpiry
  case canRecover => exact portFrame_canRecover _ _
  case canSend => exact portFrame_canSend _ _ _
  case canFrameRx => exact portFrame_canFrameRx _ _ _
  case canFrameTxEnd => exact portFrame_canFrameTxEnd _ _ _ _
  case canCyclicQueue => exact portFrame_canCyclicQueue _ _
  case canRecovered => exact portFrame_canRecovered _
  case canTxAbort => exact portFrame_canTxAbort _ _
  case canRxfPop => exact portFrame_canRxfPop _ _
  case canCtrlRecover => exact portFrame_canCtrlRecover _ _
  case canRefDue => exact portFrame_canRefDue _
  case canTimeMaster => exact portFrame_canTimeMaster _
  case canTimeLost => exact portFrame_canTimeLost _
  case eventPost => exact portFrame_eventPost _ _ _ _ _ _ _ _
  case sbkFlush => exact portFrame_sbkFlush
  case sbkFlushDone => exact portFrame_sbkFlushDone _
  case sbkRateSummary => exact portFrame_sbkRateSummary _
  case sbkSnapshotExpired => exact portFrame_sbkSnapshotExpired
  case panelFrame => exact portFrame_panelFrame
  case panelTempMeasure => exact portFrame_panelTempMeasure _
  case crackMeasure => exact portFrame_crackMeasure _
  case panelRecordWritten => exact portFrame_panelRecordWritten _
  case panelDischargeDone => exact portFrame_panelDischargeDone
  case panelRedraw => exact portFrame_panelRedraw
  case screen0Redraw => exact portFrame_screen0Redraw _
  case arbAdvance => exact portFrame_arbAdvance
  case canErrorFrame => exact portFrame_canErrorFrame _ _
  all_goals exact .unnamed rfl

/-- Settles O8: each command by its own operations, whose frames compose. -/
theorem networkAndPortFrame : Obligations.NetworkAndPortFrame := ⟨.of_each networkFrame_each, .of_each portFrame_each⟩

end Sys2Proof
end

section
/-! PROOFS. The frames of the commands of reset, boot and supervision, each read off its operations (O9). -/
namespace Sys2Proof
open Sys2Proof.Machine

set_option Elab.async false

theorem supervisionFrame_supResetModule (r : Requester) : keepsFrameAt supervisionFrame (.supResetModule r) :=
  keepsFrameAt.of rfl fun s => .next <| actionWrite_changes _ _ _ _ (fun _ => .after (askReset_changes _) .same) rfl

theorem supervisionFrame_supResetIsland (i : LoneIsland) (r : Requester) : keepsFrameAt supervisionFrame (.supResetIsland i r) :=
  keepsFrameAt.of rfl fun s => .next <| actionWrite_changes _ _ _ _ (fun _ => .after (resetIsland_changes _ _) .same) rfl

theorem supervisionFrame_softResetTake : keepsFrameAt supervisionFrame .softResetTake :=
  keepsFrameAt.of rfl fun s => by
    show answersIn _ s (execSoftResetTake s)
    unfold execSoftResetTake
    refine .next ?_
    split
    · exact .ite (.after (doReset_changes _ _) <| .after (modSup_changes _ _) .same) .same
    · exact .same

theorem supervisionFrame_optCommit (r : Requester) : keepsFrameAt supervisionFrame (.optCommit r) :=
  keepsFrameAt.of rfl fun s => .next <| actionWrite_changes _ _ _ _ (fun _ => .after (commitOptions_changes _) .same) rfl

theorem supervisionFrame_optDiscard (r : Requester) : keepsFrameAt supervisionFrame (.optDiscard r) :=
  keepsFrameAt.of rfl fun s => .next <| actionWrite_changes _ _ _ _ (fun _ => .after (discardOptions_changes _) .same) rfl

theorem supervisionFrame_powerOn : keepsFrameAt supervisionFrame .powerOn :=
  keepsFrameAt.of rfl fun s => .next <| .ite .same (.after (resetModule_changes _ _) .same)

theorem supervisionFrame_resetN : keepsFrameAt supervisionFrame .resetN :=
  keepsFrameAt.of rfl fun s => .next <| .after (modSup_changes _ _) <| .after (doReset_changes _ _) .same

theorem supervisionFrame_watchdog : keepsFrameAt supervisionFrame .watchdog :=
  keepsFrameAt.of rfl fun s => .next <| .ite .same (.after (scheduleReset_changes _ _) <| .after (moduleFault_changes _ _ _ _ _) .same)

theorem supervisionFrame_bringUp (b : BootInputs) : keepsFrameAt supervisionFrame (.bringUp b) :=
  keepsFrameAt.of rfl fun s => .ite (.next .same) (.next <| .ite (.after (releaseIslands_changes _) <|
    .after (bringUp_changes _ _) .same) (.after (bringUp_changes _ _) .same))

theorem supervisionFrame_holdupReady : keepsFrameAt supervisionFrame .holdupReady :=
  keepsFrameAt.of rfl fun s => .next <| .ite (.after (releaseIslands_changes _) <|
    .after (modSup_changes _ _) .same) (.after (modSup_changes _ _) .same)

theorem supervisionFrame_resetStorm : keepsFrameAt supervisionFrame .resetStorm :=
  keepsFrameAt.of rfl fun s => .next <| .ite (.fields (s1 := noteStorm (holdAll s)) <| .after (noteStorm_changes _) <|
    .after (holdAll_changes _) .same) .same

theorem supervisionFrame_stormRetry : keepsFrameAt supervisionFrame .stormRetry :=
  keepsFrameAt.of rfl fun s => .next <| .ite (.after (modSup_changes _ _) <| .after (resetModule_changes _ _) .same) .same

theorem supervisionFrame_clkFallback : keepsFrameAt supervisionFrame .clkFallback :=
  keepsFrameAt.of rfl fun s => .next <| .ite (.after (modSup_changes _ _) <| .after (supRaise_changes _ _) .same) .same

theorem supervisionFrame_huskWatchdog (i : LoneIsland) : keepsFrameAt supervisionFrame (.huskWatchdog i) :=
  keepsFrameAt.of rfl fun s => .next <| .ite .same (.after (resetIsland_changes _ _) .same)

theorem supervisionFrame_islandResetDone (i : LoneIsland) : keepsFrameAt supervisionFrame (.islandResetDone i) :=
  keepsFrameAt.of rfl fun s => by
    show answersIn _ s (execIslandResetDone i s)
    unfold execIslandResetDone
    dsimp only
    split
    · exact .next .same
    · refine .next ?_
      split
      · exact .after (huskRelease_changes _ _) <| .after (modSup_changes _ _) .same
      · exact .after (panelStart_changes _) <| .after (huskRelease_changes _ _) <| .after (modSup_changes _ _) .same

theorem supervisionFrame_supplySample (m : SupplySample) : keepsFrameAt supervisionFrame (.supplySample m) :=
  keepsFrameAt.of rfl fun s => .next <| .after (sampleRail_changes _ _) <| .after (sampleB_changes _ _) <| .after (sampleA_changes _ _) .same

theorem supervisionFrame_powerFailWarning : keepsFrameAt supervisionFrame .powerFailWarning :=
  keepsFrameAt.of rfl fun s => .ite (.next .same) (.next <| .after (warningWrites_changes _) <| .after (waitingToC0_changes _) <|
    .after (abandonInstances_changes _) <| .after (pairWarning_changes _) <| .after (supPost_changes _ _ _ _ _) <| .after (supRaise_changes _ _) <|
    .after (modSup_changes _ _) <| .after (grd_changes _ _) .same)

theorem supervisionFrame_powerFailHold : keepsFrameAt supervisionFrame .powerFailHold :=
  keepsFrameAt.of rfl fun s => .ite (.next <| .after (modSup_changes _ _) <| .after (holdAll_changes _) <|
    .after (changeRole_changes _ _ _) .same) (.next .same)

theorem supervisionFrame_powerFail : keepsFrameAt supervisionFrame .powerFail :=
  keepsFrameAt.of rfl fun s => .next <| .ite (.after (doReset_changes _ _) <| .after (modSup_changes _ _) .same) .same

theorem supervisionFrame_resetNRelease : keepsFrameAt supervisionFrame .resetNRelease :=
  keepsFrameAt.of rfl fun s => .next <| .after (modSup_changes _ _) .same

theorem supervisionFrame_firmwareIdlePoint : keepsFrameAt supervisionFrame .firmwareIdlePoint :=
  keepsFrameAt.of rfl fun s => .next <| .after (modSup_changes _ _) .same

theorem supervisionFrame_holdupFull : keepsFrameAt supervisionFrame .holdupFull :=
  keepsFrameAt.of rfl fun s => .next <| .after (modSup_changes _ _) .same

theorem supervisionFrame_retentionEnd : keepsFrameAt supervisionFrame .retentionEnd :=
  keepsFrameAt.of rfl fun s => .next <| .ite (.after (modSup_changes _ _) <| .after (sbk_changes _ _) .same) .same

theorem supervisionFrame_each (i : Instr) : keepsFrameAt supervisionFrame i := by
  cases i
  case supResetModule => exact supervisionFrame_supResetModule _
  case supResetIsland => exact supervisionFrame_supResetIsland _ _
  case softResetTake => exact supervisionFrame_softResetTake
  case optCommit => exact supervisionFrame_optCommit _
  case optDiscard => exact supervisionFrame_optDiscard _
  case powerOn => exact supervisionFrame_powerOn
  case resetN => exact supervisionFrame_resetN
  case watchdog => exact supervisionFrame_watchdog
  case bringUp => exact supervisionFrame_bringUp _
  case holdupReady => exact supervisionFrame_holdupReady
  case resetStorm => exact supervisionFrame_resetStorm
  case stormRetry => exact supervisionFrame_stormRetry
  case clkFallback => exact supervisionFrame_clkFallback
  case huskWatchdog => exact supervisionFrame_huskWatchdog _
  case islandResetDone => exact supervisionFrame_islandResetDone _
  case supplySample => exact supervisionFrame_supplySample _
  case powerFailWarning => exact supervisionFrame_powerFailWarning
  case powerFailHold => exact supervisionFrame_powerFailHold
  case powerFail => exact supervisionFrame_powerFail
  case resetNRelease => exact supervisionFrame_resetNRelease
  case firmwareIdlePoint => exact supervisionFrame_firmwareIdlePoint
  case holdupFull => exact supervisionFrame_holdupFull
  case retentionEnd => exact supervisionFrame_retentionEnd
  all_goals exact .unnamed rfl

/-- Settles O9: each command by its own operations, whose frames compose. -/
theorem supervisionFrameKept : Obligations.SupervisionFrame := .of_each supervisionFrame_each

end Sys2Proof
end

section
/-! PROOFS. The frame of a written register word, whatever register it is: the parts that no register write reaches. -/
namespace Sys2Proof
open Sys2Proof.Machine

/-- The parts that writing a register word can change: all but module time, the waiting commands, the memories and the trust element. -/
def registerAreas : List Area :=
  [.unit .staged, .unit .snaps, .unit .free, .unit .own, .unit .exe, .unit .hz, .unit .fch, .unit .grd, .unit .gmu, .unit .wnt, .unit .pair,
   .unit .spr, .unit .cmd, .unit .net, .unit .can, .unit .sbk, .unit .pnl, .unit .sup, .anyReg, .anyInForce, .anyCtr]

theorem changesOnly.inRegister {v : List Area} {s t : State} (h : changesOnly v s t)
    (hw : within v registerAreas = true := by decide +kernel) : changesOnly registerAreas s t := h.mono hw

theorem discardOptions_inRegister (s : State) : changesOnly registerAreas s (discardOptions s) := (discardOptions_changes s).inRegister

theorem commitOptions_inRegister (s : State) : changesOnly registerAreas s (commitOptions s) := (commitOptions_changes s).inRegister

theorem claimField_inRegister (s : State) : changesOnly registerAreas s (claimField s) := (claimField_changes s).inRegister

theorem goOffline_inRegister (s : State) (cause : Nat) : changesOnly registerAreas s (goOffline s cause) := (goOffline_changes s cause).inRegister

theorem retrainRetired_inRegister (s : State) : changesOnly registerAreas s (retrainRetired s) := (retrainRetired_changes s).inRegister

theorem disarmSync_inRegister (s : State) : changesOnly registerAreas s (disarmSync s) := (disarmSync_changes s).inRegister

theorem askSync_inRegister (s : State) : changesOnly registerAreas s (askSync s) := (askSync_changes s).inRegister

theorem disarmTrigger_inRegister (s : State) (n : Nat) : changesOnly registerAreas s (disarmTrigger s n) :=
  (disarmTrigger_changes s n).inRegister

theorem armTrigger_inRegister (s : State) (n : Nat) : changesOnly registerAreas s (armTrigger s n) :=
  (armTrigger_changes s n).inRegister

theorem stopInjection_inRegister (s : State) (n : Nat) : changesOnly registerAreas s (stopInjection s n) :=
  (stopInjection_changes s n).inRegister

theorem startInjection_inRegister (s : State) (n : Nat) : changesOnly registerAreas s (startInjection s n) :=
  (startInjection_changes s n).inRegister

theorem disarmCapture_inRegister (s : State) (n : Nat) : changesOnly registerAreas s (disarmCapture s n) :=
  (disarmCapture_changes s n).inRegister

theorem fireCapture_inRegister (s : State) (n : Nat) : changesOnly registerAreas s (fireCapture s n) :=
  (fireCapture_changes s n).inRegister

theorem askArm_inRegister (s : State) (n : Nat) : changesOnly registerAreas s (askArm s n) :=
  (askArm_changes s n).inRegister

theorem fifoPop_inRegister (s : State) (n : Nat) : changesOnly registerAreas s (fifoPop s n) :=
  (fifoPop_changes s n).inRegister

theorem startRecovery_inRegister (s : State) (n : Nat) : changesOnly registerAreas s (startRecovery s n) :=
  (startRecovery_changes s n).inRegister

theorem clearFault_inRegister (s : State) (n : Nat) : changesOnly registerAreas s (clearFault s n) :=
  (clearFault_changes s n).inRegister

theorem lockedWrite_inRegister (s : State) (a : Nat) (r : Requester) (kind : Nat) : changesOnly registerAreas s (lockedWrite s a r kind) :=
  (lockedWrite_changes s a r kind).inRegister

theorem writeLock_inRegister (s : State) (v : Word) (r : Requester) : changesOnly registerAreas s (writeLock s v r).1 :=
  (writeLock_changes s v r).inRegister

theorem writeKey_inRegister (s : State) (v : Word) (r : Requester) : changesOnly registerAreas s (writeKey s v r) :=
  (writeKey_changes s v r).inRegister

theorem writeReset_inRegister (s : State) (v : Word) (r : Requester) : changesOnly registerAreas s (writeReset s v r).1 :=
  (writeReset_changes s v r).inRegister

theorem clearReg_inRegister (s : State) (a i : Nat) (v : Word) (race : List Nat) : changesOnly registerAreas s (clearReg s a i v race) :=
  (clearReg_changes s a i v race).inRegister

end Sys2Proof
end

section
/-! PROOFS. The frames of the register writes, of the commands that make them, and of every command. -/
namespace Sys2Proof
open Sys2Proof.Machine

set_option Elab.async false

theorem writeLoop_changes (s : State) (a i : Nat) (v m : Word) : changesOnly registerAreas s (writeLoop s a i v m) :=
  .ite (.after (writeLoopMode_changes _ _) .same) <| .ite .same <|
    .ite (.after (writeLoopSp_changes _ _) .same) (.after (writeLoopMv_changes _ _) .same)

theorem actIf_changes {W : List Area} {s t : State} (w : Word) (n : Nat) {f : State → State} (hf : ∀ t, changesOnly W t (f t))
    (h : changesOnly W s t) : changesOnly W s (actIf w n f t) := .ite (h.trans (hf t)) h

theorem writeActions_changes (s : State) (a i : Nat) (w : Word) : changesOnly registerAreas s (writeActions s a i w) := by
  unfold writeActions
  dsimp only
  exact .ite (actIf_changes _ _ discardOptions_inRegister <|
      actIf_changes _ _ commitOptions_inRegister .same) <|
    .ite (actIf_changes _ _ claimField_inRegister <|
      actIf_changes _ _ (fun t => goOffline_inRegister t 10) <|
      actIf_changes _ _ retrainRetired_inRegister .same) <|
    .ite (actIf_changes _ _ disarmSync_inRegister <|
      actIf_changes _ _ askSync_inRegister .same) <|
    .ite (.after (writeRelease_changes _ _ _) .same) <| .ite (.after (writeRelease_changes _ _ _) .same) <|
    .ite (actIf_changes _ _ (fun t => disarmTrigger_inRegister t _) <|
      actIf_changes _ _ (fun t => armTrigger_inRegister t _) .same) <|
    .ite (actIf_changes _ _ (fun t => stopInjection_inRegister t _) <|
      actIf_changes _ _ (fun t => startInjection_inRegister t _) .same) <|
    .ite (actIf_changes _ _ (fun t => disarmCapture_inRegister t _) <|
      actIf_changes _ _ (fun t => fireCapture_inRegister t _) <|
      actIf_changes _ _ (fun t => askArm_inRegister t _) .same) <|
    .ite (actIf_changes _ _ (fun t => .after (canFeed_changes _ _) <| .after (abortBuffers_changes t _) .same) <|
      actIf_changes _ _ (fun t => fifoPop_inRegister t _) <|
      actIf_changes _ _ (fun t => startRecovery_inRegister t _) .same) <|
    .ite (actIf_changes _ _ (fun t => clearFault_inRegister t _) .same) .same

theorem writePlain_changes (s : State) (sp : RegSpec) (i : Nat) (v m : Word) (r : Requester) :
    changesOnly registerAreas s (writePlain s sp i v m r).1 := by
  unfold writePlain
  dsimp only
  split
  · exact lockedWrite_inRegister _ _ _ _
  · split
    · exact (writeActions_changes _ _ _ _).after ((raise_changes _ _ _ _).inRegister rfl)
    · exact (writeActions_changes _ _ _ _).after <| .ite .same <| .after (setReg_changes _ _ _ _) .same

/-- An access changes no more than a register write can. -/
def accessOnly (s : State) (p : State × Access) : Prop := changesOnly registerAreas s p.1

theorem accessOnly.ite {s : State} {c : Prop} [Decidable c] {p q : State × Access} (hp : accessOnly s p) (hq : accessOnly s q) :
    accessOnly s (if c then p else q) := by
  split
  · exact hp
  · exact hq

theorem writeInstance_changes (s : State) (sp : RegSpec) (i : Nat) (v m : Word) (r : Requester) :
    changesOnly registerAreas s (writeInstance s sp i v m r).1 :=
  accessOnly.ite ((writeData_changes _ _ _ _ _).inRegister rfl) <| .ite (writeLock_inRegister _ _ _) <|
    .ite (changesOnly.ite .same (writeKey_inRegister _ _ _)) <| .ite (writeReset_inRegister _ _ _) <|
    .ite (clearReg_inRegister _ _ _ _ _) <| .ite (changesOnly.ite ((takeSnapshot_changes _ _).inRegister rfl) .same) <|
    .ite ((setReg_changes _ _ _ _).inRegister rfl) <| .ite (writeLoop_changes _ _ _ _ _) <|
    .ite ((writeStaged_changes _ _ _ _ _).inRegister rfl) (writePlain_changes _ _ _ _ _ _)

theorem writeDefined_changes (s : State) (sp : RegSpec) (v m : Word) (r : Requester) :
    changesOnly registerAreas s (writeDefined s sp v m r).1 := by
  unfold writeDefined
  split
  · exact lockedWrite_inRegister _ _ _ _
  · split
    · exact .same
    · exact writeInstance_changes _ _ _ _ _ _

theorem writeWord_changes (s : State) (a : Nat) (v m : Word) (r : Requester) : changesOnly registerAreas s (writeWord s a v m r).1 := by
  unfold writeWord
  split
  · exact .same
  · split
    · exact .after (unmappedWrite_changes _ _ _) <| .after (breakKey_changes _ _ _) .same
    · next sp _ =>
      have hg := guardWrite_changes s a r (listedWrite a (v &&& m)) (fun t => writeDefined t sp v m r)
        (fun t => writeDefined_changes t sp v m r) rfl
      exact .ite (.after (advanceData_changes _ _) hg) hg

theorem writeOne_changes (q : Requester) (r : WriteRun) (x : Nat × Word) : changesOnly registerAreas r.s (writeOne q r x).s := by
  unfold writeOne
  split
  · exact .same
  · have h := writeWord_changes r.s x.1 x.2 allOnes q
    split <;> next he => rw [he] at h; exact h

/-- The frame of the commands that write register words. -/
def registerFrame : Instr → Option (List Area)
  | .fchClearFault .. | .regWrite .. | .regMaskwrite .. | .registerWrite .. | .w1cWrite .. | .snapTake .. | .idxDataAccess ..
  | .devLockSet .. | .permSet .. | .supLockKey .. => some registerAreas
  | _ => none

theorem execRegWrite_only (c : Ctx) (addr : BitVec 32) (same : Bool) (words : List Word) (s : State) :
    answersIn registerAreas s (execRegWrite c addr same words s) :=
  .next <| command_changes _ _ _ _ _ _ _ (.ite (.after (refuse_changes _ _ _ _ _) .same) <| .ite (.after (refuse_changes _ _ _ _ _) .same) <| by
    have hwrites : changesOnly registerAreas s
        (((addresses addr.toNat same words.length).zip words).foldl (writeOne (requesterOf c)) { s := s }).s :=
      .foldl_by (writeOne_changes _) _ .same
    dsimp only
    split
    · exact .after (refuse_changes _ _ _ _ _) hwrites
    · exact .after (refuse_changes _ _ _ _ _) hwrites
    · exact .after (ok_changes _ _ _ _) hwrites) rfl

theorem execRegMaskwrite_only (c : Ctx) (addr mask value : Word) (s : State) :
    answersIn registerAreas s (execRegMaskwrite c addr mask value s) :=
  .next <| command_changes _ _ _ _ _ _ _ (.ite (.after (refuse_changes _ _ _ _ _) .same) <| by
    have hwrite := writeWord_changes s addr.toNat (maskedWord addr.toNat mask value).1 (maskedWord addr.toNat mask value).2 (requesterOf c)
    dsimp only
    generalize writeWord s addr.toNat (maskedWord addr.toNat mask value).1 (maskedWord addr.toNat mask value).2 (requesterOf c) = p at hwrite ⊢
    obtain ⟨t, a⟩ := p
    cases a with
    | husked => exact .after (refuse_changes t c 0x0403 .husked _) hwrite
    | locked => exact .after (refuse_changes t c 0x0403 .locked _) hwrite
    | done => exact .after (ok_changes t c 0x0403 _) hwrite) rfl

theorem execW1cWrite_only (addr value : Word) (race : List (Fin 32)) (r : Requester) (s : State) :
    answersIn registerAreas s (execW1cWrite addr value race r s) := by
  unfold execW1cWrite
  dsimp only
  split
  · exact .next .same
  · split
    · exact .next .same
    · exact .ite (.next .same) <| .next <| guardWrite_changes _ _ _ _ _ (fun t => clearReg_inRegister t _ _ _ _) rfl

theorem execSnapTake_only (window : Fin 16) (r : Requester) (s : State) : answersIn registerAreas s (execSnapTake window r s) := by
  unfold execSnapTake
  split
  · exact .next .same
  · exact .next (writeWord_changes _ _ _ _ _)

theorem execIdxDataAccess_only (window : Fin 16) (x : IdxAccess) (r : Requester) (s : State) :
    answersIn registerAreas s (execIdxDataAccess window x r s) := by
  unfold execIdxDataAccess
  split
  · exact .next .same
  · split
    · exact .next ((readWord_changes _ _).inRegister rfl)
    · exact .next (writeWord_changes _ _ _ _ _)

theorem registerFrame_each (i : Instr) : keepsFrameAt registerFrame i := by
  cases i
  case fchClearFault r => exact keepsFrameAt.of rfl fun s => .next (writeWord_changes _ _ _ _ _)
  case regWrite c addr same words => exact keepsFrameAt.of rfl fun s => execRegWrite_only c addr same words s
  case regMaskwrite c addr mask value => exact keepsFrameAt.of rfl fun s => execRegMaskwrite_only c addr mask value s
  case registerWrite addr value r => exact keepsFrameAt.of rfl fun s => .next <| .ite (writeWord_changes _ _ _ _ _) .same
  case w1cWrite addr value race r => exact keepsFrameAt.of rfl fun s => execW1cWrite_only addr value race r s
  case snapTake window r => exact keepsFrameAt.of rfl fun s => execSnapTake_only window r s
  case idxDataAccess window x r => exact keepsFrameAt.of rfl fun s => execIdxDataAccess_only window x r s
  case devLockSet r => exact keepsFrameAt.of rfl fun s => .next (writeWord_changes _ _ _ _ _)
  case permSet r => exact keepsFrameAt.of rfl fun s => .next (writeWord_changes _ _ _ _ _)
  case supLockKey v r => exact keepsFrameAt.of rfl fun s => .next (writeWord_changes _ _ _ _ _)
  all_goals exact keepsFrameAt.unnamed rfl

/-! ## Every command -/

/-- The frame of a command in the table of its family. -/
inductive Tabled (i : Instr) (w : List Area) : Prop
  | station (h : stationFrame i = some w)
  | hazel (h : hazelFrame i = some w)
  | channel (h : channelFrame i = some w)
  | gridPower (h : gridPowerFrame i = some w)
  | walnut (h : walnutFrame i = some w)
  | peapod (h : peapodFrame i = some w)
  | memory (h : memoryFrame i = some w)
  | packet (h : packetFrame i = some w)
  | network (h : networkFrame i = some w)
  | port (h : portFrame i = some w)
  | supervision (h : supervisionFrame i = some w)
  | register (h : registerFrame i = some w)

theorem Tabled.answers {i : Instr} {w : List Area} (h : Tabled i w) (s : State) : answersIn w s (exec i s) := by
  cases h with
  | station h => exact stationFrame_each i w h s
  | hazel h => exact hazelFrame_each i w h s
  | channel h => exact channelFrame_each i w h s
  | gridPower h => exact gridPowerFrame_each i w h s
  | walnut h => exact walnutFrame_each i w h s
  | peapod h => exact peapodFrame_each i w h s
  | memory h => exact memoryFrame_each i w h s
  | packet h => exact packetFrame_each i w h s
  | network h => exact networkFrame_each i w h s
  | port h => exact portFrame_each i w h s
  | supervision h => exact supervisionFrame_each i w h s
  | register h => exact registerFrame_each i w h s

/-- The commands whose tables list the trust element: its credentials, its fuses, and the starts of the module. -/
inductive TouchesTrust : Instr → Prop
  | csrMake {c subject request} : TouchesTrust (.csrMake c subject request)
  | certInstall {c slot cert} : TouchesTrust (.certInstall c slot cert)
  | authResponse {c slot valid} : TouchesTrust (.authResponse c slot valid)
  | certRemove {c slot} : TouchesTrust (.certRemove c slot)
  | credentialOpStart : TouchesTrust .credentialOpStart
  | commissionProofExpiry : TouchesTrust .commissionProofExpiry
  | arbAdvance : TouchesTrust .arbAdvance
  | powerOn : TouchesTrust .powerOn
  | powerFail : TouchesTrust .powerFail
  | resetN : TouchesTrust .resetN
  | coreSelfReset : TouchesTrust .coreSelfReset
  | stormRetry : TouchesTrust .stormRetry
  | softResetTake : TouchesTrust .softResetTake
  | bringUp {b} : TouchesTrust (.bringUp b)

/-- The commands whose tables list the memories: reads, writes and scrubs, Sprout's copies, and the starts of the module. -/
inductive TouchesMemory : Instr → Prop
  | memoryRead {word u} : TouchesMemory (.memoryRead word u)
  | memoryWrite {addr data u} : TouchesMemory (.memoryWrite addr data u)
  | scrubStep {region u} : TouchesMemory (.scrubStep region u)
  | imageScrubLap : TouchesMemory .imageScrubLap
  | scrubLapAlarm : TouchesMemory .scrubLapAlarm
  | accelPassDone {region} : TouchesMemory (.accelPassDone region)
  | laneCopyStep {region u} : TouchesMemory (.laneCopyStep region u)
  | laneCopyDone {region} : TouchesMemory (.laneCopyDone region)
  | hourCountTick : TouchesMemory .hourCountTick
  | mramWrite {use addr data verifies} : TouchesMemory (.mramWrite use addr data verifies)
  | mramRemap : TouchesMemory .mramRemap
  | memlogClear {c} : TouchesMemory (.memlogClear c)
  | powerOn : TouchesMemory .powerOn
  | powerFail : TouchesMemory .powerFail
  | resetN : TouchesMemory .resetN
  | coreSelfReset : TouchesMemory .coreSelfReset
  | stormRetry : TouchesMemory .stormRetry
  | softResetTake : TouchesMemory .softResetTake

/-- What the tables say of a command besides its areas: it has one, which never lists the waiting commands, and lists the trust element
and the memories for few commands only. -/
structure Framed (i : Instr) (w : List Area) : Prop where
  table : Tabled i w
  pending : w.any (fun A => A.has (.unit .pending)) = false
  trust : w.any (fun A => A.has (.unit .tru)) = false ∨ TouchesTrust i
  memory : w.any (fun A => A.has (.unit .mem)) = false ∨ TouchesMemory i

/-- Every command is in a table. -/
theorem exists_framed (i : Instr) : ∃ w, Framed i w := by
  cases i
  case ownLineStopped | partnerLineQuiet | huskHold | huskRelease | timestampBroadcast | ack | ackLate | baseCycleBoundary | taskEnd |
      moduleFault | retainStoreWrite | stopEnter | stopGraceExpiry | restartBoundary | swapReady | handoverDrained | handoverDrainExpiry |
      imageCheckDone | start | stop | warm | cold | swapPrepare | changeReport | forceSet | forceClear | forceClearAll | partnerLineEdge =>
    exact ⟨_, .station rfl, rfl, .inl rfl, .inl rfl⟩
  case hazelSlot | hazelBatchClose | podFail | hzPcommit | hzLoopModeWrite | hzLoopSpWrite | hzLoopMvWrite | hzInjStart | hzInjStop |
      hzCapArm | hzCapTrigger | hzCapDisarm | loopMode | loopSp | loopMv | loopParam | injectStart | injectStop | capArm | capTrigger |
      capDisarm | capRead =>
    exact ⟨_, .hazel rfl, rfl, .inl rfl, .inl rfl⟩
  case couplerFrame | feFrameTimeout | feWindowTimeout | groupSupplySample | fsupReturn | feReconfigDone | diFilterChange | doOverload |
      doLatchoff | doRetry | doMismatch | doOpenLoad | pulseEdge | freqGateEnd | feFailure | sproutComplete | spareSelftest |
      aiConversion | burdenOpen | burdenRetry | burdenRetryEnd | readbackDisagree | ne43Confirm | loopSupplyShort | loopSupplyRetry |
      loopSupplyRecover | aoCompliance | aoComplianceEnd | aoOpenLoad | aoBackfeed | feTempMeasure | chClearFault | chFailsig =>
    exact ⟨_, .channel rfl, rfl, .inl rfl, .inl rfl⟩
  case gourdRequest | gourdDecision | groupCurrentMeasure | logicPowerMeasure | c2AgeExpiry | gmuReport | pqAggregate | gridEvent |
      syncClose | syncTimeout | triggerFire | triggerReset | staleInput | shedReleaseApply | gmuSyncArm | gmuSyncDisarm | gmuTrigArm |
      gmuTrigDisarm | gmuShedRel | syncArm | syncDisarm | shedRelease | trigArm | grantlogRead =>
    exact ⟨_, .gridPower rfl, rfl, .inl rfl, .inl rfl⟩
  case safeInputChange | safetyCycle | halfSelftestDone | discrepancy | crossCircuit | testSourceDark | speedPulse | speedDisc |
      safeOutputFault | qsupMissing | qsupOk | darkTest | darkTestEnd | lightTest | lightTestEnd | halfFail | halfDriveTakeover |
      ss1Tmax | resetEdge | resetJammed | degradedExpiry | safety | safeParamExpiry | safeParamLoad | safeParamConfirm | safeParamAbort =>
    exact ⟨_, .walnut rfl, rfl, .inl rfl, .inl rfl⟩
  case handoverBoundary | roleDecision | trainPhaseDone | trainFail | ident | heartbeat | heartbeatSend | heartbeatLost |
      partnerLineReleased | ownLineFault | ownerLineFault | line | hrec | irec | commit | check | nak | align | faultMessage |
      handoverPrepare | handoverMessage | yield | roleMessage | laneRetired | laneSprouted | ppdRetrainRetired | orphanRetrain | claim |
      goOffline | pendingLogFull | linkSpeedRetry | resyncPhaseDone | pairSynced | pairTimeOffset | handover | swapCancel |
      ownLineToggling =>
    exact ⟨_, .peapod rfl, rfl, .inl rfl, .inl rfl⟩
  case sproutStart | coreSelftest | coreSwapDone | oscCompare | oscSprouted | cellTest | cellSprouted | chSprout | memlogRead =>
    exact ⟨_, .memory rfl, rfl, .inl rfl, .inl rfl⟩
  case memoryRead | memoryWrite | scrubStep | imageScrubLap | scrubLapAlarm | accelPassDone | laneCopyStep | laneCopyDone |
      hourCountTick | mramWrite | mramRemap | memlogClear =>
    exact ⟨_, .memory rfl, rfl, .inl rfl, .inr (by constructor)⟩
  case coreSelfReset =>
    exact ⟨_, .memory rfl, rfl, .inr (by constructor), .inr (by constructor)⟩
  case packetArrival | commandDispatch | sessionOpen | sessionIdleTimeout | serviceBreak | sessionClose | authLockoutEnd | notifyLost |
      stateRead | loadBegin | loadChunk | loadCommit | verify | loadAbort | varRead | varWrite | forceList | regRead | snapshot | chRead |
      grpRead | loopRead | gmuSubscribe | harmRead | gridEvents | safeRead | panelStatus | authChallenge | timeRead | canStatus | echo |
      sproutRead | sessions | stagedApply | lockKeyTimeout =>
    exact ⟨_, .packet rfl, rfl, .inl rfl, .inl rfl⟩
  case authResponse =>
    exact ⟨_, .packet rfl, rfl, .inr (by constructor), .inl rfl⟩
  case timeMessage | timeAcceptJump | timeNsecRead | linkChange | frameReceive | prpSupervisionSend | prpLanFail | prpLanOk | beaconSend |
      beaconReceive | beaconHoldExpiry | discoveryRecordExpiry | ptpMessage | ptpMessageSend | announceTimeout | servoUpdate |
      timeStepApply | holdoverExpiry | timeSave | ttLaunch =>
    exact ⟨_, .network rfl, rfl, .inl rfl, .inl rfl⟩
  case sbkRead | sbkSnapshot | sbkRelease | sbkSubscribe | panelUpdate | panelScreen | certRead | canRecover | canSend | canFrameRx |
      canFrameTxEnd | canCyclicQueue | canRecovered | canTxAbort | canRxfPop | canCtrlRecover | canRefDue | canTimeMaster | canTimeLost |
      eventPost | sbkFlush | sbkFlushDone | sbkRateSummary | sbkSnapshotExpired | panelFrame | panelTempMeasure | crackMeasure |
      panelRecordWritten | panelDischargeDone | panelRedraw | screen0Redraw | canErrorFrame =>
    exact ⟨_, .port rfl, rfl, .inl rfl, .inl rfl⟩
  case csrMake | certInstall | certRemove | credentialOpStart | commissionProofExpiry | arbAdvance =>
    exact ⟨_, .port rfl, rfl, .inr (by constructor), .inl rfl⟩
  case supResetModule | supResetIsland | optCommit | optDiscard | watchdog | holdupReady | resetStorm | clkFallback | huskWatchdog |
      islandResetDone | supplySample | powerFailWarning | powerFailHold | resetNRelease | firmwareIdlePoint | holdupFull | retentionEnd =>
    exact ⟨_, .supervision rfl, rfl, .inl rfl, .inl rfl⟩
  case bringUp =>
    exact ⟨_, .supervision rfl, rfl, .inr (by constructor), .inl rfl⟩
  case softResetTake | powerOn | resetN | stormRetry | powerFail =>
    exact ⟨_, .supervision rfl, rfl, .inr (by constructor), .inr (by constructor)⟩
  case fchClearFault | regWrite | regMaskwrite | registerWrite | w1cWrite | snapTake | idxDataAccess | devLockSet | permSet | supLockKey =>
    exact ⟨_, .register rfl, rfl, .inl rfl, .inl rfl⟩

/-- No command stops the machine. -/
theorem exec_answers (i : Instr) (s : State) : ∃ t, exec i s = .next t := by
  obtain ⟨w, hw⟩ := exists_framed i
  obtain ⟨t, ht, -⟩ := hw.table.answers s
  exact ⟨t, ht⟩

/-- No command touches the waiting commands. -/
theorem exec_pending {i : Instr} {s t : State} (h : exec i s = .next t) : t.pending = s.pending := by
  obtain ⟨w, hw⟩ := exists_framed i
  exact (hw.table.answers s).changes h (.unit .pending) hw.pending

/-- A command changes nothing of the trust element, or is one that its table lists for it. -/
theorem exec_trust {i : Instr} {s t : State} (h : exec i s = .next t) : t.tru = s.tru ∨ TouchesTrust i := by
  obtain ⟨w, hw⟩ := exists_framed i
  exact hw.trust.imp_left ((hw.table.answers s).changes h (.unit .tru))

/-- A command changes nothing of the memories, or is one that its table lists for them. -/
theorem exec_memory {i : Instr} {s t : State} (h : exec i s = .next t) : t.mem = s.mem ∨ TouchesMemory i := by
  obtain ⟨w, hw⟩ := exists_framed i
  exact hw.memory.imp_left ((hw.table.answers s).changes h (.unit .mem))

end Sys2Proof
end

section
/-! PROOFS. The queue of commands, the answers of held islands and of modules that do not own the field, the owner lines and the state
after reset (O1, O2, O3, O10, O11, O12, O59). -/
namespace Sys2Proof
open Sys2Proof.Machine

set_option Elab.async false

/-- Settles O1. -/
theorem stepRunsFront : Obligations.StepRunsFront := fun _ _ _ => rfl

/-- Settles O2: a command is in a table, and answers a next state in its frame. -/
theorem everyCommandCompletes : Obligations.EveryCommandCompletes := exec_answers

/-- Settles O3: no command's frame lists the waiting commands, so that a step leaves what was behind the front one. -/
theorem queueFirstInFirstOut : Obligations.QueueFirstInFirstOut := by
  refine ⟨fun c rest s t h => exec_pending h, fun s h => ?_⟩
  refine ⟨idleTick s, by rw [step, h], ?_⟩
  exact ⟨h, rfl, rfl, rfl, rfl, rfl, rfl, rfl, rfl⟩

/-- Every packet command is a `command` of its island, and where its row is the owner's, the role asked for is that of an owner. -/
theorem exec_packet {i : Instr} {c : Ctx} {op island : Nat} (hrow : packetRow i = some (c, op, island)) (s : State) :
    ∃ roleOk body, exec i s = .next (command s c op island i roleOk body) ∧ (ownerRow i = true → roleOk = owner s) := by
  cases i
  case loopMode c loop mode track =>
    cases hrow
    by_cases h : 3 < mode.toNat ∨ 1 < track.toNat
    · exact ⟨_, _, if_pos h, fun _ => rfl⟩
    · exact ⟨_, _, if_neg h, fun _ => rfl⟩
  all_goals cases hrow
  all_goals exact ⟨_, _, rfl, fun h => by cases h <;> rfl⟩

/-- Settles O10: every packet command is a `command` of its island, which asks for the Husk first. -/
theorem heldIslandAnswersHusked : Obligations.HeldIslandAnswersHusked := by
  intro i c op island hrow s hheld hrun
  obtain ⟨roleOk, body, hexec, -⟩ := exec_packet hrow s
  exact ⟨_, hexec, command_husked hheld hrun⟩

/-- Settles O11: every packet of an owner is a `command` that asks for the role after the Husk (R311). -/
theorem nonOwnerAnswersWrongRole : Obligations.NonOwnerAnswersWrongRole := by
  intro i c op island hrow hown s hrole hready
  obtain ⟨roleOk, body, hexec, howner⟩ := exec_packet hrow s
  cases (howner hown).trans hrole
  exact ⟨_, hexec, command_wrongRole hready.1 hready.2⟩

/-- A module whose output stages do not conduct drives no terminal (Table FCD-2). -/
theorem terminalDrive_of_not_conducting {s : State} (h : conducting s = false) (n : Nat) : terminalDrive s n = 0 := by
  simp [terminalDrive, h]

@[simp] theorem canFeedAll_own (s : State) : (canFeedAll s).own = s.own := canFeedAll_changes s (.unit .own) rfl

/-- Settles O12: the stages conduct by the two flags of the owner lines, which the four line events set and clear. -/
theorem ownerLines : Obligations.OwnerLines := by
  refine ⟨fun s => ⟨_, rfl, rfl, fun n => terminalDrive_of_not_conducting rfl n⟩,
    fun s => ⟨_, rfl, rfl, fun n => terminalDrive_of_not_conducting (by simp [conducting]) n, rfl, rfl⟩, fun s => ⟨_, rfl, ?_, ?_⟩, fun s => ?_⟩
  · rw [canFeedAll_own]
  · rw [conducting, canFeedAll_own, Bool.and_true]
  · cases hd : s.own.ownDriven
    · exact ⟨s, by simp [exec, execOwnLineToggling, hd], by simp, fun _ => rfl⟩
    · refine ⟨_, by simp only [exec, execOwnLineToggling, hd]; rfl, fun _ => ⟨?_, ?_⟩, by simp⟩
      · rw [canFeedAll_own]
      · rw [conducting, canFeedAll_own, Bool.true_and]

/-- Every register reads its reset value after reset: NET_PORT_CFG of instances 2 and 3 has its own (R358). -/
theorem reg_reset {a i : Nat} {sp : RegSpec} (hsp : regSpec? a = some sp) (hi : a = Reg.netPortCfg → i < 2) :
    reg State.reset a i = word sp.reset := by
  obtain ⟨-, ha⟩ := regSpec_addr hsp
  have hkey : rkey a i % 1048576 = a ∧ rkey a i / 1048576 = i := by
    unfold rkey
    omega
  show regDefault (rkey a i) = word sp.reset
  rw [regDefault, hkey.1, hkey.2, if_neg (fun h => by have := hi h.1; omega), regReset, hsp]
  rfl

/-- Settles O59: the state after reset is written out, but for its registers, which are those of the register map. -/
theorem resetState : Obligations.ResetState :=
  ⟨rfl, rfl, rfl, reset_wf, Nat.zero_le 63, rfl, fun n => terminalDrive_of_not_conducting rfl n,
    fun w h1 h2 => by simp [held, State.reset]; omega, fun _ _ => rfl, fun _ _ _ hsp hi => reg_reset hsp hi⟩

end Sys2Proof
end

section
/-! PROOFS. What a frame says of each unit. -/
namespace Sys2Proof
open Sys2Proof.Machine

set_option Elab.async false

section
variable {w : List Area} {s t : State} (h : changesOnly w s t)
include h

theorem changesOnly.pending_eq (hw : w.any (fun A => A.has (.unit .pending)) = false := by rfl) : t.pending = s.pending := h (.unit .pending) hw
theorem changesOnly.staged_eq (hw : w.any (fun A => A.has (.unit .staged)) = false := by rfl) : t.staged = s.staged := h (.unit .staged) hw
theorem changesOnly.snaps_eq (hw : w.any (fun A => A.has (.unit .snaps)) = false := by rfl) : t.snaps = s.snaps := h (.unit .snaps) hw
theorem changesOnly.free_eq (hw : w.any (fun A => A.has (.unit .free)) = false := by rfl) : t.free = s.free := h (.unit .free) hw
theorem changesOnly.now_eq (hw : w.any (fun A => A.has (.unit .now)) = false := by rfl) : t.now = s.now := h (.unit .now) hw
theorem changesOnly.own_eq (hw : w.any (fun A => A.has (.unit .own)) = false := by rfl) : t.own = s.own := h (.unit .own) hw
theorem changesOnly.exe_eq (hw : w.any (fun A => A.has (.unit .exe)) = false := by rfl) : t.exe = s.exe := h (.unit .exe) hw
theorem changesOnly.hz_eq (hw : w.any (fun A => A.has (.unit .hz)) = false := by rfl) : t.hz = s.hz := h (.unit .hz) hw
theorem changesOnly.fch_eq (hw : w.any (fun A => A.has (.unit .fch)) = false := by rfl) : t.fch = s.fch := h (.unit .fch) hw
theorem changesOnly.grd_eq (hw : w.any (fun A => A.has (.unit .grd)) = false := by rfl) : t.grd = s.grd := h (.unit .grd) hw
theorem changesOnly.gmu_eq (hw : w.any (fun A => A.has (.unit .gmu)) = false := by rfl) : t.gmu = s.gmu := h (.unit .gmu) hw
theorem changesOnly.wnt_eq (hw : w.any (fun A => A.has (.unit .wnt)) = false := by rfl) : t.wnt = s.wnt := h (.unit .wnt) hw
theorem changesOnly.pair_eq (hw : w.any (fun A => A.has (.unit .pair)) = false := by rfl) : t.pair = s.pair := h (.unit .pair) hw
theorem changesOnly.mem_eq (hw : w.any (fun A => A.has (.unit .mem)) = false := by rfl) : t.mem = s.mem := h (.unit .mem) hw
theorem changesOnly.spr_eq (hw : w.any (fun A => A.has (.unit .spr)) = false := by rfl) : t.spr = s.spr := h (.unit .spr) hw
theorem changesOnly.cmd_eq (hw : w.any (fun A => A.has (.unit .cmd)) = false := by rfl) : t.cmd = s.cmd := h (.unit .cmd) hw
theorem changesOnly.net_eq (hw : w.any (fun A => A.has (.unit .net)) = false := by rfl) : t.net = s.net := h (.unit .net) hw
theorem changesOnly.can_eq (hw : w.any (fun A => A.has (.unit .can)) = false := by rfl) : t.can = s.can := h (.unit .can) hw
theorem changesOnly.sbk_eq (hw : w.any (fun A => A.has (.unit .sbk)) = false := by rfl) : t.sbk = s.sbk := h (.unit .sbk) hw
theorem changesOnly.pnl_eq (hw : w.any (fun A => A.has (.unit .pnl)) = false := by rfl) : t.pnl = s.pnl := h (.unit .pnl) hw
theorem changesOnly.tru_eq (hw : w.any (fun A => A.has (.unit .tru)) = false := by rfl) : t.tru = s.tru := h (.unit .tru) hw
theorem changesOnly.sup_eq (hw : w.any (fun A => A.has (.unit .sup)) = false := by rfl) : t.sup = s.sup := h (.unit .sup) hw

end

end Sys2Proof
end

section
/-! PROOFS. The anti-rollback counter (O58). -/
namespace Sys2Proof
open Sys2Proof.Machine

set_option Elab.async false

/-! ## What keeps the fuses -/

/-- The fuses of `t` are those of `s`. -/
def keepsFuses (s t : State) : Prop := t.tru.fuses = s.tru.fuses

theorem keepsFuses.same {s : State} : keepsFuses s s := rfl

theorem keepsFuses.trans {s t u : State} (h : keepsFuses s t) (k : keepsFuses t u) : keepsFuses s u := Eq.trans k h

/-- An operation whose frame does not list the trust element keeps the fuses. -/
theorem keepsFuses.after {w : List Area} {s t u : State} (k : changesOnly w t u) (h : keepsFuses s t)
    (hw : w.any (fun A => A.has (.unit .tru)) = false := by rfl) : keepsFuses s u := (congrArg Trust.fuses (k.tru_eq hw)).trans h

theorem keepsFuses.ite {p : Prop} [Decidable p] {s a b : State} (ha : keepsFuses s a) (hb : keepsFuses s b) :
    keepsFuses s (if p then a else b) := by
  split
  · exact ha
  · exact hb

/-- An update of the trust element that leaves its fuses. -/
theorem keepsFuses.update {s t u : State} (h : keepsFuses s t) (hu : u.tru.fuses = t.tru.fuses := by rfl) : keepsFuses s u := hu.trans h

theorem setSlot_keepsFuses (s : State) (k : Nat) (c : Option Certificate) : keepsFuses s (setSlot s k c) :=
  .after (truRaise_changes _ _) (.update .same)

theorem runInstall_keepsFuses (s : State) (session slot : Nat) (c : Certificate) : keepsFuses s (runInstall s session slot c).s := by
  have hslot : keepsFuses s (setSlot (dateUnchecked s) slot (some c)) :=
    keepsFuses.trans (.after (dateUnchecked_changes _) .same) (setSlot_keepsFuses _ _ _)
  unfold runInstall
  dsimp only
  split
  · exact .same
  split
  · exact .same
  split
  · exact .same
  split
  · exact hslot
  · exact .after (post_changes _ _ _ _ _ _) hslot

theorem runRemove_keepsFuses (s : State) (slot : Nat) : keepsFuses s (runRemove s slot).s := by
  unfold runRemove
  split
  · exact .same
  split
  · exact .same
  · exact .after (post_changes _ _ _ _ _ _) (setSlot_keepsFuses _ _ _)

theorem failResponse_keepsFuses (s : State) : keepsFuses s (failResponse s).s :=
  .after (countUp_changes _ _ _) <| .after (truRaise_changes _ _) <| .after (cmd_changes s _) .same

theorem runResponse_keepsFuses (s : State) (session slot : Nat) (valid : Bool) : keepsFuses s (runResponse s session slot valid).s := by
  have hcount : keepsFuses s (countUp s Reg.truSnapVerify 0) := .after (countUp_changes _ _ _) .same
  have hfail := hcount.trans (failResponse_keepsFuses (countUp s Reg.truSnapVerify 0))
  unfold runResponse
  split
  · exact .same
  split
  · exact .same
  dsimp only
  split
  · exact hfail
  · rw [apply_ite OpOutcome.s]
    have hdate : keepsFuses s (dateUnchecked (countUp s Reg.truSnapVerify 0)) := .after (dateUnchecked_changes _) hcount
    exact .ite hfail <| .ite (.after (post_changes _ _ _ _ _ _) (.update hdate)) (.update hdate)

theorem runCsr_keepsFuses (s : State) (request : List Byte) : keepsFuses s (runCsr s request).s := by
  unfold runCsr
  split
  · exact .same
  split
  · exact .same
  · exact .after (countUp_changes _ _ _) .same

/-- No credential operation touches the fuses (R436). -/
theorem runOp_keepsFuses (s : State) (o : CredentialOp) : keepsFuses s (runOp s o).s := by
  unfold runOp
  split
  · exact runInstall_keepsFuses _ _ _ _
  · exact runRemove_keepsFuses _ _
  · exact runResponse_keepsFuses _ _ _ _
  · exact runCsr_keepsFuses _ _

theorem credentialOp_keepsFuses (s : State) (c : Ctx) (o : CredentialOp) : keepsFuses s (credentialOp s c o) := by
  unfold credentialOp
  split
  · exact .after (await_changes _ _ _ _ _) (.update .same)
  · exact .after (closeReplaced_changes _ _) <| .after (answer_changes _ _ _ _ _ _ _) <| runOp_keepsFuses { s with tru := _ } o

theorem command_keepsFuses {s : State} {c : Ctx} {op island : Nat} {i : Instr} {roleOk : Bool} {body : State → State}
    (h : keepsFuses s (body s)) : keepsFuses s (command s c op island i roleOk body) :=
  .ite .same <| .ite (.after (refuse_changes _ _ _ _ _) .same) <| .ite h (.after (refuse_changes _ _ _ _ _) .same)

/-- A reset keeps the fuses (R440). -/
theorem resetModule_keepsFuses (s : State) (cause : Nat) : keepsFuses s (resetModule s cause) := rfl

theorem doReset_keepsFuses (s : State) (cause : Nat) : keepsFuses s (doReset s cause) := by
  have hcounted (f : Supervisor → Supervisor) : keepsFuses s (resetModule (modSup s f) cause) :=
    .trans (.after (modSup_changes s f) .same) (resetModule_keepsFuses _ _)
  unfold doReset
  split
  · exact .ite (.after (noteStorm_changes _) .same) .same
  split
  · exact .after (noteStorm_changes _) <| .after (modSup_changes _ _) (resetModule_keepsFuses s cause)
  · exact hcounted _

theorem bootImage_keepsFuses (s : State) : keepsFuses s (bootImage s) := by
  unfold bootImage
  split
  · exact .after (stopInit_changes _) .same
  next im _ =>
    have hverify : keepsFuses s (verifyImage s im) := .after (verifyImage_changes _ _) .same
    dsimp only
    split
    · exact .update (.after (installImage_changes _ _ _) hverify)
    · exact .after (stopInit_changes _) <| .ite (.after (truRaise_changes _ _) hverify) hverify

theorem bringUp_keepsFuses (s : State) (b : BootInputs) : keepsFuses s (bringUp s b) := by
  have hstraps : keepsFuses s (takeStraps (loadOptions s) b) := .after (takeStraps_changes _ _) <| .after (loadOptions_changes _) .same
  have hkey (t : State) (ok : Bool) (h : keepsFuses s t) : keepsFuses s (if ok then t else post t .trustKeyFault 0 0 0 0) :=
    .ite h (.after (post_changes _ _ _ _ _ _) h)
  have hstart (t : State) (h : keepsFuses s t) :
      keepsFuses s (sbkStart { t with tru := { t.tru with keyOk := b.keyOk } } b.ringOk t.sup.cause) := .after (sbkStart_changes _ _ _) h
  have hboot (t : State) (h : keepsFuses s t) : keepsFuses s (bootOffline (bootWalnut (bootImage t) b.halfAOk b.halfBOk)) :=
    .after (bootOffline_changes _) <| .after (bootWalnut_changes _ _ _) <| h.trans (bootImage_keepsFuses t)
  unfold bringUp
  dsimp only
  refine .after (modSup_changes _ _) (hboot _ (hkey _ _ (hstart _ ?_)))
  split
  · exact .ite (.after (mapCore_changes _ _) hstraps) hstraps
  · exact hstraps

/-! ## The advance -/

/-- ARB_ADVANCE blows at most one fuse, of a station in RUN, and none above the running image's version or 63 (R437). -/
theorem execArbAdvance_fuses (s t : State) (h : execArbAdvance s = .next t) :
    t.tru.fuses = s.tru.fuses ∨ (t.tru.fuses = s.tru.fuses + 1 ∧ s.exe.station = .run
      ∧ (∃ im, s.exe.image = some im ∧ t.tru.fuses ≤ im.header.securityVersion) ∧ t.tru.fuses ≤ 63) := by
  unfold execArbAdvance at h
  split at h
  · cases h
    exact .inl rfl
  · next im him =>
    dsimp only at h
    by_cases hstop : s.exe.station ≠ .run ∨ min 63 im.header.securityVersion ≤ s.tru.fuses
    · rw [if_pos hstop] at h
      cases h
      exact .inl rfl
    · rw [if_neg hstop] at h
      have hrun : s.exe.station = .run := by simp only [not_or, ne_eq, not_not] at hstop; exact hstop.1
      have hone : t.tru.fuses = s.tru.fuses + 1 := by
        split at h <;> cases h
        · rw [post_tru, (truRaise_changes _ _).tru_eq]
        · rfl
      exact .inr ⟨hone, hrun, ⟨im, him, by omega⟩, by omega⟩

/-- Every other command keeps the fuses: by its frame, or as a credential operation, a boot or a reset. -/
theorem exec_keepsFuses {i : Instr} {s t : State} (hi : i ≠ .arbAdvance) (h : exec i s = .next t) : keepsFuses s t := by
  rcases exec_trust h with htru | htouch
  · exact congrArg Trust.fuses htru
  cases htouch
  case arbAdvance => exact absurd rfl hi
  case csrMake c subject request =>
    cases h
    exact command_keepsFuses <| .ite (.after (refuse_changes _ _ _ _ _) .same) (credentialOp_keepsFuses _ _ _)
  case certInstall | authResponse | certRemove =>
    cases h
    exact command_keepsFuses (credentialOp_keepsFuses _ _ _)
  case credentialOpStart =>
    dsimp only [exec, execCredentialOpStart] at h
    split at h <;> cases h
    · rfl
    · exact .after (closeReplaced_changes _ _) <| .after (concludeAll_changes _ _ _ _ _) <| runOp_keepsFuses { s with tru := _ } _
  case commissionProofExpiry =>
    dsimp only [exec, execCommissionProofExpiry] at h
    split at h
    · cases h
      exact .same
    · split at h <;> cases h
      · exact .same
      · exact .after (post_changes _ _ _ _ _ _) <| setSlot_keepsFuses { s with tru := _ } _ _
  case powerOn =>
    cases h
    exact .ite .same (resetModule_keepsFuses _ _)
  case powerFail =>
    cases h
    exact .ite (doReset_keepsFuses (modSup s _) _) .same
  case resetN =>
    cases h
    exact .after (modSup_changes _ _) (doReset_keepsFuses _ _)
  case coreSelfReset =>
    cases h
    exact .ite (doReset_keepsFuses _ _) .same
  case stormRetry =>
    cases h
    exact .ite (.after (modSup_changes _ _) (resetModule_keepsFuses _ _)) .same
  case softResetTake =>
    dsimp only [exec, execSoftResetTake] at h
    split at h <;> cases h
    · exact .ite (doReset_keepsFuses (modSup s _) _) .same
    · exact .same
  case bringUp b =>
    dsimp only [exec, execBringUp] at h
    split at h <;> cases h
    · exact .same
    · exact .ite (.after (releaseIslands_changes _) (bringUp_keepsFuses s b)) (bringUp_keepsFuses s b)

/-- Settles O58: the advance is the one command that blows a fuse, and it blows one; an idle step blows none. -/
theorem antiRollbackCounterNeverFalls : Obligations.AntiRollbackCounterNeverFalls := by
  intro s t h
  unfold step at h
  split at h
  · cases h
    have hsame : (idleTick s).tru.fuses = s.tru.fuses := by
      dsimp only [idleTick]
      split_ifs <;> rfl
    exact ⟨.inl hsame, fun hle => hsame ▸ hle⟩
  · next c rest hp =>
    by_cases hc : c = .arbAdvance
    · subst hc
      rcases execArbAdvance_fuses _ t h with hsame | ⟨hone, hrun, him, hle⟩
      · exact ⟨.inl hsame, fun h63 => hsame ▸ h63⟩
      · exact ⟨.inr ⟨by rw [hp]; rfl, hone, hrun, him⟩, fun _ => hle⟩
    · have hsame : t.tru.fuses = s.tru.fuses := exec_keepsFuses (s := { s with pending := rest }) hc h
      exact ⟨.inl hsame, fun hle => hsame ▸ hle⟩

end Sys2Proof
end

section
/-! PROOFS. What each operation on the memories can store: the codewords it changes, and the canonical form (O39). -/
namespace Sys2Proof
open Sys2Proof.Machine

set_option Elab.async false

/-- From `s` to `t` the canonical form is kept, and only SRAM codewords of `W` and MRAM codewords of `M` changed. -/
structure storesOnly (W M : Nat → Prop) (s t : State) : Prop where
  wf : s.mem.wf = true → t.mem.wf = true
  words : ∀ k, ¬W k → memWord t k = memWord s k
  mram : ∀ k, ¬M k → mramSymbols t k = mramSymbols s k

namespace storesOnly

variable {W M : Nat → Prop} {s t u : State}

theorem same : storesOnly W M s s := ⟨id, fun _ _ => rfl, fun _ _ => rfl⟩

theorem trans (h : storesOnly W M s t) (k : storesOnly W M t u) : storesOnly W M s u :=
  ⟨fun w => k.wf (h.wf w), fun i hi => (k.words i hi).trans (h.words i hi), fun i hi => (k.mram i hi).trans (h.mram i hi)⟩

/-- An update of the memory island that stores nothing. -/
theorem update (h : storesOnly W M s t) (hw : u.mem.words = t.mem.words := by rfl) (hm : u.mem.mram = t.mem.mram := by rfl) :
    storesOnly W M s u :=
  h.trans ⟨fun w => by rw [Memory.wf, hw, hm]; exact w, fun k _ => by rw [memWord, memWord, hw], fun k _ => by rw [mramSymbols, mramSymbols, hm]⟩

/-- An operation whose frame does not list the memory island. -/
theorem after {w : List Area} (k : changesOnly w t u) (h : storesOnly W M s t)
    (hw : w.any (fun A => A.has (.unit .mem)) = false := by rfl) : storesOnly W M s u :=
  h.update (congrArg Memory.words (k.mem_eq hw)) (congrArg Memory.mram (k.mem_eq hw))

theorem ite {p : Prop} [Decidable p] (h : storesOnly W M s t) (k : storesOnly W M s u) : storesOnly W M s (if p then t else u) := by
  split
  · exact h
  · exact k

theorem foldl {β : Type} {f : State → β → State} {l : List β} (hf : ∀ t, ∀ x ∈ l, storesOnly W M t (f t x)) (h : storesOnly W M s t) :
    storesOnly W M s (l.foldl f t) := by
  induction l generalizing t with
  | nil => exact h
  | cons x l ih => exact ih (fun t y hy => hf t y (List.mem_cons_of_mem x hy)) (h.trans (hf t x List.mem_cons_self))

end storesOnly

section
variable {W M : Nat → Prop}

/-! ## The single stores -/

theorem setMemWord_storesOnly {idx : Nat} (hW : W idx) (s : State) (w : List Byte) : storesOnly W M s (setMemWord s idx w) :=
  ⟨setMemWord_wf s idx w, fun _ hk => storeGet_storeSet_ne _ _ _ (fun e => hk (e ▸ hW)), fun _ _ => rfl⟩

theorem mramSet_storesOnly {i : Nat} (hM : M i) (s : State) (d : List Nat) : storesOnly W M s (mramSet s i d) :=
  ⟨mramSet_wf s i d, fun _ _ => rfl, fun _ hk => storeGet_storeSet_ne _ _ _ (fun e => hk (e ▸ hM))⟩

/-! ## Counting and lanes (R291 to R295) -/

theorem setRegion_storesOnly (s : State) (r : Nat) (x : MemRegion) : storesOnly W M s (setRegion s r x) := .update .same

theorem startAccel_storesOnly (s : State) (r : Nat) : storesOnly W M s (startAccel s r) :=
  .ite (.after (askAccel_changes _ _) (setRegion_storesOnly _ _ _)) .same

theorem renewAccel_storesOnly (s : State) (r : Nat) : storesOnly W M s (renewAccel s r) := by
  unfold renewAccel
  split
  · exact .ite (.after (askAccel_changes _ _) (setRegion_storesOnly _ _ _)) .same
  · exact .same

theorem noteRecent_storesOnly (s : State) (r : Nat) : storesOnly W M s (noteRecent s r) :=
  .ite ((setRegion_storesOnly _ _ _).trans (startAccel_storesOnly _ _)) (setRegion_storesOnly _ _ _)

theorem startCopies_storesOnly (s : State) : storesOnly W M s (startCopies s) := by
  unfold startCopies
  split
  · exact .same
  · split
    · exact setRegion_storesOnly _ _ _
    · exact .same

theorem laneErased_storesOnly (s : State) (r lane : Nat) : storesOnly W M s (laneErased s r lane) := by
  have hsent (m : PairMsg) (e : Event) (x y z : Nat) (q : MemRegion) : storesOnly W M s
      (send (post (memRaise (setRegion s r q) 3) e r x y z) m) :=
    .after (send_changes _ _) <| .after (post_changes _ _ _ _ _ _) <| .after (memRaise_changes _ _) (setRegion_storesOnly _ _ _)
  unfold laneErased
  dsimp only
  exact .ite (.ite (hsent _ _ _ _ _ _) (.after (startHandover_changes _ _ _) (hsent _ _ _ _ _ _))) <|
    .ite (.update (hsent _ _ _ _ _ _)) (hsent _ _ _ _ _ _)

theorem retireLane_storesOnly (s : State) (r lane : Nat) : storesOnly W M s (retireLane s r lane) := by
  have hposted : storesOnly W M s (post (memRaise s 1) .memLaneRetired r r lane 0) :=
    .after (post_changes _ _ _ _ _ _) <| .after (memRaise_changes _ _) .same
  unfold retireLane
  dsimp only
  split
  · exact .same
  · split
    · exact .ite hposted <| .after (writeSproutRecord_changes _) <|
        (hposted.trans (setRegion_storesOnly _ _ _)).trans (startCopies_storesOnly _)
    · exact .after (writeSproutRecord_changes _) <|
        storesOnly.trans (.after (exhausted_changes _ _) hposted) (laneErased_storesOnly _ _ _)

theorem hardFault_storesOnly (s : State) (idx lane : Nat) : storesOnly W M s (hardFault s idx lane) :=
  .ite ((setRegion_storesOnly _ _ _).trans (retireLane_storesOnly _ _ _)) (setRegion_storesOnly _ _ _)

theorem hardFaults_storesOnly {s t : State} (idx : Nat) (lanes : List Nat) (h : storesOnly W M s t) :
    storesOnly W M s (lanes.foldl (fun t l => hardFault t idx l) t) :=
  .foldl (fun _ _ _ => hardFault_storesOnly _ _ _) h

theorem logCorrection_storesOnly (s : State) (idx : Nat) (lanes : List Nat) (cls : Nat) (src : MemSource) :
    storesOnly W M s (logCorrection s idx lanes cls src) := by
  unfold logCorrection
  dsimp only
  refine .ite (.update .same) <| .ite (.update .same) ?_
  split
  · exact .after (memRaise_changes _ _) (.update .same)
  · exact .same

theorem countCorrection_storesOnly (s : State) (idx : Nat) (lanes : List Nat) (erased : Bool) (src : MemSource) :
    storesOnly W M s (countCorrection s idx lanes erased src) := by
  have hlogged (cls : Nat) : storesOnly W M s
      (logCorrection (countUp (memRaise s 0) (corrCounter (regionOf idx)) 0) idx lanes cls src) :=
    storesOnly.trans (.after (countUp_changes _ _ _) <| .after (memRaise_changes _ _) .same) (logCorrection_storesOnly _ _ _ _ _)
  refine .foldl (fun t l _ => .ite (retireLane_storesOnly _ _ _) .same) ?_
  exact storesOnly.trans (.foldl (fun t l _ => .update .same) (hlogged _)) (noteRecent_storesOnly _ _)

theorem lapAlarm_storesOnly (s : State) : storesOnly W M s (lapAlarm s) :=
  .after (post_changes _ _ _ _ _ _) <| .after (memRaise_changes _ _) (.update .same)

/-- The end of a lap stores nothing. Stated for any values of the lap's fields: the kernel would else compare the arithmetic of theirs. -/
theorem lapEnd_storesOnly {s t : State} (h : storesOnly W M s t) (ms start : Nat) (cfg : Word) (at_ : Store Nat) :
    storesOnly W M s
      { t with mem := { t.mem with lapMs := ms, lapStart := start, lapRaised := false, lapCfg := cfg, scrubAt := at_ } } := h.update

/-! ## Reads and writes of SRAM -/

/-- A read stores its own codeword and no other (R284, R286). -/
theorem readWord16_storesOnly {idx : Nat} (hW : W idx) (s : State) (u : MemUpset) (src : MemSource) :
    storesOnly W M s (readWord16 s idx u src).1 := by
  have hcells : storesOnly W M s (setMemWord s idx (flipWord (memWord s idx) u.flips)) := setMemWord_storesOnly hW _ _
  unfold readWord16
  dsimp only
  split
  · exact hcells
  · dsimp only
    exact .after (moduleFault_changes _ _ _ _ _) hcells
  · split
    · exact hcells.trans (setMemWord_storesOnly hW _ _)
    · dsimp only
      exact hardFaults_storesOnly _ _ ((hcells.trans (setMemWord_storesOnly hW _ _)).trans (countCorrection_storesOnly _ _ _ _ _))

theorem storeWord_storesOnly {idx : Nat} (hW : W idx) (s : State) (d : List Nat) : storesOnly W M s (storeWord s idx d) :=
  setMemWord_storesOnly hW _ _

theorem writeWord16_storesOnly (addr : Nat) (data : List Byte) (u : MemUpset) {idx : Nat} (hW : W idx) (s : State) :
    storesOnly W M s (writeWord16 addr data u s idx) := by
  have hread : storesOnly W M s (readWord16 s idx u .modify).1 := readWord16_storesOnly hW _ _ _
  unfold writeWord16
  refine .ite (storeWord_storesOnly hW _ _) ?_
  split <;> next he =>
    rw [he] at hread
    first | exact hread.trans (storeWord_storesOnly hW _ _) | exact .update hread

/-! ## MRAM -/

theorem mramWord_storesOnly (addr : Nat) (data : List Byte) (s : State) {i : Nat} (hM : M (mramIndex s i)) :
    storesOnly W M s (mramWord addr data s i) := by
  unfold mramWord
  dsimp only
  refine .ite (mramSet_storesOnly hM _ _) ?_
  split
  · exact mramSet_storesOnly hM _ _
  · exact .update .same (by rw [mramLost_mem]) (by rw [mramLost_mem])

theorem mramFailed_storesOnly (s : State) (use : MramUse) : storesOnly W M s (mramFailed s use) :=
  .after (mramFailed_changes s use) .same

end

theorem mramPut_storesOnly {W : Nat → Prop} (s : State) (addr : Nat) (data : List Byte) :
    storesOnly W (fun _ => True) s (mramPut s addr data) :=
  .ite .same <| .foldl (fun _ _ _ => mramWord_storesOnly _ _ _ trivial) .same

/-- A write to MRAM stores no SRAM codeword. -/
theorem mramWrite_storesOnly {W : Nat → Prop} (s : State) (x : MramWait) : storesOnly W (fun _ => True) s (mramWrite s x) :=
  .ite (.update .same) <| .ite (mramPut_storesOnly _ _ _) <|
    .ite (storesOnly.trans (.after (exhausted_changes _ _) .same) (mramFailed_storesOnly _ _)) <|
      .after (askWrite_changes _ _ _ _) (.update .same)

theorem resumeWrites_storesOnly {W : Nat → Prop} (s : State) : storesOnly W (fun _ => True) s (resumeWrites s) :=
  .foldl (fun _ _ _ => mramWrite_storesOnly _ _) (.update .same)

theorem copyMramWord_storesOnly {W : Nat → Prop} (f g : Nat) (s : State) (p : Nat × List Byte) :
    storesOnly W (fun _ => True) s (copyMramWord f g s p) := by
  unfold copyMramWord
  refine .ite ?_ .same
  split
  · exact mramSet_storesOnly trivial _ _
  · exact .update .same (by rw [mramLost_mem]) (by rw [mramLost_mem])

/-! ## Every step (O39) -/

/-- The canonical form of the memories lasts. -/
def keepsCanonical (s t : State) : Prop := s.mem.wf = true → t.mem.wf = true

theorem execMemoryWrite_canonical (addr : Nat) (data : List Byte) (u : MemUpset) {s t : State} (h : execMemoryWrite addr data u s = .next t) :
    keepsCanonical s t := by
  unfold execMemoryWrite at h
  split at h <;> cases h
  · exact id
  · exact (storesOnly.foldl (W := fun _ => True) (M := fun _ => True) (fun t i _ => writeWord16_storesOnly _ _ _ trivial _) (.update .same)).wf

theorem execImageScrubLap_canonical {s t : State} (h : execImageScrubLap s = .next t) : keepsCanonical s t := by
  have hlap (p : Bool) : storesOnly (fun _ => True) (fun _ => True) s
      (if p then (if s.mem.lapRaised then s else lapAlarm s) else { s with mem := { s.mem with lapAlarm := false } }) :=
    .ite (.ite .same (lapAlarm_storesOnly s)) (.update .same)
  unfold execImageScrubLap at h
  dsimp only at h
  generalize decide (field s.mem.lapCfg 31 16 * 1000000 < s.now - s.mem.lapStart) = long at h
  cases h
  exact (lapEnd_storesOnly (hlap long) _ _ _ _).wf

theorem execLaneCopyStep_canonical (r : Fin 4) (u : MemUpset) {s t : State} (h : execLaneCopyStep r u s = .next t) : keepsCanonical s t := by
  unfold execLaneCopyStep at h
  split at h
  · cases h
    exact id
  next p _ =>
    dsimp only at h
    split at h
    · cases h
      exact id
    · have hread : storesOnly (fun _ => True) (fun _ => True) s (readWord16 s (regionBase r.val + p) u .copy).1 :=
        readWord16_storesOnly trivial _ _ _
      split at h <;> cases h
      · next he =>
        rw [he] at hread
        exact hread.wf
      · next he =>
        rw [he] at hread
        exact ((hread.trans (setMemWord_storesOnly trivial _ _)).trans (setRegion_storesOnly _ _ _)).wf

/-- What follows the copy of a block that is remapped: its table entry, the new data, and the writes that waited (R296). -/
theorem remapped_storesOnly {W : Nat → Prop} {s t : State} (spare block addr : Nat) (data : List Byte)
    (h : storesOnly W (fun _ => True) s t) :
    let s1 := mramPut { t with mem := { t.mem with remapping := none, remap := t.mem.remap ++ [(spare, block)] } } addr data
    let s2 := post (memRaise (sprouted (endClaim (endClaim s1 (.mramRemap false)) (.mramRemap true))) 7) .mramRemap 0 block spare 0
    storesOnly W (fun _ => True) s
      (startCopies (resumeWrites (if mramFree s2 < 64 then post (memRaise s2 8) .mramSparesLow 0 (mramFree s2) 64 0 else s2))) := by
  intro s1 s2
  have hnew : storesOnly W (fun _ => True) s s1 := storesOnly.trans (.update h) (mramPut_storesOnly _ addr data)
  have hposted : storesOnly W (fun _ => True) s s2 := .after (post_changes _ _ _ _ _ _) <| .after (memRaise_changes _ _) <|
    .after (sprouted_changes _) <| .after (endClaim_changes _ _) <| .after (endClaim_changes _ _) hnew
  clear_value s2
  refine storesOnly.trans (storesOnly.trans ?_ (resumeWrites_storesOnly _)) (startCopies_storesOnly _)
  exact .ite (.after (post_changes _ _ _ _ _ _) <| .after (memRaise_changes _ _) hposted) hposted

theorem failedRemap_storesOnly {W : Nat → Prop} (s : State) : storesOnly W (fun _ => True) s
    (resumeWrites (mramFailed { s with mem := { s.mem with remapping := none } } .plain)) := by
  have hnone : storesOnly W (fun _ => True) s { s with mem := { s.mem with remapping := none } } := .update .same
  exact (hnone.trans (mramFailed_storesOnly _ _)).trans (resumeWrites_storesOnly _)

theorem execMramRemap_canonical {s t : State} (h : execMramRemap s = .next t) : keepsCanonical s t := by
  unfold execMramRemap at h
  split at h
  · cases h
    exact id
  next block addr data _ =>
    split at h
    · cases h
      exact id
    split at h
    · cases h
      have hfailed := failedRemap_storesOnly (W := fun _ => True) s
      exact hfailed.wf
    · rw [← Host.Outcome.next.inj h]
      have hcopied : storesOnly (fun _ => True) (fun _ => True) s
          (s.mem.mram.foldl (copyMramWord (mramBlock s block) (62912 + s.mem.remap.length)) s) :=
        .foldl (fun _ _ _ => copyMramWord_storesOnly _ _ _ _) .same
      exact (remapped_storesOnly _ _ _ _ hcopied).wf

theorem execLaneCopyDone_canonical (r : Fin 4) {s t : State} (h : execLaneCopyDone r s = .next t) : keepsCanonical s t := by
  unfold execLaneCopyDone at h
  split at h <;> cases h
  · exact ((storesOnly.trans (W := fun _ => True) (.after (post_changes _ _ _ _ _ _) <| .after (sprouted_changes _) <| .after (memRaise_changes _ _)
      (setRegion_storesOnly _ _ _)) (resumeWrites_storesOnly _)).trans (startCopies_storesOnly _) |>.trans (startAccel_storesOnly _ _)).wf
  · exact id

/-- A reset keeps what MRAM holds and initialises SRAM (R300, R440). -/
theorem resetModule_canonical (s : State) (cause : Nat) : keepsCanonical s (resetModule s cause) := memKeep_wf _ _ _

theorem doReset_canonical (s : State) (cause : Nat) : keepsCanonical s (doReset s cause) := by
  intro h
  unfold doReset
  split
  · split
    · rw [(noteStorm_changes _).mem_eq]
      exact h
    · exact h
  split
  · rw [(noteStorm_changes _).mem_eq]
    exact resetModule_canonical s cause h
  · exact resetModule_canonical (modSup s _) cause h

theorem keepsCanonical.same {s : State} : keepsCanonical s s := id

theorem keepsCanonical.ite {p : Prop} [Decidable p] {s a b : State} (ha : keepsCanonical s a) (hb : keepsCanonical s b) :
    keepsCanonical s (if p then a else b) := by
  split
  · exact ha
  · exact hb

/-- Every command keeps the canonical form: by its frame, by what it stores, or as a reset. -/
theorem exec_canonical {i : Instr} {s t : State} (h : exec i s = .next t) : keepsCanonical s t := by
  rcases exec_memory h with hmem | htouch
  · exact fun hwf => by rwa [hmem]
  cases htouch
  case memoryRead w u =>
    cases h
    exact (storesOnly.update (readWord16_storesOnly (W := fun _ => True) (M := fun _ => True) trivial _ _ _)).wf
  case memoryWrite addr data u => exact execMemoryWrite_canonical addr data u h
  case scrubStep r u =>
    cases h
    exact (storesOnly.update ((renewAccel_storesOnly _ _).trans
      (readWord16_storesOnly (W := fun _ => True) (M := fun _ => True) trivial _ _ _))).wf
  case imageScrubLap => exact execImageScrubLap_canonical h
  case scrubLapAlarm =>
    dsimp only [exec, execScrubLapAlarm] at h
    split at h <;> cases h
    · exact .same
    · exact (lapAlarm_storesOnly (W := fun _ => True) (M := fun _ => True) s).wf
  case accelPassDone r =>
    dsimp only [exec, execAccelPassDone] at h
    split at h <;> cases h
    · exact (storesOnly.after (W := fun _ => True) (M := fun _ => True) (endClaim_changes _ _) (setRegion_storesOnly _ _ _)).wf
    · exact .same
  case laneCopyStep r u => exact execLaneCopyStep_canonical r u h
  case laneCopyDone r => exact execLaneCopyDone_canonical r h
  case hourCountTick =>
    cases h
    exact .same
  case mramWrite use addr data verifies =>
    cases h
    exact (mramWrite_storesOnly (W := fun _ => True) _ _).wf
  case mramRemap => exact execMramRemap_canonical h
  case memlogClear c =>
    cases h
    exact (show storesOnly (fun _ => True) (fun _ => True) s (command s c _ _ _ _ _) from
      .ite .same <| .ite (.after (refuse_changes _ _ _ _ _) .same) <| .ite (.after (ok_changes _ _ _ _) (.update .same))
        (.after (refuse_changes _ _ _ _ _) .same)).wf
  case powerOn =>
    cases h
    exact .ite .same (resetModule_canonical _ _)
  case powerFail =>
    cases h
    exact .ite (doReset_canonical (modSup s _) _) .same
  case resetN =>
    cases h
    intro hwf
    rw [modSup_mem]
    exact doReset_canonical s 3 hwf
  case coreSelfReset =>
    cases h
    exact .ite (doReset_canonical _ _) .same
  case stormRetry =>
    cases h
    refine .ite (fun hwf => ?_) .same
    rw [modSup_mem]
    exact resetModule_canonical s 7 hwf
  case softResetTake =>
    dsimp only [exec, execSoftResetTake] at h
    split at h <;> cases h
    · exact .ite (doReset_canonical (modSup s _) _) .same
    · exact .same

/-- Settles O39: every command keeps the canonical form, and an idle step touches no memory. -/
theorem everyStepKeepsMemoryCanonical : Obligations.EveryStepKeepsMemoryCanonical := by
  intro s t hwf h
  unfold step at h
  split at h
  · cases h
    exact hwf
  · next c rest _ => exact exec_canonical (s := { s with pending := rest }) h hwf

end Sys2Proof
end

section
/-! PROOFS. A decision of Gourd keeps every group within its limits (O27). -/
namespace Sys2Proof
open Sys2Proof.Machine

set_option Elab.async false

/-! ## Sums over a group -/

/-- Changing a function at one element of a list without duplicates changes the sum there only. -/
theorem sum_map_change {l : List Nat} (hl : l.Nodup) {c : Nat} (hc : c ∈ l) {f g : Nat → Nat} (h : ∀ k, k ≠ c → g k = f k) :
    (l.map g).sum + f c = (l.map f).sum + g c := by
  have hrest : (l.erase c).map g = (l.erase c).map f :=
    List.map_congr_left fun k hk => h k ((List.Nodup.mem_erase_iff hl).mp hk).1
  have hg := List.sum_map_erase g hc
  have hf := List.sum_map_erase f hc
  rw [hrest] at hg
  omega

theorem mem_groupChannels {g c : Nat} : c ∈ groupChannels g ↔ c / 16 = g := by
  simp only [groupChannels, List.mem_map, List.mem_range]
  constructor
  · rintro ⟨i, hi, rfl⟩
    omega
  · intro h
    exact ⟨c % 16, by omega, by omega⟩

theorem groupChannels_nodup (g : Nat) : (groupChannels g).Nodup :=
  List.nodup_range.map fun _ _ h => by simpa using h

/-! ## What a group holds -/

/-- The excesses of one channel that are active. -/
def channelExcess (s : State) (c : Nat) : Nat :=
  (if 0 < (claimOf s c).excess && decide (s.now < (claimOf s c).excessEnd) then (claimOf s c).excess else 0)
    + (if 0 < (claimOf s c).shortExcess && decide (s.now < (claimOf s c).shortEnd) then (claimOf s c).shortExcess else 0)

theorem groupExcess_eq (s : State) (g : Nat) : groupExcess s g = ((groupChannels g).map (channelExcess s)).sum := by
  simp only [groupExcess, groupExcesses, List.flatMap, List.map_flatten, List.sum_flatten, List.map_map]
  congr 1
  refine List.map_congr_left fun c _ => ?_
  simp only [Function.comp_apply, List.map_append, List.sum_append, channelExcess]
  split_ifs <;> simp

/-- The claims of the channels and module time are as they were. -/
structure claimsKept (s t : State) : Prop where
  field : t.grd.field = s.grd.field
  now : t.now = s.now

namespace claimsKept

variable {s t u : State}

theorem same : claimsKept s s := ⟨rfl, rfl⟩

theorem update (h : claimsKept s t) (hf : u.grd.field = t.grd.field := by rfl) (hn : u.now = t.now := by rfl) : claimsKept s u :=
  ⟨hf.trans h.field, hn.trans h.now⟩

theorem trans (h : claimsKept s t) (k : claimsKept t u) : claimsKept s u := h.update k.field k.now

/-- An operation whose frame lists neither Gourd nor module time. -/
theorem after {w : List Area} (k : changesOnly w t u) (h : claimsKept s t) (hg : w.any (fun A => A.has (.unit .grd)) = false := by rfl)
    (hn : w.any (fun A => A.has (.unit .now)) = false := by rfl) : claimsKept s u :=
  h.update (by rw [k.grd_eq hg]) (k.now_eq hn)

theorem ite {p : Prop} [Decidable p] (h : claimsKept s t) (k : claimsKept s u) : claimsKept s (if p then t else u) := by
  split
  · exact h
  · exact k

theorem foldl {β : Type} {f : State → β → State} (hf : ∀ t x, claimsKept t (f t x)) (l : List β) (h : claimsKept s t) :
    claimsKept s (l.foldl f t) := by
  induction l generalizing t with
  | nil => exact h
  | cons x l ih => exact ih (h.trans (hf t x))

theorem claimOf_eq (h : claimsKept s t) (c : Nat) : claimOf t c = claimOf s c := by rw [claimOf, claimOf, h.field]

theorem standing_eq (h : claimsKept s t) (g : Nat) : groupStanding t g = groupStanding s g := by
  simp only [groupStanding, h.claimOf_eq]

theorem excesses_eq (h : claimsKept s t) (g : Nat) : groupExcesses t g = groupExcesses s g := by
  simp only [groupExcesses, h.claimOf_eq, h.now]

theorem model_eq (h : claimsKept s t) (g : Nat) : groupModel t g = groupModel s g := by
  simp only [groupModel, groupExcess, h.standing_eq, h.excesses_eq]

end claimsKept

/-- No group is lifted above its limits (R170). -/
def limitsKept (s t : State) : Prop :=
  ∀ g < 12, (groupStanding s g ≤ 8000 → groupStanding t g ≤ 8000) ∧ (groupModel s g ≤ 12000 → groupModel t g ≤ 12000)

theorem claimsKept.limits {s t : State} (h : claimsKept s t) : limitsKept s t :=
  fun g _ => ⟨(h.standing_eq g).trans_le, (h.model_eq g).trans_le⟩

theorem limitsKept.trans {s t u : State} (h : limitsKept s t) (k : limitsKept t u) : limitsKept s u :=
  fun g hg => ⟨fun hs => (k g hg).1 ((h g hg).1 hs), fun hm => (k g hg).2 ((h g hg).2 hm)⟩

/-! ## The operations that grant, delay and refuse -/

theorem logRequest_claimsKept (s : State) (r : Request) (o : GrantOutcome) (why : Reason) (wait : Nat) :
    claimsKept s (logRequest s r o why wait) := by
  unfold logRequest logGrant
  exact .after (raiseIf_changes _ _ _ _ _) (.update .same)

theorem markAbove_claimsKept (s : State) (g : Nat) : claimsKept s (markAbove s g) := .ite (.update .same) (.update .same)

theorem delayC1_claimsKept (s : State) (r : Request) (why : Reason) (est : Option Nat) : claimsKept s (delayC1 s r why est) := by
  unfold delayC1
  dsimp only
  refine .ite .same <| .after (replyDelayed_changes _ _ _) <| claimsKept.trans ?_ (logRequest_claimsKept _ _ _ _ _)
  exact .after (countUp_changes _ _ _) <| .after (raise_changes _ _ _ _) <| .update (.after (modFe_changes _ _ _) .same)

theorem grantLogic_claimsKept (s : State) (r : Request) : claimsKept s (grantLogic s r) :=
  claimsKept.trans (.update .same) (logRequest_claimsKept _ _ _ _ _)

theorem delayLogic_claimsKept (s : State) (r : Request) (why : Reason) : claimsKept s (delayLogic s r why).1 := by
  unfold delayLogic
  split
  · exact .same
  · exact .after (onLogicDelay_changes _ _ _) <| claimsKept.trans (.after (raise_changes _ _ _ _) .same) (logRequest_claimsKept _ _ _ _ _)

theorem refuseRequest_claimsKept (s : State) (r : Request) (why : Reason) : claimsKept s (refuseRequest s r why) := by
  have hlogged : claimsKept s (logRequest (countUp (raise s Reg.grdFlags 0 1) Reg.grdSnapRef 0) r .refused why 0) :=
    claimsKept.trans (.after (countUp_changes _ _ _) <| .after (raise_changes _ _ _ _) .same) (logRequest_claimsKept _ _ _ _ _)
  exact .ite (.after (concludeOther_changes _ _ _ _) <| .after (modFe_changes _ _ _) hlogged) hlogged

theorem refuseLogic_claimsKept (s : State) (r : Request) (why : Reason) : claimsKept s (refuseLogic s r why) :=
  .after (onLogicRefuse_changes _ _ _) (refuseRequest_claimsKept _ _ _)

theorem decideC2_claimsKept (l : List Request) (s : State) : claimsKept s (decideC2 l s).1 := by
  induction l generalizing s with
  | nil => exact .same
  | cons r rs ih =>
    unfold decideC2
    split
    · exact (delayLogic_claimsKept _ _ _).trans (ih _)
    split
    · exact (grantLogic_claimsKept _ _).trans (ih _)
    · have hall : ∀ (rs : List Request) (p : State × List Request), claimsKept p.1 (rs.foldl (fun (p : State × List Request) q =>
          let (t, q') := delayLogic p.1 q .stagger
          (t, p.2 ++ [q'])) p).1 := by
        intro rs
        induction rs with
        | nil => exact fun _ => .same
        | cons q qs ihq =>
          exact fun p => (delayLogic_claimsKept p.1 q .stagger).trans
            (ihq ((delayLogic p.1 q .stagger).1, p.2 ++ [(delayLogic p.1 q .stagger).2]))
      exact (delayLogic_claimsKept s r .logicCap).trans (hall rs ((delayLogic s r .logicCap).1, []))

theorem decideC3_claimsKept (l : List Request) (s : State) : claimsKept s (decideC3 l s).1 := by
  induction l generalizing s with
  | nil => exact .same
  | cons r rs ih =>
    unfold decideC3
    split
    · exact (refuseLogic_claimsKept _ _ _).trans (ih _)
    split
    · exact (refuseLogic_claimsKept _ _ _).trans (ih _)
    split
    · exact (refuseLogic_claimsKept _ _ _).trans (ih _)
    split
    · exact (grantLogic_claimsKept _ _).trans (ih _)
    · exact (delayLogic_claimsKept _ _ _).trans (ih _)

/-! ## A grant of a field request -/

/-- The claim that a granted channel takes. -/
def grantedClaim (s : State) (c amount : Nat) : FieldClaim :=
  { claimOf s c with standing := (c1Claim s c amount).1, excess := (c1Claim s c amount).2.1, excessEnd := s.now + (c1Claim s c amount).2.2 }

theorem grantC1_claimsKept (s : State) (r : Request) :
    claimsKept (setClaim s r.source (grantedClaim s r.source r.amount)) (grantC1 s r) := by
  unfold grantC1 grantedClaim
  dsimp only
  refine .after (concludeGrant_changes _ _) <| claimsKept.trans ?_ (markAbove_claimsKept _ _)
  have hmax : claimsKept (setClaim s r.source (grantedClaim s r.source r.amount))
      (countMax (modFe (setClaim s r.source (grantedClaim s r.source r.amount)) r.source (fun f => { f with
        budget := .granted
        granted := if isDo (modeOf s r.source) || decide (modeOf s r.source = 0x12) then 1
                   else if isAo (modeOf s r.source) then aoBase s r.source + r.amount * 2000 else f.granted }))
        Reg.grdSnapMaxwait 0 ((s.now - r.made) / 1000)) :=
    .after (countMax_changes _ _ _ _) <| .after (modFe_changes _ _ _) .same
  exact .ite (hmax.trans (logRequest_claimsKept _ _ _ _ _)) <| .ite (hmax.trans (logRequest_claimsKept _ _ _ _ _)) hmax

theorem claimOf_setClaim (s : State) (c : Nat) (x : FieldClaim) (k : Nat) :
    claimOf (setClaim s c x) k = if k = c then x else claimOf s k := by
  unfold claimOf setClaim
  split
  · next h => rw [h, storeGet_storeSet]
  · next h => rw [storeGet_storeSet_ne _ _ _ h]

/-- A claim that fits R170 leaves its group within the limits. -/
theorem r170_none {above : Option Nat} {standing : Nat} {xs : List (Nat × Nat)} {now : Nat} (h : r170 above standing xs now = none) :
    standing ≤ 8000 ∧ standing + (xs.map (·.1)).sum ≤ 12000 := by
  unfold r170 at h
  dsimp only at h
  split at h
  · cases h
  split at h
  · cases h
  · omega

/-- The group of a granted channel stands at the sum that R170 was asked for. -/
theorem groupStanding_setClaim {s : State} {c g : Nat} (hc : c ∈ groupChannels g) (x : FieldClaim) :
    groupStanding (setClaim s c x) g = groupStanding s g - (claimOf s c).standing + x.standing := by
  have h := sum_map_change (groupChannels_nodup g) hc (f := fun k => (claimOf s k).standing) (g := fun k => (claimOf (setClaim s c x) k).standing)
    (fun k hk => by simp [claimOf_setClaim, hk])
  have hle := List.single_le_sum (l := (groupChannels g).map fun k => (claimOf s k).standing) (by simp) _ (List.mem_map_of_mem hc)
  simp only [claimOf_setClaim, if_true] at h
  simp only [groupStanding, claimOf_setClaim]
  omega

/-- Its active excesses grow by no more than the new one. -/
theorem groupExcess_grant_le {s : State} {c g : Nat} (hc : c ∈ groupChannels g) (amount : Nat) :
    groupExcess (setClaim s c (grantedClaim s c amount)) g ≤ groupExcess s g
      + (if 0 < (c1Claim s c amount).2.1 && decide (0 < (c1Claim s c amount).2.2) then (c1Claim s c amount).2.1 else 0) := by
  have h := sum_map_change (groupChannels_nodup g) hc (f := channelExcess s)
    (g := channelExcess (setClaim s c (grantedClaim s c amount))) (fun k hk => by
      simp only [channelExcess, claimOf_setClaim, if_neg hk, setClaim_now])
  have hone : channelExcess (setClaim s c (grantedClaim s c amount)) c ≤ channelExcess s c
      + (if 0 < (c1Claim s c amount).2.1 && decide (0 < (c1Claim s c amount).2.2) then (c1Claim s c amount).2.1 else 0) := by
    simp only [channelExcess, claimOf_setClaim, if_true, setClaim_now, grantedClaim, Nat.lt_add_right_iff_pos]
    omega
  rw [groupExcess_eq, groupExcess_eq]
  omega

theorem groupStanding_setClaim_other {s : State} {c g : Nat} (hc : c ∉ groupChannels g) (x : FieldClaim) :
    groupStanding (setClaim s c x) g = groupStanding s g := by
  unfold groupStanding
  refine congrArg List.sum (List.map_congr_left fun k hk => ?_)
  have hne : k ≠ c := fun e => hc (e ▸ hk)
  rw [claimOf_setClaim, if_neg hne]

theorem groupExcess_setClaim_other {s : State} {c g : Nat} (hc : c ∉ groupChannels g) (x : FieldClaim) :
    groupExcess (setClaim s c x) g = groupExcess s g := by
  rw [groupExcess_eq, groupExcess_eq]
  refine congrArg List.sum (List.map_congr_left fun k hk => ?_)
  have hne : k ≠ c := fun e => hc (e ▸ hk)
  simp only [channelExcess, claimOf_setClaim, if_neg hne, setClaim_now]

theorem c1Fits_eq (s : State) (r : Request) : c1Fits s r = r170 (groupBudget s (groupOf r.source)).above
    (groupStanding s (groupOf r.source) - (claimOf s r.source).standing + (c1Claim s r.source r.amount).1)
    (groupExcesses s (groupOf r.source) ++
      (if 0 < (c1Claim s r.source r.amount).2.1 && decide (0 < (c1Claim s r.source r.amount).2.2) then
        [((c1Claim s r.source r.amount).2.1, s.now + (c1Claim s r.source r.amount).2.2)] else [])) s.now := rfl

/-- What waits does not decide whether a field request fits. -/
theorem c1Fits_of_c1 (s : State) (l : List Request) (r : Request) : c1Fits { s with grd := { s.grd with c1 := l } } r = c1Fits s r := by
  have hclaim : c1Claim { s with grd := { s.grd with c1 := l } } r.source r.amount = c1Claim s r.source r.amount := rfl
  rw [c1Fits_eq, c1Fits_eq, hclaim]
  rfl

/-- A field request that fits is granted within the limits of every group (R170). -/
theorem grantC1_limitsKept {s : State} {r : Request} (hfits : c1Fits s r = none) : limitsKept s (grantC1 s r) := by
  refine limitsKept.trans (fun g hg => ?_) (grantC1_claimsKept s r).limits
  by_cases hc : r.source ∈ groupChannels g
  · have hgroup : groupOf r.source = g := by
      have := mem_groupChannels.mp hc
      rw [groupOf, if_pos (by omega), this]
    rw [c1Fits_eq] at hfits
    have hlimits := r170_none hfits
    simp only [List.map_append, List.sum_append, hgroup] at hlimits
    have hsum : (List.map (fun x : Nat × Nat => x.1) (if 0 < (c1Claim s r.source r.amount).2.1
        && decide (0 < (c1Claim s r.source r.amount).2.2) then
          [((c1Claim s r.source r.amount).2.1, s.now + (c1Claim s r.source r.amount).2.2)] else [])).sum
        = if 0 < (c1Claim s r.source r.amount).2.1 && decide (0 < (c1Claim s r.source r.amount).2.2)
          then (c1Claim s r.source r.amount).2.1 else 0 := by
      split <;> simp
    rw [hsum] at hlimits
    have hstanding := groupStanding_setClaim (s := s) hc (grantedClaim s r.source r.amount)
    have hexcess := groupExcess_grant_le (s := s) hc r.amount
    have hclaim : (grantedClaim s r.source r.amount).standing = (c1Claim s r.source r.amount).1 := rfl
    have hold : groupExcess s g = ((groupExcesses s g).map (·.1)).sum := rfl
    rw [hclaim] at hstanding
    simp only [groupModel]
    omega
  · simp only [groupModel, groupStanding_setClaim_other hc, groupExcess_setClaim_other hc]
    exact ⟨id, id⟩

theorem decideC1_limitsKept (g : Nat) (p : State × Option (Option Nat)) (r : Request) : limitsKept p.1 (decideC1 g p r).1 := by
  obtain ⟨s, blocked⟩ := p
  have hsame : claimsKept s { s with grd := { s.grd with c1 := s.grd.c1.filter (fun x => x.source ≠ r.source) } } := .update .same
  unfold decideC1
  cases hfits : c1Fits s r with
  | some why => exact (delayC1_claimsKept _ _ _ _).limits
  | none =>
    cases blocked with
    | none =>
      dsimp only
      exact hsame.limits.trans (grantC1_limitsKept ((c1Fits_of_c1 _ _ _).trans hfits))
    | some est => exact (delayC1_claimsKept _ _ _ _).limits

theorem decideGroup_limitsKept (s : State) (g : Nat) : limitsKept s (decideGroup s g) := by
  have hall : ∀ (l : List Request) (p : State × Option (Option Nat)), limitsKept p.1 (l.foldl (decideC1 g) p).1 := by
    intro l
    induction l with
    | nil => exact fun _ => claimsKept.limits .same
    | cons r rs ih => exact fun p => (decideC1_limitsKept g p r).trans (ih _)
  exact hall _ (s, none)

/-! ## The decision -/

theorem releaseExpired_claimsKept (s : State) : claimsKept s (releaseExpired s) :=
  .foldl markAbove_claimsKept _ (.update .same)

theorem copyClaims_claimsKept (s : State) : claimsKept s (copyClaims s) :=
  .ite .same (.after (copyChange_changes _ _ _) (.update .same))

/-- Deciding the C2 and C3 queues and copying the claims changes no claim of a channel. -/
theorem decideLogic_claimsKept (s : State) :
    let p := decideC2 s.grd.c2 { s with grd := { s.grd with c2 := [] } }
    let t := { p.1 with grd := { p.1.grd with c2 := p.2, c2Aged := p.1.grd.c2Aged && decide (s.grd.c2.length = p.2.length) } }
    let q := decideC3 t.grd.c3 { t with grd := { t.grd with c3 := [] } }
    claimsKept s (copyClaims { q.1 with grd := { q.1.grd with c3 := q.2 ++ q.1.grd.c3 } }) := by
  intro p t q
  have hp : claimsKept s p.1 := claimsKept.trans (.update .same) (decideC2_claimsKept _ _)
  clear_value p
  have ht : claimsKept s t := .update hp
  clear_value t
  have hq : claimsKept s q.1 := claimsKept.trans (.update ht) (decideC3_claimsKept _ _)
  clear_value q
  exact claimsKept.trans (.update hq) (copyClaims_claimsKept _)

/-- Settles O27: only the grant of a field request changes a claim, and it has passed R170. -/
theorem decisionsKeepGroupLimits : Obligations.DecisionsKeepGroupLimits := by
  intro s
  have hgroups : ∀ (l : List Nat) (t : State), limitsKept t (l.foldl decideGroup t) := by
    intro l
    induction l with
    | nil => exact fun _ => claimsKept.limits .same
    | cons g gs ih => exact fun t => (decideGroup_limitsKept t g).trans (ih _)
  have hc0 (t : State) : claimsKept t (t.grd.c0.foldl grantLogic { t with grd := { t.grd with c0 := [] } }) :=
    .foldl grantLogic_claimsKept _ (.update .same)
  exact ⟨gourdDecide s, rfl, ((releaseExpired_claimsKept s).trans (hc0 _)).limits.trans
    ((hgroups (List.range 12) _).trans (decideLogic_claimsKept _).limits)⟩

end Sys2Proof
end

section
/-! PROOFS. Walnut: what its operations leave of the island, and its bit masks, pairs, functions and outputs as they read afterwards. -/
namespace Sys2Proof
open Sys2Proof.Machine

set_option Elab.async false

/-! ## Folds over numbered records -/

/-- A fold whose step `k` changes record `k` only, by what it reads of the rest: record `j` takes its own step, once. `get` reads a record,
`keep` what no step changes. -/
theorem foldl_get_mem {σ β γ : Type} (get : σ → Nat → β) (keep : σ → γ) (step : σ → Nat → σ) (new : γ → Nat → β → β)
    (hkeep : ∀ w k, keep (step w k) = keep w) (hself : ∀ w k, get (step w k) k = new (keep w) k (get w k))
    (hne : ∀ w k j, j ≠ k → get (step w k) j = get w j) (l : List Nat) (hl : l.Nodup) (w : σ) (j : Nat) :
    get (l.foldl step w) j = if j ∈ l then new (keep w) j (get w j) else get w j := by
  induction l generalizing w with
  | nil => rfl
  | cons k l ih =>
    obtain ⟨hk, hl⟩ := List.nodup_cons.mp hl
    rw [List.foldl_cons, ih hl, hkeep]
    by_cases hj : j = k
    · subst hj
      simp [hk, hself]
    · simp [hj, hne _ _ _ hj]

theorem mem_eight {k : Nat} : k ∈ eight ↔ k < 8 := List.mem_range

theorem eight_nodup : eight.Nodup := List.nodup_range

theorem foldl_keeps {σ α β : Type} (g : σ → β) (step : σ → α → σ) (h : ∀ w k, g (step w k) = g w) (l : List α) (w : σ) :
    g (l.foldl step w) = g w := by
  induction l generalizing w with
  | nil => rfl
  | cons k l ih => exact (ih _).trans (h w k)

/-! ## Masks of eight bits -/

theorem bits8_eq_bit (p : Nat → Bool) :
    bits8 p = Nat.bit (p 0) (Nat.bit (p 1) (Nat.bit (p 2) (Nat.bit (p 3) (Nat.bit (p 4) (Nat.bit (p 5) (Nat.bit (p 6) (Nat.bit (p 7) 0))))))) := by
  have hb (k : Nat) : b2n (p k) = (p k).toNat := by cases p k <;> rfl
  simp only [bits8, eight, List.range_eq_range', List.range', List.map, List.sum_cons, List.sum_nil, hb, Nat.bit_val]
  ring

theorem testBit_bits8 (p : Nat → Bool) {q : Nat} (hq : q < 8) : (bits8 p).testBit q = p q := by
  rw [bits8_eq_bit]
  interval_cases q <;> simp only [Nat.testBit_bit_zero, Nat.testBit_bit_succ]

theorem testBit_bitsWithout (m x : Nat) {q : Nat} (hq : q < 8) : (bitsWithout m x).testBit q = (m.testBit q && !x.testBit q) :=
  testBit_bits8 _ hq

/-! ## Records of the island -/

@[simp] theorem spair_setSpair (w : Walnut) (k : Nat) (x : SafePair) : spair (setSpair w k x) k = x := storeGet_storeSet _ _ _ _
theorem spair_setSpair_ne (w : Walnut) {k j : Nat} (x : SafePair) (h : j ≠ k) : spair (setSpair w k x) j = spair w j := storeGet_storeSet_ne _ _ _ h
@[simp] theorem speed_setSpeed (w : Walnut) (i : Nat) (x : SpeedInput) : speed (setSpeed w i x) i = x := storeGet_storeSet _ _ _ _
@[simp] theorem sfunc_setSfunc (w : Walnut) (f : Nat) (x : SafeFunc) : sfunc (setSfunc w f x) f = x := storeGet_storeSet _ _ _ _
theorem sfunc_setSfunc_ne (w : Walnut) {f j : Nat} (x : SafeFunc) (h : j ≠ f) : sfunc (setSfunc w f x) j = sfunc w j := storeGet_storeSet_ne _ _ _ h
@[simp] theorem sout_setSout (w : Walnut) (q : Nat) (x : SafeOutput) : sout (setSout w q x) q = x := storeGet_storeSet _ _ _ _
theorem sout_setSout_ne (w : Walnut) {q j : Nat} (x : SafeOutput) (h : j ≠ q) : sout (setSout w q x) j = sout w j := storeGet_storeSet_ne _ _ _ h

/-- A store whose entries are all changed reads as the changed record, where the change leaves the default alone. -/
theorem storeGet_map {α : Type} (d : Nat → α) (f : Nat → α → α) (m : Store α) (k : Nat) (hd : f k (d k) = d k) :
    storeGet d (m.map (fun p => (p.1, f p.1 p.2))) k = f k (storeGet d m k) := by
  induction m with
  | nil => exact hd.symm
  | cons p m ih =>
    obtain ⟨j, v⟩ := p
    rw [List.map_cons, storeGet, storeGet]
    split
    · next h => rw [h]
    · exact ih

/-! ## What each operation leaves alone

`g` is any reading of the island that does not look at what the operation changes. -/

section
variable {β : Type} (g : Walnut → β)

theorem settle_keeps (w : Walnut) (hg : ∀ (w : Walnut) a b c d, g { w with stops := a, locked := b, cause := c, governing := d } = g w := by
    intros; rfl) : g (settle w) = g w := by
  unfold settle
  split
  · exact hg ..
  · rfl

theorem stopFunc_keeps (w : Walnut) (f cause : Nat) (fault : Bool) (hg : ∀ (w : Walnut) a, g { w with funcs := a } = g w := by intros; rfl) :
    g (stopFunc w f cause fault) = g w := by
  unfold stopFunc
  dsimp only
  split <;> exact hg ..

theorem stopFuncs_keeps (w : Walnut) (p : Nat → Bool) (cause : Nat) (fault : Bool)
    (hg : ∀ (w : Walnut) a, g { w with funcs := a } = g w := by intros; rfl) : g (stopFuncs w p cause fault) = g w :=
  foldl_keeps g _ (fun w f => by
    split
    · exact stopFunc_keeps g w f cause fault hg
    · rfl) _ _

theorem demandFunc_keeps (w : Walnut) (now f cause : Nat) (hg : ∀ (w : Walnut) a, g { w with funcs := a } = g w := by intros; rfl) :
    g (demandFunc w now f cause) = g w := by
  unfold demandFunc
  dsimp only
  split
  · rfl
  split <;> exact hg ..

theorem stepStopping_keeps (w : Walnut) (f now : Nat) (hg : ∀ (w : Walnut) a, g { w with funcs := a } = g w := by intros; rfl) :
    g (stepStopping w f now) = g w := by
  have hstop := fun c b => stopFunc_keeps g w f c b hg
  unfold stepStopping endByTmax
  split
  · split
    · exact hstop _ _
    split
    · exact hstop _ _
    split
    · exact (hg ..).trans (hstop _ _)
    · rfl
  · split
    · exact hstop _ _
    · rfl

theorem stepFunc_keeps (w : Walnut) (now f : Nat) (hg : ∀ (w : Walnut) a, g { w with funcs := a } = g w := by intros; rfl) :
    g (stepFunc w now f) = g w := by
  unfold stepFunc
  split
  · rfl
  have hsupply : g (if supplyGone w f then stopFunc w f 8 false else w) = g w := by
    split
    · exact stopFunc_keeps g w f 8 false hg
    · rfl
  dsimp only
  generalize (if supplyGone w f then stopFunc w f 8 false else w) = w1 at hsupply ⊢
  have hdemand : g (if !demandOff w1 f then w1 else if demandCause w1 f = 1 then demandFunc w1 now f 1
      else if (sfunc w1 f).st = 2 then w1 else stopFunc w1 f (demandCause w1 f) true) = g w := by
    split
    · exact hsupply
    split
    · exact (demandFunc_keeps g w1 now f 1 hg).trans hsupply
    split
    · exact hsupply
    · exact (stopFunc_keeps g w1 f _ true hg).trans hsupply
  generalize (if !demandOff w1 f then w1 else if demandCause w1 f = 1 then demandFunc w1 now f 1
      else if (sfunc w1 f).st = 2 then w1 else stopFunc w1 f (demandCause w1 f) true) = w2 at hdemand ⊢
  split
  · exact (stepStopping_keeps g w2 f now hg).trans hdemand
  · exact hdemand

theorem stepFuncs_keeps (w : Walnut) (now : Nat)
    (hg : ∀ (w : Walnut) a b c d e, g { w with funcs := a, stops := b, locked := c, cause := d, governing := e } = g w := by intros; rfl) :
    g (stepFuncs w now) = g w :=
  (settle_keeps g _ (fun w => hg w w.funcs)).trans
    (foldl_keeps g _ (fun w f => stepFunc_keeps g w now f (fun w a => hg w a w.stops w.locked w.cause w.governing)) _ _)

theorem stepPairs_keeps (w : Walnut) (now : Nat) (hg : ∀ (w : Walnut) a, g { w with pairs := a } = g w := by intros; rfl) :
    g (stepPairs w now) = g w :=
  foldl_keeps g _ (fun w k => by
    dsimp only
    split
    · exact hg ..
    split
    · exact hg ..
    · rfl) _ _

theorem stepSpeeds_keeps (w : Walnut) (now : Nat) (up : Bool) (hg : ∀ (w : Walnut) a, g { w with speeds := a } = g w := by intros; rfl) :
    g (stepSpeeds w now up) = g w :=
  foldl_keeps g _ (fun w i => by
    split
    · rfl
    · exact hg ..) _ _

theorem driveElements_keeps (w : Walnut) (m : Nat)
    (hg : ∀ (w : Walnut) a b c, g { w with cmd := a, switchOn := b, seriesOn := c } = g w := by intros; rfl) : g (driveElements w m) = g w :=
  hg ..

theorem openOutputs_keeps (w : Walnut) (now m : Nat)
    (hg : ∀ (w : Walnut) a b c d e, g { w with evaluated := a, cmd := b, switchOn := c, seriesOn := d, outs := e } = g w := by intros; rfl) :
    g (openOutputs w now m) = g w := hg w _ _ _ _ _

theorem endMetTests_keeps (before w : Walnut) (now : Nat)
    (hg : ∀ (w : Walnut) a b c d e, g { w with evaluated := a, cmd := b, switchOn := c, seriesOn := d, outs := e } = g w := by intros; rfl) :
    g (endMetTests before w now) = g w := by
  unfold endMetTests
  dsimp only
  split
  · exact hg w w.evaluated w.cmd w.switchOn w.seriesOn _
  · exact (hg (openOutputs w now (metDark w)) _ _ _ _ _).trans (openOutputs_keeps g w now _ hg)

end

/-! ## Tests that end -/

theorem abandonTest_test (now : Nat) (x : SafeOutput) : (abandonTest now x).test = 0 := by
  unfold abandonTest
  dsimp only
  split
  · assumption
  split <;> rfl

/-- The end of a test leaves the latched faults of its output. -/
theorem abandonTest_keeps {β : Type} (g : SafeOutput → β) (now : Nat) (x : SafeOutput)
    (hg : ∀ (x : SafeOutput) a b c, g { x with test := a, due := b, lightDue := c } = g x := by intros; rfl) : g (abandonTest now x) = g x := by
  unfold abandonTest
  dsimp only
  split
  · rfl
  split
  · exact hg x 0 x.due _
  · exact hg x 0 _ x.lightDue

theorem sout_openOutputs (w : Walnut) (now m q : Nat) :
    sout (openOutputs w now m) q = if m.testBit q then abandonTest now (sout w q) else sout w q := by
  have h := storeGet_map (fun _ => ({} : SafeOutput)) (fun k x => if m.testBit k then abandonTest now x else x) w.outs q (by split <;> rfl)
  refine Eq.trans ?_ h
  refine congrArg (fun l => storeGet _ l q) (List.map_congr_left fun p _ => ?_)
  split <;> rfl

theorem sout_endMetTests (before w : Walnut) (now q : Nat) :
    sout (endMetTests before w now) q = sout w q ∨ sout (endMetTests before w now) q = abandonTest now (sout w q) := by
  have hopen (w1 : Walnut) (h : sout w1 q = sout w q ∨ sout w1 q = abandonTest now (sout w q)) :
      sout { w1 with outs := w1.outs.map (endLight before w1 now) } q = sout w q ∨
      sout { w1 with outs := w1.outs.map (endLight before w1 now) } q = abandonTest now (sout w q) := by
    have hmap := storeGet_map (fun _ => ({} : SafeOutput)) (fun k x => (endLight before w1 now (k, x)).2) w1.outs q
      (by unfold endLight; dsimp only; split <;> rfl)
    have hs : sout { w1 with outs := w1.outs.map (endLight before w1 now) } q = (endLight before w1 now (q, sout w1 q)).2 := hmap
    have hagain : abandonTest now (abandonTest now (sout w q)) = abandonTest now (sout w q) := by
      rw [abandonTest, if_pos (abandonTest_test _ _)]
    rw [hs]
    unfold endLight
    dsimp only
    split
    · rcases h with h | h
      · exact .inr (by rw [h])
      · exact .inr (by rw [h, hagain])
    · exact h
  unfold endMetTests
  dsimp only
  split
  · exact hopen w (.inl rfl)
  · refine hopen _ ?_
    rw [sout_openOutputs]
    split
    · exact .inr rfl
    · exact .inl rfl

/-- Tests that a demand meets leave the faults of every output. -/
theorem sout_endMetTests_keeps {β : Type} (g : SafeOutput → β) (before w : Walnut) (now q : Nat)
    (hg : ∀ (x : SafeOutput) a b c, g { x with test := a, due := b, lightDue := c } = g x := by intros; rfl) :
    g (sout (endMetTests before w now) q) = g (sout w q) := by
  rcases sout_endMetTests before w now q with h | h
  · rw [h]
  · rw [h, abandonTest_keeps g now _ hg]

theorem outFault_endMetTests (before w : Walnut) (now q : Nat) : outFault (endMetTests before w now) q = outFault w q :=
  sout_endMetTests_keeps (fun x => x.short || x.mismatchHigh || x.mismatchLow || x.testFail) before w now q

theorem testBit_openOutputs_cmd (w : Walnut) (now m : Nat) {q : Nat} (hq : q < 8) :
    (openOutputs w now m).cmd.testBit q = (w.cmd.testBit q && !m.testBit q) := testBit_bitsWithout _ _ hq

/-- Ending tests only switches commands off. -/
theorem testBit_endMetTests_cmd {before w : Walnut} {now q : Nat} (hq : q < 8) (h : (endMetTests before w now).cmd.testBit q = true) :
    w.cmd.testBit q = true := by
  unfold endMetTests at h
  dsimp only at h
  split at h
  · exact h
  · have h2 : (bitsWithout w.cmd (metDark w)).testBit q = true := h
    rw [testBit_bitsWithout _ _ hq, Bool.and_eq_true] at h2
    exact h2.1

theorem testBit_endMetTests_evaluated {before w : Walnut} {now q : Nat} (hq : q < 8)
    (h : (endMetTests before w now).evaluated.testBit q = true) : w.evaluated.testBit q = true := by
  unfold endMetTests at h
  dsimp only at h
  split at h
  · exact h
  · have h2 : (bitsWithout w.evaluated (metDark w)).testBit q = true := h
    rw [testBit_bitsWithout _ _ hq, Bool.and_eq_true] at h2
    exact h2.1

end Sys2Proof
end

section
/-! PROOFS. The safety cycle (O31). -/
namespace Sys2Proof
open Sys2Proof.Machine

set_option Elab.async false

theorem discardSet_keeps {β : Type} (g : Walnut → β) (w : Walnut)
    (hg : ∀ (w : Walnut) a b c d e, g { w with stops := a, locked := b, cause := c, governing := d, pendingSet := e } = g w := by intros; rfl) :
    g (discardSet w) = g w := by
  unfold discardSet dropCause
  split
  · exact (settle_keeps g _ (fun w a b c d => hg w a b c d w.pendingSet)).trans (hg w _ w.locked w.cause w.governing none)
  · exact hg w w.stops w.locked w.cause w.governing none

/-- With no cause of SAFE_STOPPED present, discarding the pending set only clears it. -/
theorem discardSet_of_no_stops (w : Walnut) (h : w.stops = []) : discardSet w = { w with pendingSet := none } := by
  unfold discardSet dropCause
  rw [if_neg]
  simp [h]

theorem safePairLost_wnt (s : State) : (safePairLost s).wnt = (dropWaitingSet (post s .safePairLost 0 0 0 0)).wnt :=
  (concludeAll_changes _ _ _ _ _).wnt_eq

theorem safePairLost_keeps {β : Type} (g : Walnut → β) (s : State)
    (hg : ∀ (w : Walnut) a b c d e, g { w with stops := a, locked := b, cause := c, governing := d, pendingSet := e } = g w := by intros; rfl) :
    g (safePairLost s).wnt = g s.wnt := by
  rw [safePairLost_wnt]
  unfold dropWaitingSet
  split
  · exact (discardSet_keeps g _ hg).trans (congrArg g (post_wnt ..))
  · exact congrArg g (post_wnt ..)

theorem safePairLost_keeps_of_no_stops {β : Type} (g : Walnut → β) (s : State) (h : s.wnt.stops = [])
    (hg : ∀ (w : Walnut) e, g { w with pendingSet := e } = g w := by intros; rfl) : g (safePairLost s).wnt = g s.wnt := by
  rw [safePairLost_wnt]
  unfold dropWaitingSet
  split
  · dsimp only
    rw [post_wnt, discardSet_of_no_stops _ h]
    exact hg ..
  · exact congrArg g (post_wnt ..)

theorem missingMessage_keeps {β : Type} (g : Walnut → β) (s : State)
    (hg : ∀ (w : Walnut) a b c d e, g { w with stops := a, locked := b, cause := c, governing := d, pendingSet := e } = g w := by intros; rfl)
    (hm : ∀ (w : Walnut) a b c d, g { w with arrived := a, lost := b, msgErr := c, partnerOk := d } = g w := by intros; rfl) :
    g (missingMessage s).wnt = g s.wnt := by
  unfold missingMessage
  dsimp only
  split
  · exact hm s.wnt false _ _ _
  split
  · exact (safePairLost_keeps g _ hg).trans (hm s.wnt s.wnt.arrived _ _ _)
  · exact hm s.wnt s.wnt.arrived _ _ _

theorem missingMessage_keeps_of_no_stops {β : Type} (g : Walnut → β) (s : State) (h : s.wnt.stops = [])
    (hg : ∀ (w : Walnut) e, g { w with pendingSet := e } = g w := by intros; rfl)
    (hm : ∀ (w : Walnut) a b c d, g { w with arrived := a, lost := b, msgErr := c, partnerOk := d } = g w := by intros; rfl) :
    g (missingMessage s).wnt = g s.wnt := by
  unfold missingMessage
  dsimp only
  split
  · exact hm s.wnt false _ _ _
  split
  · refine (safePairLost_keeps_of_no_stops g _ ?_ hg).trans (hm s.wnt s.wnt.arrived _ _ _)
    exact h
  · exact hm s.wnt s.wnt.arrived _ _ _

theorem publishSafety_wnt (s : State) : (publishSafety s).wnt = s.wnt := by
  unfold publishSafety
  split <;> rfl

theorem askC0_wnt (s : State) (window amount : Nat) (d : Option Nat) (p : Purpose) : (askC0 s window amount d p).wnt = s.wnt :=
  (askC0_changes s window amount d p).wnt_eq

theorem driveClaims_wnt (s : State) : (driveClaims s).wnt = s.wnt :=
  foldl_keeps (fun s : State => s.wnt) _ (fun s q => by
    dsimp only
    split
    · exact askC0_wnt ..
    split
    · rfl
    · rfl) _ _

/-- After the cross-check an output is commanded on only where it was evaluated on, and by both halves where both are healthy. -/
theorem testBit_crossCheck_cmd {w : Walnut} {i : CycleInputs} {q : Nat} (hq : q < 8) (h : (crossCheck w i).cmd.testBit q = true) :
    w.evaluated.testBit q = true ∧ (w.halfA = true → w.halfB = true → i.outDiff.getLsbD q = false) := by
  have h2 : (if w.halfA && w.halfB then bitsWithout w.evaluated i.outDiff.toNat else w.evaluated).testBit q = true := h
  split at h2
  · rw [testBit_bitsWithout _ _ hq, Bool.and_eq_true, Bool.not_eq_true'] at h2
    exact ⟨h2.1, fun _ _ => h2.2⟩
  · next hb => exact ⟨h2, fun ha hb' => absurd (by simp [ha, hb']) hb⟩

/-- The cycle's record before its tests end: the images and speeds taken, the functions stepped. -/
def cycleFuncs (w : Walnut) (i : CycleInputs) (now : Nat) (up : Bool) : Walnut :=
  stepFuncs (stepPairs (stepSpeeds { crossCheck w i with image := (crossCheck w i).inputs } now up) now) now

theorem cycleFuncs_keeps {β : Type} (g : Walnut → β) (w : Walnut) (i : CycleInputs) (now : Nat) (up : Bool)
    (hg : ∀ (w : Walnut) a b c d e f h,
      g { w with funcs := a, stops := b, locked := c, cause := d, governing := e, pairs := f, speeds := h } = g w := by intros; rfl) :
    g (cycleFuncs w i now up) = g { crossCheck w i with image := (crossCheck w i).inputs } :=
  (stepFuncs_keeps g _ now (fun w a b c d e => hg w a b c d e w.pairs w.speeds)).trans <|
  (stepPairs_keeps g _ now (fun w a => hg w w.funcs w.stops w.locked w.cause w.governing a w.speeds)).trans <|
  stepSpeeds_keeps g _ now up (fun w a => hg w w.funcs w.stops w.locked w.cause w.governing w.pairs a)

/-- The record `w` of a stepped cycle as its results leave it: what is evaluated on is driven in the next cycle. `before` is the record whose
tests the results may meet. -/
def cycleResults (s : State) (before w : Walnut) : Walnut :=
  let v := walnutView (modWnt (freeNext s) (fun _ => w))
  endMetTests before { w with evaluated := outputsOn v (shownIsland v (if owner s then [] else w.lastMsg)), cycle := (w.cycle + 1) % 4294967296
                              seqOut := (w.seqOut + 1) % 4294967296 } s.now

/-- The cycle's record before the message accounting. -/
def cycleEnd (s : State) (i : CycleInputs) : Walnut :=
  cycleResults s (stepSpeeds { crossCheck s.wnt i with image := (crossCheck s.wnt i).inputs } s.now (bit (freeNow s) 0))
    (cycleFuncs s.wnt i s.now (bit (freeNow s) 0))

theorem modWnt_wnt (s : State) (g : Walnut → Walnut) : (modWnt s g).wnt = g s.wnt := rfl

/-- What follows the stepped cycle: results, message accounting, the words shown and the publication. -/
theorem finishCycle_wnt (s : State) (before w v : Walnut) (on : Nat) (hv : v = walnutView (modWnt (freeNext s) fun _ => w))
    (hon : on = outputsOn v (shownIsland v (if owner s then [] else w.lastMsg))) (s2 s3 : State)
    (hs2 : s2 = missingMessage (modWnt (modWnt (freeNext s) fun _ => w) fun _ => endMetTests before { w with
      evaluated := on, cycle := (w.cycle + 1) % 4294967296, seqOut := (w.seqOut + 1) % 4294967296 } s.now))
    (hs3 : s3 = modWnt s2 (fun w => { w with shown := shownWords w { v with cmd := w.cmd } (if owner s then [] else w.lastMsg) s.now }))
    (m : PairMsg) : ∃ u words, u.wnt = cycleResults s before w
      ∧ (send (driveClaims (publishSafety s3)) m).wnt = { (missingMessage u).wnt with shown := words } := by
  rw [send_wnt, driveClaims_wnt, publishSafety_wnt, hs3, hs2, hon, hv, modWnt_wnt]
  exact ⟨_, _, modWnt_wnt _ _, rfl⟩

/-- The record that a safety cycle leaves is the cycle's own, the message accounting and the words shown apart. -/
theorem exec_safetyCycle (i : CycleInputs) (s : State) : ∃ t, exec (.safetyCycle i) s = .next t
    ∧ ∃ u words, u.wnt = cycleEnd s i ∧ t.wnt = { (missingMessage u).wnt with shown := words } :=
  ⟨_, rfl, finishCycle_wnt s _ _ _ _ rfl rfl _ _ rfl rfl _⟩

theorem cycleEnd_keeps {β : Type} (g : Walnut → β) (s : State) (i : CycleInputs)
    (hg : ∀ (w : Walnut) a b c d e, g { w with evaluated := a, cmd := b, switchOn := c, seriesOn := d, outs := e } = g w := by intros; rfl)
    (hn : ∀ (w : Walnut) a b, g { w with cycle := a, seqOut := b } = g w := by intros; rfl) :
    g (cycleEnd s i) = g (cycleFuncs s.wnt i s.now (bit (freeNow s) 0)) := by
  unfold cycleEnd cycleResults
  generalize cycleFuncs s.wnt i s.now (bit (freeNow s) 0) = w
  refine (endMetTests_keeps g _ _ _ hg).trans ?_
  exact (hg { w with cycle := (w.cycle + 1) % 4294967296, seqOut := (w.seqOut + 1) % 4294967296 } _ w.cmd w.switchOn w.seriesOn w.outs).trans
    (hn w _ _)

theorem outFault_cycleEnd (s : State) (i : CycleInputs) (q : Nat) :
    outFault (cycleEnd s i) q = outFault (cycleFuncs s.wnt i s.now (bit (freeNow s) 0)) q := by
  unfold cycleEnd cycleResults
  generalize cycleFuncs s.wnt i s.now (bit (freeNow s) 0) = w
  rw [outFault_endMetTests]
  simp only [outFault, sout]

theorem cycle_cycleEnd (s : State) (i : CycleInputs) :
    (cycleEnd s i).cycle = ((cycleFuncs s.wnt i s.now (bit (freeNow s) 0)).cycle + 1) % 4294967296 := by
  unfold cycleEnd cycleResults
  generalize cycleFuncs s.wnt i s.now (bit (freeNow s) 0) = w
  exact endMetTests_keeps (·.cycle) ..

theorem testBit_cycleResults_cmd {s : State} {before w : Walnut} {q : Nat} (hq : q < 8) (h : (cycleResults s before w).cmd.testBit q = true) :
    w.cmd.testBit q = true := by
  unfold cycleResults at h
  have hon := testBit_endMetTests_cmd hq h
  exact hon

theorem testBit_cycleResults_evaluated {s : State} {before w : Walnut} {q : Nat} (hq : q < 8)
    (h : (cycleResults s before w).evaluated.testBit q = true) :
    (outputsOn (walnutView (modWnt (freeNext s) (fun _ => w)))
      (shownIsland (walnutView (modWnt (freeNext s) (fun _ => w))) (if owner s then [] else w.lastMsg))).testBit q = true := by
  unfold cycleResults at h
  have hon := testBit_endMetTests_evaluated hq h
  exact hon

theorem walnutView_of_owner {s : State} {w : Walnut} (h : owner s = true) : walnutView (modWnt (freeNext s) fun _ => w) = w := if_pos h

theorem outputOn_iff (w : Walnut) (island q : Nat) : outputOn w island q = true ↔ island < 2 ∧ (∃ f < 8, names w f q = true)
    ∧ (∀ f < 8, names w f q = true → allows w f q = true) ∧ outFault w q = false ∧ groupReady w q = true := by
  simp only [outputOn, Bool.and_eq_true, decide_eq_true_eq, List.any_eq_true, List.all_eq_true, mem_eight, Bool.or_eq_true, Bool.not_eq_true',
    and_assoc, ← imp_iff_not_or, ← Bool.not_eq_true]

theorem stops_of_islandState_lt {w : Walnut} (h : islandState w < 2) : w.stops = [] := by
  by_contra hs
  simp [islandState, hs] at h

/-- Settles O31: what the cross-check leaves is commanded, what the evaluation of the same cycle leaves is evaluated on; the end of met
tests only takes outputs away, and message accounting changes nothing where no cause of SAFE_STOPPED is present. -/
theorem safeOutputsNeedEveryFunction : Obligations.SafeOutputsNeedEveryFunction := by
  intro i s
  obtain ⟨t, ht, u, words, hu, hw⟩ := exec_safetyCycle i s
  have hkeep {β : Type} (g : Walnut → β)
      (hg : ∀ (w : Walnut) a b c d e, g { w with stops := a, locked := b, cause := c, governing := d, pendingSet := e } = g w)
      (hm : ∀ (w : Walnut) a b c d, g { w with arrived := a, lost := b, msgErr := c, partnerOk := d } = g w)
      (hs : ∀ (w : Walnut) a, g { w with shown := a } = g w) : g t.wnt = g (cycleEnd s i) := by
    rw [hw, hs, missingMessage_keeps g u hg hm, hu]
  refine ⟨t, ht, ?_, ?_, fun q hq h => ?_, fun ho q hq h => ?_⟩
  · calc t.wnt.image = (cycleEnd s i).image := hkeep (·.image) (by intros; rfl) (by intros; rfl) (by intros; rfl)
      _ = (cycleFuncs s.wnt i s.now (bit (freeNow s) 0)).image := cycleEnd_keeps (·.image) s i
      _ = s.wnt.inputs := cycleFuncs_keeps (·.image) ..
  · calc t.wnt.cycle = (cycleEnd s i).cycle := hkeep (·.cycle) (by intros; rfl) (by intros; rfl) (by intros; rfl)
      _ = ((cycleFuncs s.wnt i s.now (bit (freeNow s) 0)).cycle + 1) % 4294967296 := cycle_cycleEnd s i
      _ = (s.wnt.cycle + 1) % 4294967296 := by rw [cycleFuncs_keeps (·.cycle)]; rfl
  · rw [hkeep (·.cmd) (by intros; rfl) (by intros; rfl) (by intros; rfl)] at h
    have h2 : (cycleFuncs s.wnt i s.now (bit (freeNow s) 0)).cmd.testBit q = true := testBit_cycleResults_cmd hq h
    rw [cycleFuncs_keeps (·.cmd)] at h2
    exact testBit_crossCheck_cmd hq h2
  · rw [hkeep (·.evaluated) (by intros; rfl) (by intros; rfl) (by intros; rfl)] at h
    have h2 := testBit_cycleResults_evaluated hq h
    rw [walnutView_of_owner ho, if_pos ho] at h2
    generalize hwf : cycleFuncs s.wnt i s.now (bit (freeNow s) 0) = w at h2
    rw [outputsOn, testBit_bits8 _ hq, outputOn_iff] at h2
    obtain ⟨hisland, -, hallow, hfault, -⟩ := h2
    have hown : shownIsland w [] = islandState w := by
      unfold shownIsland
      simp [islandRank]
    rw [hown] at hisland
    have hstops : (cycleEnd s i).stops = [] := by
      rw [cycleEnd_keeps (·.stops) s i, hwf]
      exact stops_of_islandState_lt hisland
    have hto {β : Type} (g : Walnut → β) (hg : ∀ (w : Walnut) e, g { w with pendingSet := e } = g w)
        (hm : ∀ (w : Walnut) a b c d, g { w with arrived := a, lost := b, msgErr := c, partnerOk := d } = g w)
        (hs : ∀ (w : Walnut) a, g { w with shown := a } = g w) : g t.wnt = g (cycleEnd s i) := by
      rw [hw, hs, missingMessage_keeps_of_no_stops g u (hu ▸ hstops) hg hm, hu]
    refine ⟨?_, ?_, fun f hf hn => ?_⟩
    · rw [hto islandState (by intros; rfl) (by intros; rfl) (by intros; rfl), cycleEnd_keeps islandState, hwf]
      exact hisland
    · rw [hto (outFault · q) (by intros; rfl) (by intros; rfl) (by intros; rfl)]
      rw [outFault_cycleEnd, hwf]
      exact hfault
    · rw [hto (names · f q) (by intros; rfl) (by intros; rfl) (by intros; rfl), cycleEnd_keeps (names · f q), hwf] at hn
      rw [hto (allows · f q) (by intros; rfl) (by intros; rfl) (by intros; rfl), cycleEnd_keeps (allows · f q), hwf]
      exact hallow f hf hn

end Sys2Proof
end

section
/-! PROOFS. Safe inputs, their latches, the speeds and the reset edge (O32). -/
namespace Sys2Proof
open Sys2Proof.Machine

set_option Elab.async false

/-- Taking the power of a set bit away clears that bit and no other. -/
theorem testBit_sub_two_pow {n k : Nat} (h : n.testBit k = true) (j : Nat) : (n - 2 ^ k).testBit j = (n.testBit j && decide (j ≠ k)) := by
  induction k generalizing n j with
  | zero =>
    rw [Nat.testBit_zero, decide_eq_true_eq] at h
    cases j with
    | zero =>
      simp
      omega
    | succ j =>
      have hdiv : (n - 1) / 2 = n / 2 := by omega
      simp [Nat.testBit_succ, hdiv]
  | succ k ih =>
    have hk : (n / 2).testBit k = true := by rwa [Nat.testBit_div_two]
    have hle := Nat.ge_two_pow_of_testBit hk
    cases j with
    | zero =>
      have hmod : (n - 2 ^ (k + 1)) % 2 = n % 2 := by omega
      simp [hmod]
    | succ j =>
      have hdiv : (n - 2 ^ (k + 1)) / 2 = n / 2 - 2 ^ k := by omega
      rw [Nat.testBit_succ, hdiv, ih hk, Nat.testBit_div_two]
      simp

/-! ## What a latched fault does to functions -/

/-- A function as `stopFunc` leaves it. -/
def stoppedFunc (x : SafeFunc) (cause : Nat) (fault : Bool) : SafeFunc :=
  if x.st = 2 then { x with fault := x.fault || fault } else { x with st := 2, cause := cause, fault := x.fault || fault }

theorem stoppedFunc_st (x : SafeFunc) (cause : Nat) (fault : Bool) : (stoppedFunc x cause fault).st = 2 := by
  unfold stoppedFunc
  split
  · assumption
  · rfl

theorem stoppedFunc_fault (x : SafeFunc) (cause : Nat) (fault : Bool) : (stoppedFunc x cause fault).fault = (x.fault || fault) := by
  unfold stoppedFunc
  split <;> rfl

theorem sfunc_stopFunc (w : Walnut) (f cause : Nat) (fault : Bool) :
    sfunc (stopFunc w f cause fault) f = stoppedFunc (sfunc w f) cause fault := by
  unfold stopFunc stoppedFunc
  dsimp only
  split <;> exact sfunc_setSfunc ..

theorem sfunc_stopFunc_ne (w : Walnut) {f j : Nat} (cause : Nat) (fault : Bool) (h : j ≠ f) : sfunc (stopFunc w f cause fault) j = sfunc w j := by
  unfold stopFunc
  dsimp only
  split <;> exact sfunc_setSfunc_ne _ _ h

theorem sfunc_stopFuncs (w : Walnut) (p : Nat → Bool) (cause : Nat) (fault : Bool) (f : Nat) :
    sfunc (stopFuncs w p cause fault) f =
      if f < 8 then if defined w f && p f then stoppedFunc (sfunc w f) cause fault else sfunc w f else sfunc w f := by
  have h := foldl_get_mem sfunc (fun w => { w with funcs := [] })
    (fun w f => if defined w f && p f then stopFunc w f cause fault else w)
    (fun v f x => if defined v f && p f then stoppedFunc x cause fault else x)
    (fun w k => by
      split
      · exact stopFunc_keeps (fun w => { w with funcs := [] }) w k cause fault
      · rfl)
    (fun w k => by
      change sfunc (if defined w k && p k then _ else _) k = if defined w k && p k then _ else _
      split
      · exact sfunc_stopFunc ..
      · rfl)
    (fun w k j hj => by
      split
      · exact sfunc_stopFunc_ne _ _ _ hj
      · rfl) eight eight_nodup w f
  simp only [mem_eight] at h
  exact h

theorem sfunc_settle (w : Walnut) (f : Nat) : sfunc (settle w) f = sfunc w f := settle_keeps (sfunc · f) w

theorem sfunc_endMetTests (before w : Walnut) (now f : Nat) : sfunc (endMetTests before w now) f = sfunc w f := endMetTests_keeps (sfunc · f) ..

theorem spair_endMetTests (before w : Walnut) (now k : Nat) : spair (endMetTests before w now) k = spair w k := endMetTests_keeps (spair · k) ..

/-- The defined functions that `stopFuncs` names are STOPPED. -/
theorem stopFuncs_st {w : Walnut} {p : Nat → Bool} {f : Nat} (cause : Nat) (fault : Bool) (hf : f < 8) (hd : defined w f = true) (hp : p f = true) :
    (sfunc (stopFuncs w p cause fault) f).st = 2 := by
  rw [sfunc_stopFuncs, if_pos hf, hd, hp]
  exact stoppedFunc_st ..

/-- The defined functions that `stopFuncs` names with a fault are STOPPED with a fault. -/
theorem stopFuncs_fault {w : Walnut} {p : Nat → Bool} {f : Nat} (cause : Nat) (hf : f < 8) (hd : defined w f = true) (hp : p f = true) :
    (sfunc (stopFuncs w p cause true) f).st = 2 ∧ (sfunc (stopFuncs w p cause true) f).fault = true := by
  refine ⟨stopFuncs_st cause true hf hd hp, ?_⟩
  rw [sfunc_stopFuncs, if_pos hf, hd, hp]
  exact (stoppedFunc_fault ..).trans (Bool.or_true _)

/-- A pair that latches `x` shows it, and every function that demands through it is STOPPED with a fault. -/
theorem latchedPair (before w : Walnut) (now k : Nat) (x : SafePair) (cause : Nat) :
    let t := endMetTests before (settle (stopByPair (setSpair w k x) k cause)) now
    spair t k = x ∧ ∀ f < 8, defined w f = true → (demandMask w f).testBit k = true → (sfunc t f).st = 2 ∧ (sfunc t f).fault = true := by
  refine ⟨?_, fun f hf hd hm => ?_⟩
  · rw [spair_endMetTests, settle_keeps (spair · k), stopByPair, stopFuncs_keeps (spair · k), spair_setSpair]
  · rw [sfunc_endMetTests, sfunc_settle]
    exact stopFuncs_fault cause hf hd hm

/-! ## The dark pulses of a test source -/

/-- One pair at the dark pulse of a test source. -/
def darkStep (b : Bool) (reads : BitVec 16) (s : State) (k : Nat) : State :=
  let m := pairMode s.wnt k
  if pairSrc s.wnt k && (decide (m = 1) || (decide (m = 3) && b)) then
    let x := spair s.wnt k
    let on := reads.toNat.testBit (2 * k + b2n b)
    let run := if on then (if b then x.darkOdd else x.darkEven) + 1 else 0
    let s2 := modWnt s (fun w => setSpair w k (if b then { x with darkOdd := min run 2 } else { x with darkEven := min run 2 }))
    if 2 ≤ run then latchCross s2 k else s2
  else s

/-- No confirmed set waits to govern in `w`; `w'` has the same governing set and none waiting either, and the pairs of `w` but for `k`. -/
structure darkKept (k : Nat) (w w' : Walnut) : Prop where
  governing : w'.governing = w.governing
  stops : 20 ∉ w'.stops
  others : ∀ j, j ≠ k → spair w' j = spair w j

theorem settle_of_no_set {w : Walnut} (h : 20 ∉ w.stops) : (settle w).governing = w.governing ∧ 20 ∉ (settle w).stops := by
  unfold settle
  split
  · exact ⟨if_neg (by simpa using h), List.not_mem_nil⟩
  · exact ⟨rfl, h⟩

theorem latchCross_wnt (s : State) (k : Nat) : (latchCross s k).wnt = endMetTests s.wnt (settle (stopByPair (setSpair s.wnt k
    { spair s.wnt k with on := false, bothOff := false, firstOn := none, cross := true }) k 3)) s.now := rfl

theorem latchCross_darkKept (s : State) (k : Nat) (h : 20 ∉ s.wnt.stops) : darkKept k s.wnt (latchCross s k).wnt := by
  rw [latchCross_wnt]
  generalize ({ spair s.wnt k with on := false, bothOff := false, firstOn := none, cross := true } : SafePair) = x
  have hstops : (stopByPair (setSpair s.wnt k x) k 3).stops = s.wnt.stops := by
    rw [stopByPair, stopFuncs_keeps (·.stops)]
    rfl
  obtain ⟨hg, hs⟩ := settle_of_no_set (w := stopByPair (setSpair s.wnt k x) k 3) (by rwa [hstops])
  refine ⟨?_, ?_, fun j hj => ?_⟩
  · rw [endMetTests_keeps (·.governing), hg, stopByPair, stopFuncs_keeps (·.governing)]
    rfl
  · rwa [endMetTests_keeps (·.stops)]
  · rw [spair_endMetTests, settle_keeps (spair · j), stopByPair, stopFuncs_keeps (spair · j), spair_setSpair_ne _ _ hj]

theorem latchCross_cross (s : State) (k : Nat) : (spair (latchCross s k).wnt k).cross = true :=
  congrArg SafePair.cross (latchedPair s.wnt s.wnt s.now k { spair s.wnt k with on := false, bothOff := false, firstOn := none, cross := true } 3).1

/-- What a dark pulse can do with a pair: nothing, count the readings of the channel, and then latch. -/
theorem darkStep_cases {P : State → Prop} (b : Bool) (reads : BitVec 16) (s : State) (k : Nat) (hs : P s)
    (hcount : ∀ x, P (modWnt s fun w => setSpair w k x)) (hlatch : ∀ x, P (latchCross (modWnt s fun w => setSpair w k x) k)) :
    P (darkStep b reads s k) := by
  have hcross (c : Prop) [Decidable c] (x : SafePair) :
      P (if c then latchCross (modWnt s fun w => setSpair w k x) k else modWnt s fun w => setSpair w k x) := by
    split
    · exact hlatch x
    · exact hcount x
  unfold darkStep
  dsimp only
  split
  · exact hcross _ _
  · exact hs

theorem darkStep_darkKept (b : Bool) (reads : BitVec 16) (s : State) (k : Nat) (h : 20 ∉ s.wnt.stops) :
    darkKept k s.wnt (darkStep b reads s k).wnt := by
  have hset (x : SafePair) : darkKept k s.wnt (modWnt s (fun w => setSpair w k x)).wnt := ⟨rfl, h, fun j hj => spair_setSpair_ne _ _ hj⟩
  refine darkStep_cases (P := fun t => darkKept k s.wnt t.wnt) b reads s k ⟨rfl, h, fun _ _ => rfl⟩ hset fun x => ?_
  have hlatch := latchCross_darkKept (modWnt s (fun w => setSpair w k x)) k h
  exact ⟨hlatch.governing.trans (hset x).governing, hlatch.stops, fun j hj => (hlatch.others j hj).trans ((hset x).others j hj)⟩

/-- Pair `k` is checked on the test source, reads on, and has read on in the last dark pulse. -/
def darkAgain (b : Bool) (reads : BitVec 16) (w : Walnut) (k : Nat) : Prop :=
  pairSrc w k = true ∧ (pairMode w k = 1 ∨ pairMode w k = 3 ∧ b = true) ∧ reads.getLsbD (2 * k + b2n b) = true
    ∧ 1 ≤ (if b then (spair w k).darkOdd else (spair w k).darkEven)

theorem darkStep_cross {b : Bool} {reads : BitVec 16} {s : State} {k : Nat} (h : darkAgain b reads s.wnt k) :
    (spair (darkStep b reads s k).wnt k).cross = true := by
  obtain ⟨hsrc, hmode, hreads, hdark⟩ := h
  have hm : (pairSrc s.wnt k && (decide (pairMode s.wnt k = 1) || (decide (pairMode s.wnt k = 3) && b))) = true := by
    simpa [hsrc] using hmode
  have hbit : reads.toNat.testBit (2 * k + b2n b) = true := hreads
  unfold darkStep
  dsimp only
  rw [if_pos hm, if_pos (by rw [if_pos hbit]; exact Nat.succ_le_succ hdark)]
  exact latchCross_cross _ _

theorem darkAgain.of_kept {b : Bool} {reads : BitVec 16} {w w' : Walnut} {j k : Nat} (h : darkAgain b reads w k) (hk : darkKept j w w')
    (hj : k ≠ j) : darkAgain b reads w' k := by
  unfold darkAgain pairSrc pairMode wparam at h ⊢
  rwa [hk.governing, hk.others k hj]

theorem foldl_darkStep_others (b : Bool) (reads : BitVec 16) (k : Nat) (l : List Nat) (s : State) (h : 20 ∉ s.wnt.stops) (hk : k ∉ l) :
    spair (l.foldl (darkStep b reads) s).wnt k = spair s.wnt k := by
  induction l generalizing s with
  | nil => rfl
  | cons j l ih =>
    rw [List.mem_cons, not_or] at hk
    have hstep := darkStep_darkKept b reads s j h
    exact (ih _ hstep.stops hk.2).trans (hstep.others k hk.1)

theorem foldl_darkStep_cross (b : Bool) (reads : BitVec 16) (k : Nat) (l : List Nat) (hl : l.Nodup) (s : State) (h : 20 ∉ s.wnt.stops)
    (hk : k ∈ l) (hd : darkAgain b reads s.wnt k) : (spair (l.foldl (darkStep b reads) s).wnt k).cross = true := by
  induction l generalizing s with
  | nil => cases hk
  | cons j l ih =>
    obtain ⟨hj, hl⟩ := List.nodup_cons.mp hl
    have hstep := darkStep_darkKept b reads s j h
    by_cases hkj : k = j
    · subst hkj
      rw [List.foldl_cons, foldl_darkStep_others b reads k l _ hstep.stops hj]
      exact darkStep_cross hd
    · exact ih hl _ hstep.stops ((List.mem_cons.mp hk).resolve_left hkj) (hd.of_kept hstep hkj)

theorem latchCross_keeps_dark (b : Bool) (s : State) (k : Nat) :
    (if b then (latchCross s k).wnt.darkB else (latchCross s k).wnt.darkA) = if b then s.wnt.darkB else s.wnt.darkA := by
  rw [latchCross_wnt, endMetTests_keeps (fun w => if b then w.darkB else w.darkA), settle_keeps (fun w => if b then w.darkB else w.darkA),
    stopByPair, stopFuncs_keeps (fun w => if b then w.darkB else w.darkA)]
  rfl

theorem foldl_darkStep_dark (b : Bool) (reads : BitVec 16) (l : List Nat) (s : State) :
    (if b then (l.foldl (darkStep b reads) s).wnt.darkB else (l.foldl (darkStep b reads) s).wnt.darkA) = if b then s.wnt.darkB else s.wnt.darkA :=
  foldl_keeps (fun s : State => if b then s.wnt.darkB else s.wnt.darkA) (darkStep b reads)
    (fun s k => darkStep_cases (P := fun t => (if b then t.wnt.darkB else t.wnt.darkA) = if b then s.wnt.darkB else s.wnt.darkA) b reads s k rfl
      (fun _ => rfl) (fun _ => latchCross_keeps_dark b _ k)) l s

/-! ## Changes of role -/

section
variable {β : Type} (g : Walnut → β)

theorem scheduleTests_keeps (w : Walnut) (now : Nat) (hg : ∀ (w : Walnut) a, g { w with outs := a } = g w := by intros; rfl) :
    g (scheduleTests w now) = g w := foldl_keeps g _ (fun w _ => hg w _) _ _

theorem roleTests_keeps_wnt (s : State) (takes : Bool) (hg : ∀ (w : Walnut) a, g { w with outs := a } = g w := by intros; rfl) :
    g (roleTests s takes).wnt = g s.wnt := by
  unfold roleTests
  dsimp only
  split
  · exact (scheduleTests_keeps g _ _ hg).trans (hg ..)
  · exact hg ..

/-- A change of role only ends and schedules the tests of Walnut's outputs. -/
theorem changeRole_keeps_wnt (s : State) (r : Role) (cause : Nat) (hg : ∀ (w : Walnut) a, g { w with outs := a } = g w := by intros; rfl) :
    g (changeRole s r cause).wnt = g s.wnt := by
  have hafter (t : State) (h : g t.wnt = g s.wnt) (p q : Prop) [Decidable p] [Decidable q] (b : Bool) :
      let s3 := endInjections t 5
      let s4 := if p then truncateCaptures s3 else s3
      let s5 := if q then ppdRaise s4 2 else s4
      g (if b then s5 else leaveField s5).wnt = g s.wnt := by
    intro s3 s4 s5
    have h3 : g s3.wnt = g s.wnt := by rw [(endInjections_changes t 5).wnt_eq, h]
    have h4 : g s4.wnt = g s.wnt := by
      simp only [s4]
      split
      · rw [(truncateCaptures_changes s3).wnt_eq, h3]
      · exact h3
    have h5 : g s5.wnt = g s.wnt := by
      simp only [s5]
      split
      · rw [(ppdRaise_changes s4 2).wnt_eq, h4]
      · exact h4
    split
    · exact h5
    · rw [(leaveField_changes s5).wnt_eq, h5]
  unfold changeRole
  dsimp only
  split
  · split <;> rfl
  · refine hafter _ ?_ _ _ _
    refine (roleTests_keeps_wnt g _ _ hg).trans ?_
    exact congrArg g (post_wnt s .pairRoleChange 0 (roleCode r) cause (roleCode s.pair.role))

theorem yieldField_keeps_wnt (s : State) (hg : ∀ (w : Walnut) a, g { w with outs := a } = g w := by intros; rfl) :
    g (yieldField s).wnt = g s.wnt := by
  unfold yieldField
  split
  · rw [(ppdRaise_changes _ 1).wnt_eq, changeRole_keeps_wnt g _ _ _ hg]
    exact congrArg g (send_wnt s .yield)
  · rfl

theorem degradedYield_keeps_wnt (before : Nat) (s : State) (hg : ∀ (w : Walnut) a, g { w with outs := a } = g w := by intros; rfl) :
    g (degradedYield before s).wnt = g s.wnt := by
  unfold degradedYield
  split
  · exact yieldField_keeps_wnt g s hg
  · rfl

end

/-! ## The reset edge -/

/-- `w` as a reset edge leaves its lock: the jam flag, the lock with its cause, and the power-up mark. -/
def relocked (w : Walnut) (jammed locked : Bool) (cause : Nat) (powerUp : Bool) : Walnut :=
  { w with resetJammed := jammed, locked := locked, cause := cause, powerUp := powerUp }

/-- The outputs of `clearOutputs`, before its group series elements. -/
def clearedFaults (w : Walnut) : Walnut :=
  eight.foldl (fun v q => if outFault v q && (!w.readback.testBit q && !w.cmd.testBit q)
    then setSout v q { sout v q with short := false, mismatchHigh := false, mismatchLow := false, testFail := false } else v) w

theorem clearOutputs_eq (w : Walnut) : clearOutputs w = { clearedFaults w with
    groupOpen0 := (clearedFaults w).groupOpen0 && !([0, 1, 2, 3].all fun q => !w.readback.testBit q && !w.cmd.testBit q)
    groupOpen1 := (clearedFaults w).groupOpen1 && !([4, 5, 6, 7].all fun q => !w.readback.testBit q && !w.cmd.testBit q) } := rfl

theorem clearedFaults_relocked (w : Walnut) (j l : Bool) (c : Nat) (p : Bool) :
    clearedFaults (relocked w j l c p) = relocked (clearedFaults w) j l c p :=
  List.foldl_hom (fun w => relocked w j l c p) fun v q => by
    rw [apply_ite (fun w => relocked w j l c p)]
    rfl

theorem clearOutputs_relocked (w : Walnut) (j l : Bool) (c : Nat) (p : Bool) :
    clearOutputs (relocked w j l c p) = relocked (clearOutputs w) j l c p := by
  rw [clearOutputs_eq, clearOutputs_eq, clearedFaults_relocked]
  generalize clearedFaults w = v
  rfl

theorem clearOutputs_keeps {β : Type} (g : Walnut → β) (w : Walnut)
    (hg : ∀ (w : Walnut) a b c, g { w with outs := a, groupOpen0 := b, groupOpen1 := c } = g w := by intros; rfl) : g (clearOutputs w) = g w := by
  unfold clearOutputs
  refine (hg _ _ _ _).trans ?_
  refine foldl_keeps g _ (fun w q => ?_) _ _
  split
  · exact hg w _ w.groupOpen0 w.groupOpen1
  · rfl

/-- One function as a reset edge leaves it, on an island whose other records are those of `w`. -/
def edgeFunc (w : Walnut) (f : Nat) (x : SafeFunc) : SafeFunc :=
  if !defined w f ∨ x.st ≠ 2 then x
  else if faultStands w f ∨ demandOff w f then { x with fault := faultStands w f, ramp := false }
  else { x with st := 0, fault := false, ramp := false }

theorem resetFunc_keeps {β : Type} (g : Walnut → β) (w : Walnut) (f : Nat)
    (hg : ∀ (w : Walnut) a, g { w with funcs := a } = g w := by intros; rfl) : g (resetFunc w f) = g w := by
  unfold resetFunc
  dsimp only
  split
  · rfl
  split <;> exact hg ..

theorem sfunc_resetFunc (w : Walnut) (f : Nat) : sfunc (resetFunc w f) f = edgeFunc { w with funcs := [] } f (sfunc w f) := by
  unfold resetFunc
  dsimp only
  rw [apply_ite (sfunc · f), apply_ite (sfunc · f), sfunc_setSfunc, sfunc_setSfunc]
  rfl

theorem sfunc_resetFunc_ne (w : Walnut) {f j : Nat} (h : j ≠ f) : sfunc (resetFunc w f) j = sfunc w j := by
  unfold resetFunc
  dsimp only
  split
  · rfl
  split <;> exact sfunc_setSfunc_ne _ _ h

theorem sfunc_resetAll (w : Walnut) (f : Nat) (hf : f < 8) : sfunc (eight.foldl resetFunc w) f = edgeFunc { w with funcs := [] } f (sfunc w f) := by
  have h := foldl_get_mem sfunc (fun w => { w with funcs := [] }) resetFunc edgeFunc
    (fun w k => resetFunc_keeps (fun w => { w with funcs := [] }) w k) sfunc_resetFunc (fun w k j => sfunc_resetFunc_ne w) eight eight_nodup w f
  rwa [if_pos (mem_eight.mpr hf)] at h

theorem edgeFunc_relocked (w : Walnut) (j l : Bool) (c : Nat) (p : Bool) (f : Nat) :
    edgeFunc { relocked w j l c p with funcs := [] } f (sfunc (relocked w j l c p) f) = edgeFunc w f (sfunc w f) := rfl

theorem edgeFunc_st {w : Walnut} {f : Nat} {x : SafeFunc} (hd : defined w f = true) (hx : x.st = 2) :
    (edgeFunc w f x).st = if faultStands w f || demandOff w f then 2 else 0 := by
  unfold edgeFunc
  rw [if_neg (by simp [hd, hx])]
  by_cases h : faultStands w f = true ∨ demandOff w f = true
  · rw [if_pos h, if_pos (by simpa using h), hx]
  · rw [if_neg h, if_neg (by simpa using h)]

/-- The island after a reset edge that counts. -/
def resetWnt (w : Walnut) : Walnut :=
  eight.foldl resetFunc (clearOutputs (relocked w false false (if w.locked then 0 else w.cause) (if w.locked then false else w.powerUp)))

theorem resetWnt_locked (w : Walnut) : (resetWnt w).locked = false := by
  rw [resetWnt, foldl_keeps (fun w : Walnut => w.locked) resetFunc (fun w k => resetFunc_keeps (·.locked) w k), clearOutputs_relocked]
  rfl

theorem resetWnt_func (w : Walnut) (f : Nat) (hf : f < 8) (hd : defined w f = true) (hst : (sfunc w f).st = 2) :
    (sfunc (resetWnt w) f).st = if faultStands (clearOutputs w) f || demandOff w f then 2 else 0 := by
  generalize hc : (if w.locked then 0 else w.cause) = c
  generalize hp : (if w.locked then false else w.powerUp) = p
  have hd2 : defined (clearOutputs w) f = true := (clearOutputs_keeps (defined · f) w).trans hd
  have hst2 : (sfunc (clearOutputs w) f).st = 2 := (congrArg SafeFunc.st (clearOutputs_keeps (sfunc · f) w)).trans hst
  have hdem : demandOff (clearOutputs w) f = demandOff w f := clearOutputs_keeps (demandOff · f) w
  rw [resetWnt, hc, hp, sfunc_resetAll _ f hf, clearOutputs_relocked, edgeFunc_relocked]
  rw [edgeFunc_st hd2 hst2, hdem]

theorem unlocked_eq (w : Walnut) : (if w.locked then { { w with resetJammed := false } with locked := false, cause := 0, powerUp := false }
    else { w with resetJammed := false }) =
    relocked w false false (if w.locked then 0 else w.cause) (if w.locked then false else w.powerUp) := by
  by_cases hl : w.locked = true
  · rw [if_pos hl, if_pos hl, if_pos hl]
    rfl
  · rw [if_neg hl, if_neg hl, if_neg hl]
    rw [Bool.not_eq_true] at hl
    change relocked w false w.locked w.cause w.powerUp = _
    rw [hl]

theorem exec_resetEdge {s : State} (hb : s.wnt.halfB = true) (hr : hasReset s.wnt = true) (hh : resetHeldOff s.wnt = false)
    (hi : islandState s.wnt ≠ 2) : ∃ refused : List Nat, exec .resetEdge s = .next (degradedYield (islandState s.wnt)
      (refused.foldl (fun s f => post s .safeResetRefused f f 0 0) (modWnt s (fun _ => resetWnt s.wnt)))) := by
  refine ⟨eight.filter (fun f => defined s.wnt f && decide ((sfunc s.wnt f).st = 2) && demandOff s.wnt f), ?_⟩
  change execResetEdge s = _
  unfold execResetEdge
  dsimp only
  rw [if_neg (by simp [hb, hr, hh]), if_neg hi]
  exact congrArg (fun w => Host.Outcome.next (degradedYield (islandState s.wnt)
    (List.foldl _ (modWnt s fun _ => eight.foldl resetFunc (clearOutputs w)) _))) (unlocked_eq s.wnt)

theorem refusals_wnt (refused : List Nat) (s : State) : (refused.foldl (fun s f => post s .safeResetRefused f f 0 0) s).wnt = s.wnt :=
  foldl_keeps (fun s : State => s.wnt) _ (fun _ _ => post_wnt ..) _ _

theorem testBit_inputBit (n c : Nat) (on : Bool) (k : Nat) :
    (if on then n ||| 2 ^ c else if n.testBit c then n - 2 ^ c else n).testBit k = if k = c then on else n.testBit k := by
  cases on with
  | true =>
    simp only [if_true, Nat.testBit_or, Nat.testBit_two_pow]
    by_cases hk : k = c <;> simp [hk, eq_comm (a := c)]
  | false =>
    by_cases hn : n.testBit c = true
    · simp only [Bool.false_eq_true, if_false, if_pos hn, testBit_sub_two_pow hn]
      by_cases hk : k = c <;> simp [hk]
    · simp only [Bool.false_eq_true, if_false, if_neg hn]
      by_cases hk : k = c <;> simp [hk, hn]

theorem demandWnt_wnt (s : State) (g : Walnut → Walnut) : (demandWnt s g).wnt = endMetTests s.wnt (g s.wnt) s.now := rfl

theorem defined_of_speedOf {w : Walnut} {f i : Nat} (h : speedOf w f = some i) : defined w f = true := by
  unfold speedOf at h
  split at h
  · next hk => simp [defined, hk]
  · cases h

theorem exec_testSourceDark (b : Bool) (reads : BitVec 16) (s : State) (hc : conducting s = true) :
    ∃ t, exec (.testSourceDark b reads) s = .next t ∧ (if b then t.wnt.darkB else t.wnt.darkA) = some s.now
    ∧ (owner s = true → 20 ∉ s.wnt.stops → ∀ k < 8, darkAgain b reads s.wnt k → (spair t.wnt k).cross = true) := by
  let s1 := modWnt s (fun w => if b then { w with darkB := some s.now } else { w with darkA := some s.now })
  have hnow : (if b then s1.wnt.darkB else s1.wnt.darkA) = some s.now := by cases b <;> rfl
  have hstops : s1.wnt.stops = s.wnt.stops := by cases b <;> rfl
  have hagain (k : Nat) : darkAgain b reads s.wnt k → darkAgain b reads s1.wnt k := by cases b <;> exact id
  have hcn : ¬(!conducting s) = true := by simp [hc]
  by_cases ho : owner s = true
  · have hexec : exec (.testSourceDark b reads) s = .next (eight.foldl (darkStep b reads) s1) := (if_neg hcn).trans (if_neg (by simp [ho]))
    refine ⟨_, hexec, (foldl_darkStep_dark b reads eight s1).trans hnow, fun _ hs k hk hd => ?_⟩
    exact foldl_darkStep_cross b reads k eight eight_nodup s1 (hstops ▸ hs) (mem_eight.mpr hk) (hagain k hd)
  · have hexec : exec (.testSourceDark b reads) s = .next s1 := (if_neg hcn).trans (if_pos (by simpa using ho))
    exact ⟨_, hexec, hnow, fun h => absurd h ho⟩

/-- Settles O32, clause by clause: the rules of pairs, functions and speeds above. -/
theorem safetyInputsAndReset : Obligations.SafetyInputsAndReset := by
  refine ⟨fun ch on s h => ?_, fun p s hm hne hon => ?_, fun p s ho hsrc hm => ?_, fun b reads s hc => ?_, fun b reads s hc => ?_,
    fun i halfB s hm => ?_, fun i s hm => ?_, fun s hb hr hh hi => ?_, fun s h => ?_, fun s hr hb => ?_⟩
  · have hexec : exec (.safeInputChange ch on) s = .next (modWnt s (fun w => { w with
        inputs := if on then w.inputs ||| 2 ^ ch.val else if w.inputs.testBit ch.val then w.inputs - 2 ^ ch.val else w.inputs })) := if_pos h
    have hbit (k : Nat) := testBit_inputBit s.wnt.inputs ch.val on k
    exact ⟨_, hexec, (hbit ch.val).trans (if_pos rfl), fun k hk => (hbit k).trans (if_neg hk)⟩
  · have hexec : exec (.discrepancy p) s = .next (demandWnt s (fun _ => settle (stopByPair (setSpair s.wnt p.val
        { spair s.wnt p.val with on := false, bothOff := false, firstOn := none, discrepancy := true }) p.val 2))) :=
      if_pos ⟨hm, hne, .inr (.inr hon)⟩
    obtain ⟨hpair, hfuncs⟩ := latchedPair s.wnt s.wnt s.now p.val
      { spair s.wnt p.val with on := false, bothOff := false, firstOn := none, discrepancy := true } 2
    exact ⟨_, hexec, congrArg SafePair.discrepancy hpair, congrArg SafePair.on hpair, hfuncs⟩
  · have hexec : exec (.crossCircuit p) s = .next (latchCross s p.val) := if_pos ⟨ho, hsrc, hm⟩
    obtain ⟨hpair, hfuncs⟩ := latchedPair s.wnt s.wnt s.now p.val
      { spair s.wnt p.val with on := false, bothOff := false, firstOn := none, cross := true } 3
    exact ⟨_, hexec, congrArg SafePair.cross hpair, congrArg SafePair.on hpair, hfuncs⟩
  · exact if_pos (by simp [hc])
  · obtain ⟨t, hexec, hdark, hcross⟩ := exec_testSourceDark b reads s hc
    exact ⟨t, hexec, hdark, fun ho hstops k hk hsrc hm hr hd => hcross ho hstops k hk ⟨hsrc, hm, hr, hd⟩⟩
  · refine ⟨_, if_neg (fun h => h hm), ?_⟩
    rw [modWnt_wnt, speed_setSpeed]
    cases halfB <;> exact ⟨rfl, rfl⟩
  · have hexec : exec (.speedDisc i) s = .next (demandWnt s (fun w => settle (stopFuncs
        (setSpeed w i.val { speed w i.val with disc := true, agreed := none }) (fun f => decide (speedOf w f = some i.val)) 6 true))) :=
      if_neg (fun h => h hm)
    refine ⟨_, hexec, ?_, fun f hf hspeed => ?_⟩
    · rw [demandWnt_wnt, endMetTests_keeps (speed · i.val), settle_keeps (speed · i.val), stopFuncs_keeps (speed · i.val), speed_setSpeed]
    · rw [demandWnt_wnt, sfunc_endMetTests, sfunc_settle]
      exact stopFuncs_fault 6 hf (defined_of_speedOf hspeed) (decide_eq_true hspeed)
  · obtain ⟨refused, hexec⟩ := exec_resetEdge hb hr hh hi
    refine ⟨_, hexec, ?_, fun f hf hd hst => ?_⟩
    · rw [degradedYield_keeps_wnt (·.locked), refusals_wnt, modWnt_wnt, resetWnt_locked]
    · rw [degradedYield_keeps_wnt (sfunc · f), refusals_wnt, modWnt_wnt]
      exact resetWnt_func _ f hf hd hst
  · exact if_pos (by simpa using h)
  · exact ⟨_, if_pos (by simp [hr, hb]), by rw [post_wnt]; rfl⟩

end Sys2Proof
end

section
/-! PROOFS. Faults, supplies and tests of the safe outputs (O33). -/
namespace Sys2Proof
open Sys2Proof.Machine

set_option Elab.async false

theorem defined_of_names {w : Walnut} {f q : Nat} (h : names w f q = true) : defined w f = true := (Bool.and_eq_true _ _ ▸ h).1

theorem sout_settle (w : Walnut) (q : Nat) : sout (settle w) q = sout w q := settle_keeps (sout · q) w

/-- Outputs that are opened stay off while the tests that a demand meets end. -/
theorem cmd_opened (before w : Walnut) (now m : Nat) {q : Nat} (hq : q < 8) (hm : m.testBit q = true) :
    (endMetTests before (settle (openOutputs w now m)) now).cmd.testBit q = false := by
  rw [Bool.eq_false_iff]
  intro h
  have hon := testBit_endMetTests_cmd hq h
  rw [settle_keeps (·.cmd), testBit_openOutputs_cmd w now m hq, hm] at hon
  simp at hon

theorem sfunc_opened (before w : Walnut) (now m f : Nat) : sfunc (endMetTests before (settle (openOutputs w now m)) now) f = sfunc w f := by
  rw [sfunc_endMetTests, sfunc_settle, openOutputs_keeps (sfunc · f)]

theorem sout_opened_keeps {β : Type} (g : SafeOutput → β) (before w : Walnut) (now m q : Nat)
    (hg : ∀ (x : SafeOutput) a b c, g { x with test := a, due := b, lightDue := c } = g x := by intros; rfl) :
    g (sout (endMetTests before (settle (openOutputs w now m)) now) q) = g (sout w q) := by
  rw [sout_endMetTests_keeps g before _ now q hg, sout_settle, sout_openOutputs]
  split
  · exact abandonTest_keeps g now _ hg
  · rfl

theorem test_endMetTests {before w : Walnut} {now q : Nat} (h : (sout w q).test = 0) : (sout (endMetTests before w now) q).test = 0 := by
  rcases sout_endMetTests before w now q with hs | hs <;> rw [hs]
  · exact h
  · exact abandonTest_test ..

section
variable (before w : Walnut) (now q : Nat) (x : SafeOutput)

/-- What a latched output fault leaves of the output's record. -/
theorem faultOutput_sout {β : Type} (g : SafeOutput → β)
    (hg : ∀ (x : SafeOutput) a b c, g { x with test := a, due := b, lightDue := c } = g x := by intros; rfl) :
    g (sout (endMetTests before (settle (faultOutput w now q x)) now) q) = g x := by
  rw [faultOutput, sout_opened_keeps g before _ now _ q hg, stopFuncs_keeps (sout · q), sout_setSout]

theorem faultOutput_cmd (hq : q < 8) : (endMetTests before (settle (faultOutput w now q x)) now).cmd.testBit q = false :=
  cmd_opened _ _ _ _ hq Nat.testBit_two_pow_self

theorem faultOutput_funcs {f : Nat} (hf : f < 8) (hn : names w f q = true) :
    (sfunc (endMetTests before (settle (faultOutput w now q x)) now) f).st = 2
      ∧ (sfunc (endMetTests before (settle (faultOutput w now q x)) now) f).fault = true := by
  rw [faultOutput, sfunc_opened]
  exact stopFuncs_fault 4 hf (defined_of_names (w := w) hn) hn

theorem faultOutput_test : (sout (endMetTests before (settle (faultOutput w now q x)) now) q).test = 0 := by
  refine test_endMetTests ?_
  rw [sout_settle, faultOutput, sout_openOutputs, if_pos Nat.testBit_two_pow_self]
  exact abandonTest_test ..

end

/-- Output `r` is in the group that the mask of the low or the high four outputs opens. -/
theorem testBit_groupMask {r : Nat} (hr : r < 8) (low : Bool) : (if low then 0x0F else 0xF0 : Nat).testBit r = decide ((r < 4) ↔ low = true) := by
  cases low <;> interval_cases r <;> rfl

theorem openGroup_wnt (w : Walnut) (now q : Nat) : ∃ v : Walnut,
    (∀ {β : Type} (g : Walnut → β), (∀ (w : Walnut) a b, g { w with groupOpen0 := a, groupOpen1 := b } = g w) → g v = g w)
    ∧ (if q < 4 then v.groupOpen0 else v.groupOpen1) = true
    ∧ openGroup w now q = openOutputs (stopFuncs v (fun f => eight.any (fun r => names w f r && (decide (r < 4) == decide (q < 4)))) 4 true) now
        (if q < 4 then 0x0F else 0xF0) := by
  by_cases hq : q < 4
  · refine ⟨{ w with groupOpen0 := true }, fun g hg => hg w true w.groupOpen1, by rw [if_pos hq], ?_⟩
    simp only [openGroup, hq, decide_true, if_true]
  · refine ⟨{ w with groupOpen1 := true }, fun g hg => hg w w.groupOpen0 true, by rw [if_neg hq], ?_⟩
    simp only [openGroup, hq, decide_false, if_false, Bool.false_eq_true]

theorem safeMismatchHigh (q : Fin 8) (s : State) (ho : owner s = true) (hoff : s.wnt.cmd.testBit q.val = false) :
    ∃ t, exec (.safeOutputFault q .mismatchHigh) s = .next t ∧ (sout t.wnt q.val).mismatchHigh = true
    ∧ (if q.val < 4 then t.wnt.groupOpen0 else t.wnt.groupOpen1) = true
    ∧ ∀ r < 8, (r < 4 ↔ q.val < 4) → t.wnt.cmd.testBit r = false
      ∧ ∀ f < 8, names s.wnt f r = true → (sfunc t.wnt f).st = 2 ∧ (sfunc t.wnt f).fault = true := by
  let x : SafeOutput := { sout s.wnt q.val with mismatchHigh := true }
  have hexec : exec (.safeOutputFault q .mismatchHigh) s
      = .next (demandWnt s (fun w => settle (openGroup (faultOutput w s.now q.val x) s.now q.val))) :=
    (if_neg (by simp [ho])).trans (if_neg (by simp [hoff]))
  obtain ⟨v, hv, hopen, hgroup⟩ := openGroup_wnt (faultOutput s.wnt s.now q.val x) s.now q.val
  refine ⟨_, hexec, ?_⟩
  simp only [demandWnt_wnt, hgroup]
  refine ⟨?_, ?_, fun r hr hrq => ⟨?_, fun f hf hn => ?_⟩⟩
  · rw [sout_opened_keeps (·.mismatchHigh), stopFuncs_keeps (sout · q.val), hv (sout · q.val) (by intros; rfl), faultOutput, sout_openOutputs,
      if_pos Nat.testBit_two_pow_self, abandonTest_keeps (·.mismatchHigh), stopFuncs_keeps (sout · q.val), sout_setSout]
  · rw [endMetTests_keeps (fun w => if q.val < 4 then w.groupOpen0 else w.groupOpen1),
      settle_keeps (fun w => if q.val < 4 then w.groupOpen0 else w.groupOpen1),
      openOutputs_keeps (fun w => if q.val < 4 then w.groupOpen0 else w.groupOpen1),
      stopFuncs_keeps (fun w => if q.val < 4 then w.groupOpen0 else w.groupOpen1)]
    exact hopen
  · refine cmd_opened _ _ _ _ hr ?_
    have hmask := testBit_groupMask hr (decide (q.val < 4))
    simp only [decide_eq_true_eq] at hmask
    rw [hmask]
    simpa using hrq
  · rw [sfunc_opened]
    have hnf : names (faultOutput s.wnt s.now q.val x) f r = true := by
      rw [faultOutput, openOutputs_keeps (names · f r), stopFuncs_keeps (names · f r)]
      exact hn
    have hdv : defined v f = true := (hv (defined · f) (by intros; rfl)).trans (defined_of_names hnf)
    refine stopFuncs_fault 4 hf hdv (List.any_eq_true.mpr ⟨r, mem_eight.mpr hr, ?_⟩)
    simp [hnf, hrq]

theorem testBit_supplyMask {q : Nat} (hq : q < 8) (g : Fin 2) (h : (supplyMask g.val).testBit q = true) : (q < 4 ↔ g.val = 0) := by
  revert h
  fin_cases g <;> interval_cases q <;> decide

theorem demandWnt_const (s : State) (g : Walnut → Walnut) : demandWnt s g = demandWnt s (fun _ => g s.wnt) := by
  simp only [demandWnt, modWnt]

theorem exec_qsupMissing (g : Fin 2) (s : State) : ∃ v : Walnut,
    (∀ {β : Type} (h : Walnut → β), (∀ (w : Walnut) a b, h { w with supply0 := a, supply1 := b } = h w) → h v = h s.wnt)
    ∧ (if g.val = 0 then v.supply0 else v.supply1) = false
    ∧ exec (.qsupMissing g) s
      = .next (demandWnt s (fun _ => settle (openOutputs (stopFuncs v (supplyGone v) 8 false) s.now (supplyMask g.val)))) := by
  by_cases hg : g.val = 0
  · refine ⟨{ s.wnt with supply0 := false }, fun h hh => hh s.wnt false s.wnt.supply1, by rw [if_pos hg], ?_⟩
    refine congrArg Host.Outcome.next ((demandWnt_const s _).trans ?_)
    simp only [hg, if_true]
  · refine ⟨{ s.wnt with supply1 := false }, fun h hh => hh s.wnt s.wnt.supply0 false, by rw [if_neg hg], ?_⟩
    refine congrArg Host.Outcome.next ((demandWnt_const s _).trans ?_)
    simp only [hg, if_false]

/-- A test of an output that fails latches TEST_FAIL, and the test is over. -/
theorem testFailed_wnt (s : State) (q : Nat) (hq : q < 8) : (sout (testFailed s q).wnt q).test = 0 ∧ (sout (testFailed s q).wnt q).testFail = true
    ∧ (testFailed s q).wnt.cmd.testBit q = false :=
  ⟨faultOutput_test .., faultOutput_sout s.wnt s.wnt s.now q { sout s.wnt q with testFail := true, test := 0 } (·.testFail),
    faultOutput_cmd _ _ _ _ _ hq⟩

/-- Settles O33, clause by clause: a fault or a missing supply opens outputs and stops functions, a test starts and ends. -/
theorem safetyOutputsAndTests : Obligations.SafetyOutputsAndTests := by
  refine ⟨fun q s ho hon => ⟨?_, fun hsup => ?_⟩, safeMismatchHigh, fun g s => ?_, fun g s => ?_, fun q s ho hon hdue hquiet => ?_,
    fun q readback s ht => ?_, fun q s ho hc hdue hl hoff hst hf hg hquiet => ?_, fun q readback s ht => ?_, fun opened s hh => ?_⟩
  · let x : SafeOutput := { sout s.wnt q.val with short := true }
    have hexec : exec (.safeOutputFault q .short) s = .next (demandWnt s (fun w => settle (faultOutput w s.now q.val x))) :=
      (if_neg (by simp [ho])).trans (if_pos hon)
    exact ⟨_, hexec, faultOutput_sout s.wnt s.wnt s.now q.val x (·.short), faultOutput_cmd _ _ _ _ _ q.isLt,
      fun f hf hn => faultOutput_funcs _ _ _ _ _ hf hn⟩
  · let x : SafeOutput := { sout s.wnt q.val with mismatchLow := true }
    have hexec : exec (.safeOutputFault q .mismatchLow) s = .next (demandWnt s (fun w => settle (faultOutput w s.now q.val x))) :=
      (if_neg (by simp [ho])).trans (if_pos (by simp [hon, hsup]))
    exact ⟨_, hexec, faultOutput_sout s.wnt s.wnt s.now q.val x (·.mismatchLow), faultOutput_cmd _ _ _ _ _ q.isLt,
      fun f hf hn => faultOutput_funcs _ _ _ _ _ hf hn⟩
  · obtain ⟨v, hv, hsup, hexec⟩ := exec_qsupMissing g s
    refine ⟨_, hexec, ?_, fun q hq hm => ⟨cmd_opened _ _ _ _ hq hm, fun f hf hn => ?_⟩⟩
    · rw [demandWnt_wnt, endMetTests_keeps (fun w => if g.val = 0 then w.supply0 else w.supply1),
        settle_keeps (fun w => if g.val = 0 then w.supply0 else w.supply1), openOutputs_keeps (fun w => if g.val = 0 then w.supply0 else w.supply1),
        stopFuncs_keeps (fun w => if g.val = 0 then w.supply0 else w.supply1)]
      exact hsup
    · rw [demandWnt_wnt, sfunc_opened]
      have hnv : names v f q = true := (hv (names · f q) (by intros; rfl)).trans hn
      refine stopFuncs_st 8 false hf (defined_of_names hnv) (List.any_eq_true.mpr ⟨q, mem_eight.mpr hq, ?_⟩)
      simp only [hnv, Bool.true_and, Bool.not_eq_true']
      rw [← hsup]
      simp only [testBit_supplyMask hq g hm]
  · refine ⟨_, rfl, ?_⟩
    rw [modWnt_wnt]
    fin_cases g <;> exact ⟨rfl, rfl, rfl⟩
  · refine ⟨_, if_pos (by simp [ho, hon, hdue, hquiet]), ?_⟩
    rw [askC0_wnt, modWnt_wnt, sout_setSout]
    exact ⟨rfl, rfl, rfl⟩
  · have hrun : ¬((sout s.wnt q.val).test ≠ 1 ∧ (sout s.wnt q.val).test ≠ 2) := by omega
    by_cases hfail : (readback && s.wnt.cmd.testBit q.val) = true
    · obtain ⟨htest, hlatch, hcmd⟩ := testFailed_wnt s q.val q.isLt
      refine ⟨_, (if_neg hrun).trans (if_pos hfail), htest, ?_, fun _ => hcmd⟩
      rw [hlatch, hfail, Bool.or_true]
    · refine ⟨_, (if_neg hrun).trans (if_neg hfail), ?_⟩
      rw [modWnt_wnt, sout_setSout]
      rw [Bool.not_eq_true] at hfail
      refine ⟨rfl, by rw [hfail, Bool.or_false], fun hr => ?_⟩
      rw [hr, Bool.true_and] at hfail
      exact hfail
  · refine ⟨_, if_pos ?_, ?_⟩
    · have hany : (eight.any fun f => names s.wnt f q.val && decide ((sfunc s.wnt f).st = 1)) = false := by
        rw [List.any_eq_false]
        intro f hf8
        rw [Bool.and_eq_true, decide_eq_true_eq, not_and]
        exact hst f (mem_eight.mp hf8)
      simp [ho, hc, hl, hoff, hany, hf, hg, hdue, hquiet]
    · rw [askC0_wnt, modWnt_wnt, sout_setSout]
  · have hrun : ¬(sout s.wnt q.val).test ≠ 3 := fun h => h ht
    cases readback with
    | true =>
      refine ⟨_, (if_neg hrun).trans (if_pos rfl), ?_⟩
      rw [modWnt_wnt, sout_setSout]
      exact ⟨rfl, (Bool.or_false _).symm⟩
    | false =>
      obtain ⟨htest, hlatch, -⟩ := testFailed_wnt s q.val q.isLt
      refine ⟨_, (if_neg hrun).trans (if_neg Bool.false_ne_true), htest, ?_⟩
      rw [hlatch, Bool.not_false, Bool.or_true]
  · refine ⟨_, if_neg (by simp [hh]), fun q hq hopen => ⟨cmd_opened _ _ _ _ hq hopen, fun f hf hn => ?_⟩⟩
    rw [demandWnt_wnt, sfunc_opened]
    exact stopFuncs_st 10 false hf (defined_of_names hn) (List.any_eq_true.mpr ⟨q, mem_eight.mpr hq, Bool.and_eq_true _ _ ▸ ⟨hopen, hn⟩⟩)

end Sys2Proof
end

section
/-! PROOFS. Answers: what keeps a command's session open and its entry, so that the command can still be answered, and the replies that
follow other work. -/
namespace Sys2Proof
open Sys2Proof.Machine

set_option Elab.async false

/-! ## Sessions and entries kept -/

/-- `d` has the executing entries of `c`, and the same sessions are open. -/
def openKept (c d : Commands) : Prop := d.executing = c.executing ∧ ∀ n, (sessionOf d n).isSome = (sessionOf c n).isSome

theorem openKept.same {c : Commands} : openKept c c := ⟨rfl, fun _ => rfl⟩

theorem openKept.trans {c d e : Commands} (h : openKept c d) (k : openKept d e) : openKept c e := ⟨k.1.trans h.1, fun n => (k.2 n).trans (h.2 n)⟩

/-- An update of the command processor that leaves its sessions and its entries. -/
theorem openKept.update {c d e : Commands} (h : openKept c d) (hs : e.sessions = d.sessions := by rfl)
    (he : e.executing = d.executing := by rfl) : openKept c e :=
  ⟨he.trans h.1, fun n => by rw [← h.2 n, sessionOf, hs, sessionOf]⟩

theorem modSession_openKept (c : Commands) (k : Nat) (f : Session → Session) (hf : ∀ x, (f x).slot = x.slot) : openKept c (modSession c k f) :=
  ⟨rfl, fun n => by rw [sessionOf_modSession c k f hf, Option.isSome_map]⟩

theorem pushReply_openKept (c : Commands) (q : Nat) (r : Reply) : openKept c (pushReply c q r) := by
  unfold pushReply
  split
  · exact .same
  · next x _ => exact (modSession_openKept c r.session (fun y => { y with seqOut := (x.seqOut + 1) % 4294967296 }) fun _ => rfl).update

theorem notifySub_openKept (c : Commands) (x : Subscription) (result : List Byte) : openKept c (notifySub c x result).1 := by
  have hdrop : openKept c (if noRoom c x.queue result.length then
      { c with replies := storeSet (fun _ => []) c.replies x.queue (dropOldest (repliesOf c x.queue) x) } else c) := by
    split
    · exact openKept.same.update
    · exact .same
  unfold notifySub
  dsimp only
  generalize (if noRoom c x.queue result.length then
      { c with replies := storeSet (fun _ => []) c.replies x.queue (dropOldest (repliesOf c x.queue) x) } else c : Commands) = c1 at hdrop ⊢
  split
  · exact hdrop.update
  · exact (hdrop.trans (pushReply_openKept c1 x.queue _)).update

theorem notifyAll_openKept (c : Commands) (xs : List Subscription) (result : Subscription → List Byte) :
    openKept c (notifyAll c xs result).1 := by
  have hfold (l : List Subscription) (p : Commands × Bool) (h : openKept c p.1) : openKept c (l.foldl (fun (p : Commands × Bool) x =>
      let (c', full) := notifySub p.1 x (result x)
      (c', p.2 || full)) p).1 := by
    induction l generalizing p with
    | nil => exact h
    | cons x l ih => exact ih _ (h.trans (notifySub_openKept _ _ _))
  exact hfold xs (c, false) .same

theorem flagNotifyLost_cmd (s : State) (lost : Bool) : (flagNotifyLost s lost).cmd = s.cmd := by
  unfold flagNotifyLost raiseIf
  split <;> rfl

theorem postFull_openKept (s : State) (e : Event) (inst : Nat) (ended : Bool) (x y z extra time : Nat) :
    openKept s.cmd (postFull s e inst ended x y z extra time).cmd := by
  unfold postFull
  dsimp only
  split
  · exact .same
  split
  · rw [flagNotifyLost_cmd]
    exact notifyAll_openKept _ _ _
  · exact .same

theorem post_openKept (s : State) (e : Event) (i x y z : Nat) : openKept s.cmd (post s e i x y z).cmd := postFull_openKept ..

theorem openKept.execOf_eq {s t : State} (h : openKept s.cmd t.cmd) (c : Ctx) : execOf t c = execOf s c := by rw [execOf, h.1, execOf]

/-- Where sessions and entries are kept, a command can still be answered. -/
theorem openKept.answers {s t : State} {c : Ctx} (h : openKept s.cmd t.cmd) (ha : answers s c) : answers t c := by
  unfold Sys2Proof.answers
  rw [h.execOf_eq, h.2]
  exact ha

theorem openKept_of_cmd {s t : State} (h : t.cmd = s.cmd) : openKept s.cmd t.cmd := h ▸ .same

/-! ## Commands that end beside this one -/

theorem find?_erase_of_ne {α : Type} [DecidableEq α] (p : α → Bool) (l : List α) (y : α) (h : ∀ x, l.find? p = some x → x ≠ y) :
    (l.erase y).find? p = l.find? p := by
  induction l with
  | nil => rfl
  | cons a l ih =>
    by_cases hay : a = y
    · subst hay
      have hpa : p a = false := by
        by_contra hp
        exact h a (List.find?_cons_of_pos (by simpa using hp)) rfl
      rw [List.erase_cons_head, List.find?_cons_of_neg (by simp [hpa])]
    · rw [List.erase_cons_tail (by simpa using hay)]
      by_cases hpa : p a = true
      · rw [List.find?_cons_of_pos hpa, List.find?_cons_of_pos hpa]
      · rw [List.find?_cons_of_neg hpa, List.find?_cons_of_neg hpa]
        exact ih fun x hx => h x (by rwa [List.find?_cons_of_neg hpa])

theorem conclude_cmd (s : State) (x : Executing) (code : Code) (wh ident : Nat) (result : List Byte) :
    ∃ r, (conclude s x code wh ident result).cmd = pushFor (retire s.cmd x) (some x) x.queue r := by
  unfold conclude
  dsimp only
  rw [flagCode_cmd]
  exact ⟨_, rfl⟩

theorem pushFor_openKept (c : Commands) (x : Option Executing) (q : Nat) (r : Reply) : openKept c (pushFor c x q r) := by
  unfold pushFor
  split
  · exact .same
  · exact pushReply_openKept _ _ _

theorem conclude_sessions (s : State) (x : Executing) (code : Code) (wh ident : Nat) (result : List Byte) (n : Nat) :
    (sessionOf (conclude s x code wh ident result).cmd n).isSome = (sessionOf s.cmd n).isSome := by
  obtain ⟨r, h⟩ := conclude_cmd s x code wh ident result
  rw [h, (pushFor_openKept _ _ _ _).2, sessionOf, retire_sessions, sessionOf]

/-- The waiting commands that `concludeAll` ends leave this one as it is. -/
theorem concludeAll_answers {s : State} {c : Ctx} {p : Executing → Bool} (code : Code) (wh : Nat) (result : State → Executing → List Byte)
    (h : ∀ x, execOf s c = some x → p x = false) (ha : answers s c) : answers (concludeAll s p code wh result) c := by
  have hfold (l : List Executing) (t : State) (hl : ∀ x ∈ l, p x = true) (he : execOf t c = execOf s c)
      (hs : ∀ n, (sessionOf t.cmd n).isSome = (sessionOf s.cmd n).isSome) :
      answers (l.foldl (fun s x => conclude s x code wh 0 (result s x)) t) c := by
    induction l generalizing t with
    | nil =>
      unfold answers
      rw [List.foldl_nil, he, hs]
      exact ha
    | cons x l ih =>
      refine ih _ (fun y hy => hl y (.tail _ hy)) ?_ (fun n => (conclude_sessions ..).trans (hs n))
      rw [← he, execOf, conclude_executing]
      refine find?_erase_of_ne _ _ _ fun y hy hxy => ?_
      have hpx := h y (he ▸ hy)
      rw [hxy, hl x (.head _)] at hpx
      cases hpx
  exact hfold _ s (fun x hx => (List.mem_filter.mp hx).2) rfl (fun _ => rfl)

/-- A command that has started stands under its own opcode. -/
theorem starts_opcode {s : State} {c : Ctx} {op : Nat} {i : Instr} (h : starts s c op i = true) {x : Executing} (hx : execOf s c = some x) :
    x.opcode = op := by
  unfold starts at h
  rw [hx] at h
  simp only [Bool.and_eq_true, decide_eq_true_eq] at h
  exact h.1.1

theorem ok_lastReplied {s : State} {c : Ctx} {op : Nat} {result : List Byte} (h : answers s c) :
    lastReplied (ok s c op result) c op .ok 0 result true :=
  lastReplied_of_replied (ok_replied h)

/-- An answer after work that leaves the command processor alone is the one new packet. -/
theorem ok_replied_after {s t : State} {c : Ctx} {op : Nat} {result : List Byte} (h : answers s c) (ht : t.cmd = s.cmd) :
    replied s (ok t c op result) c op .ok 0 result true :=
  replied_of_cmd (ok_replied ((openKept_of_cmd ht).answers h)) ht

end Sys2Proof
end

section
/-! PROOFS. The halves, the safety messages and the safety parameters (O34). -/
namespace Sys2Proof
open Sys2Proof.Machine

set_option Elab.async false

/-! ## SAFE_STOPPED -/

section
variable {β : Type} (g : Walnut → β)

theorem enterSafeStop_keeps (w : Walnut) (now cause : Nat) (hg : ∀ (w : Walnut) a b c, g { w with funcs := a, stops := b, cause := c } = g w := by
    intros; rfl) : g (enterSafeStop w now cause) = g w := by
  unfold enterSafeStop
  have hfuncs (w : Walnut) (a : Store SafeFunc) : g { w with funcs := a } = g w := hg w a w.stops w.cause
  refine (foldl_keeps g _ (fun w f => ?_) _ _).trans (hg w w.funcs _ _)
  split
  · rfl
  split
  · exact demandFunc_keeps g w now f 9 hfuncs
  · exact stopFunc_keeps g w f 9 false hfuncs

theorem dropCause_keeps (w : Walnut) (cause shown : Nat)
    (hg : ∀ (w : Walnut) a b c d, g { w with stops := a, locked := b, cause := c, governing := d } = g w := by intros; rfl) :
    g (dropCause w cause shown) = g w := by
  unfold dropCause
  split
  · exact (settle_keeps g _ hg).trans (hg w _ w.locked w.cause w.governing)
  · rfl

theorem confirmSet_keeps (w : Walnut) (bs : List Byte)
    (hg : ∀ (w : Walnut) a b c d, g { w with stops := a, locked := b, cause := c, governing := d } = g w := by intros; rfl) :
    g (confirmSet w bs) = g (storeSetCopies { w with pendingSet := none } bs) :=
  (dropCause_keeps g _ _ _ hg).trans (dropCause_keeps g _ _ _ hg)

end

theorem mem_enterSafeStop (w : Walnut) (now cause : Nat) : cause ∈ (enterSafeStop w now cause).stops := by
  have hfold : (enterSafeStop w now cause).stops = if w.stops.contains cause then w.stops else w.stops ++ [cause] :=
    foldl_keeps (fun w : Walnut => w.stops) _ (fun w f => by
      split
      · rfl
      split
      · exact demandFunc_keeps (·.stops) w now f 9
      · exact stopFunc_keeps (·.stops) w f 9 false) _ _
  rw [hfold]
  split
  · next h => simpa using h
  · simp

/-! ## Half failures -/

/-- The record with the half given failed. -/
def withoutHalf (w : Walnut) (halfB : Bool) : Walnut := if halfB then { w with halfB := false } else { w with halfA := false }

/-- What follows the failure that leaves the halves of `w`. -/
def halfGone (s : State) (w : Walnut) : State :=
  let w2 := { w with failTime := some (w.failTime.getD s.now), crosscheck := false, mismatches := 0, drivesTaken := false }
  if !w.halfA && !w.halfB then demandWnt s (fun _ => enterSafeStop w s.now 5)
  else if wparam w2 24 4 = 0 then demandWnt s (fun _ => enterSafeStop w2 s.now 6)
  else degradedYield (islandState s.wnt) (modWnt s (fun _ => w2))

theorem failHalf_eq (s : State) (b : Bool) : failHalf s b = halfGone s (withoutHalf s.wnt b) := rfl

/-- What a half failure leaves of the record, for a reading that looks neither at the functions, the causes and the tests nor at what the
failure counts. -/
theorem halfGone_keeps {β : Type} (g : Walnut → β) (s : State) (w : Walnut)
    (h1 : ∀ (w : Walnut) a b c, g { w with funcs := a, stops := b, cause := c } = g w := by intros; rfl)
    (h2 : ∀ (w : Walnut) a b c d e, g { w with evaluated := a, cmd := b, switchOn := c, seriesOn := d, outs := e } = g w := by intros; rfl)
    (h3 : ∀ (w : Walnut) a b c d, g { w with failTime := a, crosscheck := b, mismatches := c, drivesTaken := d } = g w := by intros; rfl) :
    g (halfGone s w).wnt = g w := by
  have houts (w : Walnut) (a : Store SafeOutput) : g { w with outs := a } = g w := h2 w w.evaluated w.cmd w.switchOn w.seriesOn a
  unfold halfGone
  dsimp only
  split
  · rw [demandWnt_wnt, endMetTests_keeps g _ _ _ h2, enterSafeStop_keeps g _ _ _ h1]
  split
  · rw [demandWnt_wnt, endMetTests_keeps g _ _ _ h2, enterSafeStop_keeps g _ _ _ h1]
    exact h3 ..
  · rw [degradedYield_keeps_wnt g _ _ houts]
    exact h3 ..

theorem halfGone_counts (s : State) (w : Walnut) :
    if w.halfA || w.halfB then (halfGone s w).wnt.failTime = some (w.failTime.getD s.now) else 5 ∈ (halfGone s w).wnt.stops := by
  unfold halfGone
  dsimp only
  split
  · next h =>
    rw [if_neg (by rw [← Bool.not_or, h]; simp)]
    split
    · rw [demandWnt_wnt, endMetTests_keeps (·.failTime), enterSafeStop_keeps (·.failTime)]
    · rw [degradedYield_keeps_wnt (·.failTime)]
      rfl
  · next h =>
    rw [if_pos (by rw [← Bool.not_or]; simpa using h), demandWnt_wnt, endMetTests_keeps (·.stops)]
    exact mem_enterSafeStop ..

theorem failHalf_halves (s : State) (b : Bool) :
    (failHalf s b).wnt.halfA = (s.wnt.halfA && b) ∧ (failHalf s b).wnt.halfB = (s.wnt.halfB && !b) := by
  constructor
  · rw [failHalf_eq, halfGone_keeps (·.halfA)]
    cases b
    · exact (Bool.and_false _).symm
    · exact (Bool.and_true _).symm
  · rw [failHalf_eq, halfGone_keeps (·.halfB)]
    cases b
    · exact (Bool.and_true _).symm
    · exact (Bool.and_false _).symm

/-! ## Safety messages -/

theorem discardMessage_keeps {β : Type} (g : Walnut → β) (s : State)
    (hg : ∀ (w : Walnut) a b c d e, g { w with stops := a, locked := b, cause := c, governing := d, pendingSet := e } = g w) :
    g (discardMessage s).wnt = g { s.wnt with
      arrived := true, lost := min 3 (s.wnt.lost + 1), msgErr := min 65535 (s.wnt.msgErr + 1)
      partnerOk := s.wnt.partnerOk && decide (min 3 (s.wnt.lost + 1) < 3) } := by
  unfold discardMessage
  dsimp only
  split
  · exact safePairLost_keeps g _ hg
  · rfl

/-- What the acceptance of a message notes. -/
def noted (w : Walnut) : List Byte × Option Nat × Bool × Nat := (w.lastMsg, w.seqIn, w.partnerOk, w.lost)

theorem partnerHolds_noted (s : State) (set : Option (List Byte)) : noted (partnerHolds s set).wnt = noted s.wnt := by
  unfold partnerHolds
  split
  · split
    · dsimp only
      rw [(concludeAll_changes _ _ _ _ _).wnt_eq]
      rfl
    · rfl
  · rfl

theorem mirrorSet_noted (s : State) (m : List Byte) (set : Option (List Byte)) : noted (mirrorSet s m set).wnt = noted s.wnt := by
  unfold mirrorSet
  dsimp only
  split
  · split
    · rfl
    split
    · rw [post_wnt, modWnt_wnt, confirmSet_keeps noted]
      rfl
    split
    · rfl
    · exact discardSet_keeps noted _
  · split
    · rw [demandWnt_wnt, endMetTests_keeps noted, enterSafeStop_keeps noted]
      rfl
    · rfl
  · rfl

theorem adoptSet_noted (s : State) (m : List Byte) (set : Option (List Byte)) : noted (adoptSet s m set).wnt = noted s.wnt := by
  unfold adoptSet
  split
  · rfl
  · split
    · next bs _ =>
      have hstop := stopFuncs_keeps noted
        { storeSetCopies s.wnt bs with stops := (storeSetCopies s.wnt bs).stops.filter (fun c => decide (c ≠ 2)) } (fun _ => true) 9 false
      rw [post_wnt, modWnt_wnt]
      generalize stopFuncs _ _ _ _ = w at hstop ⊢
      exact hstop
    · rfl

theorem joinPair_noted (w : Walnut) (m : List Byte) (now : Nat) : noted (joinPair w m now) = noted w := by
  unfold joinPair
  dsimp only
  refine (foldl_keeps noted _ (fun w k => ?_) _ _).trans (foldl_keeps noted _ (fun w k => ?_) _ _)
  · split <;> rfl
  · rfl

theorem takeStops_keeps {β : Type} (g : Walnut → β) (w : Walnut) (m : List Byte) (now : Nat)
    (hg : ∀ (w : Walnut) a, g { w with funcs := a } = g w := by intros; rfl) : g (takeStops w m now) = g w :=
  foldl_keeps g _ (fun w f => by
    dsimp only
    generalize (if w.lastMsg = [] then 0 else msgField w.lastMsg (16 + f) 1 % 4) = old
    split
    · exact hg w _
    · rfl) _ _

/-- An accepted message is noted, whatever it leads to. -/
theorem exec_safety_ok {s : State} {m : List Byte} (set : Option (List Byte)) (h : messageOk s m = true) :
    ∃ t, exec (.safety m set) s = .next t ∧ noted t.wnt = (m, some (msgField m 0 4), true, 0) := by
  let took := modWnt s (fun w => { (if owner s then w else takeStops w m s.now) with
    lastMsg := m, seqIn := some (msgField m 0 4), arrived := true, lost := 0, partnerOk := true })
  have htook : noted took.wnt = (m, some (msgField m 0 4), true, 0) := rfl
  have hn : ¬(!messageOk s m) = true := by simp [h]
  by_cases ho : owner s = true
  · exact ⟨partnerHolds took set, (if_neg hn).trans (if_pos ho), (partnerHolds_noted _ _).trans htook⟩
  · have hs2 : noted (adoptSet (mirrorSet took m set) m set).wnt = (m, some (msgField m 0 4), true, 0) :=
      (adoptSet_noted _ _ _).trans ((mirrorSet_noted _ _ _).trans htook)
    let s2 := adoptSet (mirrorSet took m set) m set
    by_cases hjoin : (s2.wnt.powerUp && (decide (s.pair.partnerRole = 0) || decide (s.pair.partnerRole = 1)) && decide (s2.wnt.stops = [])
        && decide (confirmedCrc s2.wnt = msgField m 100 4)) = true
    · exact ⟨modWnt s2 (fun w => joinPair w m s.now), (if_neg hn).trans ((if_neg ho).trans (if_pos hjoin)), (joinPair_noted _ _ _).trans hs2⟩
    · exact ⟨s2, (if_neg hn).trans ((if_neg ho).trans (if_neg hjoin)), hs2⟩

theorem exec_safety_bad {s : State} {m : List Byte} (set : Option (List Byte)) (h : ¬messageOk s m = true) :
    exec (.safety m set) s = .next (discardMessage s) := if_pos (by simpa using h)

/-! ## The parameter commands -/

theorem safetyCommand_runs {s : State} {c : Ctx} {op : Nat} {i : Instr} {body : State → State} (h : readyFor s c op 6 i) (ho : owner s = true)
    (hs : safetySender s c = true) : safetyCommand s c op i body = body s := by
  unfold safetyCommand
  rw [if_neg (by simp [h.2.1]), if_neg (by simp [hs]), ho, command_runs h.1 h.2]

theorem demandWnt_cmd (s : State) (g : Walnut → Walnut) : (demandWnt s g).cmd = s.cmd := (demandWnt_changes s g).cmd_eq

theorem discardPending_wnt {s : State} {p : PendingSet} (cause : Nat) (h : s.wnt.pendingSet = some p) :
    (discardPending s cause).wnt = discardSet s.wnt := by
  unfold discardPending
  rw [h]
  dsimp only
  rw [(concludeAll_changes _ _ _ _ _).wnt_eq, post_wnt]

theorem discardPending_answers {s : State} {c : Ctx} (cause : Nat) (hop : ∀ x, execOf s c = some x → x.opcode ≠ 0x0801) (h : answers s c) :
    answers (discardPending s cause) c := by
  unfold discardPending
  split
  · exact h
  · have hpost : openKept s.cmd (post { s with wnt := discardSet s.wnt } .safeParamExpired 0 0 cause 0).cmd := post_openKept _ _ _ _ _ _
    refine concludeAll_answers _ _ _ (fun x hx => ?_) (hpost.answers h)
    exact decide_eq_false (hop x (hpost.execOf_eq c ▸ hx))

theorem discardSet_pendingSet (w : Walnut) : (discardSet w).pendingSet = none := dropCause_keeps (·.pendingSet) ..

/-- The record of a module that holds a set just loaded. -/
def loadedWnt (s : State) (p : PendingSet) : Walnut := endMetTests s.wnt (enterSafeStop { s.wnt with pendingSet := some p } s.now 3) s.now

theorem loadedWnt_holds (s : State) (p : PendingSet) : 3 ∈ (loadedWnt s p).stops ∧ (loadedWnt s p).pendingSet = some p := by
  unfold loadedWnt
  rw [endMetTests_keeps (·.stops), endMetTests_keeps (·.pendingSet), enterSafeStop_keeps (·.pendingSet)]
  exact ⟨mem_enterSafeStop .., rfl⟩

theorem exec_safeParamLoad {c : Ctx} {set : List Byte} {s : State} (hr : readyFor s c 0x0801 6 (.safeParamLoad c set)) (ho : owner s = true)
    (hsend : safetySender s c = true) (hp : s.wnt.pendingSet = none) (hcrc : setCrcOk set = true) (hoff : setOffence set = none) :
    ∃ t, exec (.safeParamLoad c set) s = .next t ∧ 3 ∈ t.wnt.stops
    ∧ t.wnt.pendingSet = some { bytes := set, queue := c.queue.val, session := c.session.val, replied := s.now } ∧
    if s.pair.role = .active ∧ s.wnt.partnerOk = true ∧ s.pair.link = .ready then waits t c
    else replied s t c 0x0801 .ok 0 (loadReply set 0) true := by
  let p : PendingSet := { bytes := set, queue := c.queue.val, session := c.session.val, replied := s.now }
  let s1 := demandWnt s (fun w => enterSafeStop { w with pendingSet := some p } s.now 3)
  have hlen : ¬set.length ≠ 256 := by
    simp only [setCrcOk, Bool.and_eq_true, decide_eq_true_eq] at hcrc
    simp [hcrc.1]
  have hexec : exec (.safeParamLoad c set) s = .next (if s.pair.role = .active ∧ s.wnt.partnerOk = true ∧ s.pair.link = .ready
      then await s1 c 0x0801 6 0 else ok s1 c 0x0801 (loadReply set 0)) := by
    refine congrArg Host.Outcome.next ((safetyCommand_runs hr ho hsend).trans ?_)
    rw [if_neg hlen, if_neg (by simp [hp]), if_neg (by simp [hcrc]), hoff]
  have hwnt : s1.wnt = loadedWnt s p := rfl
  refine ⟨_, hexec, ?_⟩
  split
  · rw [(await_changes _ _ _ _ _).wnt_eq, hwnt]
    exact ⟨(loadedWnt_holds s p).1, (loadedWnt_holds s p).2, await_waits ..⟩
  · rw [(ok_changes _ _ _ _).wnt_eq, hwnt]
    exact ⟨(loadedWnt_holds s p).1, (loadedWnt_holds s p).2, ok_replied_after (t := s1) hr.2.2 (demandWnt_cmd s _)⟩

theorem exec_safeParamConfirm {c : Ctx} {crc : BitVec 32} {setId : List Byte} {s : State} {p : PendingSet}
    (hr : readyFor s c 0x0802 6 (.safeParamConfirm c crc setId)) (ho : owner s = true) (hsend : safetySender s c = true)
    (hp : s.wnt.pendingSet = some p) (hload : loadWaits s = false) (hsess : p.session = c.session.val)
    (hcrc : crc.toNat = blockField p.bytes 252 4) (hpartner : p.partnerCrc = 0 ∨ p.partnerCrc = crc.toNat)
    (hid : setId = (p.bytes.drop 8).take 16) : ∃ t, exec (.safeParamConfirm c crc setId) s = .next t
    ∧ t.wnt.pendingSet = none ∧ t.wnt.copyA1 = p.bytes ∧ t.wnt.copyA2 = p.bytes ∧ t.wnt.copyB1 = p.bytes ∧ t.wnt.copyB2 = p.bytes
    ∧ lastReplied t c 0x0802 .ok 0 [] true := by
  have hgood : ¬(crc.toNat ≠ blockField p.bytes 252 4 ∨ (p.partnerCrc ≠ 0 ∧ p.partnerCrc ≠ crc.toNat)
      ∨ setId ≠ (p.bytes.drop 8).take 16) := by tauto
  have hexec : exec (.safeParamConfirm c crc setId) s
      = .next (ok (post (modWnt s (fun w => confirmSet w p.bytes)) .safeParamConfirmed 0 0 0 0) c 0x0802 []) := by
    refine congrArg Host.Outcome.next ((safetyCommand_runs hr ho hsend).trans ?_)
    rw [hp]
    dsimp only
    rw [if_neg (fun h => h hsess), if_neg (by simp [hload]), if_neg hgood]
  have hans : answers (post (modWnt s (fun w => confirmSet w p.bytes)) .safeParamConfirmed 0 0 0 0) c :=
    (post_openKept _ _ _ _ _ _).answers hr.2.2
  refine ⟨_, hexec, ?_, ?_, ?_, ?_, ?_, ok_lastReplied hans⟩
  all_goals rw [(ok_changes _ _ _ _).wnt_eq, post_wnt, modWnt_wnt]
  · rw [confirmSet_keeps (·.pendingSet)]
    rfl
  · rw [confirmSet_keeps (·.copyA1)]
    rfl
  · rw [confirmSet_keeps (·.copyA2)]
    rfl
  · rw [confirmSet_keeps (·.copyB1)]
    rfl
  · rw [confirmSet_keeps (·.copyB2)]
    rfl

/-- Settles O34, clause by clause. -/
theorem safetyHalvesMessagesAndParameters : Obligations.SafetyHalvesMessagesAndParameters := by
  refine ⟨fun aOk bOk s hx => ?_, fun s => ⟨fun ha => ?_, fun hb => ?_⟩, fun s f hf hpast hn => ?_, fun f s ht => ?_, fun m set s => ?_,
    fun c set s hr ho hsend hp hcrc hoff => ?_, fun c crc setId s p hr ho hsend hp hload hsess hcrc hpartner hid => ?_,
    fun c s p hr ho hsend hp hsess => ?_, fun s p hp hm hload hpast => ?_, fun c s hr => ?_⟩
  · have hrun : ¬(!s.wnt.crosscheck) = true := by simp [hx]
    by_cases hab : aOk = bOk
    · subst hab
      refine ⟨_, (if_neg hrun).trans (if_neg (fun h => h rfl)), ?_, ?_, fun _ => ?_⟩
      · rw [demandWnt_wnt, endMetTests_keeps (·.halfA), enterSafeStop_keeps (·.halfA)]
      · rw [demandWnt_wnt, endMetTests_keeps (·.halfB), enterSafeStop_keeps (·.halfB)]
      · rw [demandWnt_wnt, endMetTests_keeps (·.stops)]
        exact mem_enterSafeStop ..
    · obtain ⟨hA, hB⟩ := failHalf_halves s (!bOk)
      have ha : (!bOk) = aOk := by cases aOk <;> cases bOk <;> simp_all
      refine ⟨_, (if_neg hrun).trans (if_pos hab), ?_, ?_, fun h => absurd h hab⟩
      · rw [hA, ha]
      · rw [hB, Bool.not_not]
  · refine ⟨_, if_pos ha, ?_, ?_⟩
    · rw [(failHalf_halves s false).1, Bool.and_false]
    · exact halfGone_counts s (withoutHalf s.wnt false)
  · refine ⟨_, if_pos hb, ?_, ?_⟩
    · rw [(failHalf_halves s true).2, Bool.not_true, Bool.and_false]
    · have hcount := halfGone_counts s (withoutHalf s.wnt true)
      rwa [show ((withoutHalf s.wnt true).halfA || (withoutHalf s.wnt true).halfB) = s.wnt.halfA from Bool.or_false _] at hcount
  · have hdue : (((s.wnt.failTime.map (fun t => decide (t + wparam s.wnt 24 4 * 60000000000 ≤ s.now))).getD false)
        && !s.wnt.stops.contains 6) = true := by simp [hf, hpast, hn]
    have hin : 6 ∈ (demandWnt s (fun w => enterSafeStop w s.now 6)).wnt.stops := by
      rw [demandWnt_wnt, endMetTests_keeps (·.stops)]
      exact mem_enterSafeStop ..
    refine ⟨_, if_pos hdue, hin, ?_⟩
    unfold islandState
    rw [if_pos (List.ne_nil_of_mem hin)]
  · refine ⟨_, if_pos ht, ?_⟩
    rw [modWnt_wnt, sfunc_settle, endByTmax, sfunc_stopFunc]
    exact stoppedFunc_st ..
  · by_cases hok : messageOk s m = true
    · obtain ⟨t, hexec, hnoted⟩ := exec_safety_ok set hok
      simp only [noted, Prod.mk.injEq] at hnoted
      exact ⟨t, hexec, by rw [if_pos hok]; exact hnoted⟩
    · refine ⟨_, exec_safety_bad set hok, ?_⟩
      rw [if_neg hok, discardMessage_keeps (·.lastMsg) s (by intros; rfl), discardMessage_keeps (·.msgErr) s (by intros; rfl),
        discardMessage_keeps (·.funcs) s (by intros; rfl)]
      exact ⟨rfl, rfl, rfl⟩
  · exact exec_safeParamLoad hr ho hsend hp hcrc hoff
  · exact exec_safeParamConfirm hr ho hsend hp hload hsess hcrc hpartner hid
  · have hexec : exec (.safeParamAbort c) s = .next (ok (discardPending s 3) c 0x0803 []) := by
      refine congrArg Host.Outcome.next ((safetyCommand_runs hr ho hsend).trans ?_)
      rw [hp]
      exact if_neg (fun h => h hsess)
    have hans := discardPending_answers 3 (fun x hx => by rw [starts_opcode hr.2.1 hx]; decide) hr.2.2
    refine ⟨_, hexec, ?_, ?_, ok_lastReplied hans⟩
    · rw [(ok_changes _ _ _ _).wnt_eq, discardPending_wnt 3 hp, discardSet_pendingSet]
    · rw [(ok_changes _ _ _ _).wnt_eq, discardPending_wnt 3 hp, discardSet_keeps (·.copyA1)]
  · refine ⟨discardPending s 2, ?_, ?_, ?_⟩
    · change execSafeParamExpiry s = _
      unfold execSafeParamExpiry
      rw [hp]
      exact if_neg (by simp [hm, hload, hpast])
    · rw [discardPending_wnt 2 hp, discardSet_pendingSet]
    · rw [discardPending_wnt 2 hp, discardSet_keeps (·.copyA1)]
  · have hready := ready_readyFor hr rfl
    exact ⟨_, congrArg Host.Outcome.next (command_runs hready.1 hready.2), ok_replied hready.2.2⟩

end Sys2Proof
end

section
/-! PROOFS. Changes of role, the Husks, module time, acknowledges and module faults (O13). -/
namespace Sys2Proof
open Sys2Proof.Machine

set_option Elab.async false

/-! ## Changes of role -/

theorem leaveField_own (s : State) : (leaveField s).own = { s.own with outstanding := [] } := by
  unfold leaveField
  dsimp only
  rw [foldl_keeps (fun t : State => t.own) _ (fun t (r : Request) => (withdrawC1_changes t r.source .withdrawn).own_eq),
    (concludeAll_changes _ _ _ _ _).own_eq]

/-- What leaving the field leaves of the executive. -/
theorem leaveField_keeps_exe {β : Type} (g : Exec → β) (s : State)
    (hg : ∀ (x : Exec) a b c d, g { x with handover := a, stopPending := b, startPending := c, tasks := d } = g x := by intros; rfl) :
    g (leaveField s).exe = g s.exe := by
  unfold leaveField
  dsimp only
  rw [foldl_keeps (fun t : State => t.exe) _ (fun t (r : Request) => (withdrawC1_changes t r.source .withdrawn).exe_eq),
    (concludeAll_changes _ _ _ _ _).exe_eq]
  exact hg ..

/-- The pair logic of a module in a new role. -/
def rolePair (p : Pair) (r : Role) (cause : Nat) : Pair :=
  { p with role := r, cause := cause, decided := true, streaming := p.streaming && decide (r = .active), phase := 0, remain := 0
           streamNext := false }

/-- The end of a change of role: captures end where the module was ACTIVE, ORPHAN is flagged, and a module that does not own the field
leaves it. -/
def roleTail (s : State) (wasActive orphan owns : Bool) : State :=
  let s4 := if wasActive then truncateCaptures s else s
  let s5 := if orphan then ppdRaise s4 2 else s4
  if owns then s5 else leaveField s5

theorem changeRole_eq {s : State} {r : Role} (cause : Nat) (h : s.pair.role ≠ r) : changeRole s r cause =
    let s1 := post s .pairRoleChange 0 (roleCode r) cause (roleCode s.pair.role)
    roleTail (endInjections (roleTests (driveLine { s1 with pair := rolePair s1.pair r cause } (ownerRole r))
      (ownerRole r && !ownerRole s.pair.role)) 5) (decide (s.pair.role = .active)) (decide (r = .orphan)) (ownerRole r) := by
  simp only [changeRole, if_neg h, roleTail, rolePair, decide_eq_true_eq]

theorem roleTail_cases {P : State → Prop} {s : State} (a b c : Bool) (hs : P s)
    (hcap : ∀ t, P t → P (truncateCaptures t)) (hflag : ∀ t, P t → P (ppdRaise t 2)) (hleave : ∀ t, P t → P (leaveField t)) :
    P (roleTail s a b c) := by
  have h4 : P (if a then truncateCaptures s else s) := by
    split
    · exact hcap _ hs
    · exact hs
  have h5 : P (if b then ppdRaise (if a then truncateCaptures s else s) 2 else if a then truncateCaptures s else s) := by
    split
    · exact hflag _ h4
    · exact h4
  unfold roleTail
  dsimp only
  split
  · exact h5
  · exact hleave _ h5

/-- What each part of a change of role keeps, the change keeps. -/
theorem changeRole_cases {P : State → Prop} (s : State) (r : Role) (cause : Nat) (hs : P s) (hpost : ∀ t e i x y z, P t → P (post t e i x y z))
    (hpair : ∀ t p b, P t → P (driveLine { t with pair := p } b)) (hsame : ∀ t p, P t → P { t with pair := p })
    (htests : ∀ t x, P t → P (roleTests t x)) (hinj : ∀ t, P t → P (endInjections t 5)) (hcap : ∀ t, P t → P (truncateCaptures t))
    (hflag : ∀ t, P t → P (ppdRaise t 2)) (hleave : ∀ t, P t → P (leaveField t)) : P (changeRole s r cause) := by
  by_cases h : s.pair.role = r
  · unfold changeRole
    rw [if_pos h]
    split
    · exact hs
    · exact hsame _ _ hs
  · rw [changeRole_eq cause h]
    exact roleTail_cases _ _ _ (hinj _ (htests _ _ (hpair _ _ _ (hpost _ _ _ _ _ _ hs)))) hcap hflag hleave

/-- A change of role leaves the executive but for what a module that leaves the field drops. -/
theorem changeRole_keeps_exe {β : Type} (g : Exec → β) (s : State) (r : Role) (cause : Nat)
    (hg : ∀ (x : Exec) a b c d, g { x with handover := a, stopPending := b, startPending := c, tasks := d } = g x := by intros; rfl) :
    g (changeRole s r cause).exe = g s.exe :=
  changeRole_cases (P := fun t => g t.exe = g s.exe) s r cause rfl (fun t e i x y z h => by rw [post_exe, h]) (fun t p b h => h)
    (fun t p h => h) (fun t x h => h) (fun t h => by rw [(endInjections_changes t 5).exe_eq, h])
    (fun t h => by rw [(truncateCaptures_changes t).exe_eq, h]) (fun t h => h) (fun t h => (leaveField_keeps_exe g t hg).trans h)

/-- A change of role touches the owner line and, without the field, drops what waits for the partner. -/
theorem changeRole_keeps_own {β : Type} (g : Ownership → β) (s : State) (r : Role) (cause : Nat)
    (hg : ∀ (x : Ownership) a b, g { x with ownDriven := a, outstanding := b } = g x := by intros; rfl) :
    g (changeRole s r cause).own = g s.own :=
  changeRole_cases (P := fun t => g t.own = g s.own) s r cause rfl (fun t e i x y z h => by rw [post_own, h])
    (fun t p b h => (hg t.own b t.own.outstanding).trans h) (fun t p h => h) (fun t x h => h)
    (fun t h => by rw [(endInjections_changes t 5).own_eq, h]) (fun t h => by rw [(truncateCaptures_changes t).own_eq, h]) (fun t h => h)
    (fun t h => by rw [leaveField_own, hg t.own t.own.ownDriven, h])

/-- In a new role the owner line toggles exactly where the role owns the field (R17). -/
theorem changeRole_ownDriven {s : State} {r : Role} (cause : Nat) (h : s.pair.role ≠ r) : (changeRole s r cause).own.ownDriven = ownerRole r := by
  rw [changeRole_eq cause h]
  refine roleTail_cases (P := fun t => t.own.ownDriven = ownerRole r) _ _ _ ?_ (fun t h => by rw [(truncateCaptures_changes t).own_eq, h])
    (fun t h => h) (fun t h => by rw [leaveField_own]; exact h)
  rw [(endInjections_changes _ 5).own_eq]
  rfl

/-- A message queued for the partner changes nothing of the pair logic but its outbox. -/
theorem send_keeps_pair {β : Type} (g : Pair → β) (s : State) (m : PairMsg) (hg : ∀ (p : Pair) a, g { p with outbox := a } = g p := by intros; rfl) :
    g (send s m).pair = g s.pair := by
  unfold send
  split
  · exact hg ..
  · rfl

theorem raiseIf_exe (b : Bool) (s : State) (a i n : Nat) : (raiseIf b s a i n).exe = s.exe := by
  unfold raiseIf
  split <;> rfl

/-! ## Husks, module time, acknowledges and module faults -/

theorem held_eq_of_own {s t : State} (h : t.own = s.own) (v : Nat) : held t v = held s v := by rw [held, h, held]

theorem huskHold_held (s : State) (w : Nat) : (huskHold s w).own.held = if held s w then s.own.held else s.own.held ++ [w] := by
  unfold huskHold
  rw [(concludeAll_changes _ _ _ _ _).own_eq]

theorem held_huskHold (s : State) (w v : Nat) : held (huskHold s w) v = (held s v || decide (v = w)) := by
  rw [held, huskHold_held]
  by_cases hw : held s w = true
  · rw [if_pos hw]
    by_cases hv : v = w
    · subst hv
      rw [hw, Bool.true_or]
      exact hw
    · simp [hv, held]
  · rw [if_neg hw]
    simp [held]

theorem held_huskRelease (s : State) (w v : Nat) : held (huskRelease s w) v = (held s v && decide (v ≠ w)) := by
  simp only [held, huskRelease, List.contains_eq_mem, List.mem_filter, decide_eq_true_eq, Bool.decide_and]

theorem exec_ack (seq : Nat) (s : State) : ∃ t, exec (.ack seq) s = .next t
    ∧ t.own.outstanding = s.own.outstanding.filter (fun c => !ackCovers seq c.id) := by
  refine ⟨_, rfl, ?_⟩
  rw [foldl_keeps (fun t : State => t.own) _ fun t (c : Commit) => by rw [applyCommit_own, (countMax_changes t _ _ _).own_eq]]

theorem partnerLost_keeps_exe {β : Type} (g : Exec → β) (s : State)
    (hg : ∀ (x : Exec) a, g { x with handover := a } = g x := by intros; rfl) : g (partnerLost s).exe = g s.exe := by
  unfold partnerLost
  refine (hg _ _).trans ?_
  rw [(concludeAll_changes _ _ _ _ _).exe_eq, raiseIf_exe, (dropWaitingSet_changes s).exe_eq]

/-- A module that goes into a role without the field with its line stopped leaves it stopped. -/
theorem changeRole_line_stopped {s : State} {r : Role} (cause : Nat) (hr : ownerRole r = false) (h : s.own.ownDriven = false) :
    (changeRole s r cause).own.ownDriven = false := by
  by_cases hs : s.pair.role = r
  · unfold changeRole
    rw [if_pos hs]
    split <;> exact h
  · rw [changeRole_ownDriven cause hs, hr]

/-- A module whose station is in FAULT with its line stopped, once it is OFFLINE. -/
theorem changeRole_offline {s : State} (hstation : s.exe.station = .fault) (hline : s.own.ownDriven = false) :
    (changeRole s .offline 18).pair.role = .offline ∧ (changeRole s .offline 18).exe.station = .fault
    ∧ (changeRole s .offline 18).own.ownDriven = false ∧ (changeRole s .offline 18).own.moduleFaults = s.own.moduleFaults :=
  ⟨changeRole_role .., (changeRole_keeps_exe (·.station) s .offline 18).trans hstation, changeRole_line_stopped 18 rfl hline,
    changeRole_keeps_own (·.moduleFaults) s .offline 18⟩

theorem writeFaultRecord_own (s : State) (kind addr region syndrome : Nat) : (writeFaultRecord s kind addr region syndrome).own = s.own :=
  (writeFaultRecord_changes _ _ _ _ _).own_eq

/-- A module fault takes the module OFFLINE with its line stopped and its station in FAULT, and keeps the fault (R29). -/
theorem moduleFault_leaves (s : State) (kind : FaultKind) (addr region syndrome : Nat) :
    (moduleFault s kind addr region syndrome).pair.role = .offline ∧ (moduleFault s kind addr region syndrome).exe.station = .fault
    ∧ (moduleFault s kind addr region syndrome).own.ownDriven = false
    ∧ (moduleFault s kind addr region syndrome).own.moduleFaults = (faultCode kind, addr) :: s.own.moduleFaults := by
  unfold moduleFault
  dsimp only
  generalize hs1 : post (writeFaultRecord (driveLine (send s .fault) false) (faultCode kind) addr region syndrome) .moduleFault 0 (faultCode kind)
    addr 0 = s1
  have hown : s1.own = { s.own with ownDriven := false } := by
    rw [← hs1, post_own, writeFaultRecord_own, driveLine, send_own]
  have hlost (t : State) : (partnerLost t).own = t.own := (partnerLost_changes t).own_eq
  obtain ⟨hrole, hst, hline, hfaults⟩ := changeRole_offline (s := partnerLost { s1 with
    own := { s1.own with moduleFaults := (faultCode kind, addr) :: s1.own.moduleFaults }, exe := { s1.exe with station := .fault } })
    (partnerLost_keeps_exe (·.station) _) (by rw [hlost, hown])
  exact ⟨hrole, hst, hline, hfaults.trans (by rw [hlost, hown])⟩

theorem exec_moduleFault (kind : FaultKind) (addr : Nat) (s : State) : ∃ t, exec (.moduleFault kind addr) s = .next t ∧ t.pair.role = .offline
    ∧ t.exe.station = .fault ∧ t.own.ownDriven = false ∧ t.own.moduleFaults = (faultCode kind, addr) :: s.own.moduleFaults := by
  have hleaves := moduleFault_leaves (freeNext (freeNext s)) kind addr (faultRegion kind addr) (faultSyndrome kind s)
  simp only [freeNext_own] at hleaves
  change ∃ t, execModuleFault kind addr s = .next t ∧ _
  unfold execModuleFault
  dsimp only
  generalize moduleFault (freeNext (freeNext s)) kind addr (faultRegion kind addr) (faultSyndrome kind s) = s1 at hleaves ⊢
  split
  · exact ⟨s1, rfl, hleaves⟩
  split
  · exact ⟨_, rfl, hleaves⟩
  · have hx := exhausted_changes s1 2
    exact ⟨_, rfl, by rw [hx.pair_eq, hx.exe_eq, hx.own_eq]; exact hleaves⟩

/-- Settles O13, clause by clause. -/
theorem husksTimeAndAcknowledges : Obligations.HusksTimeAndAcknowledges := by
  refine ⟨fun w s => ?_, fun w s hr => ?_, fun w s hr => ?_, fun time s => ⟨_, rfl, rfl⟩, exec_ack, fun s hrole hout => ?_, fun s h => ?_,
    exec_moduleFault⟩
  · have hown : (undoWork (if w.val = 4 then huskRequests s else s) w.val).own = s.own := by
      rw [(undoWork_changes _ _).own_eq]
      split
      · exact (huskRequests_changes s).own_eq
      · rfl
    refine ⟨_, rfl, ?_, fun v hv => ?_⟩
    · rw [held_huskHold, decide_eq_true rfl, Bool.or_true]
    · rw [held_huskHold, held_eq_of_own hown, decide_eq_false hv, Bool.or_false]
  · refine ⟨huskRelease s w.val, congrArg Host.Outcome.next (if_pos hr), ?_, fun v hv => ?_⟩
    · rw [held_huskRelease]
      simp
    · rw [held_huskRelease, decide_eq_true hv, Bool.and_true]
  · exact congrArg Host.Outcome.next (if_neg (by simp [hr]))
  · have hflag : (ppdRaise s 3).pair.role = .active := hrole
    obtain ⟨h1, h2, h3⟩ := becomeAlone_alone hflag 6
    have hrun : (decide (s.pair.role = .active) && !s.own.outstanding.isEmpty) = true := by simp [hrole, hout]
    refine ⟨_, if_pos hrun, ?_, ?_, ?_⟩
    · rw [send_keeps_pair (·.role), h1]
    · rw [send_keeps_pair (·.cause), h2]
    · rw [send_own, h3]
  · refine if_neg ?_
    rcases h with h | h <;> simp [h]

end Sys2Proof
end

section
/-! PROOFS. Boundaries, task ends, the retain store and the entries into STOP and RUN (O14). -/
namespace Sys2Proof
open Sys2Proof.Machine

set_option Elab.async false

/-! ## A reading that an operation leaves alone -/

/-- The reading `g` of the unit `p` is the same in `s` and `t`. -/
def keepsOn {U β : Type} (p : State → U) (g : U → β) (s t : State) : Prop := g (p t) = g (p s)

namespace keepsOn

variable {U β : Type} {p : State → U} {g : U → β} {s t u : State}

theorem same : keepsOn p g s s := rfl

theorem trans (h : keepsOn p g s t) (k : keepsOn p g t u) : keepsOn p g s u := Eq.trans k h

/-- An operation that leaves the whole unit. -/
theorem after (e : p u = p t) (h : keepsOn p g s t) : keepsOn p g s u := (congrArg g e).trans h

/-- An operation that leaves what is read of the unit. -/
theorem update (h : keepsOn p g s t) (e : g (p u) = g (p t) := by rfl) : keepsOn p g s u := e.trans h

theorem ite {c : Prop} [Decidable c] {a b : State} (ha : keepsOn p g s a) (hb : keepsOn p g s b) : keepsOn p g s (if c then a else b) := by
  split
  · exact ha
  · exact hb

theorem foldl {α : Type} {f : State → α → State} {l : List α} (hf : ∀ t x, keepsOn p g t (f t x)) (h : keepsOn p g s t) :
    keepsOn p g s (l.foldl f t) := by
  induction l generalizing t with
  | nil => exact h
  | cons x l ih => exact ih (h.trans (hf t x))

end keepsOn

/-! ## Outputs refreshed: only front-ends change in the field unit -/

/-- The field unit but for its front-ends. -/
def withoutFes (x : Field) : Field := { x with fes := [] }

/-- The field unit of `t` is that of `s` but for its front-ends. -/
abbrev fesOnly (s t : State) : Prop := keepsOn State.fch withoutFes s t

theorem modFe_fesOnly (s : State) (c : Nat) (g : FrontEnd → FrontEnd) : fesOnly s (modFe s c g) := rfl

theorem refuseRequest_fesOnly (s : State) (r : Request) (why : Reason) : fesOnly s (refuseRequest s r why) := by
  have hlog : fesOnly s (logRequest (countUp (raise s Reg.grdFlags 0 1) Reg.grdSnapRef 0) r .refused why 0) :=
    .after (logRequest_changes _ _ _ _ _).fch_eq .same
  unfold refuseRequest
  dsimp only
  refine .ite (.after (concludeOther_changes _ _ _ _).fch_eq (hlog.trans (modFe_fesOnly _ _ _))) hlog

theorem withdrawC1_fesOnly (s : State) (c : Nat) (why : Reason) : fesOnly s (withdrawC1 s c why) := by
  unfold withdrawC1
  split
  · exact (keepsOn.same.update).trans (refuseRequest_fesOnly _ _ _)
  · exact .same

theorem requestC1_fesOnly (s : State) (c amount : Nat) : fesOnly s (requestC1 s c amount) := .after (requestC1_changes s c amount).fch_eq .same

theorem refreshDo_fesOnly (s : State) (c : Nat) : fesOnly s (refreshDo s c) := by
  have hask (t : State) (h : fesOnly s t) : fesOnly s (requestC1 t c (loadI s c)) := h.trans (requestC1_fesOnly _ _ _)
  unfold refreshDo
  split
  · exact .ite .same (hask _ .same)
  split
  · exact (withdrawC1_fesOnly s c .withdrawn).trans .same
  · exact .ite .same (.ite .same (hask _ .same))

theorem refreshAo_fesOnly (s : State) (c : Nat) : fesOnly s (refreshAo s c) := by
  unfold refreshAo
  dsimp only
  split
  · exact (withdrawC1_fesOnly s c .withdrawn).trans .same
  · exact keepsOn.trans .same (requestC1_fesOnly _ _ _)

theorem refresh_fesOnly (s : State) (c : Nat) : fesOnly s (refresh s c) :=
  .ite .same (.ite .same (.ite (refreshDo_fesOnly s c) (.ite (refreshAo_fesOnly s c) .same)))

theorem refreshAll_fesOnly (s : State) (cs : List Nat) : fesOnly s (refreshAll s cs) := .foldl refresh_fesOnly .same

theorem enterStopWith_fesOnly (s : State) (cause : StopCause) (abandon : Bool) : fesOnly s (enterStopWith s cause abandon) := by
  have hstop : fesOnly s (writeRetain (stopWith { s with exe := { s.exe with abandoned := abandon } } cause)) :=
    .after (askWrite_changes _ _ _ _).fch_eq .same
  unfold enterStopWith
  dsimp only
  refine .after (startCoreSwap_changes _).fch_eq <| .after (concludeAll_changes _ _ _ _ _).fch_eq <| keepsOn.trans ?_ (refreshAll_fesOnly _ _)
  exact .ite (.after (post_fch ..) hstop) hstop

theorem taskFault_fesOnly (s : State) (n : Nat) : fesOnly s (taskFault s n) := by
  have hpost (u : State) (e : Event) (i x y z : Nat) (h : fesOnly s u) : fesOnly s (post u e i x y z) := .after (post_fch ..) h
  unfold taskFault
  dsimp only
  refine .ite (keepsOn.trans (.foldl (fun t c => modFe_fesOnly _ _ _) ?_) (refreshAll_fesOnly _ _)) (keepsOn.trans ?_ (enterStopWith_fesOnly _ _ _))
  all_goals exact hpost _ _ _ _ _ _ .same

theorem taskOverrun_fesOnly (s : State) (n : Nat) : fesOnly s (taskOverrun s n) := by
  have hpost (t : Task) (e : Event) (i x y z : Nat) :
      fesOnly s (post (raise (skipRelease (setTask s n t) n 1 .overrun) Reg.exeFlags 0 0) e i x y z) :=
    .after (post_fch ..) <| .after (raise_fch ..) <| .after (skipRelease_changes _ _ _ _).fch_eq <| .after (setTask_fch ..) .same
  unfold taskOverrun
  dsimp only
  exact .ite (keepsOn.trans (hpost _ _ _ _ _ _) (taskFault_fesOnly _ _)) (hpost _ _ _ _ _ _)

theorem boundaryTask_fesOnly (b : Nat) (s : State) (n : Nat) : fesOnly s (boundaryTask b s n) := by
  unfold boundaryTask
  split
  · exact .same
  split
  · exact .same
  · exact .ite .same (taskOverrun_fesOnly s n)
  · exact .ite .same .same

theorem releaseDue_fesOnly (s : State) (b : Nat) : fesOnly s (releaseDue s b) := by
  have hwrites (rs : List Nat) : fesOnly s (applyVarWrites s rs) := .after (applyVarWrites_changes s rs).fch_eq .same
  exact .ite (.foldl (boundaryTask_fesOnly b) (hwrites _)) (hwrites _)

/-! ## What writes and withdrawn work leave of the executive -/

section
variable {β : Type} {g : Exec → β}

theorem storeRetain_keeps_exe (hg : ∀ (x : Exec) a b, g { x with copyA := a, copyB := b } = g x) (s : State) :
    keepsOn State.exe g s (storeRetain s) :=
  .ite .same (.ite (hg s.exe s.exe.copyA _) (hg s.exe _ s.exe.copyB))

theorem nvWrite_keeps_exe (hg : ∀ (x : Exec) a b, g { x with copyA := a, copyB := b } = g x)
    (hf : ∀ (x : Exec) a, g { x with savedForces := a } = g x) (s : State) (p : Purpose) : keepsOn State.exe g s (nvWrite s p) := by
  unfold nvWrite
  split
  · exact storeRetain_keeps_exe hg s
  · exact hf s.exe _
  · exact .same
  · unfold storeFault
    dsimp only
    split
    · exact .same
    · exact .ite .same .same
  · exact .same
  · unfold storeOptions
    split <;> exact .same
  · exact .same

theorem askWrite_keeps_exe (hg : ∀ (x : Exec) a b, g { x with copyA := a, copyB := b } = g x)
    (hf : ∀ (x : Exec) a, g { x with savedForces := a } = g x) (s : State) (window durUs : Nat) (p : Purpose) :
    keepsOn State.exe g s (askWrite s window durUs p) := by
  have hreq (t : State) (r : Request) : keepsOn State.exe g t (requestC2 t r) :=
    .ite .same (.ite (keepsOn.trans .same (nvWrite_keeps_exe hg hf _ _)) .same)
  exact keepsOn.trans (.ite (nvWrite_keeps_exe hg hf s p) .same) (hreq _ _)

theorem undoOne_keeps_exe (hg : ∀ (x : Exec) a b c d, g { x with stopPending := a, handover := b, tasks := c, load := d } = g x) (s : State)
    (x : Executing) : keepsOn State.exe g s (undoOne s x) := by
  unfold undoOne
  split
  · exact hg s.exe none s.exe.handover s.exe.tasks s.exe.load
  · exact hg s.exe s.exe.stopPending none _ s.exe.load
  · exact hg s.exe s.exe.stopPending s.exe.handover s.exe.tasks _
  · exact .same
  · exact .same
  · exact .same
  · exact .after (dropWaitingSet_changes s).exe_eq .same
  · exact .same
  · exact .same

theorem startCoreSwap_keeps_exe (hg : ∀ (x : Exec) a b c d, g { x with stopPending := a, handover := b, tasks := c, load := d } = g x) (s : State) :
    keepsOn State.exe g s (startCoreSwap s) := by
  have hundo (t : State) : keepsOn State.exe g t (undoWork t 1) := .foldl (undoOne_keeps_exe hg) .same
  exact .ite (.after (huskHold_changes _ _).exe_eq (keepsOn.trans .same (hundo _))) .same

end

/-! ## The latch number and the last boundary -/

/-- The number of the cycle latch and the last boundary. -/
def latchStamps (x : Exec) : Nat × Nat := (x.latchSeq, x.lastBoundary)

/-- The latch number and the last boundary of `t` are those of `s`. -/
abbrev stampsKept (s t : State) : Prop := keepsOn State.exe latchStamps s t

theorem writeVar_stampsKept (s : State) (i offset : Nat) (data : List Byte) : stampsKept s (writeVar s i offset data) := by
  unfold writeVar
  split
  · exact .same
  · exact .ite .same .same

theorem applyVarWrites_stampsKept (s : State) (rs : List Nat) : stampsKept s (applyVarWrites s rs) := by
  unfold applyVarWrites
  exact keepsOn.trans (.foldl (fun t w => writeVar_stampsKept _ _ _ _) .same) .same

theorem enterStopWith_stampsKept (s : State) (cause : StopCause) (abandon : Bool) : stampsKept s (enterStopWith s cause abandon) := by
  have hstop : stampsKept s (writeRetain (stopWith { s with exe := { s.exe with abandoned := abandon } } cause)) :=
    keepsOn.trans .same (askWrite_keeps_exe (by intros; rfl) (by intros; rfl) _ _ _ _)
  unfold enterStopWith
  dsimp only
  refine keepsOn.trans ?_ (startCoreSwap_keeps_exe (by intros; rfl) _)
  refine .after (concludeAll_changes _ _ _ _ _).exe_eq <| .after (refreshAll_changes _ _).exe_eq ?_
  exact .ite (.after (post_exe ..) (hstop.trans .same)) hstop

theorem taskFault_stampsKept (s : State) (n : Nat) : stampsKept s (taskFault s n) := by
  have hpost (t : Task) (e : Event) (i x y z : Nat) : stampsKept s (post (raise (setTask s n t) Reg.exeFlags 0 1) e i x y z) :=
    .after (post_exe ..) .same
  have hstopped (u : State) (cs : List Nat) : stampsKept u (cs.foldl (fun u c => modFe u c (fun f => { f with taskStopped := true })) u) :=
    .foldl (fun _ _ => .same) .same
  unfold taskFault
  dsimp only
  exact .ite (.after (refreshAll_changes _ _).exe_eq ((hpost _ _ _ _ _ _).trans (hstopped _ _)))
    ((hpost _ _ _ _ _ _).trans (enterStopWith_stampsKept _ _ _))

theorem taskOverrun_stampsKept (s : State) (n : Nat) : stampsKept s (taskOverrun s n) := by
  have hpost (t : Task) (e : Event) (i x y z : Nat) :
      stampsKept s (post (raise (skipRelease (setTask s n t) n 1 .overrun) Reg.exeFlags 0 0) e i x y z) := .after (post_exe ..) .same
  unfold taskOverrun
  dsimp only
  exact .ite ((hpost _ _ _ _ _ _).trans (taskFault_stampsKept _ _)) (hpost _ _ _ _ _ _)

theorem boundaryTask_stampsKept (b : Nat) (s : State) (n : Nat) : stampsKept s (boundaryTask b s n) := by
  unfold boundaryTask
  split
  · exact .same
  split
  · exact .same
  · exact .ite .same (taskOverrun_stampsKept s n)
  · exact .ite .same .same

theorem releaseDue_stampsKept (s : State) (b : Nat) : stampsKept s (releaseDue s b) :=
  .ite (.foldl (boundaryTask_stampsKept b) (applyVarWrites_stampsKept _ _)) (applyVarWrites_stampsKept _ _)

/-! ## The boundary before its releases -/

/-- The module at a boundary, its latch loaded and copied, before tasks are released. -/
def latched (s : State) (b : Nat) : State := copyField (startStream (calibrationBoundary (loadCycleLatch (lanesBoundary (closeCycle s)) b)))

theorem latched_fch (s : State) (b : Nat) :
    (latched s b).fch = (calibrationBoundary (loadCycleLatch (lanesBoundary (closeCycle s)) b)).fch := by
  rw [latched, (copyField_changes _).fch_eq, (startStream_changes _).fch_eq]

theorem latched_exe (s : State) (b : Nat) : (latched s b).exe =
    { (lanesBoundary (closeCycle s)).exe with latchSeq := ((lanesBoundary (closeCycle s)).exe.latchSeq + 1) % 256, lastBoundary := b } := by
  rw [latched, (copyField_changes _).exe_eq, (startStream_changes _).exe_eq]
  rfl

theorem becomeAlone_keeps_exe {β : Type} {g : Exec → β} (hg : ∀ (x : Exec) a b c d,
    g { x with handover := a, stopPending := b, startPending := c, tasks := d } = g x) (s : State) (cause : Nat) :
    keepsOn State.exe g s (becomeAlone s cause) :=
  .ite (.after (applyOutstanding_changes _).exe_eq ((changeRole_keeps_exe g (partnerLost s) .alone cause hg).trans
    (partnerLost_keeps_exe g s (fun x a => hg x a x.stopPending x.startPending x.tasks)))) .same

theorem lanesBoundary_stampsKept (s : State) : stampsKept s (lanesBoundary s) :=
  .ite (.ite (.after (send_exe ..) (keepsOn.trans .same (becomeAlone_keeps_exe (by intros; rfl) _ _))) .same) .same

theorem lanesBoundary_of_lanes {s : State} (h : s.pair.lanesShort = false) : lanesBoundary s = s := by
  unfold lanesBoundary
  rw [h]
  rfl

theorem closeCycle_keeps_pair {β : Type} (g : Pair → β) (s : State) (hg : ∀ (p : Pair) a, g { p with cycleBlocks := a } = g p := by intros; rfl) :
    g (closeCycle s).pair = g s.pair := by
  rw [closeCycle, (countMax_changes _ _ _ _).pair_eq]
  exact hg ..

/-- Messages to the partner leave the role. -/
theorem copyChange_role (s : State) (tag : Nat) (x : CopyContent) : (copyChange s tag x).pair.role = s.pair.role := by
  unfold copyChange sendEntries
  split
  · rw [send_keeps_pair (·.role), send_keeps_pair (·.role)]
  · rfl

theorem startStream_role (s : State) : (startStream s).pair.role = s.pair.role := by
  unfold startStream
  split
  · dsimp only
    rw [copyChange_role]
    exact (copyChange_role _ _ _).trans (copyChange_role _ _ _)
  · rfl

theorem latched_role {s : State} (b : Nat) (h : s.pair.lanesShort = false) : (latched s b).pair.role = s.pair.role := by
  have hl : (closeCycle s).pair.lanesShort = false := (closeCycle_keeps_pair (·.lanesShort) s).trans h
  rw [latched, copyField, copyChange_role, startStream_role]
  change (lanesBoundary (closeCycle s)).pair.role = _
  rw [lanesBoundary_of_lanes hl, closeCycle_keeps_pair (·.role)]

theorem latched_sup {s : State} (b : Nat) (h : s.pair.lanesShort = false) : (latched s b).sup = s.sup := by
  have hl : (closeCycle s).pair.lanesShort = false := (closeCycle_keeps_pair (·.lanesShort) s).trans h
  rw [latched, (copyField_changes _).sup_eq, (startStream_changes _).sup_eq]
  change (lanesBoundary (closeCycle s)).sup = _
  rw [lanesBoundary_of_lanes hl, (closeCycle_changes s).sup_eq]

/-- Where no lane is short, the boundary leaves the executive but for its latch number and last boundary. -/
theorem latched_keeps_exe {β : Type} (g : Exec → β) {s : State} (b : Nat) (h : s.pair.lanesShort = false)
    (hg : ∀ (x : Exec) a b, g { x with latchSeq := a, lastBoundary := b } = g x := by intros; rfl) : g (latched s b).exe = g s.exe := by
  have hl : (closeCycle s).pair.lanesShort = false := (closeCycle_keeps_pair (·.lanesShort) s).trans h
  rw [latched_exe, lanesBoundary_of_lanes hl, (closeCycle_changes s).exe_eq, hg]

/-! ## Releases -/

theorem writeVar_keeps_exe {β : Type} {g : Exec → β} (hg : ∀ (x : Exec) a, g { x with vars := a } = g x) (s : State) (i offset : Nat)
    (data : List Byte) : keepsOn State.exe g s (writeVar s i offset data) := by
  unfold writeVar
  split
  · exact .same
  · exact .ite .same (hg s.exe _)

theorem applyVarWrites_keeps_exe {β : Type} (g : Exec → β) (s : State) (rs : List Nat)
    (hg : ∀ (x : Exec) a b, g { x with vars := a, varWrites := b } = g x := by intros; rfl) : g (applyVarWrites s rs).exe = g s.exe := by
  have hone (t : State) (w : VarWrite) : keepsOn State.exe g t (writeVar t w.identity w.offset w.data) :=
    writeVar_keeps_exe (fun x a => hg x a x.varWrites) _ _ _ _
  have hall (l : List VarWrite) : keepsOn State.exe g s (l.foldl (fun t w => writeVar t w.identity w.offset w.data) s) := .foldl hone .same
  unfold applyVarWrites
  dsimp only
  rw [← hall]
  exact hg _ _ _

/-- The releases that a boundary gives a task. -/
def released (t : Task) (b : Nat) (u : Task) : Prop := u.state = .running ∧ u.start = b ∧ u.releases = (t.releases + 1) % 4294967296

theorem releaseTask_task (s : State) (b n : Nat) : released (task s n) b (task (releaseTask s b n) n) := by
  have h : task (releaseTask s b n) n = _ := storeGet_storeSet _ _ _ _
  rw [h]
  exact ⟨rfl, rfl, rfl⟩

theorem releaseTask_task_ne (s : State) (b : Nat) {n k : Nat} (h : k ≠ n) : task (releaseTask s b n) k = task s k := storeGet_storeSet_ne _ _ _ h

/-- A task that is due and does not run is released, or rests in its fault. -/
theorem boundaryTask_of_run {s : State} (b : Nat) {n : Nat} (hrun : s.exe.station = .run) (hw : withheld s = false)
    (hn : (task s n).state ≠ .running) : boundaryTask b s n = if (task s n).state = .fault then s else releaseTask s b n := by
  unfold boundaryTask
  rw [if_neg (fun h => h hrun), hw]
  cases hst : (task s n).state with
  | running => exact absurd hst hn
  | fault => rfl
  | idle => rfl
  | withheld => rfl

theorem foldl_boundaryTask (b : Nat) (l : List Nat) (hl : l.Nodup) (s : State) (hrun : s.exe.station = .run) (hw : withheld s = false)
    (hidle : ∀ k ∈ l, (task s k).state ≠ .running) (n : Nat) :
    (n ∉ l → task (l.foldl (boundaryTask b) s) n = task s n)
    ∧ (n ∈ l → (task s n).state = .idle → released (task s n) b (task (l.foldl (boundaryTask b) s) n)) := by
  induction l generalizing s with
  | nil => exact ⟨fun _ => rfl, fun h => absurd h List.not_mem_nil⟩
  | cons k l ih =>
    obtain ⟨hk, hl⟩ := List.nodup_cons.mp hl
    have hstep := boundaryTask_of_run b hrun hw (hidle k (.head _))
    have hrun1 : (boundaryTask b s k).exe.station = .run := by
      rw [hstep]
      split <;> exact hrun
    have hw1 : withheld (boundaryTask b s k) = false := by
      rw [hstep]
      split <;> exact hw
    have hother (j : Nat) (hj : j ≠ k) : task (boundaryTask b s k) j = task s j := by
      rw [hstep]
      split
      · rfl
      · exact releaseTask_task_ne s b hj
    obtain ⟨hout, hin⟩ := ih hl (boundaryTask b s k) hrun1 hw1 fun j hj => by
      rw [hother j (fun e => hk (e ▸ hj))]
      exact hidle j (.tail _ hj)
    refine ⟨fun hn => ?_, fun hn hst => ?_⟩
    · rw [List.mem_cons, not_or] at hn
      rw [List.foldl_cons, hout hn.2, hother n hn.1]
    · rw [List.foldl_cons]
      by_cases hnk : n = k
      · subst hnk
        rw [hout hk, hstep, if_neg (by rw [hst]; decide)]
        exact releaseTask_task s b n
      · have hnl := (List.mem_cons.mp hn).resolve_left hnk
        have h := hin hnl (by rw [hother n hnk, hst])
        rwa [hother n hnk] at h

theorem taskDue_congr {s t : State} (n b : Nat) (ht : task t n = task s n) (hi : t.exe.image = s.exe.image) : taskDue t b n = taskDue s b n := by
  unfold taskDue periodNs baseNs
  rw [ht, hi]

theorem task_state_of_anyRunning {s : State} (h : anyRunning s = false) (n : Nat) : (task s n).state ≠ .running := by
  unfold anyRunning at h
  unfold task
  generalize s.exe.tasks = m at h
  induction m with
  | nil => exact fun h => nomatch h
  | cons p m ih =>
    obtain ⟨k, v⟩ := p
    rw [List.any_cons, Bool.or_eq_false_iff] at h
    rw [storeGet]
    split
    · simpa using h.1
    · exact ih h.2

/-- What a boundary releases on an owner that withholds nothing. -/
theorem releaseDue_tasks {u : State} {b : Nat} (ho : owner u = true) (hrun : u.exe.station = .run) (hstop : u.exe.stopPending = none)
    (hhand : u.exe.handover = none) (hpfw : u.sup.pfw = false) (hfrom : u.exe.releaseFrom ≤ b) (hidle : ∀ k, (task u k).state ≠ .running)
    (n : Nat) (hn : n < 16) (hst : (task u n).state = .idle) :
    if taskDue u b n then released (task u n) b (task (releaseDue u b) n) else task (releaseDue u b) n = task u n := by
  have hrel : releasesTasks u b = true := by simp [releasesTasks, ho, hrun, hstop, hfrom]
  unfold releaseDue
  rw [if_pos hrel]
  dsimp only
  generalize (if withheld u then [] else ((List.range 16).filter (taskDue u b)).filter (fun n => decide ((task u n).state = .idle)
    || decide ((task u n).state = .withheld))) = going
  have hkeep (k : Nat) : task (applyVarWrites u going) k = task u k :=
    applyVarWrites_keeps_exe (fun x => storeGet (fun _ => ({} : Task)) x.tasks k) u going
  have hw : withheld (applyVarWrites u going) = false := by
    rw [withheld, (applyVarWrites_changes u going).sup_eq, applyVarWrites_keeps_exe (·.handover), hhand, hpfw]
    rfl
  obtain ⟨hout, hin⟩ := foldl_boundaryTask b ((List.range 16).filter (taskDue u b)) (List.nodup_range.filter _) (applyVarWrites u going)
    ((applyVarWrites_keeps_exe (·.station) u going).trans hrun) hw (fun k _ => by rw [hkeep]; exact hidle k) n
  rw [hkeep] at hout hin
  split
  · next hd => exact hin (List.mem_filter.mpr ⟨List.mem_range.mpr hn, hd⟩) hst
  · next hd => exact hout fun h => hd (List.mem_filter.mp h).2

/-! ## The end of a task -/

theorem areaPut_keeps_exe {β : Type} (g : Exec → β) (hg : ∀ (x : Exec) a b, g { x with area := a, dirty := b } = g x) (s : State) (a : Nat)
    (bs : List Byte) : keepsOn State.exe g s (areaPut s a bs) := hg s.exe _ _

theorem applyLoopWrites_tasks (s : State) (ws : List LoopWrite) : keepsOn State.exe (·.tasks) s (applyLoopWrites s ws) :=
  .foldl (fun t w => keepsOn.after (modLoop_exe t w.loop _) (.same (s := t)) |>.trans (areaPut_keeps_exe _ (by intros; rfl) _ _ _)) .same

theorem commitGmuInput_tasks (s : State) (ws : List (Nat × Word)) : keepsOn State.exe (·.tasks) s (commitGmuInput s ws) := by
  have hfold (l : List (Nat × Word)) : keepsOn State.exe (·.tasks) s (l.foldl (fun t p => areaPut t (t.gmu.inputBase + p.1) (leBytes 4 p.2.toNat)) s) :=
    .foldl (fun t p => areaPut_keeps_exe _ (by intros; rfl) _ _ _) .same
  exact hfold _

/-- The task whose instance ends is idle with its execution time. -/
theorem exec_taskEnd {s : State} (r : TaskResult) (h : onPairX s r.task.val = true) :
    ∃ t, exec (.taskEnd r) s = .next t ∧ (task t r.task.val).state = .idle ∧ (task t r.task.val).lastUs = r.execUs := by
  change ∃ t, execTaskEnd r s = .next t ∧ _
  unfold execTaskEnd
  dsimp only
  rw [h]
  generalize hs4 : shadowTask _ r.task.val = s4
  generalize hs5 : countMax (setTask s4 r.task.val _) Reg.exeSnapMaxexec r.task.val r.execUs = s5
  have hdone : (task s5 r.task.val).state = .idle ∧ (task s5 r.task.val).lastUs = r.execUs := by
    rw [← hs5, task, (countMax_changes _ _ _ _).exe_eq]
    rw [show storeGet _ (setTask s4 r.task.val _).exe.tasks r.task.val = _ from storeGet_storeSet _ _ _ _]
    exact ⟨rfl, rfl⟩
  generalize hs7 : (if r.task.val = (applyLoopWrites s5 r.loops).gmu.inputTask then commitGmuInput (applyLoopWrites s5 r.loops) (r.gmuInput.getD [])
    else applyLoopWrites s5 r.loops) = s7
  have htasks : s7.exe.tasks = s5.exe.tasks := by
    have hloops := applyLoopWrites_tasks s5 r.loops
    have hkeep : keepsOn State.exe (·.tasks) s5 s7 := hs7 ▸ .ite (hloops.trans (commitGmuInput_tasks _ _)) hloops
    exact hkeep
  refine ⟨_, if_neg (by decide), ?_⟩
  rw [task, (commit_changes _ _ _ _ _).exe_eq, (countBlocks_changes _ _).exe_eq, htasks]
  exact hdone

/-! ## The retain store -/

theorem retainOk_sealRetain (k : RetainCopy) : retainOk (sealRetain k) = true := decide_eq_true rfl

theorem retainCopy_of_newerB {t : State} (hb : retainOk t.exe.copyB = true) (h : t.exe.copyA.seq < t.exe.copyB.seq) :
    retainCopy t = some t.exe.copyB := by
  unfold retainCopy
  dsimp only
  rw [hb, if_pos h]
  cases retainOk t.exe.copyA <;> rfl

theorem retainCopy_of_newerA {t : State} (ha : retainOk t.exe.copyA = true)
    (h : retainOk t.exe.copyB = true → ¬ t.exe.copyA.seq < t.exe.copyB.seq) : retainCopy t = some t.exe.copyA := by
  unfold retainCopy
  dsimp only
  rw [ha]
  cases hb : retainOk t.exe.copyB with
  | true =>
    rw [if_neg (h hb)]
    rfl
  | false => rfl

/-- The copy written is the newest valid one, and the other is untouched. -/
theorem storeRetain_copies {s : State} (h : s.exe.shadowLive = true) :
    (∃ k, retainCopy (storeRetain s) = some k ∧ k.data = s.exe.shadow)
    ∧ ((storeRetain s).exe.copyA = s.exe.copyA ∨ (storeRetain s).exe.copyB = s.exe.copyB) := by
  unfold storeRetain
  dsimp only
  rw [h, if_neg (by decide)]
  split
  · exact ⟨⟨_, retainCopy_of_newerB (retainOk_sealRetain _) (Nat.lt_succ_self _), by rfl⟩, .inl rfl⟩
  · refine ⟨⟨_, retainCopy_of_newerA (retainOk_sealRetain _) (fun hb => ?_), by rfl⟩, .inr rfl⟩
    change ¬ (if retainOk s.exe.copyB = true then s.exe.copyB.seq + 1 else s.exe.copyA.seq + 1) < s.exe.copyB.seq
    rw [if_pos hb]
    exact Nat.not_lt_of_ge (Nat.le_succ _)

/-- What a write of MRAM asks of Gourd. -/
def writeRequest (s : State) (window durUs : Nat) (p : Purpose) : Request :=
  { cls := .c2, source := window, amount := 450, duration := some durUs, purpose := p, made := s.now }

theorem askWrite_of_free {s : State} (h : held s 4 = false) (window durUs : Nat) (p : Purpose) :
    askWrite s window durUs p = requestC2 s (writeRequest s window durUs p) := by
  unfold askWrite
  rw [h]
  rfl

theorem requestC2_queues {s : State} (r : Request) (h : held s 4 = false) (hp : s.grd.pfw = false) :
    requestC2 s r = { s with grd := { s.grd with c2 := s.grd.c2 ++ [r] } } := by
  unfold requestC2
  rw [h, hp]
  rfl

theorem requestC2_writes {s : State} (r : Request) (h : held s 4 = false) (hp : s.grd.pfw = true) (hr : powerFailWrite r.purpose = true) :
    requestC2 s r = nvWrite { s with grd := { s.grd with c0 := s.grd.c0 ++ [{ r with cls := .c0 }] } } r.purpose := by
  unfold requestC2
  rw [h, hp, hr]
  rfl

theorem writeRetain_asks {s : State} (h : held s 4 = false) (hp : s.grd.pfw = false) : ∃ r : Request, r.cls = .c2 ∧ r.source = 1 ∧ r.amount = 450
    ∧ r.duration = some 6000 ∧ r.purpose = .retainWrite ∧ r.made = s.now
    ∧ writeRetain s = { s with grd := { s.grd with c2 := s.grd.c2 ++ [r] } } :=
  ⟨writeRequest s 1 6000 .retainWrite, rfl, rfl, rfl, rfl, rfl, rfl, (askWrite_of_free h _ _ _).trans (requestC2_queues _ h hp)⟩

theorem storeRetain_held (s : State) (w : Nat) : held (storeRetain s) w = held s w := by
  unfold storeRetain
  dsimp only
  split
  · rfl
  · split <;> rfl

/-- Behind Gourd's Husk the retain data are written at once. -/
theorem writeRetain_of_held {s : State} (h : held s 4 = true) : writeRetain s = storeRetain s := by
  unfold writeRetain askWrite requestC2
  rw [h, if_pos rfl]
  exact if_pos ((storeRetain_held s 4).trans h)

/-- Without Gourd, or after the warning, the retain data are written at once. -/
theorem writeRetain_writes {s : State} (h : held s 4 = true ∨ s.grd.pfw = true) :
    ∃ u : State, u.exe = s.exe ∧ (writeRetain s).exe = (storeRetain u).exe := by
  cases hh : held s 4 with
  | true => exact ⟨s, rfl, congrArg State.exe (writeRetain_of_held hh)⟩
  | false =>
    have hpfw : s.grd.pfw = true := h.resolve_left (by simp [hh])
    exact ⟨_, by rfl, congrArg State.exe ((askWrite_of_free hh _ _ _).trans (requestC2_writes _ hh hpfw rfl))⟩

theorem storeRetain_exe_congr {s u : State} (h : u.exe = s.exe) : (storeRetain u).exe = (storeRetain s).exe := by
  unfold storeRetain
  dsimp only
  rw [h]
  split
  · exact h
  · split <;> rfl

/-! ## STOP -/

/-- No instance runs and no STOP waits. -/
def atRest (x : Exec) : Prop := x.stopPending = none ∧ x.tasks.any (fun p => decide (p.2.state = .running)) = false

theorem any_running_unheld (m : Store Task) :
    (m.map (fun p => (p.1, if p.2.state = .withheld then { p.2 with state := .idle } else p.2))).any (fun p => decide (p.2.state = .running))
      = m.any (fun p => decide (p.2.state = .running)) := by
  rw [List.any_map]
  congr 1
  funext p
  dsimp only [Function.comp]
  by_cases h : p.2.state = .withheld
  · simp [h]
  · simp [h]

theorem any_running_abandoned (m : Store Task) :
    (m.map (fun p => (p.1, if p.2.state = .running then { p.2 with state := .idle } else p.2))).any (fun p => decide (p.2.state = .running))
      = false := by
  rw [List.any_map, List.any_eq_false]
  intro p _
  dsimp only [Function.comp]
  by_cases h : p.2.state = .running
  · simp [h]
  · simp [h]

theorem undoOne_atRest {s : State} (x : Executing) (h : atRest s.exe) : atRest (undoOne s x).exe := by
  unfold undoOne
  split
  · exact ⟨rfl, h.2⟩
  · exact ⟨h.1, (any_running_unheld _).trans h.2⟩
  · exact h
  · exact h
  · exact h
  · exact h
  · rw [(dropWaitingSet_changes s).exe_eq]
    exact h
  · exact h
  · exact h

theorem undoWork_atRest {s : State} (w : Nat) (h : atRest s.exe) : atRest (undoWork s w).exe := by
  have hall (l : List Executing) (u : State) (hu : atRest u.exe) : atRest (l.foldl undoOne u).exe := by
    induction l generalizing u with
    | nil => exact hu
    | cons x l ih => exact ih _ (undoOne_atRest x hu)
  exact hall _ s h

theorem startCoreSwap_atRest {s : State} (h : atRest s.exe) : atRest (startCoreSwap s).exe := by
  unfold startCoreSwap
  split
  · rw [(huskHold_changes _ _).exe_eq]
    exact undoWork_atRest 1 h
  · exact h

/-- Commands that end leave the others settled. -/
theorem concludeAll_keeps_settled {s : State} {op : Nat} (p : Executing → Bool) (code : Code) (wh : Nat)
    (result : State → Executing → List Byte) (h : settled s op) : settled (concludeAll s p code wh result) op := by
  have hall (l : List Executing) (u : State) (hu : settled u op) :
      settled (l.foldl (fun s x => conclude s x code wh 0 (result s x)) u) op := by
    induction l generalizing u with
    | nil => exact hu
    | cons x l ih =>
      refine ih _ fun y hy => hu y ?_
      rw [conclude_executing] at hy
      exact List.mem_of_mem_erase hy
  exact hall _ s h

theorem startCoreSwap_settled {s : State} {op : Nat} (h : settled s op) : settled (startCoreSwap s) op := by
  unfold startCoreSwap
  split
  · refine concludeAll_keeps_settled _ _ _ _ ?_
    unfold settled
    change ∀ x ∈ (undoWork _ 1).cmd.executing, _
    rw [(undoWork_changes _ _).cmd_eq]
    exact h
  · exact h

/-- The station's state, its cause and whether work was abandoned. -/
def stopReadings (x : Exec) : Station × StopCause × Bool := (x.station, x.stopCause, x.abandoned)

/-- The entry into STOP. -/
theorem enterStopWith_stops (s : State) (cause : StopCause) (abandon : Bool) (h : abandon = false → anyRunning s = false) :
    stopReadings (enterStopWith s cause abandon).exe = (.stop, cause, abandon) ∧ atRest (enterStopWith s cause abandon).exe
      ∧ settled (enterStopWith s cause abandon) 0x0102 := by
  unfold enterStopWith
  dsimp only
  generalize hu : stopWith { s with exe := { s.exe with abandoned := abandon } } cause = u
  have hread : stopReadings (writeRetain u).exe = (.stop, cause, abandon) := by
    have hkeep : stopReadings (writeRetain u).exe = stopReadings u.exe := askWrite_keeps_exe (by intros; rfl) (by intros; rfl) u 1 6000 .retainWrite
    rw [hkeep, ← hu]
    rfl
  have hpending : (writeRetain u).exe.stopPending = none := by
    have hkeep : (writeRetain u).exe.stopPending = u.exe.stopPending :=
      askWrite_keeps_exe (g := (·.stopPending)) (by intros; rfl) (by intros; rfl) u 1 6000 .retainWrite
    rw [hkeep, ← hu]
    rfl
  have htasks : (writeRetain u).exe.tasks = s.exe.tasks := by
    have hkeep : (writeRetain u).exe.tasks = u.exe.tasks :=
      askWrite_keeps_exe (g := (·.tasks)) (by intros; rfl) (by intros; rfl) u 1 6000 .retainWrite
    rw [hkeep, ← hu]
    rfl
  generalize writeRetain u = v at hread hpending htasks
  generalize hw : (if abandon then post { v with exe := { v.exe with
    tasks := v.exe.tasks.map (fun p => (p.1, if p.2.state = .running then { p.2 with state := .idle } else p.2)) } } .stopAbandoned 0 0 0 0
    else v) = w
  have hwread : stopReadings w.exe = (.stop, cause, abandon) ∧ atRest w.exe := by
    cases abandon with
    | true =>
      rw [← hw, if_pos rfl, post_exe]
      exact ⟨hread, hpending, any_running_abandoned _⟩
    | false =>
      rw [← hw, if_neg (by decide)]
      exact ⟨hread, hpending, htasks ▸ h rfl⟩
  have hx : (concludeAll (refreshAll w (latchChannels w)) (fun x => decide (x.opcode = 0x0102)) .ok 0
      (fun t _ => leBytes 4 (exeState t).toNat)).exe = w.exe := by
    rw [(concludeAll_changes _ _ _ _ _).exe_eq, (refreshAll_changes _ _).exe_eq]
  refine ⟨?_, startCoreSwap_atRest (hx ▸ hwread.2), startCoreSwap_settled fun x hx => ?_⟩
  · have hkeep (r : State) : stopReadings (startCoreSwap r).exe = stopReadings r.exe := startCoreSwap_keeps_exe (by intros; rfl) r
    rw [hkeep, hx]
    exact hwread.1
  · simpa using concludeAll_settled _ _ _ _ _ x hx

/-! ## The statement -/

theorem exec_baseCycleBoundary (s : State) : exec .baseCycleBoundary s = .next (releaseDue (latched s (boundaryOf s)) (boundaryOf s)) := rfl

theorem releaseDue_latched_stamps (s : State) (b : Nat) : (releaseDue (latched s b) b).fch.cycleStamp = b
    ∧ (releaseDue (latched s b) b).exe.lastBoundary = b ∧ (releaseDue (latched s b) b).exe.latchSeq = (s.exe.latchSeq + 1) % 256 := by
  have hfes : withoutFes (releaseDue (latched s b) b).fch = withoutFes (latched s b).fch := releaseDue_fesOnly _ b
  have hfch : (releaseDue (latched s b) b).fch.cycleStamp = (latched s b).fch.cycleStamp :=
    (congrArg Field.cycleStamp hfes :)
  have hstamps : latchStamps (releaseDue (latched s b) b).exe = latchStamps (latched s b).exe := releaseDue_stampsKept _ b
  have hseq : latchStamps (lanesBoundary (closeCycle s)).exe = latchStamps s.exe := by
    have hlanes : latchStamps (lanesBoundary (closeCycle s)).exe = latchStamps (closeCycle s).exe := lanesBoundary_stampsKept _
    rw [hlanes, (closeCycle_changes s).exe_eq]
  rw [latched_exe] at hstamps
  refine ⟨hfch.trans ?_, congrArg Prod.snd hstamps, (congrArg Prod.fst hstamps).trans ?_⟩
  · rw [latched_fch]
    rfl
  · change (_ + 1) % 256 = _
    rw [show (lanesBoundary (closeCycle s)).exe.latchSeq = s.exe.latchSeq from congrArg Prod.fst hseq]

/-- The releases of a boundary, in the terms of the state before it. -/
theorem boundary_releases {s : State} {b : Nat} (ho : owner s = true) (hrun : s.exe.station = .run) (hstop : s.exe.stopPending = none)
    (hhand : s.exe.handover = none) (hpfw : s.sup.pfw = false) (hlanes : s.pair.lanesShort = false) (hany : anyRunning s = false)
    (hfrom : s.exe.releaseFrom ≤ b) {n : Nat} (hn : n < 16) (hst : (task s n).state = .idle) :
    if taskDue s b n then released (task s n) b (task (releaseDue (latched s b) b) n) else task (releaseDue (latched s b) b) n = task s n := by
  have htask (k : Nat) : task (latched s b) k = task s k :=
    latched_keeps_exe (fun x => storeGet (fun _ => ({} : Task)) x.tasks k) b hlanes
  have hown : owner (latched s b) = true := by
    rw [owner, latched_role b hlanes]
    exact ho
  have h := releaseDue_tasks (u := latched s b) (b := b) hown ((latched_keeps_exe (·.station) b hlanes).trans hrun)
    ((latched_keeps_exe (·.stopPending) b hlanes).trans hstop) ((latched_keeps_exe (·.handover) b hlanes).trans hhand)
    (by rw [latched_sup b hlanes]; exact hpfw) (by rw [latched_keeps_exe (·.releaseFrom) b hlanes]; exact hfrom)
    (fun k => by rw [htask]; exact task_state_of_anyRunning hany k) n hn (by rw [htask]; exact hst)
  rwa [taskDue_congr n b (htask n) (latched_keeps_exe (·.image) b hlanes), htask] at h

/-- Settles O14, by what each operation of the boundary and of the entry into STOP leaves of the executive. -/
theorem stationBoundaries : Obligations.StationBoundaries := by
  refine ⟨fun s => ?_, fun r s h => exec_taskEnd r h, fun r s h => ?_, fun s h hp => ?_, fun s h hlive => ?_, fun s cause h hany => ?_,
    fun s cause h => ?_, fun s p h hst => ?_⟩
  · obtain ⟨hstamp, hlast, hseq⟩ := releaseDue_latched_stamps s (boundaryOf s)
    exact ⟨_, exec_baseCycleBoundary s, hstamp, hlast, hseq, fun ho hrun hstop hhand hpfw hlanes hany hfrom n hn hst =>
      boundary_releases ho hrun hstop hhand hpfw hlanes hany hfrom hn hst⟩
  · change execTaskEnd r s = _
    unfold execTaskEnd
    dsimp only
    rw [h]
    rfl
  · obtain ⟨r, hc, hsrc, ha, hd, hpur, hm, hw⟩ := writeRetain_asks h hp
    exact ⟨r, hc, hsrc, ha, hd, hpur, hm, congrArg Host.Outcome.next hw⟩
  · obtain ⟨u, hu, hexe⟩ := writeRetain_writes h
    rw [storeRetain_exe_congr hu] at hexe
    refine ⟨writeRetain s, rfl, ?_⟩
    rw [retainCopy, hexe]
    exact storeRetain_copies hlive
  · obtain ⟨hread, hrest, hset⟩ := enterStopWith_stops s cause false (fun _ => hany)
    refine ⟨enterStopWith s cause false, ?_, ?_⟩
    · change execStopEnter s = _
      unfold execStopEnter enterStop
      rw [h, hany]
      rfl
    · exact ⟨congrArg Prod.fst hread, congrArg (·.2.1) hread, hrest.1, congrArg (·.2.2) hread, hset⟩
  · obtain ⟨hread, hrest, hset⟩ := enterStopWith_stops s cause (anyRunning s) id
    refine ⟨enterStopWith s cause (anyRunning s), ?_, ?_⟩
    · change execStopGraceExpiry s = _
      unfold execStopGraceExpiry enterStop
      rw [h]
      rfl
    · exact ⟨congrArg Prod.fst hread, congrArg (·.2.1) hread, congrArg (·.2.2) hread, hrest.2, hset⟩
  · have hrun : execRestartBoundary s = .next { s with exe := { s.exe with station := .run, stopCause := .none, startPending := none } } := by
      unfold execRestartBoundary
      rw [h, hst]
      rfl
    exact ⟨_, hrun, rfl, rfl, rfl⟩

end Sys2Proof
end

section
/-! PROOFS. The cold start of a module whose command has two entries (O15). -/
namespace Sys2Proof
open Sys2Proof.Machine

set_option Elab.async false

/-! ## A command with two entries

Nothing in O15 says that a command has one entry. Here the COLD that runs has two: the first still waits for the grant of channel 5, the
second is of a session that has closed. -/

/-- An entry of the COLD of the tests' command, waiting for these requests to Gourd. -/
def coldEntry (closed : Bool) (waits : List Nat) : Executing :=
  { opcode := 0x0104, queue := tctx.queue.val, session := tctx.session.val, tag := tctx.tag.toNat, waits := waits, closed := closed }

/-- The image of the tests with a control loop that drives channel 5. -/
def loopImage : Image := { tImage with loops := [{ loop := 4, loopId := 1, out := 5 }] }

/-- An ALONE module in STOP with no pod in service: no loop finds a place, so the stop demand of the loop withdraws channel 5's request. -/
def twiceEntered : State := setCfg { tReady with
  exe := { station := .stop, image := some loopImage }
  hz := { podMap := [] }
  grd := { c1 := [{ cls := .c1, source := 5, group := some 0, purpose := .other }] }
  cmd := { sessions := [{ slot := 0, roles := 31 }], executing := [coldEntry false [grantSubject 5], coldEntry true []] } } Reg.fchMode 5 (word 4)

theorem twiceEntered_ready : ready twiceEntered (.cold tctx .none) := by unfold ready; decide

/-- The code of the newest packet on the command's notification queue. -/
def lastCode (o : Host.Outcome State Fault Refusal) : Option Code :=
  match o with
  | .next t => (repliesOf t.cmd tctx.queue.val).getLast?.map (·.code)
  | _ => none

/-- The withdrawn request ends the first entry with BUDGET_REFUSED, and the answer of COLD falls to the entry of the closed session. -/
theorem twiceEntered_lastCode : lastCode (exec (.cold tctx .none) twiceEntered) = some .budgetRefused := by decide +kernel

/-- Refutes O15: the answer of COLD is not the last packet where a second entry of the command is closed. -/
theorem not_stationCommands : ¬ Obligations.StationCommands := by
  rintro ⟨-, -, -, -, hcold, -⟩
  obtain ⟨t, ht, -, -, -, -, -, r, hr, -, -, -, hcode, -⟩ :=
    hcold tctx .none twiceEntered loopImage twiceEntered_ready (by decide) rfl rfl (.inl rfl)
  have hlast := twiceEntered_lastCode
  rw [ht] at hlast
  have hok : lastCode (.next t) = some .ok := by
    change (repliesOf t.cmd tctx.queue.val).getLast?.map (·.code) = _
    rw [hr, ← hcode]
    rfl
  rw [hok] at hlast
  cases hlast

end Sys2Proof
end

section
/-! PROOFS. Handovers and image swaps (O16). -/
namespace Sys2Proof
open Sys2Proof.Machine

set_option Elab.async false

/-! ## Commands that end and none that starts -/

/-- Every opcode that executes in `t` executes in `s`. -/
def noNewOps (s t : State) : Prop := ∀ x ∈ t.cmd.executing, ∃ y ∈ s.cmd.executing, y.opcode = x.opcode

namespace noNewOps

variable {s t u : State}

theorem same : noNewOps s s := fun x hx => ⟨x, hx, rfl⟩

theorem trans (h : noNewOps s t) (k : noNewOps t u) : noNewOps s u := fun x hx => by
  obtain ⟨y, hy, hyx⟩ := k x hx
  obtain ⟨z, hz, hzy⟩ := h y hy
  exact ⟨z, hz, hzy.trans hyx⟩

theorem after_executing (e : u.cmd.executing = t.cmd.executing) (h : noNewOps s t) : noNewOps s u := fun x hx => h x (e ▸ hx)

theorem after (e : u.cmd = t.cmd) (h : noNewOps s t) : noNewOps s u := h.after_executing (congrArg Commands.executing e)

theorem ite {c : Prop} [Decidable c] {a b : State} (ha : noNewOps s a) (hb : noNewOps s b) : noNewOps s (if c then a else b) := by
  split
  · exact ha
  · exact hb

theorem foldl {α : Type} {f : State → α → State} {l : List α} (hf : ∀ t x, noNewOps t (f t x)) (h : noNewOps s t) : noNewOps s (l.foldl f t) := by
  induction l generalizing t with
  | nil => exact h
  | cons x l ih => exact ih (h.trans (hf t x))

theorem settled (h : noNewOps s t) {op : Nat} (hs : settled s op) : settled t op := fun x hx => by
  obtain ⟨y, hy, hyx⟩ := h x hx
  exact hyx ▸ hs y hy

end noNewOps

theorem conclude_noNewOps (s : State) (x : Executing) (code : Code) (wh ident : Nat) (result : List Byte) :
    noNewOps s (conclude s x code wh ident result) := fun y hy =>
  ⟨y, List.mem_of_mem_erase (conclude_executing s x code wh ident result ▸ hy), rfl⟩

theorem concludeAll_noNewOps (s : State) (p : Executing → Bool) (code : Code) (wh : Nat) (result : State → Executing → List Byte) :
    noNewOps s (concludeAll s p code wh result) := .foldl (fun t x => conclude_noNewOps t x code wh 0 _) .same

theorem post_noNewOps (s : State) (e : Event) (i x y z : Nat) : noNewOps s (post s e i x y z) :=
  .after_executing (post_openKept s e i x y z).1 .same

theorem refuseRequest_noNewOps (s : State) (r : Request) (why : Reason) : noNewOps s (refuseRequest s r why) := by
  have hlog : noNewOps s (logRequest (countUp (raise s Reg.grdFlags 0 1) Reg.grdSnapRef 0) r .refused why 0) :=
    .after (logRequest_changes _ _ _ _ _).cmd_eq .same
  unfold refuseRequest
  dsimp only
  exact .ite (hlog.trans <| .trans (t := modFe _ _ _) .same (concludeAll_noNewOps _ _ _ _ _)) hlog

theorem withdrawC1_noNewOps (s : State) (c : Nat) (why : Reason) : noNewOps s (withdrawC1 s c why) := by
  unfold withdrawC1
  split
  · exact .trans (t := { s with grd := _ }) .same (refuseRequest_noNewOps _ _ _)
  · exact .same

theorem leaveField_noNewOps (s : State) : noNewOps s (leaveField s) := by
  unfold leaveField
  dsimp only
  refine .foldl (fun t (r : Request) => withdrawC1_noNewOps t r.source .withdrawn) (noNewOps.trans ?_ (concludeAll_noNewOps _ _ _ _ _))
  exact .same

theorem endInjections_noNewOps (s : State) (reason : Nat) : noNewOps s (endInjections s reason) := by
  have hend (t : State) (g : Nat) : noNewOps t (endInjection t g reason) := by
    unfold endInjection
    dsimp only
    exact .ite (noNewOps.trans .same (post_noNewOps _ _ _ _ _ _)) (noNewOps.trans .same (post_noNewOps _ _ _ _ _ _))
  exact .foldl (fun t g => .ite (hend t g) .same) .same

theorem changeRole_noNewOps (s : State) (r : Role) (cause : Nat) : noNewOps s (changeRole s r cause) :=
  changeRole_cases (P := noNewOps s) s r cause .same (fun t e i x y z h => h.trans (post_noNewOps _ _ _ _ _ _)) (fun t p b h => h)
    (fun t p h => h) (fun t x h => h) (fun t h => h.trans (endInjections_noNewOps t 5)) (fun t h => .after (truncateCaptures_changes t).cmd_eq h)
    (fun t h => h) (fun t h => h.trans (leaveField_noNewOps t))

theorem huskHold_noNewOps (s : State) (w : Nat) : noNewOps s (huskHold s w) := by
  unfold huskHold
  refine .trans ?_ (concludeAll_noNewOps _ _ _ _ _)
  exact .same

theorem startCoreSwap_noNewOps (s : State) : noNewOps s (startCoreSwap s) := by
  unfold startCoreSwap
  split
  · refine .trans (.after (undoWork_changes _ 1).cmd_eq ?_) (huskHold_noNewOps _ 1)
    exact .same
  · exact .same

theorem huskHold_ownDriven (s : State) (w : Nat) : (huskHold s w).own.ownDriven = s.own.ownDriven := by
  unfold huskHold
  rw [(concludeAll_changes _ _ _ _ _).own_eq]

theorem startCoreSwap_ownDriven (s : State) : (startCoreSwap s).own.ownDriven = s.own.ownDriven := by
  unfold startCoreSwap
  split
  · rw [huskHold_ownDriven, (undoWork_changes _ 1).own_eq]
  · rfl

/-! ## An image installed by a module without the field -/

/-- `t` has the ownership, the pair logic and the commands of `s`. -/
def fieldLeft (s t : State) : Prop := t.own = s.own ∧ t.pair = s.pair ∧ t.cmd = s.cmd

namespace fieldLeft

variable {s t u : State}

theorem same : fieldLeft s s := ⟨rfl, rfl, rfl⟩

theorem trans (h : fieldLeft s t) (k : fieldLeft t u) : fieldLeft s u := ⟨k.1.trans h.1, k.2.1.trans h.2.1, k.2.2.trans h.2.2⟩

theorem of_changes {w : List Area} (h : changesOnly w s t) (ho : w.any (fun A => A.has (.unit .own)) = false := by rfl)
    (hp : w.any (fun A => A.has (.unit .pair)) = false := by rfl) (hc : w.any (fun A => A.has (.unit .cmd)) = false := by rfl) : fieldLeft s t :=
  ⟨h.own_eq ho, h.pair_eq hp, h.cmd_eq hc⟩

theorem ite {c : Prop} [Decidable c] {a b : State} (ha : fieldLeft s a) (hb : fieldLeft s b) : fieldLeft s (if c then a else b) := by
  split
  · exact ha
  · exact hb

theorem foldl {α : Type} {f : State → α → State} {l : List α} (hf : ∀ t x, fieldLeft t (f t x)) (h : fieldLeft s t) :
    fieldLeft s (l.foldl f t) := by
  induction l generalizing t with
  | nil => exact h
  | cons x l ih => exact ih (h.trans (hf t x))

theorem owner_eq (h : fieldLeft s t) : owner t = owner s := by rw [owner, h.2.1, owner]

end fieldLeft

/-- A module without the field commits nothing for the loops that find no pod. -/
theorem replaceLoops_fieldLeft {s : State} (ho : owner s = false) (pod : Nat) (moving : List (Nat × Loop)) :
    fieldLeft s (replaceLoops s pod moving) := by
  have hplace (t : State) (u : List (Nat × Loop)) (ps : List Nat) : fieldLeft t (placeUnit ps t u) := .of_changes (placeUnit_changes _ _ _)
  have h1 : fieldLeft s ((placementUnits moving).foldl (placeUnit (podsInService s))
      (moving.foldl (fun t q => modLoop t q.1 (fun l => { l with unplaced := true })) s)) :=
    .foldl (fun t u => hplace t u _) (.foldl (fun t (q : Nat × Loop) => .of_changes (modLoop_changes t q.1 _)) .same)
  unfold replaceLoops
  dsimp only
  generalize (placementUnits moving).foldl (placeUnit (podsInService s))
    (moving.foldl (fun t q => modLoop t q.1 (fun l => { l with unplaced := true })) s) = s1 at h1 ⊢
  refine .ite h1 ?_
  generalize hs2 : List.foldl _ (hzRaise s1 1) _ = s2
  have h2 : fieldLeft s s2 := by
    rw [← hs2]
    refine .foldl (fun t (q : Nat × Loop) => ?_) (h1.trans (.of_changes (hzRaise_changes s1 1)))
    split
    · exact .of_changes (modLoop_changes _ _ _)
    · exact .same
  rw [if_neg (by simp [h2.owner_eq, ho])]
  exact h2

theorem installSections_fieldLeft {s : State} (ho : owner s = false) (im : Image) (changed keep : Bool) :
    fieldLeft s (installSections s im changed keep) := by
  have htables : fieldLeft s (if changed then installNet (installCan (installGmu s im.gmu) im.can) im.net else s) :=
    .ite ((fieldLeft.of_changes (installGmu_changes s im.gmu)).trans <| (fieldLeft.of_changes (installCan_changes _ im.can)).trans <|
      .of_changes (installNet_changes _ im.net)) .same
  unfold installSections
  dsimp only
  generalize (if changed then installNet (installCan (installGmu s im.gmu) im.can) im.net else s) = s1 at htables ⊢
  have hloops : fieldLeft s (startModes (installLoops s1 im keep)) :=
    htables.trans <| (fieldLeft.of_changes (installLoops_changes s1 im keep)).trans <| .of_changes (startModes_changes _)
  unfold placeOrphans
  dsimp only
  exact .ite hloops (hloops.trans (replaceLoops_fieldLeft (hloops.owner_eq.trans ho) _ _))

theorem installImage_fieldLeft {s : State} (ho : owner s = false) (im : Image) (keep : Bool) : fieldLeft s (installImage s im keep) := by
  have hsections (t : State) (c k : Bool) (h : fieldLeft s t) : fieldLeft s (installSections t im c k) :=
    h.trans (installSections_fieldLeft (h.owner_eq.trans ho) im c k)
  unfold installImage
  dsimp only
  exact hsections _ _ _ (.ite (.foldl (fun t d => .of_changes (installChannel_changes t d)) ⟨rfl, rfl, rfl⟩) ⟨rfl, rfl, rfl⟩)

/-! ## Handover -/

/-- The field given to the partner: the line is quiet, the role a follower's, and no command is new. -/
theorem giveField_gives (s : State) (swap : Bool) (h : s.own.ownDriven = false) :
    (giveField s swap).own.ownDriven = false ∧ (giveField s swap).pair.role = (if swap then .syncing else .standby)
      ∧ noNewOps s (giveField s swap) := by
  have hfollows : ownerRole (if swap then .syncing else .standby) = false := by
    split <;> rfl
  unfold giveField
  dsimp only
  generalize hr : (if swap then Role.syncing else .standby) = r at hfollows ⊢
  have hline : (changeRole s r 5).own.ownDriven = false := changeRole_line_stopped 5 hfollows h
  have hnew := changeRole_noNewOps s r 5
  generalize hs1 : modPair (changeRole s r 5) (fun p => { p with partnerRole := 1 }) = s1
  have h1 : s1.own.ownDriven = false ∧ s1.pair.role = r ∧ noNewOps s s1 := hs1 ▸ ⟨hline, changeRole_role s r 5, hnew⟩
  split
  · split
    · next im _ =>
      have hleft := installImage_fieldLeft (s := s1) (by rw [owner, h1.2.1, hfollows]) im false
      exact ⟨hleft.1 ▸ h1.1, (congrArg Pair.role hleft.2.1).trans h1.2.1, .after hleft.2.2 h1.2.2⟩
    · exact h1
  · exact h1

theorem handoverBoundary_le (s : State) (h : 0 < baseNs s) : s.now + 20000 ≤ handoverBoundary s := by
  have hdiv := Nat.div_add_mod (s.now + 20000 + baseNs s - 1) (baseNs s)
  have hmod := Nat.mod_lt (s.now + 20000 + baseNs s - 1) h
  rw [Nat.mul_comm] at hdiv
  unfold handoverBoundary
  omega

theorem send_ready {s : State} (m : PairMsg) (hl : s.pair.link = .ready) (hh : held s 7 = false) :
    send s m = { s with pair := { s.pair with outbox := s.pair.outbox ++ [roleStamp s m] } } := if_pos ⟨hl, hh⟩

theorem task_resumed (s : State) (n : Nat) : (task (resumeReleases s) n).state ≠ .withheld := by
  have hmap : task (resumeReleases s) n = if (task s n).state = .withheld then { task s n with state := .idle } else task s n :=
    storeGet_map (fun _ => ({} : Task)) (fun _ t => if t.state = .withheld then { t with state := .idle } else t) s.exe.tasks n (by rfl)
  rw [hmap]
  split
  · exact nofun
  · assumption

theorem exec_handoverDrainExpiry {s : State} {h : HandoverPending} (hh : s.exe.handover = some h) (hb : h.boundary = none) (hi : h.internal = false) :
    ∃ t, exec .handoverDrainExpiry s = .next t ∧ t.exe.handover = none ∧ settled t 0x0105 ∧ ∀ n, (task t n).state ≠ .withheld := by
  change ∃ t, execHandoverDrainExpiry s = .next t ∧ _
  unfold execHandoverDrainExpiry
  rw [hh]
  dsimp only
  rw [hb, hi]
  generalize hu : concludeAll (resumeReleases s) (fun x => decide (x.opcode = 0x0105)) .busy 0 (fun _ _ => []) = u
  have hexe : u.exe = (resumeReleases s).exe := hu ▸ (concludeAll_changes _ _ _ _ _).exe_eq
  refine ⟨u, rfl, by rw [hexe]; rfl, fun x hx => ?_, fun n => ?_⟩
  · rw [← hu] at hx
    simpa using concludeAll_settled _ _ _ _ _ x hx
  · rw [task, hexe]
    exact task_resumed s n

theorem exec_handoverBoundary {s : State} {h : HandoverPending} {b : Nat} (hh : s.exe.handover = some h) (hb : h.boundary = some b) (hn : b ≤ s.now)
    (ha : s.pair.prepareAcked = true) : ∃ t, exec .handoverBoundary s = .next t ∧ t.own.ownDriven = false ∧ settled t 0x0105
      ∧ t.pair.role = (if h.swap then .syncing else .standby) := by
  change ∃ t, execHandoverBoundary s = .next t ∧ _
  unfold execHandoverBoundary
  rw [hh]
  dsimp only
  rw [hb]
  dsimp only
  rw [if_neg (by simp [ha, hn])]
  generalize hs2 : concludeAll _ (fun x => decide (x.opcode = 0x0105)) .ok 0 _ = s2
  have hline : s2.own.ownDriven = false := by
    rw [← hs2, (concludeAll_changes _ _ _ _ _).own_eq]
    rfl
  have hset : settled s2 0x0105 := fun x hx => by
    rw [← hs2] at hx
    simpa using concludeAll_settled _ _ _ _ _ x hx
  obtain ⟨hown, hrole, hnew⟩ := giveField_gives s2 h.swap hline
  refine ⟨_, rfl, ?_, (startCoreSwap_noNewOps _).settled (hnew.settled hset), by rw [(startCoreSwap_changes _).pair_eq, hrole]⟩
  have hkeep : (startCoreSwap (giveField s2 h.swap)).own.ownDriven = (giveField s2 h.swap).own.ownDriven := startCoreSwap_ownDriven _
  exact hkeep.trans hown

/-! ## The statement -/

/-- A ready command whose role may execute it does its work. -/
theorem command_body {s : State} {i : Instr} {c : Ctx} {op island : Nat} {roleOk : Bool} {body : State → State} (h : ready s i)
    (e : packetRow i = some (c, op, island)) (ho : roleOk = true) : command s c op island i roleOk body = body s := by
  obtain ⟨hheld, hrun⟩ := ready_readyFor h e
  rw [ho, command_runs hheld hrun]

theorem ready_answers {s : State} {i : Instr} {c : Ctx} {op island : Nat} (h : ready s i) (e : packetRow i = some (c, op, island)) : answers s c :=
  (ready_readyFor h e).2.2

/-- A command accepted after work that leaves the command processor alone. -/
theorem accept_replied_after {s t : State} {c : Ctx} {op : Nat} {code : Code} {estimate island subject : Nat} (h : answers s c)
    (ht : t.cmd = s.cmd) : replied s (accept t c op code estimate island subject) c op code estimate [] false :=
  replied_of_cmd (accept_replied ((openKept_of_cmd ht).answers h)) ht

theorem exec_handover {c : Ctx} {swap : Bool} {s : State} (h : ready s (.handover c swap)) (hr : s.pair.role = .active) (hh : s.exe.handover = none)
    (hp : s.pair.partnerRole = (if swap then 4 else 2)) (hs : s.pair.swapReady = swap) : ∃ t, exec (.handover c swap) s = .next t
      ∧ replied s t c 0x0105 .acceptedPending 0 [] false ∧ waits t c ∧ t.exe.handover = some { swap := swap, boundary := none, internal := false } := by
  have hstart : startHandover s swap false = { s with exe := { s.exe with handover := some { swap := swap, boundary := none, internal := false } } } :=
    if_neg (by rw [hh]; decide)
  have hok : (if swap then decide (s.pair.partnerRole = 4) && s.pair.swapReady else decide (s.pair.partnerRole = 2)) = true := by
    rw [hp, hs]
    cases swap <;> rfl
  refine ⟨_, congrArg Host.Outcome.next ((command_body h rfl (by rw [owner, hr]; rfl)).trans
    ((if_neg (by rw [hr, hok]; decide)).trans (if_neg (by rw [hh]; decide)))), ?_, accept_waits _ _ _ _ _ _ _, ?_⟩
  · exact accept_replied_after (ready_answers h rfl) (by rw [hstart])
  · rw [hstart]
    rfl

theorem exec_swapPrepare {c : Ctx} {choice : ForceChoice} {s : State} (h : ready s (.swapPrepare c choice)) (hst : hasStandby s = true)
    (hc : choice ≠ .none) (hi : newImageCommitted s = true) (hl : s.pair.link = .ready) (hh : held s 7 = false) :
    ∃ t, exec (.swapPrepare c choice) s = .next t ∧ replied s t c 0x0205 .acceptedPending 0 [] false ∧ waits t c ∧ t.pair.swapReady = false
      ∧ t.pair.outbox = s.pair.outbox ++ [roleStamp s (.role { role := .active, swap := .prepare choice ((s.exe.slotA.map (·.hash)).getD 0) })] := by
  have hactive : s.pair.role = .active := of_decide_eq_true (Bool.and_eq_true_iff.mp hst).1
  have hsend := send_ready (s := modPair s (fun p => { p with swapReady := false }))
    (.role { role := .active, swap := .prepare choice ((s.exe.slotA.map (·.hash)).getD 0) }) hl hh
  refine ⟨_, congrArg Host.Outcome.next ((command_body h rfl (by rw [hactive]; rfl)).trans
    ((if_neg (by rw [hst]; decide)).trans ((if_neg hc).trans (if_neg (by rw [hi]; decide))))),
    accept_replied_after (ready_answers h rfl) (by rw [hsend]; rfl), accept_waits _ _ _ _ _ _ _, ?_, ?_⟩
  · change (send _ _).pair.swapReady = _
    rw [hsend]
    rfl
  · change (send _ _).pair.outbox = _
    rw [hsend]
    rfl

theorem exec_swapCancel {c : Ctx} {s : State} (h : ready s (.swapCancel c)) (hr : s.pair.role = .active) (hp : s.pair.partnerRole = 4)
    (hl : s.pair.link = .ready) (hh : held s 7 = false) : ∃ t, exec (.swapCancel c) s = .next t ∧ waits t c ∧ t.pair.swapReady = false
      ∧ t.pair.outbox = s.pair.outbox ++ [roleStamp s (.role { role := .active, swap := .cancel })] := by
  refine ⟨_, congrArg Host.Outcome.next ((command_body h rfl (by rw [hr]; rfl)).trans (if_neg (by rw [hr, hp]; decide))), await_waits _ _ _ _ _, ?_⟩
  dsimp only
  generalize hs1 : concludeAll s _ _ _ _ = s1
  have hpair : s1.pair = s.pair := hs1 ▸ (concludeAll_changes _ _ _ _ _).pair_eq
  have hown : s1.own = s.own := hs1 ▸ (concludeAll_changes _ _ _ _ _).own_eq
  have hmem : s1.mem = s.mem := hs1 ▸ (concludeAll_changes _ _ _ _ _).mem_eq
  have hsend := send_ready (s := modPair s1 (fun p => { p with swapReady := false })) (.role { role := .active, swap := .cancel })
    (by rw [modPair, hpair]; exact hl) (by rw [held, modPair, hown]; exact hh)
  change (send _ _).pair.swapReady = _ ∧ (send _ _).pair.outbox = _
  rw [hsend]
  refine ⟨rfl, ?_⟩
  change s1.pair.outbox ++ [PairMsg.role { role := .active, swap := .cancel, noSpare := s1.mem.regions.any (fun p => p.2.erased.isSome) }] = _
  rw [hpair, hmem]
  rfl

/-- Settles O16, by what a handover and a swap leave of the pair logic, the owner line and the commands. -/
theorem handoverAndSwap : Obligations.HandoverAndSwap := by
  refine ⟨fun c swap s h hr hh hp hs => exec_handover h hr hh hp hs, fun s h hh hb hrun hout hl h7 => ?_,
    fun s h hh hb hi => exec_handoverDrainExpiry hh hb hi, fun s h b hh hb hn ha => exec_handoverBoundary hh hb hn ha, fun s hr hl h7 => ?_,
    fun s hr => ?_, fun c choice s h hst hc hi hl h7 => exec_swapPrepare h hst hc hi hl h7,
    fun c s h hr hp hl h7 => exec_swapCancel h hr hp hl h7⟩
  · have hdrained : execHandoverDrained s = .next (send { s with exe := { s.exe with handover := some { h with boundary := some (handoverBoundary s) } }
                                                                 pair := { s.pair with prepareAcked := false } }
        (.handoverPrepare (handoverBoundary s))) := by
      unfold execHandoverDrained
      rw [hh]
      exact if_neg (by simp [hb, hrun, hout])
    exact ⟨_, hdrained.trans (congrArg Host.Outcome.next (send_ready _ (by exact hl) (by exact h7))), rfl, rfl, rfl, handoverBoundary_le s⟩
  · have hsend := send_ready (s := modPair s (fun p => { p with swapReady := true })) .swapReady hl h7
    exact ⟨_, (if_pos hr).trans (congrArg Host.Outcome.next hsend), rfl, rfl⟩
  · refine ⟨_, (if_neg (by rw [hr]; decide)).trans (if_pos hr), ?_, fun x hx => ?_⟩
    · rw [(concludeAll_changes _ _ _ _ _).pair_eq]
      rfl
    · simpa using concludeAll_settled _ _ _ _ _ x hx

end Sys2Proof
end

section
/-! PROOFS. Image loads, variables and forces (O17). -/
namespace Sys2Proof
open Sys2Proof.Machine

set_option Elab.async false

/-! ## Answers at once -/

/-- A command that only answers. -/
theorem exec_ok {s t : State} {i : Instr} {c : Ctx} {op island : Nat} {roleOk : Bool} {body : State → State} {result : List Byte} (h : ready s i)
    (e : packetRow i = some (c, op, island)) (ho : roleOk = true) (hexec : exec i s = .next (command s c op island i roleOk body))
    (hbody : body s = ok t c op result) (ht : t.cmd = s.cmd) :
    exec i s = .next (ok t c op result) ∧ replied s (ok t c op result) c op .ok 0 result true :=
  ⟨hexec.trans (congrArg Host.Outcome.next ((command_body h e ho).trans hbody)), ok_replied_after (ready_answers h e) ht⟩

/-! ## The image load -/

theorem exec_loadBegin {c : Ctx} {slot : BitVec 8} {len : BitVec 32} {s : State} (h : ready s (.loadBegin c slot len)) (hr : s.pair.role ≠ .offline)
    (hs : slot.toNat ≤ 1) (h0 : 0 < len.toNat) (hlen : len.toNat ≤ 33554432) (hl : s.exe.load = none)
    (hst : slot.toNat = 0 ∨ s.exe.station = .stop) : ∃ t, exec (.loadBegin c slot len) s = .next t ∧ replied s t c 0x0201 .ok 0 [] true
      ∧ t.exe.load = some { slot := slot.toNat, queue := c.queue.val, session := c.session.val, length := len.toNat } := by
  have hstop : ¬ (decide (slot.toNat = 1) && decide (s.exe.station ≠ .stop)) = true := by
    rcases hst with h1 | h1
    · simp [h1]
    · simp [h1]
  obtain ⟨hexec, hrep⟩ := exec_ok h rfl (decide_eq_true hr) rfl
    ((if_neg (by omega)).trans <| (if_neg (by omega)).trans <| (if_neg (by rw [hl]; decide)).trans (if_neg hstop)) rfl
  exact ⟨_, hexec, hrep, by rw [ok_exe]⟩

theorem exec_loadChunk {c : Ctx} {offset : BitVec 32} {data : List Byte} {s : State} {l : Load} (h : ready s (.loadChunk c offset data))
    (hr : s.pair.role ≠ .offline) (hl : openLoad s c = some l) (ho : offset.toNat = l.bytes.length) (hlen : l.bytes.length + data.length ≤ l.length) :
    ∃ t, exec (.loadChunk c offset data) s = .next t ∧ t.exe.load = some { l with bytes := l.bytes ++ data }
      ∧ replied s t c 0x0202 .ok 0 (leBytes 4 (l.bytes.length + data.length)) true := by
  obtain ⟨hexec, hrep⟩ := exec_ok (t := { s with exe := { s.exe with load := some { l with bytes := l.bytes ++ data } } })
    (result := leBytes 4 (l.bytes.length + data.length)) h rfl (decide_eq_true hr) rfl (by
      dsimp only
      rw [hl]
      dsimp only
      rw [if_neg (by omega), if_neg (by omega), List.length_append]) rfl
  exact ⟨_, hexec, by rw [ok_exe], hrep⟩

theorem exec_loadCommit {c : Ctx} {s : State} {l : Load} (h : ready s (.loadCommit c)) (hr : s.pair.role ≠ .offline) (hl : openLoad s c = some l)
    (hlen : l.bytes.length = l.length) : ∃ t, exec (.loadCommit c) s = .next t ∧ replied s t c 0x0203 .acceptedPending 0 [] false ∧ waits t c
      ∧ t.exe.load = some { l with checking := true } := by
  change ∃ t, execLoadCommit c s = .next t ∧ _
  unfold execLoadCommit
  rw [command_body h rfl (decide_eq_true hr)]
  dsimp only
  rw [hl]
  dsimp only
  rw [if_neg (by simp [hlen])]
  exact ⟨_, rfl, accept_replied_after (ready_answers h rfl) rfl, accept_waits _ _ _ _ _ _ _, rfl⟩

theorem exec_loadAbort {c : Ctx} {s : State} {l : Load} (h : ready s (.loadAbort c)) (hr : s.pair.role ≠ .offline) (hl : openLoad s c = some l) :
    ∃ t, exec (.loadAbort c) s = .next t ∧ replied s t c 0x0208 .ok 0 [] true ∧ t.exe.load = none
      ∧ t.exe.slotA = s.exe.slotA ∧ t.exe.slotB = s.exe.slotB := by
  obtain ⟨hexec, hrep⟩ := exec_ok (t := { s with exe := { s.exe with load := none } }) (result := []) h rfl (decide_eq_true hr) rfl (by
    dsimp only
    rw [hl]) rfl
  exact ⟨_, hexec, hrep, by rw [ok_exe], by rw [ok_exe], by rw [ok_exe]⟩

/-- A load that passes its check stands in its slot. -/
theorem exec_imageCheckDone {im : Image} {s : State} {l : Load} (hl : s.exe.load = some l) (hc : l.checking = true)
    (hr : loadRefusal s l.bytes im = none) : ∃ t, exec (.imageCheckDone im) s = .next t ∧ t.exe.load = none ∧ settled t 0x0203
      ∧ t.exe.slotA = (if l.slot = 0 then some (imageOf l.bytes im) else s.exe.slotA)
      ∧ t.exe.slotB = (if l.slot = 0 then s.exe.slotB else some (imageOf l.bytes im)) := by
  have hsettled (u : State) (result : State → Executing → List Byte) :
      settled (concludeAll u (fun x => decide (x.opcode = 0x0203)) .ok 0 result) 0x0203 := fun x hx => by
    simpa using concludeAll_settled _ _ _ _ _ x hx
  change ∃ t, execImageCheckDone im s = .next t ∧ _
  unfold execImageCheckDone
  rw [hl, Option.filter_some, if_pos hc]
  dsimp only
  rw [hr]
  dsimp only
  generalize hs0 : trustChecks s (imageOf l.bytes im) none = s0
  have hexe : s0.exe = s.exe := hs0 ▸ (trustChecks_changes _ _ _).exe_eq
  refine ⟨_, rfl, ?_, hsettled _ _, ?_⟩
  · rw [(concludeAll_changes _ _ _ _ _).exe_eq]
    split <;> rfl
  · rw [(concludeAll_changes _ _ _ _ _).exe_eq]
    by_cases h0 : l.slot = 0
    · rw [if_pos h0, if_pos h0, if_pos h0]
      exact ⟨rfl, (congrArg Exec.slotB hexe :)⟩
    · rw [if_neg h0, if_neg h0, if_neg h0]
      exact ⟨(congrArg Exec.slotA hexe :), rfl⟩

theorem exec_verify {c : Ctx} {slot : BitVec 8} {s : State} {im : Image} (h : ready s (.verify c slot)) (hs : slot.toNat ≤ 1)
    (him : slotImage s slot.toNat = some im) : ∃ t, exec (.verify c slot) s = .next t
      ∧ replied s t c 0x0204 .ok 0 (leBytes 1 1 ++ leBytes 16 im.header.programId ++ leBytes 4 im.header.releaseVersion
        ++ leBytes 4 im.header.securityVersion ++ leBytes 48 im.hash) true :=
  ⟨_, exec_ok (t := s) h rfl rfl rfl ((if_neg (by omega)).trans (by rw [him])) rfl⟩

/-! ## Variables -/

theorem exec_varRead {c : Ctx} {identity : BitVec 64} {offset : BitVec 32} {size : BitVec 16} {s : State}
    (h : ready s (.varRead c [(identity, offset, size)])) (h0 : 0 < size.toNat) (h1 : size.toNat ≤ 256)
    (hlen : offset.toNat + size.toNat ≤ (readVar s identity.toNat).length) : ∃ t, exec (.varRead c [(identity, offset, size)]) s = .next t
      ∧ replied s t c 0x0301 .ok 0 (((readVar s identity.toNat).drop offset.toNat).take size.toNat) true := by
  have hgood : (decide (size.toNat = 0) || decide (256 < size.toNat)
      || decide ((readVar s identity.toNat).length < offset.toNat + size.toNat)) = false := by
    simp only [Bool.or_eq_false_iff, decide_eq_false_iff_not]
    omega
  refine ⟨_, exec_ok (t := s) h rfl rfl rfl ?_ rfl⟩
  dsimp only
  rw [if_neg (by simp), if_neg (by simp; omega)]
  dsimp only [List.zipIdx, List.map, List.find?]
  rw [hgood]
  simp only [List.flatMap_cons, List.flatMap_nil, List.append_nil]

theorem exec_varWrite {c : Ctx} {identity : BitVec 64} {offset : BitVec 32} {data : List Byte} {s : State} {x : VarEntry}
    (h : ready s (.varWrite c identity offset data)) (ho : owner s = true) (hx : var? s identity.toNat = some x)
    (hlen : offset.toNat + data.length ≤ x.value.length) : ∃ t, exec (.varWrite c identity offset data) s = .next t
      ∧ replied s t c 0x0302 .ok 0 [] true ∧ t.exe.vars = s.exe.vars
      ∧ t.exe.varWrites = s.exe.varWrites ++ [{ identity := identity.toNat, offset := offset.toNat, data := data }] := by
  obtain ⟨hexec, hrep⟩ := exec_ok (t := { s with exe := { s.exe with
    varWrites := s.exe.varWrites ++ [{ identity := identity.toNat, offset := offset.toNat, data := data }] } }) (result := []) h rfl ho rfl (by
      dsimp only
      rw [hx]
      exact if_neg (by omega)) rfl
  exact ⟨_, hexec, hrep, by rw [ok_exe], by rw [ok_exe]⟩

/-! ## Forces -/

theorem writeForces_forces (s : State) (fs : List Force) : (writeForces s fs).exe.forces = fs := by
  have hask (t : State) : (askWrite t 1 1000 .forceTable).exe.forces = t.exe.forces :=
    askWrite_keeps_exe (g := (·.forces)) (by intros; rfl) (by intros; rfl) t 1 1000 .forceTable
  unfold writeForces
  dsimp only
  rw [hask, (copyChange_changes _ _ _).exe_eq]

theorem awaitGrants_waits (s : State) (c : Ctx) (op island : Nat) (qs : List Nat) (undo : List (ForceKey × Option Nat)) :
    waits (awaitGrants s c op island qs undo) c := by
  obtain ⟨h1, h2, h3⟩ := entryFor_matches s c op island 0
  exact ⟨{ entryFor s c op island 0 with blocked := true, waits := qs, undo := undo }, by simp [awaitGrants], h1, h2, h3, rfl⟩

/-- What follows a change of the force table leaves the table, and the command waits. -/
theorem afterForce_waits (s : State) (c : Ctx) (op : Nat) (before : List Force) (ks : List ForceKey) :
    (afterForce s c op before ks).exe.forces = s.exe.forces ∧ waits (afterForce s c op before ks) c := by
  unfold afterForce
  dsimp only
  split
  · exact ⟨by rw [(accept_changes _ _ _ _ _ _ _).exe_eq, (awaitGrants_changes _ _ _ _ _ _).exe_eq, (refreshAll_changes _ _).exe_eq],
      accept_waits _ _ _ _ _ _ _⟩
  · exact ⟨by rw [(awaitGrants_changes _ _ _ _ _ _).exe_eq, (refreshAll_changes _ _).exe_eq], awaitGrants_waits _ _ _ _ _ _⟩

/-- The value that a list of forces gives a key. -/
def forceIn (fs : List Force) (k : ForceKey) : Option Nat := (fs.find? (fun f => decide (f.key = k))).map (·.value)

theorem forceOf_eq (s : State) (k : ForceKey) : forceOf s k = forceIn s.exe.forces k := rfl

theorem forceIn_cons (f : Force) (fs : List Force) (k : ForceKey) : forceIn (f :: fs) k = if f.key = k then some f.value else forceIn fs k := by
  unfold forceIn
  rw [List.find?_cons]
  split
  · next h => rw [if_pos (of_decide_eq_true h)]; rfl
  · next h => rw [if_neg (of_decide_eq_false h)]

theorem forceIn_append (fs gs : List Force) (k : ForceKey) : forceIn (fs ++ gs) k = (forceIn fs k).or (forceIn gs k) := by
  induction fs with
  | nil => rfl
  | cons f fs ih =>
    rw [List.cons_append, forceIn_cons, forceIn_cons]
    split
    · rfl
    · exact ih

/-- The values of the key `k` replaced. -/
theorem forceIn_map (fs : List Force) (k : ForceKey) (v : Nat) (j : ForceKey) :
    forceIn (fs.map (fun f => if f.key = k then { f with value := v } else f)) j
      = if j = k then (forceIn fs j).map (fun _ => v) else forceIn fs j := by
  induction fs with
  | nil => split <;> rfl
  | cons f fs ih =>
    have hkey : (if f.key = k then { f with value := v } else f : Force).key = f.key := by
      split <;> rfl
    rw [List.map_cons, forceIn_cons, forceIn_cons, hkey, ih]
    by_cases hj : f.key = j
    · by_cases hk : f.key = k
      · rw [if_pos hj, if_pos hk, if_pos (hj ▸ hk), if_pos hj]
        rfl
      · rw [if_pos hj, if_neg hk, if_neg (hj ▸ hk), if_pos hj]
    · rw [if_neg hj, if_neg hj]

theorem forceIn_filter (fs : List Force) (k j : ForceKey) :
    forceIn (fs.filter (fun f => f.key ≠ k)) j = if j = k then none else forceIn fs j := by
  induction fs with
  | nil => split <;> rfl
  | cons f fs ih =>
    by_cases hk : f.key = k
    · rw [List.filter_cons_of_neg (by simp [hk]), ih, forceIn_cons]
      by_cases hj : j = k
      · rw [if_pos hj, if_pos hj]
      · rw [if_neg hj, if_neg hj, if_neg (fun (e : f.key = j) => hj (e ▸ hk))]
    · rw [List.filter_cons_of_pos (by simp [hk]), forceIn_cons, ih, forceIn_cons]
      by_cases hj : f.key = j
      · rw [if_pos hj, if_pos hj, if_neg (hj ▸ hk)]
      · rw [if_neg hj, if_neg hj]

theorem setForce_forceOf {s : State} (k : ForceKey) (v : Nat) (h : s.exe.forces.length < 512) :
    ∃ t, setForce s k v = some t ∧ forceOf t k = some v ∧ ∀ j, j ≠ k → forceOf t j = forceOf s j := by
  unfold setForce
  split
  · next hk =>
    refine ⟨_, rfl, ?_, fun j hj => ?_⟩
    · rw [forceOf_eq, writeForces_forces, forceIn_map, if_pos rfl, ← forceOf_eq]
      obtain ⟨w, hw⟩ := Option.isSome_iff_exists.mp hk
      rw [hw]
      rfl
    · rw [forceOf_eq, writeForces_forces, forceIn_map, if_neg hj, ← forceOf_eq]
  · next hk =>
    rw [if_neg (by omega)]
    refine ⟨_, rfl, ?_, fun j hj => ?_⟩
    · rw [forceOf_eq, writeForces_forces, forceIn_append, ← forceOf_eq, Option.not_isSome_iff_eq_none.mp hk]
      exact (forceIn_cons _ _ _).trans (if_pos rfl)
    · rw [forceOf_eq, writeForces_forces, forceIn_append, forceIn_cons, if_neg (Ne.symm hj), ← forceOf_eq]
      exact Option.or_none

theorem forceOf_afterForce (s : State) (c : Ctx) (op : Nat) (before : List Force) (ks : List ForceKey) (j : ForceKey) :
    forceOf (afterForce s c op before ks) j = forceOf s j := by
  rw [forceOf_eq, (afterForce_waits s c op before ks).1, forceOf_eq]

theorem exec_forceSet {c : Ctx} {k : ForceKey} {v : BitVec 64} {s : State} (h : ready s (.forceSet c k v)) (ho : owner s = true)
    (hk : forceTargetOk s k = true) (hlen : s.exe.forces.length < 512) (h4 : held s 4 = false) : ∃ t, exec (.forceSet c k v) s = .next t
      ∧ forceOf t k = some v.toNat ∧ waits t c ∧ ∀ j, j ≠ k → forceOf t j = forceOf s j := by
  obtain ⟨u, hu, hset, hother⟩ := setForce_forceOf k v.toNat hlen
  change ∃ t, execForceSet c k v s = .next t ∧ _
  unfold execForceSet
  rw [command_body h rfl ho]
  unfold meets
  dsimp only
  rw [hk, h4, hu]
  exact ⟨_, rfl, (forceOf_afterForce ..).trans hset, (afterForce_waits ..).2, fun j hj => (forceOf_afterForce ..).trans (hother j hj)⟩

theorem exec_forceClear {c : Ctx} {k : ForceKey} {s : State} (h : ready s (.forceClear c k)) (ho : owner s = true)
    (hk : (forceOf s k).isSome = true) (h4 : held s 4 = false) : ∃ t, exec (.forceClear c k) s = .next t ∧ forceOf t k = none ∧ waits t c
      ∧ ∀ j, j ≠ k → forceOf t j = forceOf s j := by
  have hcleared (j : ForceKey) : forceOf (clearForce s k) j = if j = k then none else forceOf s j := by
    rw [forceOf_eq, clearForce, writeForces_forces, forceIn_filter, ← forceOf_eq]
  change ∃ t, execForceClear c k s = .next t ∧ _
  unfold execForceClear
  rw [command_body h rfl ho]
  unfold meets
  dsimp only
  rw [if_neg (by simp [Option.isSome_iff_ne_none.mp hk]), h4]
  exact ⟨_, rfl, (forceOf_afterForce ..).trans ((hcleared k).trans (if_pos rfl)), (afterForce_waits ..).2,
    fun j hj => (forceOf_afterForce ..).trans ((hcleared j).trans (if_neg hj))⟩

theorem exec_forceClearAll {c : Ctx} {s : State} (h : ready s (.forceClearAll c)) (ho : owner s = true) (h4 : held s 4 = false) :
    ∃ t, exec (.forceClearAll c) s = .next t ∧ t.exe.forces = [] ∧ waits t c := by
  change ∃ t, execForceClearAll c s = .next t ∧ _
  unfold execForceClearAll
  rw [command_body h rfl ho]
  unfold meets
  dsimp only
  rw [h4]
  exact ⟨_, rfl, (afterForce_waits ..).1.trans (writeForces_forces _ _), (afterForce_waits ..).2⟩

/-- Settles O17, command by command: a command that answers at once changes what it names, and the force table is read key by key. -/
theorem loadsVariablesAndForces : Obligations.LoadsVariablesAndForces := by
  refine ⟨fun c slot len s h hr hs h0 hlen hl hst => exec_loadBegin h hr hs h0 hlen hl hst,
    fun c offset data s l h hr hl ho hlen => exec_loadChunk h hr hl ho hlen, fun c s l h hr hl hlen => exec_loadCommit h hr hl hlen,
    fun im s l hl hc hr => exec_imageCheckDone hl hc hr, fun c s l h hr hl => exec_loadAbort h hr hl,
    fun c slot s im h hs him => exec_verify h hs him, fun c identity offset size s h h0 h1 hlen => exec_varRead h h0 h1 hlen,
    fun c identity offset data s x h ho hx hlen => exec_varWrite h ho hx hlen, fun c k v s h ho hk hlen h4 => exec_forceSet h ho hk hlen h4,
    fun c k s h ho hk h4 => exec_forceClear h ho hk h4, fun c s h ho h4 => exec_forceClearAll h ho h4, fun c k v s h ho hk h4 => ?_,
    fun c first count s h h0 h1 => ?_⟩
  · change ∃ t, execForceSet c k v s = .next t ∧ _
    unfold execForceSet
    rw [command_body h rfl ho]
    unfold meets
    dsimp only
    rw [hk, h4, if_neg (by decide), if_pos rfl]
    exact ⟨_, rfl, by rw [refuse_exe], refuse_replied (ready_answers h rfl)⟩
  · exact ⟨_, exec_ok (t := s) h rfl rfl rfl (if_neg (by omega)) rfl⟩

end Sys2Proof
end

section
/-! PROOFS. Hazel's slots, batches and pods (O18). -/
namespace Sys2Proof
open Sys2Proof.Machine

set_option Elab.async false

/-! ## A flag raised amid other work -/

/-- A flag raised stays raised, and counted once, where the work before leaves its counter and the work after leaves the flag too. -/
theorem flaggedAt_of_raise {s u t : State} {w : List Area} {a i n : Nat} (hn : n < 32)
    (hbefore : counter u (fcntOf a + 4 * n) i = counter s (fcntOf a + 4 * n) i) (hafter : changesOnly w (raise u a i n) t)
    (hc : w.any (fun A => A.has (.ctr (fcntOf a + 4 * n))) = false := by rfl) (hb : w.any (fun A => A.has (.regBit a n)) = false := by rfl) :
    flaggedAt s t a i n := by
  obtain ⟨hbit, hctr⟩ := raise_flaggedAt u a i n hn
  exact ⟨(hafter (.regBit a n) hb i).trans hbit, (hafter (.ctr _) hc i).trans (hctr.trans (by rw [hbefore]))⟩

/-! ## Batches -/

/-- The commit of a batch waits in a pair, and drives its outputs at once otherwise. -/
theorem commit_hazel (s : State) (pod : Nat) (ds : List (Nat × Word)) : commit s (.hazel pod) ds [] =
    if paired s then { s with own := { s.own with
      outstanding := s.own.outstanding ++ [{ id := s.own.nextCommit, kind := .hazel pod, drives := ds, sent := s.now }]
      nextCommit := (s.own.nextCommit + 1) % 4294967296 } }
    else drive s ds := rfl

theorem syncWriter_fch (s : State) (c : Nat) (was now : Bool) : (syncWriter s c was now).fch = s.fch := by
  unfold syncWriter
  dsimp only
  split
  · rfl
  split
  · rfl
  split <;> rfl

theorem drive_fesOnly (s : State) (ds : List (Nat × Word)) : fesOnly s (drive s ds) := by
  refine .foldl (fun t (d : Nat × Word) => ?_) .same
  unfold driveOne
  dsimp only
  refine keepsOn.trans (.after (syncWriter_fch _ _ _ _) ?_) (refresh_fesOnly _ _)
  exact modFe_fesOnly _ _ _

/-- What a batch leaves of the pair logic: its role, and whether it streams. -/
def pairState (p : Pair) : Role × Bool := (p.role, p.streaming)

theorem sendParams_pairState (s : State) (tag : Nat) (prior l : Loop) (n : Nat) : keepsOn State.pair pairState s (sendParams s tag prior l n) := by
  have hops : keepsOn State.pair pairState s
      (if prior.opStaged then send s (.copy tag { operators := [(n, l.opMode, l.spTrackPv, l.opSp, l.opMv)] }) else s) :=
    .ite (send_keeps_pair pairState _ _) .same
  unfold sendParams
  dsimp only
  exact .ite hops (hops.trans (send_keeps_pair pairState _ _))

theorem sendBatch_pairState (s : State) (pod : Nat) : keepsOn State.pair pairState s (sendBatch s pod) := by
  unfold sendBatch
  refine .ite (.foldl (fun t (p : BatchItem × Nat) => ?_) .same) .same
  split
  · exact (sendParams_pairState _ _ _ _ _).trans (send_keeps_pair pairState _ _)
  · exact .same

/-! ## What a slot leaves -/

/-- `t` has the slot, the latch stamp and the role of `s`. -/
def slotKept (s t : State) : Prop := t.hz.slot = s.hz.slot ∧ t.fch.sampleStamp = s.fch.sampleStamp ∧ t.pair.role = s.pair.role

namespace slotKept

variable {s t u : State}

theorem same : slotKept s s := ⟨rfl, rfl, rfl⟩

theorem trans (h : slotKept s t) (k : slotKept t u) : slotKept s u := ⟨k.1.trans h.1, k.2.1.trans h.2.1, k.2.2.trans h.2.2⟩

theorem ite {c : Prop} [Decidable c] {a b : State} (ha : slotKept s a) (hb : slotKept s b) : slotKept s (if c then a else b) := by
  split
  · exact ha
  · exact hb

theorem foldl {α : Type} {f : State → α → State} {l : List α} (hf : ∀ t x, slotKept t (f t x)) (h : slotKept s t) : slotKept s (l.foldl f t) := by
  induction l generalizing t with
  | nil => exact h
  | cons x l ih => exact ih (h.trans (hf t x))

/-- An operation that leaves the three units. -/
theorem of_units (hz : t.hz = s.hz) (hf : t.fch = s.fch) (hp : t.pair = s.pair) : slotKept s t := ⟨by rw [hz], by rw [hf], by rw [hp]⟩

theorem of_changes {w : List Area} (h : changesOnly w s t) (hz : w.any (fun A => A.has (.unit .hz)) = false := by rfl)
    (hf : w.any (fun A => A.has (.unit .fch)) = false := by rfl) (hp : w.any (fun A => A.has (.unit .pair)) = false := by rfl) : slotKept s t :=
  of_units (h.hz_eq hz) (h.fch_eq hf) (h.pair_eq hp)

theorem owner_eq (h : slotKept s t) : owner t = owner s := by rw [owner, h.2.2, owner]

end slotKept

theorem drive_slotKept (s : State) (ds : List (Nat × Word)) : slotKept s (drive s ds) := by
  have hd := drive_changes s ds
  have hfes : withoutFes (drive s ds).fch = withoutFes s.fch := drive_fesOnly s ds
  exact ⟨by rw [hd.hz_eq], (congrArg Field.sampleStamp hfes :), by rw [hd.pair_eq]⟩

theorem commit_hazel_slotKept (s : State) (pod : Nat) (ds : List (Nat × Word)) : slotKept s (commit s (.hazel pod) ds []) := by
  rw [commit_hazel]
  exact .ite ⟨rfl, rfl, rfl⟩ (drive_slotKept s ds)

theorem countBlocks_slotKept (s : State) (n : Nat) : slotKept s (countBlocks s n) := .ite ⟨rfl, rfl, rfl⟩ .same

theorem modLoop_slotKept (s : State) (n : Nat) (f : Loop → Loop) : slotKept s (modLoop s n f) := ⟨rfl, rfl, rfl⟩

theorem dropBatch_slotKept (s : State) (pod : Nat) : slotKept s (dropBatch s pod) := .foldl (fun _ _ => ⟨rfl, rfl, rfl⟩) ⟨rfl, rfl, rfl⟩

theorem sendBatch_slotKept (s : State) (pod : Nat) : slotKept s (sendBatch s pod) := by
  have hb := sendBatch_changes s pod
  exact ⟨by rw [hb.hz_eq], by rw [hb.fch_eq], (congrArg Prod.fst (sendBatch_pairState s pod) :)⟩

theorem closeBatch_slotKept (s : State) (pod : Nat) : slotKept s (closeBatch s pod) := by
  have hset : slotKept s (setBatch (sendBatch s pod) pod []) := (sendBatch_slotKept s pod).trans ⟨rfl, rfl, rfl⟩
  exact .ite .same (.ite ((hset.trans (countBlocks_slotKept _ _)).trans (commit_hazel_slotKept _ _ _)) (dropBatch_slotKept s pod))

/-- The loops and the pods they are mapped to. -/
def loopsAndPods (h : Hazel) : List (Nat × Loop) × List Nat := (h.loops, h.podMap)

/-- An owner's batch that closes leaves the loops and the pod map. -/
theorem closeBatch_loopsAndPods {s : State} (ho : owner s = true) (pod : Nat) : keepsOn State.hz loopsAndPods s (closeBatch s pod) := by
  unfold closeBatch
  rw [if_pos ho]
  exact .ite .same <| .after (commit_changes _ _ _ _ _).hz_eq <| .after (countBlocks_changes _ _).hz_eq <|
    keepsOn.update (t := sendBatch s pod) (.after (sendBatch_changes s pod).hz_eq .same)

theorem closeBatch_loops {s : State} (ho : owner s = true) (pod : Nat) : (closeBatch s pod).hz.loops = s.hz.loops :=
  (congrArg Prod.fst (closeBatch_loopsAndPods ho pod) :)

/-! ## Loops -/

theorem find?_modLoop (ps : List (Nat × Loop)) (n k : Nat) (f : Loop → Loop) :
    ((ps.map (fun p => if p.1 = n then (n, f p.2) else p)).find? (fun p => p.1 == k)).map (·.2)
      = if k = n then ((ps.find? (fun p => p.1 == k)).map (·.2)).map f else (ps.find? (fun p => p.1 == k)).map (·.2) := by
  induction ps with
  | nil => split <;> rfl
  | cons p ps ih =>
    have hkey : (if p.1 = n then (n, f p.2) else p : Nat × Loop).1 = p.1 := by
      split
      · next h => exact h.symm
      · rfl
    rw [List.map_cons, List.find?_cons, List.find?_cons, hkey]
    by_cases hk : (p.1 == k) = true
    · rw [hk]
      have hpk : p.1 = k := beq_iff_eq.mp hk
      by_cases hn : p.1 = n
      · rw [if_pos hn, if_pos (hpk.symm.trans hn)]
        rfl
      · rw [if_neg hn, if_neg (fun e => hn (hpk.trans e))]
    · rw [Bool.eq_false_iff.mpr hk]
      exact ih

theorem loop?_modLoop_any (s : State) (n : Nat) (f : Loop → Loop) (k : Nat) :
    loop? (modLoop s n f) k = if k = n then (loop? s k).map f else loop? s k := find?_modLoop s.hz.loops n k f

theorem loop?_congr {s t : State} (h : t.hz.loops = s.hz.loops) (n : Nat) : loop? t n = loop? s n := by rw [loop?, h, loop?]

/-- The loop has its program half and its operator's values. -/
def halfTaken (l : Loop) : Prop := l.written = none ∧ l.opStaged = false

/-- Loop `n` is there, and has taken its program half and its operator's values. -/
def loopTaken (s : State) (n : Nat) : Prop := ∃ m, loop? s n = some m ∧ halfTaken m

theorem loopTaken.of_loops {s t : State} {n : Nat} (h : loopTaken s n) (e : t.hz.loops = s.hz.loops) : loopTaken t n := by
  rw [loopTaken, loop?_congr e]
  exact h

theorem loopTaken.modLoop {s : State} {n : Nat} (h : loopTaken s n) (k : Nat) {f : Loop → Loop} (hf : ∀ l, halfTaken l → halfTaken (f l)) :
    loopTaken (modLoop s k f) n := by
  obtain ⟨m, hm, hm2⟩ := h
  rw [loopTaken, loop?_modLoop_any]
  split
  · exact ⟨f m, by rw [hm]; rfl, hf m hm2⟩
  · exact ⟨m, hm, hm2⟩

theorem takeProgram_written (l : Loop) : (takeProgram l).written = none := by
  unfold takeProgram
  split
  · rfl
  · assumption

theorem takeParams_written (s : State) (l : Loop) : (takeParams s l).1.written = l.written := by
  unfold takeParams
  split
  · rfl
  split
  · rfl
  dsimp only
  split_ifs <;> rfl

/-- Idle limits and a settled sample are not of the program half. -/
theorem idleLimits_halfTaken {s : State} {l : Loop} (h : halfTaken l) : halfTaken (idleLimits s l) := h

theorem settleSample_halfTaken {l : Loop} {v : SampleView} (h : halfTaken l) : halfTaken (settleSample l v) := h

theorem sampleOff_halfTaken {s : State} {l : Loop} {v : SampleView} (h : halfTaken l) : halfTaken (sampleOff s l v).loop :=
  idleLimits_halfTaken (s := s) h

theorem sampleHold_halfTaken {s : State} {l : Loop} {v : SampleView} (h : halfTaken l) : halfTaken (sampleHold s l v).loop :=
  settleSample_halfTaken (v := v) (idleLimits_halfTaken (s := s) h)

theorem sampleRun_halfTaken {s : State} {n : Nat} {l : Loop} {v : SampleView} {applied : Bool} (h : halfTaken l) :
    halfTaken (sampleRun s n l v applied).loop :=
  settleSample_halfTaken (v := v) h

/-- What a sample leaves of a loop's program half and of its operator's values: they are taken. -/
theorem sampleLoop_halfTaken {s : State} {n : Nat} {l : Loop} {applied : Bool} (h : halfTaken l) : halfTaken (sampleLoop s n l applied).loop := by
  unfold sampleLoop
  dsimp only
  split
  · exact sampleOff_halfTaken h
  split
  · exact sampleHold_halfTaken h
  · exact sampleRun_halfTaken h

/-! ## Injections -/

/-- `t` has the slot, the latch stamp, the role and the loops of `s`. -/
def loopsKept (s t : State) : Prop := slotKept s t ∧ t.hz.loops = s.hz.loops

namespace loopsKept

variable {s t u : State}

theorem same : loopsKept s s := ⟨.same, rfl⟩

theorem trans (h : loopsKept s t) (k : loopsKept t u) : loopsKept s u := ⟨h.1.trans k.1, k.2.trans h.2⟩

theorem ite {c : Prop} [Decidable c] {a b : State} (ha : loopsKept s a) (hb : loopsKept s b) : loopsKept s (if c then a else b) := by
  split
  · exact ha
  · exact hb

theorem foldl {α : Type} {f : State → α → State} {l : List α} (hf : ∀ t x, loopsKept t (f t x)) (h : loopsKept s t) :
    loopsKept s (l.foldl f t) := by
  induction l generalizing t with
  | nil => exact h
  | cons x l ih => exact ih (h.trans (hf t x))

/-- An operation that leaves the three units. -/
theorem of_changes {w : List Area} (h : changesOnly w s t) (hz : w.any (fun A => A.has (.unit .hz)) = false := by rfl)
    (hf : w.any (fun A => A.has (.unit .fch)) = false := by rfl) (hp : w.any (fun A => A.has (.unit .pair)) = false := by rfl) : loopsKept s t :=
  ⟨.of_changes h hz hf hp, congrArg Hazel.loops (h.hz_eq hz)⟩

end loopsKept

theorem setGen_loopsKept (s : State) (k : Nat) (g : Generator) : loopsKept s (setGen s k g) := ⟨⟨rfl, rfl, rfl⟩, rfl⟩

theorem setCap_loopsKept (s : State) (k : Nat) (c : Capture) : loopsKept s (setCap s k c) := ⟨⟨rfl, rfl, rfl⟩, rfl⟩

theorem hzRaise_loopsKept (s : State) (n : Nat) : loopsKept s (hzRaise s n) := ⟨⟨rfl, rfl, rfl⟩, rfl⟩

theorem postFlag_loopsKept (s : State) (n : Nat) (e : Event) (a b c d : Nat) : loopsKept s (post (hzRaise s n) e a b c d) :=
  (hzRaise_loopsKept s n).trans (.of_changes (post_changes _ _ _ _ _ _))

theorem endInjection_loopsKept (s : State) (k r : Nat) : loopsKept s (endInjection s k r) := by
  unfold endInjection
  dsimp only
  exact (setGen_loopsKept s k _).trans (.ite (postFlag_loopsKept _ _ _ _ _ _ _) (postFlag_loopsKept _ _ _ _ _ _ _))

theorem advanceInjection_loopsKept (s : State) (n : Nat) : loopsKept s (advanceInjection s n) := by
  unfold advanceInjection
  split
  · dsimp only
    split
    · exact (setGen_loopsKept _ _ _).trans (endInjection_loopsKept _ _ _)
    · exact .ite ((setGen_loopsKept _ _ _).trans (endInjection_loopsKept _ _ _)) (setGen_loopsKept _ _ _)
  · exact .same

theorem publish_slotKept (s : State) (n slot : Nat) : slotKept s (publish s n slot) := by
  unfold publish
  split
  · exact .same
  · exact ⟨rfl, rfl, rfl⟩

theorem publish_taken {s : State} {n : Nat} (h : loopTaken s n) (k slot : Nat) : loopTaken (publish s k slot) n := by
  unfold publish
  split
  · exact h
  · refine loopTaken.of_loops ?_ (congrArg Hazel.loops (areaPut_changes _ _ _).hz_eq)
    exact h.modLoop k (fun l hl => hl)

theorem addToBatch_slotKept (s : State) (pod : Nat) (i : BatchItem) : slotKept s (addToBatch s pod i) :=
  .ite (.trans (t := setBatch s pod _) ⟨rfl, rfl, rfl⟩ (closeBatch_slotKept _ _)) ⟨rfl, rfl, rfl⟩

theorem addToBatch_loops {s : State} (ho : owner s = true) (pod : Nat) (i : BatchItem) : (addToBatch s pod i).hz.loops = s.hz.loops := by
  unfold addToBatch
  dsimp only
  split
  · exact closeBatch_loops (s := setBatch s pod _) ho pod
  · rfl

/-! ## One loop of a slot -/

/-- The state of a slot after loop `n` has its sample, before its injection and its publication. -/
def sampled (s : State) (n : Nat) (o : SampleOut) (prior : Loop) (code : Nat) : State :=
  let s1 := addToBatch (modLoop s n (fun _ => o.loop)) (podOf s prior) { loop := n, prior := prior, drive := o.drive }
  let s2 := if o.badRise then post (hzRaise s1 2) .loopBadInput (n % 4096) n 0 0 else s1
  if code = 2 then hzRaise s2 6 else s2

/-- What a sample raises leaves the loops. -/
theorem sampled_loopsKept (s : State) (n : Nat) (o : SampleOut) (prior : Loop) (code : Nat) :
    loopsKept (addToBatch (modLoop s n (fun _ => o.loop)) (podOf s prior) { loop := n, prior := prior, drive := o.drive })
      (sampled s n o prior code) := by
  unfold sampled
  dsimp only
  generalize addToBatch (modLoop s n (fun _ => o.loop)) (podOf s prior) { loop := n, prior := prior, drive := o.drive } = s1
  have hpost : loopsKept s1 (if o.badRise then post (hzRaise s1 2) .loopBadInput (n % 4096) n 0 0 else s1) :=
    .ite (postFlag_loopsKept _ _ _ _ _ _ _) .same
  exact .ite (hpost.trans (hzRaise_loopsKept _ _)) hpost

theorem sampled_slotKept (s : State) (n : Nat) (o : SampleOut) (prior : Loop) (code : Nat) : slotKept s (sampled s n o prior code) :=
  ((modLoop_slotKept s n _).trans (addToBatch_slotKept _ _ _)).trans (sampled_loopsKept s n o prior code).1

theorem sampled_loops {s : State} (ho : owner s = true) (n : Nat) (o : SampleOut) (prior : Loop) (code : Nat) :
    (sampled s n o prior code).hz.loops = (modLoop s n (fun _ => o.loop)).hz.loops :=
  (sampled_loopsKept s n o prior code).2.trans (addToBatch_loops (s := modLoop s n (fun _ => o.loop)) ho _ _)

/-- One loop of a slot, as its sample and what follows it. -/
theorem slotLoop_s {r : SlotRun} {n : Nat} {prior : Loop} (h : loop? r.s n = some prior) : ∃ o code, halfTaken o.loop
    ∧ (slotLoop r n).s = publish (advanceInjection (sampled r.s n o prior code) n) n (r.s.now / 50000) := by
  unfold slotLoop
  rw [h]
  refine ⟨sampleLoop r.s n { (takeParams r.s (takeProgram prior)).1 with opStaged := false } (decide ((takeParams r.s (takeProgram prior)).2 = 1)),
    (takeParams r.s (takeProgram prior)).2, sampleLoop_halfTaken ⟨?_, rfl⟩, rfl⟩
  change (takeParams r.s (takeProgram prior)).1.written = none
  rw [takeParams_written, takeProgram_written]

theorem slotLoop_slotKept (r : SlotRun) (n : Nat) : slotKept r.s (slotLoop r n).s := by
  cases h : loop? r.s n with
  | none =>
    unfold slotLoop
    rw [h]
    exact .same
  | some prior =>
    obtain ⟨o, code, -, hs⟩ := slotLoop_s h
    rw [hs]
    exact ((sampled_slotKept _ _ _ _ _).trans (advanceInjection_loopsKept _ _).1).trans (publish_slotKept _ _ _)

/-- Loop `n` is there. -/
def loopThere (s : State) (n : Nat) : Prop := (loop? s n).isSome = true

theorem modLoop_there {s : State} {n : Nat} (h : loopThere s n) (k : Nat) (f : Loop → Loop) : loopThere (modLoop s k f) n := by
  unfold loopThere
  rw [loop?_modLoop_any]
  split
  · rw [Option.isSome_map]
    exact h
  · exact h

theorem loopThere.of_loops {s t : State} {n : Nat} (h : loopThere s n) (e : t.hz.loops = s.hz.loops) : loopThere t n := by
  rw [loopThere, loop?_congr e]
  exact h

theorem publish_there {s : State} {n : Nat} (h : loopThere s n) (k slot : Nat) : loopThere (publish s k slot) n := by
  unfold publish
  split
  · exact h
  · refine loopThere.of_loops ?_ (congrArg Hazel.loops (areaPut_changes _ _ _).hz_eq)
    exact modLoop_there h _ _

/-- A loop that runs in a slot takes its half, every loop keeps what it took, and none goes. -/
theorem slotLoop_takes {r : SlotRun} (ho : owner r.s = true) (n k : Nat) :
    (loopThere r.s k → loopThere (slotLoop r n).s k) ∧ (loopTaken r.s k → loopTaken (slotLoop r n).s k)
      ∧ (loopThere r.s n → loopTaken (slotLoop r n).s n) := by
  cases h : loop? r.s n with
  | none =>
    have hs : (slotLoop r n).s = r.s := by
      unfold slotLoop
      rw [h]
    rw [hs]
    exact ⟨id, id, fun hn => by rw [loopThere, h] at hn; cases hn⟩
  | some prior =>
    obtain ⟨o, code, ho1, hs⟩ := slotLoop_s h
    have hloops : (advanceInjection (sampled r.s n o prior code) n).hz.loops = (modLoop r.s n (fun _ => o.loop)).hz.loops :=
      (advanceInjection_loopsKept _ _).2.trans (sampled_loops ho n o prior code)
    rw [hs]
    refine ⟨fun hk => publish_there (.of_loops (modLoop_there hk _ _) hloops) _ _,
      fun hk => publish_taken ((hk.modLoop n (fun _ _ => ho1)).of_loops hloops) _ _, fun _ => publish_taken (.of_loops ⟨o.loop, ?_, ho1⟩ hloops) _ _⟩
    rw [loop?_modLoop, h]
    rfl

/-- Every loop of a list that runs in a slot takes its half. -/
theorem slotLoops_taken (ns : List Nat) {r : SlotRun} (ho : owner r.s = true) {n : Nat} (hthere : loopThere r.s n)
    (h : n ∈ ns ∨ loopTaken r.s n) : loopTaken (ns.foldl slotLoop r).s n := by
  induction ns generalizing r with
  | nil => exact h.resolve_left (List.not_mem_nil)
  | cons k ns ih =>
    have howner : owner (slotLoop r k).s = true := (slotLoop_slotKept r k).owner_eq.trans ho
    obtain ⟨hstay, hkeep, -⟩ := slotLoop_takes ho k n
    refine ih howner (hstay hthere) ?_
    rcases h with hmem | ht
    · rcases List.mem_cons.mp hmem with rfl | hrest
      · exact .inr ((slotLoop_takes ho n n).2.2 hthere)
      · exact .inl hrest
    · exact .inr (hkeep ht)

theorem slotLoops_slotKept (ns : List Nat) (r : SlotRun) : slotKept r.s (ns.foldl slotLoop r).s := by
  induction ns generalizing r with
  | nil => exact .same
  | cons k ns ih => exact (slotLoop_slotKept r k).trans (ih _)

/-! ## A slot's loops and captures -/

theorem notePeaks_loopsKept (s : State) (due : List (Nat × Loop)) : loopsKept s (notePeaks s due) :=
  .foldl (fun _ _ => .ite ⟨⟨rfl, rfl, rfl⟩, rfl⟩ .same) .same

theorem bumpApply_loopsKept (s : State) (a i : Nat) : loopsKept s (bumpApply s a i) := ⟨⟨rfl, rfl, rfl⟩, rfl⟩

theorem concludeParams_loopsKept (s : State) (ns : List Nat) (code : Code) (wh : Nat) : loopsKept s (concludeParams s ns code wh) :=
  .foldl (fun _ _ => .of_changes (concludeAll_changes _ _ _ _ _)) .same

/-- The loops that run in a slot, and what their parameters answer. -/
theorem runLoops_after (s : State) (n : Nat) :
    loopsKept (((dueLoops ([1, 2, 3, 4, 5].foldl closeBatch s) n).map (·.1)).foldl slotLoop
      { s := notePeaks ([1, 2, 3, 4, 5].foldl closeBatch s) (dueLoops ([1, 2, 3, 4, 5].foldl closeBatch s) n) }).s (runLoops s n) := by
  unfold runLoops
  dsimp only
  generalize ((dueLoops ([1, 2, 3, 4, 5].foldl closeBatch s) n).map (·.1)).foldl slotLoop
      { s := notePeaks ([1, 2, 3, 4, 5].foldl closeBatch s) (dueLoops ([1, 2, 3, 4, 5].foldl closeBatch s) n) } = r
  have hbump : loopsKept r.s (if r.bump then bumpApply r.s Reg.hzApply 0 else r.s) := .ite (bumpApply_loopsKept _ _ _) .same
  exact ((hbump.trans (concludeParams_loopsKept _ _ _ _)).trans (concludeParams_loopsKept _ _ _ _)).trans (concludeParams_loopsKept _ _ _ _)

theorem closeBatches_slotKept (s : State) : slotKept s ([1, 2, 3, 4, 5].foldl closeBatch s) := .foldl closeBatch_slotKept .same

theorem closeBatches_loopsAndPods {s : State} (ho : owner s = true) (ps : List Nat) :
    keepsOn State.hz loopsAndPods s (ps.foldl closeBatch s) ∧ slotKept s (ps.foldl closeBatch s) := by
  induction ps using List.reverseRecOn with
  | nil => exact ⟨.same, .same⟩
  | append_singleton ps p ih =>
    obtain ⟨hloops, hkept⟩ := ih
    rw [List.foldl_append]
    exact ⟨hloops.trans (closeBatch_loopsAndPods (hkept.owner_eq.trans ho) p), hkept.trans (closeBatch_slotKept _ p)⟩

theorem runLoops_slotKept (s : State) (n : Nat) : slotKept s (runLoops s n) :=
  (((closeBatches_slotKept s).trans (notePeaks_loopsKept _ _).1).trans (slotLoops_slotKept _ _)).trans (runLoops_after s n).1

/-- Every loop that is due, placed and on a pod takes its half in its slot. -/
theorem runLoops_taken {s : State} {n k : Nat} {l : Loop} (ho : owner s = true) (hl : loop? s k = some l) (hdue : loopDue l.desc n = true)
    (hplaced : l.unplaced = false) (hpod : podOf s l ≠ 0) : loopTaken (runLoops s n) k := by
  have hmem : (k, l) ∈ s.hz.loops := by
    obtain ⟨⟨k', l'⟩, hfind, rfl⟩ := Option.map_eq_some_iff.mp hl
    have hk : k' = k := by simpa using List.find?_some hfind
    exact hk ▸ List.mem_of_find?_eq_some hfind
  have hbatches := (closeBatches_loopsAndPods ho [1, 2, 3, 4, 5]).1
  have hloops : ([1, 2, 3, 4, 5].foldl closeBatch s).hz.loops = s.hz.loops := (congrArg Prod.fst hbatches :)
  have hpods : ([1, 2, 3, 4, 5].foldl closeBatch s).hz.podMap = s.hz.podMap := (congrArg Prod.snd hbatches :)
  have hpod' : podOf ([1, 2, 3, 4, 5].foldl closeBatch s) l = podOf s l := by rw [podOf, hpods, podOf]
  have hin : k ∈ (dueLoops ([1, 2, 3, 4, 5].foldl closeBatch s) n).map (·.1) := by
    refine List.mem_map_of_mem (a := (k, l)) (List.mem_mergeSort.mpr (List.mem_filter.mpr ⟨hloops ▸ hmem, ?_⟩))
    rw [hpod', hdue, hplaced, decide_eq_true hpod]
    rfl
  have hpeak := notePeaks_loopsKept ([1, 2, 3, 4, 5].foldl closeBatch s) (dueLoops ([1, 2, 3, 4, 5].foldl closeBatch s) n)
  refine (slotLoops_taken _ ?_ ?_ (.inl hin)).of_loops (runLoops_after s n).2
  · exact hpeak.1.owner_eq.trans ((closeBatches_slotKept s).owner_eq.trans ho)
  · refine loopThere.of_loops (s := s) ?_ (hpeak.2.trans hloops)
    rw [loopThere, hl]
    rfl

theorem finishCapture_loopsKept (s : State) (k : Nat) (tr : Bool) : loopsKept s (finishCapture s k tr) :=
  (setCap_loopsKept _ _ _).trans (hzRaise_loopsKept _ _)

theorem capSample_loopsKept (s : State) (k n : Nat) : loopsKept s (capSample s k n) := by
  unfold capSample
  dsimp only
  refine .ite (.ite (.ite ((setCap_loopsKept _ _ _).trans (finishCapture_loopsKept _ _ _)) (setCap_loopsKept _ _ _)) (setCap_loopsKept _ _ _))
    (.ite (.ite ((setCap_loopsKept _ _ _).trans (finishCapture_loopsKept _ _ _)) (setCap_loopsKept _ _ _)) .same)

theorem capStage_loopsKept (s : State) (k b : Nat) : loopsKept s (capStage s k b) :=
  .ite .same (.ite (setCap_loopsKept _ _ _) ((setCap_loopsKept _ _ _).trans (.of_changes (askWrite_changes _ _ _ _))))

theorem runCaptures_loopsKept (s : State) (n : Nat) : loopsKept s (runCaptures s n) :=
  .foldl (fun _ _ => .ite (.ite (finishCapture_loopsKept _ _ _) ((capSample_loopsKept _ _ _).trans (capStage_loopsKept _ _ _))) .same) .same

/-! ## The slot -/

/-- The state of a slot whose latch is loaded. -/
def slotLatched (s : State) : State :=
  { s with hz := { s.hz with slot := some (s.now / 50000) }
           fch := { s.fch with sampleLatch := latchNow s s.exe.latchSeq, sampleStamp := s.now / 50000 * 50000 } }

/-- What a slot does after its latch. -/
def slotRan (s : State) : State :=
  if held s 2 then slotLatched s
  else runCaptures (if owner s && !slotGiven s (s.now / 50000) then runLoops (slotLatched s) (s.now / 50000) else slotLatched s) (s.now / 50000)

theorem exec_hazelSlot {s : State} (h : s.hz.slot ≠ some (s.now / 50000)) : exec .hazelSlot s = .next (slotRan s) := by
  refine (if_neg h).trans ?_
  unfold slotRan
  split <;> rfl

theorem slotRan_slotKept (s : State) : slotKept (slotLatched s) (slotRan s) := by
  unfold slotRan
  generalize slotLatched s = u
  refine .ite .same (.trans ?_ (runCaptures_loopsKept _ _).1)
  exact .ite (runLoops_slotKept _ _) .same

theorem slotRan_taken {s : State} {k : Nat} {l : Loop} (ho : owner s = true) (hh : held s 2 = false)
    (hg : slotGiven s (s.now / 50000) = false) (hl : loop? s k = some l) (hdue : loopDue l.desc (s.now / 50000) = true)
    (hplaced : l.unplaced = false) (hpod : podOf s l ≠ 0) : loopTaken (slotRan s) k := by
  unfold slotRan
  rw [hh, ho, hg, if_neg Bool.false_ne_true, if_pos (by rfl)]
  exact (runLoops_taken (s := slotLatched s) ho hl hdue hplaced hpod).of_loops (runCaptures_loopsKept _ _).2

theorem slotRan_follower {s : State} (ho : owner s = false) : (slotRan s).hz.loops = s.hz.loops := by
  unfold slotRan
  rw [ho]
  split
  · rfl
  · exact (runCaptures_loopsKept _ _).2

/-! ## A batch that closes -/

theorem batch_congr {s t : State} (h : t.hz = s.hz) (pod : Nat) : batch t pod = batch s pod := by rw [batch, h, batch]

theorem batch_setBatch (s : State) (pod : Nat) (b : List BatchItem) : batch (setBatch s pod b) pod = b := storeGet_storeSet _ _ _ _

theorem dropBatch_empty (s : State) (pod : Nat) : batch (dropBatch s pod) pod = [] := by
  have hkept : keepsOn State.hz (·.batches) (setBatch s pod []) (dropBatch s pod) :=
    .foldl (fun _ _ => .after (areaPut_changes _ _ _).hz_eq (.update .same)) .same
  exact (congrArg (storeGet (fun _ => []) · pod) hkept).trans (batch_setBatch s pod [])

/-- A batch that closes is empty. -/
theorem closeBatch_empty (s : State) (pod : Nat) : batch (closeBatch s pod) pod = [] := by
  unfold closeBatch
  split
  · assumption
  split
  · exact (batch_congr ((commit_changes _ _ _ _ _).hz_eq.trans (countBlocks_changes _ _).hz_eq) pod).trans (batch_setBatch _ _ _)
  · exact dropBatch_empty s pod

theorem owner_of_paired {s : State} (h : paired s = true) : owner s = true := by
  have hrole : s.pair.role = .active := of_decide_eq_true (Bool.and_eq_true_iff.mp h).1
  rw [owner, hrole]
  rfl

theorem countBlocks_pairState (s : State) (n : Nat) : keepsOn State.pair pairState s (countBlocks s n) := .ite (.update .same) .same

theorem paired_of_pairState {s t : State} (h : keepsOn State.pair pairState s t) : paired t = paired s := by
  have hrole : t.pair.role = s.pair.role := (congrArg Prod.fst h :)
  have hstream : t.pair.streaming = s.pair.streaming := (congrArg Prod.snd h :)
  rw [paired, hrole, hstream, paired]

/-- In a pair the outputs of a batch wait for their acknowledge. -/
theorem closeBatch_waits {s : State} (hp : paired s = true) {pod : Nat} (hb : batch s pod ≠ []) :
    (closeBatch s pod).own.outstanding = s.own.outstanding ++ [{ id := s.own.nextCommit, kind := .hazel pod
                                                                 drives := (batch s pod).filterMap (·.drive), sent := s.now }] := by
  have hcount : keepsOn State.pair pairState s (countBlocks (setBatch (sendBatch s pod) pod []) (batchBlocks s pod)) :=
    keepsOn.trans (t := setBatch (sendBatch s pod) pod []) (.trans (t := sendBatch s pod) (sendBatch_pairState s pod) .same) (countBlocks_pairState _ _)
  have hchanged : changesOnly [.unit .pair, .unit .hz] s (countBlocks (setBatch (sendBatch s pod) pod []) (batchBlocks s pod)) :=
    .after (countBlocks_changes _ _) (.fields (s1 := sendBatch s pod) (.after (sendBatch_changes s pod) .same))
  unfold closeBatch
  rw [if_neg hb, if_pos (owner_of_paired hp), commit_hazel, if_pos ((paired_of_pairState hcount).trans hp)]
  change (countBlocks (setBatch (sendBatch s pod) pod []) (batchBlocks s pod)).own.outstanding ++ _ = _
  rw [hchanged.own_eq, hchanged.now_eq]

/-! ## Pods that fail -/

/-- The count of a pod's missed slots is another counter than that of the flag of its failure. -/
theorem podMissed_fcnt (s : State) (pod : Nat) : counter (podMissed s pod) (fcntOf Reg.hzFlags + 4 * 0) 0 = counter s (fcntOf Reg.hzFlags + 4 * 0) 0 := by
  have hne : rkey (fcntOf Reg.hzFlags + 4 * 0) 0 ≠ rkey (podCounter pod) 0 := by
    have hlt : (pod - 1) % 5 < 5 := Nat.mod_lt _ (by decide)
    intro h
    have haddr : fcntOf Reg.hzFlags + 4 * 0 = Reg.hzSnapPod1 + 4 * ((pod - 1) % 5) := Nat.add_right_cancel h
    interval_cases (pod - 1) % 5 <;> revert haddr <;> decide
  exact storeGet_storeSet_ne _ _ _ hne

/-- The state before a pod's flag is raised. -/
def podDropped (s : State) (p : Nat) : State := podMissed (dropBatch s p) p

theorem podDropped_fcnt (s : State) (p : Nat) :
    counter (podDropped s p) (fcntOf Reg.hzFlags + 4 * 0) 0 = counter s (fcntOf Reg.hzFlags + 4 * 0) 0 :=
  (podMissed_fcnt _ p).trans ((dropBatch_changes s p).counter_eq rfl 0)

theorem podDropped_pair (s : State) (p : Nat) : (podDropped s p).pair = s.pair :=
  ((podMissed_changes (dropBatch s p) p).pair_eq).trans (dropBatch_changes s p).pair_eq

/-- What a pod's failure leaves of Hazel besides the loops and the batches. -/
def podsOf (h : Hazel) : List Nat × List Nat := (h.podMap, h.failedPods)

theorem podDropped_pods (s : State) (p : Nat) : keepsOn State.hz podsOf s (podDropped s p) :=
  .after (podMissed_changes (dropBatch s p) p).hz_eq
    (.foldl (fun _ _ => .after (areaPut_changes _ _ _).hz_eq (.update .same)) (.update .same))

/-- Pod `p` among the failed ones. -/
def addFailed (s : State) (p : Nat) : State := { s with hz := { s.hz with failedPods := s.hz.failedPods ++ [p] } }

/-- A pod that fails: its batch is dropped, its flag is raised, and it is among the failed ones. -/
def podFailed (s : State) (p : Nat) : State := addFailed (post (hzRaise (podDropped s p) 0) .podFail p p 0 0) p

theorem podFailed_pair (s : State) (p : Nat) : (podFailed s p).pair = s.pair := by
  change (post (hzRaise (podDropped s p) 0) .podFail p p 0 0).pair = s.pair
  rw [post_pair]
  exact podDropped_pair s p

theorem podFailed_pods (s : State) (p : Nat) : podsOf (podFailed s p).hz = (s.hz.podMap, s.hz.failedPods ++ [p]) := by
  have hpods : podsOf (post (hzRaise (podDropped s p) 0) .podFail p p 0 0).hz = podsOf s.hz := by
    rw [post_hz]
    exact podDropped_pods s p
  exact congrArg (fun m : List Nat × List Nat => (m.1, m.2 ++ [p])) hpods

/-- Pod 5 in the place of pod `p`. -/
def podReplaced (s : State) (p : Nat) : State :=
  { s with hz := { s.hz with podMap := s.hz.podMap.map (fun x => if x = p then 5 else x) }, spr := { s.spr with pod := true } }

/-- A pod in service that fails gives its place to pod 5 where that is spare. -/
theorem exec_podFail_spare {s : State} {pod : Fin 6} (h0 : pod.val ≠ 0) (hp : pod.val ∉ s.hz.failedPods) (hmap : pod.val ∈ s.hz.podMap)
    (h5 : 5 ∉ s.hz.failedPods) (h5m : 5 ∉ s.hz.podMap) : exec (.podFail pod) s = .next (sprouted (podReplaced (podFailed s pod.val) pod.val)) := by
  have hpods := podFailed_pods s pod.val
  have hmap' : (podFailed s pod.val).hz.podMap = s.hz.podMap := (congrArg Prod.fst hpods :)
  have hfailed : (podFailed s pod.val).hz.failedPods = s.hz.failedPods ++ [pod.val] := (congrArg Prod.snd hpods :)
  have hin : ¬ pod.val ∉ (podFailed s pod.val).hz.podMap := fun hn => hn (hmap' ▸ hmap)
  have hne : pod.val ≠ 5 := fun e => h5m (e ▸ hmap)
  have hspare : 5 ∉ (podFailed s pod.val).hz.failedPods ∧ 5 ∉ (podFailed s pod.val).hz.podMap := by
    rw [hfailed, hmap']
    exact ⟨by simp [h5, Ne.symm hne], h5m⟩
  exact (if_neg (not_or.mpr ⟨h0, hp⟩)).trans ((if_neg hin).trans (if_pos hspare))

/-- A failed pod without a spare, on a module that is not ALONE, is a module fault. -/
theorem exec_podFail_fault {s : State} {pod : Fin 6} (h0 : pod.val ≠ 0) (hp : pod.val ∉ s.hz.failedPods) (hmap : pod.val ∈ s.hz.podMap)
    (h5 : 5 ∈ s.hz.failedPods ∨ 5 ∈ s.hz.podMap) (hr : s.pair.role ≠ .alone) : ∃ u, exec (.podFail pod) s = .next (moduleFault u .pod 0 0 0) := by
  have hpods := podFailed_pods s pod.val
  have hmap' : (podFailed s pod.val).hz.podMap = s.hz.podMap := (congrArg Prod.fst hpods :)
  have hfailed : (podFailed s pod.val).hz.failedPods = s.hz.failedPods ++ [pod.val] := (congrArg Prod.snd hpods :)
  have hin : ¬ pod.val ∉ (podFailed s pod.val).hz.podMap := fun hn => hn (hmap' ▸ hmap)
  have hnone : ¬ (5 ∉ (podFailed s pod.val).hz.failedPods ∧ 5 ∉ (podFailed s pod.val).hz.podMap) := by
    rw [hfailed, hmap']
    exact fun h => h5.elim (fun h5f => h.1 (List.mem_append_left _ h5f)) h.2
  refine ⟨_, (if_neg (not_or.mpr ⟨h0, hp⟩)).trans ((if_neg hin).trans ((if_neg hnone).trans (if_neg ?_)))⟩
  rw [(writeSproutRecord_changes _).pair_eq, (exhausted_changes _ _).pair_eq]
  exact fun hrole => hr ((congrArg Pair.role (podFailed_pair s pod.val)).symm.trans hrole)

/-- The areas that the replacement of a failed pod can change: none of them is of Hazel's flags. -/
def replacementAreas : List Area :=
  [.unit .exe, .unit .grd, .unit .spr, .unit .net, .unit .sup, .unit .cmd, .unit .sbk, .unit .hz, .ctr Reg.sprSnapSprouts, .flag Reg.sprFlags 0,
    .flag Reg.cmdFlags 4]

theorem podReplaced_addFailed (s : State) (p : Nat) : changesOnly replacementAreas s (podReplaced (addFailed s p) p) := .fields .same

theorem podReplaced_changes (s : State) (p : Nat) :
    changesOnly replacementAreas (raise (podDropped s p) Reg.hzFlags 0 0) (sprouted (podReplaced (podFailed s p) p)) :=
  .after (sprouted_changes _) (changesOnly.trans (.after (post_changes _ _ _ _ _ _) .same) (podReplaced_addFailed _ p))

/-- Settles O18: a due loop takes its half as its slot runs it, and its batch's commit, a pod's failure and a module's follow their definitions. -/
theorem hazelSlotsAndPods : Obligations.HazelSlotsAndPods := by
  refine ⟨fun s h => ⟨slotRan s, exec_hazelSlot h, (slotRan_slotKept s).1, (slotRan_slotKept s).2.1,
      fun ho hh hg n l hl hdue hplaced hpod => slotRan_taken ho hh hg hl hdue hplaced hpod, slotRan_follower⟩,
    fun s h => if_pos h,
    fun pod s => ⟨_, rfl, closeBatch_empty s pod.val, fun hp hb => closeBatch_waits hp hb⟩, fun pod s hmap h0 hp h5 h5m => ?_, fun pod s hmap h0 hp h5 hr => ?_,
    fun pod s h => if_pos h⟩
  · have hpods := podFailed_pods s pod.val
    have hmap' : (podFailed s pod.val).hz.podMap = s.hz.podMap := (congrArg Prod.fst hpods :)
    have hfailed : (podFailed s pod.val).hz.failedPods = s.hz.failedPods ++ [pod.val] := (congrArg Prod.snd hpods :)
    refine ⟨_, exec_podFail_spare h0 hp hmap h5 h5m, ?_, ?_, ?_, ?_⟩
    · rw [(sprouted_changes _).hz_eq]
      exact congrArg (List.map _) hmap'
    · rw [(sprouted_changes _).hz_eq]
      exact hfailed
    · exact flaggedAt_of_raise (by decide) (podDropped_fcnt s pod.val) (podReplaced_changes s pod.val)
    · rw [(sprouted_changes _).pair_eq]
      exact congrArg Pair.role (podFailed_pair s pod.val)
  · obtain ⟨u, hu⟩ := exec_podFail_fault h0 hp hmap h5 hr
    obtain ⟨hrole, hstation, -, -⟩ := moduleFault_leaves u .pod 0 0 0
    exact ⟨_, hu, hrole, hstation⟩

end Sys2Proof
end

section
/-! PROOFS. Hazel's registers and commands for loops, injections and captures (O19, O20). -/
namespace Sys2Proof
open Sys2Proof.Machine

set_option Elab.async false

/-! ## The operator's values of a loop -/

/-- The mask of a register's write, as the bits of its upper half. -/
theorem mask_testBit (v : Word) (n : Nat) (hn : n < 16) : (field v 31 16).testBit n = bit v (16 + n) := by
  have h : v.toNat >>> 16 / 2 ^ n % 2 = v.toNat >>> (16 + n) % 2 := by rw [Nat.shiftRight_add, Nat.shiftRight_eq_div_pow _ n]
  have hbit : bit v (16 + n) = decide (v.toNat >>> (16 + n) % 2 = 1) := by
    unfold bit field
    rw [show 16 + n + 1 - (16 + n) = 1 by omega]
    rfl
  rw [hbit, field, Nat.testBit_mod_two_pow, decide_eq_true hn, Bool.true_and, Nat.testBit_eq_decide_div_mod_eq, h]

theorem mask_mode {v : Word} (h : field v 17 16 = 3) : field v 31 16 % 4 = 3 := by
  unfold field at h ⊢
  omega

/-- A write of the mode takes both of its bits. -/
theorem mode_written (old : Nat) (v : Word) : ((old % 4 &&& (3 - 3)) ||| (field v 1 0 &&& 3)) = field v 1 0 := by
  have hlt : field v 1 0 < 2 ^ 2 := Nat.mod_lt _ (by decide)
  rw [Nat.sub_self, Nat.and_zero, Nat.zero_or, show 3 = 2 ^ 2 - 1 from rfl, Nat.and_two_pow_sub_one_eq_mod, Nat.mod_eq_of_lt hlt]

/-- What a write of the mode register does where it names the mode and does not commit. -/
theorem writeLoopMode_eq {s : State} {v : Word} {l : Loop} (hl : loop? s (selectedLoop s) = some l) (hmode : field v 17 16 = 3)
    (hcommit : bit v 24 = false) :
    writeLoopMode s v =
      if operatorOwns l.desc 0 then setOpMode s (selectedLoop s) (some (field v 1 0)) (if bit v 18 then some (field v 2 2) else none)
      else if bit v 18 then setOpMode (hzRaise s 6) (selectedLoop s) none (some (field v 2 2)) else hzRaise s 6 := by
  have htrack : (field v 31 16).testBit 2 = bit v 18 := mask_testBit v 2 (by decide)
  have hno : (field v 31 16).testBit 8 = false := (mask_testBit v 8 (by decide)).trans hcommit
  unfold writeLoopMode
  rw [hl]
  dsimp only
  rw [mask_mode hmode, htrack, hno, mode_written]
  cases operatorOwns l.desc 0
  · cases bit v 18 <;> rfl
  · rfl

/-- An operator's write of a mode that he owns takes the mode, and with bit 18 the tracking of the set-point. -/
theorem writeLoopMode_of_owned {s : State} {v : Word} {l : Loop} (hl : loop? s (selectedLoop s) = some l) (hmode : field v 17 16 = 3)
    (hcommit : bit v 24 = false) (hown : operatorOwns l.desc 0 = true) : loop? (writeLoopMode s v) (selectedLoop s)
      = some { l with opMode := field v 1 0, opStaged := true, spTrackPv := if bit v 18 then bit v 2 else l.spTrackPv } := by
  rw [writeLoopMode_eq hl hmode hcommit, if_pos hown, setOpMode, loop?_modLoop, hl]
  cases bit v 18 <;> rfl

/-- A write of a mode that the program owns is refused. -/
theorem writeLoopMode_of_program {s : State} {v : Word} {l : Loop} (hl : loop? s (selectedLoop s) = some l) (hmode : field v 17 16 = 3)
    (hcommit : bit v 24 = false) (hown : operatorOwns l.desc 0 = false) : flagged s (writeLoopMode s v) Reg.hzFlags 6
      ∧ ∃ m, loop? (writeLoopMode s v) (selectedLoop s) = some m ∧ m.opMode = l.opMode := by
  have hflag : flagged s (hzRaise s 6) Reg.hzFlags 6 := raise_flagged s Reg.hzFlags 6 (by decide)
  rw [writeLoopMode_eq hl hmode hcommit, hown, if_neg Bool.false_ne_true]
  split
  case isFalse => exact ⟨hflag, l, hl, rfl⟩
  case isTrue =>
    exact ⟨hflag, _, (loop?_modLoop (hzRaise s 6) (selectedLoop s) _).trans (congrArg (Option.map _) hl), rfl⟩

theorem writeLoopSp_eq {s : State} {v : Word} {l : Loop} (hl : loop? s (selectedLoop s) = some l) :
    writeLoopSp s v = if operatorOwns l.desc 1 then setOpSp s (selectedLoop s) (field v 15 0) else hzRaise s 6 := by
  unfold writeLoopSp
  rw [hl]

theorem writeLoopMv_eq {s : State} {v : Word} {l : Loop} (hl : loop? s (selectedLoop s) = some l) :
    writeLoopMv s v = if operatorOwns l.desc 2 then setOpMv s (selectedLoop s) (field v 15 0) else hzRaise s 6 := by
  unfold writeLoopMv
  rw [hl]

/-! ## Injections -/

theorem gen_congr {s t : State} (h : t.hz.gens = s.hz.gens) (g : Nat) : gen t g = gen s g := by rw [gen, h, gen]

/-- An injection that ends for a reason is ABORTED with it, keeps its block and raises its flag. -/
theorem endInjection_aborts (s : State) {g r : Nat} (hr : r ≠ 0) : (gen (endInjection s g r) g).state = 3 ∧ (gen (endInjection s g r) g).reason = r
    ∧ (gen (endInjection s g r) g).icb = (gen s g).icb ∧ flagged s (endInjection s g r) Reg.hzFlags 3 := by
  have heq : endInjection s g r = post (hzRaise (setGen s g { gen s g with state := 3, reason := r }) 3) .injectAbort g g r 0 := by
    unfold endInjection
    dsimp only
    rw [if_neg hr, if_neg hr]
  have hgen : gen (endInjection s g r) g = { gen s g with state := 3, reason := r } := by
    rw [heq]
    refine (gen_congr (congrArg Hazel.gens (post_hz ..)) g).trans ?_
    exact gen_setGen s g { gen s g with state := 3, reason := r }
  rw [hgen, heq]
  refine ⟨rfl, rfl, rfl, ?_⟩
  exact flaggedAt_of_raise (u := setGen s g { gen s g with state := 3, reason := r }) (by decide) rfl (post_changes _ _ _ _ _ _)

/-- A generator that is stopped and may inject runs, with its block, from its first sample. -/
theorem startInjection_runs {s : State} {g : Nat} (hstopped : (gen s g).state ≠ 1) (hcan : canInject s g = true) :
    (gen (startInjection s g) g).state = 1 ∧ (gen (startInjection s g) g).count = 0 ∧ (gen (startInjection s g) g).icb = (gen s g).icb := by
  unfold startInjection
  dsimp only
  rw [if_neg hstopped, if_pos hcan]
  generalize hx : ({ icb := (gen s g).icb, state := 1, lfsr := blockField (gen s g).icb 28 2 % 2 ^ blockField (gen s g).icb 6 1
                     mode := ((loop? s (blockField (gen s g).icb 0 2)).map (·.mode)).getD 0 } : Generator) = x
  have hasked (a : Nat) : gen (askLogic (setGen s g x) .c3 0x2 a none (.injection g)) g = x :=
    (gen_congr (congrArg Hazel.gens (askLogic_changes _ _ _ _ _ _).hz_eq) g).trans (gen_setGen s g x)
  have hgen (a : Nat) {p : Prop} [Decidable p] (k : Nat) :
      gen (if p then fireCapture (askLogic (setGen s g x) .c3 0x2 a none (.injection g)) k else askLogic (setGen s g x) .c3 0x2 a none (.injection g)) g
        = x := by
    split
    · refine Eq.trans ?_ (hasked a)
      unfold fireCapture
      split <;> rfl
    · exact hasked a
  rw [hgen, ← hx]
  exact ⟨rfl, rfl, rfl⟩

theorem startInjection_refused {s : State} {g : Nat} (hstopped : (gen s g).state ≠ 1) (hcan : canInject s g = false) :
    startInjection s g = endInjection s g 7 := by
  unfold startInjection
  dsimp only
  rw [if_neg hstopped, hcan]
  rfl

theorem stopInjection_ends {s : State} {g : Nat} (hrun : (gen s g).state = 1) : stopInjection s g = endInjection s g 6 := if_pos hrun

/-- An injection's request, of class C3, leaves the command processor. -/
theorem askInjection_cmd (s : State) (a g : Nat) : (askLogic s .c3 0x2 a none (.injection g)).cmd = s.cmd := by
  have hrefused (r : Request) (hr : r.cls = .c3) (hp : r.purpose = .injection g) (why : Reason) : (refuseLogic s r why).cmd = s.cmd := by
    have hlogged : (refuseRequest s r why).cmd = s.cmd := by
      unfold refuseRequest
      dsimp only
      rw [if_neg (by rw [hr]; decide)]
      exact (logRequest_changes _ _ _ _ _).cmd_eq
    unfold refuseLogic onLogicRefuse
    rw [hp]
    exact hlogged
  unfold askLogic requestLogic
  dsimp only
  split
  · rfl
  split
  · exact hrefused _ rfl rfl _
  split
  · exact hrefused _ rfl rfl _
  split
  · exact hrefused _ rfl rfl _
  · rfl

/-- A generator that starts leaves the command processor. -/
theorem startInjection_cmd {s : State} {g : Nat} (hstopped : (gen s g).state ≠ 1) (hcan : canInject s g = true) :
    (startInjection s g).cmd = s.cmd := by
  unfold startInjection
  dsimp only
  rw [if_neg hstopped, if_pos hcan]
  split
  · exact (fireCapture_changes _ _).cmd_eq.trans (askInjection_cmd _ _ _)
  · exact askInjection_cmd _ _ _

/-! ## Captures -/

theorem fireCapture_cap (s : State) (k : Nat) : cap (fireCapture s k) k = if (cap s k).state = 1 then { cap s k with fire := true } else cap s k := by
  unfold fireCapture
  split
  · exact cap_setCap s k _
  · rfl

theorem askArm_eq (s : State) (k : Nat) : askArm s k = if capFree s k && ccbOk (cap s k).ccb then armCapture s k else hzRaise s 6 := rfl

/-! ## The registers -/

theorem exec_injStart (g : Fin 4) (r : Requester) {s : State} (hw : writable s Reg.hzInj) :
    exec (.hzInjStart g r) s = .next (startInjection (setRegField s Reg.hzInj 0 1 0 g.val) g.val) :=
  congrArg Host.Outcome.next (actionWrite_runs hw r _)

theorem setRegField_gen (s : State) (a i hi lo v g : Nat) : gen (setRegField s a i hi lo v) g = gen s g := rfl

theorem flagged_of_setRegField {s t : State} {a hi lo v b n : Nat} (h : flagged (setRegField s a 0 hi lo v) t b n) : flagged s t b n := h

/-- Settles O19: each register's write is its operation on the selected loop, generator or set. -/
theorem loopAndInjectionRegisters : Obligations.LoopAndInjectionRegisters := by
  refine ⟨fun r s hw => ⟨_, congrArg Host.Outcome.next (actionWrite_runs hw r _), loop?_modLoop _ _ _⟩,
    fun v r s l hw hl hmode hcommit => ⟨_, congrArg Host.Outcome.next (actionWrite_runs hw r _), ?_⟩,
    fun v r s l hw hl => ⟨_, congrArg Host.Outcome.next (actionWrite_runs hw r _), ?_⟩,
    fun v r s l hw hl => ⟨_, congrArg Host.Outcome.next (actionWrite_runs hw r _), ?_⟩,
    fun g r s hw hstopped => ⟨_, exec_injStart g r hw, ?_⟩,
    fun g r s hw hrun => ⟨_, congrArg Host.Outcome.next (actionWrite_runs hw r _), ?_⟩,
    fun k r s hw => ⟨_, congrArg Host.Outcome.next (actionWrite_runs hw r _), ?_⟩,
    fun k r s hw => ⟨_, congrArg Host.Outcome.next (actionWrite_runs hw r _), fireCapture_cap _ _⟩,
    fun k r s hw => ⟨_, congrArg Host.Outcome.next (actionWrite_runs hw r _), cap_setCap _ _ _⟩⟩
  · split
    · next hown => exact writeLoopMode_of_owned hl hmode hcommit hown
    · next hown => exact writeLoopMode_of_program hl hmode hcommit (Bool.eq_false_iff.mpr hown)
  · rw [writeLoopSp_eq hl]
    split
    · rw [setOpSp, loop?_modLoop, hl]
      rfl
    · exact ⟨raise_flagged s Reg.hzFlags 6 (by decide), rfl⟩
  · rw [writeLoopMv_eq hl]
    split
    · rw [setOpMv, loop?_modLoop, hl]
      rfl
    · exact ⟨raise_flagged s Reg.hzFlags 6 (by decide), rfl⟩
  · split
    · next hcan =>
      obtain ⟨hstate, hcount, hicb⟩ := startInjection_runs (s := setRegField s Reg.hzInj 0 1 0 g.val) hstopped hcan
      exact ⟨hicb, hstate, hcount⟩
    · next hcan =>
      rw [startInjection_refused (s := setRegField s Reg.hzInj 0 1 0 g.val) hstopped (Bool.eq_false_iff.mpr hcan)]
      obtain ⟨hstate, hreason, hicb, hflag⟩ := endInjection_aborts (setRegField s Reg.hzInj 0 1 0 g.val) (g := g.val) (r := 7) (by decide)
      exact ⟨hicb, hstate, hreason, hflag⟩
  · obtain ⟨hstate, hreason, -, hflag⟩ := endInjection_aborts (setRegField s Reg.hzInj 0 1 0 g.val) (g := g.val) (r := 6) (by decide)
    rw [stopInjection_ends (s := setRegField s Reg.hzInj 0 1 0 g.val) hrun]
    exact ⟨hstate, hreason, hflag⟩
  · rw [askArm_eq]
    split
    · next h => exact (if_pos h).symm ▸ cap_setCap _ _ _
    · next h => exact (if_neg h).symm ▸ ⟨raise_flagged _ Reg.hzFlags 6 (by decide), rfl⟩

/-! ## The commands -/

/-- An operator's command on a field of a loop that he owns. -/
theorem loopWrite_ok {s t : State} {c : Ctx} {op n b : Nat} {i : Instr} {body : State → State} {l : Loop} (h : ready s i)
    (e : packetRow i = some (c, op, 2)) (ho : owner s = true) (hl : loop? s n = some l) (hown : operatorOwns l.desc b = true) (hbody : body s = t) :
    loopWrite s c op i n b body = ok t c op [] := by
  unfold loopWrite
  rw [command_body h e ho, hl]
  dsimp only
  rw [if_pos hown, hbody]

/-- A command that the dispatcher started, as what its body makes of the state. -/
theorem exec_body {s t : State} {i : Instr} {c : Ctx} {op island : Nat} {roleOk : Bool} {body : State → State} (h : ready s i)
    (e : packetRow i = some (c, op, island)) (ho : roleOk = true) (hexec : exec i s = .next (command s c op island i roleOk body))
    (hbody : body s = t) : exec i s = .next t :=
  hexec.trans (congrArg Host.Outcome.next ((command_body h e ho).trans hbody))

theorem exec_loopMode {c : Ctx} {loop : BitVec 16} {mode track : BitVec 8} {s : State} {l : Loop} (h : ready s (.loopMode c loop mode track))
    (ho : owner s = true) (hm : mode.toNat ≤ 3) (ht : track.toNat ≤ 1) (hl : loop? s loop.toNat = some l) (hown : operatorOwns l.desc 0 = true) :
    exec (.loopMode c loop mode track) s = .next (ok (setOpMode s loop.toNat (some mode.toNat) (some track.toNat)) c 0x0602 []) :=
  (if_neg (by omega)).trans (congrArg Host.Outcome.next (loopWrite_ok h rfl ho hl hown rfl))

/-- Parameter words that are staged for a loop. -/
theorem loop?_stageParams {s : State} {n : Nat} {l : Loop} (hl : loop? s n = some l) (w : Nat) (ws : List Word) :
    loop? (stageParams s n w ws) n = some { l with
      staged := l.staged ++ ws.zipIdx.map (fun p => (w + p.2, p.1))
      wrote := l.wrote.filter (fun p => decide (p.1 < w) || decide (w + ws.length ≤ p.1)) ++ ws.zipIdx.map (fun p => (w + p.2, p.1)) } := by
  rw [stageParams, loop?_modLoop, hl]
  rfl

/-- The words of a LOOP_PARAM that names a defined loop and words that it has are staged. -/
theorem exec_loopParam {c : Ctx} {loop : BitVec 16} {w : BitVec 8} {words : List Word} {commit : Bool} {s : State} {l : Loop}
    (h : ready s (.loopParam c loop w words commit)) (ho : owner s = true) (hl : loop? s loop.toNat = some l) (h0 : 0 < w.toNat) (h87 : w.toNat ≤ 87)
    (h88 : w.toNat + words.length ≤ 88) :
    exec (.loopParam c loop w words commit) s = .next
      (if commit then await (pcommit (stageParams s loop.toNat w.toNat words) loop.toNat) c 0x0605 2 loop.toNat
       else ok (stageParams s loop.toNat w.toNat words) c 0x0605
         (leBytes 2 (regField (stageParams s loop.toNat w.toNat words) Reg.hzApply 0 15 0))) := by
  change Host.Outcome.next (command s c _ _ _ _ _) = _
  rw [command_body h rfl ho]
  dsimp only
  rw [hl, if_neg (by simp), if_neg (by omega), if_neg (by omega)]

/-- Settles O20: each command is its operation on the loop, generator or set it names, and its answer. -/
theorem loopCommands : Obligations.LoopCommands := by
  refine ⟨fun c first count s h h0 h2 h4 => ?_, fun c loop mode track s l h ho hm ht hl hown => ?_, fun c loop v s l h ho hl hown => ?_,
    fun c loop v s l h ho hl hown => ?_, fun c loop w words s l h ho hl h0 h87 h88 => ⟨?_, fun h' => ?_⟩, fun c g icb s h ho hg hstopped hcan => ?_,
    fun c g s h ho hg hrun => ?_, fun c k ccb s h ho hk hfree hccb => ?_, fun c k s h ho hk hstate => ?_, fun c k s h ho hk => ?_,
    fun c k first count s h hk h0 h4 => ?_⟩
  · exact ⟨_, exec_ok h rfl rfl rfl ((if_neg (by omega)).trans (if_neg (by omega))) rfl⟩
  · refine ⟨_, exec_loopMode h ho hm ht hl hown, ok_replied_after (ready_answers h rfl) rfl, ?_⟩
    rw [loop?_ok, setOpMode, loop?_modLoop, hl]
    rfl
  · refine ⟨_, congrArg Host.Outcome.next (loopWrite_ok h rfl ho hl hown rfl), ok_replied_after (ready_answers h rfl) rfl, ?_⟩
    rw [loop?_ok, setOpSp, loop?_modLoop, hl]
    rfl
  · refine ⟨_, congrArg Host.Outcome.next (loopWrite_ok h rfl ho hl hown rfl), ok_replied_after (ready_answers h rfl) rfl, ?_⟩
    rw [loop?_ok, setOpMv, loop?_modLoop, hl]
    rfl
  · exact ⟨_, exec_loopParam h ho hl h0 h87 h88, ok_replied_after (ready_answers h rfl) rfl, (loop?_ok ..).trans (loop?_stageParams hl _ _)⟩
  · refine ⟨_, exec_loopParam h' ho hl h0 h87 h88, await_waits .., ?_⟩
    refine (loop?_congr (congrArg Hazel.loops (await_hz ..)) _).trans ?_
    rw [pcommit, loop?_modLoop, loop?_stageParams hl]
    rfl
  · obtain ⟨hstate, -, hicb⟩ := startInjection_runs (s := setGen s g.toNat { gen s g.toNat with icb := icb }) (g := g.toNat)
      (by rw [gen_setGen]; exact hstopped) hcan
    have hcmd := startInjection_cmd (s := setGen s g.toNat { gen s g.toNat with icb := icb }) (g := g.toNat) (by rw [gen_setGen]; exact hstopped) hcan
    obtain ⟨hexec, hreplied⟩ := exec_ok h rfl ho rfl ((if_neg (by omega)).trans ((if_neg hstopped).trans (if_pos hstate))) hcmd
    exact ⟨_, hexec, hreplied, (congrArg Generator.state (gen_ok ..)).trans hstate,
      (congrArg Generator.icb (gen_ok ..)).trans (hicb.trans (congrArg Generator.icb (gen_setGen ..)))⟩
  · obtain ⟨hstate, hreason, -, -⟩ := endInjection_aborts s (g := g.toNat) (r := 6) (by decide)
    have hkept : openKept s.cmd (endInjection s g.toNat 6).cmd := post_openKept (hzRaise (setGen s g.toNat _) 3) ..
    refine ⟨_, exec_body h rfl ho rfl (if_neg (by omega)), ?_, ?_⟩
    · rw [stopInjection_ends hrun]
      dsimp only
      rw [hreason]
      exact ok_lastReplied (hkept.answers (ready_answers h rfl))
    · rw [stopInjection_ends hrun]
      exact (congrArg Generator.state (gen_ok ..)).trans hstate
  · refine ⟨_, exec_body h rfl ho rfl ((if_neg (by omega)).trans ((if_neg (by simp [hfree])).trans (if_neg (by simp [hccb])))),
      ok_replied_after (ready_answers h rfl) rfl, ?_⟩
    rw [cap_ok, armCapture, cap_setCap, cap_setCap]
  · refine ⟨_, exec_body h rfl ho rfl (if_neg (by omega)),
      ok_replied_after (ready_answers h rfl) (fireCapture_changes _ _).cmd_eq, ?_⟩
    rw [cap_ok, fireCapture_cap, if_pos hstate]
  · refine ⟨_, exec_body h rfl ho rfl (if_neg (by omega)), ok_replied_after (ready_answers h rfl) rfl, ?_⟩
    rw [cap_ok, disarmCapture, cap_setCap]
  · exact ⟨_, exec_ok h rfl rfl rfl ((if_neg (by omega)).trans (if_neg (by omega))) rfl⟩

end Sys2Proof
end

section
/-! PROOFS. The clearing of a channel's faults by a command that has two entries (O25). -/
namespace Sys2Proof
open Sys2Proof.Machine

set_option Elab.async false

/-! As for the cold start (O15), nothing in O25 says that a command has one entry: the first entry of this CH_CLEAR_FAULT waits for the grant
of channel 5, and the second is of a session that has closed. -/

/-- An entry of the tests' CH_CLEAR_FAULT, waiting for these requests to Gourd. -/
def clearEntry (closed : Bool) (waits : List Nat) : Executing :=
  { opcode := 0x0502, queue := tctx.queue.val, session := tctx.session.val, tag := tctx.tag.toNat, waits := waits, closed := closed }

/-- An ALONE module in STOP whose channel 5, a digital output that nothing commands on, still asks for its grant. -/
def clearedTwice : State := setCfg { tReady with
  exe := { station := .stop }
  grd := { c1 := [{ cls := .c1, source := 5, group := some 0, purpose := .other }] }
  cmd := { sessions := [{ slot := 0, roles := 31 }], executing := [clearEntry false [grantSubject 5], clearEntry true []] } } Reg.fchMode 5 (word 4)

theorem clearedTwice_ready : ready clearedTwice (.chClearFault tctx 5) := by unfold ready; decide

/-- The command neither answers OK last nor waits. -/
def clearUnanswered (o : Host.Outcome State Fault Refusal) : Bool :=
  match o with
  | .next t => decide ((repliesOf t.cmd tctx.queue.val).getLast?.map (·.code) ≠ some .ok) && t.cmd.executing.all (fun x => !x.blocked)
  | _ => false

/-- The withdrawn request ends the first entry with BUDGET_REFUSED, and the answer falls to the entry of the closed session. -/
theorem clearedTwice_unanswered : clearUnanswered (exec (.chClearFault tctx 5) clearedTwice) = true := by decide +kernel

/-- Refutes O25: CH_CLEAR_FAULT neither answers OK last nor waits where a second entry of the command is closed. -/
theorem not_channelCommands : ¬ Obligations.ChannelCommands := by
  rintro ⟨-, -, -, hclear, -⟩
  obtain ⟨t, ht, -, -, -, -, -, -, -, hanswer⟩ := hclear tctx 5 clearedTwice clearedTwice_ready (by decide) (by decide)
    (fun h => absurd h.1 (by decide))
  have hnone := clearedTwice_unanswered
  rw [ht] at hnone
  obtain ⟨hcode, hblocked⟩ := Bool.and_eq_true_iff.mp hnone
  rcases hanswer with ⟨r, hr, -, -, -, hok, -⟩ | ⟨x, hx, -, -, -, hb⟩
  · refine of_decide_eq_true hcode ?_
    rw [hr, ← hok]
    rfl
  · have hnot := List.all_eq_true.mp hblocked x hx
    rw [hb] at hnot
    cases hnot

end Sys2Proof
end

section
/-! PROOFS. The grant gate of the field channels, and coupler frames, front-end timeouts, group supplies and reconfiguration (O21). -/
namespace Sys2Proof
open Sys2Proof.Machine

set_option Elab.async false

/-! ## Front-ends after work beside the field unit -/

theorem fe_congr {s t : State} (h : t.fch = s.fch) (n : Nat) : fe t n = fe s n := by rw [fe, h, fe]

@[simp] theorem fe_raise (s : State) (a i k n : Nat) : fe (raise s a i k) n = fe s n := rfl

@[simp] theorem fe_countUp (s : State) (a i n : Nat) : fe (countUp s a i) n = fe s n := rfl

@[simp] theorem fe_setClaim (s : State) (c : Nat) (x : FieldClaim) (n : Nat) : fe (setClaim s c x) n = fe s n := rfl

@[simp] theorem fe_post (s : State) (e : Event) (i x y z n : Nat) : fe (post s e i x y z) n = fe s n := fe_congr (post_fch ..) n

/-! ## What the grant gate leaves of the field unit -/

/-- A front-end but for what the grant gate sets: its grant, what it drives under it, and how its request ended. -/
def ungated (f : FrontEnd) : FrontEnd := { f with driven := 0, granted := 0, budget := .granted }

/-- The field unit but for what the grant gate sets. -/
def gateless (x : Field) : Field × (Nat → FrontEnd) := (withoutFes x, fun n => ungated (storeGet (fun _ => {}) x.fes n))

/-- The field unit of `t` is that of `s` but for what the grant gate sets. -/
abbrev gateOnly (s t : State) : Prop := keepsOn State.fch gateless s t

theorem gateOnly.fe_eq {s t : State} (h : gateOnly s t) (n : Nat) : ungated (fe t n) = ungated (fe s n) := (congrFun (congrArg Prod.snd h) n :)

theorem gateOnly.fesOnly {s t : State} (h : gateOnly s t) : fesOnly s t := (congrArg Prod.fst h :)

theorem group_of_fesOnly {s t : State} (h : fesOnly s t) (g : Nat) : group t g = group s g :=
  (congrArg (fun x : Field => storeGet (fun _ => {}) x.groups g) h :)

theorem ungated_gate (f : FrontEnd) (d : BitVec 16) (g : Nat) (b : Budget) : ungated { f with driven := d, granted := g, budget := b } = ungated f := rfl

/-- An update of one front-end that leaves what the gate does not set. -/
theorem modFe_gateOnly (s : State) (c : Nat) {g : FrontEnd → FrontEnd} (hg : ungated (g (fe s c)) = ungated (fe s c)) : gateOnly s (modFe s c g) := by
  refine Prod.ext rfl (funext fun n => ?_)
  change ungated (fe (modFe s c g) n) = ungated (fe s n)
  by_cases hn : n = c
  · rw [hn, fe_modFe, hg]
  · rw [fe_modFe_ne s g hn]

/-- An operation that leaves the field unit. -/
theorem gateOnly.of_fch {s t : State} (h : t.fch = s.fch) : gateOnly s t := .after h .same

theorem refuseRequest_gateOnly (s : State) (r : Request) (why : Reason) : gateOnly s (refuseRequest s r why) := by
  have hlog : gateOnly s (logRequest (countUp (raise s Reg.grdFlags 0 1) Reg.grdSnapRef 0) r .refused why 0) :=
    .after (logRequest_changes _ _ _ _ _).fch_eq .same
  unfold refuseRequest
  dsimp only
  refine .ite (.after (concludeOther_changes _ _ _ _).fch_eq (hlog.trans (modFe_gateOnly _ _ ?_))) hlog
  rfl

theorem withdrawC1_gateOnly (s : State) (c : Nat) (why : Reason) : gateOnly s (withdrawC1 s c why) := by
  unfold withdrawC1
  split
  · exact (keepsOn.same.update).trans (refuseRequest_gateOnly _ _ _)
  · exact .same

theorem requestC1_gateOnly (s : State) (c amount : Nat) : gateOnly s (requestC1 s c amount) := .after (requestC1_changes s c amount).fch_eq .same

theorem setClaim_gateOnly (s : State) (c : Nat) (x : FieldClaim) : gateOnly s (setClaim s c x) := .of_fch rfl

theorem releaseDo_gateOnly (s : State) (c : Nat) : gateOnly s (releaseDo s c) := by
  refine ((withdrawC1_gateOnly s c .withdrawn).trans (setClaim_gateOnly _ c {})).trans (modFe_gateOnly _ c ?_)
  rfl

theorem refreshDo_gateOnly (s : State) (c : Nat) : gateOnly s (refreshDo s c) := by
  have hset (d : BitVec 16) : gateOnly s (modFe s c (fun f => { f with driven := d })) := modFe_gateOnly s c (ungated_gate (fe s c) d _ _)
  have hask : gateOnly s (requestC1 (modFe s c (fun f => { f with driven := 0 })) c (loadI s c)) := (hset 0).trans (requestC1_gateOnly _ _ _)
  unfold refreshDo
  exact .ite (.ite (hset 0) hask) (.ite (releaseDo_gateOnly s c) (.ite (hset 1) (.ite .same hask)))

theorem refreshAo_gateOnly (s : State) (c : Nat) : gateOnly s (refreshAo s c) := by
  unfold refreshAo
  dsimp only
  refine .ite ?_ (keepsOn.trans (setClaim_gateOnly _ _ _) (requestC1_gateOnly _ _ _))
  refine keepsOn.trans ((withdrawC1_gateOnly s c .withdrawn).trans (modFe_gateOnly _ c ?_)) (setClaim_gateOnly _ _ _)
  rfl

theorem refresh_gateOnly (s : State) (c : Nat) : gateOnly s (refresh s c) :=
  .ite .same (.ite .same (.ite (refreshDo_gateOnly s c) (.ite (refreshAo_gateOnly s c) .same)))

theorem refreshAll_gateOnly (s : State) (cs : List Nat) : gateOnly s (refreshAll s cs) := .foldl refresh_gateOnly .same

theorem armClaims_gateOnly (s : State) (c : Nat) : gateOnly s (armClaims s c) :=
  .ite .same (.ite (setClaim_gateOnly _ _ _) (.ite (requestC1_gateOnly _ _ _) .same))

/-! ## Roles and the field unit -/

theorem leaveField_gateOnly (s : State) : gateOnly s (leaveField s) := by
  unfold leaveField
  exact .foldl (fun t (r : Request) => withdrawC1_gateOnly t r.source .withdrawn) (.after (concludeAll_changes _ _ _ _ _).fch_eq .same)

theorem changeRole_gateOnly (s : State) (r : Role) (cause : Nat) : gateOnly s (changeRole s r cause) := by
  unfold changeRole
  dsimp only
  refine .ite (.ite .same .same) ?_
  have h5 (u : State) (hu : u.fch = s.fch) : gateOnly s (if ownerRole r then u else leaveField u) :=
    .ite (gateOnly.of_fch hu) ((gateOnly.of_fch hu).trans (leaveField_gateOnly u))
  refine h5 _ ?_
  have h2 (u : State) (hu : u.fch = s.fch) : (endInjections (roleTests u (ownerRole r && !ownerRole s.pair.role)) 5).fch = s.fch := by
    rw [(endInjections_changes _ _).fch_eq, (roleTests_changes _ _).fch_eq, hu]
  have h4 (u : State) (hu : u.fch = s.fch) : (if s.pair.role = .active then truncateCaptures u else u).fch = s.fch := by
    split
    · rw [(truncateCaptures_changes _).fch_eq, hu]
    · exact hu
  have h5' (u : State) (hu : u.fch = s.fch) : (if r = .orphan then ppdRaise u 2 else u).fch = s.fch := by
    split <;> exact hu
  exact h5' _ (h4 _ (h2 _ (post_fch ..)))

theorem yieldField_gateOnly (s : State) : gateOnly s (yieldField s) := by
  unfold yieldField
  refine .ite ?_ .same
  refine keepsOn.trans ?_ (gateOnly.of_fch rfl)
  exact (gateOnly.of_fch (t := driveLine (send s .yield) false) (send_changes s .yield).fch_eq).trans (changeRole_gateOnly _ _ _)

/-! ## Front-ends that fail -/

theorem writeSproutRecord_gateOnly (s : State) : gateOnly s (writeSproutRecord s) := .of_fch (writeSproutRecord_changes s).fch_eq

theorem exhausted_gateOnly (s : State) (k : Nat) : gateOnly s (exhausted s k) := .of_fch (exhausted_changes s k).fch_eq

theorem queueSprout_gateOnly (s : State) (c : Nat) (asked : Bool) : gateOnly s (queueSprout s c asked) := .of_fch (queueSprout_changes s c asked).fch_eq

/-- What a channel loses as its front-end fails: the link of the spare that served it. -/
def unlinked (s : State) (c : Nat) : State :=
  match (fe s c).link with
  | some sp => modFe (modFe s sp (fun f => { f with broken := true, link := none })) c (fun f => { f with link := none })
  | none => s

/-- A channel whose front-end fails, on a module that has yielded where a partner can take the field. -/
def channelFailed (s : State) (c : Nat) : State := failChannel (unlinked (if hasStandby s then yieldField s else s) c) c

/-- What Sprout makes of a channel that has failed. -/
def failureTaken (s : State) (c : Nat) : State :=
  if (freeSpare s c).isNone then refresh (exhausted s 0) c
  else if policyAllows s c then refresh (queueSprout s c false) c else refresh (sprRaise (queueSprout s c false) 1) c

theorem failureTaken_gateOnly (s : State) (c : Nat) : gateOnly s (failureTaken s c) :=
  .ite ((exhausted_gateOnly _ _).trans (refresh_gateOnly _ _)) (.ite ((queueSprout_gateOnly _ _ _).trans (refresh_gateOnly _ _))
    ((queueSprout_gateOnly s c false).trans (keepsOn.trans (t := sprRaise (queueSprout s c false) 1) .same (refresh_gateOnly _ _))))

theorem feFailure_channel_eq {s : State} {n : Nat} (hn : ¬ (192 ≤ n ∧ (fe s n).link.isNone)) (hb : (fe s (channelOf s n)).broken = false) :
    feFailure s n = failureTaken (writeSproutRecord (channelFailed s (channelOf s n))) (channelOf s n) := by
  unfold feFailure
  rw [if_neg hn]
  dsimp only
  rw [hb, if_neg Bool.false_ne_true]
  rfl

/-- What follows a channel's failure sets the gate only. -/
theorem feFailure_of_channel {s : State} {n : Nat} (hn : ¬ (192 ≤ n ∧ (fe s n).link.isNone)) (hb : (fe s (channelOf s n)).broken = false) :
    gateOnly (channelFailed s (channelOf s n)) (feFailure s n) := by
  rw [feFailure_channel_eq hn hb]
  exact (writeSproutRecord_gateOnly _).trans (failureTaken_gateOnly _ _)

theorem unlinked_fesOnly (s : State) (c : Nat) : fesOnly s (unlinked s c) := by
  unfold unlinked
  split
  · exact keepsOn.trans (modFe_fesOnly s _ _) (modFe_fesOnly _ _ _)
  · exact .same

theorem failChannel_fesOnly (s : State) (c : Nat) : fesOnly s (failChannel s c) := rfl

theorem channelFailed_fesOnly (s : State) (c : Nat) : fesOnly s (channelFailed s c) :=
  (keepsOn.trans (.ite (yieldField_gateOnly s).fesOnly .same) (unlinked_fesOnly _ c)).trans (failChannel_fesOnly _ c)

theorem feFailure_fesOnly (s : State) (n : Nat) : fesOnly s (feFailure s n) := by
  by_cases hn : 192 ≤ n ∧ (fe s n).link.isNone
  · unfold feFailure
    rw [if_pos hn]
    exact .ite .same (keepsOn.trans (modFe_fesOnly s n _) (writeSproutRecord_gateOnly _).fesOnly)
  cases hb : (fe s (channelOf s n)).broken with
  | false => exact (channelFailed_fesOnly _ _).trans (feFailure_of_channel hn hb).fesOnly
  | true =>
    unfold feFailure
    rw [if_neg hn]
    dsimp only
    rw [if_pos hb]
    exact .same

/-! ## A coupler frame -/

theorem checkUserArea_fesOnly (s : State) (c : Nat) : fesOnly s (checkUserArea s c) := by
  unfold checkUserArea
  dsimp only
  exact .ite (modFe_fesOnly _ _ _) (.ite (.after (post_fch ..) (modFe_fesOnly _ _ _)) (modFe_fesOnly _ _ _))

theorem takeAcyc_fesOnly (s : State) (n w : Nat) : fesOnly s (takeAcyc s n w) := by
  unfold takeAcyc
  dsimp only
  split
  · exact .ite ((modFe_fesOnly _ _ _).trans (checkUserArea_fesOnly _ _)) (modFe_fesOnly _ _ _)
  · exact modFe_fesOnly _ _ _
  · exact modFe_fesOnly _ _ _

theorem closeSupply_fesOnly (s : State) (n : Nat) : fesOnly s (closeSupply s n) := .ite (modFe_fesOnly _ _ _) .same

theorem takeUpstream_fesOnly (s : State) (n w : Nat) : fesOnly s (takeUpstream s n w) := modFe_fesOnly s n _

theorem badUpstream_fesOnly (s : State) (n : Nat) : fesOnly s (badUpstream s n) := rfl

theorem takeDownstream_fesOnly (s : State) (n w : Nat) : fesOnly s (takeDownstream s n w) := by
  unfold takeDownstream
  exact keepsOn.trans (modFe_fesOnly s n _) (takeAcyc_fesOnly _ n w)

theorem badDownstream_fesOnly (s : State) (n : Nat) : fesOnly s (badDownstream s n) := modFe_fesOnly s n _

/-- A front-end armed again. -/
theorem rearmed_fesOnly (s : State) (n : Nat) (g : FrontEnd → FrontEnd) :
    fesOnly s (post (raise (modFe s n g) Reg.fchFlags n 4) .feRearmed n n 0 0) :=
  .after (post_fch ..) (modFe_fesOnly s n g)

theorem exchangeDown_fesOnly (e : Nat) (s : State) (n : Nat) : fesOnly s (exchangeDown e s n) := by
  have hgate : fesOnly s (closeSupply (refresh s n) n) := (refresh_fesOnly s n).trans (closeSupply_fesOnly _ _)
  unfold exchangeDown
  dsimp only
  generalize closeSupply (refresh s n) n = s1 at hgate ⊢
  refine hgate.trans ?_
  generalize hs2 : modFe s1 n _ = s2
  have hset : fesOnly s1 s2 := hs2 ▸ modFe_fesOnly s1 n _
  have hdown {p : Prop} [Decidable p] (w : Nat) : fesOnly s1 (if p then takeDownstream s2 n w else badDownstream s2 n) :=
    hset.trans (.ite (takeDownstream_fesOnly s2 n w) (badDownstream_fesOnly s2 n))
  exact .ite ((hdown _).trans (rearmed_fesOnly _ n _)) (hdown _)

theorem exchange_fesOnly (up down : Nat) (s : State) (n : Nat) : fesOnly s (exchange up down s n) := by
  have htaken {p : Prop} [Decidable p] (w : Nat) : fesOnly s (if p then takeUpstream s n w else badUpstream s n) :=
    .ite (takeUpstream_fesOnly s n w) (badUpstream_fesOnly s n)
  unfold exchange
  dsimp only
  exact .ite .same (.ite ((htaken _).trans (feFailure_fesOnly _ _)) ((htaken _).trans (exchangeDown_fesOnly _ _ _)))

theorem applyMeasure_fesOnly (s : State) (m : FeMeasure) : fesOnly s (applyMeasure s m) := by
  have hend (u : State) (c : Nat) (x : FieldClaim) {p : Prop} [Decidable p] : fesOnly u (freeNext (if p then setClaim u c x else u)) :=
    .after (freeNext_changes _).fch_eq (.ite .same .same)
  unfold applyMeasure
  dsimp only
  exact .ite .same ((modFe_fesOnly s _ _).trans (hend _ _ _))

/-- What a closing synchroscope sets, refreshes and reports. -/
theorem syncStep_fesOnly (s : State) (g : Sync → Sync) (c n : Nat) (e : Event) (i x y z : Nat) :
    fesOnly s (post (gmuRaise (refresh (modSync s g) c) n) e i x y z) :=
  .after (post_fch ..) (keepsOn.trans (t := refresh (modSync s g) c) (keepsOn.trans (t := modSync s g) .same (refresh_fesOnly _ _)) .same)

theorem syncAbort_fesOnly (s : State) (r : Nat) : fesOnly s (syncAbort s r) := syncStep_fesOnly s _ _ 3 _ _ _ _ _

theorem closeNow_fesOnly (s : State) (dead : Bool) : fesOnly s (closeNow s dead) := syncStep_fesOnly s _ _ 2 _ _ _ _ _

theorem deadBusFrame_fesOnly (s : State) : fesOnly s (deadBusFrame s) :=
  .ite (.ite (syncAbort_fesOnly _ _) (.ite (syncAbort_fesOnly _ _) (.ite (closeNow_fesOnly _ _) .same))) .same

theorem deadBusFrame_frame (s : State) : (deadBusFrame s).fch.frame = s.fch.frame := (congrArg Field.frame (deadBusFrame_fesOnly s) :)

/-- A coupler frame counts the frame number on. -/
theorem coupleAll_frame (ms : List FeMeasure) (s : State) : (coupleAll ms s).fch.frame = s.fch.frame + 1 := by
  have hgrants : fesOnly s (grantsTakeEffect s) := .foldl (fun t r => .after (onLogicGrant_changes t r).fch_eq .same) .same
  have hmeasured : fesOnly s (ms.foldl applyMeasure (grantsTakeEffect s)) := .foldl applyMeasure_fesOnly hgrants
  unfold coupleAll
  dsimp only
  generalize ms.foldl applyMeasure (grantsTakeEffect s) = s1 at hmeasured ⊢
  have hexchanged : fesOnly s ((framedFes s1 ms).foldl (fun t n => exchange (errorsOf s1 ms n).1 (errorsOf s1 ms n).2 t n) s1) :=
    .foldl (fun t n => exchange_fesOnly _ _ t n) hmeasured
  generalize (framedFes s1 ms).foldl (fun t n => exchange (errorsOf s1 ms n).1 (errorsOf s1 ms n).2 t n) s1 = s2 at hexchanged ⊢
  have hframe : s2.fch.frame = s.fch.frame := (congrArg Field.frame hexchanged :)
  have hrest (u : State) : (copyGmuState (copyClaims (deadBusFrame (genTripFrame u)))).fch.frame = u.fch.frame := by
    rw [(copyGmuState_changes _).fch_eq, (copyClaims_changes _).fch_eq, deadBusFrame_frame, (genTripFrame_changes u).fch_eq]
  exact (hrest _).trans (congrArg (· + 1) hframe)

/-! ## Frames and their CRC -/

theorem crc8Bits_lt (n c : Nat) (h : c < 256) : crc8Bits n c < 256 := by
  induction n generalizing c with
  | zero => exact h
  | succ n ih =>
    refine ih _ ?_
    have hmod : c * 2 % 256 < 2 ^ 8 := Nat.mod_lt _ (by decide)
    split
    · exact Nat.xor_lt_two_pow hmod (by decide)
    · exact hmod

/-- A fold over bytes that a step keeps below 256. -/
theorem foldl_xor_lt {f : Nat → Nat} (hf : ∀ c < 256, f c < 256) (bs : List Nat) (h : ∀ b ∈ bs, b < 256) (c : Nat) (hc : c < 256) :
    bs.foldl (fun c b => f (c ^^^ b)) c < 256 := by
  induction bs generalizing c with
  | nil => exact hc
  | cons b bs ih =>
    have hb : b < 2 ^ 8 := h b (List.mem_cons_self ..)
    exact ih (fun x hx => h x (List.mem_cons_of_mem _ hx)) _ (hf _ (Nat.xor_lt_two_pow (n := 8) hc hb))

theorem crc8_lt (bs : List Nat) (h : ∀ b ∈ bs, b < 256) : crc8 bs < 256 := by
  unfold crc8
  exact foldl_xor_lt (crc8Bits_lt 8) bs h _ (by decide)

theorem frameCrc_lt (w : Nat) : frameCrc w < 256 := by
  refine crc8_lt _ fun b hb => ?_
  simp only [List.mem_cons, List.not_mem_nil, or_false] at hb
  have hbyte (i : Nat) : byteOf w i < 256 := Nat.mod_lt _ (by decide)
  rcases hb with rfl | rfl | rfl | rfl | rfl | rfl | rfl <;> exact hbyte _

/-- A frame's CRC is over its upper bytes. -/
theorem frameCrc_congr {v w : Nat} (h : v / 256 = w / 256) : frameCrc v = frameCrc w := by
  have hbyte (i : Nat) : byteOf v (i + 1) = byteOf w (i + 1) := by
    have hshift (n : Nat) : n >>> (8 * (i + 1)) = (n / 256) >>> (8 * i) := by
      rw [Nat.mul_succ, Nat.add_comm, Nat.shiftRight_add, Nat.shiftRight_eq_div_pow n 8]
    rw [byteOf, byteOf, hshift, hshift, h]
  unfold frameCrc
  rw [hbyte 6, hbyte 5, hbyte 4, hbyte 3, hbyte 2, hbyte 1, hbyte 0]

theorem withFrameCrc_div (w : Nat) : withFrameCrc w / 256 = w / 256 := by
  have hlt := frameCrc_lt w
  unfold withFrameCrc
  omega

theorem withFrameCrc_mod (w : Nat) : withFrameCrc w % 256 = frameCrc w := by
  have hlt := frameCrc_lt w
  unfold withFrameCrc
  omega

/-- A frame with its CRC is good where its upper bits are the sequence number. -/
theorem frameGood_withFrameCrc {w seq : Nat} (h : w / 2 ^ 60 = seq) : frameGood (withFrameCrc w) seq = true := by
  have hcrc : frameCrc (withFrameCrc w) = withFrameCrc w % 256 := (frameCrc_congr (withFrameCrc_div w)).trans (withFrameCrc_mod w).symm
  have hseq : withFrameCrc w / 2 ^ 60 = seq := by
    have hdiv := withFrameCrc_div w
    omega
  rw [frameGood, decide_eq_true hcrc, decide_eq_true hseq]
  rfl

/-- The operation of an isolated-side access as a downstream frame carries it. -/
def acycBits (f : FrontEnd) : Nat :=
  match acycByteAt f with
  | some (write, a, b) => (if write then 1 else 2) * 2 ^ 56 + a % 4096 * 2 ^ 28 + (if write then b.toNat else 0) * 2 ^ 20
  | none => 0

theorem downstreamWord_eq (s : State) (n arm demand : Nat) : downstreamWord s n arm demand
    = withFrameCrc (s.fch.frame % 16 * 2 ^ 60 + arm * 2 ^ 58 + demand * 2 ^ 40 + acycBits (fe s n) + s.fch.frame % 4096 * 2 ^ 8) := rfl

theorem acycBits_lt (f : FrontEnd) : acycBits f < 2 * 2 ^ 56 + 2 ^ 40 := by
  unfold acycBits
  split
  · next write a b _ =>
    have hb : b.toNat < 256 := b.isLt
    have ha : a % 4096 < 4096 := Nat.mod_lt _ (by decide)
    have hop : (if write then 1 else 2 : Nat) ≤ 2 := by split <;> decide
    have hbyte : (if write then b.toNat else 0 : Nat) < 256 := by split <;> omega
    calc (if write then 1 else 2) * 2 ^ 56 + a % 4096 * 2 ^ 28 + (if write then b.toNat else 0) * 2 ^ 20
        ≤ 2 * 2 ^ 56 + 4095 * 2 ^ 28 + 255 * 2 ^ 20 := by gcongr <;> omega
      _ < 2 * 2 ^ 56 + 2 ^ 40 := by decide
  · decide

theorem downstreamWord_good (s : State) (n arm demand : Nat) (harm : arm < 4) (hdemand : demand < 65536) :
    frameGood (downstreamWord s n arm demand) (s.fch.frame % 16) = true := by
  have hacyc := acycBits_lt (fe s n)
  rw [downstreamWord_eq]
  refine frameGood_withFrameCrc ?_
  omega

/-! ## Supplies of the groups -/

/-- What the front-ends drive. -/
def drives (x : Field) (n : Nat) : BitVec 16 := (storeGet (fun _ => {}) x.fes n).driven

theorem modFe_drives (s : State) (c : Nat) {g : FrontEnd → FrontEnd} (hg : (g (fe s c)).driven = (fe s c).driven) :
    keepsOn State.fch drives s (modFe s c g) := by
  refine funext fun n => ?_
  change (fe (modFe s c g) n).driven = (fe s n).driven
  by_cases hn : n = c
  · rw [hn, fe_modFe, hg]
  · rw [fe_modFe_ne s g hn]

theorem withdrawC1_drives (s : State) (c : Nat) (why : Reason) : keepsOn State.fch drives s (withdrawC1 s c why) := by
  have hrefuse (u : State) (r : Request) : keepsOn State.fch drives u (refuseRequest u r why) := by
    have hlog : keepsOn State.fch drives u (logRequest (countUp (raise u Reg.grdFlags 0 1) Reg.grdSnapRef 0) r .refused why 0) :=
      .after (logRequest_changes _ _ _ _ _).fch_eq .same
    unfold refuseRequest
    dsimp only
    refine .ite (.after (concludeOther_changes _ _ _ _).fch_eq (hlog.trans (modFe_drives _ _ ?_))) hlog
    rfl
  unfold withdrawC1
  split
  · exact keepsOn.same.update.trans (hrefuse _ _)
  · exact .same

/-- A channel's loss of its supply. -/
def supplyLost (s : State) (c : Nat) : State :=
  let s1 := setClaim (withdrawC1 s c .supplyMissing) c {}
  if (fe s1 c).granted = 0 ∧ (fe s1 c).driven = 0 then s1
  else modFe s1 c (fun f => { f with granted := 0, driven := 0, supplyClosed := false })

theorem groupLoss_eq (s : State) (g : Nat) : groupLoss s g = (groupChannels g).foldl supplyLost s := rfl

theorem supplyLost_driven (s : State) (c : Nat) : (fe (supplyLost s c) c).driven = 0 := by
  unfold supplyLost
  dsimp only
  split
  · next h => exact h.2
  · rw [fe_modFe]

/-- What is off stays off as another channel loses its supply. -/
theorem supplyLost_off {s : State} {n : Nat} (c : Nat) (h : (fe s n).driven = 0) : (fe (supplyLost s c) n).driven = 0 := by
  by_cases hn : n = c
  · exact hn ▸ supplyLost_driven s n
  have hkept : (fe (setClaim (withdrawC1 s c .supplyMissing) c {}) n).driven = 0 := (congrFun (withdrawC1_drives s c .supplyMissing) n).trans h
  unfold supplyLost
  dsimp only
  split
  · exact hkept
  · rw [fe_modFe_ne _ _ hn]
    exact hkept

/-- A group's loss of its supply turns its outputs off. -/
theorem groupLoss_driven (s : State) (g n : Nat) (hn : n ∈ groupChannels g) : (fe (groupLoss s g) n).driven = 0 := by
  have hfold (cs : List Nat) (u : State) (h : n ∈ cs ∨ (fe u n).driven = 0) : (fe (cs.foldl supplyLost u) n).driven = 0 := by
    induction cs generalizing u with
    | nil => exact h.resolve_left List.not_mem_nil
    | cons c cs ih =>
      refine ih (supplyLost u c) ?_
      rcases h with hmem | h0
      · rcases List.mem_cons.mp hmem with rfl | hrest
        · exact .inr (supplyLost_driven u _)
        · exact .inl hrest
      · exact .inr (supplyLost_off c h0)
  exact groupLoss_eq s g ▸ hfold _ s (.inl hn)

theorem supplyLost_fesOnly (s : State) (c : Nat) : fesOnly s (supplyLost s c) := by
  have hlost : fesOnly s (setClaim (withdrawC1 s c .supplyMissing) c {}) := (withdrawC1_fesOnly s c _).trans .same
  exact .ite hlost (hlost.trans (modFe_fesOnly _ _ _))

/-- A group enters a state of its supply. -/
theorem enterSupply_group (s : State) (g : Nat) (x : Group) (st : Supply) : group (enterSupply s g x st) g = { x with supply := st } := by
  have hpost (u : State) (h : u.fch = (setGroup s g { x with supply := st }).fch) (e : Event) (v : Nat) :
      group (post u e g g v 0) g = { x with supply := st } := by
    rw [group, post_fch, h]
    exact group_setGroup s g _
  cases st with
  | ok => exact hpost _ rfl _ _
  | low => exact hpost (raise (setGroup s g { x with supply := .low }) Reg.fgrpFlags g 0) rfl _ _
  | missing =>
    have hloss (u : State) : fesOnly u (groupLoss u g) := .foldl supplyLost_fesOnly .same
    exact (group_of_fesOnly (hloss _) g).trans (hpost (raise (setGroup s g { x with supply := .missing }) Reg.fgrpFlags g 1) rfl _ _)
  | high => exact hpost (raise (setGroup s g { x with supply := .high }) Reg.fgrpFlags g 3) rfl _ _

/-- The areas that the grant gate, its claims and a posted event can change: none is a flag of the field channels or their groups. -/
def gateAreas : List Area :=
  [.unit .fch, .unit .grd, .unit .cmd, .unit .sbk, .ctr Reg.grdSnapRef, .flag Reg.cmdFlags 4, .flag Reg.grdFlags 1, .flag Reg.grdFlags 3]

/-- A group whose supply is lost is flagged. -/
theorem enterSupply_missing_flagged (s : State) (g : Nat) (x : Group) : flaggedAt s (enterSupply s g x .missing) Reg.fgrpFlags g 1 :=
  flaggedAt_of_raise (u := setGroup s g { x with supply := .missing }) (w := gateAreas) (by decide) rfl
    (.after (groupLoss_changes _ g) (.after (post_changes _ _ _ _ _ _) .same))

/-- The group's figures with a sample of its supply. -/
def sampledGroup (x : Group) (v : Nat) : Group :=
  { x with
    lowRun := if v < 320 then x.lowRun + 1 else 0
    highRun := if 384 ≤ v then x.highRun + 1 else 0
    samples := (v :: x.samples).take 20 }

theorem exec_groupSupplySample_missing {g : Fin 12} (v : BitVec 10) {s : State} (h : (group s g.val).supply = .missing) :
    exec (.groupSupplySample g v) s = .next (setGroup s g.val (sampledGroup (group s g.val) v.toNat)) := if_pos h

/-- A group whose supply is there takes the figures of a sample. -/
def sampleTaken (s : State) (g : Nat) (x : Group) : Host.Outcome State Fault Refusal :=
  if 40 ≤ x.lowRun then .next (enterSupply s g x .missing)
  else match supplyByAverage x.samples with
    | some st => if st = (group s g).supply then .next (setGroup s g x) else .next (enterSupply s g x st)
    | none => .next (setGroup s g x)

theorem exec_groupSupplySample_present {g : Fin 12} (v : BitVec 10) {s : State} (h : (group s g.val).supply ≠ .missing) :
    exec (.groupSupplySample g v) s = sampleTaken s g.val (sampledGroup (group s g.val) v.toNat) := if_neg h

theorem sampleTaken_samples (s : State) (g : Nat) (x : Group) : ∃ t, sampleTaken s g x = .next t ∧ (group t g).samples = x.samples := by
  unfold sampleTaken
  split
  · refine ⟨_, rfl, ?_⟩
    rw [enterSupply_group]
  split
  · split <;> refine ⟨_, rfl, ?_⟩
    · rw [group_setGroup]
    · rw [enterSupply_group]
  · refine ⟨_, rfl, ?_⟩
    rw [group_setGroup]

/-- A group that has been below 16.0 V for 40 samples loses its supply. -/
theorem exec_groupSupplySample_lost {g : Fin 12} {v : BitVec 10} {s : State} (h : (group s g.val).supply ≠ .missing) (hv : v.toNat < 320)
    (hrun : 39 ≤ (group s g.val).lowRun) :
    exec (.groupSupplySample g v) s = .next (enterSupply s g.val (sampledGroup (group s g.val) v.toNat) .missing) := by
  have hlow : (sampledGroup (group s g.val) v.toNat).lowRun = (group s g.val).lowRun + 1 := if_pos hv
  exact (exec_groupSupplySample_present v h).trans (if_pos (by omega))

/-! ## O21 -/

/-- The supply of a group that returns. -/
def returned (x : Group) : Supply :=
  match supplyByAverage x.samples with
  | some .high => .high
  | _ => .ok

theorem returned_ne_missing (x : Group) : returned x ≠ .missing := by
  unfold returned
  split <;> decide

/-- The state in which a group's supply has returned. -/
def supplyReturned (s : State) (g : Nat) : State :=
  refreshAll ((groupChannels g).foldl armClaims
    (enterSupply (post (raise s Reg.fgrpFlags g 2) .fsupReturn g g (groupVolt (group s g)) 0) g (group s g) (returned (group s g)))) (groupChannels g)

theorem exec_fsupReturn {g : Fin 12} {s : State} (h : (group s g.val).supply = .missing) (hrun : 2000 ≤ (group s g.val).highRun) :
    exec (.fsupReturn g) s = .next (supplyReturned s g.val) :=
  if_pos (by rw [h, decide_eq_true hrun]; rfl)

/-- What follows the return of a supply sets claims and the gate. -/
theorem rearm_gateOnly (s : State) (cs : List Nat) : gateOnly s (refreshAll (cs.foldl armClaims s) cs) :=
  keepsOn.trans (.foldl armClaims_gateOnly .same) (refreshAll_gateOnly _ _)

theorem supplyReturned_group (s : State) (g : Nat) : (group (supplyReturned s g) g).supply = returned (group s g) :=
  (congrArg Group.supply (group_of_fesOnly (rearm_gateOnly _ (groupChannels g)).fesOnly g)).trans (congrArg Group.supply (enterSupply_group ..))

theorem supplyReturned_flagged (s : State) (g : Nat) : flaggedAt s (supplyReturned s g) Reg.fgrpFlags g 2 := by
  have harm (u : State) (cs : List Nat) : changesOnly [.unit .grd] u (cs.foldl armClaims u) := by
    induction cs generalizing u with
    | nil => exact .same
    | cons c cs ih => exact .trans (armClaims_changes u c) (ih _)
  exact flaggedAt_of_raise (u := s) (w := .flag Reg.fgrpFlags 0 :: .flag Reg.fgrpFlags 1 :: .flag Reg.fgrpFlags 3 :: gateAreas) (by decide) rfl
    (.after (refreshAll_changes _ _) (.after (harm _ _) (.after (enterSupply_changes _ _ _ _) (.after (post_changes _ _ _ _ _ _) .same))))

/-- The start of a front-end that has been reconfigured. -/
def reconfigured (s : State) (c : Nat) : State :=
  modFe (checkFactory s c) c (fun f => { f with
    reconfiguring := false
    state := if f.state = .failed then .failed else armedState (checkFactory s c) c
    safeCounts := BitVec.ofNat 16 (safeSetting s c) })

theorem exec_feReconfigDone {n : Fin 216} {s : State} (h : (fe s (channelOf s n.val)).reconfiguring = true) :
    exec (.feReconfigDone n) s
      = .next (refresh (armClaims (reconfigured s (channelOf s n.val)) (channelOf s n.val)) (channelOf s n.val)) := if_pos h

theorem fe_reconfigured (s : State) (c : Nat) : fe (reconfigured s c) c = { fe (checkFactory s c) c with
    reconfiguring := false
    state := if (fe s c).state = .failed then .failed else armedState (checkFactory s c) c
    safeCounts := BitVec.ofNat 16 (safeSetting s c) } := by
  have hstate : (fe (checkFactory s c) c).state = (fe s c).state :=
    (congrArg FrontEnd.state (fe_modFe s c (fun f => { f with factoryValid := factoryOk s c })) :)
  rw [reconfigured, fe_modFe, hstate]

/-- A front-end whose window access got no answer. -/
def windowSilent (s : State) (c : Nat) : State :=
  setReg (modFe s c (fun f => { f with acyc := f.acyc.tail, acycDone := 0, silent := true })) Reg.fchIdxData 0 0xFFFFFFFF#32

theorem exec_feWindowTimeout (n : Fin 216) (s : State) :
    exec (.feWindowTimeout n) s = .next (raise (windowSilent s (channelOf s n.val)) Reg.fchFlags (channelOf s n.val) 1) := rfl

theorem windowSilent_flagged (s : State) (c : Nat) : flaggedAt s (raise (windowSilent s c) Reg.fchFlags c 1) Reg.fchFlags c 1 :=
  raise_flaggedAt (windowSilent s c) Reg.fchFlags c 1 (by decide)

theorem windowSilent_silent (s : State) (c : Nat) : (fe (windowSilent s c) c).silent = true :=
  (congrArg FrontEnd.silent (fe_modFe s c (fun f => { f with acyc := f.acyc.tail, acycDone := 0, silent := true })) :)

theorem windowSilent_idxData (s : State) (c : Nat) : reg (raise (windowSilent s c) Reg.fchFlags c 1) Reg.fchIdxData 0 = 0xFFFFFFFF#32 :=
  ((raise_changes (windowSilent s c) Reg.fchFlags c 1).reg_eq (a := Reg.fchIdxData) (fun _ => rfl) 0).trans (reg_setReg _ _ _ _)

/-- Settles O21: frames leave what is not of the front-ends, supplies follow their samples, and a start leaves all but the gate. -/
theorem framesAndFieldSupplies : Obligations.FramesAndFieldSupplies := by
  refine ⟨fun ms s => ⟨coupleAll ms s, rfl, coupleAll_frame ms s⟩, downstreamWord_good, fun n s h => ⟨_, if_pos h, ?_, raise_flaggedAt _ _ _ _ (by decide)⟩,
    fun n s => ⟨_, exec_feWindowTimeout n s, windowSilent_idxData s _, windowSilent_silent s _, windowSilent_flagged s _⟩, fun g v s => ?_,
    fun g s h hrun => ⟨_, exec_fsupReturn h hrun, supplyReturned_group s g.val ▸ returned_ne_missing _, supplyReturned_flagged s g.val⟩,
    fun g s h => if_neg ?_, fun n s h => ⟨_, exec_feReconfigDone h, ?_⟩, fun n x s => ⟨_, rfl, congrArg FrontEnd.temperature (fe_modFe ..)⟩⟩
  · rw [fe_raise, fe_modFe]
  · by_cases h : (group s g.val).supply = .missing
    · refine ⟨_, exec_groupSupplySample_missing v h, congrArg Group.samples (group_setGroup ..), fun _ => ?_, fun hn => absurd h hn⟩
      rw [group_setGroup]
      exact h
    · by_cases hlost : v.toNat < 320 ∧ 39 ≤ (group s g.val).lowRun
      · refine ⟨_, exec_groupSupplySample_lost h hlost.1 hlost.2, congrArg Group.samples (enterSupply_group ..), fun hm => absurd hm h, fun _ _ _ => ?_⟩
        exact ⟨congrArg Group.supply (enterSupply_group ..), enterSupply_missing_flagged .., fun k hk => groupLoss_driven _ _ k hk⟩
      · obtain ⟨t, ht, hsamples⟩ := sampleTaken_samples s g.val (sampledGroup (group s g.val) v.toNat)
        exact ⟨t, (exec_groupSupplySample_present v h).trans ht, hsamples, fun hm => absurd hm h, fun _ hv hrun => absurd ⟨hv, hrun⟩ hlost⟩
  · rw [Bool.and_eq_true_iff, decide_eq_true_iff, decide_eq_true_iff]
    rintro ⟨hm, hrun⟩
    rcases h with h | h
    · exact h hm
    · omega
  · have hkept := gateOnly.fe_eq ((armClaims_gateOnly (reconfigured s (channelOf s n.val)) (channelOf s n.val)).trans
      (refresh_gateOnly _ (channelOf s n.val))) (channelOf s n.val)
    rw [fe_reconfigured] at hkept
    exact ⟨(congrArg FrontEnd.reconfiguring hkept :), (congrArg FrontEnd.state hkept :), (congrArg FrontEnd.safeCounts hkept :)⟩

end Sys2Proof
end

section
/-! PROOFS. Digital inputs, digital outputs and pulse channels (O22). -/
namespace Sys2Proof
open Sys2Proof.Machine

set_option Elab.async false

/-! ## Front-ends after the operations of a digital output -/

@[simp] theorem fe_markAbove (s : State) (g n : Nat) : fe (markAbove s g) n = fe s n := fe_congr (markAbove_changes s g).fch_eq n

@[simp] theorem fe_checkOverpeak (s : State) (g n : Nat) : fe (checkOverpeak s g) n = fe s n := fe_congr (checkOverpeak_changes s g).fch_eq n

@[simp] theorem fe_feFault (s : State) (c n : Nat) : fe (feFault s c) n = fe s n := rfl

@[simp] theorem fe_freeNext (s : State) (n : Nat) : fe (freeNext s) n = fe s n := fe_congr (freeNext_changes s).fch_eq n

theorem freeRound_exact (s : State) (k : Nat) {n d : Nat} (h : n % d = 0) : freeRound s k n d = n / d := if_pos h

theorem exec_doOverload {c : Fin 192} {s : State} (h : evaluatesDo s c.val = true) (hon : (fe s c.val).driven = 1) :
    ∃ t, exec (.doOverload c) s = .next t ∧ fe t c.val = { fe s c.val with limit := true, short := true } := by
  have hcond : (evaluatesDo s c.val && decide ((fe s c.val).driven = 1)) = true := by rw [h, decide_eq_true hon]; rfl
  have hset : fe (modFe s c.val (fun f => { f with limit := true, short := true })) c.val = { fe s c.val with limit := true, short := true } := fe_modFe ..
  change ∃ t, execDoOverload c s = .next t ∧ _
  unfold execDoOverload
  dsimp only
  rw [if_pos hcond]
  split
  · exact ⟨_, rfl, (fe_checkOverpeak ..).trans ((fe_markAbove ..).trans hset)⟩
  · exact ⟨_, rfl, hset⟩

/-- A switch that opens after 5 ms in limit. -/
def latchedOffSet (s : State) (c : Nat) : State :=
  modFe s c (fun f => { f with limit := false, short := true, latchedShort := true, latchedOff := true, granted := 0, driven := 0 })

/-- The latch-off of a digital output, before it may be its last. -/
def doLatched (s : State) (c : Nat) : State :=
  post (countUp (feFault (markAbove (setClaim (latchedOffSet s c) c {}) (groupOf c)) c) Reg.fchSnapShorts c) .doLatchoff c c (fe s c).retries 0

theorem fe_doLatched (s : State) (c : Nat) : fe (doLatched s c) c
    = { fe s c with limit := false, short := true, latchedShort := true, latchedOff := true, granted := 0, driven := 0 } := by
  unfold doLatched
  rw [fe_post, fe_countUp, fe_feFault, fe_markAbove, fe_setClaim, latchedOffSet, fe_modFe]

theorem exec_doLatchoff {c : Fin 192} {s : State} (h : evaluatesDo s c.val = true) (hlimit : (fe s c.val).limit = true) :
    exec (.doLatchoff c) s = .next (if cfgField s Reg.fchDocfg c.val 3 0 ≤ (fe s c.val).retries then
      post (feFault (modFe (doLatched s c.val) c.val (fun f => { f with failed := true })) c.val) .doFailed c.val c.val (fe s c.val).retries 0
      else doLatched s c.val) := by
  have hcond : (evaluatesDo s c.val && (fe s c.val).limit) = true := by rw [h, hlimit]; rfl
  refine (if_pos hcond).trans ?_
  split <;> rfl

theorem claimOf_markAbove (s : State) (g c : Nat) : claimOf (markAbove s g) c = claimOf s c := by
  unfold markAbove
  dsimp only
  split <;> rfl

theorem claimOf_congr {s t : State} (h : t.grd = s.grd) (c : Nat) : claimOf t c = claimOf s c := by rw [claimOf, h, claimOf]

theorem claimOf_post (s : State) (e : Event) (i x y z c : Nat) : claimOf (post s e i x y z) c = claimOf s c := claimOf_congr (post_grd ..) c

theorem claimOf_countUp (s : State) (a i c : Nat) : claimOf (countUp s a i) c = claimOf s c := rfl

theorem claimOf_modFe (s : State) (n : Nat) (g : FrontEnd → FrontEnd) (c : Nat) : claimOf (modFe s n g) c = claimOf s c := rfl

theorem claimOf_feFault (s : State) (n c : Nat) : claimOf (feFault s n) c = claimOf s c := rfl

theorem claimOf_setClaim_same (s : State) (c : Nat) (x : FieldClaim) : claimOf (setClaim s c x) c = x := storeGet_storeSet _ _ _ _

theorem claimOf_doLatched (s : State) (c : Nat) : claimOf (doLatched s c) c = {} := by
  unfold doLatched
  rw [claimOf_post, claimOf_countUp, claimOf_feFault, claimOf_markAbove, claimOf_setClaim_same]

/-- A retry of a digital output that a latch-off has opened. -/
theorem exec_doRetry {c : Fin 192} {s : State} (h : evaluatesDo s c.val = true) (hoff : (fe s c.val).latchedOff = true)
    (hf : (fe s c.val).failed = false) (hb : (fe s c.val).broken = false) (hcmd : commanded s c.val = 1) : exec (.doRetry c) s
      = .next (refresh (raise (modFe s c.val (fun f => { f with latchedOff := false, retries := f.retries + 1 })) Reg.fchFlags c.val 2) c.val) :=
  if_pos (by rw [h, hoff, hf, hb, decide_eq_true hcmd]; rfl)

/-- A refresh leaves what the gate does not set. -/
theorem fe_refresh (s : State) (c n : Nat) : ungated (fe (refresh s c) n) = ungated (fe s n) := gateOnly.fe_eq (refresh_gateOnly s c) n

/-! ## Mismatches -/

/-- A mismatch of a digital output, before its report. -/
def mismatched (s : State) (c : Nat) (high : Bool) : State :=
  feFault (modFe s c (fun f => if high then { f with misHigh := true, failed := true } else { f with misLow := true, failed := true })) c

theorem fe_mismatched (s : State) (c : Nat) (high : Bool) : fe (mismatched s c high) c
    = if high then { fe s c with misHigh := true, failed := true } else { fe s c with misLow := true, failed := true } :=
  (fe_feFault _ _ _).trans (fe_modFe s c _)

theorem exec_doMismatch_high {c : Fin 192} {s : State} (ho : owner s = true) (hm : modeOf s c.val = 5) (hoff : (fe s c.val).driven = 0)
    (hcomp : (fe s c.val).comp = true) : exec (.doMismatch c true) s = .next
      (if 20 < (fe s c.val).auxNow.toNat then
        feFailure (refresh (post (mismatched s c.val true) .mismatchHigh c.val c.val (fe s c.val).auxNow.toNat 0) c.val) c.val
       else refresh (post (mismatched s c.val true) .mismatchHigh c.val c.val (fe s c.val).auxNow.toNat 0) c.val) := by
  have hdo : ¬ (!(owner s && decide (modeOf s c.val = 5))) = true := by rw [ho, decide_eq_true hm]; decide
  have hon : ((fe s c.val).comp && decide ((fe s c.val).driven = 0)) = true := by rw [hcomp, decide_eq_true hoff]; rfl
  refine (if_neg hdo).trans ((if_pos rfl).trans ((if_pos hon).trans ?_))
  split <;> rfl

theorem exec_doMismatch_low {c : Fin 192} {s : State} (ho : owner s = true) (hm : modeOf s c.val = 5) (hon : (fe s c.val).driven = 1)
    (hshort : (fe s c.val).short = false) (hcomp : (fe s c.val).comp = false) (hsupply : (group s (groupOf c.val)).supply ≠ .missing) :
    exec (.doMismatch c false) s
      = .next (refresh (post (mismatched s c.val false) .mismatchLow c.val c.val (fe s c.val).auxNow.toNat 0) c.val) := by
  have hdo : ¬ (!(owner s && decide (modeOf s c.val = 5))) = true := by rw [ho, decide_eq_true hm]; decide
  have hoff : (decide ((fe s c.val).driven = 1) && !(fe s c.val).comp && !(fe s c.val).short
      && decide ((group s (groupOf c.val)).supply ≠ .missing)) = true := by
    rw [decide_eq_true hon, hcomp, hshort, decide_eq_true hsupply]
    rfl
  exact (if_neg hdo).trans ((if_neg Bool.false_ne_true).trans (if_pos hoff))

/-- A channel's MISMATCH_HIGH and FAILED. -/
def highFaults (f : FrontEnd) : Bool × Bool := (f.misHigh, f.failed)

/-- The MISMATCH_HIGH and FAILED of all channels. -/
abbrev faultsKept (s t : State) : Prop := keepsOn State.fch (fun x n => highFaults (storeGet (fun _ => {}) x.fes n)) s t

theorem faultsKept.of_gate {s t : State} (h : gateOnly s t) : faultsKept s t := funext fun n => (congrArg highFaults (gateOnly.fe_eq h n) :)

theorem faultsKept.fe_eq {s t : State} (h : faultsKept s t) (n : Nat) : highFaults (fe t n) = highFaults (fe s n) := congrFun h n

theorem modFe_faultsKept (s : State) (c : Nat) {g : FrontEnd → FrontEnd} (hg : highFaults (g (fe s c)) = highFaults (fe s c)) :
    faultsKept s (modFe s c g) := by
  refine funext fun n => ?_
  change highFaults (fe (modFe s c g) n) = highFaults (fe s n)
  by_cases hn : n = c
  · rw [hn, fe_modFe, hg]
  · rw [fe_modFe_ne s g hn]

theorem unlinked_faultsKept (s : State) (c : Nat) : faultsKept s (unlinked s c) := by
  unfold unlinked
  split
  · refine keepsOn.trans (modFe_faultsKept s _ ?_) (modFe_faultsKept _ c ?_) <;> rfl
  · exact .same

theorem failChannel_faultsKept (s : State) (c : Nat) : faultsKept s (failChannel s c) := by
  refine .after (p := State.fch) (raise_fch (modFe s c _) Reg.fchFlags c 0) (modFe_faultsKept s c ?_)
  rfl

theorem channelFailed_faultsKept (s : State) (c : Nat) : faultsKept s (channelFailed s c) :=
  (keepsOn.trans (.ite (faultsKept.of_gate (yieldField_gateOnly s)) .same) (unlinked_faultsKept _ c)).trans (failChannel_faultsKept _ c)

theorem channelOf_channel (s : State) {c : Nat} (h : c < 192) : channelOf s c = c := if_pos h

/-- The failure of a channel's front-end leaves the channel's latched faults. -/
theorem feFailure_faultsKept (s : State) {c : Nat} (h : c < 192) : faultsKept s (feFailure s c) := by
  have hn : ¬ (192 ≤ c ∧ (fe s c).link.isNone) := fun hc => absurd hc.1 (by omega)
  cases hb : (fe s (channelOf s c)).broken with
  | false => exact (channelFailed_faultsKept _ _).trans (faultsKept.of_gate (feFailure_of_channel hn hb))
  | true =>
    unfold feFailure
    rw [if_neg hn]
    dsimp only
    rw [if_pos hb]
    exact .same

/-- A mismatch high leaves MISMATCH_HIGH and FAILED. -/
theorem doMismatch_high_faults {c : Fin 192} {s : State} (ho : owner s = true) (hm : modeOf s c.val = 5) (hoff : (fe s c.val).driven = 0)
    (hcomp : (fe s c.val).comp = true) :
    ∃ t, exec (.doMismatch c true) s = .next t ∧ (fe t c.val).misHigh = true ∧ (fe t c.val).failed = true := by
  have hset (u : State) (hu : faultsKept (mismatched s c.val true) u) : (fe u c.val).misHigh = true ∧ (fe u c.val).failed = true := by
    have h := faultsKept.fe_eq hu c.val
    rw [fe_mismatched, if_pos rfl] at h
    exact ⟨(congrArg Prod.fst h :), (congrArg Prod.snd h :)⟩
  have hrefresh : faultsKept (mismatched s c.val true)
      (refresh (post (mismatched s c.val true) .mismatchHigh c.val c.val (fe s c.val).auxNow.toNat 0) c.val) :=
    keepsOn.trans (.after (post_fch ..) .same) (faultsKept.of_gate (refresh_gateOnly _ _))
  refine ⟨_, exec_doMismatch_high ho hm hoff hcomp, hset _ ?_⟩
  exact .ite (hrefresh.trans (feFailure_faultsKept _ c.isLt)) hrefresh

theorem doMismatch_low_faults {c : Fin 192} {s : State} (ho : owner s = true) (hm : modeOf s c.val = 5) (hon : (fe s c.val).driven = 1)
    (hshort : (fe s c.val).short = false) (hcomp : (fe s c.val).comp = false) (hsupply : (group s (groupOf c.val)).supply ≠ .missing) :
    ∃ t, exec (.doMismatch c false) s = .next t ∧ (fe t c.val).misLow = true ∧ (fe t c.val).failed = true ∧ flaggedAt s t Reg.fchFlags c.val 0 := by
  have h := fe_refresh (post (mismatched s c.val false) .mismatchLow c.val c.val (fe s c.val).auxNow.toNat 0) c.val c.val
  rw [fe_post, fe_mismatched, if_neg Bool.false_ne_true] at h
  refine ⟨_, exec_doMismatch_low ho hm hon hshort hcomp hsupply, (congrArg FrontEnd.misLow h :), (congrArg FrontEnd.failed h :), ?_⟩
  exact flaggedAt_of_raise (u := modFe s c.val _) (w := gateAreas) (by decide) rfl (.after (refresh_changes _ _) (.after (post_changes _ _ _ _ _ _) .same))

/-! ## Pulse channels -/

/-- The comparator of a pulse channel at a terminal voltage. -/
def edgeState (s : State) (n : EdgeSample) : Bool :=
  compare (thresholds s (channelOf s n.sel.val)) (fe s (channelOf s n.sel.val)).comp (calibrated s (channelOf s n.sel.val) 3 n.volt)

theorem exec_pulseEdge_same {n : EdgeSample} {s : State} (h : edgeState s n = (fe s (channelOf s n.sel.val)).comp) : exec (.pulseEdge n) s = .next s :=
  if_neg (by
    rw [Bool.and_eq_true_iff, decide_eq_true_iff]
    exact fun hc => hc.2 h)

theorem exec_pulseEdge_crossed {n : EdgeSample} {s : State} (hp : isPulse (modeOf s (channelOf s n.sel.val)) = true)
    (h : edgeState s n ≠ (fe s (channelOf s n.sel.val)).comp) : ∃ t, exec (.pulseEdge n) s = .next t
      ∧ (fe t (channelOf s n.sel.val)).comp = edgeState s n
      ∧ (fe t (channelOf s n.sel.val)).edgeCount = if edgeCounts s (channelOf s n.sel.val) (edgeState s n) then
          ((fe s (channelOf s n.sel.val)).edgeCount + 1) % 4294967296 else (fe s (channelOf s n.sel.val)).edgeCount := by
  have hcond : (isPulse (modeOf s (channelOf s n.sel.val)) && decide (edgeState s n ≠ (fe s (channelOf s n.sel.val)).comp)) = true := by
    rw [hp, decide_eq_true h]
    rfl
  refine ⟨_, if_pos hcond, ?_⟩
  rw [fe_freeNext, fe_modFe]
  exact ⟨rfl, rfl⟩

/-- The figures of a gate that its edges do not bear out. -/
def gateRefused (s : State) (c edges span : Nat) : Bool :=
  !isPulse (modeOf s c) || decide (edges ≠ (fe s c).gateEdges) || (decide (2 ≤ edges) && !(spanAgrees (fe s c) span && decide (0 < span)))

theorem gateRefused_eq {s : State} {c edges span : Nat} (hp : isPulse (modeOf s c) = true) (he : edges = (fe s c).gateEdges) :
    gateRefused s c edges span = (decide (2 ≤ edges) && !(spanAgrees (fe s c) span && decide (0 < span))) := by
  rw [gateRefused, hp, decide_eq_false (not_not_intro he)]
  rfl

/-- A gate with two edges or more whose span agrees with them gives the frequency. -/
theorem exec_freqGateEnd_counted {n : Fin 216} {edges span : Nat} {s : State} (hp : isPulse (modeOf s (channelOf s n.val)) = true)
    (he : edges = (fe s (channelOf s n.val)).gateEdges) (h2 : 2 ≤ edges) (hspan : 0 < span) (hagree : spanAgrees (fe s (channelOf s n.val)) span = true)
    (hwhole : (edges - 1) * 100000000000 % span = 0) : ∃ t, exec (.freqGateEnd n edges span) s = .next t
      ∧ (fe t (channelOf s n.val)).freqNow = (edges - 1) * 100000000000 / span % 4294967296 := by
  have hgoes : ¬ gateRefused s (channelOf s n.val) edges span = true := by
    rw [gateRefused_eq hp he, hagree, decide_eq_true hspan]
    simp
  refine ⟨_, (if_neg hgoes).trans (if_pos h2), ?_⟩
  rw [fe_freeNext, fe_modFe]
  exact congrArg (· % 4294967296) (freeRound_exact s 0 hwhole)

theorem exec_freqGateEnd_empty {n : Fin 216} {edges span : Nat} {s : State} (hp : isPulse (modeOf s (channelOf s n.val)) = true)
    (he : edges = (fe s (channelOf s n.val)).gateEdges) (h2 : edges < 2) : exec (.freqGateEnd n edges span) s = .next
      (if 10 ≤ (fe s (channelOf s n.val)).emptyGates + 1 then modFe s (channelOf s n.val) (fun f => { f with freqNow := 0, emptyGates := 0, gateEdges := 0 })
       else modFe s (channelOf s n.val) (fun f => { f with emptyGates := f.emptyGates + 1 })) := by
  have hgoes : ¬ gateRefused s (channelOf s n.val) edges span = true := by
    rw [gateRefused_eq hp he, decide_eq_false (by omega)]
    simp
  refine (if_neg hgoes).trans ((if_neg (by omega)).trans ?_)
  split <;> rfl

/-- The frequency after a gate, whatever its figures. -/
theorem exec_freqGateEnd {n : Fin 216} {edges span : Nat} {s : State} (hp : isPulse (modeOf s (channelOf s n.val)) = true)
    (he : edges = (fe s (channelOf s n.val)).gateEdges) : ∃ t, exec (.freqGateEnd n edges span) s = .next t ∧
    (2 ≤ edges → 0 < span → spanAgrees (fe s (channelOf s n.val)) span = true → (edges - 1) * 100000000000 % span = 0 →
      (fe t (channelOf s n.val)).freqNow = (edges - 1) * 100000000000 / span % 4294967296) ∧
    (edges < 2 → 9 ≤ (fe s (channelOf s n.val)).emptyGates → (fe t (channelOf s n.val)).freqNow = 0) ∧
    (edges < 2 → (fe s (channelOf s n.val)).emptyGates < 9 → (fe t (channelOf s n.val)).freqNow = (fe s (channelOf s n.val)).freqNow) := by
  by_cases h2 : edges < 2
  · refine ⟨_, exec_freqGateEnd_empty hp he h2, fun h => absurd h2 (by omega), fun _ h9 => ?_, fun _ h9 => ?_⟩
    · rw [if_pos (by omega), fe_modFe]
    · rw [if_neg (by omega), fe_modFe]
  by_cases hcounted : 0 < span ∧ spanAgrees (fe s (channelOf s n.val)) span = true ∧ (edges - 1) * 100000000000 % span = 0
  · obtain ⟨hspan, hagree, hwhole⟩ := hcounted
    obtain ⟨t, ht, hfreq⟩ := exec_freqGateEnd_counted hp he (by omega) hspan hagree hwhole
    exact ⟨t, ht, fun _ _ _ _ => hfreq, fun h => absurd h h2, fun h => absurd h h2⟩
  · obtain ⟨t, ht⟩ := everyCommandCompletes (.freqGateEnd n edges span) s
    exact ⟨t, ht, fun _ hspan hagree hwhole => absurd ⟨hspan, hagree, hwhole⟩ hcounted, fun h => absurd h h2, fun h => absurd h h2⟩

/-! ## O22 -/

/-- An open load of a digital output that looks for one. -/
theorem exec_doOpenLoad_clear {c : Fin 192} {s : State} (h : evaluatesDo s c.val = true) (hbit : bit (cfg s Reg.fchDocfg c.val) 7 = true)
    (hma : 5 ≤ (fe s c.val).aux.toNat) : exec (.doOpenLoad c false) s = .next (modFe s c.val (fun f => { f with openLoad := false })) :=
  (if_neg (by rw [h, hbit]; decide)).trans ((if_neg Bool.false_ne_true).trans (if_pos hma))

theorem exec_doOpenLoad_set {c : Fin 192} {s : State} (h : evaluatesDo s c.val = true) (hbit : bit (cfg s Reg.fchDocfg c.val) 7 = true)
    (hon : (fe s c.val).driven = 1) (hma : (fe s c.val).aux.toNat < 5) : exec (.doOpenLoad c true) s
      = .next (post (modFe s c.val (fun f => { f with openLoad := true })) .doOpenLoad c.val c.val (fe s c.val).aux.toNat 5) :=
  (if_neg (by rw [h, hbit]; decide)).trans ((if_pos rfl).trans (if_pos (by rw [decide_eq_true hon, decide_eq_true hma]; rfl)))

/-- A retry ends the latch-off, counts, and is flagged. -/
theorem doRetry_retries {c : Fin 192} {s : State} (h : evaluatesDo s c.val = true) (hoff : (fe s c.val).latchedOff = true)
    (hf : (fe s c.val).failed = false) (hb : (fe s c.val).broken = false) (hcmd : commanded s c.val = 1) : ∃ t, exec (.doRetry c) s = .next t
      ∧ (fe t c.val).latchedOff = false ∧ (fe t c.val).retries = (fe s c.val).retries + 1 ∧ flaggedAt s t Reg.fchFlags c.val 2 := by
  have hgate := fe_refresh (raise (modFe s c.val (fun f => { f with latchedOff := false, retries := f.retries + 1 })) Reg.fchFlags c.val 2) c.val c.val
  rw [fe_raise, fe_modFe] at hgate
  refine ⟨_, exec_doRetry h hoff hf hb hcmd, (congrArg FrontEnd.latchedOff hgate :), (congrArg FrontEnd.retries hgate :), ?_⟩
  exact flaggedAt_of_raise (u := modFe s c.val _) (w := gateAreas) (by decide) rfl (.after (refresh_changes _ _) .same)

/-- A latch-off opens the switch and drops its claim; after the last retry the channel is FAILED. -/
theorem doLatchoff_opens {c : Fin 192} {s : State} (h : evaluatesDo s c.val = true) (hlimit : (fe s c.val).limit = true) :
    ∃ t, exec (.doLatchoff c) s = .next t ∧ (fe t c.val).limit = false ∧ (fe t c.val).latchedOff = true ∧ (fe t c.val).driven = 0
      ∧ (fe t c.val).granted = 0 ∧ claimOf t c.val = {}
      ∧ (fe t c.val).failed = ((fe s c.val).failed || decide (cfgField s Reg.fchDocfg c.val 3 0 ≤ (fe s c.val).retries)) := by
  refine ⟨_, exec_doLatchoff h hlimit, ?_⟩
  split
  · next hlast =>
    rw [fe_post, fe_feFault, fe_modFe, fe_doLatched, claimOf_post, claimOf_feFault, claimOf_modFe, claimOf_doLatched, decide_eq_true hlast,
      Bool.or_true]
    exact ⟨rfl, rfl, rfl, rfl, rfl, rfl⟩
  · next hmore =>
    rw [fe_doLatched, claimOf_doLatched, decide_eq_false hmore, Bool.or_false]
    exact ⟨rfl, rfl, rfl, rfl, rfl, rfl⟩

/-- A pulse channel's comparator and count after an edge sample. -/
theorem pulseEdge_counts {n : EdgeSample} {s : State} (hp : isPulse (modeOf s (channelOf s n.sel.val)) = true) :
    ∃ t, exec (.pulseEdge n) s = .next t ∧ (fe t (channelOf s n.sel.val)).comp = edgeState s n ∧ (fe t (channelOf s n.sel.val)).edgeCount =
      if edgeState s n ≠ (fe s (channelOf s n.sel.val)).comp ∧ edgeCounts s (channelOf s n.sel.val) (edgeState s n) = true
      then ((fe s (channelOf s n.sel.val)).edgeCount + 1) % 4294967296 else (fe s (channelOf s n.sel.val)).edgeCount := by
  by_cases h : edgeState s n = (fe s (channelOf s n.sel.val)).comp
  · exact ⟨s, exec_pulseEdge_same h, h.symm, (if_neg fun hc => hc.1 h).symm⟩
  · obtain ⟨t, ht, hcomp, hcount⟩ := exec_pulseEdge_crossed hp h
    refine ⟨t, ht, hcomp, hcount.trans ?_⟩
    simp only [ne_eq, h, not_false_eq_true, true_and]

/-- Settles O22: each event sets what it says of its front-end, and what follows it sets the grant gate only. -/
theorem digitalChannels : Obligations.DigitalChannels := by
  refine ⟨fun n on s hd hcomp => ⟨_, if_pos (by rw [hd, decide_eq_true hcomp]; rfl), ?_⟩, fun c s h hon => ?_, fun c s h hlimit => doLatchoff_opens h hlimit,
    fun c s h hoff hf hb hcmd => doRetry_retries h hoff hf hb hcmd, fun c s ho hm hoff hcomp => doMismatch_high_faults ho hm hoff hcomp,
    fun c s ho hm hon hshort hcomp hsupply => doMismatch_low_faults ho hm hon hshort hcomp hsupply,
    fun c s h hbit => ⟨fun hma => ⟨_, exec_doOpenLoad_clear h hbit hma, ?_⟩, fun hon hma => ⟨_, exec_doOpenLoad_set h hbit hon hma, ?_⟩⟩,
    fun n s hp => ?_, fun n edges span s hp he => exec_freqGateEnd hp he⟩
  · rw [fe_modFe]
  · obtain ⟨t, ht, hfe⟩ := exec_doOverload h hon
    exact ⟨t, ht, (congrArg FrontEnd.limit hfe :), (congrArg FrontEnd.short hfe :), ((congrArg FrontEnd.driven hfe :).trans hon :)⟩
  · rw [fe_modFe]
  · rw [fe_post, fe_modFe]
  · obtain ⟨t, ht, hcomp, hcount⟩ := pulseEdge_counts hp
    exact ⟨t, ht, fun now hnow => hnow ▸ ⟨hcomp, hcount⟩⟩

end Sys2Proof
end

section
/-! PROOFS. Front-ends that fail, and the bring-in of spares (O23). -/
namespace Sys2Proof
open Sys2Proof.Machine

set_option Elab.async false

/-! ## The service state of a front-end -/

/-- What says how a front-end serves: its link, its failures and its bring-in. -/
def service (f : FrontEnd) : Option Nat × Bool × Bool × Bool × FeState := (f.link, f.failed, f.broken, f.sprouting, f.state)

theorem service_of_gate {s t : State} (h : gateOnly s t) (n : Nat) : service (fe t n) = service (fe s n) := (congrArg service (gateOnly.fe_eq h n) :)

/-- A channel without the spare that served it. -/
theorem unlinked_link (s : State) (c : Nat) : (fe (unlinked s c) c).link = none := by
  unfold unlinked
  split
  · rw [fe_modFe]
  · assumption

theorem unlinked_sprouting (s : State) (c : Nat) : (fe (unlinked s c) c).sprouting = (fe s c).sprouting := by
  unfold unlinked
  split
  · next sp _ =>
    rw [fe_modFe]
    by_cases hsp : c = sp
    · rw [← hsp, fe_modFe]
    · rw [fe_modFe_ne _ _ hsp]
  · rfl

theorem fe_failChannel (s : State) (c : Nat) : fe (failChannel s c) c = { fe s c with
    broken := true, acyc := [], acycDone := 0, lastGood := false, state := .failed, seenState := .failed, feDemand := 0 } :=
  (fe_raise ..).trans (fe_modFe ..)

/-- A channel whose front-end has failed: no spare, and failed itself. -/
theorem channelFailed_service (s : State) (c : Nat) : ∃ failed, service (fe (channelFailed s c) c) = (none, failed, true, (fe s c).sprouting, .failed) := by
  have hyield : gateOnly s (if hasStandby s then yieldField s else s) := .ite (yieldField_gateOnly s) .same
  have hsprouting : (fe (if hasStandby s then yieldField s else s) c).sprouting = (fe s c).sprouting := (congrArg FrontEnd.sprouting (gateOnly.fe_eq hyield c) :)
  unfold channelFailed
  rw [fe_failChannel]
  generalize (if hasStandby s then yieldField s else s) = u at hsprouting ⊢
  exact ⟨(fe (unlinked u c) c).failed, by rw [service, unlinked_link, unlinked_sprouting, hsprouting]⟩

/-- A channel whose front-end fails. -/
theorem feFailure_service {s : State} {c : Nat} (hc : c < 192) (hb : (fe s c).broken = false) :
    ∃ failed, service (fe (feFailure s c) c) = (none, failed, true, (fe s c).sprouting, .failed) := by
  have hch := channelOf_channel s hc
  have hn : ¬ (192 ≤ c ∧ (fe s c).link.isNone) := fun h => absurd h.1 (by omega)
  obtain ⟨failed, hfailed⟩ := channelFailed_service s c
  have hgate := feFailure_of_channel hn (hch.symm ▸ hb)
  rw [hch] at hgate
  exact ⟨failed, (service_of_gate hgate c).trans hfailed⟩

/-! ## The FAILED bit -/

/-- Bit 11 of a channel's status is its FAILED. -/
theorem channelStatus_failed {s : State} {c : Nat} (hp : showsPartner s c = false) (hf : ((fe s c).failed || (fe s c).broken && !(fe s c).sprouting) = true) :
    (channelStatus s c).testBit 11 = true := by
  have hb (b : Bool) : b2n b ≤ 1 := by cases b <;> decide
  rw [Nat.testBit_eq_decide_div_mod_eq, decide_eq_true_iff]
  unfold channelStatus
  dsimp only
  rw [hp, if_neg Bool.false_ne_true, hf, show b2n true = 1 from rfl]
  have h1 := hb (channelValid s c)
  have h2 := hb (forceOf s (.input c)).isSome
  have h3 := hb (decide (c < 192) && (fe s c).link.isSome)
  have h4 := hb (channelOver s c)
  have h5 := hb (decide ((group s (groupOf c)).supply = .low))
  have h6 := hb (decide ((fe s c).seenState = .localSafe))
  have h7 := hb ((fe s c).misHigh && !isAi (modeOf s c))
  have h8 := hb ((fe s c).misLow && !isCurrent (modeOf s c))
  have h9 := hb (channelShort s c)
  have h10 := hb (decide ((fe s c).budget = .delayed) && (isDo (modeOf s c) || isAo (modeOf s c) || decide (modeOf s c = 0x12)))
  have h11 := hb ((fe s c).openLoad && (isDo (modeOf s c) || isAo (modeOf s c)))
  omega

theorem fchStat_bit (s : State) (n k : Nat) (hk : k < 16) (h : (channelStatus s (channelOf s n)).testBit k = true) : bit (fchStat s n) k = true := by
  have hlow : (fieldWord 15 0 (channelStatus s (channelOf s n))).getLsbD k = true := by
    rw [fieldWord, BitVec.getLsbD_ofNat, decide_eq_true (by omega), Nat.shiftLeft_zero, Nat.testBit_mod_two_pow, decide_eq_true hk, h]
    rfl
  rw [bit_eq_getLsbD, fchStat, BitVec.getLsbD_or, hlow, Bool.or_true]

/-! ## Yielding -/

theorem yieldField_role {s : State} (h : hasStandby s = true) : (yieldField s).pair.role = .syncing := by
  have hactive : s.pair.role = .active := of_decide_eq_true (Bool.and_eq_true_iff.mp h).1
  unfold yieldField
  rw [if_pos hactive, (ppdRaise_changes _ 1).pair_eq]
  exact changeRole_role _ _ _

theorem failureTaken_pair (s : State) (c : Nat) : (failureTaken s c).pair = s.pair := by
  unfold failureTaken
  split
  · rw [(refresh_changes _ _).pair_eq, (exhausted_changes _ _).pair_eq]
  split
  · rw [(refresh_changes _ _).pair_eq, (queueSprout_changes _ _ _).pair_eq]
  · rw [(refresh_changes _ _).pair_eq]
    exact (queueSprout_changes s c false).pair_eq

theorem unlinked_pair (s : State) (c : Nat) : (unlinked s c).pair = s.pair := by
  unfold unlinked
  split <;> rfl

/-- An ACTIVE module with a STANDBY partner yields as a front-end in service fails. -/
theorem feFailure_role {s : State} {c : Nat} (hc : c < 192) (hb : (fe s c).broken = false) (h : hasStandby s = true) :
    (feFailure s c).pair.role = .syncing := by
  have hch := channelOf_channel s hc
  rw [feFailure_channel_eq (fun hn => absurd hn.1 (by omega)) (hch.symm ▸ hb), failureTaken_pair, (writeSproutRecord_changes _).pair_eq]
  change (unlinked (if hasStandby s then yieldField s else s) (channelOf s c)).pair.role = .syncing
  rw [unlinked_pair, if_pos h, yieldField_role h]

/-! ## Bring-ins -/

theorem dropUnserved_gateOnly (s : State) : gateOnly s (dropUnserved s) := by
  unfold dropUnserved
  exact .foldl (fun t _ => keepsOn.trans (.after (concludeAll_changes _ _ _ _ _).fch_eq (exhausted_gateOnly t 0)) (refresh_gateOnly _ _)) .same

/-- Dropping what no spare can serve leaves the bring-in that runs. -/
theorem dropUnserved_busy (s : State) : (dropUnserved s).spr.feBusy = s.spr.feBusy := by
  have hkept : keepsOn State.spr (·.feBusy) s (dropUnserved s) := by
    unfold dropUnserved
    exact .foldl (fun t _ => .after (refresh_changes _ _).spr_eq <| .after (concludeAll_changes _ _ _ _ _).spr_eq <|
      .after (exhausted_changes _ _).spr_eq .same) .same
  exact hkept

theorem askWrite_keeps_spr {β : Type} {g : Sprout → β} (hg : ∀ (x : Sprout) a, g { x with saved := a } = g x) (s : State) (w d : Nat) (p : Purpose) :
    keepsOn State.spr g s (askWrite s w d p) := by
  have hnv (t : State) (p : Purpose) : keepsOn State.spr g t (nvWrite t p) := by
    unfold nvWrite
    split
    · exact .after (storeRetain_changes t).spr_eq .same
    · exact .same
    · exact hg t.spr _
    · exact .after (storeFault_changes t).spr_eq .same
    · exact .same
    · exact .after (storeOptions_changes t).spr_eq .same
    · exact .same
  have hreq (t : State) (r : Request) : keepsOn State.spr g t (requestC2 t r) := .ite .same (.ite (keepsOn.trans .same (hnv _ _)) .same)
  exact keepsOn.trans (.ite (hnv s p) .same) (hreq _ _)

theorem sprouted_busy (s : State) : (sprouted s).spr.feBusy = s.spr.feBusy :=
  (askWrite_keeps_spr (g := (·.feBusy)) (by intros; rfl) _ 0xF 1000 .sproutRecord :)

theorem groupSpares_ge {g n : Nat} (h : n ∈ groupSpares g) : 192 ≤ n := by
  simp only [groupSpares, List.mem_cons, List.not_mem_nil, or_false] at h
  omega

theorem freeSpare_ge {s : State} {c sp : Nat} (h : freeSpare s c = some sp) : 192 ≤ sp := groupSpares_ge (List.mem_of_find?_eq_some h)

/-- A channel that a spare serves. -/
theorem connectSpare_service (s : State) {c sp : Nat} (hne : c ≠ sp) : ∃ st, service (fe (connectSpare s c sp) c) = (some sp, (fe s c).failed, false, false, st)
    ∧ (fe (connectSpare s c sp) sp).link = some c := by
  unfold connectSpare
  dsimp only
  generalize hst : (if (!factoryOk s sp) = true then FeState.failed else if modeOf s c = 0 then FeState.unarmed else FeState.armed) = st
  generalize hs1 : modFe s c _ = s1
  have h1 : service (fe s1 c) = (some sp, (fe s c).failed, false, false, st) := by rw [← hs1, fe_modFe]; rfl
  have h2 := service_of_gate (refresh_gateOnly (modFe s1 sp (fun f => { f with link := some c })) c)
  have hc := h2 c
  rw [fe_modFe_ne _ _ hne, h1] at hc
  have hsp : (fe (refresh (modFe s1 sp (fun f => { f with link := some c })) c) sp).link = some c :=
    (congrArg Prod.fst (h2 sp) : _ = (fe (modFe s1 sp (fun f => { f with link := some c })) sp).link).trans
      (congrArg FrontEnd.link (fe_modFe s1 sp (fun f => { f with link := some c })) :)
  generalize refresh (modFe s1 sp (fun f => { f with link := some c })) c = s2 at hc hsp ⊢
  refine ⟨st, ?_, ?_⟩
  · rw [fe_modFe]
    exact hc
  · rw [fe_modFe_ne _ _ hne.symm]
    exact hsp

/-- No bring-in runs any more. -/
def bringInOver (s : State) : State := { s with spr := { s.spr with feBusy := none } }

/-- What a completed bring-in makes of the state. -/
def broughtIn (s : State) (c sp : Nat) : State := post (sprouted (connectSpare (bringInOver s) c sp)) .chSprouted c c sp 0

/-- The state after a completed bring-in. -/
def bringInDone (s : State) (c sp : Nat) : State := dropUnserved (concludeAll (broughtIn s c sp) (sproutCommand c) .ok 0 (fun _ _ => []))

theorem exec_sproutComplete_spare {s : State} {c sp : Nat} (hb : s.spr.feBusy = some c) (hsp : freeSpare s c = some sp) :
    exec .sproutComplete s = .next (bringInDone s c sp) := by
  change execSproutComplete s = _
  unfold execSproutComplete
  rw [hb]
  dsimp only
  rw [show freeSpare { s with spr := { s.spr with feBusy := none } } c = some sp from hsp]
  rfl

/-- A bring-in that ends. -/
def bringInEnded (s : State) (c : Nat) : State :=
  modFe (bringInOver s) c (fun f => { f with sprouting := false })

/-- A bring-in for which no spare is left. -/
def notBroughtIn (s : State) (c : Nat) : State := refresh (exhausted (failChannel (bringInEnded s c) c) 0) c

theorem exec_sproutComplete_none {s : State} {c : Nat} (hb : s.spr.feBusy = some c) (hsp : freeSpare s c = none) :
    exec .sproutComplete s = .next (dropUnserved (notBroughtIn s c)) := by
  change execSproutComplete s = _
  unfold execSproutComplete
  rw [hb]
  dsimp only
  rw [show freeSpare { s with spr := { s.spr with feBusy := none } } c = none from hsp]
  rfl

theorem notBroughtIn_gateOnly (s : State) (c : Nat) : gateOnly (failChannel (bringInEnded s c) c) (dropUnserved (notBroughtIn s c)) :=
  keepsOn.trans (keepsOn.trans (exhausted_gateOnly _ 0) (refresh_gateOnly _ c)) (dropUnserved_gateOnly (notBroughtIn s c))

theorem notBroughtIn_service (s : State) (c : Nat) :
    service (fe (dropUnserved (notBroughtIn s c)) c) = ((fe s c).link, (fe s c).failed, true, false, .failed) := by
  rw [service_of_gate (notBroughtIn_gateOnly s c) c, fe_failChannel, bringInEnded, fe_modFe]
  rfl

theorem notBroughtIn_busy (s : State) (c : Nat) : (dropUnserved (notBroughtIn s c)).spr.feBusy = none := by
  rw [dropUnserved_busy, notBroughtIn, (refresh_changes _ _).spr_eq, (exhausted_changes _ _).spr_eq]
  rfl

/-- A bring-in that starts. -/
def bringInStarted (s : State) (c : Nat) : State :=
  modFe { s with spr := { s.spr with feBusy := some c, feQueue := s.spr.feQueue.filter (fun p => p.1 ≠ c) } } c
    (fun f => { f with sprouting := true, broken := true, lastGood := false, state := .unarmed, feDemand := 0 })

theorem exec_sproutStart {s : State} {c : Nat} (hb : s.spr.feBusy = none) (hc : nextSprout s = some c) :
    exec .sproutStart s = .next (refresh (bringInStarted s c) c) := by
  change execSproutStart s = _
  unfold execSproutStart
  rw [hb, if_neg (by decide), hc]
  rfl

/-- The end of a spare's self-test leaves no claim for it. -/
theorem endClaim_none (s : State) (p : Purpose) : ∀ x ∈ (endClaim s p).grd.claims, x.purpose ≠ p := fun _ hx =>
  of_decide_eq_true (List.mem_filter.mp hx).2

theorem writeSproutRecord_claims (s : State) : (writeSproutRecord s).grd.claims = s.grd.claims := by
  have hreq (t : State) (r : Request) : keepsOn State.grd (·.claims) t (requestC2 t r) :=
    .ite .same (.ite (.after (nvWrite_changes _ _).grd_eq .same) .same)
  exact keepsOn.trans (.ite (.after (nvWrite_changes _ _).grd_eq .same) .same) (hreq _ _)

/-- What follows the work of a bring-in changes the grant gates of the channels only. -/
theorem bringInDone_gateOnly (s : State) (c sp : Nat) : gateOnly (connectSpare (bringInOver s) c sp)
    (bringInDone s c sp) :=
  keepsOn.trans (.after (concludeAll_changes _ _ _ _ _).fch_eq <| .after (post_changes _ _ _ _ _ _).fch_eq <|
    .after (sprouted_changes _).fch_eq .same) (dropUnserved_gateOnly _)

theorem bringInDone_busy (s : State) (c sp : Nat) :
    (bringInDone s c sp).spr.feBusy = none := by
  rw [bringInDone, dropUnserved_busy, (concludeAll_changes _ _ _ _ _).spr_eq, broughtIn, (post_changes _ _ _ _ _ _).spr_eq, sprouted_busy,
    (connectSpare_changes _ _ _).spr_eq]
  rfl

/-- What follows the flag of a bring-in. -/
def broughtInAreas : List Area :=
  [.unit .exe, .unit .fch, .unit .grd, .unit .spr, .unit .cmd, .unit .net, .unit .sbk, .unit .sup, .ctr Reg.grdSnapRef, .ctr Reg.sprSnapSprouts,
   .flag Reg.cmdFlags 4, .flag Reg.grdFlags 1, .flag Reg.grdFlags 3, .flag Reg.sprFlags 2, .codeFlag .ok]

theorem bringInDone_flagged (s : State) (c sp : Nat) :
    flagged s (bringInDone s c sp) Reg.sprFlags 0 := by
  refine flaggedAt_of_raise (w := broughtInAreas) (by decide) ?_ (.after (dropUnserved_changes _) <| .after (concludeAll_changes _ _ _ _ _) <|
    .after (post_changes _ _ _ _ _ _) <| .after (writeSproutRecord_changes _) <| .after (countUp_changes _ _ _) .same)
  exact (connectSpare_changes _ c sp).counter_eq rfl 0

theorem bringInDone_serves {s : State} {c sp : Nat} (hsp : 192 ≤ sp) (hc : c < 192) : (bringInDone s c sp).spr.feBusy = none
    ∧ (fe (bringInDone s c sp) c).link = some sp ∧ (fe (bringInDone s c sp) sp).link = some c ∧ (fe (bringInDone s c sp) c).failed = (fe s c).failed
    ∧ (fe (bringInDone s c sp) c).broken = false ∧ (fe (bringInDone s c sp) c).sprouting = false ∧ flagged s (bringInDone s c sp) Reg.sprFlags 0 := by
  have hne : c ≠ sp := fun h => by omega
  obtain ⟨st, hs, hlink⟩ := connectSpare_service (bringInOver s) hne
  have hserv := (service_of_gate (bringInDone_gateOnly s c sp) c).trans hs
  have hl := service_of_gate (bringInDone_gateOnly s c sp) sp
  have hbusy := bringInDone_busy s c sp
  have hflag := bringInDone_flagged s c sp
  have hfree : (fe (bringInOver s) c).failed = (fe s c).failed := rfl
  rw [hfree] at hserv
  generalize bringInDone s c sp = t at hserv hl hbusy hflag ⊢
  generalize connectSpare (bringInOver s) c sp = u at hl hlink
  injection hl with hl
  injection hserv with hlinked hrest
  injection hrest with hfailed hrest
  injection hrest with hbroken hrest
  injection hrest with hsprouting
  exact ⟨hbusy, hlinked, hl.trans hlink, hfailed, hbroken, hsprouting, hflag⟩

/-- What the end of a spare's self-test leaves. -/
theorem exec_spareSelftest (n : Fin 24) (pass : Bool) (s : State) : ∃ t, exec (.spareSelftest n pass) s = .next t
    ∧ (∀ x ∈ t.grd.claims, x.purpose ≠ .spareSelftest (192 + n.val))
    ∧ (fe t (192 + n.val)).broken = ((fe s (192 + n.val)).broken || (!pass && (fe s (192 + n.val)).link.isNone)) := by
  have hfe : fe (endClaim s (.spareSelftest (192 + n.val))) (192 + n.val) = fe s (192 + n.val) := fe_congr (endClaim_changes _ _).fch_eq _
  change ∃ t, execSpareSelftest n pass s = .next t ∧ _
  unfold execSpareSelftest
  dsimp only
  split
  · next h =>
    refine ⟨_, rfl, endClaim_none _ _, ?_⟩
    rw [hfe]
    cases pass <;> cases hl : (fe s (192 + n.val)).link <;> simp_all
  · next h =>
    refine ⟨_, rfl, fun x hx => ?_, ?_⟩
    · rw [writeSproutRecord_claims] at hx
      exact endClaim_none s _ x hx
    rw [fe_congr (writeSproutRecord_changes _).fch_eq, fe_modFe]
    cases pass <;> cases hl : (fe s (192 + n.val)).link <;> simp_all

/-- Settles O23: what follows a failure or a bring-in leaves the front-end's service. -/
theorem frontEndFailuresAndBringIns : Obligations.FrontEndFailuresAndBringIns := by
  refine ⟨fun n s hn hl => ⟨_, rfl, ?_⟩, fun n s hn hb => ⟨_, rfl, ?_⟩, fun s c hb hc => ⟨_, exec_sproutStart hb hc, ?_⟩,
    fun s c sp hb hsp hc => ⟨_, exec_sproutComplete_spare hb hsp, ?_⟩, fun s c hb hsp => ⟨_, exec_sproutComplete_none hb hsp, notBroughtIn_busy s c, ?_⟩,
    fun n pass s => ?_⟩
  · unfold feFailure
    rw [if_pos ⟨hn, by rw [hl]; rfl⟩]
    split
    · assumption
    · rw [fe_congr (writeSproutRecord_changes _).fch_eq, fe_modFe]
  · obtain ⟨failed, hs⟩ := feFailure_service hn hb
    have hbroken : (fe (feFailure s n.val) n.val).broken = true := (congrArg (fun x => x.2.2.1) hs :)
    have hsprouting : (fe (feFailure s n.val) n.val).sprouting = (fe s n.val).sprouting := (congrArg (fun x => x.2.2.2.1) hs :)
    refine ⟨hbroken, fun hsp hp => fchStat_bit _ _ _ (by decide) ?_, (congrArg (fun x => x.2.2.2.2) hs :), (congrArg Prod.fst hs :), feFailure_role hn hb⟩
    rw [channelOf_channel _ hn]
    exact channelStatus_failed hp (by rw [hbroken, hsprouting, hsp]; exact Bool.or_true _)
  · have hfe : service (fe (bringInStarted s c) c) = ((fe s c).link, (fe s c).failed, true, true, .unarmed) := by rw [bringInStarted, fe_modFe]; rfl
    have hs := (service_of_gate (refresh_gateOnly (bringInStarted s c) c) c).trans hfe
    have hspr : (refresh (bringInStarted s c) c).spr = { s.spr with feBusy := some c, feQueue := s.spr.feQueue.filter (fun p => p.1 ≠ c) } :=
      (refresh_changes _ _).spr_eq
    rw [hspr]
    exact ⟨rfl, (congrArg (fun x => x.2.2.2.1) hs :), (congrArg (fun x => x.2.2.2.2) hs :), fun p hp => of_decide_eq_true (List.mem_filter.mp hp).2⟩
  · exact bringInDone_serves (freeSpare_ge hsp) hc
  · have hs := notBroughtIn_service s c
    exact ⟨(congrArg (fun x => x.2.2.1) hs :), (congrArg (fun x => x.2.2.2.2) hs :), (congrArg (fun x => x.2.2.2.1) hs :)⟩
  · exact exec_spareSelftest n pass s

end Sys2Proof
end
